-- ==== Sys2Proof/Word.lean ====
section
/-!
DEFINITION. The plain data types every layer uses: bytes, binary32 patterns, sparse byte memories, quality codes.
-/

namespace Sys2Proof

/-- One byte of a slot, an image or a log record. -/
abbrev Byte := BitVec 8

/-- A binary32 pattern (R5: values in engineering units are IEEE 754 binary32). -/
abbrev F32 := BitVec 32

/-- A sparse byte memory: pairs of address and byte, addresses strictly rising, no byte equal to zero; an address
that is not listed reads zero. -/
abbrev Mem := List (Nat × BitVec 8)

/-- Quality of a value (Table 05.14a). -/
inductive Quality where
  | good | calLoad | budgetHeld | compliance | suspect | settling | overRange | underRange | open_ | disabled | sourceFault
  | stale
deriving DecidableEq, Repr

end Sys2Proof
end

