-- ==== Sys2Proof/Syntax.lean ====
section
/-!
DEFINITION. The commands of the node: one constructor per row of the opcode table, and the operands they carry. Every
command but the frame tick carries `t`, the local time in ns at which it comes.
-/

namespace Sys2Proof

/-- Kinds of irregular SPI transaction (R56). -/
inductive SpiErrKind where
  | unknownCommand | shortAddress | outsideWrite
deriving DecidableEq, Repr

/-- What a debugger's write to space 3 asks for (R439): the spec does not give the coding of its words, so the operand says it.
Processors are 0 the supervisor, 1 and 2 the frame processors. -/
inductive DbgCtl where
  | halt (cpu : Nat)
  | step (cpu : Nat)
  | resume (cpu : Nat)
  | reset
  /-- provisioning by Seluik, with the device certificate to store (R424) -/
  | provision (cert : List Byte)
deriving DecidableEq, Repr

/-- What a channel measures at a capture. Raw numbers stand at ±2^30 for the full scale, before calibration (R146). -/
structure ChIn where
  /-- filter output; for an output the read-back (R189) -/
  raw : Int := 0
  /-- 32 kS/s stream since the last capture, oldest first: the crossing stream (R128), or stage-1 samples (R159) -/
  stream : List Int := []
  /-- wire-break windows since the last capture, oldest first: the resistance in Ω that the test current sees (R136), the mean
  current in µA of a current input (R137) -/
  wins : List Int := []
  /-- land A, land B and the adaptive supply, mV to BKb_COM; read-back current, µA -/
  vA : Int := 0
  vB : Int := 0
  vs : Nat := 0
  rb : Int := 0
  /-- a V_OUT_10 driver stands in its current limit -/
  lim : Bool := false
deriving DecidableEq, Repr

/-- A read transaction of a frame image window that runs over a tick: none, one that started since the tick before in the LIVE
window, or in the HELD window at a local time, or the one that ran over the tick before and goes on (R38, R39). -/
inductive TickRead where
  | none | live
  | held (since : Nat)
  | goesOn
deriving DecidableEq, Repr

/-- The tick at which STANDBY is entered: its instant, and the read transaction that runs over it. -/
structure EntryIn where
  t : Nat
  read : TickRead := .none
deriving DecidableEq, Repr

/-- The end of a commit churn: its instant, and whether the hardware failed the operation (Table 03.21, step 6). -/
structure ChurnIn where
  t : Nat
  failed : Bool := false
deriving DecidableEq, Repr

/-- A bus error that a controller found (R290): its code of Table 11.16 and phase, whether the controller was the transmitter,
and by how much ISO 11898-1 raises the counter of that side. -/
structure BusErr where
  bus : Nat := 0
  code : Nat := 0
  dataPhase : Bool := false
  tx : Bool := false
  up : Nat := 0
deriving DecidableEq, Repr

/-- What the node captures at a tick (step 1 of Table 01.3). -/
structure TickIn where
  chans : List ChIn := []
  /-- land voltage of each DI, mV -/
  di : List Nat := []
  /-- currents of the AOs and of the relay coil, mA, and the land voltage of each AO, mV -/
  ao : List Nat := []
  aoMv : List Nat := []
  nokMa : Nat := 0
  /-- measurements of the power management block (R370, R376, R382) -/
  vshipMv : Nat := 0
  holdMv : Nat := 0
  inMw : Nat := 0
  dissMw : Nat := 0
  inMa : Nat := 0
  chargeMa : Nat := 0
  chargeMw : Nat := 0
  /-- case temperature and module temperature, 1/16 °C -/
  caseT : Int := 0
  moduleT : Int := 0
  /-- bus load of each controller, percent -/
  busLoad : List Nat := []
  /-- bus errors since the last tick, in their order -/
  busErrs : List BusErr := []
  /-- the read transaction of a window that runs over the tick (R38, R39) -/
  read : TickRead := .none
deriving DecidableEq, Repr

/-- Housekeeping of a bank (Table 04.11). -/
structure House where
  /-- temperatures in 1/16 °C -/
  temp : Int := 0
  cj : Int := 0
  dissMw : Nat := 0
  /-- supply output, 10 mV and 50 µA -/
  outV : Nat := 0
  outI : Nat := 0
deriving DecidableEq, Repr

/-- An upstream link frame as received (Table 05.2): a code or disparity error, groups 1, 2–44 and 45–46. The spec does not code
the housekeeping stream of groups 42–44: `house` is the set of measurements whose last part stands in the frame. -/
structure UpFrame where
  err : Bool
  seq : Nat
  body : List Byte
  crc : Nat
  house : Option House
deriving DecidableEq, Repr

/-- A downstream link frame as received (Table 05.3): a code or disparity error, groups 1, 2–3 and 4–5. The spec does not code the
message stream: `begins` says that the first part of a frame command block stands in the frame, `block` that its last part
does, with the frame sequence that closes it; `reconfig` that a configuration of the bank ends in it. -/
structure DownFrame where
  err : Bool
  seq : Nat
  body : List Byte
  crc : Nat
  begins : Bool
  block : Option Nat
  reconfig : Bool
deriving DecidableEq, Repr

/-- What the insulation monitor integrates over a period (R112 to R114): means of windows 1 and 2 of bank-to-hull
voltage (V), generator current (A) and channel currents (A), charge of the edge (C), largest difference between the
halves of a window (A), largest departure of 50 ms or more between the windows (A), regulation lost, and the slot whose
edges its steps coincide with. -/
structure InsulIn where
  v1 : F32
  v2 : F32
  i1 : F32
  i2 : F32
  ich1 : List F32
  ich2 : List F32
  qEdge : F32
  half : F32
  depart : F32
  regLost : Bool
  stepSlot : Option Nat
deriving DecidableEq, Repr

/-- A zero crossing of `MAINS_REF` as its converter sees it (R129): two samples `step` ns apart, the second at the instant of the
command, `before` below zero and `after` above, and the amplitude in mV rms. -/
structure MainsIn where
  before : Nat
  after : Nat
  step : Nat
  rms : Nat
deriving DecidableEq, Repr

/-- The readings of an `RTD_3W` channel at the two sides of an exchange of its sources (R156). -/
structure ExchIn where
  before : Int
  after : Int
deriving DecidableEq, Repr

/-- The commands and events of the node: one constructor per row of the opcode table. -/
inductive Instr where
  /-- `HOST_REG_WRITE` (R57): A host write to a register, calendar register or request slot that has no row of its own takes effect, whole word at a time for registers (W1C bits cleared) or byte by byte for slots and calendar registers. -/
  | hostRegWrite (t : Nat) (addr : Nat) (data : List Byte)
  /-- `SPI_ERR` (R56): An irregular SPI transaction (unknown command, short address phase or write outside the writable ranges) is ignored and sets SPI_ERR. -/
  | spiErr (t : Nat) (kind : SpiErrKind)
  /-- `DOORBELL` (R63): A tag written to HP_DOORBELL copies its request slot, marks the response PENDING and queues the tag, or sets DOORBELL_ERR if refused. -/
  | doorbell (t : Nat) (tag : Nat)
  /-- `HP_DONE` (R63): Writing 1 to a tag's HP_DONE bit clears it and returns the tag to FREE. -/
  | hpDone (t : Nat) (tag : Nat)
  /-- `HOLD_REQ` (R40): Writing REQ to HP_HOLD requests a hold, or a move of an existing hold to the next LIVE page. -/
  | holdReq (t : Nat)
  /-- `HOLD_REL` (R40): Writing REL to HP_HOLD cancels a pending request or releases the held page. -/
  | holdRel (t : Nat)
  /-- `KICK` (R82): A write to the host watchdog KICK field restarts the timeout and toggles EXPECT when it carries the expected value. -/
  | kick (t : Nat) (v : Nat)
  /-- `RTC_SEC_READ` (R335): A read of RTC_SEC copies the whole calendar into the snapshot registers at one BKP cycle. -/
  | rtcSecRead (t : Nat)
  /-- `SET` (R336): Writing SET in RTC_CTRL validates the staging registers and makes them a pending set for the next second boundary, or sets DATE_ERR. -/
  | rtcSetCmd (t : Nat)
  /-- `CANCEL` (R336): Writing CANCEL in RTC_CTRL removes a pending set and a pending summer-time command. -/
  | rtcCancel (t : Nat)
  /-- `DST_FWD` (R340): Writing DST_FWD validates and pends an advance of one hour with DST set at the next second boundary. -/
  | dstFwd (t : Nat)
  /-- `DST_BACK` (R340): Writing DST_BACK validates and pends a retreat of one hour with DST cleared at the next second boundary. -/
  | dstBack (t : Nat)
  /-- `TRIM` (R341): A write to RTC_TRIM sets the aging trim, clamped to plus or minus 20,000. -/
  | trim (t : Nat) (v : Nat)
  /-- `RTC_WAKE_WRITE` (R345): A write to RTC_WAKE setting WAKE_EN or INTERVAL restarts the periodic wake count. -/
  | rtcWakeWrite (t : Nat) (w : Nat)
  /-- `FRAME_TICK` (R30): At each frame tick the node captures all inputs and runs linearisation, blends, weirs, state transitions, grants and output commands, and makes the written page LIVE. -/
  | frameTick (inp : TickIn)
  /-- `HOLD_EXPIRED` (R40): A hold whose timer has reached 1 s is dropped at the next tick and HOLD_EXPIRED is set. -/
  | holdExpired (t : Nat)
  /-- `FRAME_SLIP` (R50): At the compute deadline an unfinished frame slips: nothing is published, outputs hold, state is discarded and the slip is counted and logged. -/
  | frameSlip (t : Nat)
  /-- `SYS_INFO` (R70): Returns the part, grade, lifecycle, firmware, node ID, unique ID, epochs, state, profile and reset cause. -/
  | sysInfo (t : Nat) (tag : Nat)
  /-- `SYS_FORWARD` (R80): Sends one inner culvert to another node over the bus and completes with its response or a transport abort. -/
  | sysForward (t : Nat) (tag : Nat)
  /-- `FORWARD_TIMEOUT` (R80): A forwarded culvert with no response within its timeout completes with ABORTED, detail 1. -/
  | forwardTimeout (t : Nat)
  /-- `SYS_ARM` (R397): Moves the node from SAFE to ARMED unless a FULL debug session, a recent slip or low hold-up energy forbids it. -/
  | sysArm (t : Nat) (tag : Nat)
  /-- `SYS_SAFE` (R397): Puts the node in SAFE, or makes STARTING end in SAFE instead of ARMED. -/
  | sysSafe (t : Nat) (tag : Nat)
  /-- `SYS_RESET` (R459): With the right word and outside ARMED, sends GOING_DOWN, darkens the node-not-live cell, flushes and resets the node. -/
  | sysReset (t : Nat) (tag : Nat)
  /-- `CFG_OPEN` (R70): Opens the single draft from the committed image, a flash slot or empty, owned by the requesting origin. -/
  | cfgOpen (t : Nat) (tag : Nat)
  /-- `CFG_COMMIT` (R72): Checks epoch, draft, claims and budget, then waits for energy to churn and apply the draft. -/
  | cfgCommit (t : Nat) (tag : Nat)
  /-- `DRY_RUN` (R74): CFG_COMMIT with DRY_RUN runs commit steps 1 to 4 and reports claims, budget and energy without applying. -/
  | dryRun (t : Nat) (tag : Nat)
  /-- `COMMIT_ENERGY_MET` (R72): A waiting commit finds usable hold-up energy less reserve covering its churn and margin, assigns epochs and starts its churn. -/
  | commitEnergyMet (t : Nat)
  /-- `ENERGY_REFUSED` (R72): A commit or other energy-waiting request that has waited 5 s without energy completes with ENERGY_REFUSED. -/
  | energyRefused (t : Nat)
  /-- `COMMIT_CHURN` (R73): The commit churn of the draft and its pail into the inactive MRAM copy completes and the commit awaits its tick. -/
  | commitChurn (e : ChurnIn)
  /-- `CONFIG_APPLIED` (R44): At the next tick ending a published frame the new configuration applies, the copy selector is written and the draft closes. -/
  | configApplied (t : Nat)
  /-- `PROFILE_CHANGE` (R29): A committed profile applies at the first tick on both grids, restarting settling and freezing affected weirs. -/
  | profileChange (t : Nat)
  /-- `CFG_DISCARD` (R75): Discards the draft, ending a commit still waiting for energy with ABORTED detail 3. -/
  | cfgDiscard (t : Nat) (tag : Nat)
  /-- `CFG_READ` (R492): Returns bytes of the committed or draft image from an offset, with the image length. -/
  | cfgRead (t : Nat) (tag : Nat)
  /-- `CFG_LOAD` (R492): Writes raw bytes into the draft image at an offset. -/
  | cfgLoad (t : Nat) (tag : Nat)
  /-- `CFG_STORE` (R70): Stores the committed or draft image into a flash image slot. -/
  | cfgStore (t : Nat) (tag : Nat)
  /-- `DRAFT_TIMEOUT` (R71): A draft without a request from its owner for 60 s is discarded and logged. -/
  | draftTimeout (t : Nat)
  /-- `CHAN_SET` (R181): Replaces a channel table entry in the draft. -/
  | chanSet (t : Nat) (tag : Nat)
  /-- `CHAN_CAL` (R182): Runs a field calibration step of a channel's function and range: measure, compute, clear or offset only. -/
  | chanCal (t : Nat) (tag : Nat)
  /-- `CAL_MEASURE_END` (R182): The 1 s averaging of a calibration step ends and the step completes or fails with HW_FAULT. -/
  | calMeasureEnd (t : Nat)
  /-- `CALIBRATION_CHURN` (R148): A field calibration record is churned to MRAM when energy allows and applies at the next tick. -/
  | calibrationChurn (t : Nat)
  /-- `CHAN_GET` (R180): Returns a channel table entry of the committed or draft image. -/
  | chanGet (t : Nat) (tag : Nat)
  /-- `CHAN_CHARGE_RESET` (R183): Resets a CHARGE channel's amplifier at the next tick. -/
  | chanChargeReset (t : Nat) (tag : Nat)
  /-- `CHAN_INSUL_READ` (R180): Returns a bank's insulation record. -/
  | chanInsulRead (t : Nat) (tag : Nat)
  /-- `CHAN_CAL_READ` (R180): Returns a channel calibration record from the chosen area. -/
  | chanCalRead (t : Nat) (tag : Nat)
  /-- `CHAN_CURVE_LOAD` (R181): Copies a user curve library slot into the draft's curve table. -/
  | chanCurveLoad (t : Nat) (tag : Nat)
  /-- `CHAN_CURVE_STORE` (R181): Writes a curve to the flash library as a churn. -/
  | chanCurveStore (t : Nat) (tag : Nat)
  /-- `CHAN_VIB_CAPTURE` (R184): Starts recording 4,096 stage-1 samples of one vibration channel at a given tick. -/
  | chanVibCapture (t : Nat) (tag : Nat)
  /-- `VIB_CAPTURE_DONE` (R184): The last capture sample is recorded and the capture culvert completes. -/
  | vibCaptureDone (t : Nat) (samples : List Int)
  /-- `CHAN_VIB_READ` (R184): Returns samples from the vibration capture buffer. -/
  | chanVibRead (t : Nat) (tag : Nat)
  /-- `CHAN_OUT_SET` (R211): Stores a culvert set point for an output channel with source kind 0. -/
  | chanOutSet (t : Nat) (tag : Nat)
  /-- `CHAN_OUT_STATUS` (R210): Returns an output's command, read-back, headroom, dissipation, set point and quality. -/
  | chanOutStatus (t : Nat) (tag : Nat)
  /-- `CHAN_FSK_XFER` (R210): Queues one FSK transaction on a current channel's bank modem. -/
  | chanFskXfer (t : Nat) (tag : Nat)
  /-- `CHAN_FSK_BURST` (R211): Starts, stops or reads burst listening on a channel. -/
  | chanFskBurst (t : Nat) (tag : Nat)
  /-- `BLEND_SET` (R239): Replaces a blend table entry in the draft. -/
  | blendSet (t : Nat) (tag : Nat)
  /-- `WEIR_SET` (R239): Replaces a weir table entry in the draft. -/
  | weirSet (t : Nat) (tag : Nat)
  /-- `WEIR_ACK` (R230): Acknowledges one weir in the frame it applies to. -/
  | weirAck (t : Nat) (tag : Nat)
  /-- `WEIR_SHELVE` (R231): Shelves a weir for a duration up to its limit, or unshelves it with 0. -/
  | weirShelve (t : Nat) (tag : Nat)
  /-- `WEIR_SERVICE` (R239): Takes a weir out of service or returns it to service. -/
  | weirService (t : Nat) (tag : Nat)
  /-- `BLEND_GET` (R238): Returns a blend table entry. -/
  | blendGet (t : Nat) (tag : Nat)
  /-- `WEIR_GET` (R238): Returns a weir table entry. -/
  | weirGet (t : Nat) (tag : Nat)
  /-- `WEIR_STATUS` (R238): Returns a weir's record, crossing time, shelve time, raw condition and source. -/
  | weirStatus (t : Nat) (tag : Nat)
  /-- `BLEND_TOTAL_RESET` (R239): Returns a TOTAL slot to 0.0 and reports the total reached. -/
  | blendTotalReset (t : Nat) (tag : Nat)
  /-- `GROUP_SET` (R263): Replaces a group table entry in the draft. -/
  | groupSet (t : Nat) (tag : Nat)
  /-- `GROUP_ACK` (R246): Acknowledges every member of a group. -/
  | groupAck (t : Nat) (tag : Nat)
  /-- `GROUP_GET` (R263): Returns a group table entry. -/
  | groupGet (t : Nat) (tag : Nat)
  /-- `FO_SET` (R263): Replaces a first-out set entry in the draft. -/
  | foSet (t : Nat) (tag : Nat)
  /-- `FO_RESET` (R251): Resets a decided first-out set, via the home node for a network set. -/
  | foReset (t : Nat) (tag : Nat)
  /-- `FO_STATUS` (R263): Returns a first-out record and its window end. -/
  | foStatus (t : Nat) (tag : Nat)
  /-- `CALL_SET` (R263): Replaces a call chain entry in the draft. -/
  | callSet (t : Nat) (tag : Nat)
  /-- `ROSTER_SET` (R263): Replaces a roster or dead-man entry in the draft. -/
  | rosterSet (t : Nat) (tag : Nat)
  /-- `CALL_ACCEPT` (R257): Accepts a calling chain, silencing it for the accept period. -/
  | callAccept (t : Nat) (tag : Nat)
  /-- `CALL_STATUS` (R263): Returns a chain's state, escalation time, duty members and dead-man state. -/
  | callStatus (t : Nat) (tag : Nat)
  /-- `DUTY_HANDOVER` (R260): Requests, confirms or cancels a duty handover. -/
  | dutyHandover (t : Nat) (tag : Nat)
  /-- `DEADMAN` (R261): Arms, resets or disarms the dead-man timer. -/
  | deadman (t : Nat) (tag : Nat)
  /-- `POS_SET` (R285): Replaces an encoder table entry in the draft. -/
  | posSet (t : Nat) (tag : Nat)
  /-- `POS_GET` (R285): Returns an encoder table entry. -/
  | posGet (t : Nat) (tag : Nat)
  /-- `POS_REBASE` (R271): Requests a rebase of an encoder channel at the next tick. -/
  | posRebase (t : Nat) (tag : Nat)
  /-- `POS_CMP_ARM` (R277): Arms a PULSE compare unit with a first point, spacing, count and direction. -/
  | posCmpArm (t : Nat) (tag : Nat)
  /-- `POS_CMP_STOP` (R283): Disarms a compare unit and reports the pulses fired. -/
  | posCmpStop (t : Nat) (tag : Nat)
  /-- `POS_LATCH_READ` (R279): Reads, and optionally drains, entries of an encoder latch FIFO. -/
  | posLatchRead (t : Nat) (tag : Nat)
  /-- `BUS_CTRL_SET` (R329): Replaces a controller or network entry in the draft. -/
  | busCtrlSet (t : Nat) (tag : Nat)
  /-- `BUS_OBJ_SET` (R329): Replaces a bus object entry in the draft. -/
  | busObjSet (t : Nat) (tag : Nat)
  /-- `BUS_OBJ_GET` (R329): Returns a bus object entry. -/
  | busObjGet (t : Nat) (tag : Nat)
  /-- `BUS_OBJ_SEND` (R330): Sends a transmitting object with the last published values and completes on transmission. -/
  | busObjSend (t : Nat) (tag : Nat)
  /-- `BUS_RECOVER` (R330): Starts bus-off recovery of a controller in BUS_OFF at once. -/
  | busRecover (t : Nat) (tag : Nat)
  /-- `BUS_NODES` (R329): Returns the present-node map and last states heard on a bus. -/
  | busNodes (t : Nat) (tag : Nat)
  /-- `BUS_VALUES` (R329): Returns a range of bus values with quality, sender and age. -/
  | busValues (t : Nat) (tag : Nat)
  /-- `TIME_GET` (R350): Returns a calendar snapshot, zone, time state and RTC status. -/
  | timeGet (t : Nat) (tag : Nat)
  /-- `TIME_SET` (R350): Sets the UTC count, zone and DST at the next second boundary. -/
  | timeSet (t : Nat) (tag : Nat)
  /-- `TIME_DST` (R350): Commands a summer-time change forward or back. -/
  | timeDst (t : Nat) (tag : Nat)
  /-- `TIME_TRIM` (R350): Sets the calendar trim and AUTO_TRIM. -/
  | timeTrim (t : Nat) (tag : Nat)
  /-- `TIME_WAKE` (R350): Sets the periodic wake interval, or disables it. -/
  | timeWake (t : Nat) (tag : Nat)
  /-- `TIME_EVT_SET` (R350): Sets an event input's configuration. -/
  | timeEvtSet (t : Nat) (tag : Nat)
  /-- `TIME_EVT_STATUS` (R350): Returns an event input's status. -/
  | timeEvtStatus (t : Nat) (tag : Nat)
  /-- `LOG_READ` (R364): Returns log records from a sequence number, or OVERWRITTEN with the surviving span. -/
  | logRead (t : Nat) (tag : Nat)
  /-- `LOG_PAIL_READ` (R366): Returns records still in the pails. -/
  | logPailRead (t : Nat) (tag : Nat)
  /-- `LOG_WRITE` (R367): Enters a LOG_NOTE record into a pail. -/
  | logWrite (t : Nat) (tag : Nat)
  /-- `LOG_CLEAR` (R367): Waits for energy, then empties the pails and erases records below the next sequence in segments. -/
  | logClear (t : Nat) (tag : Nat)
  /-- `LOG_CLEAR_SEGMENT` (R20): One 512-slot segment of a log clear or MRAM erasure completes; after the last, LOG_CLEARED is entered. -/
  | logClearSegment (t : Nat)
  /-- `PWR_SET` (R396): Replaces a power budget entry in the draft. -/
  | pwrSet (t : Nat) (tag : Nat)
  /-- `PWR_GET` (R396): Returns a power budget entry. -/
  | pwrGet (t : Nat) (tag : Nat)
  /-- `PWR_HOLD_TEST` (R397): Requests a CHOLD step test and completes with its result. -/
  | pwrHoldTest (t : Nat) (tag : Nat)
  /-- `PWR_STANDBY` (R397): Completes OK and puts the node in STANDBY at the next tick, with a standby dwell. -/
  | pwrStandby (t : Nat) (tag : Nat)
  /-- `STANDBY_ENTRY` (R389): At the tick after PWR_STANDBY or dwell expiry, banks, buses and frames stop and the node is STANDBY. -/
  | standbyEntry (e : EntryIn)
  /-- `PWR_WAKE` (R397): Wakes the node from STANDBY into STARTING. -/
  | pwrWake (t : Nat) (tag : Nat)
  /-- `DISP_SET` (R421): Replaces a display region or panel entry in the draft. -/
  | dispSet (t : Nat) (tag : Nat)
  /-- `DISP_WAVE_SET` (R421): Replaces a waveform entry in the draft. -/
  | dispWaveSet (t : Nat) (tag : Nat)
  /-- `DISP_UPDATE` (R422): Queues a region update request for named cells, merging with an overlapping waiting request. -/
  | dispUpdate (t : Nat) (tag : Nat)
  /-- `DISP_REFRESH` (R422): Queues a request to drive every cell of a region to its shown state. -/
  | dispRefresh (t : Nat) (tag : Nat)
  /-- `DISP_STATUS` (R421): Returns the display record. -/
  | dispStatus (t : Nat) (tag : Nat)
  /-- `SEC_STATUS` (R444): Returns lifecycle, fused version, owner key hashes and session state. -/
  | secStatus (t : Nat) (tag : Nat)
  /-- `SEC_ID_KEY` (R444): Returns the identity public key and Seluik device certificate. -/
  | secIdKey (t : Nat) (tag : Nat)
  /-- `SEC_ATTEST` (R444): Signs a challenge with the device identity key. -/
  | secAttest (t : Nat) (tag : Nat)
  /-- `SEC_OWNER_KEY` (R427): Installs, replaces or revokes an owner key slot. -/
  | secOwnerKey (t : Nat) (tag : Nat)
  /-- `SEC_BUS_KEY` (R428): Writes an encrypted bus key slot, effective at the tick after its churn. -/
  | secBusKey (t : Nat) (tag : Nat)
  /-- `SEC_FIELD` (R424): Moves a PROVISIONED node to FIELDED, optionally blowing REQUIRE_OWNER_SIG. -/
  | secField (t : Nat) (tag : Nat)
  /-- `SEC_RETURN` (R424): Moves a FIELDED node to RETURNED with an owner signature. -/
  | secReturn (t : Nat) (tag : Nat)
  /-- `RETURN_ERASURE` (R425): The key, MRAM and flash erasure of RETURNED runs in parts as energy allows, then the node resets. -/
  | returnErasure (t : Nat) (eu : Nat)
  /-- `SEC_DEBUG_CONFIRM` (R438): Confirms a pending FULL debug session while the node is SAFE. -/
  | secDebugConfirm (t : Nat) (tag : Nat)
  /-- `SEC_DEBUG_END` (R440): Ends the debug session. -/
  | secDebugEnd (t : Nat) (tag : Nat)
  /-- `FW_INFO` (R444): Returns the boot directory record in force, running slot and trial attempts. -/
  | fwInfo (t : Nat) (tag : Nat)
  /-- `FW_BEGIN` (R433): Marks the non-running slot INCOMPLETE and erases it. -/
  | fwBegin (t : Nat) (tag : Nat)
  /-- `FW_WRITE` (R433): Loads header and ciphertext bytes into the slot being updated. -/
  | fwWrite (t : Nat) (tag : Nat)
  /-- `FW_FINISH` (R433): Checks the written slot and sets it to TRIAL, or FAILED. -/
  | fwFinish (t : Nat) (tag : Nat)
  /-- `FW_ACTIVATE` (R433): Makes the trial slot preferred and resets the node. -/
  | fwActivate (t : Nat) (tag : Nat)
  /-- `FW_ACCEPT` (R431): Accepts the running trial slot. -/
  | fwAccept (t : Nat) (tag : Nat)
  /-- `IO_DI_SET` (R464): Replaces a DI entry in the draft. -/
  | ioDiSet (t : Nat) (tag : Nat)
  /-- `IO_AO_SET` (R464): Replaces an AO entry in the draft. -/
  | ioAoSet (t : Nat) (tag : Nat)
  /-- `IO_GET` (R464): Returns a DI or AO entry. -/
  | ioGet (t : Nat) (tag : Nat)
  /-- `IO_AO_COMMAND` (R464): Commands a culvert-sourced AO off, on or pulsed. -/
  | ioAoCommand (t : Nat) (tag : Nat)
  /-- `IO_CLAIMS` (R464): Returns the holders of a range of resources in the committed or draft claim set. -/
  | ioClaims (t : Nat) (tag : Nat)
  /-- `NVM_OPERATION_COMPLETE` (R20): An NVM operation completes and the next waiting operation is started in priority order. -/
  | nvmOperationComplete (t : Nat)
  /-- `LOG_CHURN` (R357): A queued log churn starts when the energy rule is met, assigning sequences and slots to the pail's records. -/
  | logChurn (t : Nat)
  /-- `LOG_CHURN_COMPLETE` (R358): A log churn completes, its records are durable and a pending churn trigger acts. -/
  | logChurnComplete (t : Nat)
  /-- `AGE_TRIGGER` (R356): A record that has been 1 s in the active pail triggers its churn. -/
  | ageTrigger (t : Nat)
  /-- `LOG_DROPS` (R361): At the end of a drop minute the drop counts are entered as LOG_DROPS. -/
  | logDrops (t : Nat)
  /-- `LINK_WATCHDOG` (R13): A bank that has had no valid link frame for 2 ms or no new frame command block for two frames plus 2 ms drives its outputs to safe actions and stops FSK. -/
  | linkWatchdog (t : Nat) (bank : Nat)
  /-- `DOWNSTREAM_LINK_FRAME` (R122): A bank receives a downstream link frame and, when complete, a frame command block. -/
  | downstreamLinkFrame (t : Nat) (bank : Nat) (f : DownFrame)
  /-- `UPSTREAM_LINK_FRAME` (R123): The filter engine receives an upstream link frame, discarding and patching it on error. -/
  | upstreamLinkFrame (t : Nat) (bank : Nat) (f : UpFrame)
  /-- `LINK_DOWN` (R123): No valid upstream frame for 100 µs marks the link unaligned and the bank SUSPECT. -/
  | linkDown (t : Nat) (bank : Nat)
  /-- `LINK_UP` (R123): A link realigned within 10 ms restarts the bank's filters. -/
  | linkUp (t : Nat) (bank : Nat)
  /-- `BANK_POWER_UP` (R105): The power die enables a bank's transformer and the bank's power-up sequence starts. -/
  | bankPowerUp (t : Nat) (bank : Nat)
  /-- `BANK_SELF_TEST` (R105): A bank's self-test and configuration download complete and its front ends start settling at the next tick. -/
  | bankSelfTest (t : Nat) (bank : Nat)
  /-- `BANK_FAULT` (R105): A bank that fails self-test or does not align or realign within 10 ms is powered down and its channels DISABLED. -/
  | bankFault (t : Nat) (bank : Nat) (cause : Nat)
  /-- `MISWIRE` (R107): A land beyond -12 V to +28 V is disconnected or switched off within 10 µs and logged. -/
  | miswire (t : Nat) (bank : Nat) (land : Nat) (above : Bool)
  /-- `LAND_RETURN_CHECK` (R107): The 1 s check finds a land back in range and its function resumes at the next tick. -/
  | landReturnCheck (t : Nat) (bank : Nat) (land : Nat)
  /-- `VEX_SENSE_FAULT` (R97): A sense fault persisting 1 ms makes VEX regulate at its force lands and bridge values SUSPECT. -/
  | vexSenseFault (t : Nat) (bank : Nat)
  /-- `VEX_SENSE_RETURN` (R97): After 100 ms without fault conditions VEX returns to remote sensing and the filter restarts. -/
  | vexSenseReturn (t : Nat) (bank : Nat)
  /-- `CHARGE_AMP_OVERLOAD` (R100): A charge amplifier output beyond 105 % for 1 ms resets the amplifier at once. -/
  | chargeAmpOverload (t : Nat) (ch : Nat) (positive : Bool)
  /-- `OVERLOAD_HOLD_END` (R101): The 1 s overload hold ends with one more reset and the amplifier measures again. -/
  | overloadHoldEnd (t : Nat) (ch : Nat)
  /-- `CHARGE_RESET_END` (R100): A 2 ms charge amplifier reset ends and a pending re-enable starts. -/
  | chargeResetEnd (t : Nat) (ch : Nat)
  /-- `IEPE_BIAS_FAULT` (R102): An IEPE bias outside 2-20 V for 10 ms reports an open or shorted sensor. -/
  | iepeBiasFault (t : Nat) (ch : Nat) (bias : Nat)
  /-- `BANK_POWER_LIMIT` (R90): A bank field load reaching 1.5 W makes the adaptive supply limit current. -/
  | bankPowerLimit (t : Nat) (bank : Nat) (on : Bool)
  /-- `SUPPLY_DISCHARGE_END` (R91): An adaptive supply discharge completes and any pending enable starts at the next tick. -/
  | supplyDischargeEnd (t : Nat) (bank : Nat)
  /-- `GENERATOR_EDGE` (R111): At its phase slot a bank's insulation generator steps to +5 V or -5 V. -/
  | generatorEdge (t : Nat) (bank : Nat)
  /-- `INSULATION_PERIOD_END` (R113): At the end of an insulation period the monitor computes or withholds its results and updates the bank record. -/
  | insulationPeriodEnd (t : Nat) (bank : Nat) (m : InsulIn)
  /-- `MAINS_CYCLE` (R130): A positive MAINS_REF zero crossing gives a cycle frequency that is accepted or rejected under the tracking law. -/
  | mainsCycle (t : Nat) (m : MainsIn)
  /-- `MAINS_SOURCE` (R132): With no local cycle for 75 ms or a bus message gone stale, the notch changes its frequency source. -/
  | mainsSource (t : Nat)
  /-- `NOTCH_SUSPECT_END` (R131): The 32-frame SUSPECT mark after a LATENCY notch step ends. -/
  | notchSuspectEnd (t : Nat) (ch : Nat)
  /-- `SETTLING_END` (R134): A channel's settling length runs out and its quality leaves SETTLING. -/
  | settlingEnd (t : Nat) (ch : Nat)
  /-- `WIRE_RESTORED` (R138): After 100 ms of windows under threshold the filter restarts at the next tick. -/
  | wireRestored (t : Nat) (ch : Nat)
  /-- `MODULATOR_OVERLOAD` (R140): A modulator overload resets it and makes the channel OVER or UNDER. -/
  | modulatorOverload (t : Nat) (ch : Nat) (positive : Bool)
  /-- `MODULATOR_OVERLOAD_END` (R140): 1 ms without overload restarts the channel's filter. -/
  | modulatorOverloadEnd (t : Nat) (ch : Nat)
  /-- `SOURCE_EXCHANGE` (R156): At each whole second an RTD_3W channel exchanges its two sources. -/
  | sourceExchange (t : Nat) (ch : Nat) (m : ExchIn)
  /-- `COMPLIANCE_TIMER` (R193): Headroom below 1.5 V at every capture for 32 ms puts an output in COMPLIANCE. -/
  | complianceTimer (t : Nat) (ch : Nat)
  /-- `COMPLIANCE_CLEAR` (R193): Headroom and read-back good for 10 ms return an output to GOOD. -/
  | complianceClear (t : Nat) (ch : Nat)
  /-- `LOOP_OPEN` (R194): A current output below 0.5 mA for 32 ms in COMPLIANCE is declared open. -/
  | loopOpen (t : Nat) (ch : Nat)
  /-- `OPEN_PROBE` (R194): Every 1 s an open output probes for 50 ms and is restored if the read-back reaches 1.0 mA. -/
  | openProbe (t : Nat) (ch : Nat)
  /-- `LOOP_OVER` (R195): Read-back above command by 1 mA for 10 ms marks the output OVER. -/
  | loopOver (t : Nat) (ch : Nat)
  /-- `LOOP_RAMP_DOWN_END` (R200): A 5 ms output ramp-down ends, the driver turns off and a pending new function starts. -/
  | loopRampDownEnd (t : Nat) (ch : Nat)
  /-- `FSK_ATTACH` (R207): The head transaction finds the line silent for RT1 or RT2 and the modem attaches to its channel. -/
  | fskAttach (t : Nat) (bank : Nat)
  /-- `FSK_SEND` (R207): Attach completes after 2 ms, or a burst frame ends, and the request frame is sent. -/
  | fskSend (t : Nat) (bank : Nat)
  /-- `FSK_CHECK_SENT` (R207): The request's check byte has been sent and the modem waits for a response. -/
  | fskCheckSent (t : Nat) (bank : Nat)
  /-- `FSK_RESPONSE` (R207): A response arrives and is accepted, completing the culvert, or garbled, leading to retry or abort. -/
  | fskResponse (t : Nat) (bank : Nat) (pre : Nat) (parity : Bool) (data : List Byte)
  /-- `FSK_RESPONSE_TIMEOUT` (R207): No carrier within 28 characters leads to a retry or ABORTED. -/
  | fskResponseTimeout (t : Nat) (bank : Nat)
  /-- `FSK_RETRY` (R207): After RT2 a failed transaction is sent again. -/
  | fskRetry (t : Nat) (bank : Nat)
  /-- `BURST_FRAME` (R209): A burst frame is received on the listening channel and stored with its time. -/
  | burstFrame (t : Nat) (bank : Nat) (pre : Nat) (parity : Bool) (data : List Byte)
  /-- `WEIR_DELAY_ELAPSED` (R221): A weir's on- or off-delay count runs out and CONDITION sets or clears. -/
  | weirDelayElapsed (t : Nat) (weir : Nat)
  /-- `SUSPECT_LIMIT` (R223): A source SUSPECT for more than 256 frames is treated as failed. -/
  | suspectLimit (t : Nat) (weir : Nat)
  /-- `WEIR_UNSHELVED` (R231): A shelve reaches its end and the weir is unshelved. -/
  | weirUnshelved (t : Nat) (weir : Nat)
  /-- `HISTORY_STEP_CLOSE` (R218): A blend or rate weir history step closes after s counted frames. -/
  | historyStepClose (t : Nat) (ofWeir : Bool) (idx : Nat)
  /-- `GROUP_RELEASED` (R243): A group's release timer elapses and suppression ends. -/
  | groupReleased (t : Nat) (group : Nat)
  /-- `ACK_BUTTON_STUCK` (R247): A button DI at 1.0 for more than 60 s is logged once. -/
  | ackButtonStuck (t : Nat) (di : Nat)
  /-- `FIRST_OUT_DECIDED` (R250): At the tick at or past t_first plus window the home node decides the set and broadcasts it. -/
  | firstOutDecided (t : Nat) (set : Nat)
  /-- `FIRST_OUT_HOME_ABSENT` (R250): No decision 250 ms after the window end makes a member node decide locally. -/
  | firstOutHomeAbsent (t : Nat) (set : Nat)
  /-- `FIRST_OUT_RESET` (R251): A set reset applies at its application tick and the set goes IDLE. -/
  | firstOutReset (t : Nat) (set : Nat)
  /-- `AUTO_RESET` (R251): Every member quiet for the auto-reset delay resets a decided set. -/
  | autoReset (t : Nat) (set : Nat)
  /-- `CALL_STAGE` (R255): A stage dwell elapses and the chain escalates. -/
  | callStage (t : Nat) (chain : Nat)
  /-- `ACCEPT_PERIOD_ELAPSED` (R255): An accepted chain's accept period elapses and it escalates again. -/
  | acceptPeriodElapsed (t : Nat) (chain : Nat)
  /-- `CALL_REPEAT` (R301): Each 1 s in a stage the chain sends its CALL message again. -/
  | callRepeat (t : Nat) (chain : Nat)
  /-- `DUTY_CHANGE` (R260): A confirmed handover takes effect at the first frame with no chain beyond stage 0. -/
  | dutyChange (t : Nat)
  /-- `HANDOVER_TIMEOUT` (R260): A handover not completed within its timeout is cancelled. -/
  | handoverTimeout (t : Nat)
  /-- `DEADMAN_PREWARN` (R261): The dead-man period elapses and the pre-warning AO is driven. -/
  | deadmanPrewarn (t : Nat)
  /-- `DEADMAN_ALARM` (R261): The pre-warning elapses and the alarm chain is forced to its last stage. -/
  | deadmanAlarm (t : Nat)
  /-- `ENCODER_EDGE` (R269): A filtered counting edge changes an encoder counter, or flags an illegal transition. -/
  | encoderEdge (t : Nat) (enc : Nat) (a : Bool) (b : Bool)
  /-- `INDEX_EDGE` (R270): An index edge latches the counter, sets the reference or loads the drift register. -/
  | indexEdge (t : Nat) (enc : Nat)
  /-- `POS_LINE_FAULT` (R268): A TIA-422 differential below 200 mV for 1 µs sets LINE_FAULT and QUAD_ERR. -/
  | posLineFault (t : Nat) (enc : Nat) (input : Nat)
  /-- `LINE_FAULT_CLEAR` (R268): 10 ms without the condition clears LINE_FAULT. -/
  | lineFaultClear (t : Nat) (enc : Nat)
  /-- `POS_REBASED` (R271): A requested rebase applies at the next tick before capture. -/
  | posRebased (t : Nat) (enc : Nat)
  /-- `COMPARE_PULSE` (R277): The counter reaching the next point fires a pulse, advancing P and the count, or flags an overrun. -/
  | comparePulse (t : Nat) (enc : Nat)
  /-- `CMP_OVERLOAD` (R278): A compare output loaded beyond 50 mA for 1 ms switches off for 100 ms. -/
  | cmpOverload (t : Nat) (enc : Nat)
  /-- `SSI_READ` (R272): At a tick on the read interval an SSI read starts. -/
  | ssiRead (t : Nat) (enc : Nat)
  /-- `SSI_READ_COMPLETE` (R273): An SSI read completes and is checked, passing or logging SSI_FAULT. -/
  | ssiReadComplete (t : Nat) (enc : Nat) (idleOk : Bool) (endOk : Bool) (parity : Bool) (raw : Nat)
  /-- `LATCH` (R279): A latch trigger records p and time in the latch FIFO or drops it on overflow. -/
  | latch (t : Nat) (enc : Nat)
  /-- `LIMIT_EDGE` (R280): A limit DI edge through its 20 µs filter updates the limit flag and can latch. -/
  | limitEdge (t : Nat) (di : Nat) (level : Bool)
  /-- `TIME_REF` (R308): A received TIME_REF frame is timestamped at its sync mark. -/
  | timeRef (t : Nat) (bus : Nat) (node : Nat) (mark : Nat) (data : List Byte)
  /-- `TIME_FU` (R310): A TIME_FU from the time bus gives θ, and the node steps or slews its time base. -/
  | timeFu (t : Nat) (bus : Nat) (node : Nat) (index : Nat) (mark : Nat) (data : List Byte)
  /-- `TIME_REF_SEND` (R307): The active master sends TIME_REF at each 100 ms multiple of network time. -/
  | timeRefSend (t : Nat)
  /-- `TRANSMIT_SUCCESS` (R295): A frame is transmitted successfully, completing its buffer and any follow-up such as TIME_FU. -/
  | transmitSuccess (t : Nat) (bus : Nat) (mark : Nat)
  /-- `TIME_MASTER_CHANGE` (R309): A candidate hearing no better master for its limit takes mastership. -/
  | timeMasterChange (t : Nat)
  /-- `TIME_HOLDOVER` (R310): No TIME_FU for three periods puts the node in HOLDOVER. -/
  | timeHoldover (t : Nat)
  /-- `HOLDOVER_LIMIT` (R310): After 10 s in HOLDOVER TIME_UNALIGNED is set. -/
  | holdoverLimit (t : Nat)
  /-- `TIME_SOURCE` (R311): Primary time bus silent for three periods moves the node to the secondary. -/
  | timeSource (t : Nat)
  /-- `CLAIM` (R306): A received CLAIM naming this node's ID is answered with DEFEND or raises a duplicate. -/
  | claim (t : Nat) (bus : Nat) (node : Nat) (mark : Nat) (data : List Byte)
  /-- `CLAIM_PERIOD` (R304): The 2 s claim period ends and the node sends CLAIM and operates normally. -/
  | claimPeriod (t : Nat)
  /-- `GOING_DOWN` (R319): A received GOING_DOWN makes the sender absent at once. -/
  | goingDown (t : Nat) (bus : Nat) (node : Nat) (mark : Nat) (data : List Byte)
  /-- `HEARTBEAT` (R319): A received heartbeat refreshes the sender's presence. -/
  | heartbeat (t : Nat) (bus : Nat) (node : Nat) (mark : Nat) (data : List Byte)
  /-- `HEARTBEAT_SEND` (R301): Every 100 ms the node sends its heartbeat. -/
  | heartbeatSend (t : Nat)
  /-- `NODE_LOST` (R319): No heartbeat from a node for 300 ms makes it absent. -/
  | nodeLost (t : Nat) (bus : Nat) (node : Nat)
  /-- `BUS_LEG_FAULT` (R318): A node's heartbeats on one leg only for 1 s set LEG_FAULT. -/
  | busLegFault (t : Nat) (node : Nat) (leg : Nat)
  /-- `GEN_FREQ` (R313): A received GEN_FREQ message is kept fresh for 300 ms for the notch. -/
  | genFreq (t : Nat) (bus : Nat) (node : Nat) (mark : Nat) (data : List Byte)
  /-- `GEN_FREQ_TRANSMIT` (R313): Every 100 ms a local-source node sends GEN_FREQ. -/
  | genFreqTransmit (t : Nat)
  /-- `FO_CAND` (R249): A received first-out candidate enters its network set. -/
  | foCand (t : Nat) (bus : Nat) (node : Nat) (index : Nat) (mark : Nat) (data : List Byte)
  /-- `FO_DECIDE` (R250): A received home-node decision is adopted at the next tick. -/
  | foDecide (t : Nat) (bus : Nat) (node : Nat) (index : Nat) (mark : Nat) (data : List Byte)
  /-- `FO_RESET_MESSAGE` (R251): A received FO_RESET request or broadcast schedules a set reset. -/
  | foResetMessage (t : Nat) (bus : Nat) (node : Nat) (index : Nat) (mark : Nat) (data : List Byte)
  /-- `PANEL` (R302): A panel message acknowledges, accepts a call or confirms a handover. -/
  | panel (t : Nat) (bus : Nat) (node : Nat) (mark : Nat) (data : List Byte)
  /-- `VALUE` (R317): A native VALUE frame matching a receiving object updates its shadow. -/
  | value (t : Nat) (bus : Nat) (prio : Nat) (node : Nat) (index : Nat) (mark : Nat) (data : List Byte)
  /-- `FOREIGN_FRAME` (R299): A base-format frame matching a receiving foreign object updates its shadow. -/
  | foreignFrame (t : Nat) (bus : Nat) (id : Nat) (mark : Nat) (data : List Byte)
  /-- `FRESHNESS_TIMEOUT` (R317): A bus value with no frame within its freshness timeout becomes STALE. -/
  | freshnessTimeout (t : Nat) (obj : Nat)
  /-- `BUS_OBJECT_DUE` (R316): A transmitting object falls due by period or change and its buffer is loaded. -/
  | busObjectDue (t : Nat) (obj : Nat)
  /-- `CULVERT_REQ` (R81): A reassembled remote culvert request is placed on a remote tag and checked. -/
  | culvertReq (t : Nat) (bus : Nat) (node : Nat) (index : Nat) (mark : Nat) (data : List Byte)
  /-- `CULVERT_RSP` (R80): A reassembled remote response completes the forwarding culvert. -/
  | culvertRsp (t : Nat) (bus : Nat) (node : Nat) (index : Nat) (mark : Nat) (data : List Byte)
  /-- `CULVERT_SEG_LOST` (R321): A transfer incomplete 100 ms after its first segment is discarded. -/
  | culvertSegLost (t : Nat) (node : Nat) (transfer : Nat) (rsp : Bool)
  /-- `ID_CLASH` (R296): A third consecutive clash aborts the frame and any culvert it carried. -/
  | idClash (t : Nat) (bus : Nat) (mark : Nat)
  /-- `BUS_ERROR_PASSIVE` (R290): An error counter reaches 128 and the controller becomes error-passive. -/
  | busErrorPassive (t : Nat) (bus : Nat) (tec : Nat) (rxerr : Nat) (errA : Nat) (errD : Nat)
  /-- `BUS_OFF` (R291): TEC above 255 puts the controller bus-off and starts or holds recovery. -/
  | busOff (t : Nat) (bus : Nat) (tec : Nat) (errA : Nat) (errD : Nat)
  /-- `BUS_OFF_HOLD_END` (R291): The 10 s bus-off hold ends and recovery starts. -/
  | busOffHoldEnd (t : Nat) (bus : Nat)
  /-- `BUS_RECOVERED` (R291): Recovery completes and the controller is error-active with pending frames sent. -/
  | busRecovered (t : Nat) (bus : Nat)
  /-- `DOMINANT_TIMEOUT` (R287): The transceiver releases a bus driven dominant for 2 ms. -/
  | dominantTimeout (t : Nat) (bus : Nat)
  /-- `RTC_SET` (R336): A pending set applies at the second boundary. -/
  | rtcSet (t : Nat)
  /-- `RTC_DST` (R340): A pending summer-time command applies at the second boundary. -/
  | rtcDst (t : Nat)
  /-- `RTC_ALIGNED` (R342): At a second boundary a LOCKED node aligns the calendar to network time. -/
  | rtcAligned (t : Nat)
  /-- `AUTO_TRIM_MEASURE` (R342): After each 1,024 s of LOCKED the measured crystal error is subtracted from TRIM. -/
  | autoTrimMeasure (t : Nat) (err : Int)
  /-- `RTC_RANGE` (R338): The calendar passing 2399-12-31 23:59:59 holds there. -/
  | rtcRange (t : Nat)
  /-- `OSC_FAIL` (R333): No 32 kHz crystal cycle for 4 ms moves the backup domain to the RC oscillator. -/
  | oscFail (t : Nat)
  /-- `CRYSTAL_RETURN` (R333): After 1,024 crystal cycles the backup domain returns to the crystal at a second boundary. -/
  | crystalReturn (t : Nat)
  /-- `VBAT_LOW` (R331): The start-up or hourly check finds VBAT below its threshold. -/
  | vbatLow (t : Nat) (mv : Nat)
  /-- `BKP_LOST` (R332): The backup domain restarts after its supply fell below retention. -/
  | bkpLost (t : Nat) (mv : Nat)
  /-- `WAKE` (R345): The periodic wake expires, sets WAKE and in STANDBY wakes the node. -/
  | wake (t : Nat)
  /-- `EVT_EDGE` (R346): An event input takes a filtered edge and stacks a stamp, or counts it lost. -/
  | evtEdge (t : Nat) (e : Nat) (level : Bool) (first : Nat)
  /-- `EVT_DRAIN` (R348): Station firmware drains stacked stamps into the log as EVT_EDGE and EVT_LOST records. -/
  | evtDrain (t : Nat)
  /-- `VSHIP_ON` (R390): VSHIP rises through the ON threshold and start-up begins. -/
  | vshipOn (t : Nat) (vbat : Nat)
  /-- `SECURE_BOOT` (R430): The ROM checks and accepts a firmware slot, falls back, or serves the recovery port. -/
  | secureBoot (t : Nat)
  /-- `SELF_TEST` (R390): Self-test of SRAM, MRAM and lockstep completes. -/
  | selfTest (t : Nat)
  /-- `CONFIG_RESTORED` (R390): The committed configuration is restored, the log scanned and CULVERT_READY set. -/
  | configRestored (t : Nat) (badSlots : List Nat) (holdMv : Nat)
  /-- `FW_ACCEPTED` (R431): 600 s ARMED without reset accepts a trial slot and blows security fuses. -/
  | fwAccepted (t : Nat)
  /-- `ARMING_CONDITIONS` (R388): At the first tick meeting every arming condition the node enters ARMED or SAFE. -/
  | armingConditions (t : Nat)
  /-- `STANDBY_DWELL` (R389): A woken node ARMED for its standby dwell returns to STANDBY. -/
  | standbyDwell (t : Nat)
  /-- `VSHIP_DIP` (R369): VSHIP falls below FAIL and the module runs from HOLD with the charger off. -/
  | vshipDip (t : Nat)
  /-- `POWER_FAIL` (R391): VSHIP below FAIL for the qualification time enters HOLDUP and starts its sequence. -/
  | powerFail (t : Nat) (mv : Nat)
  /-- `CORE_RAILS_SHED` (R391): After the flush and GOING_DOWN the core rails are shed. -/
  | coreRailsShed (t : Nat)
  /-- `HOLDUP_COMPLETE` (R391): The hold-up converter stops and the node restarts or goes to BACKUP or OFF. -/
  | holdupComplete (t : Nat) (vbatOk : Bool)
  /-- `BROWN_OUT` (R371): A rail below its brown-out threshold for 10 µs resets the node. -/
  | brownOut (t : Nat)
  /-- `INPUT_PEAK_LIMIT` (R370): Input current at the peak limit is held by cutting the charger and drawing on HOLD. -/
  | inputPeakLimit (t : Nat) (ma : Nat)
  /-- `STEP_TEST` (R373): A due CHOLD step test starts its 200 mA sink. -/
  | stepTest (t : Nat)
  /-- `HOLD_MEASURED` (R374): A step test completes and sets C, ESR and the capacitor flags. -/
  | holdMeasured (t : Nat) (v0 : Nat) (v1 : Nat) (v2 : Nat) (v3 : Nat)
  /-- `LEDGER_STEP` (R375): Each 1.0 V charge step compares the energy ledger with the tested C. -/
  | ledgerStep (t : Nat)
  /-- `HOLD_ABSENT` (R377): HOLD not reaching 8.0 V after 30 s of charging sets HOLD_ABSENT. -/
  | holdAbsent (t : Nat)
  /-- `OUTPUT_SHED` (R385): Every 100 ms above a ceiling one class-2 output is shed. -/
  | outputShed (t : Nat)
  /-- `DISP_PUMP_FAULT` (R401): Pump rails not within 10 % 20 ms after start shut the pump down. -/
  | dispPumpFault (t : Nat) (vpos : Nat) (vneg : Int)
  /-- `PUMP_START` (R401): A waveform or toggle falling due with the pump off starts the charge pump. -/
  | pumpStart (t : Nat)
  /-- `PUMP_SHUTDOWN` (R402): 5 s with nothing to drive shuts the charge pump down. -/
  | pumpShutdown (t : Nat)
  /-- `PUMP_DISCHARGE_END` (R402): The 30 ms pump discharge ends and a pending start proceeds. -/
  | pumpDischargeEnd (t : Nat)
  /-- `WAVEFORM_START` (R415): An idle region starts its pending toggle or oldest granted request at a tick. -/
  | waveformStart (t : Nat) (region : Nat)
  /-- `WAVEFORM_END` (R407): A region's waveform ends and the shown states update. -/
  | waveformEnd (t : Nat) (region : Nat)
  /-- `BLINK_TOGGLE` (R416): A blink group toggles and its blinking cells get pending toggles. -/
  | blinkToggle (t : Nat) (g : Nat)
  /-- `IDCODE` (R434): The TAP IDCODE instruction shifts out the device code. -/
  | idcode (t : Nat)
  /-- `SAMPLE_PRELOAD` (R442): The SAMPLE/PRELOAD instruction accesses the boundary register when permitted. -/
  | samplePreload (t : Nat) (lands : Nat) (word : Nat)
  /-- `EXTEST` (R442): EXTEST drives logic-die lands from the boundary register; leaving it resets the node. -/
  | extest (t : Nat) (lands : Nat) (word : Nat)
  /-- `BYPASS` (R434): BYPASS or an unknown instruction selects the 1-bit bypass register. -/
  | bypass (t : Nat)
  /-- `HELLO` (R436): A mailbox HELLO is answered with a CHALLENGE. -/
  | hello (t : Nat)
  /-- `AUTH` (R437): A mailbox AUTH is checked and a session granted at a level, or refused. -/
  | auth (t : Nat) (level : Nat) (cert : List Byte) (proof : List Byte)
  /-- `MAILBOX_CULVERT` (R436): A tagged mailbox culvert executes with origin 0x42. -/
  | mailboxCulvert (t : Nat) (mtag : Nat) (req : List Byte) (mac : Nat)
  /-- `END` (R440): A mailbox END message ends the session. -/
  | mboxEnd (t : Nat) (mac : Nat)
  /-- `DBG_ACCESS_READ` (R439): A tagged DBG_ACCESS read returns a word from a permitted space. -/
  | dbgAccessRead (t : Nat) (addr : Nat) (mac : Nat)
  /-- `DBG_ACCESS_WRITE` (R439): A tagged DBG_ACCESS write changes memory or halts, steps or resumes a processor. -/
  | dbgAccessWrite (t : Nat) (addr : Nat) (word : Nat) (ctl : DbgCtl) (mac : Nat)
  /-- `DBG_ACCESS_STATUS` (R439): A DBG_ACCESS status operation returns session status. -/
  | dbgAccessStatus (t : Nat) (addr : Nat) (mac : Nat)
  /-- `SEC_SESSION_END` (R440): A session idle 10 minutes or past its window ends and its keys are erased. -/
  | secSessionEnd (t : Nat)
  /-- `FULL_PENDING_LAPSE` (R438): An unconfirmed FULL_PENDING lapses after 60 s. -/
  | fullPendingLapse (t : Nat)
  /-- `DEBOUNCE` (R447): A DI's classified level holding for its debounce time changes its value. -/
  | debounce (t : Nat) (di : Nat) (mv : Nat)
  /-- `DI_LINE_BROKEN` (R446): A monitored DI below 1.0 V for 10 ms is a broken line. -/
  | diLineBroken (t : Nat) (di : Nat)
  /-- `AO_LINE_FAULT` (R451): An open load or short to supply held 100 ms is reported on an AO. -/
  | aoLineFault (t : Nat) (ao : Nat) (mv : Nat) (ma : Nat)
  /-- `AO_OVERLOAD` (R451): AO current above 0.55 A switches it off within 50 µs, latching on the third in 10 s. -/
  | aoOverload (t : Nat) (ao : Nat) (ma : Nat)
  /-- `AO_RETRY` (R451): An overloaded AO is retried after 1 s. -/
  | aoRetry (t : Nat) (ao : Nat)
  /-- `AO_FAULT_CLEAR` (R451): An AO fault clears after 100 ms without its condition. -/
  | aoFaultClear (t : Nat) (ao : Nat)
  /-- `AO_TOTAL_LIMIT` (R452): AO total above 2.1 A for 1 ms switches outputs off in descending index. -/
  | aoTotalLimit (t : Nat) (ma : List Nat)
  /-- `NOK_COIL_FAULT` (R455): Coil current below 5 mA for 100 ms or above 150 mA turns NOK_DRV off. -/
  | nokCoilFault (t : Nat) (ma : Nat)
  /-- `PUBLICATION_TIMEOUT` (R454): No page published for 10 ms drops NOK_DRV in hardware. -/
  | publicationTimeout (t : Nat)
  /-- `RESET_N` (R474): RESET_N low for 1 µs requests a flush and holds the node in reset. -/
  | resetN (t : Nat)
  /-- `INTERNAL_WATCHDOG` (R457): A supervisor silent for 50 ms takes a watchdog reset after the flush. -/
  | internalWatchdog (t : Nat)
  /-- `LOCKSTEP_MISMATCH` (R18): Frame processor outputs differ and the node resets before the output leaves. -/
  | lockstepMismatch (t : Nat)
  /-- `CLOCK_LOSS` (R17): Crystal stop or PLL unlock for 50 µs moves NVM to the PMU clock, flushes and resets. -/
  | clockLoss (t : Nat)
  /-- `HOST_WDOG_EXPIRED` (R82): The host watchdog reaches its full timeout without a valid kick, sets WDOG_EXPIRED, logs HOST_WDOG_EXPIRED, stops counting and with action 1 enters SAFE. -/
  | hostWdogExpired (t : Nat)
  /-- `WDOG_WARN` (R82): Half the host watchdog timeout passes without a valid kick and WDOG_WARN is set. -/
  | wdogWarn (t : Nat)
  /-- `RESET_N_RELEASE` (R474): RESET_N rises and, once the flush has completed, the reset ends and the start-up timeline runs from that instant. -/
  | resetNRelease (t : Nat)
  /-- `VSHIP_RETURN` (R369): VSHIP rises back above the FAIL threshold before the qualification time and the charger resumes, ending the dip. -/
  | vshipReturn (t : Nat)
  /-- `VBAT_BELOW_RETENTION` (R387): In BACKUP, VBAT falls below its retention voltage and the node goes to OFF with the backup domain lost. -/
  | vbatBelowRetention (t : Nat)
  /-- `VIO_LOSS` (R467): VIO falls below 1.5 V and the host port lands go high-impedance, the port ignores HSCK and a transaction in progress is discarded. -/
  | vioLoss (t : Nat)
  /-- `VIO_RETURN` (R467): VIO rises back above 1.5 V and the host port answers again. -/
  | vioReturn (t : Nat)
  /-- `BUS_OBJ_SEND_TIMEOUT` (R330): A BUS_OBJ_SEND whose frame has not been transmitted within 1 s completes with ABORTED, detail 1. -/
  | busObjSendTimeout (t : Nat)
  /-- `CMP_OVERLOAD_END` (R278): The 100 ms switch-off of an overloaded compare output ends and the output is driven again. -/
  | cmpOverloadEnd (t : Nat) (enc : Nat)
  /-- `COMPARE_PULSE_END` (R277): A compare pulse reaches the end of its width and the CMPk land returns low, starting the 1 µs overrun guard. -/
  | comparePulseEnd (t : Nat) (enc : Nat)
  /-- `DI_LINE_RESTORED` (R446): A monitored DI with a broken line rises above 1.0 V, the broken-line condition ends and DI_LINE_BROKEN is logged with parameter 0. -/
  | diLineRestored (t : Nat) (di : Nat)
  /-- `UTC_COUNT_TAKEN` (R343): At the first backup-domain second boundary after the main PLL runs in STARTING, the node time base takes the UTC count with a sub-second of zero. -/
  | utcCountTaken (t : Nat)
  /-- `CALL_CANCEL_REPEAT` (R301): After a chain's calling ends, the CALL cancel message is sent again at 100 ms intervals, three times in all. -/
  | callCancelRepeat (t : Nat) (chain : Nat)
  /-- `ECONOMY_BURST` (R126): In ECONOMY a bank's front ends are powered 22 ms before the tick of its frame, and after a 2 ms warm-up the burst of conversion and wire-break detection runs. -/
  | economyBurst (t : Nat) (bank : Nat)
deriving DecidableEq, Repr

end Sys2Proof
end

