-- ==== Sys2Proof/Decode.lean ====
section
/-!
DEFINITION. Reading a command from a word: the opcode table gives none of its rows any bits, so no word spells one.
-/

namespace Sys2Proof

/-- The command a word spells by the table's bits: none, since no row of the table gives bits. -/
def decodeTableWord (_nbits _w : Nat) : Option Instr := none

end Sys2Proof
end

