-- ==== Sys2Proof/Machine/Num.lean ====
section
/-!
DEFINITION. Byte order (R3: little-endian everywhere), bit fields, sign extension and list helpers.
-/

namespace Sys2Proof

/-- The byte at offset `i` of a byte string as a number; zero beyond its end. -/
def byteAt (b : List Byte) (i : Nat) : Nat := (b.getD i 0).toNat

/-- Little-endian u16 at offset `i` (R3). -/
def u16At (b : List Byte) (i : Nat) : Nat := byteAt b i + 256 * byteAt b (i + 1)

/-- Little-endian u32 at offset `i` (R3). -/
def u32At (b : List Byte) (i : Nat) : Nat := u16At b i + 65536 * u16At b (i + 2)

/-- Little-endian u64 at offset `i` (R3). -/
def u64At (b : List Byte) (i : Nat) : Nat := u32At b i + 4294967296 * u32At b (i + 4)

/-- Little-endian number of `n` bytes at offset `i` (R3). -/
def numAt (b : List Byte) (i n : Nat) : Nat := (List.range n).foldr (fun k a => byteAt b (i + k) + 256 * a) 0

/-- Two's complement reading of the low `w` bits of `n`. -/
def signed (w n : Nat) : Int :=
  let m := n % 2 ^ w
  if m < 2 ^ (w - 1) then (m : Int) else (m : Int) - (2 ^ w : Nat)

/-- Two's complement pattern of `i` in `w` bits. -/
def twos (w : Nat) (i : Int) : Nat := (i % ((2 ^ w : Nat) : Int)).toNat

/-- s16 at offset `i`. -/
def s16At (b : List Byte) (i : Nat) : Int := signed 16 (u16At b i)

/-- s32 at offset `i`. -/
def s32At (b : List Byte) (i : Nat) : Int := signed 32 (u32At b i)

/-- binary32 pattern at offset `i`. -/
def f32At (b : List Byte) (i : Nat) : F32 := BitVec.ofNat 32 (u32At b i)

/-- The number `n` as one byte. -/
def le8 (n : Nat) : List Byte := [BitVec.ofNat 8 n]

/-- The number `n` as two bytes, least significant first. -/
def le16 (n : Nat) : List Byte := [BitVec.ofNat 8 n, BitVec.ofNat 8 (n / 256)]

/-- The number `n` as four bytes, least significant first. -/
def le32 (n : Nat) : List Byte := le16 n ++ le16 (n / 65536)

/-- The number `n` as eight bytes, least significant first. -/
def le64 (n : Nat) : List Byte := le32 n ++ le32 (n / 4294967296)

/-- A signed number in two bytes. -/
def leS16 (i : Int) : List Byte := le16 (twos 16 i)

/-- A signed number in four bytes. -/
def leS32 (i : Int) : List Byte := le32 (twos 32 i)

/-- A binary32 in four bytes. -/
def leF32 (f : F32) : List Byte := le32 f.toNat

/-- `n` zero bytes (reserved fields read zero, R4). -/
def zeros (n : Nat) : List Byte := List.replicate n 0

/-- A byte string cut or padded with zeros to `n` bytes. -/
def padTo (n : Nat) (b : List Byte) : List Byte := b.take n ++ zeros (n - b.length)

/-- A Bool as a number. -/
def bit (b : Bool) : Nat := if b then 1 else 0

/-- Bit `i` of `n`. -/
def tst (n i : Nat) : Bool := n.testBit i

/-- Bits [lo + w - 1 : lo] of `n`. -/
def bits (n lo w : Nat) : Nat := n / 2 ^ lo % 2 ^ w

/-- A list of Bools as a number, the first as bit 0. -/
def packBits : List Bool → Nat
  | [] => 0
  | b :: r => bit b + 2 * packBits r

/-- Count of the Bools that hold. -/
def countTrue (l : List Bool) : Nat := (l.filter id).length

/-- Entry `i` of a list replaced by its image. -/
def modAt {α : Type} (l : List α) (i : Nat) (f : α → α) : List α :=
  match l, i with
  | [], _ => []
  | x :: r, 0 => f x :: r
  | x :: r, i + 1 => x :: modAt r i f

/-- The first entry that satisfies `p`, changed; the others kept. -/
def modFirst {α : Type} (p : α → Bool) (f : α → α) : List α → List α
  | [] => []
  | x :: r => if p x then f x :: r else x :: modFirst p f r

/-- Addition that saturates at `top`. -/
def satAdd (top n k : Nat) : Nat := min top (n + k)

/-- The least multiple of `p` that is not below `n` (`n` itself for `p = 0`). -/
def alignUp (p n : Nat) : Nat := if p = 0 then n else (n + p - 1) / p * p

/-- A network instant moved by a step of the time base (R24). -/
def moved (d : Int) (t : Nat) : Nat := ((t : Int) + d).toNat

/-- Nearest integer to `a / b` with halves away from zero, `b > 0`. -/
def divRound (a : Int) (b : Nat) : Int :=
  if a < 0 then - ((((-a).toNat * 2 + b) / (2 * b) : Nat) : Int) else (((a.toNat * 2 + b) / (2 * b) : Nat) : Int)

/-- Clamp of an integer. -/
def clampI (lo hi x : Int) : Int := max lo (min hi x)

/-- Quality code of Table 05.14a. -/
def Quality.code : Quality → Nat
  | .good => 0 | .calLoad => 1 | .budgetHeld => 2 | .compliance => 3 | .suspect => 4 | .settling => 5
  | .overRange => 6 | .underRange => 7 | .open_ => 8 | .disabled => 9 | .sourceFault => 10 | .stale => 11

/-- Quality a code names; codes 12–255 are reserved (R486). -/
def Quality.ofCode : Nat → Option Quality
  | 0 => some .good | 1 => some .calLoad | 2 => some .budgetHeld | 3 => some .compliance | 4 => some .suspect
  | 5 => some .settling | 6 => some .overRange | 7 => some .underRange | 8 => some .open_ | 9 => some .disabled
  | 10 => some .sourceFault | 11 => some .stale | _ => none

/-- Usable qualities (Table 08.3). -/
def Quality.usable : Quality → Bool
  | .good => true | .calLoad => true | .compliance => true | .budgetHeld => true | _ => false
/-- Held qualities (Table 08.3). -/
def Quality.isHeld : Quality → Bool
  | .settling => true | .suspect => true | _ => false
/-- Failed qualities (Table 08.3). -/
def Quality.failed (q : Quality) : Bool := !q.usable && !q.isHeld

end Sys2Proof
end

