-- ==== Sys2Proof/Machine/Bytes.lean ====
section
/-!
DEFINITION. Sparse byte memories in canonical form, and the CRCs of R34 and R351.
-/

namespace Sys2Proof

/-- The byte at address `a`; zero where nothing is listed. -/
def Mem.read : Mem → Nat → Byte
  | [], _ => 0
  | (k, v) :: r, a => if a = k then v else if a < k then 0 else Mem.read r a

/-- The cell list with `(a, v)` placed before `r`, or left out where `v` is zero (the canonical form). -/
def Mem.cell (a : Nat) (v : Byte) (r : Mem) : Mem := if v = 0 then r else (a, v) :: r

/-- Memory with byte `v` at address `a`. -/
def Mem.write : Mem → Nat → Byte → Mem
  | [], a, v => Mem.cell a v []
  | (k, w) :: r, a, v =>
    if a = k then Mem.cell a v r
    else if a < k then Mem.cell a v ((k, w) :: r)
    else (k, w) :: Mem.write r a v

/-- The canonical form: every listed address is at least `lo`, addresses rise strictly, no byte is zero. -/
def Mem.wfFrom : Nat → Mem → Bool
  | _, [] => true
  | lo, (k, v) :: r => decide (lo ≤ k) && decide (v ≠ 0) && Mem.wfFrom (k + 1) r

/-- The canonical form of a memory. -/
def Mem.wf (m : Mem) : Bool := Mem.wfFrom 0 m

/-- Bytes written at consecutive addresses from `a`. -/
def Mem.writeList (m : Mem) (a : Nat) : List Byte → Mem
  | [] => m
  | b :: r => Mem.writeList (m.write a b) (a + 1) r

/-- `n` bytes read from address `a` on. -/
def Mem.readList (m : Mem) (a n : Nat) : List Byte := (List.range n).map (fun i => m.read (a + i))

/-- The memory that holds the given bytes from `a` on and zero elsewhere. -/
def Mem.fromList (a : Nat) : List Byte → Mem
  | [] => []
  | b :: r => Mem.cell a b (Mem.fromList (a + 1) r)

/-- Only the cells in `[lo, hi)`, moved so that `lo` becomes address 0. -/
def Mem.window (m : Mem) (lo hi : Nat) : Mem :=
  (m.filter (fun c => decide (lo ≤ c.1) && decide (c.1 < hi))).map (fun c => (c.1 - lo, c.2))

/-- One more than the highest listed address, zero for an empty memory. -/
def Mem.top : Mem → Nat
  | [] => 0
  | [(k, _)] => k + 1
  | _ :: c :: r => Mem.top (c :: r)

/-- Number read little-endian from a memory (R3). -/
def Mem.u8 (m : Mem) (a : Nat) : Nat := (m.read a).toNat
/-- u16 in a memory (R3). -/
def Mem.u16 (m : Mem) (a : Nat) : Nat := m.u8 a + 256 * m.u8 (a + 1)
/-- u32 in a memory (R3). -/
def Mem.u32 (m : Mem) (a : Nat) : Nat := m.u16 a + 65536 * m.u16 (a + 2)
/-- u64 in a memory (R3). -/
def Mem.u64 (m : Mem) (a : Nat) : Nat := m.u32 a + 4294967296 * m.u32 (a + 4)
/-- binary32 in a memory. -/
def Mem.f32 (m : Mem) (a : Nat) : F32 := BitVec.ofNat 32 (m.u32 a)

/-- One bit step of a reflected CRC with reversed polynomial `poly`. -/
def crcBit (poly c : Nat) : Nat := if c % 2 = 1 then (c / 2) ^^^ poly else c / 2

/-- One byte step of a reflected CRC. -/
def crcByte (poly c b : Nat) : Nat :=
  let x := c ^^^ b
  crcBit poly (crcBit poly (crcBit poly (crcBit poly (crcBit poly (crcBit poly (crcBit poly (crcBit poly x)))))))

/-- CRC-32 of IEEE 802.3 (R34): polynomial 0x04C11DB7 reflected, initial value and final exclusive-OR all ones. -/
def crc32 (b : List Byte) : Nat :=
  (b.foldl (fun c x => crcByte 0xEDB88320 c x.toNat) 0xFFFFFFFF) ^^^ 0xFFFFFFFF

end Sys2Proof
end

