-- ==== Sys2Proof/Machine/Image.lean ====
section
/-!
DEFINITION. Configuration images (R77, R78, R487 to R489): header, directory, tables, entries, the edit a SET makes, and
the field checks every table's own chapter is written with.
-/

namespace Sys2Proof

/-- A table of an image as its directory entry names it: directory index, table ID, entry size, count, offset. -/
structure TableRef where
  dir : Nat
  id : Nat
  size : Nat
  count : Nat
  off : Nat
deriving DecidableEq, Repr

/-- Directory entry `d` (Table 03.24). -/
def imgDir (m : Mem) (d : Nat) : TableRef :=
  let a := 64 + 16 * d
  { dir := d, id := m.u16 a, size := m.u16 (a + 2), count := m.u16 (a + 4), off := m.u32 (a + 8) }

/-- All directory entries. -/
def imgTables (m : Mem) : List TableRef := (List.range (m.u16 12)).map (imgDir m)

/-- The table with an ID. -/
def imgTable (m : Mem) (id : Nat) : Option TableRef := (imgTables m).find? (fun t => t.id = id)

/-- Address of entry `n` of a table, if the image has it. -/
def imgEntry (m : Mem) (id n : Nat) : Option Nat :=
  match imgTable m id with
  | some t => if n < t.count then some (t.off + n * t.size) else none
  | none => none

/-- Addresses of the entries of a table, in order. -/
def imgEntries (m : Mem) (id : Nat) : List Nat :=
  match imgTable m id with
  | some t => (List.range t.count).map (fun n => t.off + n * t.size)
  | none => []

/-- Image length of the header, limited to 131,072 (R492). -/
def imgLen (m : Mem) : Nat := min 131072 (m.u32 8)

/-- The magic of Table 03.23. -/
def imgMagic : Nat := 0x46434541

/-- A fault in a draft image: table ID, entry index and byte offset (R487). -/
structure ImgFault where
  table : Nat
  entry : Nat
  off : Nat
deriving DecidableEq, Repr

/-- Entry sizes of the tables their chapters own (Table 03.25); none for an unknown ID. -/
def tableSize : Nat → Option Nat
  | 0x01 => some 32 | 0x10 => some 96 | 0x11 => some 528 | 0x20 => some 64 | 0x21 => some 48 | 0x30 => some 32
  | 0x31 => some 16 | 0x32 => some 64 | 0x33 => some 16 | 0x40 => some 64 | 0x50 => some 64 | 0x51 => some 64
  | 0x60 => some 32 | 0x61 => some 144 | 0x70 => some 32 | 0x80 => some 16 | 0x81 => some 16 | _ => none

/-- First fault of the image header (R487): magic, version, header length, image length, target part, firmware bounds,
header CRC. Table 0x00F0 of a draft is ignored (R78). -/
def headerFault (m : Mem) : Option ImgFault :=
  let h (o : Nat) : Option ImgFault := some ⟨0, 0xFFFF, o⟩
  let last := (imgTables m).foldl (fun a t => if t.id = 0xF0 then a else max a (t.off + t.size * t.count)) (64 + 16 * m.u16 12)
  if m.u32 0 ≠ imgMagic then h 0
  else if m.u16 4 ≠ 1 then h 4
  else if m.u16 6 ≠ 64 then h 6
  else if m.u32 8 < 64 ∨ 131072 < m.u32 8 ∨ m.u32 8 < last then h 8
  else if m.u16 14 ≠ 0 then h 14
  else if m.u16 16 ≠ 0x6480 then h 16
  else if 3 < m.u8 18 ∨ (m.u8 18 = 3 ∧ 2 < m.u8 19) then h 18
  else
    match (List.range 32).find? (fun i => m.u8 (28 + i) ≠ 0) with
    | some _ => h 28
    | none => if m.u32 60 ≠ crc32 (m.readList 0 60) then h 60 else none

/-- First fault of directory entry `t` of an image (R487), the table CRC included. Table 0x00F0 is ignored but for appearing
twice, as no table may (R78). -/
def dirFault (m : Mem) (t : TableRef) : Option ImgFault :=
  let f (o : Nat) : Option ImgFault := some ⟨0, t.dir, o⟩
  if (imgTables m).any (fun u => decide (u.id = t.id) && decide (u.dir < t.dir)) then f 0
  else if t.id = 0xF0 then none
  else
    match tableSize t.id with
    | none => f 0
    | some z =>
      if t.size ≠ z then f 2
      else if m.u16 (64 + 16 * t.dir + 6) ≠ 0 then f 6
      else if t.off % 16 ≠ 0 ∨ m.u32 8 < t.off + t.size * t.count ∨ t.off < 64 + 16 * m.u16 12 then f 8
      else if m.u32 (64 + 16 * t.dir + 12) ≠ crc32 (m.readList t.off (t.size * t.count)) then f 12
      else none

/-- First fault of header and directory. -/
def containerFault (m : Mem) : Option ImgFault :=
  match headerFault m with
  | some f => some f
  | none => (imgTables m).findSome? (dirFault m)

/-! ## Edits -/

/-- Renew the CRC of the header (Table 03.23). -/
def sealHeader (m : Mem) : Mem := m.writeList 60 (le32 (crc32 (m.readList 0 60)))

/-- Renew the CRC of a table in its directory entry. -/
def sealTable (m : Mem) (t : TableRef) : Mem :=
  m.writeList (64 + 16 * t.dir + 12) (le32 (crc32 (m.readList t.off (t.size * t.count))))

/-- The empty image of `CFG_OPEN` with source 2: a header with no directory entries and length 64 (R488). -/
def emptyImage : Mem :=
  sealHeader (Mem.fromList 0 (le32 imgMagic ++ le16 1 ++ le16 64 ++ le32 64 ++ le16 0 ++ le16 0 ++ le16 0x6480))

/-- All bytes from `a` on moved up by `d`. -/
def Mem.moveUp (m : Mem) (a d : Nat) : Mem := m.map (fun c => if a ≤ c.1 then (c.1 + d, c.2) else c)

/-- Directory offsets at or beyond `a` raised by `d`, but for directory entry `but_`. -/
def raiseOffsets (m : Mem) (a d : Nat) (but_ : Option Nat) : Mem :=
  (imgTables m).foldl
    (fun x t => if a ≤ t.off ∧ but_ ≠ some t.dir then x.writeList (64 + 16 * t.dir + 8) (le32 (t.off + d)) else x) m

/-- A table grown to `n` entries, the new ones given by `off`; later tables move up in 16-byte steps (R488). -/
def growTable (m : Mem) (t : TableRef) (n : Nat) (offEntry : Nat → List Byte) : Mem :=
  if n ≤ t.count then m
  else
    let e0 := t.off + t.size * t.count
    let e1 := t.off + t.size * n
    let d := alignUp 16 e1 - alignUp 16 e0
    let m1 := raiseOffsets (m.moveUp e0 d) e0 d (some t.dir)
    let m2 := (List.range (n - t.count)).foldl
      (fun x i => x.writeList (e0 + t.size * i) (offEntry (t.count + i))) m1
    let m3 := m2.writeList (64 + 16 * t.dir + 4) (le16 n)
    m3.writeList 8 (le32 (max (m.u32 8 + d) e1))

/-- A table added with no entries: its directory entry is appended and every table moves up by 16 bytes (R488). -/
def addTable (m : Mem) (id size : Nat) : Mem :=
  let n := m.u16 12
  let a := 64 + 16 * n
  let m1 := raiseOffsets (m.moveUp a 16) a 16 none
  let off := alignUp 16 (m.u32 8 + 16)
  let m2 := m1.writeList a (le16 id ++ le16 size ++ le16 0 ++ le16 0 ++ le32 off ++ le32 0)
  (m2.writeList 12 (le16 (n + 1))).writeList 8 (le32 off)

/-- The table with an ID in an image that may lack it, with the image that has it. -/
def needTable (m : Mem) (id size : Nat) : Mem × TableRef :=
  match imgTable m id with
  | some t => (m, t)
  | none =>
    let m1 := addTable m id size
    (m1, (imgTable m1 id).getD ⟨0, id, size, 0, 0⟩)

/-- Checks a SET makes first: header, directory, and the CRC of the table to be changed; CRCs of other tables are left
for the commit (R488). -/
def setFault (m : Mem) (id : Nat) : Option ImgFault :=
  match headerFault m with
  | some f => some f
  | none =>
    (imgTables m).findSome? (fun t =>
      match dirFault m t with
      | some f => if f.off = 12 ∧ t.id ≠ id then none else some f
      | none => none)

/-- Outcome of an edit: the new image, or where it is refused. -/
inductive EditResult where
  | done (m : Mem)
  | fault (f : ImgFault)
deriving DecidableEq, Repr

/-- Entry `n` of table `id` replaced, the table grown or added as R488 says; `offEntry` gives the off entries between.
An image that would exceed 131,072 bytes is refused at header offset 8. -/
def setEntry (m : Mem) (id n : Nat) (bytes : List Byte) (offEntry : Nat → List Byte) : EditResult :=
  match setFault m id with
  | some f => .fault f
  | none =>
    let size := (tableSize id).getD 0
    let (m1, t1) := needTable m id size
    let m2 := growTable m1 t1 (n + 1) offEntry
    let t2 := (imgTable m2 id).getD t1
    let m3 := m2.writeList (t2.off + size * n) (padTo size bytes)
    let m4 := sealHeader (sealTable m3 t2)
    if 131072 < m4.u32 8 then .fault ⟨0, 0xFFFF, 8⟩ else .done m4

/-- Entry replaced in a table keyed by content: where an entry with the same key exists it is replaced, else the new one
is appended (R488). -/
def setKeyed (m : Mem) (id : Nat) (same : Nat → Bool) (bytes : List Byte) : EditResult :=
  match imgTable m id with
  | none => setEntry m id 0 bytes (fun _ => [])
  | some t =>
    match (List.range t.count).find? (fun i => same (t.off + t.size * i)) with
    | some i => setEntry m id i bytes (fun _ => [])
    | none => setEntry m id t.count bytes (fun _ => [])

/-! ## Table 0x00F0 (R78) -/

/-- Directory entry `d` names `n` entries of `size` bytes at `off`. -/
def pointTable (m : Mem) (d id size n off : Nat) : Mem :=
  m.writeList (64 + 16 * d) (le16 id ++ le16 size ++ le16 n ++ le16 0 ++ le32 off)

/-- The table stands by itself: inside the image, behind the directory, clear of every other table. -/
def apart (m : Mem) (t : TableRef) : Bool :=
  decide (t.off % 16 = 0) && decide (64 + 16 * m.u16 12 ≤ t.off) && decide (t.off + t.size * t.count ≤ m.u32 8) &&
    (imgTables m).all (fun u => decide (u.dir = t.dir) || decide (u.off + u.size * u.count ≤ t.off) ||
      decide (t.off + t.size * t.count ≤ u.off))

/-- Table `id` of an image rebuilt with the entries `b` of two bytes each: in its place where it stands by itself with as many
entries, else at the end of the image. An image that would exceed 131,072 bytes is left as it is. -/
def rebuildTable (m : Mem) (id : Nat) (b : List Byte) : Mem :=
  let n := b.length / 2
  let m1 := (needTable m id 2).1
  match imgTable m1 id with
  | none => m
  | some t =>
    let m2 := if t.size = 2 ∧ t.count = n ∧ apart m1 t then m1
      else
        let off := alignUp 16 (m1.u32 8)
        (pointTable m1 t.dir id 2 n off).writeList 8 (le32 (off + 2 * n))
    match imgTable m2 id with
    | none => m
    | some u => if 131072 < m2.u32 8 then m else sealHeader (sealTable (m2.writeList u.off b) u)

/-! ## Field checks -/

/-- What a field of a table entry may hold. -/
inductive Chk where
  /-- unsigned range -/
  | rng (lo hi : Nat)
  /-- signed range -/
  | srng (lo hi : Int)
  /-- bits that may be set -/
  | mask (m : Nat)
  /-- one of a list -/
  | oneOf (l : List Nat)
  /-- range or one more value -/
  | rngOr (lo hi other : Nat)
  /-- reserved: zero -/
  | zero
  /-- a finite binary32 -/
  | fin
  /-- the entry's own index plus a base -/
  | index
  /-- anything -/
  | any
deriving DecidableEq, Repr

/-- One field of a table entry: offset, size in bytes, what it may hold. -/
structure Fld where
  off : Nat
  size : Nat
  chk : Chk
deriving DecidableEq, Repr

/-- The number of `n` bytes at an address, little-endian. -/
def Mem.num (m : Mem) (a : Nat) : Nat → Nat
  | 0 => 0
  | n + 1 => m.u8 a + 256 * Mem.num m (a + 1) n

/-- A finite binary32 pattern. -/
def finiteBits (n : Nat) : Bool := decide (n / 8388608 % 256 ≠ 255)

/-- A field of an entry at `a` with index `i` holds a lawful value. -/
def Fld.ok (m : Mem) (a i : Nat) (f : Fld) : Bool :=
  let v := m.num (a + f.off) f.size
  match f.chk with
  | .rng lo hi => decide (lo ≤ v) && decide (v ≤ hi)
  | .srng lo hi => decide (lo ≤ signed (8 * f.size) v) && decide (signed (8 * f.size) v ≤ hi)
  | .mask k => decide (v &&& k = v)
  | .oneOf l => l.contains v
  | .rngOr lo hi o => (decide (lo ≤ v) && decide (v ≤ hi)) || decide (v = o)
  | .zero => decide (v = 0)
  | .fin => finiteBits v
  | .index => decide (v = i)
  | .any => true

/-- Offset of the first field of an entry that is not lawful. -/
def fieldsBad (m : Mem) (a i : Nat) (l : List Fld) : Option Nat :=
  (l.find? (fun f => !f.ok m a i)).map (fun f => f.off)

/-- First faulty entry of a table: `bad m a i` gives the byte offset of the first bad field of entry `i` at `a`. -/
def tableBad (m : Mem) (id : Nat) (bad : Mem → Nat → Nat → Option Nat) : Option ImgFault :=
  match imgTable m id with
  | none => none
  | some t =>
    (List.range t.count).findSome? (fun i =>
      (bad m (t.off + t.size * i) i).map (fun o => ⟨id, i, o⟩))

end Sys2Proof
end

