-- ==== Sys2Proof/Config.lean ====
section
/-!
DEFINITION. What an implementation fixes and the free values: constants with no body, so that nothing proved can lean on
a value of theirs. Each is applied to the operands it depends on, or to the counter of draws of State.
-/

namespace Sys2Proof.Config

/-- VBAT_LOW threshold within the limits of Table 12.1, as an offset above 2,350 mV (R331); taken modulo 101. -/
opaque vbatLowOffset : Nat

/-- Value REC takes after a frame is received while REC is above 127: ISO 11898-1 allows 119 to 127; taken modulo 9. -/
opaque recAfter : Nat → Nat

/-- Nonces, ephemeral keys and signing randomness (R436, R444): 32 random bytes per draw. -/
opaque random32 : Nat → BitVec 256

/-- Device identity of one module: unique ID, identity private key, certificate bytes (R426, R444). -/
opaque uniqueId : BitVec 128

/-- A blend result that is no number at all (an infinity less an infinity) is clamped high or low; the spec does not say
which (R216). -/
opaque nanHigh : Bool

/-- Calling category and count that a CALL message carries while only the dead-man alarm calls: the spec names the most
urgent calling category and the number of calling weirs, and none calls (R255, R261). -/
opaque forcedCat : BitVec 2

/-- The part is an AE6480-X (Table 03.4, GRADE "per part"). -/
opaque gradeX : Bool

/-- Bytes of the thermal model a bank uses when neither copy is valid: the spec states none (R145, R146). -/
opaque thermalByte : Nat → Nat → BitVec 8

/-- Capacitance to hull of a period without a voltage step, for which the spec states no result (R113). -/
opaque capUndefined : F32

/-- Mismatch of the two sources of an RTD_3W channel as measured at manufacture, raw units (R156). -/
opaque mismatch0 : Nat → Int

/-- Device identity private key (R426). -/
opaque identityKey : BitVec 256

/-- Signature of the device certificate (R426). -/
opaque deviceCert : BitVec 512

/-- AES-256 key of firmware images (Table 16.1). -/
opaque firmwareKey : BitVec 256

/-- What the key engine answers for an identity key that has not been made (BLANK), and for its certificate. -/
opaque noIdentity : BitVec 256
/-- Certificate bytes before there is one. -/
opaque noCert : BitVec 512

/-- Place of a logic-die land in the boundary register: 0 to 7 the `CMP` lands, 8 `HIRQ_N` (R442). -/
opaque boundaryCell : Nat → Nat

/-- Seluik root public key, X then Y, whose hash the fuses hold (R430). -/
opaque rootKey : BitVec 512

/-- The image of manufacture carries a countersignature that an owner key slot verifies: its bytes are not in the spec. -/
opaque factoryCounter : Bool

/-- Words of supervisor and frame processor memory that a debugger reads and has not written: the spec gives no content. -/
opaque coreWord : Nat → BitVec 32

/-- Transmitter delay that a controller with `TDC` measures in a data phase, in quanta of 12.5 ns: the spec gives no value
(Table 11.2, Table 11.16). -/
opaque transmitterDelay : Nat → BitVec 16

/-- A clash of a frame with a data phase falls into that phase, not into its control field: the spec names no bit (R296). -/
opaque clashInData : Nat → Bool

/-- Coefficients of the half-band stages of the decimators at the odd places beside the centre, by path and stage: Table 05.5
gives the structure and no tap. -/
opaque halfBand : Bool → Nat → List Rat

/-- Taps of the symmetric low-pass in the FIR filters of Table 05.6, by filter and place; the spec states none. -/
opaque lowPass : Nat → Nat → Rat

/-- Width of the `LATENCY` notches in hundredths of a Hz above 11 Hz, taken modulo 301: within it a notch is at least 40 dB deep
over ±0.05 Hz (Table 05.7). -/
opaque notchWidth : Nat

/-- Time quality of a time base that no row of Table 12.9 describes, taken modulo 5. -/
opaque openQuality : Nat

/-- Filter length in ns of the reserved codes 4 to 7 of `FILTER` (Table 12.10). -/
opaque evtFilter : Nat → Nat

/-- Rate of the 32 kHz RC oscillator in parts of 10^8 above 95 % of nominal; taken modulo 10,000,001 (R333: ±5 %). -/
opaque rcRate : Nat

end Sys2Proof.Config
end

