-- ==== Sys2Proof/Machine/StBank.lean ====
section
/-!
DEFINITION. The banks (chapter 04): power, adaptive supply, excitation, charge amplifiers, miswiring, insulation.
-/

namespace Sys2Proof.Machine

/-- Where a bank stands in Table 04.12. -/
inductive BankPower where
  | off
  /-- transformer enabled, link aligning, self-test to come -/
  | starting
  /-- self-test passed; front ends start at the next tick -/
  | tested
  | up
  /-- powered down after a fault, until the next start-up or wake (R105) -/
  | failed
deriving DecidableEq, Repr

/-- Where a charge amplifier stands (R99 to R101). -/
inductive AmpState where
  | off | measuring
  /-- reset switch closed until a local time -/
  | resetting (until_ : Nat)
  /-- reset switch held closed for 1 s after four overload resets, until a local time -/
  | holding (until_ : Nat)
deriving DecidableEq, Repr

/-- A charge amplifier of channel 8b+6 or 8b+7. -/
structure AmpSt where
  state : AmpState := .off
  /-- the function is disabled: the amplifier goes off when the reset under way ends -/
  stop : Bool := false
  /-- an enable came during the reset on disable (R392) -/
  reenable : Bool := false
  /-- local times of the last overload resets -/
  resets : List Nat := []
  /-- polarity of the last overload -/
  positive : Bool := false
  /-- range code and lower corner in force -/
  range : Nat := 0
  corner : Nat := 0
deriving DecidableEq, Repr

/-- A land found beyond −12 V to +28 V (R107), and its polarity. -/
structure LandSt where
  beyond : Bool := false
  above : Bool := false
deriving DecidableEq, Repr

/-- The bank insulation record and what the monitor keeps (R111 to R119). -/
structure InsulSt where
  /-- generator: 0 open, 1 at +5 V, 2 at −5 V -/
  gen : Nat := 0
  rBank : F32 := 0
  cBank : F32 := 0
  vFault : F32 := 0
  /-- located channels, bit k for channel 8b+k -/
  located : Nat := 0
  count : Nat := 0
  /-- periods since the generator started -/
  periods : Nat := 0
  interSlot : Nat := 0
  hullRef : Bool := false
  hullOpen : Bool := false
  interBank : Bool := false
  notLocated : Bool := false
  cap : Bool := false
  above : Bool := false
  disturbed : Bool := false
  valid : Bool := false
  rCh : List F32 := List.replicate 8 0
  /-- the generator has run a whole period since it started -/
  ran : Bool := false
  /-- a period has given a result since the generator started (R213) -/
  published : Bool := false
  /-- a time step fell into the period in progress (R24) -/
  spans : Bool := false
  /-- consecutive disturbed periods -/
  streak : Nat := 0
  /-- undisturbed periods in a row in which a located channel read above 1 MΩ -/
  clearRun : List Nat := List.replicate 8 0
  /-- other slot whose edges the steps of the last periods coincided with, and for how many periods -/
  stepSlot : Nat := 0
  stepRun : Nat := 0
  /-- the last period measured less than 200 pF to hull; none where it produced no result -/
  lowCap : Option Bool := none
deriving DecidableEq, Repr

/-- A frame command block (R122): output commands, granted set point of the supply, changed channel entries, and the frame
sequence that closes it. -/
structure FrameBlock where
  outs : List F32 := []
  set : Nat := 80
  changes : List (Nat × List Byte) := []
  seq : Nat := 0
deriving DecidableEq, Repr

/-- One bank. -/
structure BankSt where
  power : BankPower := .off
  /-- local time of the transformer enable -/
  since : Nat := 0
  /-- frame sequence from which the bank has settled (Table 14.10) -/
  settleTo : Nat := 0
  /-- adaptive supply: on, set point in 0.1 V, discharging, enable pending (R88 to R91) -/
  supplyOn : Bool := false
  setPt : Nat := 80
  /-- set point granted for the next tick -/
  nextSet : Nat := 80
  discharging : Bool := false
  /-- local time at which the discharge began -/
  dischAt : Nat := 0
  reenable : Bool := false
  limit : Bool := false
  raiseRefused : Bool := false
  /-- highest demand of the last capture, 10 mV, and its class -/
  demand : Nat := 0
  demandClass : Nat := 0
  /-- IEX0–IEX3: current code and destination land 0–15 (channel × 2 + land); none when unused -/
  iex : List (Option (Nat × Nat)) := List.replicate 4 none
  /-- VEX: channel that uses it and set voltage in 10 mV -/
  vex : Option (Nat × Nat) := none
  /-- VEX regulates at its force lands: a sense fault stands (R97) -/
  vexFault : Bool := false
  amps : List AmpSt := List.replicate 2 {}
  /-- channel lands 0–15 and sense lands 16, 17 -/
  lands : List LandSt := List.replicate 18 {}
  house : House := {}
  insul : InsulSt := {}
  /-- upstream lane: aligned, last valid frame (local), sequence, lost frames counted since the last record -/
  aligned : Bool := false
  lastUp : Nat := 0
  upSeq : Nat := 0
  lost : Nat := 0
  /-- local times of the last two lost frames, the latest first -/
  lostAt : List Nat := []
  errLogged : Option Nat := none
  downSince : Option Nat := none
  /-- groups 2–44 of the last valid upstream frame: they replace a lost one (R123) -/
  lastBits : List Byte := []
  /-- downstream lane: last valid frame, last new command block, its sequence (local times) -/
  lastDown : Nat := 0
  lastBlock : Nat := 0
  blockSeq : Nat := 0
  downSeq : Nat := 0
  /-- a command block is being received, every link frame of it valid so far (R122) -/
  blockOpen : Bool := false
  /-- frame command block last sent to the bank (R122) -/
  sent : Option FrameBlock := none
  /-- ECONOMY: local time at which the front ends were powered for the burst under way -/
  burstAt : Option Nat := none
  /-- the link watchdog has acted (R13) -/
  tripped : Bool := false
  /-- thermal model filter of the bank's dissipation, mW (R147) -/
  pb : Rat := 0
deriving DecidableEq, Repr

end Sys2Proof.Machine
end

