-- ==== Sys2Proof/Machine/StHost.lean ====
section
/-!
DEFINITION. The part of State that chapters 01, 02, 03 and 13 name: clocks, the frame and its pages, the host port and
the culverts, the draft and the commit, non-volatile memories, the event recorder.
-/

namespace Sys2Proof.Machine

/-- The node's clocks. Local time is the time the 25 MHz crystal counts (R22, R23); the time base is the node's own
copy of network time (R310), UTC nanoseconds from 2000-01-01T00:00:00. -/
structure ClkSt where
  /-- local time, ns elapsed since power was first applied -/
  now : Nat := 0
  /-- time base at `now`, ns of network time -/
  base : Nat := 0
  /-- network time that has run, steps left out, ns: timers of network time count in it (R24, R241) -/
  flow : Nat := 0
  /-- rate correction of the time base, parts per 10^9 (R310) -/
  ratePpb : Int := 0
  /-- remainder of the rate correction not yet counted, 10^-9 ns -/
  rateFrac : Int := 0
  /-- part of the last θ still to be slewed, ns, and the local time left to slew it in (R310) -/
  slew : Int := 0
  slewTime : Nat := 0
  /-- the time base has taken the UTC count of the calendar since the last start (R343) -/
  fromRtc : Bool := false
  /-- `TIME_VALID` was set when it took it (Table 12.9) -/
  fromValid : Bool := false
deriving DecidableEq, Repr

/-- The role of a frame image page (R36). -/
inductive PageRole where
  | write | live | rest
deriving DecidableEq, Repr

/-- One frame image page (R33 to R37). -/
structure Page where
  /-- page bytes but for the trailer epoch and the CRC; a byte not listed is zero (R41) -/
  bytes : Mem := []
  /-- header page epoch; zero until first written -/
  epoch : Nat := 0
  /-- trailer page epoch (R37) -/
  trailer : Nat := 0
  role : PageRole := .rest
  /-- the page is also HELD (R36) -/
  held : Bool := false
deriving DecidableEq, Repr

/-- A read transaction of a window that ran over the last tick, with the page that stood behind the window when it started, by
its place in the frame store; none where none stood there (R38, R39). -/
inductive ReadRun where
  | none
  | live (page : Option Nat)
  | held (page : Option Nat)
deriving DecidableEq, Repr

/-- Hold states of Table 02.9. -/
inductive HoldState where
  | none | requested | held | heldMove
deriving DecidableEq, Repr

/-- The frame engine's bookkeeping (chapter 02). -/
structure FrameSt where
  /-- ticks are counted (false in STANDBY and before the frames start) -/
  running : Bool := false
  /-- local time of the next tick, ns -/
  nextTick : Nat := 0
  /-- the sequence the next tick will carry (R25) -/
  seq : Nat := 0
  /-- a frame has been computed since the last reset or wake and waits for its publication tick -/
  open_ : Bool := false
  /-- the frame in progress has slipped (R50) -/
  slipped : Bool := false
  /-- slipped frames since the last reset (Table 02.5) -/
  slips : Nat := 0
  /-- frames published since the last slip, as far as 16 (R397) -/
  sinceSlip : Nat := 16
  /-- consecutive slipped frames so far (R53) -/
  consec : Nat := 0
  /-- local time of the last slip, ns (R454) -/
  lastSlip : Option Nat := none
  /-- frame flags of the next published header (Table 02.6) -/
  slipBefore : Bool := false
  cfgApplied : Bool := false
  profChanged : Bool := false
  /-- the page of the frame in progress carries CONFIG_APPLIED, PROFILE_CHANGED (R29, R44) -/
  cfgShown : Bool := false
  profShown : Bool := false
  /-- local time of the tick at which the outputs last acted (R32, R44) -/
  acted : Option Nat := none
  /-- the grid error exceeds 2 µs or there is no network time (Table 02.6, reset 1) -/
  unaligned : Bool := true
  /-- profile in force, code of Table 02.1 -/
  profile : Nat := 1
  /-- page epoch of the last publication (R35) -/
  pageEpoch : Nat := 0
  pages : List Page := [{ role := .write }, {}, {}]
  hold : HoldState := .none
  /-- the read transaction that ran over the last tick -/
  read : ReadRun := .none
  /-- the page that has left HELD since the last tick by its place in the frame store, and when (R39) -/
  left : Option (Nat × Nat) := none
  /-- local time at which the hold was taken, ns -/
  holdSince : Nat := 0
  /-- HP_HOLD.HOLD_EXPIRED (Table 03.10) -/
  holdExpired : Bool := false
  /-- timestamp of the capture of the frame in progress (R352) -/
  captTs : Nat := 0
  /-- time base of that capture, ns -/
  captBase : Nat := 0
  /-- local time of that capture, ns -/
  captNow : Nat := 0
  /-- network time that had run at that capture, steps left out, ns -/
  captFlow : Nat := 0
  /-- local time of the last publication, ns (R454), and the frame sequence it carried -/
  lastPub : Option Nat := none
  pubSeq : Nat := 0
  /-- time base at the capture before (R316) -/
  prevBase : Nat := 0
  /-- frames published in a row without a slip, captured after the last bank's settling with no channel SETTLING (R388) -/
  pubRun : Nat := 0
  /-- the frame in progress was captured so -/
  settled : Bool := false
deriving DecidableEq, Repr

/-- Where a request comes from. -/
inductive Origin where
  /-- the host port, code 0x40 -/
  | host
  /-- a remote node by its node ID (R81) -/
  | node (id : Nat)
  /-- the debug mailbox, code 0x42 (R436) -/
  | mailbox
deriving DecidableEq, Repr

/-- A request in flight: the copy of its slot taken at the doorbell (R63), and where its response goes. -/
structure Flight where
  /-- 0–239 host tags, 240–255 remote tags, 256 and above mailbox tags -/
  id : Nat
  origin : Origin
  /-- it arrived in authenticated frames (R81) -/
  auth : Bool := false
  /-- bus it arrived on (0–3) and transfer number to answer with (R320) -/
  bus : Nat := 0
  transfer : Nat := 0
  req : List Byte
deriving DecidableEq, Repr

/-- What a waiting request waits for. -/
inductive WaitKind where
  /-- the publication of the first frame image that shows its change (R65); the response payload, if any -/
  | publish (payload : List Byte)
  /-- the same, for a change that no frame computed so far shows -/
  | nextFrame (payload : List Byte)
  /-- the response of another node (R80) -/
  | forward (target transfer deadline : Nat)
  /-- the calibration average or churn (R182) -/
  | calibration (run : Nat)
  /-- a vibration capture (R184) -/
  | vibCapture
  /-- transmission of a bus object (R330) -/
  | busSend (obj deadline : Nat)
  /-- a pending calendar set (R350) -/
  | timeSet
  /-- a pending summer-time command (R350) -/
  | timeDst
  /-- a CHOLD step test (R397) -/
  | holdTest
  /-- an NVM or flash operation, by its number -/
  | nvm (op : Nat)
  /-- energy for a log clear with its options, since a local time (R367) -/
  | clearEnergy (opts since : Nat)
  /-- a log clear, and the churn of its `LOG_CLEARED` record (R367) -/
  | logClear
  /-- entry to a node state (R397) -/
  | nodeState
deriving DecidableEq, Repr

/-- A request that waits (R65). -/
structure Wait where
  fl : Flight
  kind : WaitKind
deriving DecidableEq, Repr

/-- The host watchdog (R82). -/
structure WdogSt where
  running : Bool := false
  /-- EXPECT: false when the next valid kick is 0x5A -/
  expect : Bool := false
  /-- local time of the last valid kick -/
  lastKick : Nat := 0
  /-- WDOG_WARN has been set since that kick -/
  warned : Bool := false
deriving DecidableEq, Repr

/-- The host port and the culvert service (chapter 03). -/
structure HostSt where
  /-- the port answers (R59) -/
  up : Bool := true
  /-- CULVERT_READY (Table 03.5) -/
  ready : Bool := false
  /-- HP_IRQ_STAT causes; bit 0 is computed from the completion map -/
  irqStat : BitVec 32 := 0
  /-- HP_IRQ_MASK -/
  irqMask : BitVec 32 := 0
  /-- HP_DONE0 to HP_DONE7, bit n for tag n -/
  done : BitVec 256 := 0
  /-- request slots, 256 × 256 bytes -/
  req : Mem := []
  /-- response slots, 256 × 256 bytes -/
  rsp : Mem := []
  /-- tags QUEUED, in doorbell order (R65) -/
  queue : List Flight := []
  /-- the request EXECUTING -/
  cur : Option Flight := none
  /-- requests that wait (R65) -/
  waits : List Wait := []
  /-- responses ready for the debug mailbox: tag and bytes (R436) -/
  mbox : List (Nat × List Byte) := []
  wdog : WdogSt := {}
deriving DecidableEq, Repr

/-- The draft configuration (R71). -/
structure Draft where
  owner : Origin
  baseEpoch : Nat
  /-- local time of the owner's last request -/
  lastUse : Nat
  img : Mem
  /-- one more than the highest offset written since it opened (R492) -/
  top : Nat
deriving DecidableEq, Repr

/-- Role epochs of the addressable units (R46), by kind and index. -/
structure Roles where
  chan : List Nat := List.replicate 64 0
  blend : List Nat := List.replicate 256 0
  weir : List Nat := List.replicate 1024 0
  group : List Nat := List.replicate 128 0
  enc : List Nat := List.replicate 8 0
  obj : List Nat := List.replicate 128 0
  di : List Nat := List.replicate 16 0
  ao : List Nat := List.replicate 8 0
  region : List Nat := List.replicate 8 0
deriving DecidableEq, Repr

/-- Where a commit in flight stands (Table 03.21). -/
inductive CommitPhase where
  /-- step 5: waiting for energy since a local time -/
  | energy (since : Nat)
  /-- step 6: the churn is queued or under way, as NVM operation `op` -/
  | churn (op : Nat)
  /-- step 7: waiting for its tick -/
  | ready
  /-- step 7: applied at the tick of frame `seq`, its selector write queued as NVM operation `op` (R73) -/
  | selector (op seq : Nat)
deriving DecidableEq, Repr

/-- A commit between acceptance and completion (R72). -/
structure Commit where
  fl : Flight
  phase : CommitPhase
  /-- the image to be applied, role epochs included (from step 6) -/
  img : Mem := []
  roles : Roles := {}
  epoch : Nat := 0
deriving DecidableEq, Repr

/-- One copy selector slot (R73). -/
structure Selector where
  copy : Nat := 0
  epoch : Nat := 0
  seq : Nat := 0
  valid : Bool := false
deriving DecidableEq, Repr

/-- The committed configuration, the draft, the commit and the stored images. -/
structure CfgSt where
  /-- the image in force -/
  img : Mem := []
  /-- configuration epoch in force (R44) -/
  epoch : Nat := 0
  /-- role epochs in force (R46) -/
  roles : Roles := {}
  /-- the two MRAM copies, each with its role epochs (R73) -/
  copy0 : Mem := []
  copy1 : Mem := []
  roles0 : Roles := {}
  roles1 : Roles := {}
  sel0 : Selector := {}
  sel1 : Selector := {}
  draft : Option Draft := none
  commit : Option Commit := none
  /-- what the commit churn queued or under way writes: image and role epochs (R73) -/
  churn : Option (Mem × Roles) := none
  /-- flash image slots 0–7 (R76) -/
  slots : List Mem := List.replicate 8 []
  /-- an image slot left incomplete by an interrupted flash operation (R20) -/
  slotBad : List Bool := List.replicate 8 false
  /-- user curve library, slot n at 528 n (R173) -/
  curves : Mem := []
deriving DecidableEq, Repr

/-- One event record (Table 13.1); `entered` is the local time at which it entered its pail. -/
structure Rec where
  seq : Nat := 0
  ts : Nat := 0
  code : Nat := 0
  sev : Nat := 0
  kind : Nat := 0
  idx : Nat := 0
  role : Nat := 0xFFFF
  p1 : Nat := 0
  p2 : Nat := 0
  flags : Nat := 0
  entered : Nat := 0
deriving DecidableEq, Repr

/-- A rewrite of the boot directory (R19, R429). -/
inductive DirChange where
  /-- `FW_BEGIN`: a slot becomes INCOMPLETE -/
  | begin_ (slot : Nat)
  /-- `FW_FINISH`: the slot becomes TRIAL -/
  | trial (slot : Nat)
  /-- `FW_FINISH`: a check of R430, or 6 for a slot that is not complete, has failed -/
  | failed (slot check : Nat)
  /-- `FW_ACTIVATE`: the slot becomes preferred -/
  | prefer (slot : Nat)
  /-- the trial of the running slot is accepted -/
  | accept
deriving DecidableEq, Repr

/-- Kinds of NVM operation, in the classes R20 orders. -/
inductive NvmKind where
  | commitChurn
  /-- the selector write of R73, with the configuration epoch -/
  | selector (epoch : Nat)
  | calChurn | logChurn | clearSegment
  /-- MRAM erasure of R425: its first segment, which waits for the energy of all, and the others -/
  | eraseFirst | eraseSegment
  /-- flash: one sector of the erasure of R425 -/
  | eraseSector
  /-- flash: store of an image (image slot) -/
  | storeImage (slot : Nat)
  /-- flash: store of a curve -/
  | storeCurve
  /-- flash: copy of a stored image or curve into the draft, or a read of one -/
  | flashRead
  /-- flash: firmware erase and write -/
  | firmware
  /-- flash: rewrite of the boot directory -/
  | directory (c : DirChange)
  /-- flash: key slot churn (R428) -/
  | keyChurn
deriving DecidableEq, Repr

/-- An NVM operation, waiting or under way. -/
structure NvmOp where
  num : Nat
  kind : NvmKind
  /-- bytes it will write (image, curve, firmware data) -/
  data : Mem := []
  arg : Nat := 0
  /-- local time of the request -/
  since : Nat := 0
  /-- it has been under way and was suspended for a log churn -/
  started : Bool := false
  /-- flash sectors still to be written, and that some have been (R378) -/
  left : Nat := 1
  begun : Bool := false
deriving DecidableEq, Repr

/-- The NVM controller (R20). -/
structure NvmSt where
  running : Option NvmOp := none
  waiting : List NvmOp := []
  nextNum : Nat := 0
deriving DecidableEq, Repr

/-- The event recorder (chapter 13). -/
structure LogSt where
  /-- surviving records by slot, slots rising -/
  slots : List (Nat × Rec) := []
  /-- next sequence to be assigned -/
  next : Nat := 1
  pailA : List Rec := []
  pailB : List Rec := []
  activeB : Bool := false
  /-- the other pail is queued for its churn -/
  queued : Bool := false
  /-- a trigger that arose while the other pail was not empty (R356) -/
  trigger : Bool := false
  /-- a record of severity 6 or 7 has triggered: its churn suspends a flash operation (R20) -/
  urgent : Bool := false
  /-- the other pail is being churned -/
  churning : Bool := false
  /-- what the log will hold when the churn under way completes (R358, R359) -/
  plan : List (Nat × Rec) := []
  energyWait : Bool := false
  wrapped : Bool := false
  /-- drop counters, severity 0 to 7 -/
  drops : List Nat := List.replicate 8 0
  /-- drops of the open drop minute, severity 0 to 7, and its end in network time run -/
  minute : Option (List Nat × Nat) := none
  /-- local time of the last increase of a drop counter (node condition 7) -/
  lastDrop : Option Nat := none
  overwritten : Nat := 0
  lost : Nat := 0
  lastChurn : Nat := 0
  /-- the last flush did not complete, with the records lost (R363) -/
  unflushed : Option Nat := none
  /-- from the start of the flush no record enters (R362) -/
  closed : Bool := false
  /-- LOG_CLEAR in progress: limit sequence, options, slots erased so far, next segment -/
  clear : Option (Nat × Nat × Nat × Nat) := none
  /-- limit sequence of the last clear, kept in the system records: no number below it is given again (R367) -/
  limit : Nat := 1
deriving DecidableEq, Repr

end Sys2Proof.Machine
end

