-- ==== Sys2Proof/Machine/StBlend.lean ====
section
/-!
DEFINITION. Blend slots, weirs and the live commands (chapter 08).
-/

namespace Sys2Proof.Machine

open Sys2Proof

/-- One blend slot (R216 to R219). -/
structure BlendSt where
  val : F32 := 0
  q : Quality := .disabled
  degraded : Bool := false
  limited : Bool := false
  wasReset : Bool := false
  /-- last value published with a usable quality; 0.0 before there is one (R5) -/
  last : F32 := 0
  /-- steps closed, newest first, at most 64: step value and capture time, network time run (R24, R218) -/
  ring : List (F32 × Nat) := []
  /-- frames counted in the open step, and its running sum of squares or peak -/
  count : Nat := 0
  acc : F32 := 0
  /-- capture time of the last frame counted, network time run -/
  stepAt : Nat := 0
  /-- capture time of the last evaluation, network time run (Δt) -/
  lastEval : Option Nat := none
  /-- state of LAG or TOTAL -/
  y : F32 := 0
  /-- capture time, network time run, of the last frame that advanced LAG; none before its start -/
  lagAt : Option Nat := none
  /-- last usable value of x1 of TOTAL -/
  lastX1 : Option F32 := none
  /-- x0 was failed, and has not been usable since (R218) -/
  failed : Bool := false
deriving DecidableEq, Repr

/-- Weir states, codes of Table 08.13. -/
inductive WState where
  | normal | activeUnack | activeAck | rtnUnack | shelved | suppressed | outOfService | sourceFault
deriving DecidableEq, Repr

/-- One weir (R220 to R234). -/
structure WeirSt where
  raw : Bool := false
  cond : Bool := false
  /-- a delay runs; evaluated frames it has run (R221) -/
  running : Bool := false
  elapsed : Nat := 0
  /-- the raw condition set by the second threshold (WINDOW_OUT) -/
  second : Bool := false
  frozen : Bool := false
  faultUnack : Bool := false
  state : WState := .outOfService
  changed : Bool := false
  /-- consecutive evaluated frames with a SUSPECT source (R223) -/
  suspects : Nat := 0
  ring : List (F32 × Nat) := []
  count : Nat := 0
  /-- source value and capture time, network time run, of the last frame counted (R222) -/
  stepX : F32 := 0
  stepAt : Nat := 0
  /-- CONDITION set in the frame in progress (R249) -/
  condNew : Bool := false
  /-- crossing time of the latest activation, as a timestamp; 0 if none, and whether it was interpolated (R226, R249) -/
  cross : Nat := 0
  fine : Bool := false
  /-- crossing time of the frame in which the raw condition last set (R224) -/
  rawCross : Nat := 0
  /-- crossing offset, µs; none when not interpolated or not yet set (R224) -/
  offset : Option Int := none
  /-- the source was usable in the last evaluated frame, and failed under R223 in the last frame -/
  usable : Bool := false
  failed : Bool := false
  srcQ : Quality := .disabled
  srcV : F32 := 0
  /-- shelved until a time, network time run (R24, R231) -/
  shelf : Option Nat := none
  /-- taken out of service by a command -/
  oos : Bool := false
deriving DecidableEq, Repr

/-- Requests and messages that act in the next frame (R229): each stays until the frame that shows it is published. -/
inductive LiveKind where
  | weirAck (w : Nat)
  | weirShelve (w dur : Nat)
  | weirService (w : Nat) (out : Bool)
  | groupAck (g : Nat)
  | totalReset (slot : Nat)
  | outSet (ch : Nat) (v : F32)
  /-- chain, and the panel that accepts (node 255 for a culvert) -/
  | callAccept (chain node panel : Nat)
  | aoCommand (k v : Nat)
  | foReset (set_ : Nat)
  | chargeReset (ch : Nat)
  | rebase (enc mode : Nat) (v : BitVec 32)
  | cmpArm (enc : Nat) (p0 : BitVec 32) (spacing count dir : Nat)
  | cmpStop (enc : Nat)
  | duty (action member : Nat)
  | deadman (action : Nat)
  /-- SYS_ARM or SYS_SAFE, acting at the next tick (R397) -/
  | nodeState (arm : Bool)
deriving DecidableEq, Repr

/-- A live command with its origin code and, if a request waits for it, its flight. -/
structure LiveCmd where
  kind : LiveKind
  origin : Nat
  fl : Option Flight
  /-- role epoch the requester expected -/
  role : Nat := 0
  /-- it has been applied in the frame in progress: status code (Table 03.15), detail and payload to answer with -/
  applied : Option (Nat × Nat × List Byte) := none
  /-- the frame that was computed last shows it: its publication answers it -/
  shown : Bool := false
deriving DecidableEq, Repr

end Sys2Proof.Machine
end

