-- ==== Sys2Proof/Machine/StBus.lean ====
section
/-!
DEFINITION. The machinery bus and the network time (chapter 11).
-/

namespace Sys2Proof.Machine

/-- Controller states of Table 11.3. -/
inductive BusState where
  | off | listenOnly | errorActive | errorPassive | busOff | recovering
deriving DecidableEq, Repr

/-- What a frame in a transmit buffer is for: what its success, its clash or its timeout completes. -/
inductive TxRole where
  | timeRef (seq : Nat)
  | claim (defend : Bool)
  | goingDown
  /-- a segment of a culvert request; the flight that waits for the response -/
  | culvertReq (flight : Nat)
  | culvertRsp
  | other
  /-- a bus object's frame -/
  | object (obj : Nat)
deriving DecidableEq, Repr

/-- A frame pending in a transmit buffer (R293 to R296); `data` is the payload without its tag. -/
structure TxFrame where
  /-- extended (29-bit) identifier -/
  ext : Bool
  id : Nat
  data : List Byte
  /-- key slot of its tag, if it carries one (R322) -/
  key : Option Nat := none
  /-- local time since which it has been pending, and of the content it holds now (R295) -/
  since : Nat := 0
  put : Nat := 0
  role : TxRole := .other
  /-- contents replaced since it is pending, the latest first: since when each stood, and its role -/
  past : List (Nat × TxRole) := []
  /-- requests of BUS_OBJ_SEND that wait for it: the flight, and the local time of the content it came with -/
  asks : List (Nat × Nat) := []
  /-- consecutive clashes of its buffer (R296) -/
  clashes : Nat := 0
deriving DecidableEq, Repr

/-- A protocol frame as received (R297). -/
structure RxFrame where
  bus : Nat
  cls : Nat
  node : Nat
  index : Nat
  data : List Byte
  /-- its sync mark: local time, network time, and network time run (R24, R308) -/
  mark : Nat
  base : Nat := 0
  flow : Nat := 0
  /-- its tag has verified (R322) -/
  auth : Bool := false
deriving DecidableEq, Repr

/-- One controller with its buffers and health counts (Table 11.16). -/
structure BusCtl where
  state : BusState := .off
  tec : Nat := 0
  rec_ : Nat := 0
  errA : Nat := 0
  errD : Nat := 0
  dominant : Bool := false
  /-- dominant timeouts counted -/
  dominants : Nat := 0
  /-- the last commit that changed its entry: local time, and the state and transmit mode (`TRIO`) before it (R326) -/
  cut : Option (Nat × BusState × Bool) := none
  /-- bus-off instants of the last 60 s, local -/
  offTimes : List Nat := []
  offSince : Option Nat := none
  /-- end of BUS_OFF_HOLD -/
  holdEnd : Option Nat := none
  txCount : Nat := 0
  rxCount : Nat := 0
  overruns : Nat := 0
  busOffs : Nat := 0
  idClashes : Nat := 0
  authFails : Nat := 0
  txLate : Nat := 0
  txDelay : Nat := 0
  theta : Int := 0
  load : Nat := 0
  /-- pending node-protocol frames; the first eight stand in buffers 0–7 -/
  proto : List TxFrame := []
  /-- pending object frames, in the order in which they fell due -/
  objs : List TxFrame := []
  /-- nodes whose heartbeats have come on the other leg only (R318) -/
  legNodes : List Nat := []
  /-- ring overruns not yet logged, and the time of the last RX_OVERRUN record -/
  overPend : Nat := 0
  overLog : Option Nat := none
deriving DecidableEq, Repr

/-- A node's presence on one bus (R318, R319). -/
structure Presence where
  /-- receive time of the last heartbeat, network time run (R24) -/
  last : Option Nat := none
  /-- the node counts as present -/
  present : Bool := false
  /-- last node state heard, 0xFF never -/
  state : Nat := 0xFF
  /-- since when its heartbeats have been heard without a gap, network time run -/
  since : Nat := 0
deriving DecidableEq, Repr

/-- A TIME_REF taken on a bus, waiting for its follow-up (R308, R310). -/
structure RefMark where
  node : Nat
  seq : Nat
  /-- time base at the sync mark, ns -/
  mark : Nat
deriving DecidableEq, Repr

/-- Network time (R307 to R313). -/
structure NetTime where
  /-- Table 11.9: 0 FREE, 1 LOCKING, 2 LOCKED, 3 HOLDOVER -/
  state : Nat := 0
  /-- the node is the active time master -/
  isMaster : Bool := false
  /-- active master node and rank, as last heard -/
  master : Option (Nat × Nat) := none
  /-- network time has been taken since start-up -/
  taken : Bool := false
  /-- last TIME_REF heard, by bus -/
  refs : List (Option RefMark) := List.replicate 4 none
  /-- local time of the last TIME_FU, by bus -/
  lastFu : List (Option Nat) := List.replicate 4 none
  /-- consecutive TIME_FU delivered by the primary bus, and the reference sequence of the last (R311) -/
  primRun : Nat := 0
  primSeq : Nat := 0
  /-- the secondary time bus is in use -/
  onSecondary : Bool := false
  /-- consecutive references with |θ| ≤ 1 µs -/
  good : Nat := 0
  holdoverSince : Option Nat := none
  /-- the 10 s of holdover have passed -/
  holdoverOut : Bool := false
  /-- local time from which a candidate counts its silence (R309) -/
  silentSince : Nat := 0
  /-- local time from which the controllers have listened: a time bus that has delivered nothing is silent since then -/
  start : Nat := 0
  /-- next reference sequence, and the 100 ms instant last sent, as a multiple of network time (R307) -/
  nextRef : Nat := 0
  lastRef : Option Nat := none
  /-- local time of the last GEN_FREQ sent (R313) -/
  lastGen : Option Nat := none
  /-- network time run since which the node has been LOCKED, or since its last crystal measurement (R342) -/
  trimSince : Option Nat := none
  /-- time carried by the last authenticated TIME_FU accepted (R324) -/
  lastAuth : Nat := 0
  /-- fresh GEN_FREQ messages: node, frequency mHz, local receive time (R313) -/
  genFreq : List (Nat × Nat × Nat) := []
deriving DecidableEq, Repr

/-- Shadow of a receiving object (R299). -/
structure Shadow where
  data : List Byte := []
  /-- receive time of the last accepted frame, network time run (R24, R317) -/
  rx : Option Nat := none
  leg : Nat := 0
  seqLow : Nat := 0
  /-- network time run at which the object was enabled (Table 11.13) -/
  enabled : Nat := 0
  /-- transmitting object: fields and what ON_CHANGE compares, as the last published frame has them, and of the frame in
  progress (R315, R316) -/
  body : List Byte := []
  sig : List Byte := []
  nextBody : List Byte := []
  nextSig : List Byte := []
  /-- it fell due at the last tick; the flag says that the frame that ended there slipped -/
  due : Option Bool := none
deriving DecidableEq, Repr

/-- A bus value (R317). -/
structure BusValue where
  /-- value and quality as of the last capture -/
  val : F32 := 0
  q : Quality := .disabled
  /-- last accepted finite value -/
  last : F32 := 0
  node : Nat := 0xFF
  rx : Option Nat := none
deriving DecidableEq, Repr

/-- A transfer being reassembled (R321). -/
structure Reassembly where
  src : Nat
  transfer : Nat
  rsp : Bool
  bus : Nat
  count : Nat
  len : Nat
  segs : List (Nat × List Byte)
  /-- local time of the first segment -/
  first : Nat
  auth : Bool
  /-- complete: kept so that later copies of its segments are known as duplicates -/
  done : Bool := false
deriving DecidableEq, Repr

/-- The machinery bus as a whole. -/
structure BusSt where
  ctl : List BusCtl := List.replicate 4 {}
  /-- node ID in force (R303) -/
  nodeId : Nat := 0
  /-- claim period running, with its local end (R304) -/
  claimEnd : Option Nat := none
  duplicate : Bool := false
  net : NetTime := {}
  presence : List (List Presence) := List.replicate 4 (List.replicate 64 {})
  shadows : List Shadow := List.replicate 128 {}
  values : List BusValue := List.replicate 512 {}
  /-- match slots 0–7, each a queue of at most eight frames, and the frames spilled into the ring (R297) -/
  slots : List (List RxFrame) := List.replicate 8 []
  spill : List RxFrame := []
  ring : List Reassembly := []
  /-- local time of the last CULVERT_SEG_LOST record (R321) -/
  segLog : Option Nat := none
  /-- next transfer number to each destination (R320) -/
  transfers : List Nat := List.replicate 64 0
  /-- accepted tags: bus and identifier, freshness, tag, and the unit of time at acceptance (R323) -/
  replay : List (Nat × Nat × Nat × Nat) := []
  /-- last AUTH_FAIL record per identifier, local time -/
  authLog : List (Nat × Nat) := []
  /-- local time of the next heartbeat and the next reference mark handled -/
  lastHeartbeat : Option Nat := none
deriving DecidableEq, Repr

end Sys2Proof.Machine
end

