-- ==== Sys2Proof/Machine/StChan.lean ====
section
/-!
DEFINITION. The channels as inputs (chapters 05 and 06), the notch, calibration and the vibration capture.
-/

namespace Sys2Proof.Machine

/-- Where a channel stands in Table 05.13. -/
inductive BreakState where
  | none
  /-- noticed at the last capture -/
  | noticed
  | open_
deriving DecidableEq, Repr

/-- The filter engine's state for one channel (R124, R126). Histories stand newest first. -/
structure FiltSt where
  /-- last modulator bits, the run of equal bits and its bit (Table 05.1) -/
  last : List Bool := []
  run : Nat := 0
  runBit : Bool := false
  /-- bits that the integrators still stand cleared after an overload (Table 05.1) -/
  clear : Nat := 0
  /-- samples at 256 kS/s so far, modulo 8, and the inputs of the three half-band stages -/
  count : Nat := 0
  st0 : List Rat := []
  st1 : List Rat := []
  st2 : List Rat := []
  /-- 32 kS/s stream, ±2^30 at full scale, and how many samples came since the last capture -/
  xs : List Rat := []
  fresh : Nat := 0
  /-- outputs and delays of the `LATENCY` sections -/
  ys : List Rat := []
  biq : List (Rat × Rat) := []
  /-- samples still replaced after a source exchange (R156) -/
  hold : Nat := 0
  /-- the sample before the last exchange, and the first after its hold (R156) -/
  step : Option (Rat × Option Rat) := none
deriving DecidableEq, Repr

/-- The vibration chain of a channel (R159): delays of stages 2 and 3, the integral, the window newest first. -/
structure VibF where
  z : List (Rat × Rat) := []
  acc : Rat := 0
  win : List Rat := []
deriving DecidableEq, Repr

/-- What a capture puts into a channel, as the capture before left it: a slip takes the lost capture back (R51). -/
structure ChanRec where
  val : F32 := 0
  raw : Int := 0
  q : Quality := .disabled
  lastGood : F32 := 0
  sw0 : Bool := false
  sw1 : Bool := false
  sw0c : Bool := false
  sw1c : Bool := false
  held : Bool := false
  contact : Bool := false
  cand : Option (Bool × Nat) := none
  seqLow : Nat := 0
  bursts : List Int := []
  flags : Nat := 0
deriving DecidableEq, Repr

/-- One channel as an input, and its record (Tables 06.7 to 06.9). -/
structure ChanSt where
  val : F32 := 0
  /-- filtered raw, ±2^30 at full scale (R142) -/
  raw : Int := 0
  q : Quality := .disabled
  /-- last value published as GOOD or CAL_LOAD; 0.0 before there is one (R5) -/
  lastGood : F32 := 0
  /-- frames of settling left (R134) -/
  settle : Nat := 0
  /-- a filter restart applies at the next tick -/
  restart : Bool := false
  brk : BreakState := .none
  /-- local time of the break, and since when windows have been under threshold -/
  brkAt : Nat := 0
  okSince : Option Nat := none
  /-- modulator overload: polarity, and local time of the last overload; none when clear (R140) -/
  ovl : Option (Bool × Nat) := none
  /-- polarity of an overload since the last capture of the channel (R140) -/
  ovlNew : Option Bool := none
  /-- IEPE bias: open, shorted (R102) -/
  biasOpen : Bool := false
  biasShort : Bool := false
  sw0 : Bool := false
  sw1 : Bool := false
  sw0c : Bool := false
  sw1c : Bool := false
  held : Bool := false
  contact : Bool := false
  /-- class waiting for its debounce count: contact state and captures counted (R164) -/
  cand : Option (Bool × Nat) := none
  seqLow : Nat := 0
  cjDegraded : Bool := false
  /-- last GOOD or CAL_LOAD cold-junction temperature (R157) -/
  lastCj : F32 := 0
  calField : Bool := false
  calNone : Bool := false
  /-- CAL_LOAD logged in this configuration epoch (R146) -/
  calLoadLog : Bool := false
  /-- areas whose bad record has been logged in this epoch, bit per area -/
  calBadLog : Nat := 0
  /-- vibration: samples in the window since the restart; age in samples of the last sample beyond range -/
  fill : Nat := 0
  beyond : Option (Nat × Bool) := none
  /-- last eight stage-1 samples (R161) -/
  block : List F32 := List.replicate 8 0
  /-- source mismatches of the last exchanges, raw units, and whether the sources stand exchanged (R156) -/
  mismatch : List Int := []
  exchanged : Bool := false
  /-- local time of the last exchange -/
  exchAt : Option Nat := none
  /-- crossing stream of the last frame, engineering values, oldest first (R128) -/
  stream : List F32 := []
  /-- values of the last six bursts in ECONOMY (Table 05.6) -/
  bursts : List Int := []
  /-- LATENCY notch step: frames of SUSPECT left (R131) -/
  notchSuspect : Nat := 0
  filt : FiltSt := {}
  vibf : VibF := {}
  /-- flags of the record, taken with it (Table 06.8, R27) -/
  flags : Nat := 0
  /-- the record as the frame before left it -/
  last : ChanRec := {}
deriving DecidableEq, Repr

/-- The frequency source of the notch (Table 05.10). -/
inductive MainsSrc where
  | local_ | bus | held
deriving DecidableEq, Repr

/-- The generator-tracking notch (R130 to R132). -/
structure NotchSt where
  /-- tracked frequency, mHz -/
  ft : Nat := 60000
  src : MainsSrc := .local_
  /-- an excursion outside 40–70 Hz has been logged -/
  excursion : Bool := false
  /-- rejected cycles, the latest last -/
  rejected : List Nat := []
  /-- rejected messages on the bus source, and an excursion of theirs that has been logged -/
  busRejected : List Nat := []
  busOut : Bool := false
  /-- local cycles accepted in a row -/
  run : Nat := 0
  /-- local time of the last accepted local cycle -/
  lastOk : Nat := 0
  /-- f_t in force at the last tick: the coefficients of every channel are those of this frequency (R130) -/
  ftTick : Nat := 60000
  /-- local time of the last zero crossing, ns (R129) -/
  lastCross : Option Nat := none
  /-- the amplitude of `MAINS_REF` lies between 0.7 V and 14 V rms (R129) -/
  valid : Bool := true
deriving DecidableEq, Repr

/-- A calibration step under way (R182). -/
structure CalRun where
  /-- number that its waiting request names -/
  num : Nat
  chan : Nat
  step : Nat
  ref : F32
  /-- local time at which the average started; none before the next tick -/
  since : Option Nat
  /-- sum and count of x over the captures -/
  sum : Rat
  n : Nat
  /-- quality stayed GOOD or CAL_LOAD -/
  clean : Bool
  /-- the record waits for its churn since a local time, as NVM operation of a number -/
  churn : Option (Nat × Nat) := none
  /-- response to be given when the record is written -/
  rsp : List Byte := []
  /-- the record is written and waits for its tick -/
  written : Bool := false
deriving DecidableEq, Repr

/-- The low point of a calibration (R182, step 0). -/
structure CalLow where
  chan : Nat
  x : F32
  ref : F32
  tb : Int
  time : Nat
deriving DecidableEq, Repr

/-- The calibration partition and the steps under way. -/
structure CalSt where
  /-- calibration partition of the MRAM (Table 05.15) -/
  part : Mem := []
  runs : List CalRun := []
  nextRun : Nat := 0
  lows : List CalLow := []
  /-- field records changed, to apply at the next tick: partition in force -/
  inForce : Mem := []
deriving DecidableEq, Repr

/-- The vibration capture buffer (R184). -/
structure VibSt where
  /-- channel whose samples the buffer holds, frame sequence of its sample 0; recording goes on -/
  chan : Option Nat := none
  start : Nat := 0
  running : Bool := false
  /-- capture accepted whose start tick has not come: channel and frame sequence -/
  next : Option (Nat × Nat) := none
  samples : List F32 := []
  worst : Quality := .good
  origin : Nat := 0x40
deriving DecidableEq, Repr

end Sys2Proof.Machine
end

