-- ==== Sys2Proof/Machine/StDisp.lean ====
section
/-!
DEFINITION. The display engine and its charge pump (chapter 15).
-/

namespace Sys2Proof.Machine

open Sys2Proof

/-- A set of cells, bit n for cell SEGn. -/
abbrev Cells := BitVec 192

/-- Where the charge pump stands (R401, R402); a start carries its local instant, a discharge its local end. -/
inductive PumpState where
  | off
  | starting (at_ : Nat)
  | on
  | discharging (until_ : Nat)
deriving DecidableEq, Repr

/-- A request for a region: the cells it changes and their new states (R414). -/
structure DispReq where
  region : Nat
  cells : Cells
  dark : Cells
  blink : Cells
  /-- it has waited for its region or for a grant -/
  waiting : Bool
  /-- blinking cells that it drives to the half they show (R422) -/
  keep : Cells := 0
deriving DecidableEq, Repr

/-- A waveform under way in a region. -/
structure DispRun where
  toggle : Bool
  cells : Cells
  dark : Cells
  blink : Cells
  keep : Cells := 0
  band : Nat
  /-- local instants at which it starts and ends -/
  start : Nat
  ends : Nat
  /-- the band in force has left its band by two or more (R412) -/
  reband : Bool := false
deriving DecidableEq, Repr

/-- A drive of the node-not-live cell: to dark or light, its band, and its local start and end (R417). -/
structure CellRun where
  dark : Bool
  band : Nat
  start : Nat
  ends : Nat
deriving DecidableEq, Repr

/-- One region. -/
structure RegionSt where
  run : Option DispRun := none
  /-- pending blink toggle: its cells and whether they go dark -/
  toggle : Option (Cells × Bool) := none
  lastBand : Nat := 0
  reband : Bool := false
  /-- a class-3 claim is held; or granted for the next tick, its toggle (true) or its oldest request (R383, R415) -/
  budgetHeld : Bool := false
  granted : Option Bool := none
  /-- budgetHeld, granted and toggle as they stood before the last grants (R50) -/
  was : Bool × Option Bool × Option (Cells × Bool) := (false, none, none)
  updates : Nat := 0
  /-- local instant at which its last waveform ended -/
  endedAt : Nat := 0
deriving DecidableEq, Repr

/-- The display engine. -/
structure DispSt where
  pump : PumpState := .off
  reenable : Bool := false
  fault : Bool := false
  /-- no new start before a local time (R401) -/
  noStartUntil : Nat := 0
  /-- since when there has been nothing to drive, local -/
  idleSince : Option Nat := none
  temp : Int := 0
  band : Nat := 0
  tempOut : Bool := false
  fallback : Bool := false
  regions : List RegionSt := List.replicate 8 {}
  queue : List DispReq := []
  /-- the shown image: dark, blinking and unknown cells (R403) -/
  dark : Cells := 0
  blink : Cells := 0
  unknown : Cells := BitVec.allOnes 192
  /-- blink groups that stand in their dark half -/
  halves : List Bool := List.replicate 4 false
  dropped : Nat := 0
  /-- dropped as it stood before the last grants -/
  droppedWas : Nat := 0
  /-- node-not-live cell: a drive waits (to dark) or runs, what it was last driven to, and whether it stands so -/
  cellPend : Option Bool := none
  cellRun : Option CellRun := none
  cellDark : Bool := false
  cellKnown : Bool := false
  /-- level codes of Table 15.1 on SEG000 to SEG191 and on TPL -/
  seg : List Nat := List.replicate 192 5
  tpl : Nat := 5
deriving DecidableEq, Repr

end Sys2Proof.Machine
end

