-- ==== Sys2Proof/Machine/StEdge.lean ====
section
/-!
DEFINITION. Digital inputs, annunciator outputs and the node-healthy relay (chapter 17).
-/

namespace Sys2Proof.Machine

open Sys2Proof

/-- One digital input. -/
structure DiSt where
  /-- classified level, and the local time since which it holds -/
  level : Bool := false
  levelAt : Nat := 0
  /-- debounced level -/
  deb : Bool := false
  /-- local time since which the land lies below 1.0 V; a broken line -/
  lowAt : Option Nat := none
  broken : Bool := false
  /-- local time at which it was enabled -/
  enabledAt : Nat := 0
  /-- captured value and quality -/
  val : Bool := false
  q : Quality := .disabled
  /-- last value with a quality other than OPEN -/
  last : Bool := false
  changed : Bool := false
  /-- level ahead of the debounce through the 20 µs limit filter (R280) -/
  limit : Bool := false
deriving DecidableEq, Repr

/-- One annunciator output. -/
structure AoSt where
  /-- last IO_AO_COMMAND: 0 off, 1 on, 2 pulsed -/
  cmd : Nat := 0
  /-- command of the frame: on, pulsed -/
  on : Bool := false
  pulsed : Bool := false
  /-- granted by the headgate; what applies at the tick -/
  granted : Bool := false
  appliedOn : Bool := false
  appliedPulsed : Bool := false
  budgetHeld : Bool := false
  fault : Nat := 0
  /-- local time at which the condition of `fault` last held -/
  faultAt : Nat := 0
  /-- the condition of fault 1 or 3 in the last sample, with the land on or off, and the local time since which it holds -/
  cond : Nat := 0
  condOn : Bool := false
  condAt : Nat := 0
  /-- local times of the last overloads -/
  overloads : List Nat := []
  /-- switched off by a protection until a local time -/
  offUntil : Option Nat := none
  /-- fault 4 waits for a command off, and then for one on -/
  latched : Bool := false
  released : Bool := false
  current : Nat := 0
deriving DecidableEq, Repr

/-- NOK_DRV (R454, R455). -/
structure NokSt where
  on : Bool := false
  coilFault : Bool := false
  current : Nat := 0
  /-- local time since which the coil of the driver that is on draws less than 5 mA -/
  lowAt : Option Nat := none
deriving DecidableEq, Repr

end Sys2Proof.Machine
end

