-- ==== Sys2Proof/Machine/StGroup.lean ====
section
/-!
DEFINITION. Alarm groups, first-out sets, call chains, the duty roster and the dead-man timer (chapter 09).
-/

namespace Sys2Proof.Machine

open Sys2Proof

/-- Suppression states of Table 09.2; a release timer carries its end in network time run (R24, R241). -/
inductive SuppState where
  | running | suppressing
  | releasing (until_ : Nat)
deriving DecidableEq, Repr

/-- One alarm group. -/
structure GroupSt where
  supp : SuppState := .running
  /-- a failed source has been logged with FAIL_HOLD set -/
  faultLogged : Bool := false
  changed : Bool := false
  /-- aggregate state code, leading category byte, counts of Table 09.4 -/
  agg : Nat := 0
  lead : Nat := 0
  unack : Nat := 0
  active : Nat := 0
  faults : Nat := 0
  masked : Nat := 0
deriving DecidableEq, Repr

/-- A first-out candidate: node, weir, role epoch, crossing time (timestamp format), resolution in µs. -/
structure FoCand where
  node : Nat
  weir : Nat
  role : Nat
  ts : Nat
  res : Nat
deriving DecidableEq, Repr

/-- A decision received from the home node, to be adopted at the next tick (Table 09.8). -/
structure FoDecision where
  first : FoCand
  runner : Option (Nat × Nat)
  count : Nat
  ambiguous : Bool
  degraded : Bool
  late : Bool
deriving DecidableEq, Repr

/-- States of Table 09.8. -/
inductive FoState where
  | idle | open_ | decided
deriving DecidableEq, Repr

/-- One first-out set. -/
structure FoSt where
  state : FoState := .idle
  first : Option FoCand := none
  runner : Option FoCand := none
  count : Nat := 0
  ambiguous : Bool := false
  degraded : Bool := false
  late : Bool := false
  homeAbsent : Bool := false
  /-- end of the window, network ns -/
  windowEnd : Nat := 0
  /-- steps of the time base while the set was open, summed, ns (R24) -/
  shift : Int := 0
  /-- candidates taken since the set opened: a second copy of one, from another bus, is none of its own (R250) -/
  seen : List FoCand := []
  /-- a reset that applies at a network instant (ns), with its origin -/
  resetAt : Option (Nat × Nat) := none
  /-- capture time, network time run, since which every member has been quiet (AUTO_RESET) -/
  quiet : Option Nat := none
  adopt : Option FoDecision := none
  /-- FIRST_OUT_MISMATCH logged in this configuration epoch -/
  mismatch : Bool := false
deriving DecidableEq, Repr

/-- States of Table 09.12. -/
inductive ChainState where
  | idle | calling | accepted
deriving DecidableEq, Repr

/-- One call chain. -/
structure ChainSt where
  state : ChainState := .idle
  stage : Nat := 0
  /-- network time run at which the stage or accept timer started (R24, R241) -/
  since : Nat := 0
  /-- calling weirs in the last frame, the most urgent calling category, an EMERGENCY weir among them -/
  weirs : Nat := 0
  cat : Nat := 3
  emergency : Bool := false
  /-- forced to its last stage by the dead-man alarm (Table 09.14) -/
  forced : Bool := false
  /-- panel (node, index) whose call is silenced -/
  silenced : List (Nat × Nat) := []
  /-- network time run of the next CALL message -/
  nextCall : Option Nat := none
  /-- cancel messages still to send, and the network time run of the next (R301) -/
  cancels : Nat := 0
  nextCancel : Nat := 0
deriving DecidableEq, Repr

/-- A pending handover (R260). -/
structure Handover where
  member : Nat
  since : Nat
  confirmed : Bool := false
deriving DecidableEq, Repr

/-- Duty roster. -/
structure DutySt where
  duty : Option Nat := none
  pending : Option Handover := none
deriving DecidableEq, Repr

/-- Dead-man states, in the order of Table 09.14. -/
inductive DeadState where
  | disarmed | running | prewarn | alarm
deriving DecidableEq, Repr

/-- The dead-man timer. -/
structure DeadSt where
  state : DeadState := .disarmed
  /-- armed by DEADMAN action 0 -/
  armed : Bool := false
  /-- network time run at which the timer started (R24, R241) -/
  since : Nat := 0
  /-- DEADMAN_RESET_FAULT logged for the present failure of the reset DI -/
  faultLogged : Bool := false
deriving DecidableEq, Repr

/-- What the edge rules of R247 and R261 keep of a DI: the value of the last capture and whether it was usable. -/
structure ButtonSt where
  last : Bool := false
  usable : Bool := false
  /-- network time run since which it has stood at 1.0 -/
  high : Option Nat := none
  /-- ACK_BUTTON_STUCK logged; it acts again only after it has been at 0.0 -/
  stuck : Bool := false
deriving DecidableEq, Repr

end Sys2Proof.Machine
end

