-- ==== Sys2Proof/Machine/StOut.lean ====
section
/-!
DEFINITION. Loop outputs and the FSK modems (chapter 07).
-/

namespace Sys2Proof.Machine

open Sys2Proof

/-- Where an output's driver stands (R198, R200). -/
inductive DriveState where
  /-- driver off and high-impedance -/
  | off
  /-- at its safe action -/
  | safe
  /-- following its source -/
  | run
  /-- held by source fault at the safe action of this channel only -/
  | fault
  /-- ramping down, since a local time, from an applied command -/
  | rampDown (since : Nat) (from_ : F32)
  /-- land beyond range: driver off (R107) -/
  | landOff
deriving DecidableEq, Repr

/-- One loop output. Commands are in the physical unit (mA, or V for V_OUT_10). -/
structure OutSt where
  drive : DriveState := .off
  /-- function code the driver works in (0x10–0x12), zero when none -/
  func : Nat := 0
  /-- culvert set point, engineering unit; none stands for the preset (R188) -/
  setPoint : Option F32 := none
  /-- command computed from the source, and the one granted and applied -/
  target : F32 := 0
  applied : F32 := 0
  /-- a command has been applied since the reset (R199) -/
  hasCmd : Bool := false
  /-- the source gave no command yet since the output started (R198) -/
  waiting : Bool := true
  srcFault : Bool := false
  budgetHeld : Bool := false
  heldLogged : Bool := false
  /-- `budgetHeld` before the grants of the frame in progress (R50) -/
  wasHeld : Bool := false
  /-- `target`, `waiting` and `srcFault` before the frame in progress took the sources (R50) -/
  was : F32 × Bool × Bool := (0, true, false)
  reenable : Bool := false
  /-- computed for the next tick: step 6 result -/
  next : F32 := 0
  /-- measured at the last capture: read-back µA (or 10 µV steps for V_OUT_10), lands mV, headroom mV -/
  rb : Int := 0
  /-- calibrated read-back, physical unit (R190) -/
  y : F32 := 0
  vA : Int := 0
  vB : Int := 0
  h : Int := 0
  /-- driver dissipation, µW -/
  diss : Nat := 0
  demand : Nat := 0
  /-- COMPLIANCE condition; since when h has been low, since when good, when last left (local times) -/
  compl : Bool := false
  lowSince : Option Nat := none
  goodSince : Option Nat := none
  leftAt : Option Nat := none
  /-- declared open; since when the read-back has been below 0.5 mA; next probe and whether one runs -/
  isOpen : Bool := false
  openSince : Option Nat := none
  probeAt : Nat := 0
  probing : Bool := false
  /-- OVER of R195, and since when -/
  overCur : Bool := false
  overSince : Option Nat := none
deriving DecidableEq, Repr

/-- States of Table 07.10. -/
inductive FskState where
  | queued | attach | send | wait_ | retry
deriving DecidableEq, Repr

/-- One FSK transaction. -/
structure FskTx where
  fl : Flight
  chan : Nat
  role : Nat
  state : FskState := .queued
  retries : Nat := 0
  attempts : Nat := 0
  /-- local time at which the present state was entered -/
  since : Nat := 0
deriving DecidableEq, Repr

/-- A modem (R203 to R209). -/
structure ModemSt where
  queue : List FskTx := []
  /-- burst listening: channel, origin code, role epoch of the channel -/
  burst : Option (Nat × Nat × Nat) := none
  accepted : Nat := 0
  missed : Nat := 0
  lastFrame : List Byte := []
  lastTime : Nat := 0
  /-- channel the modem is attached to, and the local time at which its attachment is complete (R204) -/
  attached : Option Nat := none
  attachAt : Nat := 0
  /-- request frame last sent, preamble included (Table 07.9) -/
  sent : List Byte := []
  /-- local end of the modem's own last exchange, by channel position -/
  lastOwn : List (Option Nat) := List.replicate 8 none
  /-- local time of the last carrier seen, by channel position -/
  carrier : List Nat := List.replicate 8 0
  /-- local end of the last accepted burst frame -/
  burstEnd : Option Nat := none
deriving DecidableEq, Repr

end Sys2Proof.Machine
end

