-- ==== Sys2Proof/Machine/StPos.lean ====
section
/-!
DEFINITION. Encoder channels and compare units (chapter 10).
-/

namespace Sys2Proof.Machine

open Sys2Proof

/-- The compare unit of a channel (R277, R278, Table 10.9). -/
structure CmpSt where
  armed : Bool := false
  /-- next point P and first point P0, position counts modulo 2^32 -/
  point : BitVec 32 := 0
  first : BitVec 32 := 0
  spacing : Nat := 1
  rev : Bool := false
  /-- pulses left; none stands for unlimited -/
  left : Option Nat := none
  /-- pulses fired since arming, modulo 65,536 -/
  fired : Nat := 0
  behind : Bool := false
  overrun : Bool := false
  missed : Nat := 0
  done : Bool := false
  /-- WAIT: p must first return behind P -/
  mustReturn : Bool := false
  /-- the arming check falls due at the tick at hand -/
  check : Bool := false
  /-- P, S and direction are those of `POS_CMP_ARM`, not the entry's (R283) -/
  volatile : Bool := false
  /-- p has moved onto P and the pulse is due, with local and network time of the pin edge -/
  hit : Option (Nat × Nat) := none
  /-- local end of the pulse under way -/
  pulseEnd : Option Nat := none
  /-- local end of the 1 µs after a pulse -/
  guardEnd : Nat := 0
  /-- the land is switched off for overload until a local time -/
  overload : Option Nat := none
  /-- the compare land is driven high -/
  level : Bool := false
deriving DecidableEq, Repr

/-- A latch (R279): p, network time in ns, trigger, rebase generation. -/
structure LatchRec where
  p : BitVec 32
  net : Nat
  trigger : Nat
  gen : Nat
deriving DecidableEq, Repr

/-- An SSI read (R272 to R274). -/
structure SsiSt where
  /-- read under way: latch time, local and network ns, and the sequence of its tick -/
  reading : Option (Nat × Nat × Nat) := none
  /-- a completed read to be published at the next tick: position bits or none if it failed, latch local, latch net -/
  complete : Option (Option Nat × Nat × Nat) := none
  err : Bool := false
  fails : Nat := 0
  /-- a failed read at the last capture -/
  failedNow : Bool := false
deriving DecidableEq, Repr

/-- One encoder channel. -/
structure EncSt where
  counter : BitVec 32 := 0
  c : BitVec 32 := 0
  /-- index reference r -/
  ref : BitVec 32 := 0
  referenced : Bool := false
  refPending : Option (BitVec 32) := none
  drift : BitVec 32 := 0
  indexSlip : Bool := false
  lastDrift : Option (BitVec 32) := none
  quadErr : Bool := false
  errors : Nat := 0
  lineFault : Bool := false
  a : Bool := false
  b : Bool := false
  forward : Bool := false
  /-- last counting edge, or last passing SSI latch: p, local ns, network ns -/
  edge : Option (BitVec 32 × Nat × Nat) := none
  /-- the pairs held at the last captures, newest first (R275) -/
  hist : List (BitVec 32 × Nat) := []
  v : F32 := 0
  zeroSpeed : Bool := false
  /-- captures since the channel was enabled or its last OPEN ended -/
  age : Nat := 0
  posVal : F32 := 0
  spdVal : F32 := 0
  posQ : Quality := .disabled
  spdQ : Quality := .disabled
  lastGood : F32 := 0
  /-- p as captured -/
  p : BitVec 32 := 0
  /-- a rebase applied at the tick of the capture; one since the last capture -/
  rebased : Bool := false
  rebasedNow : Bool := false
  indexSeen : Bool := false
  /-- an index edge since the last capture -/
  indexNow : Bool := false
  gen : Nat := 0
  fifo : List LatchRec := []
  dropped : Nat := 0
  overflow : Bool := false
  lastLatch : Option LatchRec := none
  /-- latch triggers that have occurred and not been recorded yet: trigger, p, network ns -/
  trigs : List (Nat × BitVec 32 × Nat) := []
  seqLow : Nat := 0
  ssi : SsiSt := {}
  cmp : CmpSt := {}
deriving DecidableEq, Repr

end Sys2Proof.Machine
end

