-- ==== Sys2Proof/Machine/StSec.lean ====
section
/-!
DEFINITION. Lifecycle, keys, firmware slots, boot and debug (chapter 16).
-/

namespace Sys2Proof.Machine

open Sys2Proof

/-- Lifecycle states, codes of Table 03.5. -/
inductive Lifecycle where
  | blank | provisioned | fielded | returned
deriving DecidableEq, Repr

/-- States of a firmware slot, in the order of Table 16.4. -/
inductive SlotState where
  | empty | incomplete | trial | valid | failed
deriving DecidableEq, Repr

/-- A firmware slot (R429 to R433): its state and security version in the boot directory, and its flash content. -/
structure FwSlot where
  state : SlotState := .empty
  version : Nat := 0
  /-- header and ciphertext; a byte not listed is zero -/
  data : Mem := []
  /-- the slot holds the image Seluik loaded at manufacture, whose bytes the spec does not give -/
  factory : Bool := false
deriving DecidableEq, Repr

/-- A boot directory record (Table 16.4), but for its constants. -/
structure DirRec where
  seq : Nat
  preferred : Nat
  /-- state and security version of slots A and B -/
  slots : List (SlotState × Nat)
deriving DecidableEq, Repr

/-- A root key block of the boot directory sector (Table 16.4a): as Seluik wrote it, or key and magic found there. -/
inductive RootBlock where
  | seluik
  | other (key : BitVec 512) (magic : Nat)
deriving DecidableEq, Repr

/-- The device identity key with its certificate (Table 16.3): none yet, of a module delivered in PROVISIONED, or made by the
key engine with a random draw, and the certificate stored with it. -/
inductive Identity where
  | none
  | factory
  | made (draw : Nat) (cert : List Byte)
deriving DecidableEq, Repr

/-- A firmware update in progress (R433). -/
structure FwUpdate where
  slot : Nat
  len : Nat
  /-- sectors still to be erased -/
  eraseLeft : Nat
  /-- bytes loaded; in `mask` a byte that has been loaded counts 1 -/
  buffer : Mem := []
  mask : Mem := []
deriving DecidableEq, Repr

/-- Debug levels. -/
inductive DbgLevel where
  | none | observe | full
deriving DecidableEq, Repr

/-- An open debug session (R436 to R440). -/
structure Session where
  level : DbgLevel
  /-- FULL_PENDING lapses at a local time (R438) -/
  pendingUntil : Option Nat := none
  signer : Nat
  serial : Nat
  /-- flags of the certificate -/
  flags : Nat
  /-- end of the window, µs of network time -/
  notAfter : Nat
  key : BitVec 256
  /-- access counter of `DBG_ACCESS` -/
  counter : Nat := 0
  /-- local time of the last tagged operation -/
  lastOp : Nat
  wrongTags : Nat := 0
deriving DecidableEq, Repr

/-- Instructions of the TAP (Table 16.6). -/
inductive TapInstr where
  | idcode | sample | extest | mailbox | access | bypass
deriving DecidableEq, Repr

/-- The TAP, the mailbox and the sessions. -/
structure DebugSt where
  instr : TapInstr := .idcode
  /-- last word the selected data register shifted out -/
  dataOut : Nat := 0
  boundary : Nat := 0
  /-- EXTEST drives the logic-die lands -/
  extest : Bool := false
  /-- challenge given: the nonce and the ephemeral private key -/
  challenge : Option (BitVec 256 × Nat) := none
  refused : Nat := 0
  /-- HELLO is ignored until a local time -/
  ignoreUntil : Nat := 0
  session : Option Session := none
  /-- messages of the node not yet read: type and content -/
  out : List (Nat × List Byte) := []
  /-- result of the last DBG_ACCESS operation -/
  accessOut : Nat := 0
  /-- halted processors: bit 0 supervisor, bits 1 and 2 frame processors -/
  halted : Nat := 0
  /-- halts asked for while the node is still ARMED: they act once it is SAFE (R437) -/
  haltPend : Nat := 0
  /-- words written to the memory spaces 1 and 2: space, address, word -/
  words : List (Nat × Nat × Nat) := []
  /-- HALT_ON_RESET keeps the session over this reset, and the processors halt after the secure boot -/
  haltOnBoot : Bool := false
deriving DecidableEq, Repr

/-- Keys, fuses, firmware and debug. -/
structure SecSt where
  life : Lifecycle := .provisioned
  requireOwner : Bool := false
  /-- security version fuses blown -/
  fusedVersion : Nat := 0
  /-- owner key slots: X then Y -/
  owner : List (Option (BitVec 512)) := List.replicate 2 none
  /-- bus key slots, and a new key that takes effect at the next tick -/
  bus : List (Option (BitVec 256)) := List.replicate 4 none
  busNext : List (Nat × Option (BitVec 256)) := []
  identity : Identity := .factory
  /-- root key blocks A and B, which station firmware never writes (R429) -/
  rootBlocks : List RootBlock := [.seluik, .seluik]
  /-- boot directory: the copy in force (0 at 0x0000, 1 at 0x8000), and the other copy where it is valid -/
  dirAt : Nat := 0
  dirOld : Option DirRec := none
  /-- the record in force: sequence, preferred slot; the slots' states and versions stand with the slots -/
  dirSeq : Nat := 0
  preferred : Nat := 0
  slots : List FwSlot := [{ state := .valid, factory := true }, {}]
  /-- trial attempts left -/
  attempts : Nat := 0
  /-- slot that runs -/
  running : Nat := 0
  /-- the running slot is on trial, and the ROM took one of its attempts for this start -/
  onTrial : Bool := false
  /-- that attempt is given back once station firmware runs (R431) -/
  giveBack : Bool := false
  /-- what the ROM found, for station firmware to log: code, severity, parameters (R430, R431) -/
  bootNotes : List (Nat × Nat × Nat × Nat) := []
  update : Option FwUpdate := none
  /-- part of the erasure of R425 in progress (1 to 3) and sectors left of part 3 -/
  erasure : Option (Nat × Nat) := none
  dbg : DebugSt := {}
deriving DecidableEq, Repr

end Sys2Proof.Machine
end

