-- ==== Sys2Proof/Machine/StTime.lean ====
section
/-!
DEFINITION. The backup domain (chapter 12) and the power management state (chapter 14).
-/

namespace Sys2Proof.Machine

/-- A stamp of an event input (R346). -/
structure Stamp where
  /-- timestamp in the format of Table 13.2 -/
  ts : Nat
  rising : Bool
deriving DecidableEq, Repr

/-- One event input of the backup domain (Tables 12.10, 12.11). -/
structure EvtSt where
  cfg : BitVec 32 := 0
  /-- stamps, oldest first, at most eight (R347) -/
  stack : List Stamp := []
  lost : Nat := 0
  level : Bool := false
deriving DecidableEq, Repr

/-- A set waiting for its second boundary (R336). -/
structure PendSet where
  /-- UTC count the calendar takes at the boundary -/
  utc : Nat
  /-- zone in 15 min -/
  zone : Int
  dst : Bool
  /-- UTC count, before the set, of the boundary at which it applies -/
  due : Nat
deriving DecidableEq, Repr

/-- A summer-time command waiting for its boundary (R340). -/
structure PendDst where
  fwd : Bool
  due : Nat
  /-- code of the origin (R491) -/
  origin : Nat
deriving DecidableEq, Repr

/-- The backup domain (R331 to R350). The calendar is the UTC count and the sub-second count in one number of
1/32,768 s; the local fields follow from it, `zone` and `dst` (R337). -/
structure BkpSt where
  /-- UTC count × 32,768 + sub-second count -/
  cyc : Nat := 0
  /-- fraction of a count not yet counted, in units of 10^-17 counts (R341) -/
  frac : Nat := 0
  /-- counts that have run while the calendar stands at its end (R338): second boundaries go on with them -/
  held : Nat := 0
  /-- time of the `BKP` clock, untrimmed, in 10^-17 s: what the periodic wake counts in (R345) -/
  age : Nat := 0
  /-- events of the domain that station firmware has not logged yet: code, severity, parameters -/
  notes : List (Nat × Nat × Nat × Nat) := []
  zone : Int := 0
  dst : Bool := false
  /-- RTC_SEC to RTC_ZONE as the last copy left them (Table 12.3) -/
  snap : List Nat := [0, 0, 0, 6, 1, 1, 0, 0x20, 0, 0]
  /-- RTC_SET_SEC to RTC_SET_ZONE; the weekday and sub-second places stay zero -/
  stage : List Nat := [0, 0, 0, 0, 1, 1, 0, 0x20, 0, 0]
  pendSet : Option PendSet := none
  pendDst : Option PendDst := none
  autoTrim : Bool := false
  /-- RTC_TRIM, 0.01 ppm -/
  trim : Int := 0
  wakeEn : Bool := false
  interval : Nat := 0
  /-- next expiry of the periodic wake, in `age` -/
  wakeDue : Option Nat := none
  errKind : Nat := 0
  evtWake : Bool := false
  wake : Bool := false
  timeValid : Bool := false
  range : Bool := false
  dateErr : Bool := false
  oscFail : Bool := false
  vbatLow : Bool := false
  lost : Bool := true
  onRc : Bool := false
  evts : List EvtSt := List.replicate 4 {}
  /-- the supply has fallen below retention and the domain has not restarted (R332) -/
  down : Bool := false
  /-- the domain has restarted since the last start-up logged it -/
  restarted : Bool := true
  /-- VBAT as last measured, mV -/
  vbatMv : Nat := 0
deriving DecidableEq, Repr

/-- Node states, codes of Table 02.5. -/
inductive NodeState where
  | off | backup | standby | starting | armed | safe | holdup
deriving DecidableEq, Repr

/-- Where the start-up timeline stands (Table 14.10). -/
inductive StartStage where
  /-- waiting for the secure boot -/
  | rails
  /-- firmware accepted, self-test to come -/
  | booted
  /-- self-test passed, configuration to be restored -/
  | tested
  /-- configuration restored, culverts ready -/
  | restored
  /-- no slot was acceptable: the ROM serves the recovery port (R432) -/
  | recovery
deriving DecidableEq, Repr

/-- Where the HOLDUP sequence stands (Table 14.11). -/
inductive HoldupPhase where
  | none | running | shed
deriving DecidableEq, Repr

/-- Power management and node state (chapter 14). -/
structure PowerSt where
  state : NodeState := .starting
  /-- cause of the last state change, Table 14.9 -/
  cause : Nat := 9
  stage : StartStage := .rails
  /-- local time at which the start-up timeline began -/
  startAt : Nat := 0
  /-- local time from which the core rails are up (Table 14.10) -/
  railsAt : Nat := 5000000
  /-- SYS_SAFE was accepted in STARTING -/
  startSafe : Bool := false
  holdup : HoldupPhase := .none
  /-- PWR_STANDBY accepted: the node enters STANDBY at the next tick -/
  standbyPend : Bool := false
  /-- standby dwell, s (R389) -/
  dwell : Nat := 0
  /-- local time of the last entry to ARMED -/
  armedSince : Option Nat := none
  /-- VSHIP is below the FAIL threshold (R369) -/
  dip : Bool := false
  /-- VSHIP stands at or above its ON threshold -/
  vshipOn : Bool := true
  /-- measured values, taken at each capture (R370, R376, R382) -/
  vshipMv : Nat := 0
  holdMv : Nat := 0
  inMw : Nat := 0
  dissMw : Nat := 0
  inMa : Nat := 0
  chargeMa : Nat := 0
  chargeMw : Nat := 0
  /-- case temperature, dissipation and input power filtered with 1 s (R381, R385); exact values -/
  caseT : Rat := 0
  dissF : Rat := 0
  inF : Rat := 0
  /-- the filters have taken a first value -/
  filtOn : Bool := false
  /-- C and ESR of the last test, 10 µF and mΩ (R374) -/
  cTest : Nat := 0
  esrTest : Nat := 0
  /-- lower C by the ledger until the next test (R375) -/
  cLedger : Option Nat := none
  measured : Bool := false
  degraded : Bool := false
  absent : Bool := false
  belowReserve : Bool := false
  /-- the charger is on: HOLD has not reached its target, or has fallen 0.25 V below it since (R372) -/
  charging : Bool := false
  /-- HOLD has reached its target and not fallen 0.25 V below it -/
  full : Bool := false
  /-- current to which the charger is set, mA (R372) -/
  chargeSet : Nat := 0
  inputLimited : Bool := false
  /-- local time since which the power die sees more than 2.1 A in the AOs together (R452) -/
  aoOver : Option Nat := none
  /-- the input limit: charge power it takes away, and power it draws from HOLD, mW (R370) -/
  peakCut : Nat := 0
  peakHold : Nat := 0
  headgateOver : Bool := false
  /-- ceiling that classes 0 and 1 alone exceed: 1 input power, 2 dissipation (R385) -/
  overCeil : Nat := 0
  derating : Bool := false
  /-- local time of the last INPUT_PEAK_LIMIT record -/
  lastPeak : Option Nat := none
  /-- a step test is due; one runs -/
  testDue : Bool := false
  testRun : Bool := false
  /-- local time of the last test and its timestamp -/
  testAt : Option Nat := none
  testTs : Nat := 0
  /-- local time at which charging started (R377) -/
  chargeFrom : Option Nat := none
  /-- the headgate has granted the test that is due -/
  testOk : Bool := false
  /-- the headgate has granted the flash write that runs or comes next (R383) -/
  flashOk : Bool := false
  /-- energy ledger: a step runs; charge energy less loss since its start (nJ), and its start voltage (mV) -/
  ledgerOn : Bool := false
  ledgerNj : Nat := 0
  ledgerMv : Nat := 0
  /-- usable energy at the last capture, µJ (R376) -/
  euUj : Nat := 0
  /-- charge power granted, mW -/
  chargeGrant : Nat := 0
  /-- outputs shed, channel indices, in order of shedding (R385) -/
  shed : List Nat := []
  /-- local time of the last shedding -/
  lastShed : Option Nat := none
  /-- classes with a held claim (Table 14.15) -/
  heldClasses : Nat := 0
  /-- input power granted per class, mW -/
  granted : List Nat := List.replicate 6 0
  /-- STANDBY: the banks shut down once the node-not-live cell is dark (R417) -/
  banksPend : Bool := false
  /-- the node enters SAFE at the next tick, with its cause of Table 14.9 (R53, R82, R437) -/
  safePend : Option Nat := none
  /-- chargeGrant, testOk, flashOk and shed as they stood before the last grants (R50) -/
  was : Nat × Bool × Bool × List Nat := (0, false, false, [])
deriving DecidableEq, Repr

end Sys2Proof.Machine
end

