-- ==== Sys2Proof/Machine/State.lean ====
section
/-!
DEFINITION. State: everything the spec gives the node, and the queue of commands that wait.
-/

namespace Sys2Proof.Machine

open Sys2Proof

/-- Why the node stops: raised only where the spec gives no effect. -/
inductive Fault where
  /-- A command names a unit beyond the counts of Table 01.2, which the node does not have (R10). Raised by every
  meaning that takes a unit index as an operand of an event of the outside world; safe: the event cannot occur. -/
  | noSuchUnit
deriving DecidableEq, Repr

/-- Why a command has no meaning. -/
inductive Refusal where
  /-- The command has no meaning yet. Raised by the dispatcher only; safe. -/
  | notModelled (mnemonic : String)
deriving DecidableEq, Repr

/-- What steps 3 to 5 compute from frame to frame: a frame that slips discards its changes (R50). -/
structure Eng where
  blends : List BlendSt := List.replicate 256 {}
  weirs : List WeirSt := List.replicate 1024 {}
  groups : List GroupSt := List.replicate 128 {}
  fo : List FoSt := List.replicate 32 {}
  /-- first-out candidates received and not yet taken: set and candidate (R250) -/
  foIn : List (Nat × FoCand) := []
  chains : List ChainSt := List.replicate 16 {}
  duty : DutySt := {}
  dead : DeadSt := {}
  /-- button edges of the DI (R247, R261) -/
  buttons : List ButtonSt := List.replicate 16 {}
deriving DecidableEq, Repr

/-- A message the frame in progress sends once it is published: controller, priority, class, index, payload. -/
structure FrameMsg where
  bus : Nat
  prio : Nat
  cls : Nat
  index : Nat
  body : List (BitVec 8)
deriving DecidableEq, Repr

/-- Resets (R457, R458, R474). -/
structure ResetSt where
  /-- reset cause, Table 17.7 and the flags of R458 -/
  cause : Nat := 0x801
  /-- RESET_N is low -/
  low : Bool := false
  /-- the node is held in reset by RESET_N -/
  held : Bool := false
  /-- local time at which the last reset ended (R59) -/
  endAt : Nat := 0
  /-- local time at which the clock was lost, while the NVM controller completes its operation before the reset (R17) -/
  clockLoss : Option Nat := none
  /-- local time of a culvert-commanded reset that waits until its `GOING_DOWN` has gone out (R301, R459) -/
  dueAt : Option Nat := none
deriving DecidableEq, Repr

/-- The node. -/
structure State where
  clk : ClkSt := {}
  frame : FrameSt := {}
  host : HostSt := {}
  cfg : CfgSt := {}
  nvm : NvmSt := {}
  log : LogSt := {}
  bkp : BkpSt := {}
  pwr : PowerSt := {}
  rst : ResetSt := {}
  bus : BusSt := {}
  banks : List BankSt := List.replicate 8 {}
  chans : List ChanSt := List.replicate 64 {}
  outs : List OutSt := List.replicate 64 {}
  modems : List ModemSt := List.replicate 8 {}
  notch : NotchSt := {}
  cal : CalSt := {}
  vib : VibSt := {}
  eng : Eng := {}
  /-- the engines as the last published frame left them -/
  prev : Eng := {}
  /-- records and messages of the frame in progress, which its publication releases -/
  frameRecs : List Rec := []
  frameMsgs : List FrameMsg := []
  /-- live commands, in the order in which they were taken (R229) -/
  live : List LiveCmd := []
  encs : List EncSt := List.replicate 8 {}
  disp : DispSt := {}
  dis : List DiSt := List.replicate 16 {}
  aos : List AoSt := List.replicate 8 {}
  nok : NokSt := {}
  sec : SecSt := {}
  /-- draws taken so far from the free values (a field of the model, not of the spec) -/
  free : Nat := 0
  /-- commands that wait, first in, first out -/
  pending : List Instr := []
deriving DecidableEq, Repr

/-- The node right after reset: power has just been applied, and start-up has begun (Table 14.10); RESTARTED is set
(R458). -/
def State.reset : State := { host := { irqStat := 0x800 } }

end Sys2Proof.Machine
end

