-- ==== Sys2Proof/Machine/Ops.lean ====
section
/-!
DEFINITION. Operations every family shares: the clocks, timestamps, event records, tags and responses, the order of the
NVM controller, free values.
-/

namespace Sys2Proof.Machine

open Sys2Proof

/-! ## Clocks -/

/-- The last local second of the calendar, 2399-12-31 23:59:59, in seconds from 2000-01-01T00:00:00 (R338). -/
def calendarEnd : Nat := 146097 * 86400 - 1

/-- Seconds the local calendar is ahead of UTC (R337). -/
def BkpSt.offset (b : BkpSt) : Int := b.zone * 900 + (if b.dst then 3600 else 0)

/-- The count at which the calendar holds: local time at its end, sub-second count 32,767 (R338). -/
def BkpSt.endCyc (b : BkpSt) : Nat := (((calendarEnd : Int) - b.offset) * 32768 + 32767).toNat

/-- Rate of the `BKP` clock in parts of 10^8: the crystal, or the RC oscillator within ±5 % (R333). -/
def BkpSt.pace (b : BkpSt) : Nat := if b.onRc then 95000000 + Config.rcRate % 10000001 else 100000000

/-- Rate of the calendar in parts of 10^8: the crystal trimmed by TRIM × 0.01 ppm (R341), or the RC oscillator (R333). -/
def BkpSt.rate (b : BkpSt) : Nat := if b.onRc then b.pace else (100000000 + b.trim).toNat

/-- The backup domain after `d` ns: the count runs at 32,768 Hz times the rate, the fraction kept (R341); it never passes its
end, where the counts beyond it are held (R338). -/
def BkpSt.run (b : BkpSt) (d : Nat) : BkpSt :=
  let num := b.frac + d * 32768 * b.rate
  let k := num / 100000000000000000
  let room := b.endCyc - b.cyc
  { b with cyc := b.cyc + min k room, held := b.held + (k - room), frac := num % 100000000000000000, age := b.age + d * b.pace }

/-- Counts since 2000-01-01, those run while the calendar stood at its end among them: second boundaries are its multiples of
32,768. -/
def BkpSt.clock (b : BkpSt) : Nat := b.cyc + b.held

/-- The time base after `d` ns of local time: the rate correction and what is left of the slew are added (R310). -/
def ClkSt.run (c : ClkSt) (d : Nat) : ClkSt :=
  let r := c.rateFrac + (d : Int) * c.ratePpb
  let sl := if c.slewTime ≤ d then c.slew else c.slew * (d : Int) / (c.slewTime : Int)
  let e : Int := (d : Int) + r / 1000000000 + sl
  { c with
    now := c.now + d
    base := ((c.base : Int) + e).toNat
    flow := ((c.flow : Int) + e).toNat
    rateFrac := r % 1000000000
    slew := c.slew - sl
    slewTime := c.slewTime - d }

/-- The clocks as they stand at local time `mark`: run on to it, or, for an instant already past, run back under the rate
correction and the slew of now (R308, R310). -/
def ClkSt.at_ (c : ClkSt) (mark : Nat) : ClkSt :=
  if c.now ≤ mark then c.run (mark - c.now)
  else
    let d : Int := ((c.now - mark : Nat) : Int)
    let e : Int := d + d * c.ratePpb / 1000000000 + (if c.slewTime = 0 then 0 else c.slew * d / (c.slewTime : Int))
    { c with now := mark, base := ((c.base : Int) - e).toNat, flow := ((c.flow : Int) - e).toNat }

/-- Local time runs on to `t`; a time already passed changes nothing. -/
def State.advance (s : State) (t : Nat) : State :=
  let d := t - s.clk.now
  { s with clk := s.clk.run d, bkp := s.bkp.run d }

/-- Milliseconds, microseconds and seconds in ns. -/
def ms (n : Nat) : Nat := n * 1000000
/-- Microseconds in ns. -/
def us (n : Nat) : Nat := n * 1000
/-- Seconds in ns. -/
def secs (n : Nat) : Nat := n * 1000000000

/-- A free value is drawn: the counter of draws advances. -/
def State.draw (s : State) : Nat × State := (s.free, { s with free := s.free + 1 })

/-- Frame processors are halted by a debugger: the frame cannot be computed (R441). -/
def State.frameHalted (s : State) : Bool := decide (s.sec.dbg.halted / 2 ≠ 0)

/-! ## Timestamps and time quality -/

/-- TIME_UNALIGNED as the node holds it (Tables 02.6, 11.9). -/
def State.unaligned (s : State) : Bool :=
  match s.bus.net.state with
  | 2 => s.frame.unaligned
  | 3 => s.bus.net.holdoverOut || s.frame.unaligned
  | 1 => s.frame.unaligned
  | _ => true

/-- Time quality of the node time base, Table 12.9; where several rows match, the lowest in the table. Where none matches (a
time base in `FREE` that was not started from a valid calendar although one is set since, or in `LOCKING` on the grid) the
code is free among those of the table (log 161). -/
def State.timeQuality (s : State) : Nat :=
  let n := s.bus.net
  if !s.bkp.timeValid && !n.taken then 4
  else if n.state = 0 && s.clk.fromRtc && s.clk.fromValid then 2
  else if n.taken && s.unaligned then 1
  else if n.state = 2 || (n.state = 3 && !n.holdoverOut) || (n.isMaster && s.bkp.timeValid) then 0
  else Config.openQuality % 5

/-- A timestamp of Table 13.2: seconds, microseconds rounded down, quality. -/
def tsOf (ns q : Nat) : Nat :=
  (ns / 1000000000) % 1099511627776 * 16777216 + (ns % 1000000000) / 1000 * 16 + q

/-- The timestamp of the present instant. -/
def State.nowTs (s : State) : Nat := tsOf s.clk.base s.timeQuality

/-- Network time a timestamp stands for, in µs. -/
def tsUs (ts : Nat) : Nat := ts / 16777216 * 1000000 + ts / 16 % 1048576

/-! ## Codes -/

/-- Origin code of Table 08.16a. -/
def Origin.code : Origin → Nat
  | .host => 0x40 | .node n => n | .mailbox => 0x42

/-- Node state code of Table 02.5. -/
def NodeState.code : NodeState → Nat
  | .off => 0 | .backup => 1 | .standby => 2 | .starting => 3 | .armed => 4 | .safe => 5 | .holdup => 6

/-- Frame period of a profile in ns (Table 00.5). -/
def periodOf (profile : Nat) : Nat :=
  match profile with | 0 => us 125 | 1 => us 250 | 2 => ms 1 | _ => ms 4

/-- The logic-die lands are in the state of a node with power (Table 17.6): out of reset with the core rails up and not shed. -/
def State.landsUp (s : State) : Bool :=
  !s.rst.held && decide (s.pwr.state ≠ .off) && decide (s.pwr.state ≠ .backup) && decide (s.pwr.holdup ≠ .shed) &&
    decide (s.pwr.railsAt ≤ s.clk.now)

/-- A push-pull land of the logic die, `on` or high-impedance: `EXTEST` drives it from its boundary cell (R442, R456). -/
def State.dieLand (s : State) (cell : Nat) (on : Option Bool) : Option Bool :=
  if !s.landsUp then none
  else if s.sec.dbg.extest then some (tst s.sec.dbg.boundary (Config.boundaryCell cell)) else on

/-- Code of a lifecycle state (Table 03.5). -/
def Lifecycle.code : Lifecycle → Nat
  | .blank => 0 | .provisioned => 1 | .fielded => 2 | .returned => 3

/-! ## Event records (chapter 13) -/

/-- CRC-16 of R351: polynomial 0x1021, initial value 0xFFFF, no reflection. -/
def crc16Bit (c : Nat) : Nat := if 32768 ≤ c then (c * 2) % 65536 ^^^ 0x1021 else c * 2
/-- One byte of the CRC-16. -/
def crc16Byte (c b : Nat) : Nat :=
  crc16Bit (crc16Bit (crc16Bit (crc16Bit (crc16Bit (crc16Bit (crc16Bit (crc16Bit (c ^^^ (b * 256)))))))))
/-- CRC-16 of a byte string. -/
def crc16 (b : List Byte) : Nat := b.foldl (fun c x => crc16Byte c x.toNat) 0xFFFF

/-- Bytes +0 to +29 of a record (Table 13.1). -/
def Rec.body (r : Rec) : List Byte :=
  le32 r.seq ++ le64 r.ts ++ le16 r.code ++ le8 (r.sev * 16 + r.code / 256 % 16) ++ le8 r.kind ++ le16 r.idx ++
    le16 r.role ++ le32 r.p1 ++ le32 r.p2 ++ le16 r.flags

/-- A record as 32 bytes; the CRC is zero in a pail, where the sequence is zero (Table 13.1). -/
def Rec.bytes (r : Rec) : List Byte := r.body ++ le16 (if r.seq = 0 then 0 else crc16 r.body)

/-- The active pail. -/
def LogSt.active (l : LogSt) : List Rec := if l.activeB then l.pailB else l.pailA
/-- The other pail. -/
def LogSt.other (l : LogSt) : List Rec := if l.activeB then l.pailA else l.pailB
/-- The log with another active pail. -/
def LogSt.setActive (l : LogSt) (p : List Rec) : LogSt := if l.activeB then { l with pailB := p } else { l with pailA := p }
/-- The log with another pail in the place of the one not active. -/
def LogSt.setOther (l : LogSt) (p : List Rec) : LogSt := if l.activeB then { l with pailA := p } else { l with pailB := p }

/-- Drop counted under severity `sv`: the drop counter saturates, and the open drop minute counts too (R361). `now` is
local time, `from_` the network time run at the capture of the frame of the drop. -/
def LogSt.countDrop (l : LogSt) (sv now from_ : Nat) : LogSt :=
  let m := match l.minute with
    | some (c, e) => (modAt c sv (fun n => satAdd 255 n 1), e)
    | none => (modAt (List.replicate 8 0) sv (fun _ => 1), from_ + secs 60)
  { l with drops := modAt l.drops sv (fun n => satAdd 65535 n 1), minute := some m, lastDrop := some now }

/-- The pails are swapped and the left one is queued for its churn, if the other is empty; else the trigger stays
pending (R356). -/
def LogSt.swapPails (l : LogSt) : LogSt :=
  if l.other.isEmpty && !l.churning then
    if l.active.isEmpty then { l with trigger := false }
    else { l with activeB := !l.activeB, queued := true, trigger := false }
  else { l with trigger := true }

/-- Position of the first record of a list with severity at most `sv`. -/
def victim (sv : Nat) (p : List Rec) : Option Nat := p.findIdx? (fun r => decide (r.sev ≤ sv))

/-- A record enters the active pail (R355): at 64 records with the other pail not empty it displaces the record with the
lowest pail position, counted over both pails from the oldest record, of severity at most its own that is not being churned, or
is dropped itself (R361). A place freed in the other pail is taken by the oldest record of the active one, so that neither holds
more than 64 (R356) and the order stays. The answer says whether it entered. -/
def LogSt.enter (l : LogSt) (r : Rec) (now from_ : Nat) : LogSt × Bool :=
  if 64 ≤ l.active.length && !l.other.isEmpty then
    match (if l.churning then none else victim r.sev l.other), victim r.sev l.active with
    | some j, _ =>
      (((l.setOther (l.other.eraseIdx j ++ l.active.take 1)).setActive (l.active.drop 1 ++ [r])).countDrop
        (l.other.getD j r).sev now from_, true)
    | none, some i =>
      ((l.setActive (l.active.eraseIdx i ++ [r])).countDrop (l.active.getD i r).sev now from_, true)
    | none, none => (l.countDrop r.sev now from_, false)
  else (l.setActive (l.active ++ [r]), true)

/-- A record enters, and the fill and severity triggers of Table 13.6 act. Nothing enters from the start of a flush
(R362). -/
def LogSt.record (l : LogSt) (r : Rec) (now from_ : Nat) : LogSt × Bool :=
  if l.closed then (l, false)
  else
    let (l1, ok) := l.enter { r with entered := now } now from_
    let l2 := if ok && decide (6 ≤ r.sev) then { l1 with urgent := true } else l1
    if ok && (decide (6 ≤ r.sev) || decide (48 ≤ l2.active.length)) then (l2.swapPails, true) else (l2, ok)

/-- Network time run from which a drop minute opened now counts: the capture of the frame in progress, the present instant while
there is none (R361). -/
def State.dropFrom (s : State) : Nat := if s.frame.open_ then s.frame.captFlow else s.clk.flow

/-- Enter a complete record: the HOLDUP and DEFERRED flags of Table 13.4 are set here. -/
def State.enterRec (s : State) (r : Rec) : State :=
  let fl := r.flags + (if s.pwr.state = .holdup then 1 else 0) +
    (if tsUs r.ts + 1000000 < s.clk.base / 1000 then 2 else 0)
  { s with log := (s.log.record { r with flags := fl } s.clk.now s.dropFrom).1 }

/-- Timestamp of an event for which its chapter names no instant: the capture time of the frame in which it arose, and the
present instant while there is no frame (R352). -/
def State.evTs (s : State) : Nat := if s.frame.open_ then s.frame.captTs else s.nowTs

/-- Log an event with the capture time of the frame in which it arose (R352). -/
def State.logEv (s : State) (code sev kind idx role p1 p2 : Nat) : State :=
  s.enterRec { ts := s.evTs, code, sev, kind, idx, role, p1 := p1 % 4294967296, p2 := p2 % 4294967296 }

/-- Log an event of the node itself (unit kind 0, index the node ID). -/
def State.logNode (s : State) (code sev p1 p2 : Nat) : State :=
  s.logEv code sev 0 s.bus.nodeId 0xFFFF p1 p2

/-! ## Tags and responses (R62 to R65) -/

/-- Header fields of a request (Table 03.12). -/
def Flight.opcode (f : Flight) : Nat := u16At f.req 0
/-- Request flags. -/
def Flight.flags (f : Flight) : Nat := byteAt f.req 3
/-- Configuration epoch expected. -/
def Flight.cfgEpoch (f : Flight) : Nat := u16At f.req 4
/-- Role epoch expected. -/
def Flight.roleEpoch (f : Flight) : Nat := u16At f.req 6
/-- Unit index. -/
def Flight.unit (f : Flight) : Nat := u16At f.req 8
/-- Payload length. -/
def Flight.len (f : Flight) : Nat := u16At f.req 10
/-- Payload bytes. -/
def Flight.payload (f : Flight) : List Byte := (f.req.drop 16).take f.len
/-- NO_WAIT (Table 03.13). -/
def Flight.noWait (f : Flight) : Bool := tst f.flags 0
/-- DRY_RUN (Table 03.13). -/
def Flight.dryRun (f : Flight) : Bool := tst f.flags 1

/-- Status codes of Table 03.15. -/
inductive Status where
  | ok | pending | badOpcode | badLength | badField | roleStale | epochStale | claimConflict | budgetRefused
  | energyRefused | notPermitted | busy | dateInvalid | hwFault | queueFull | aborted | overwritten
deriving DecidableEq, Repr

/-- Code of a status. -/
def Status.code : Status → Nat
  | .ok => 0 | .pending => 1 | .badOpcode => 2 | .badLength => 3 | .badField => 4 | .roleStale => 5
  | .epochStale => 6 | .claimConflict => 7 | .budgetRefused => 8 | .energyRefused => 9 | .notPermitted => 10
  | .busy => 11 | .dateInvalid => 12 | .hwFault => 13 | .queueFull => 14 | .aborted => 15 | .overwritten => 16

/-- The 256 bytes of a response slot (R62): header copied from the request, then length, status, detail, payload. -/
def respBytes (req : List Byte) (st : Status) (detail : Nat) (payload : List Byte) : List Byte :=
  padTo 256 (padTo 10 req ++ le16 payload.length ++ le8 st.code ++ le8 detail ++ le16 0 ++ payload)

/-- Nodes 0–63 of a node protocol identifier (Table 11.5). -/
def protoId (prio cls node index : Nat) : Nat := prio * 67108864 + cls * 1048576 + node * 16384 + index

/-- Field of a bus controller table entry in force (Tables 11.14, 11.15); an image without the table gives zero. -/
def State.busField (s : State) (k o n : Nat) : Nat :=
  match imgEntry s.cfg.img 0x50 k with | some a => s.cfg.img.num (a + o) n | none => 0

/-- Controller `b` carries node-protocol frames: enabled, `FD`, not permanently `LISTEN_ONLY`, no duplicate ID (R301,
R305). -/
def State.protoOn (s : State) (b : Nat) : Bool :=
  let o := s.busField b 1 1
  tst o 0 && tst o 1 && !tst o 3 && !s.bus.duplicate && (match s.bus.ctl[b]? with | some c => decide (c.state ≠ .off) | none => false)

/-- Key slot of the network entry, none where it is 0xFF or the image has no table (Table 11.15). -/
def State.protoKey (s : State) : Option Nat :=
  match imgEntry s.cfg.img 0x50 4 with
  | some a => let k := s.cfg.img.u8 (a + 5); if k = 0xFF then none else some k
  | none => none

/-- Classes whose frame a later one of the same identifier replaces while it waits: periodic reports. -/
def periodic (cls : Nat) : Bool := decide (cls = 0) || decide (cls = 4) || decide (cls = 5)

/-- A frame joins the frames pending in the node-protocol buffers of a controller. -/
def BusCtl.push (c : BusCtl) (f : TxFrame) (replace : Bool) : BusCtl :=
  if replace && c.proto.any (fun x => x.id = f.id) then
    { c with proto := modFirst (fun x => x.id = f.id) (fun x => { x with data := f.data, put := f.put, role := f.role, past := (x.put, x.role) :: x.past }) c.proto }
  else { c with proto := c.proto ++ [f] }

/-- A node-protocol frame waits in the buffers of controller `b` (R293); `body` is the payload without its tag. -/
def State.sendProto (s : State) (b prio cls index : Nat) (body : List Byte) (role : TxRole) : State :=
  if s.protoOn b then
    let f : TxFrame := { ext := true, id := protoId prio cls s.bus.nodeId index, data := body, key := s.protoKey,
                         since := s.clk.now, put := s.clk.now, role }
    { s with bus := { s.bus with ctl := modAt s.bus.ctl b (fun c => c.push f (periodic cls)) } }
  else s

/-- A culvert as segments of class `cls` to node `dst` (R320): 56 bytes each, count and length in front. -/
def culvertSegs (bytes : List Byte) (L : Nat) : List (Nat × List Byte) :=
  let n := (L + 55) / 56
  (List.range n).map (fun i =>
    (i, le8 n ++ le8 0 ++ le16 L ++ padTo 56 ((bytes.take L).drop (56 * i))))

/-- Send a culvert of length `L` to `dst` on controller `b`. -/
def State.sendCulvert (s : State) (b cls dst transfer : Nat) (bytes : List Byte) (L : Nat) (role : TxRole) : State :=
  (culvertSegs bytes L).foldl
    (fun s p => s.sendProto b 5 cls (dst * 256 + transfer * 8 + p.1) p.2 role) s

/-- Final status of a request (R63, R64): a host tag's response slot is written, then its completion bit set; a remote
culvert's response slot is written and sent back on the bus it came from; a mailbox culvert's response goes to the
mailbox. -/
def State.complete (s : State) (f : Flight) (st : Status) (detail : Nat) (payload : List Byte) : State :=
  let r := respBytes f.req st detail payload
  if 256 ≤ f.id then { s with host := { s.host with mbox := s.host.mbox ++ [(f.id - 256, r)] } }
  else
    let s1 := { s with host := { s.host with rsp := s.host.rsp.writeList (256 * f.id) r } }
    if f.id < 240 then
      { s1 with host := { s1.host with done := s1.host.done ||| (1#256 <<< f.id) } }
    else
      match f.origin with
      | .node n => s1.sendCulvert f.bus 0x21 n f.transfer r (16 + payload.length) .culvertRsp
      | _ => s1

/-- Complete with `OK`. -/
def State.ok (s : State) (f : Flight) (payload : List Byte) : State := s.complete f .ok 0 payload

/-- The flight waits. -/
def State.wait (s : State) (f : Flight) (k : WaitKind) : State :=
  { s with host := { s.host with waits := s.host.waits ++ [⟨f, k⟩] } }

/-- A wait for a frame that shows a change, once that frame is computed. -/
def Wait.show (w : Wait) : Wait := match w.kind with | .nextFrame p => { w with kind := .publish p } | _ => w

/-- Complete every wait that `sel` chooses, with the status, detail and payload it gives. -/
def completeList (sel : WaitKind → Option (Status × Nat × List Byte)) : List Wait → State → State
  | [], s => s
  | w :: r, s =>
    completeList sel r (match sel w.kind with | some (st, d, p) => s.complete w.fl st d p | none => s)

/-- The waits that `sel` chooses end and complete, in the order in which they began. -/
def State.endWaits (s : State) (sel : WaitKind → Option (Status × Nat × List Byte)) : State :=
  let ws := s.host.waits
  completeList sel ws
    { s with host := { s.host with waits := ws.filter (fun w => (sel w.kind).isNone) } }

/-- An interrupt cause is set (Table 03.6). -/
def State.cause (s : State) (i : Nat) : State :=
  { s with host := { s.host with irqStat := s.host.irqStat ||| (1#32 <<< i) } }

end Sys2Proof.Machine
end

