-- ==== Sys2Proof/Machine/Nvm.lean ====
section
/-!
DEFINITION. The NVM controller and the churns of the event recorder: priorities (R20), the energy rule (R378), sequence
and slot assignment (R359, R360), the flush (R362).
-/

namespace Sys2Proof.Machine

open Sys2Proof

/-! ## Energy -/

/-- The energy rule of R378: usable energy less the reserve covers the cost and a margin of 20 %, at least 10 mJ;
figures in µJ. -/
def energyCovers (euUj reserveUj cost : Nat) : Bool :=
  decide (reserveUj + cost + max (cost / 5) 10000 ≤ euUj)

/-- Field of the power budget table's entry 0 in the image in force, with the default for an image without the table
(R393, Table 14.13). -/
def budgetTable (m : Mem) : Option Nat :=
  let n := m.u16 12
  (List.range n).findSome? (fun i => if m.u16 (64 + 16 * i) = 0x70 then some (m.u32 (64 + 16 * i + 8)) else none)

/-- Setting of entry 0 at `off` (u16), or its default. -/
def budget16 (m : Mem) (off dflt : Nat) : Nat :=
  match budgetTable m with
  | some a => let v := m.u16 (a + off); if v = 0 then dflt else v
  | none => dflt

/-- The reserve in µJ (Table 14.13). -/
def State.reserveUj (s : State) : Nat := budget16 s.cfg.img 10 500 * 1000

/-- The energy rule for a cost in µJ. -/
def State.energyOk (s : State) (cost : Nat) : Bool := energyCovers s.pwr.euUj s.reserveUj cost

/-- Cost of a log churn of `k` records in µJ (Table 13.7). -/
def logChurnCost (k : Nat) : Nat := 300 + 12 * k

/-! ## Sequence and slot -/

/-- Slots of the log (R21). -/
def logSlots : Nat := 49152

/-- How far `a` lies behind `n`, modulo 2^32 (R359). -/
def behind (n a : Nat) : Nat := (n + 4294967296 - a % 4294967296) % 4294967296

/-- The sequence after `n`; zero is skipped (R359). -/
def seqAfter (n : Nat) : Nat := if 0xFFFFFFFF ≤ n then 1 else n + 1

/-- The lowest slot at or above `i` that no record holds (slots in the list rise). -/
def freeSlot : List (Nat × Rec) → Nat → Nat
  | [], i => i
  | (k, _) :: r, i => if k = i then freeSlot r (i + 1) else i

/-- A record put into a slot, replacing what stood there; slots stay rising. -/
def putSlot : List (Nat × Rec) → Nat → Rec → List (Nat × Rec)
  | [], i, x => [(i, x)]
  | (k, y) :: r, i, x =>
    if k = i then (i, x) :: r else if i < k then (i, x) :: (k, y) :: r else (k, y) :: putSlot r i x

/-- The slot of the surviving record with the lowest sequence, of severity at most `sv` (R360). -/
def oldestSlot (n sv : Nat) (l : List (Nat × Rec)) : Option (Nat × Nat) :=
  l.foldl (fun acc p =>
    if p.2.sev ≤ sv then
      match acc with
      | none => some (p.1, behind n p.2.seq)
      | some (_, b) => if b < behind n p.2.seq then some (p.1, behind n p.2.seq) else acc
    else acc) none

/-- What a churn is building: slots, next sequence, drops by severity, overwritten count. -/
structure ChurnAcc where
  slots : List (Nat × Rec)
  next : Nat
  drops : List Nat
  repl : Nat
deriving DecidableEq, Repr

/-- One record takes its sequence and slot, or is dropped (R359, R360). -/
def churnOne (a : ChurnAcc) (r : Rec) : ChurnAcc :=
  let put (i : Nat) (ov : Nat) : ChurnAcc :=
    { a with slots := putSlot a.slots i { r with seq := a.next }, next := seqAfter a.next, repl := a.repl + ov }
  let f := freeSlot a.slots 0
  if f < logSlots then put f 0
  else
    match oldestSlot a.next r.sev a.slots with
    | some (i, _) => put i 1
    | none => { a with drops := a.drops ++ [r.sev] }

/-- Records that a churn of `k` records retires first (R360). -/
def retires (n k : Nat) (r : Rec) : Bool := decide (2147483648 - 256 ≤ behind (n + k - 1) r.seq)

/-- The churn of `recs`: retirement, then every record in pail order. -/
def churnPlan (l : LogSt) (recs : List Rec) : ChurnAcc :=
  let keep := l.slots.filter (fun p => !retires l.next recs.length p.2)
  recs.foldl churnOne
    { slots := keep, next := l.next, drops := [], repl := l.slots.length - keep.length }

/-- Slots a churn of `recs` frees by retirement. -/
def retiredCount (l : LogSt) (k : Nat) : Nat := (l.slots.filter (fun p => retires l.next k p.2)).length

/-- A churn of the other pail starts: sequences and slots are given now, and stand in the log at completion. -/
def LogSt.beginChurn (l : LogSt) (now from_ : Nat) : LogSt :=
  let a := churnPlan l l.other
  let l1 := { l with plan := a.slots, next := a.next, churning := true, queued := false,
                     urgent := l.trigger && l.urgent, energyWait := false, overwritten := (l.overwritten + a.repl) % 4294967296,
                     wrapped := l.wrapped || decide (0 < a.repl) }
  a.drops.foldl (fun x sv => x.countDrop sv now from_) l1

/-- The churn under way completes: its records are durable, the pail is empty, a pending trigger acts (R356, R358). -/
def LogSt.endChurn (l : LogSt) (ts : Nat) : LogSt :=
  if l.churning then
    let l1 := ({ l with slots := l.plan, plan := [], churning := false, lastChurn := ts }).setOther []
    if l1.trigger then l1.swapPails else l1
  else l

/-- The flush: both pails into the log, the older pail first, whatever the energy (R362); nothing enters afterwards. -/
def LogSt.flush (l : LogSt) (ts now from_ : Nat) : LogSt :=
  let l0 := l.endChurn ts
  let a := churnPlan l0 (l0.other ++ l0.active)
  let l1 := { l0 with slots := a.slots, next := a.next, pailA := [], pailB := [],
                      queued := false, trigger := false, urgent := false, energyWait := false, lastChurn := ts,
                      overwritten := (l0.overwritten + a.repl) % 4294967296,
                      wrapped := l0.wrapped || decide (0 < a.repl) }
  { a.drops.foldl (fun x sv => x.countDrop sv now from_) l1 with closed := true }

/-! ## Operations in order -/

/-- Priority class of an operation under R20; lower goes first. The log churn (class 4) is queued in the log itself. -/
def NvmKind.rank : NvmKind → Nat
  | .commitChurn => 2 | .selector _ => 2 | .calChurn => 3 | .keyChurn => 3 | .logChurn => 4 | .clearSegment => 5
  | .eraseFirst => 5 | .eraseSegment => 5 | .eraseSector => 6 | .storeImage _ => 6 | .storeCurve => 6 | .flashRead => 6 | .firmware => 6
  | .directory _ => 6

/-- Energy an operation must find before it starts, in µJ (Table 14.4); a flash write is gated sector by sector. -/
def NvmKind.gate : NvmKind → Nat
  | .storeImage _ => 25000 | .storeCurve => 25000 | .firmware => 25000 | .directory _ => 25000 | .eraseSector => 25000
  | .calChurn => 310 | .keyChurn => 2000 | .eraseFirst => 120000 | _ => 0

/-- A flash write, a claimant of class 5 (Table 14.5). -/
def NvmKind.flashWrite : NvmKind → Bool
  | .storeImage _ => true | .storeCurve => true | .firmware => true | .directory _ => true | .eraseSector => true | _ => false

/-- The waiting operation to start next: the lowest rank, the earliest of that rank, among those `p` admits. -/
def nvmBest (p : NvmOp → Bool) : List NvmOp → Option NvmOp
  | [] => none
  | o :: r =>
    match nvmBest p r with
    | none => if p o then some o else none
    | some b => if p o && decide (o.kind.rank ≤ b.kind.rank) then some o else some b

/-- A log churn is queued and the energy rule is met for it (R357). -/
def State.logChurnReady (s : State) : Bool :=
  s.log.queued && !s.log.churning && !s.log.closed &&
    s.energyOk (logChurnCost (s.log.other.length + retiredCount s.log s.log.other.length))

/-- The log churn starts as the operation under way. -/
def State.startLogChurn (s : State) : State :=
  { s with log := s.log.beginChurn s.clk.now s.dropFrom,
           nvm := { s.nvm with running := some { num := s.nvm.nextNum, kind := .logChurn },
                               nextNum := s.nvm.nextNum + 1 } }

/-- An operation leaves the waiting ones and is under way; a commit churn takes the active pail with it, if that holds a record
(Table 13.6). -/
def State.nvmGo (s : State) (o : NvmOp) : State :=
  let l := if o.kind = .commitChurn && !s.log.active.isEmpty then
      ({ s.log with activeB := !s.log.activeB }).beginChurn s.clk.now s.dropFrom
    else s.log
  { s with log := l, nvm := { s.nvm with running := some o, waiting := s.nvm.waiting.erase o } }

/-- `ENERGY_WAIT` (R357): it stands while a queued log churn does not find its energy. -/
def State.energyMark (s : State) : State :=
  { s with log := { s.log with energyWait := s.log.queued && !s.log.churning && !s.log.closed && !s.logChurnReady } }

/-- An operation finds the energy it needs, and a flash write its grant of class 5 where frames decide it (R378, R383). The ROM
asks for neither. -/
def State.nvmReady (s : State) (o : NvmOp) : Bool :=
  decide (s.pwr.stage = .recovery) ||
    ((o.kind.gate = 0 || s.energyOk o.kind.gate) && (!o.kind.flashWrite || !s.frame.running || s.pwr.flashOk))

/-- The waiting operation that comes first starts, or a log churn that goes ahead of it. -/
def State.nvmPick (s : State) : State :=
  match s.nvm.waiting.find? (fun o => o.started) with
  | some o => if s.log.urgent && s.logChurnReady then s.startLogChurn else s.nvmGo o
  | none =>
    match nvmBest s.nvmReady s.nvm.waiting with
    | none => if s.logChurnReady then s.startLogChurn else s
    | some o =>
      if o.kind = .commitChurn && !s.log.other.isEmpty then s.startLogChurn
      else if s.logChurnReady && decide (4 < o.kind.rank) then s.startLogChurn else s.nvmGo o

/-- The next waiting operation starts if none is under way, in the order of R20; a flash operation is suspended for a log
churn that a record of severity 6 or 7 has triggered and resumes after it before any other starts, and ahead of a commit churn
goes the log churn of the other pail, whose energy step 5 has counted (Table 13.6). None starts once the clock is lost
(R17) or the flush is due (R362); the erasure of RETURNED goes on with a closed log (R425). -/
def State.nvmStart (s : State) : State :=
  if s.rst.clockLoss.isSome || (s.log.closed && (s.sec.erasure.isNone || decide (s.pwr.state = .holdup))) then s
  else
    match s.nvm.running with
    | some r =>
      if r.kind.rank = 6 && s.log.urgent && s.logChurnReady then
        ({ s with nvm := { s.nvm with waiting := { r with started := true } :: s.nvm.waiting } }).startLogChurn
      else s.energyMark
    | none => s.nvmPick.energyMark

/-- Sectors of 4 KiB that an operation writes: an image of `arg` bytes, a curve of 528 bytes in slot `arg` (R76, R173, R378). -/
def NvmKind.sectors (k : NvmKind) (arg : Nat) : Nat :=
  match k with
  | .storeImage _ => max 1 ((arg + 4095) / 4096)
  | .storeCurve => (528 * arg + 527) / 4096 - 528 * arg / 4096 + 1
  | _ => 1

/-- A new operation is queued, and starts at once if the controller is free and its class comes first; the answer
carries its number. -/
def State.nvmRequest (s : State) (k : NvmKind) (data : Mem) (arg : Nat) : State × Nat :=
  let n := s.nvm.nextNum
  let o : NvmOp := { num := n, kind := k, data := data, arg := arg, since := s.clk.now, left := k.sectors arg }
  (({ s with nvm := { s.nvm with nextNum := n + 1, waiting := s.nvm.waiting ++ [o] } }).nvmStart, n)

/-- The operation under way has ended; the next one starts. -/
def State.nvmFree (s : State) : State := ({ s with nvm := { s.nvm with running := none } }).nvmStart

/-- A request that the NVM controller serves between two operations (R65, R364): `serve` runs now, or the request waits
for the end of the operation under way. -/
def State.nvmRead (s : State) (f : Flight) (serve : Flight → State → State) : State :=
  match s.nvm.running with
  | none => serve f s
  | some o => s.wait f (.nvm o.num)

/-- Payload of `ENERGY_REFUSED` (Table 03.15): energy needed with its margin, and E_u less the reserve, mJ. -/
def State.energyPayload (s : State) (cost : Nat) : List Byte :=
  le32 ((cost + max (cost / 5) 10000 + 999) / 1000) ++ le32 ((s.pwr.euUj - s.reserveUj) / 1000)

/-- A request that would wait for energy fails at once with `NO_WAIT` (Table 03.13). -/
def State.unlessNoWait (s : State) (f : Flight) (cost : Nat) (go : State → State) : State :=
  if f.noWait && !s.energyOk cost then s.complete f .energyRefused 0 (s.energyPayload cost) else go s

end Sys2Proof.Machine
end

