-- ==== Sys2Proof/Machine/Opcodes.lean ====
section
/-!
DEFINITION. The checks of a request (R66, Table 03.16) and what each opcode's own table says for them: lengths, reserved
bytes, unit, permission.
-/

namespace Sys2Proof.Machine

open Sys2Proof

/-- Kinds of unit a request addresses. -/
inductive UKind where
  | chan | blend | weir | group | enc | obj | di | ao | region | foSet | chain
deriving DecidableEq, Repr

/-- Units of a kind (Table 01.2). -/
def UKind.count : UKind → Nat
  | .chan => 64 | .blend => 256 | .weir => 1024 | .group => 128 | .enc => 8 | .obj => 128 | .di => 16 | .ao => 8
  | .region => 8 | .foSet => 32 | .chain => 16

/-- Unit kind code of Table 13.3. -/
def UKind.code : UKind → Nat
  | .chan => 1 | .blend => 3 | .weir => 4 | .group => 5 | .foSet => 6 | .chain => 7 | .enc => 9 | .obj => 12
  | .di => 13 | .ao => 14 | .region => 15

/-- Kinds that carry a role epoch (R46). -/
def UKind.hasRole : UKind → Bool
  | .foSet => false | .chain => false | _ => true

/-- Role epoch of a unit in force (R46); zero for kinds that carry none. -/
def Roles.get (r : Roles) : UKind → Nat → Nat
  | .chan, i => r.chan.getD i 0 | .blend, i => r.blend.getD i 0 | .weir, i => r.weir.getD i 0
  | .group, i => r.group.getD i 0 | .enc, i => r.enc.getD i 0 | .obj, i => r.obj.getD i 0 | .di, i => r.di.getD i 0
  | .ao, i => r.ao.getD i 0 | .region, i => r.region.getD i 0 | .foSet, _ => 0 | .chain, _ => 0

/-- What a request needs of the draft (R71, R75). -/
inductive DraftNeed where
  | no
  /-- a draft of the requester's own, no commit in flight -/
  | owner
  /-- a draft exists when payload byte 0 is 1 -/
  | image
deriving DecidableEq, Repr

/-- What Table 03.16 needs to know of an opcode. -/
structure OpDesc where
  /-- least and greatest payload length -/
  lenMin : Nat := 0
  lenMax : Nat := 0
  /-- unit addressed -/
  unit : Option UKind := none
  /-- reserved payload bytes: offset and size -/
  rsv : List (Nat × Nat) := []
  /-- reserved bits of payload fields: offset, size, mask -/
  rsvBits : List (Nat × Nat × Nat) := []
  /-- it changes nothing -/
  ro : Bool := false
  /-- node states that permit it; the empty list stands for any -/
  states : List NodeState := []
  /-- only the local host may send it -/
  hostOnly : Bool := false
  draft : DraftNeed := .no
  /-- lifecycles that permit it; the empty list stands for any -/
  lives : List Lifecycle := []
  /-- request flags allowed (Table 03.13) -/
  flags : Nat := 1
  /-- payload fields by range: offset, size, lowest and highest value -/
  fields : List (Nat × Nat × Nat × Nat) := []

/-- STARTING (after CULVERT_READY), ARMED, SAFE. -/
def runStates : List NodeState := [.starting, .armed, .safe]
/-- ARMED and SAFE. -/
def armedSafe : List NodeState := [.armed, .safe]

/-- A read-only request of fixed length. -/
def OpDesc.read (n : Nat) (rsv : List (Nat × Nat)) : OpDesc := { lenMin := n, lenMax := n, rsv, ro := true }

/-- A SET opcode: it edits the requester's draft (R71, R488). -/
def OpDesc.set (n : Nat) (unit : Option UKind) (rsv : List (Nat × Nat)) : OpDesc :=
  { lenMin := n, lenMax := n, unit, rsv, states := runStates, draft := .owner }

/-- A GET opcode: it reads an entry of the committed or draft image. -/
def OpDesc.get (n : Nat) (unit : Option UKind) (rsv : List (Nat × Nat)) : OpDesc :=
  { lenMin := n, lenMax := n, unit, rsv, ro := true, draft := .image, fields := [(0, 1, 0, 1)] }

/-- Classes SYS and CFG (Table 03.18, Table 14.19). -/
def sysOps : Nat → Option OpDesc
  | 0x0101 => some (.read 0 [])
  | 0x0102 => some { states := armedSafe }
  | 0x0103 => some { states := runStates }
  | 0x0104 => some { lenMin := 4, lenMax := 4, states := [.starting, .safe, .standby] }
  | 0x0105 => some { lenMin := 20, lenMax := 240, states := runStates, hostOnly := true,
                     fields := [(0, 1, 0, 63), (1, 1, 0, 15), (2, 2, 10, 10000)] }
  | 0x0201 => some { lenMin := 4, lenMax := 4, rsv := [(2, 2)], states := runStates,
                     fields := [(0, 1, 0, 2), (1, 1, 0, 7)] }
  | 0x0202 => some { states := runStates, draft := .owner, flags := 3 }
  | 0x0203 => some {}
  | 0x0204 => some { lenMin := 8, lenMax := 8, rsv := [(1, 1)], ro := true, draft := .image,
                     fields := [(0, 1, 0, 1), (2, 2, 1, 232)] }
  | 0x0205 => some { lenMin := 5, lenMax := 240, states := runStates, draft := .owner }
  | 0x0206 => some { lenMin := 4, lenMax := 4, rsv := [(2, 2)], states := runStates, draft := .image,
                     fields := [(0, 1, 0, 1), (1, 1, 0, 7)] }
  | _ => none

/-- Class TIME (Table 12.13). -/
def timeOps : Nat → Option OpDesc :=
  let st : List NodeState := [.standby, .starting, .armed, .safe]
  fun
  | 0x0801 => some (.read 0 [])
  | 0x0802 => some { lenMin := 12, lenMax := 12, rsv := [(10, 2)], states := st, fields := [(0, 8, 0, 1099511627775), (9, 1, 0, 1)] }
  | 0x0803 => some { lenMin := 4, lenMax := 4, rsv := [(1, 3)], states := st, fields := [(0, 1, 0, 1)] }
  | 0x0804 => some { lenMin := 4, lenMax := 4, rsv := [(3, 1)], states := st, fields := [(2, 1, 0, 1)] }
  | 0x0805 => some { lenMin := 4, lenMax := 4, states := st, fields := [(0, 4, 0, 4194303)] }
  | 0x0806 => some { lenMin := 4, lenMax := 4, rsv := [(1, 1)], rsvBits := [(2, 2, 0x8E8C)], states := st,
                     fields := [(0, 1, 0, 3)] }
  | 0x0807 => some { (OpDesc.read 4 [(1, 3)]) with fields := [(0, 1, 0, 3)] }
  | _ => none

/-- Class LOG (Table 13.11). -/
def logOps : Nat → Option OpDesc
  | 0x0901 => some { (OpDesc.read 8 [(5, 3)]) with fields := [(0, 4, 1, 0xFFFFFFFF), (4, 1, 1, 7)] }
  | 0x0902 => some { (OpDesc.read 4 [(2, 2)]) with fields := [(0, 1, 0, 127), (1, 1, 1, 7)] }
  | 0x0903 => some { lenMin := 12, lenMax := 12, rsv := [(1, 3)], states := runStates, fields := [(0, 1, 0, 5)] }
  | 0x0904 => some { lenMin := 4, lenMax := 4, rsv := [(1, 3)], rsvBits := [(0, 1, 0xFE)], states := [.safe],
                     hostOnly := true }
  | _ => none

/-- Class PWR (Table 14.19). -/
def pwrOps : Nat → Option OpDesc
  | 0x0A01 => some { (OpDesc.set 36 none [(1, 3)]) with fields := [(0, 1, 0, 64)] }
  | 0x0A02 => some { (OpDesc.get 4 none [(2, 2)]) with fields := [(0, 1, 0, 1), (1, 1, 0, 64)] }
  | 0x0A03 => some { states := runStates }
  | 0x0A04 => some { lenMin := 4, lenMax := 4, states := armedSafe, hostOnly := true, fields := [(0, 4, 0, 604800)] }
  | 0x0A05 => some { states := [.standby] }
  | _ => none

/-- Class BUS (Table 11.19). -/
def busOps : Nat → Option OpDesc
  | 0x0701 => some { (OpDesc.set 68 none [(1, 3)]) with fields := [(0, 1, 0, 4)] }
  | 0x0702 => some (OpDesc.set 64 (some .obj) [])
  | 0x0703 => some (OpDesc.get 4 (some .obj) [(1, 3)])
  | 0x0704 => some { unit := some .obj, states := armedSafe }
  | 0x0705 => some { lenMin := 4, lenMax := 4, rsv := [(1, 3)], states := armedSafe, fields := [(0, 1, 0, 3)] }
  | 0x0706 => some { (OpDesc.read 4 [(1, 3)]) with fields := [(0, 1, 0, 3)] }
  | 0x0707 => some { (OpDesc.read 4 []) with fields := [(0, 2, 0, 511), (2, 2, 1, 29)] }
  | _ => none

/-- Class CHAN (Tables 06.11, 07.12). -/
def chanOps : Nat → Option OpDesc
  | 0x0301 => some (OpDesc.set 96 (some .chan) [])
  | 0x0302 => some { lenMin := 8, lenMax := 8, unit := some .chan, rsv := [(1, 1), (2, 2)], states := armedSafe,
                     fields := [(0, 1, 0, 3)] }
  | 0x0303 => some (OpDesc.get 4 (some .chan) [(1, 3)])
  | 0x0304 => some { unit := some .chan, states := armedSafe }
  | 0x0305 => some { (OpDesc.read 4 [(1, 3)]) with fields := [(0, 1, 0, 7)] }
  | 0x0306 => some { (OpDesc.read 4 [(2, 2)]) with unit := some .chan, fields := [(0, 1, 0, 3)] }
  | 0x0307 => some { (OpDesc.set 4 none [(3, 1)]) with fields := [(0, 2, 0, 495), (2, 1, 64, 127)] }
  | 0x0308 => some { lenMin := 4, lenMax := 4, states := runStates, draft := .image,
                     fields := [(0, 1, 0, 1), (1, 1, 64, 127), (2, 2, 0, 495)] }
  | 0x0309 => some { lenMin := 12, lenMax := 12, unit := some .chan, rsv := [(1, 3)], states := armedSafe,
                     fields := [(0, 1, 0, 1)] }
  | 0x030A => some { (OpDesc.read 4 []) with unit := some .chan, fields := [(0, 2, 0, 4095), (2, 2, 1, 56)] }
  | 0x030B => some { lenMin := 8, lenMax := 8, unit := some .chan, rsv := [(4, 4)], states := runStates }
  | 0x030C => some { (OpDesc.read 0 []) with unit := some .chan }
  | 0x030D => some { lenMin := 12, lenMax := 240, unit := some .chan, rsv := [(11, 1)], rsvBits := [(0, 1, 0xFC)],
                     states := armedSafe, fields := [(1, 1, 5, 20), (2, 1, 0, 3), (3, 1, 0, 63), (10, 1, 0, 228)] }
  | 0x030E => some { lenMin := 4, lenMax := 4, unit := some .chan, rsv := [(1, 3)], fields := [(0, 1, 0, 2)] }
  | _ => none

/-- Classes BLEND and WEIR (Table 08.17). -/
def weirOps : Nat → Option OpDesc
  | 0x0401 => some (OpDesc.set 64 (some .blend) [])
  | 0x0402 => some (OpDesc.set 48 (some .weir) [])
  | 0x0403 => some { unit := some .weir, states := runStates }
  | 0x0404 => some { lenMin := 4, lenMax := 4, unit := some .weir, states := runStates }
  | 0x0405 => some { lenMin := 4, lenMax := 4, unit := some .weir, rsv := [(1, 3)], states := runStates,
                     fields := [(0, 1, 0, 1)] }
  | 0x0406 => some (OpDesc.get 4 (some .blend) [(1, 3)])
  | 0x0407 => some (OpDesc.get 4 (some .weir) [(1, 3)])
  | 0x0408 => some { (OpDesc.read 0 []) with unit := some .weir }
  | 0x0409 => some { unit := some .blend, states := armedSafe }
  | _ => none

/-- Classes GROUP and CALL (Table 09.17). -/
def groupOps : Nat → Option OpDesc
  | 0x0501 => some (OpDesc.set 32 (some .group) [])
  | 0x0502 => some { unit := some .group, states := runStates }
  | 0x0503 => some (OpDesc.get 4 (some .group) [(1, 3)])
  | 0x0504 => some { (OpDesc.set 16 none []) with fields := [(0, 1, 0, 31)] }
  | 0x0505 => some { lenMin := 4, lenMax := 4, rsv := [(1, 3)], states := armedSafe, fields := [(0, 1, 0, 31)] }
  | 0x0506 => some { (OpDesc.read 4 [(1, 3)]) with fields := [(0, 1, 0, 31)] }
  | 0x0507 => some { (OpDesc.set 64 none []) with fields := [(0, 1, 0, 15)] }
  | 0x0508 => some { (OpDesc.set 16 none []) with fields := [(0, 1, 0, 16)] }
  | 0x0509 => some { lenMin := 4, lenMax := 4, rsv := [(1, 3)], states := armedSafe, fields := [(0, 1, 0, 15)] }
  | 0x050A => some { (OpDesc.read 4 [(1, 3)]) with fields := [(0, 1, 0, 15)] }
  | 0x050B => some { lenMin := 4, lenMax := 4, rsv := [(2, 2)], states := armedSafe,
                     fields := [(0, 1, 0, 2), (1, 1, 0, 15)] }
  | 0x050C => some { lenMin := 4, lenMax := 4, rsv := [(1, 3)], states := armedSafe, fields := [(0, 1, 0, 2)] }
  | _ => none

/-- Class POS (Table 10.12). -/
def posOps : Nat → Option OpDesc
  | 0x0601 => some (OpDesc.set 64 (some .enc) [])
  | 0x0602 => some (OpDesc.get 4 (some .enc) [(1, 3)])
  | 0x0603 => some { lenMin := 8, lenMax := 8, unit := some .enc, rsv := [(1, 3)], states := runStates,
                     fields := [(0, 1, 0, 3)] }
  | 0x0604 => some { lenMin := 12, lenMax := 12, unit := some .enc, rsv := [(11, 1)], states := armedSafe,
                     fields := [(4, 4, 0, 2147483647), (10, 1, 0, 1)] }
  | 0x0605 => some { unit := some .enc, states := armedSafe }
  | 0x0606 => some { lenMin := 4, lenMax := 4, unit := some .enc, rsv := [(2, 2)],
                     fields := [(0, 1, 1, 12), (1, 1, 0, 1)] }
  | _ => none

/-- Class DISP (Table 15.10). -/
def dispOps : Nat → Option OpDesc
  | 0x0B01 => some { (OpDesc.set 36 none [(1, 3)]) with fields := [(0, 1, 0, 8)] }
  | 0x0B02 => some { (OpDesc.set 144 none []) with fields := [(0, 1, 0, 3), (1, 1, 0, 9)] }
  | 0x0B03 => some { lenMin := 72, lenMax := 72, unit := some .region, states := armedSafe }
  | 0x0B04 => some { unit := some .region, states := armedSafe }
  | 0x0B05 => some (.read 0 [])
  | _ => none

/-- Classes SEC and FW (Table 16.13). -/
def secOps : Nat → Option OpDesc
  | 0x0C01 => some (.read 0 [])
  | 0x0C02 => some (.read 0 [])
  | 0x0C03 => some (.read 32 [])
  | 0x0C04 => some { lenMin := 132, lenMax := 132, rsv := [(2, 2)], states := armedSafe,
                     fields := [(0, 1, 0, 1), (1, 1, 0, 2)] }
  | 0x0C05 => some { lenMin := 192, lenMax := 192, rsv := [(2, 2)], states := armedSafe,
                     fields := [(0, 1, 0, 3), (1, 1, 0, 1)] }
  | 0x0C06 => some { lenMin := 8, lenMax := 8, rsv := [(1, 3)], rsvBits := [(0, 1, 0xFE)], states := [.safe],
                     hostOnly := true, lives := [.provisioned] }
  | 0x0C07 => some { lenMin := 68, lenMax := 68, rsv := [(1, 3)], states := [.safe], hostOnly := true,
                     lives := [.fielded], fields := [(0, 1, 0, 1)] }
  | 0x0C08 => some { states := [.safe], hostOnly := true }
  | 0x0C09 => some { hostOnly := true }
  | 0x0D01 => some { (OpDesc.read 0 []) with hostOnly := true }
  | 0x0D02 => some { lenMin := 4, lenMax := 4, states := armedSafe, hostOnly := true }
  | 0x0D03 => some { lenMin := 5, lenMax := 236, states := armedSafe, hostOnly := true }
  | 0x0D04 => some { states := armedSafe, hostOnly := true }
  | 0x0D05 => some { states := [.safe], hostOnly := true }
  | 0x0D06 => some { states := armedSafe, hostOnly := true }
  | _ => none

/-- Class IO (Table 17.11). -/
def ioOps : Nat → Option OpDesc
  | 0x0E01 => some (OpDesc.set 16 (some .di) [])
  | 0x0E02 => some (OpDesc.set 16 (some .ao) [])
  | 0x0E03 => some { (OpDesc.get 4 none [(3, 1)]) with fields := [(0, 1, 0, 1), (1, 1, 0, 1), (2, 1, 0, 15)] }
  | 0x0E04 => some { lenMin := 4, lenMax := 4, unit := some .ao, rsv := [(1, 3)], states := [.armed],
                     fields := [(0, 1, 0, 2)] }
  | 0x0E05 => some { lenMin := 5, lenMax := 5, ro := true, draft := .image,
                     fields := [(0, 1, 0, 1), (1, 1, 1, 8), (4, 1, 1, 29)] }
  | _ => none

/-- What Table 03.16 needs to know of an opcode, by its class (Table 03.17); none for an opcode that is not coded. -/
def opDesc (op : Nat) : Option OpDesc :=
  match op / 256 with
  | 1 => sysOps op | 2 => sysOps op | 3 => chanOps op | 4 => weirOps op | 5 => groupOps op | 6 => posOps op
  | 7 => busOps op | 8 => timeOps op | 9 => logOps op | 10 => pwrOps op | 11 => dispOps op | 12 => secOps op
  | 13 => secOps op | 14 => ioOps op | _ => none

end Sys2Proof.Machine
end

