-- ==== Sys2Proof/Machine/Culvert.lean ====
section
/-!
DEFINITION. The culvert engine: the checks of Table 03.16 at the instant a request is taken, and the frame every opcode
row runs in (R63 to R67).
-/

namespace Sys2Proof.Machine

open Sys2Proof

/-- What a failed check answers: status, detail, payload. -/
abbrev Refused := Status × Nat × List Byte

/-- `BAD_FIELD` at a slot byte offset (R68). -/
def badField (off : Nat) : Option Refused := some (.badField, off, [])

/-- `BAD_FIELD` naming a place in the draft image (R487). -/
def badImage (f : ImgFault) : Refused := (.badField, 255, le16 f.table ++ le16 f.entry ++ le16 f.off)

/-- Entry 0 of the system table, or its defaults (R79). -/
def sysByte (m : Mem) (off dflt : Nat) : Nat :=
  match imgEntry m 1 0 with | some a => m.u8 (a + off) | none => dflt

/-- The remote culvert mode in force (Table 03.26). -/
def State.remoteMode (s : State) : Nat := sysByte s.cfg.img 1 1

/-- Opcodes that are read-only by their payload: a latch read that does not drain, a look at burst listening. -/
def isReadOnly (d : OpDesc) (f : Flight) : Bool :=
  d.ro || (f.opcode = 0x0606 && byteAt f.req 17 = 0) || (f.opcode = 0x030E && byteAt f.req 16 = 2)

/-- A field of `n` bytes at slot offset `o` that is not zero: the refusal names its offset (R68). -/
def nonZero (b : List Byte) (o n : Nat) : Option Nat :=
  if (List.range n).all (fun i => decide (byteAt b (o + i) = 0)) then none else some o

/-- Header fields that a request leaves zero (Table 03.12): status, detail, reserved word. -/
def headerZeros : List (Nat × Nat) := [(12, 1), (13, 1), (14, 2)]

/-- Step 5: reserved fields, and unit and role epoch of an opcode that addresses no unit. -/
def reservedBad (d : OpDesc) (f : Flight) : Option Nat :=
  if f.flags / (d.flags + 1) ≠ 0 then some 3
  else if d.unit.isNone && f.roleEpoch ≠ 0 then some 6
  else if d.unit.isNone && f.unit ≠ 0 then some 8
  else
    match headerZeros.findSome? (fun x => nonZero f.req x.1 x.2) with
    | some o => some o
    | none =>
      match d.rsvBits.find? (fun x => numAt f.req (16 + x.1) x.2.1 &&& x.2.2 != 0) with
      | some x => some (16 + x.1)
      | none => d.rsv.findSome? (fun x => nonZero f.req (16 + x.1) x.2)

/-- The debug session forbids a mailbox culvert (Table 16.10). -/
def State.mailboxForbids (s : State) (ro : Bool) (op : Nat) : Bool :=
  match s.sec.dbg.session with
  | some x => (decide (x.level = .observe) && !ro) || op = 0x0C08 || decide (x.level = .none)
  | none => true

/-- Step 6: what forbids the opcode, as the detail of `NOT_PERMITTED`. -/
def State.forbidden (s : State) (d : OpDesc) (f : Flight) : Option Nat :=
  let ro := isReadOnly d f
  let op := f.opcode
  let states := if ro then [] else if op = 0x030E then armedSafe else d.states
  let recovery := s.pwr.stage = .recovery
  if !recovery && !states.isEmpty && !states.contains s.pwr.state then some 1
  else if op = 0x0309 && s.frame.profile = 3 then some 1
  else if !d.lives.isEmpty && !d.lives.contains s.sec.life then some 2
  else
    let needAuth := op = 0x0104 || op = 0x0C04 || op = 0x0C05
    let origin : Option Nat :=
      match f.origin with
      | .host => none
      | .mailbox => if s.mailboxForbids ro op then some 3 else none
      | .node _ =>
        if d.hostOnly || op = 0x0A05 || (needAuth && !f.auth) then some 3
        else
          match s.remoteMode with
          | 0 => some 4
          | 1 => if ro then none else some 4
          | 2 => if ro || f.auth then none else some 4
          | _ => none
    match origin with
    | some x => some x
    | none =>
      match d.draft with
      | .no =>
        -- CFG_DISCARD: the owner, or anyone while no draft is open (R75)
        if op = 0x0203 then
          (match s.cfg.draft with | some dr => if dr.owner = f.origin then none else some 3 | none => none)
        else none
      | .owner =>
        (match s.cfg.draft with | none => some 5 | some dr => if dr.owner = f.origin then none else some 3)
      | .image => if byteAt f.req 16 = 1 && s.cfg.draft.isNone && op ≠ 0x0201 then some 5 else none

/-- Steps 7 to 11 (R66, R67): what fails first. -/
def State.lateChecks (s : State) (d : OpDesc) (f : Flight) : Option Refused :=
  let op := f.opcode
  let exact := op = 0x0201 || op = 0x0202
  if f.cfgEpoch ≠ s.cfg.epoch && (exact || f.cfgEpoch ≠ 0xFFFF) then some (.epochStale, 0, le16 s.cfg.epoch)
  else if (match d.unit with | some k => decide (k.count ≤ f.unit) | none => false) then badField 8
  else
    let stale := match d.unit with
      | some k =>
        k.hasRole && f.roleEpoch ≠ s.cfg.roles.get k f.unit && !(isReadOnly d f && f.roleEpoch = 0xFFFF)
      | none => false
    if stale then
      some (.roleStale, 0, le16 (match d.unit with | some k => s.cfg.roles.get k f.unit | none => 0))
    else
      match d.fields.find? (fun x =>
          let v := numAt f.req (16 + x.1) x.2.1
          decide (v < x.2.2.1) || decide (x.2.2.2 < v)) with
      | some x => badField (16 + x.1)
      | none =>
        -- CFG_LOAD with a byte beyond offset 131,071 (R492)
        if op = 0x0205 && decide (131072 < u32At f.req 16 + (f.len - 4)) then badField 16
        else
          match d.draft, s.cfg.commit with
          | .owner, some c => some (.busy, c.fl.origin.code, [])
          | _, _ => none

/-- The checks of Table 03.16, steps 1 to 11; none when the request goes on to its execution. -/
def State.check (s : State) (f : Flight) : Option Refused :=
  if 240 < f.len then some (.badLength, 0, le16 0xFFFF)
  else if byteAt f.req 2 ≠ f.id % 256 then badField 2
  else
    match opDesc f.opcode with
    | none => some (.badOpcode, 0, [])
    | some d =>
      let op := f.opcode
      let recoveryOk := (op = 0x0101 || op / 256 = 13) && f.origin = .host
      if s.pwr.stage = .recovery && !recoveryOk then some (.badOpcode, 0, [])
      else if f.len < d.lenMin || d.lenMax < f.len then
        some (.badLength, 0, le16 (if d.lenMin = d.lenMax then d.lenMin else 0xFFFF))
      else
        match reservedBad d f with
        | some o => badField o
        | none =>
          match s.forbidden d f with
          | some x => some (.notPermitted, x, [])
          | none => s.lateChecks d f

/-- A `ROLE_STALE` refusal is logged (R47, R66). -/
def State.logStale (s : State) (f : Flight) : State :=
  match opDesc f.opcode with
  | some { unit := some k, .. } =>
    let present := s.cfg.roles.get k f.unit
    s.logEv 0x0103 4 k.code f.unit present (f.roleEpoch + present * 65536) (f.opcode + f.origin.code * 65536)
  | _ => s

/-- A refusal completes its request; only `ROLE_STALE` is logged (R66). -/
def State.refuse (s : State) (f : Flight) (r : Refused) : State :=
  let s1 := if r.1 = .roleStale then s.logStale f else s
  s1.complete f r.1 r.2.1 r.2.2

/-- A request of the draft's owner keeps the draft (R71). -/
def State.touchDraft (s : State) (f : Flight) : State :=
  match s.cfg.draft with
  | some d => if d.owner = f.origin then
      { s with cfg := { s.cfg with draft := some { d with lastUse := s.clk.now } } } else s
  | none => s

/-- Requests are taken in doorbell order: refused ones complete, the first that passes begins to execute (R65). -/
def takeFrom : List Flight → State → State
  | [], s => { s with host := { s.host with queue := [], cur := none } }
  | f :: r, s =>
    let s1 := s.touchDraft f
    match s1.check f with
    | none => { s1 with host := { s1.host with queue := r, cur := some f } }
    | some x => takeFrom r (s1.refuse f x)

/-- The next request is taken if none executes. -/
def State.takeNext (s : State) : State :=
  match s.host.cur with
  | some _ => s
  | none => takeFrom s.host.queue s

/-- A request joins the queue and, when nothing executes, is taken at once. -/
def State.submit (s : State) (f : Flight) : State :=
  ({ s with host := { s.host with queue := s.host.queue ++ [f] } }).takeNext

/-- An opcode row: local time runs on to `t`; the request with id `tag` executes if it is the one EXECUTING and carries
opcode `op`; then the next request is taken. -/
def State.withCur (s : State) (t tag op : Nat) (f : Flight → State → State) : State :=
  let s1 := s.advance t
  match s1.host.cur with
  | none => s1
  | some c =>
    if c.id = tag ∧ c.opcode = op then (f c { s1 with host := { s1.host with cur := none } }).takeNext else s1

/-- A tag is in flight: QUEUED, EXECUTING or waiting (Table 03.14). -/
def State.inFlight (s : State) (id : Nat) : Bool :=
  s.host.queue.any (fun f => f.id = id) || (match s.host.cur with | some f => f.id = id | none => false) ||
    s.host.waits.any (fun w => w.fl.id = id) || s.live.any (fun l => match l.fl with | some f => f.id = id | none => false) ||
    (match s.cfg.commit with | some c => c.fl.id = id | none => false) ||
    s.modems.any (fun m => m.queue.any (fun x => x.fl.id = id))

/-- Draft image, or the committed one (payload byte 0 of the GET opcodes). -/
def State.image (s : State) (draft : Bool) : Mem :=
  match draft, s.cfg.draft with | true, some d => d.img | _, _ => s.cfg.img

/-- The draft edited. -/
def State.setDraft (s : State) (m : Mem) : State :=
  match s.cfg.draft with
  | some d => { s with cfg := { s.cfg with draft := some { d with img := m } } }
  | none => s

end Sys2Proof.Machine
end

