-- ==== Sys2Proof/Machine/Float.lean ====
section
/-!
DEFINITION. binary32 arithmetic (R5): every operation is the exact rational result rounded once, to nearest, ties to
even.
-/

namespace Sys2Proof

/-- 2 to the integer power `e`, as a rational. -/
def pow2 (e : Int) : Rat := if e < 0 then 1 / ((2 ^ (-e).toNat : Nat) : Rat) else ((2 ^ e.toNat : Nat) : Rat)

/-- Nearest integer to `n / d`, ties to even (`d > 0`). -/
def rneDiv (n d : Nat) : Nat :=
  let q := n / d
  let r := n % d
  if 2 * r < d then q else if 2 * r > d then q + 1 else if q % 2 = 0 then q else q + 1

/-- Nearest integer to a rational, ties to even. -/
def Rat.rne (q : Rat) : Int :=
  if q < 0 then - (rneDiv q.num.natAbs q.den : Nat) else (rneDiv q.num.natAbs q.den : Nat)

/-- Largest integer not above a rational. -/
def Rat.fl (q : Rat) : Int := q.num / (q.den : Int)

/-- Exponent field of a pattern. -/
def F32.expo (f : F32) : Nat := f.toNat / 8388608 % 256

/-- Fraction field of a pattern. -/
def F32.frac (f : F32) : Nat := f.toNat % 8388608

/-- Sign of a pattern. -/
def F32.neg? (f : F32) : Bool := decide (2147483648 ≤ f.toNat)

/-- Neither a NaN nor an infinity. -/
def F32.finite (f : F32) : Bool := decide (f.expo < 255)

/-- The number a finite pattern stands for (a NaN or an infinity, which no published field holds by R5, reads 0). -/
def F32.toRat (f : F32) : Rat :=
  if f.expo = 255 then 0
  else
    let m : Rat := if f.expo = 0 then (f.frac : Rat) * pow2 (-149)
      else ((f.frac + 8388608 : Nat) : Rat) * pow2 ((f.expo : Int) - 150)
    if f.neg? then -m else m

/-- Pattern of a non-negative rational `n / d`: round to nearest, ties to even; the pattern of infinity above the
largest finite number. -/
def F32.encodeMag (n d : Nat) : Nat :=
  if n = 0 then 0
  else
    let e0 : Int := (Nat.log2 n : Int) - (Nat.log2 d : Int)
    -- 2 ^ e0 is within a factor of two of n / d; e is the exponent of the leading bit
    let e : Int := if (if e0 < 0 then n * 2 ^ (-e0).toNat < d else n < d * 2 ^ e0.toNat) then e0 - 1 else e0
    let q : Int := max (e - 23) (-149)
    let m := if q < 0 then rneDiv (n * 2 ^ (-q).toNat) d else rneDiv n (d * 2 ^ q.toNat)
    -- m is at most 2^24; a carry out of the significand goes into the exponent field by itself
    let r := if m < 8388608 then m else (q + 149).toNat * 8388608 + m
    min r 0x7F800000

/-- The binary32 nearest to a rational. -/
def F32.ofRat (q : Rat) : F32 :=
  let m := F32.encodeMag q.num.natAbs q.den
  BitVec.ofNat 32 (if q.num < 0 then m + 2147483648 else m)

/-- Zero. -/
def F32.zero : F32 := 0
/-- Plus infinity. -/
def F32.inf : F32 := 0x7F800000
/-- A NaN. -/
def F32.nan : F32 := 0x7FC00000
/-- The pattern is a NaN. -/
def F32.isNan (f : F32) : Bool := decide (f.expo = 255) && decide (f.frac ≠ 0)
/-- The pattern is an infinity. -/
def F32.isInf (f : F32) : Bool := decide (f.expo = 255) && decide (f.frac = 0)
/-- Magnitude. -/
def F32.abs (a : F32) : F32 := BitVec.ofNat 32 (a.toNat % 2147483648)
/-- Sign change. -/
def F32.negate (a : F32) : F32 := BitVec.ofNat 32 ((a.toNat + 2147483648) % 4294967296)
/-- An infinity with a sign. -/
def F32.infOf (neg : Bool) : F32 := if neg then F32.inf.negate else F32.inf
/-- A zero with a sign. -/
def F32.zeroOf (neg : Bool) : F32 := if neg then 0x80000000 else 0
/-- Addition; two zeros of one sign keep it. -/
def F32.add (a b : F32) : F32 :=
  if decide (a.abs = 0) && decide (b.abs = 0) then F32.zeroOf (a.neg? && b.neg?)
  else if a.finite && b.finite then F32.ofRat (a.toRat + b.toRat)
  else if a.isNan || b.isNan || (a.isInf && b.isInf && a.neg? != b.neg?) then F32.nan
  else if a.isInf then a else b
/-- Subtraction. -/
def F32.sub (a b : F32) : F32 := a.add b.negate
/-- Multiplication; a zero takes the sign of the product. -/
def F32.mul (a b : F32) : F32 :=
  if a.finite && b.finite then
    (if decide (a.abs = 0) || decide (b.abs = 0) then F32.zeroOf (a.neg? != b.neg?) else F32.ofRat (a.toRat * b.toRat))
  else if a.isNan || b.isNan || decide (a.abs = 0) || decide (b.abs = 0) then F32.nan
  else F32.infOf (a.neg? != b.neg?)
/-- Division; a zero takes the sign of the quotient. -/
def F32.div (a b : F32) : F32 :=
  if a.isNan || b.isNan || (a.isInf && b.isInf) || (decide (a.abs = 0) && decide (b.abs = 0)) then F32.nan
  else if a.isInf || decide (b.abs = 0) then F32.infOf (a.neg? != b.neg?)
  else if b.isInf || decide (a.abs = 0) then F32.zeroOf (a.neg? != b.neg?)
  else F32.ofRat (a.toRat / b.toRat)
/-- Place of a pattern in the order of the numbers, the infinities at its ends; the two zeros have one place. -/
def F32.key (a : F32) : Int := if a.neg? then -(a.abs.toNat : Int) else (a.abs.toNat : Int)
/-- Strict order of the numbers; a NaN has no place in it. -/
def F32.lt (a b : F32) : Bool := !a.isNan && !b.isNan && decide (a.key < b.key)
/-- Order of the numbers. -/
def F32.le (a b : F32) : Bool := !a.isNan && !b.isNan && decide (a.key ≤ b.key)
/-- The binary32 nearest to an integer. -/
def F32.ofInt (i : Int) : F32 := F32.ofRat (i : Rat)

/-- Smallest of a list by the order of the numbers. -/
def F32.minL : List F32 → F32
  | [] => 0
  | x :: r => r.foldl (fun a b => if b.lt a then b else a) x
/-- Largest of a list. -/
def F32.maxL : List F32 → F32
  | [] => 0
  | x :: r => r.foldl (fun a b => if a.lt b then b else a) x
/-- Sum, left to right. -/
def F32.sum : List F32 → F32
  | [] => 0
  | x :: r => r.foldl F32.add x

/-- Integer square root by halving steps on the bit length (structural in `fuel`). -/
def isqrtGo : Nat → Nat → Nat → Nat
  | 0, _, r => r
  | k + 1, n, r =>
    let c := r + 2 ^ k
    isqrtGo k n (if c * c ≤ n then c else r)

/-- Largest integer whose square is not above `n`. -/
def isqrt (n : Nat) : Nat := isqrtGo (Nat.log2 n / 2 + 1) n 0

/-- Square root of a non-negative rational to 2^-80 relative, the lost part kept as a sticky bit. -/
def ratSqrt (q : Rat) : Rat :=
  if q ≤ 0 then 0
  else
    let n := q.num.toNat * q.den * 2 ^ 320
    let r := isqrt n
    let r' := if r * r = n then 2 * r else 2 * r + 1
    (r' : Rat) / ((2 * q.den * 2 ^ 160 : Nat) : Rat)

/-- Square root (operand not negative). -/
def F32.sqrt (a : F32) : F32 := if a.finite && decide (a.abs ≠ 0) then F32.ofRat (ratSqrt a.toRat) else a

/-- Partial sum of the exponential series, terms scaled by 2^96 and truncated. -/
def expSeries : Nat → Nat → Int → Int → Int → Int
  | 0, _, _, _, acc => acc
  | k + 1, i, x, term, acc =>
    let t := term * x / (2 ^ 96 : Nat) / ((i + 1 : Nat) : Int)
    expSeries k (i + 1) x t (acc + t)

/-- `m` squared `k` times, scaled by 2^96. -/
def sqTimes : Nat → Int → Int
  | 0, m => m
  | k + 1, m => sqTimes k (m * m / (2 ^ 96 : Nat))

/-- e to the power `q` for `q ≤ 0`, to about 2^-80 absolute (the argument is halved ten times, the series squared
back). -/
def ratExpNeg (q : Rat) : Rat :=
  if q ≤ -200 then 0
  else
    let x : Int := Rat.fl (q * ((2 ^ 96 : Nat) : Rat) / 1024)
    let s := expSeries 24 0 x (2 ^ 96 : Nat) (2 ^ 96 : Nat)
    (sqTimes 10 s : Rat) / ((2 ^ 96 : Nat) : Rat)

/-- Largest magnitude of a published value, the binary32 nearest to 3.4 × 10^38 (R170, R216). -/
def F32.most : F32 := F32.ofRat ((34 : Rat) * ((10 ^ 37 : Nat) : Rat))

/-- A value clamped to a finite one: no published field holds a NaN or an infinity (R5). -/
def F32.bounded (y : F32) : F32 :=
  if y.finite then y
  else if y.isNan then (if Config.nanHigh then F32.most else F32.most.negate)
  else if y.neg? then F32.most.negate else F32.most

end Sys2Proof
end

