-- ==== Sys2Proof/Machine/Encoder.lean ====
section
/-!
DEFINITION. Encoder channels and compare units (chapter 10): edges, index, drift, rebase, SSI, speed, compare trains,
latches, the position record, and the commands of the encoder block.
-/

namespace Sys2Proof.Machine

open Sys2Proof

/-! ## Settings (Table 10.10) -/

/-- Field of an encoder's entry in force: `n` bytes at offset `o`; zero without an entry, where the channel is OFF. -/
def State.encField (s : State) (k o n : Nat) : Nat :=
  match imgEntry s.cfg.img 0x40 k with | some a => s.cfg.img.num (a + o) n | none => 0
/-- Mode of a channel (Table 10.1). -/
def State.encMode (s : State) (k : Nat) : Nat := s.encField k 1 1
/-- An option bit of a channel. -/
def State.encOpt (s : State) (k b : Nat) : Bool := tst (s.encField k 3 1) b
/-- A binary32 field of a channel. -/
def State.encF32 (s : State) (k o : Nat) : F32 := BitVec.ofNat 32 (s.encField k o 4)
/-- Compare unit of a channel, 0xFF for none. -/
def State.encUnit (s : State) (k : Nat) : Nat := if s.encMode k = 0 then 0xFF else s.encField k 37 1
/-- The channel has a compare unit in PULSE mode. -/
def State.encPulse (s : State) (k : Nat) : Bool := s.encUnit k != 0xFF && s.encField k 38 1 = 0
/-- Glitch filter length in ns (Table 10.2). -/
def filterNs : Nat → Nat
  | 0 => 20 | 1 => 40 | 2 => 80 | 3 => 160 | _ => 1000

/-- Channel `k`. -/
def State.enc (s : State) (k : Nat) : EncSt := s.encs.getD k {}
/-- Channel `k` changed. -/
def State.modEnc (s : State) (k : Nat) (f : EncSt → EncSt) : State := { s with encs := modAt s.encs k f }
/-- An event of encoder channel `k` (R284). -/
def State.logEnc (s : State) (k code sev p1 p2 : Nat) : State :=
  s.logEv code sev 9 k (s.cfg.roles.get .enc k) p1 p2

/-- Counts in the position domain (R269). -/
def EncSt.pos (e : EncSt) : BitVec 32 := e.counter + e.c

/-! ## Latches (R279) -/

/-- A trigger has occurred at network instant `net`: it waits to be recorded. -/
def EncSt.trigger (e : EncSt) (trig : Nat) (net : Nat) : EncSt := { e with trigs := e.trigs ++ [(trig, e.pos, net)] }

/-- The oldest trigger is recorded: into the FIFO where the latch mask admits it, dropped when the FIFO is full. -/
def State.latchOne (s : State) (k : Nat) : State :=
  let e := s.enc k
  match e.trigs with
  | [] => s
  | (tr, p, net) :: r =>
    let e1 := { e with trigs := r }
    if tst (s.encField k 11 1) tr then
      let l : LatchRec := { p, net := net / 10 * 10, trigger := tr, gen := e.gen }
      if e.fifo.length < 16 then s.modEnc k (fun _ => { e1 with fifo := e.fifo ++ [l], lastLatch := some l })
      else
        let s1 := s.modEnc k (fun _ => { e1 with dropped := satAdd 65535 e.dropped 1, overflow := true })
        if e.overflow then s1 else s1.logEnc k 0x0607 4 (e.dropped + 1) 0
    else s.modEnc k (fun _ => e1)

/-- All waiting triggers are recorded. -/
def latchAll (k : Nat) : Nat → State → State
  | 0, s => s
  | n + 1, s => latchAll k n (s.latchOne k)

/-! ## Compare trains (R277, R278) -/

/-- A signed reading of a count. -/
def cnt (v : BitVec 32) : Int := v.toInt

/-- The point after `P`. -/
def CmpSt.next (c : CmpSt) : BitVec 32 :=
  if c.rev then c.point - BitVec.ofNat 32 c.spacing else c.point + BitVec.ofNat 32 c.spacing

/-- One pulse, fired, late or missed, is counted; at zero the unit sets DONE and disarms. -/
def CmpSt.countOne (c : CmpSt) : CmpSt :=
  match c.left with
  | none => c
  | some n => if n ≤ 1 then { c with left := some 0, done := true, armed := false } else { c with left := some (n - 1) }

/-- A pulse under way whose end has come. -/
def CmpSt.endPulse (c : CmpSt) (now : Nat) : CmpSt :=
  match c.pulseEnd with
  | some e => if e ≤ now then { c with pulseEnd := none, guardEnd := e + 1000, level := false } else c
  | none => c

/-- At local time `te` a pulse is under way or has ended less than 1 µs ago. -/
def CmpSt.busyAt (c : CmpSt) (te : Nat) : Bool := (c.endPulse te).pulseEnd.isSome || decide (te < (c.endPulse te).guardEnd)

/-- The point has been reached at local time `te`: a pulse of `width` ns starts, or the point is missed. -/
def CmpSt.fire (c0 : CmpSt) (te width : Nat) : CmpSt :=
  let c := c0.endPulse te
  let adv := { c with point := c.next, hit := none }
  if c0.busyAt te then { (adv.countOne) with overrun := true, missed := c.missed + 1 }
  else { (adv.countOne) with fired := (c.fired + 1) % 65536, pulseEnd := some (te + width), level := c.overload.isNone }

/-- P is behind p (R277). -/
def CmpSt.isBehind (c : CmpSt) (p : BitVec 32) : Bool :=
  if c.rev then decide (cnt p ≤ cnt c.point) else decide (cnt c.point ≤ cnt p)

/-- The smallest P0 ± jS beyond p. -/
def CmpSt.beyondP (c : CmpSt) (p : BitVec 32) : BitVec 32 :=
  let d : Int := if c.rev then cnt c.first - cnt p else cnt p - cnt c.first
  let j : Nat := if d < 0 then 0 else d.toNat / c.spacing + 1
  let m := BitVec.ofNat 32 (j * c.spacing)
  if c.rev then c.first - m else c.first + m

/-- Compare fields of the entry: P0, spacing and direction (Table 10.10). -/
def State.encP0 (s : State) (k : Nat) : BitVec 32 := BitVec.ofNat 32 (s.encField k 40 4)

/-- A train that has ended gives P, S and direction back to the entry (R283). -/
def State.cmpRevert (s : State) (k : Nat) : State :=
  let c := (s.enc k).cmp
  if c.volatile && !c.armed then
    s.modEnc k (fun e => { e with cmp := { e.cmp with volatile := false, point := s.encP0 k, first := s.encP0 k,
                                                      spacing := s.encField k 44 4, rev := s.encField k 39 1 = 1 } })
  else s

/-- A pulse of channel `k` fires for a pin edge at local time `te`, network time `net`, and latches; or its point is missed, which
sets the overrun, logged once per arming (R277, R279). -/
def State.fireCmp (s : State) (k te net : Nat) : State :=
  let c := (s.enc k).cmp
  let s1 := s.modEnc k (fun e => { e with cmp := c.fire te (us (s.encField k 50 2)) })
  if c.busyAt te then (if c.overrun then s1 else s1.logEnc k 0x0606 4 (c.missed + 1) 0)
  else s1.modEnc k (fun e => e.trigger 1 net)

/-- The arming check of R277 on channel `k`. A unit whose point it finds ahead of p has returned behind it. -/
def State.armCheck (s0 : State) (k : Nat) : State :=
  let s := s0.modEnc k (fun e => { e with cmp := { e.cmp with check := false, mustReturn := e.cmp.mustReturn && e.cmp.isBehind e.pos } })
  let p := (s.enc k).pos
  let c := (s.enc k).cmp
  if c.armed && s.encPulse k && decide (s.pwr.state = .armed) && c.isBehind p then
    let s1 := s.logEnc k 0x0605 3 c.point.toNat p.toNat
    if s.encOpt k 4 then s1.modEnc k (fun e => { e with cmp := { e.cmp with behind := true, mustReturn := true } })
    else
      ((s1.fireCmp k s.clk.now s.clk.base).modEnc k (fun e => { e with cmp :=
        { e.cmp with behind := true, point := c.beyondP p } })).cmpRevert k
  else s

/-- The arming check of a unit that waits for one. -/
def State.armDue (s : State) (k : Nat) : State := if (s.enc k).cmp.check then s.armCheck k else s

/-- A pulse that is due starts, and counts (R277). -/
def State.pulseOne (s : State) (k : Nat) : State :=
  match (s.enc k).cmp.hit with
  | none => s
  | some (te, net) => (s.fireCmp k te net).cmpRevert k

/-- Pulses that are due start, pulses that have run end, triggers are recorded. -/
def State.settleEnc (s : State) (k : Nat) : State :=
  let s1 := s.pulseOne k
  let s2 := s1.modEnc k (fun e => { e with cmp := e.cmp.endPulse s.clk.now })
  latchAll k (s2.enc k).trigs.length s2

/-- A unit in `WINDOW` mode is high while P0 ≤ p < P0 + S, in ARMED and not overloaded (R277, R278). -/
def State.cmpWindow (s : State) (k : Nat) : State :=
  if s.encUnit k != 0xFF && s.encField k 38 1 = 1 then
    let p := cnt (s.enc k).pos
    let p0 := cnt (s.encP0 k)
    let high := decide (s.pwr.state = .armed) && decide (p0 ≤ p) && decide (p < p0 + (s.encField k 44 4 : Int))
    s.modEnc k (fun e => { e with cmp := { e.cmp with level := high && e.cmp.overload.isNone } })
  else s

/-- p has moved, forward or back, by a pin edge at local time `te`, network time `net`: the unit compares (R277). -/
def State.compare (s : State) (k : Nat) (fwd : Bool) (te net : Nat) : State :=
  let e := s.enc k
  let c := e.cmp
  if s.encPulse k && c.armed && decide (s.pwr.state = .armed) then
    if c.mustReturn then
      (if c.isBehind e.pos then s else s.modEnc k (fun e => { e with cmp := { c with mustReturn := false } }))
    else if decide (e.pos = c.point) && fwd != c.rev then
      s.modEnc k (fun e => { e with cmp := { c with hit := some (te, net) } })
    else s
  else s.cmpWindow k

/-- The train of the entry at the tick of a commit that changes it, or at reset, with the arming check to come (R283). -/
def State.cmpFromTable (s0 : State) (k : Nat) : State :=
  let s := s0.settleEnc k
  if s.encPulse k then
    let n := s.encField k 48 2
    s.modEnc k (fun e => { e with cmp :=
      { armed := s.encField k 52 1 = 0, check := s.encField k 52 1 = 0, point := s.encP0 k, first := s.encP0 k,
        spacing := s.encField k 44 4, rev := s.encField k 39 1 = 1, left := if n = 0 then none else some n,
        overload := e.cmp.overload, level := e.cmp.level && e.cmp.pulseEnd.isSome, pulseEnd := e.cmp.pulseEnd,
        guardEnd := e.cmp.guardEnd } })
  else (s.modEnc k (fun e => { e with cmp := { overload := e.cmp.overload } })).cmpWindow k

/-- The unit is suspended outside ARMED: its land goes low, a pulse under way with it; P, S and the count stay (Table 10.6). -/
def State.cmpSuspend (s0 : State) (k : Nat) : State :=
  let s := s0.settleEnc k
  s.modEnc k (fun e => { e with cmp := { e.cmp with
    level := false, pulseEnd := none
    guardEnd := if e.cmp.pulseEnd.isSome then s.clk.now + 1000 else e.cmp.guardEnd } })

/-- The unit runs on entry to ARMED: the arming check falls due, a window is followed (Table 10.6). -/
def State.cmpResume (s : State) (k : Nat) : State :=
  (s.modEnc k (fun e => { e with cmp := { e.cmp with check := e.cmp.armed } })).cmpWindow k

/-! ## Counting (R268 to R270) -/

/-- Counter, offset, reference and drift at zero (R269). -/
def EncSt.zeroed (e : EncSt) : EncSt :=
  { e with counter := 0, c := 0, ref := 0, referenced := false, refPending := none, drift := 0, indexSlip := false, lastDrift := none,
           edge := none, hist := [] }

/-- QUAD_ERR sets, and is logged when it does. -/
def State.setQuadErr (s : State) (k : Nat) : State :=
  let e := s.enc k
  if e.quadErr then s
  else (s.modEnc k (fun e => { e with quadErr := true })).logEnc k 0x0603 4 e.errors 0

/-- One count forward or back at local time `te`, network time `net`. -/
def State.countEdge (s : State) (k : Nat) (fwd : Bool) (te net : Nat) : State :=
  let f := fwd != s.encOpt k 2
  let s1 := s.modEnc k (fun e =>
    let e1 := { e with counter := if f then e.counter + 1 else e.counter - 1, forward := f }
    { e1 with edge := some (e1.pos, te, net) })
  s1.compare k f te net

/-- Filtered levels A and B after a sample (R267 to R269). -/
def State.encSample (s0 : State) (k : Nat) (a b : Bool) : State :=
  let s := s0.settleEnc k
  let e := s.enc k
  let d := filterNs (s.encField k 8 1)
  let te := s.clk.now - d
  let net := s.clk.base - d
  let s1 := s.modEnc k (fun e => { e with a, b })
  match s.encMode k with
  | 1 =>
    if e.a != a && e.b != b then
      (s1.modEnc k (fun e => { e with errors := satAdd 65535 e.errors 1 })).setQuadErr k
    else if e.a != a then s1.countEdge k (a != b) te net
    else if e.b != b then s1.countEdge k (decide (a = b)) te net
    else s1
  | 2 => if a && !e.a then s1.countEdge k b te net else s1
  | _ => s1

/-- Nearest multiple of `n` to `d`, halves away from zero. -/
def nearestMultiple (d : Int) (n : Nat) : Int := (n : Int) * divRound d n

/-- An index edge latches the counter (R270). -/
def State.indexEdge (s0 : State) (k : Nat) : State :=
  let s := s0.settleEnc k
  let e := s.enc k
  let gated := s.encOpt k 1
  let md := s.encMode k
  if (md != 1 && md != 2) || (gated && !(e.a && e.b)) then s
  else
    let nr := s.encField k 4 4
    let net := s.clk.base - filterNs (s.encField k 8 1)
    let l := e.counter
    let s1 := s.modEnc k (fun e => { (e.trigger 0 net) with indexNow := true })
    if nr = 0 then s1
    else if !e.referenced then
      let s2 := s1.modEnc k (fun e => { e with ref := l, referenced := true })
      match e.refPending with
      | some v => ((s2.modEnc k (fun e => { e with c := v - l, refPending := none })).armCheck k).cmpWindow k
      | none => s2
    else
      let d0 := cnt (l - e.ref)
      let d := d0 - nearestMultiple d0 nr
      let db := BitVec.ofInt 32 d
      let s2 := s1.modEnc k (fun e => { e with drift := db })
      if (s.encField k 9 1 : Int) < d.natAbs then
        let s3 := s2.modEnc k (fun e => { e with indexSlip := true, lastDrift := some db })
        if e.lastDrift = some db then s3 else s3.logEnc k 0x0601 5 db.toNat l.toNat
      else if !e.indexSlip then s2.modEnc k (fun e => { e with quadErr := false })
      else s2

/-- A rebase applies (Table 10.3). The arming check falls due where it moves p. -/
def State.rebaseEnc (s0 : State) (k mode : Nat) (v : BitVec 32) : State :=
  let s := s0.settleEnc k
  let s1 := s.modEnc k (fun e =>
    let e1 := { e with gen := (e.gen + 1) % 256, rebasedNow := true }
    match mode with
    | 0 => { e1 with c := v - e.counter, quadErr := false, referenced := true }
    | 1 => { e1 with c := e.c - e.drift, ref := e.ref + e.drift, drift := 0, indexSlip := false, quadErr := false }
    | 2 => { e1 with c := e.c + v }
    | _ => { e1 with referenced := false, refPending := some v, indexSlip := false })
  let s2 := s1.logEnc k 0x0609 3 mode (s1.enc k).c.toNat
  (if (s2.enc k).pos = (s.enc k).pos then s2
   else s2.modEnc k (fun e => { e with cmp := { e.cmp with check := true } })).cmpWindow k

/-! ## SSI (R272 to R274) -/

/-- A read starts at a tick of frame sequence `seq`, if the channel reads then and no read is under way. -/
def State.ssiStart (s : State) (k seq : Nat) : State :=
  let iv := s.encField k 34 1
  let e := s.enc k
  if s.encMode k = 3 && iv != 0 && seq % iv = 0 && e.ssi.reading.isNone then
    s.modEnc k (fun e => { e with ssi := { e.ssi with reading := some (s.clk.now, s.clk.base, seq) } })
  else s

/-- Gray code to binary, `n` bits. -/
def grayToBin (n v : Nat) : Nat :=
  ((List.range n).foldl (fun (p : Nat × Nat) i =>
    let b := (p.1 + bit (tst v (n - 1 - i))) % 2
    (b, p.2 * 2 + b)) (0, 0)).2

/-- Ones among `n` bits. -/
def ones (n v : Nat) : Nat := ((List.range n).filter (fun i => tst v i)).length

/-- Number of position bits of an SSI channel. -/
def State.ssiBits (s : State) (k : Nat) : Nat := s.encField k 28 1 - s.encField k 29 1

/-- What fails in a read, by kind: 1 idle, 2 end, 3 parity, 4 status. -/
def State.ssiFault (s : State) (k : Nat) (idleOk endOk parity : Bool) (raw : Nat) : Option Nat :=
  let n := s.encField k 28 1
  let par := s.encField k 3 1 / 64
  if !idleOk then some 1
  else if !endOk then some 2
  else if par != 0 && (ones n raw + bit parity) % 2 != (if par = 1 then 0 else 1) then some 3
  else if (raw % 2 ^ s.encField k 29 1) &&& s.encField k 36 1 != 0 then some 4
  else none

/-- A read completes with `n` received bits `raw` (R273). -/
def State.ssiDone (s : State) (k : Nat) (idleOk endOk parity : Bool) (raw : Nat) : State :=
  match (s.enc k).ssi.reading with
  | none => s
  | some (tl, tn, _) =>
    let bitsN := s.ssiBits k
    let w := raw / 2 ^ s.encField k 29 1 % 2 ^ bitsN
    let p := if s.encOpt k 5 then grayToBin bitsN w else w
    let res := s.ssiFault k idleOk endOk parity raw
    let s1 := s.modEnc k (fun e => { e with ssi :=
      { e.ssi with reading := none, complete := some (if res.isNone then some p else none, tl, tn) } })
    match res with
    | none => s1
    | some kind => s1.logEnc k 0x0604 5 kind raw

/-! ## Capture (R275, R276) -/

/-- Difference of two positions, over the position bits in SSI (R275). -/
def posDiff (bitsN : Nat) (a b : BitVec 32) : Int := signed bitsN (a - b).toNat

/-- The completed read is taken at the tick; a unit compares where it moved p (R274). -/
def State.ssiTake (s : State) (k : Nat) : State :=
  let e := s.enc k
  match e.ssi.complete with
  | none => s.modEnc k (fun e => { e with ssi := { e.ssi with failedNow := false } })
  | some (none, _, _) => s.modEnc k (fun e =>
      { e with ssi := { e.ssi with complete := none, err := true, fails := e.ssi.fails + 1, failedNow := true } })
  | some (some p, tl, tn) =>
    let q := BitVec.ofNat 32 (if s.encOpt k 2 then 4294967296 - p % 4294967296 else p)
    let d := posDiff (s.ssiBits k) q e.counter
    let s1 := s.modEnc k (fun e =>
      { e with counter := q, edge := some (q + e.c, tl, tn), forward := if d = 0 then e.forward else decide (0 < d)
               ssi := { e.ssi with complete := none, err := false, fails := 0, failedNow := false } })
    if d = 0 then s1 else s1.compare k (decide (0 < d)) s.clk.now tn

/-- Speed in counts per second, and ZERO_SPEED, at a capture at local time `now` (R275). -/
def encSpeed (bitsN : Nat) (e e1 : BitVec 32 × Nat) (now timeout : Nat) (vPrev : F32) : F32 × Bool :=
  if e.2 ≠ e1.2 then
    (F32.ofRat ((posDiff bitsN e.1 e1.1 : Rat) * 1000000000 / (((e.2 : Int) - (e1.2 : Int) : Int) : Rat)), false)
  else if now - e.2 < timeout then
    let lim := if now ≤ e.2 then F32.inf else F32.ofRat ((1000000000 : Rat) / ((now - e.2 : Nat) : Rat))
    let m := if vPrev.abs.lt lim || !lim.finite then vPrev.abs else lim
    (if vPrev.neg? then m.negate else m, false)
  else (0, true)

/-- The qualities of Table 10.5. -/
def State.encQuality (s : State) (k : Nat) (e : EncSt) : Quality × Quality :=
  if s.encMode k = 0 then (.disabled, .disabled)
  else if e.lineFault || decide (3 ≤ e.ssi.fails) then (.open_, .open_)
  else
    let sus := (s.encOpt k 0 && !e.referenced) || e.quadErr || e.ssi.failedNow
    let settle := decide (e.age < s.encField k 10 1)
    (if sus then .suspect else .good,
     if settle then .settling else if e.quadErr then .suspect else .good)

/-- Channel `k` is captured at a tick (step 1 of Table 01.3). -/
def State.captureEnc (s0 : State) (k : Nat) : State :=
  let s := (s0.settleEnc k).ssiTake k
  let e := s.enc k
  if s.encMode k = 0 then
    s.modEnc k (fun e => { e with hist := [], age := 0, posVal := 0, spdVal := 0, posQ := .disabled, spdQ := .disabled
                                  rebasedNow := false, indexNow := false })
  else
    let cur : BitVec 32 × Nat := match e.edge with | some x => (x.1, x.2.1) | none => (e.pos, 0)
    let w := s.encField k 10 1
    let e1 := e.hist.getD (w - 1) cur
    let bitsN := if s.encMode k = 3 then s.ssiBits k else 32
    let (v, z) := encSpeed bitsN cur e1 s.clk.now (ms (s.encField k 12 2)) e.v
    let q := s.encQuality k e
    let p := e.pos
    let val := (((s.encF32 k 16).mul (F32.ofInt (cnt p))).add (s.encF32 k 20)).bounded
    s.modEnc k (fun e =>
      { e with hist := (cur :: e.hist).take 256, v, zeroSpeed := z, p
               age := if q.1 = .open_ then 0 else satAdd 65535 e.age 1
               posVal := if q.1 = .open_ then e.lastGood else val
               spdVal := ((s.encF32 k 24).mul v).bounded, posQ := q.1, spdQ := q.2
               lastGood := if q.1 = .good then val else e.lastGood
               indexSeen := e.indexNow, indexNow := false, rebased := e.rebasedNow, rebasedNow := false
               seqLow := s.frame.seq % 65536 })

/-! ## Record (Tables 10.7 to 10.9) -/

/-- Compare flags. -/
def State.cmpFlags (s : State) (k : Nat) (c : CmpSt) : Nat :=
  bit c.armed * 128 + bit c.behind * 64 + bit c.overrun * 32 + bit c.done * 16 + bit c.overload.isSome * 8 +
    bit c.level * 4 + bit (s.encUnit k != 0xFF && s.encField k 38 1 = 1) * 2 +
    bit (if s.encPulse k then c.rev else s.encField k 39 1 = 1)

/-- Timestamp and nanoseconds of a network instant. -/
def State.stampNs (s : State) (net : Nat) : List Byte := le64 (tsOf net s.timeQuality) ++ le16 (net % 1000 / 10 * 10)

/-- Land `CMPk` of compare unit `u`: as its encoder drives it, low where none does, high-impedance while an overload has it
off (R278, Table 17.6). -/
def State.cmpLand (s : State) (u : Nat) : Option Bool :=
  s.dieLand u (match (List.range 8).find? (fun k => decide (s.encMode k ≠ 0) && decide (s.encUnit k = u)) with
    | some k => if (s.enc k).cmp.overload.isSome then none else some (s.enc k).cmp.level
    | none => some false)

/-- Level of the limit input that the byte at `o` of the entry names, through its 20 µs filter (R280). -/
def State.encLimit (s : State) (k o : Nat) : Bool := (s.dis.getD (s.encField k o 1) {}).limit

/-- Position flags (Table 10.8). -/
def State.encFlags (s : State) (k : Nat) : Nat :=
  let e := s.enc k
  bit e.indexSlip * 32768 + bit e.referenced * 16384 + bit e.quadErr * 8192 + bit e.lineFault * 4096 +
    bit (s.encLimit k 14) * 2048 + bit (s.encLimit k 15) * 1024 + bit e.forward * 512 + bit e.zeroSpeed * 256 +
    bit e.overflow * 128 + bit e.ssi.err * 64 + bit e.rebased * 32 + bit e.indexSeen * 16

/-- Position record of channel `k`. -/
def State.encBytes (s : State) (k : Nat) : List Byte :=
  let e := s.enc k
  if s.encMode k = 0 then
    zeros 12 ++ le8 9 ++ le8 9 ++ zeros 38 ++ le8 0xFF ++ zeros 11
  else
    leF32 e.posVal ++ le32 e.p.toNat ++ leF32 e.spdVal ++ le8 e.posQ.code ++ le8 e.spdQ.code ++
      le16 (s.cfg.roles.get .enc k) ++ le32 e.drift.toNat ++
      (match e.edge with | some (p, _, n) => le32 p.toNat ++ s.stampNs n | none => zeros 14) ++ le16 (s.encFlags k) ++
      (match e.lastLatch with
        | some l => le32 l.p.toNat ++ s.stampNs l.net ++ le8 l.trigger
        | none => zeros 15) ++
      le8 e.fifo.length ++ le8 (s.encUnit k) ++ le8 (s.cmpFlags k e.cmp) ++ le16 e.cmp.fired ++
      le32 e.cmp.point.toNat ++ le16 e.errors ++ le16 e.seqLow

/-! ## Events of the encoder block -/

/-- A unit index that the node has; else the event names no unit of this node. -/
def guardUnit (ok : Bool) (s : State) : Host.Outcome State Fault Refusal :=
  if ok then .next s else .fault .noSuchUnit

/-- `ENCODER_EDGE` (R269): the filtered levels A and B after a sample. -/
def execEncoderEdge (t enc : Nat) (a b : Bool) (s : State) : Host.Outcome State Fault Refusal :=
  guardUnit (decide (enc < 8)) ((s.advance t).encSample enc a b)

/-- `INDEX_EDGE` (R270). -/
def execIndexEdge (t enc : Nat) (s : State) : Host.Outcome State Fault Refusal :=
  guardUnit (decide (enc < 8)) ((s.advance t).indexEdge enc)

/-- A differential below 200 mV for 1 µs on input 0 A, 1 B or 2 Z (R268). -/
def State.lineFault (s0 : State) (k input : Nat) : State :=
  let s := s0.settleEnc k
  let md := s.encMode k
  if md != 0 && s.encOpt k 3 && s.encField k 2 1 = 0 && (input != 2 || s.encField k 4 4 != 0) then
    let s1 := if (s.enc k).lineFault then s
      else (s.modEnc k (fun e => { e with lineFault := true })).logEnc k 0x0602 5 input 0
    s1.setQuadErr k
  else s

/-- `POS_LINE_FAULT` (R268). -/
def execPosLineFault (t enc input : Nat) (s : State) : Host.Outcome State Fault Refusal :=
  guardUnit (decide (enc < 8)) ((s.advance t).lineFault enc input)

/-- `LINE_FAULT_CLEAR` (R268): 10 ms without the condition. -/
def execLineFaultClear (t enc : Nat) (s : State) : Host.Outcome State Fault Refusal :=
  guardUnit (decide (enc < 8)) ((s.advance t).modEnc enc (fun e => { e with lineFault := false }))

/-- `COMPARE_PULSE` (R277): the counter has reached the next point. -/
def execComparePulse (t enc : Nat) (s : State) : Host.Outcome State Fault Refusal :=
  guardUnit (decide (enc < 8)) ((s.advance t).pulseOne enc)

/-- `COMPARE_PULSE_END` (R277): the pulse reaches the end of its width. -/
def execComparePulseEnd (t enc : Nat) (s : State) : Host.Outcome State Fault Refusal :=
  guardUnit (decide (enc < 8))
    ((s.advance t).modEnc enc (fun e => { e with cmp := e.cmp.endPulse (s.advance t).clk.now }))

/-- `CMP_OVERLOAD` (R278): beyond 50 mA for 1 ms; off for 100 ms. -/
def State.cmpOverload (s : State) (k : Nat) : State :=
  if s.encUnit k = 0xFF ∨ (s.enc k).cmp.overload.isSome then s
  else (s.modEnc k (fun e => { e with cmp :=
      { e.cmp with overload := some (s.clk.now + ms 100), level := false } })).logEnc k 0x0608 5 (s.encUnit k) 0

/-- `CMP_OVERLOAD` (R278). -/
def execCmpOverload (t enc : Nat) (s : State) : Host.Outcome State Fault Refusal :=
  guardUnit (decide (enc < 8)) ((s.advance t).cmpOverload enc)

/-- The 100 ms are over: the output is driven again (R278). -/
def State.cmpOverloadEnd (s : State) (k : Nat) : State :=
  match (s.enc k).cmp.overload with
  | some e => if e ≤ s.clk.now then
      (s.modEnc k (fun e => { e with cmp := { e.cmp.endPulse s.clk.now with
        overload := none, level := (e.cmp.endPulse s.clk.now).pulseEnd.isSome } })).cmpWindow k else s
  | none => s

/-- `CMP_OVERLOAD_END` (R278). -/
def execCmpOverloadEnd (t enc : Nat) (s : State) : Host.Outcome State Fault Refusal :=
  guardUnit (decide (enc < 8)) ((s.advance t).cmpOverloadEnd enc)

/-- A tick is at hand. -/
def State.atTick (s : State) : Bool := s.frame.running && decide (s.frame.nextTick ≤ s.clk.now)

/-- `SSI_READ` (R272): a read starts at the tick at hand, of the frame that opens there, on its interval. -/
def execSsiRead (t enc : Nat) (s : State) : Host.Outcome State Fault Refusal :=
  let s1 := s.advance t
  guardUnit (decide (enc < 8)) (if s1.atTick then s1.ssiStart enc s1.frame.seq else s1)

/-- `SSI_READ_COMPLETE` (R273). -/
def execSsiReadComplete (t enc : Nat) (idleOk endOk parity : Bool) (raw : Nat) (s : State) :
    Host.Outcome State Fault Refusal :=
  guardUnit (decide (enc < 8)) ((s.advance t).ssiDone enc idleOk endOk parity raw)

/-- `LATCH` (R279): the oldest trigger is recorded. -/
def execLatch (t enc : Nat) (s : State) : Host.Outcome State Fault Refusal :=
  guardUnit (decide (enc < 8)) ((s.advance t).latchOne enc)

/-- A limit edge of DI `di` through the 20 µs filter (R280). -/
def State.limitEdge (s : State) (di : Nat) (level : Bool) : State :=
  let net := s.clk.base - us 20
  if (s.dis.getD di {}).limit = level then s
  else
    let s1 := { s with dis := modAt s.dis di (fun d => { d with limit := level }) }
    (List.range 8).foldl (fun s k =>
      if s.encMode k = 0 then s
      else
        let edge (o trig : Nat) (e : EncSt) : EncSt := if s.encField k o 1 = di then e.trigger trig net else e
        s.modEnc k (fun e => edge 15 3 (edge 14 2 e))) s1

/-- `LIMIT_EDGE` (R280). -/
def execLimitEdge (t di : Nat) (level : Bool) (s : State) : Host.Outcome State Fault Refusal :=
  guardUnit (decide (di < 16)) ((s.advance t).limitEdge di level)

end Sys2Proof.Machine
end

