-- ==== Sys2Proof/Machine/PosOps.lean ====
section
/-!
DEFINITION. The POS opcodes that act on live state (R271, R283, R285), and the rebase that falls due at a tick.
-/

namespace Sys2Proof.Machine

open Sys2Proof

/-- A live command joins those that act in the next frame (R229). -/
def State.addLive (s : State) (k : LiveKind) (f : Flight) : State :=
  { s with live := s.live ++ [{ kind := k, origin := f.origin.code, fl := some f, role := f.roleEpoch }] }

/-- A live command with its outcome: status, detail and payload. -/
def State.endLive (s : State) (c : LiveCmd) (st : Status) (d : Nat) (p : List Byte) : State :=
  { s with live := modFirst (fun x => decide (x = c)) (fun x => { x with applied := some (st.code, d, p) }) s.live }

/-- A live command that acted: `OK` with a detail; detail 255 stands for a role that has changed since the command was
taken, which aborts it (R47, R239). -/
def State.answerLive (s : State) (c : LiveCmd) (d : Nat) (p : List Byte) : State :=
  if d = 255 then s.endLive c .aborted 3 [] else s.endLive c .ok d p

/-- `POS_REBASE` (R271): it applies at the next tick. -/
def execPosRebase (t tag : Nat) (s : State) : Host.Outcome State Fault Refusal :=
  .next (s.withCur t tag 0x0603 (fun f s =>
    let k := f.unit
    let mode := byteAt f.req 16
    if s.encMode k = 0 then s.refuse f (.badField, 8, [])
    else if s.encMode k = 3 && (mode = 1 || mode = 3) then s.refuse f (.badField, 16, [])
    else if mode = 1 && !(s.enc k).indexSlip then s.refuse f (.badField, 16, [])
    else s.addLive (.rebase k mode (BitVec.ofNat 32 (u32At f.req 20))) f))

/-- `POS_CMP_ARM` (R277): the unit is armed at the next tick. -/
def execPosCmpArm (t tag : Nat) (s : State) : Host.Outcome State Fault Refusal :=
  .next (s.withCur t tag 0x0604 (fun f s =>
    if !s.encPulse f.unit then s.refuse f (.badField, 8, [])
    else s.addLive (.cmpArm f.unit (BitVec.ofNat 32 (u32At f.req 16)) (u32At f.req 20) (u16At f.req 24)
      (byteAt f.req 26)) f))

/-- `POS_CMP_STOP` (R283). -/
def execPosCmpStop (t tag : Nat) (s : State) : Host.Outcome State Fault Refusal :=
  .next (s.withCur t tag 0x0605 (fun f s =>
    if !s.encPulse f.unit then s.refuse f (.badField, 8, []) else s.addLive (.cmpStop f.unit) f))

/-- A latch as an entry of the response (Table 10.12). -/
def State.latchEntry (s : State) (l : LatchRec) : List Byte :=
  le32 l.p.toNat ++ s.stampNs l.net ++ le8 l.trigger ++ le8 l.gen

/-- `POS_LATCH_READ` (R279): the oldest latches; a drain, which the record shows, is answered with the frame that shows it
(R65). -/
def State.latchRead (s0 : State) (f : Flight) : State :=
  let k := f.unit
  let s := s0.settleEnc k
  let e := s.enc k
  let n := byteAt f.req 16
  let out := e.fifo.take n
  let drain := byteAt f.req 17 = 1
  let left := if drain then e.fifo.drop n else e.fifo
  let p := le8 out.length ++ le8 left.length ++ le16 e.dropped ++ zeros 4 ++ (out.map s.latchEntry).flatten
  if drain then (s.modEnc k (fun e => { e with fifo := left, dropped := 0, overflow := false })).wait f (.nextFrame p)
  else s.ok f p

/-- `POS_LATCH_READ` (Table 10.12). -/
def execPosLatchRead (t tag : Nat) (s : State) : Host.Outcome State Fault Refusal :=
  .next (s.withCur t tag 0x0606 (fun f s => s.latchRead f))

/-- One live command of the encoder block acts at the tick, before the capture (R271, R277). -/
def State.applyEncLive (s : State) (c : LiveCmd) : State :=
  if c.applied.isSome then s
  else
    let stale (k : Nat) : Bool := c.role != s.cfg.roles.get .enc k
    match c.kind with
    | .rebase k mode v =>
      if stale k then s.answerLive c 255 []
      else
        let s1 := s.rebaseEnc k mode v
        s1.answerLive c 0 (le32 (s1.enc k).c.toNat ++ le32 (s1.enc k).pos.toNat)
    | .cmpArm k p0 sp n dir =>
      if stale k then s.answerLive c 255 []
      else
        let s1 := (s.settleEnc k).modEnc k (fun e => { e with cmp :=
          { e.cmp with armed := true, volatile := true, point := p0, first := p0,
                       spacing := if sp = 0 then e.cmp.spacing else sp, rev := dir = 1,
                       left := if n = 0 then none else some n, fired := 0, behind := false,
                       overrun := false, missed := 0, done := false, mustReturn := false, hit := none } })
        let s2 := s1.armCheck k
        let x := (s2.enc k).cmp
        s2.answerLive c 0 (le32 x.point.toNat ++ le8 (s2.cmpFlags k x) ++ zeros 3)
    | .cmpStop k =>
      if stale k then s.answerLive c 255 []
      else
        let s1 := (s.settleEnc k).modEnc k (fun e => { e with cmp := { e.cmp with armed := false, hit := none } })
        (s1.cmpRevert k).answerLive c 0 (le16 (s1.enc k).cmp.fired ++ zeros 2)
    | _ => s

/-- A live command is a rebase of a channel that `p` admits. -/
def LiveCmd.rebases (c : LiveCmd) (p : Nat → Bool) : Bool := match c.kind with | .rebase k _ _ => p k | _ => false

/-- The live commands of the encoder block act at the tick: rebases, then the trains in the order in which they were asked
for, then the arming checks still due (R271, R277). -/
def State.encLive (s : State) : State :=
  let s1 := (s.live.filter (fun c => c.rebases (fun _ => true))).foldl State.applyEncLive s
  let s2 := (s.live.filter (fun c => !c.rebases (fun _ => true))).foldl State.applyEncLive s1
  (List.range 8).foldl State.armDue s2

/-- `POS_REBASED` (R271): the requested rebases of the channel apply at the tick at hand, before its `FRAME_TICK`, which else
does the same. -/
def execPosRebased (t enc : Nat) (s : State) : Host.Outcome State Fault Refusal :=
  let s1 := s.advance t
  guardUnit (decide (enc < 8))
    (if s1.atTick then (s.live.filter (fun c => c.rebases (fun k => decide (k = enc)))).foldl State.applyEncLive s1 else s1)

end Sys2Proof.Machine
end

