-- ==== Sys2Proof/Machine/Blend.lean ====
section
/-!
DEFINITION. Step 3: one blend slot evaluated at one capture (R214 to R218), every operation in binary32.
-/

namespace Sys2Proof.Machine

open Sys2Proof

/-- A value with its quality, as a source gives it. -/
abbrev Src := F32 × Quality


/-- A result clamped to a finite value: the value and, if it was not finite, its quality (R170, R216). -/
def finish (y : F32) : F32 × Option Quality :=
  (y.bounded, if y.finite then none else if y.bounded.neg? then some .underRange else some .overRange)

/-- A duration in ns as binary32 seconds. -/
def seconds (ns : Nat) : F32 := F32.ofRat ((ns : Rat) / 1000000000)

/-- Median of three. -/
def median3 (a b c : F32) : F32 :=
  if a.le b then (if b.le c then b else if a.le c then c else a) else (if a.le c then a else if b.le c then c else b)

/-- e to the power −t/p for binary32 operands, the quotient and the result rounded once each; a quotient beyond binary32
leaves nothing. -/
def decay (t p : F32) : F32 := let q := t.div p; if q.isInf then 0 else F32.ofRat (ratExpNeg (-q.toRat))

/-- Quality by rule "All" when some source is not usable: cases 1 to 3 of R217. -/
def worstCase (l : List Src) : Quality :=
  if l.any (fun x => x.2.failed) then .sourceFault
  else if l.any (fun x => decide (x.2 = .settling)) then .settling
  else if l.any (fun x => decide (x.2 = .suspect)) then .suspect
  else if l.any (fun x => decide (x.2 = .calLoad)) then .calLoad else .good

/-- One blend entry as read from its table (Table 08.4). -/
structure BlendCfg where
  op : Nat
  minUse : Nat
  limit : Bool
  srcs : List (Nat × Nat)
  k : List F32
  p : F32
  lo : F32
  hi : F32
  step : Nat
  win : Nat
deriving DecidableEq, Repr

/-- The entry at address `a`; unused source positions are left out. -/
def blendCfg (m : Mem) (a : Nat) : BlendCfg :=
  { op := m.u8 (a + 1), minUse := m.u8 (a + 2), limit := tst (m.u8 (a + 3)) 0
    srcs := ((List.range 4).map (fun i => (m.u8 (a + 4 + 4 * i), m.u16 (a + 6 + 4 * i)))).filter (fun x => x.1 != 0)
    k := (List.range 4).map (fun i => m.f32 (a + 20 + 4 * i))
    p := m.f32 (a + 36), lo := m.f32 (a + 40), hi := m.f32 (a + 44), step := m.u16 (a + 48), win := m.u8 (a + 50) }

/-- A frame joins the open step (R218): RATE keeps x0 and its time, RMS the running sum of the squares, PEAK the largest
magnitude. -/
def countFrame (op : Nat) (x : F32) (now : Nat) (b : BlendSt) : BlendSt :=
  let acc := match op with
    | 13 => if b.count = 0 then x.mul x else b.acc.add (x.mul x)
    | 14 => if b.count = 0 then x.abs else (if b.acc.lt x.abs then x.abs else b.acc)
    | _ => x
  { b with count := b.count + 1, acc := acc, stepAt := now }

/-- A step that has counted its `step` frames closes (R218): RATE closes x0, RMS the mean of the squares, PEAK the
largest magnitude. It closes before the next frame is counted, so every result sees the steps closed before its frame. -/
def closeStep (op step : Nat) (b : BlendSt) : BlendSt :=
  if b.count ≠ 0 ∧ step ≤ b.count then
    let v := if op = 13 then b.acc.div (F32.ofInt (b.count : Int)) else b.acc
    { b with ring := ((v, b.stepAt) :: b.ring).take 64, count := 0, acc := 0 }
  else b

/-- Result of a history operation from the `W` steps closed before this frame (R218); none until there are `W`. -/
def historyResult (op win : Nat) (k0 x : F32) (now : Nat) (ring : List (F32 × Nat)) : Option F32 :=
  if ring.length < win ∨ win = 0 then none
  else
    let l := (ring.take win).reverse
    match op with
    | 11 =>
      let h := l.headD (0, 0)
      some ((k0.mul (x.sub h.1)).div (seconds (now - h.2)))
    | 13 => some (k0.mul ((F32.sum (l.map (fun e => e.1))).div (F32.ofInt (win : Int))).sqrt)
    | _ => some (k0.mul (F32.maxL (l.map (fun e => e.1))))

/-- What an evaluation answers: the raw result or none (value held), its quality, DEGRADED, and the slot's state. -/
structure BlendOut where
  y : Option F32
  q : Quality
  degraded : Bool
  st : BlendSt
deriving DecidableEq, Repr

/-- Rule "Selective" (R217). -/
def selective (xs : List Src) (minUse : Nat) (f : List F32 → F32) (b : BlendSt) : BlendOut :=
  let us := xs.filter (fun x => x.2.usable)
  if minUse ≤ us.length ∧ us ≠ [] then
    { y := some (f (us.map (fun x => x.1)))
      q := if us.any (fun x => decide (x.2 = .calLoad)) then .calLoad else .good
      degraded := decide (us.length < xs.length), st := b }
  else { y := none, q := worstCase xs, degraded := false, st := b }

/-- Rule "All" with a result computed from the sources (R217). -/
def allRule (xs : List Src) (y : F32) (b : BlendSt) : BlendOut :=
  let q := worstCase xs
  { y := if q = .sourceFault ∨ q = .settling then none else some y, q, degraded := false, st := b }

/-- The operations of Table 08.5 on the values of the sources; `now` is the capture time, as network time run. -/
def blendOp (c : BlendCfg) (xs : List Src) (now : Nat) (b : BlendSt) : BlendOut :=
  let v (i : Nat) : F32 := (xs.getD i (0, .disabled)).1
  let k (i : Nat) : F32 := c.k.getD i 0
  let vs := xs.map (fun x => x.1)
  let q0 := (xs.getD 0 (0, .disabled)).2
  match c.op with
  | 0 => { y := some 0, q := .disabled, degraded := false, st := b }
  | 1 => allRule xs (F32.sum ((xs.zipIdx).map (fun x => (k x.2).mul x.1.1))) b
  | 2 => allRule xs (vs.foldl F32.mul (k 0)) b
  | 3 =>
    let o := allRule xs (((k 0).mul (v 0)).div (v 1)) b
    if o.y.isSome && (v 1).abs.lt c.p then { o with y := none, q := .sourceFault } else o
  | 4 =>
    let x := v 0
    let x2 := x.mul x
    allRule xs ((((k 0).add ((k 1).mul x)).add ((k 2).mul x2)).add ((k 3).mul (x2.mul x))) b
  | 5 => selective xs c.minUse F32.minL b
  | 6 => selective xs c.minUse F32.maxL b
  | 7 => selective xs c.minUse (fun l => (F32.sum l).div (F32.ofInt (l.length : Int))) b
  | 8 => selective xs 2 (fun l => match l with
      | [a, d, e] => median3 a d e
      | _ => (F32.sum l).div (F32.ofInt (l.length : Int))) b
  | 9 => selective xs c.minUse (fun l => (F32.maxL l).sub (F32.minL l)) b
  | 10 => selective xs 1 (fun l => l.headD 0) b
  | 12 =>
    let kx := (k 0).mul (v 0)
    let stepTo (t0 : Nat) : F32 :=
      b.y.add ((kx.sub b.y).mul ((1065353216 : F32).sub (decay (seconds (now - t0)) c.p)))
    if q0.usable then
      let y := match b.lagAt with | some t0 => stepTo t0 | none => kx
      allRule xs y { b with y, lagAt := some now }
    else if q0.isHeld then
      allRule xs (match b.lagAt with | some t0 => stepTo t0 | none => kx) b
    else allRule xs 0 { b with lagAt := none }
  | 15 =>
    let x0 := xs.take 1
    let dt := seconds (now - b.lastEval.getD now)
    let y := if q0.usable && c.p.le (v 0) then b.y.add (((k 0).mul (v 0)).mul dt) else b.y
    let x1 := xs.drop 1
    let lx := match x1 with | [(w, wq)] => if wq.usable then some w else b.lastX1 | _ => b.lastX1
    allRule x0 y { b with y, lastX1 := lx }
  | op =>
    -- 11 RATE, 13 RMS, 14 PEAK
    let b0 := if b.failed && q0.usable then { b with ring := [], count := 0, acc := 0 } else closeStep c.op c.step b
    let r := historyResult op c.win (k 0) (v 0) now b0.ring
    let b1 := if q0.usable then countFrame op (v 0) now b0 else b0
    match r with
    | some y => allRule xs y b1
    | none =>
      let q := worstCase xs
      { y := none, q := if q = .sourceFault then .sourceFault else .settling, degraded := false, st := b1 }

/-- An x1 edge of TOTAL: x1 usable and above 0.5 while its last usable value was at or below 0.5 (R218). -/
def totalEdge (c : BlendCfg) (xs : List Src) (b : BlendSt) : Bool :=
  match c.op, xs, b.lastX1 with
  | 15, [_, (w, wq)], some l => wq.usable && (1056964608 : F32).lt w && l.le (1056964608 : F32)
  | _, _, _ => false

/-- One slot at one capture; `reset` asks a TOTAL to return to 0.0. The second answer is the total reached, when it
returned to 0.0 in this frame (R218). -/
def evalBlend (c : BlendCfg) (xs : List Src) (now : Nat) (reset : Bool) (b : BlendSt) : BlendSt × Option F32 :=
  let edge := totalEdge c xs b || (reset && c.op = 15)
  let o := blendOp c xs now b
  let reached := o.st.y
  let st := if edge then { o.st with y := 0 } else o.st
  let y := if edge then o.y.map (fun _ => (0 : F32)) else o.y
  let (v, q, lim) := match y with
    | none => (b.last, o.q, false)
    | some y =>
      let (f, bad) := finish y
      let f' := if c.limit && bad.isNone then (if f.lt c.lo then c.lo else if c.hi.lt f then c.hi else f) else f
      (f', bad.getD o.q, decide (f' ≠ f))
  ({ st with val := v, q := q, degraded := o.degraded, limited := lim, wasReset := edge,
             last := if q.usable then v else b.last, lastEval := some now,
             failed := match xs with | x :: _ => x.2.failed || (st.failed && !x.2.usable) | [] => false },
   if edge then some reached else none)

/-- The slot at a role change: history, state and last value start afresh (R218). -/
def BlendSt.fresh : BlendSt := {}

/-- A commit that changes s or W restarts the history (R218). -/
def BlendSt.restart (b : BlendSt) : BlendSt := { b with ring := [], count := 0, acc := 0 }

/-- Blend record (Table 08.6). -/
def BlendSt.bytes (b : BlendSt) (role : Nat) : List Byte :=
  leF32 b.val ++ le8 b.q.code ++
    le8 (bit b.wasReset * 4 + bit b.limited * 2 + bit b.degraded) ++ le16 role

end Sys2Proof.Machine
end

