-- ==== Sys2Proof/Machine/Weir.lean ====
section
/-!
DEFINITION. Step 4 and the weir part of step 5: one weir evaluated at one capture (R220 to R226) and its state
transitions (R227 to R231).
-/

namespace Sys2Proof.Machine

open Sys2Proof

/-- One weir entry as read from its table (Table 08.15). -/
structure WeirCfg where
  type : Nat
  enable : Bool
  noAck : Bool
  suppressible : Bool
  crossing : Bool
  kind : Nat
  index : Nat
  s : F32
  c : F32
  s2 : F32
  c2 : F32
  nOn : Nat
  nOff : Nat
  step : Nat
  win : Nat
  catPrio : Nat
  faultCat : Nat
  foSet : Nat
  group : Nat
  shelfLimit : Nat
deriving DecidableEq, Repr

/-- The entry at address `a`. -/
def weirCfg (m : Mem) (a : Nat) : WeirCfg :=
  let o := m.u8 (a + 3)
  { type := m.u8 (a + 2), enable := tst o 0, noAck := tst o 1, suppressible := tst o 2, crossing := tst o 3
    kind := m.u8 (a + 4), index := m.u16 (a + 6), s := m.f32 (a + 8), c := m.f32 (a + 12), s2 := m.f32 (a + 16)
    c2 := m.f32 (a + 20), nOn := m.u16 (a + 24), nOff := m.u16 (a + 26), step := m.u16 (a + 28), win := m.u8 (a + 30)
    catPrio := m.u8 (a + 31), faultCat := m.u8 (a + 32) % 4, foSet := m.u8 (a + 33), group := m.u16 (a + 34)
    shelfLimit := m.u16 (a + 36) }

/-- A weir with no entry: not enabled. -/
def weirOff : WeirCfg :=
  { type := 0, enable := false, noAck := false, suppressible := false, crossing := false, kind := 0, index := 0
    s := 0, c := 0, s2 := 0, c2 := 0, nOn := 0, nOff := 0, step := 0, win := 0, catPrio := 0, faultCat := 0
    foSet := 0xFF, group := 0xFFFF, shelfLimit := 0 }

/-- Severity of a category (Table 08.16). -/
def categorySev (c : Nat) : Nat := 7 - c % 4

/-- State code of Table 08.13. -/
def WState.code : WState → Nat
  | .normal => 0 | .activeUnack => 1 | .activeAck => 2 | .rtnUnack => 3 | .shelved => 4 | .suppressed => 5
  | .outOfService => 6 | .sourceFault => 7

/-- State byte (Table 08.13). -/
def WeirSt.stateByte (w : WeirSt) : Nat :=
  bit w.changed * 128 + bit w.frozen * 64 + bit w.cond * 32 + bit w.faultUnack * 16 + w.state.code

/-- Set test of Table 08.8 on x (or r); the answer says whether the second threshold set it. -/
def setTest (c : WeirCfg) (x : F32) : Option Bool :=
  match c.type with
  | 1 => if c.s.le x then some false else none
  | 2 => if x.le c.s then some false else none
  | 3 => if c.s.le x then some false else if x.le c.s2 then some true else none
  | 4 => if c.s.le x then some false else none
  | 5 => if x.le c.s then some false else none
  | 6 => if x.abs = 0 then none else some false
  | 7 => if x.abs = 0 then some false else none
  | _ => none

/-- Clear test of Table 08.8. -/
def clearTest (c : WeirCfg) (x : F32) : Bool :=
  match c.type with
  | 1 => x.le c.c
  | 2 => c.c.le x
  | 3 => c.c2.le x && x.le c.c
  | 4 => x.le c.c
  | 5 => c.c.le x
  | 6 => decide (x.abs = 0)
  | 7 => decide (x.abs ≠ 0)
  | _ => true

/-- The delays of R221 after the raw condition of this evaluated frame: CONDITION and the running delay. -/
def delayStep (c : WeirCfg) (raw : Bool) (w : WeirSt) : WeirSt :=
  if raw = w.cond then { w with raw, running := false, elapsed := 0 }
  else
    let n := if raw then c.nOn else c.nOff
    let e := if w.running then w.elapsed + 1 else 0
    if n ≤ e then { w with raw, cond := raw, running := false, elapsed := 0 }
    else { w with raw, running := true, elapsed := e }

/-- Delay counter of the record: frames still to run (R221). -/
def WeirSt.counter (c : WeirCfg) (w : WeirSt) : Nat :=
  if w.running then (if w.raw then c.nOn else c.nOff) - w.elapsed else 0

/-- What the crossing time needs: profile, capture (network ns, quality), pin-to-value delay in ns, and the crossing
stream of the source with the value of the previous frame in front, when the source has one (R224). -/
structure CrossIn where
  profile : Nat
  captBase : Nat
  tq : Nat
  stream : Option (List F32)
deriving DecidableEq, Repr

/-- Pin-to-value delay in ns (Table 05.8). -/
def pinDelay (profile : Nat) : Nat :=
  match profile with | 0 => 1328000 | 1 => 10078000 | 2 => 50078000 | _ => 90078000

/-- First index ≥ 1 of the stream whose sample meets the set test of the threshold that set the condition. -/
def firstMeet (c : WeirCfg) (second : Bool) : List F32 → Nat → Option Nat
  | [], _ => none
  | x :: r, i =>
    let m := match c.type, second with
      | 1, _ => c.s.le x
      | 2, _ => x.le c.s
      | _, false => c.s.le x
      | _, true => x.le c.s2
    if m then some i else firstMeet c second r (i + 1)

/-- Nearest integer, halves away from zero. -/
def roundAway (q : Rat) : Int := divRound q.num q.den

/-- Crossing offset in µs, when the conditions of R224 hold. -/
def crossOffset (c : WeirCfg) (second usableBefore : Bool) (x : CrossIn) : Option Int :=
  match x.stream with
  | none => none
  | some st =>
    if c.crossing && usableBefore && decide (1 ≤ c.type) && decide (c.type ≤ 3) && decide (x.profile ≤ 1) then
      match firstMeet c second (st.drop 1) 1 with
      | none => none
      | some i =>
        let a := (st.getD (i - 1) 0).toRat
        let b := (st.getD i 0).toRat
        let th := (if second then c.s2 else c.s).toRat
        let f : Rat := if b = a then 0 else (th - a) / (b - a)
        let m : Rat := ((st.length - 1 : Nat) : Rat)
        -- t_x from the tick that ended the frame, in µs
        let tx : Rat := (125 : Rat) / 4 * (((i - 1 : Nat) : Rat) + f - m)
        some (roundAway (tx - ((pinDelay x.profile : Nat) : Rat) / 1000))
    else none

/-- What step 4 reports for step 5 and the recorder. -/
structure WeirEvent where
  rawSet : Bool
  condSet : Bool
  condClear : Bool
deriving DecidableEq, Repr

/-- Timestamp of Table 13.2. -/
def weirTs (ns q : Nat) : Nat := (ns / 1000000000) % 1099511627776 * 16777216 + (ns % 1000000000) / 1000 * 16 + q

/-- Timestamp of the crossing: the capture plus the offset, or the capture less the pin-to-value delay when the source
is a channel (R224, R226). -/
def crossTs (c : WeirCfg) (off : Option Int) (x : CrossIn) : Nat :=
  match off with
  | some o => weirTs ((x.captBase : Int) + o * 1000).toNat x.tq
  | none => weirTs (if c.kind = 1 then x.captBase - pinDelay x.profile else x.captBase) x.tq

/-- The rate of R222 from the ring, none until W steps have closed. -/
def rateOf (win : Nat) (x : F32) (now : Nat) (ring : List (F32 × Nat)) : Option F32 :=
  historyResult 11 win 1065353216 x now ring

/-- A full step of the rate ring closes (R222). -/
def WeirSt.closeStep (step : Nat) (w : WeirSt) : WeirSt :=
  if w.count ≠ 0 ∧ step ≤ w.count then { w with ring := ((w.stepX, w.stepAt) :: w.ring).take 64, count := 0 } else w

/-- A frame joins the open step of the rate ring (R222). -/
def WeirSt.countFrame (x : F32) (now : Nat) (w : WeirSt) : WeirSt :=
  { w with count := w.count + 1, stepX := x, stepAt := now }

/-- The crossing time of the raw condition becomes that of the activation when CONDITION sets (R226). -/
def WeirSt.activated (w : WeirSt) : WeirSt := { w with cross := w.rawCross, fine := w.offset.isSome }

/-- Step 4 for one enabled weir: source, raw condition, delays, crossing time. `now` is the capture time, as network time
run. More than 256 SUSPECT frames are a failed source until the next usable frame (R223). -/
def evalWeir (c : WeirCfg) (src : Src) (now : Nat) (x : CrossIn) (w : WeirSt) : WeirSt × WeirEvent :=
  let none_ : WeirEvent := ⟨false, false, false⟩
  let q := src.2
  let sus := if q = .suspect then min 257 (w.suspects + 1) else if q.usable || decide (w.suspects ≤ 256) then 0 else w.suspects
  let fail := q.failed || (!q.usable && decide (256 < sus))
  let w0 := { w with srcQ := q, srcV := src.1, suspects := sus, frozen := false }
  if fail then
    ({ w0 with raw := false, cond := false, running := false, elapsed := 0, ring := [], count := 0, usable := false,
               failed := true }, ⟨false, false, w.cond⟩)
  else if q.isHeld then ({ w0 with frozen := true, usable := false, failed := false }, none_)
  else
    let isRate := c.type = 4 ∨ c.type = 5
    let wc := if isRate then w0.closeStep c.step else w0
    let r := if isRate then rateOf c.win src.1 now wc.ring else some src.1
    let hist (v : WeirSt) : WeirSt := if isRate then v.countFrame src.1 now else v
    match r with
    | none => (hist { wc with frozen := true, usable := true, failed := false }, none_)
    | some v =>
      let t := setTest c v
      let raw := if w.raw then !clearTest c v else t.isSome
      let rawSet := raw && !w.raw
      let second := if rawSet then t.getD false else w.second
      let w1 := hist (delayStep c raw { wc with usable := true, failed := false, second })
      let off := crossOffset c second w.usable x
      let w2 := if rawSet then { w1 with offset := off, rawCross := crossTs c off x } else w1
      let set_ := w2.cond && !w.cond
      (if set_ then w2.activated else w2, ⟨rawSet, set_, !w2.cond && w.cond⟩)

/-- What step 5 logs for a weir: event code, severity, parameters; the recorder adds the rest. -/
structure WeirLog where
  code : Nat
  sev : Nat
  p1 : Nat
  p2 : Nat
  /-- the timestamp is the crossing time -/
  atCross : Bool := false
  /-- it is the record of a crossing and carries the time of a frame (R224, Table 13.4) -/
  flag : Bool := false
deriving DecidableEq, Repr

/-- Commands that act on a weir in this frame, each kind in the order in which they were taken (R229). -/
structure WeirCmds where
  /-- out of service or back, with the origin -/
  service : List (Bool × Nat) := []
  /-- duration in s, with the origin -/
  shelve : List (Nat × Nat) := []
  /-- origins of acknowledgements -/
  acks : List Nat := []
deriving DecidableEq, Repr

/-- A mask holds: cases 1 to 3 of R227. -/
def WeirSt.mask (c : WeirCfg) (suppress : Bool) (w : WeirSt) : Option WState :=
  if !c.enable || w.oos then some .outOfService
  else if w.shelf.isSome then some .shelved
  else if c.suppressible && suppress then some .suppressed
  else none

/-- The weir has something to acknowledge (R230). -/
def WeirSt.ackable (w : WeirSt) : Bool :=
  w.faultUnack || decide (w.state = .activeUnack) || decide (w.state = .rtnUnack)

/-- One acknowledgement (R228, R230): the state and FAULT_UNACK, and the record if there was something to
acknowledge. -/
def ackOne (p : WeirSt × List WeirLog) (origin : Nat) : WeirSt × List WeirLog :=
  let w := p.1
  if w.ackable then
    ({ w with faultUnack := false,
              state := if w.state = .activeUnack then .activeAck else if w.state = .rtnUnack then .normal else w.state },
     p.2 ++ [{ code := 0x0405, sev := 3, p1 := w.stateByte, p2 := origin }])
  else p

/-- The transition into the active state and its record (R226, R228). -/
def activate (c : WeirCfg) (w : WeirSt) : WeirSt × List WeirLog :=
  ({ w with state := if c.noAck then .activeAck else .activeUnack },
   [{ code := 0x0401, sev := categorySev (c.catPrio / 64), p1 := w.srcV.toNat
      p2 := (if w.second then c.s2 else c.s).toNat, atCross := true
      flag := !w.fine }])

/-- The transition into `SOURCE_FAULT` and its record. -/
def toFault (c : WeirCfg) (w : WeirSt) : WeirSt × List WeirLog :=
  ({ w with state := .sourceFault, faultUnack := true },
   [{ code := 0x0403, sev := categorySev c.faultCat, p1 := w.srcQ.code, p2 := 0 }])

/-- Table 08.11 for an unmasked weir whose mask did not end in this frame. -/
def unmasked (c : WeirCfg) (w : WeirSt) : WeirSt × List WeirLog :=
  if w.failed then (if w.state = .sourceFault then (w, []) else toFault c w)
  else
    let (w1, l1) := if w.state = .sourceFault then
        ({ w with state := .normal },
         [({ code := 0x0404, sev := categorySev c.faultCat, p1 := w.srcQ.code, p2 := 0 } : WeirLog)])
      else (w, [])
    if w1.cond && (decide (w1.state = .normal) || decide (w1.state = .rtnUnack)) then
      let (w2, l2) := activate c w1
      (w2, l1 ++ l2)
    else if !w1.cond && (decide (w1.state = .activeUnack) || decide (w1.state = .activeAck)) then
      ({ w1 with state := if w1.state = .activeUnack && !c.noAck then .rtnUnack else .normal },
       l1 ++ [{ code := 0x0402, sev := categorySev (c.catPrio / 64), p1 := w1.srcV.toNat
                p2 := (if c.type = 3 && w1.second then c.c2 else c.c).toNat }])
    else (w1, l1)

/-- One out-of-service command (R229, item 1). -/
def serviceOne (p : WeirSt × List WeirLog) (k : Bool × Nat) : WeirSt × List WeirLog :=
  if p.1.oos = k.1 then p
  else ({ p.1 with oos := k.1 }, p.2 ++ [{ code := if k.1 then 0x0408 else 0x0409, sev := 3, p1 := 0, p2 := k.2 }])

/-- One shelve or unshelve command (R231). -/
def shelveOne (now : Nat) (p : WeirSt × List WeirLog) (k : Nat × Nat) : WeirSt × List WeirLog :=
  if k.1 = 0 then
    (if p.1.shelf.isSome then
       ({ p.1 with shelf := none }, p.2 ++ [{ code := 0x0407, sev := 3, p1 := 0, p2 := k.2 }])
     else p)
  else ({ p.1 with shelf := some (now + k.1 * 1000000000) },
        p.2 ++ [{ code := 0x0406, sev := 3, p1 := k.1, p2 := k.2 }])

/-- A shelve expires at the first capture at or past its end (R231). -/
def expireShelf (now : Nat) (p : WeirSt × List WeirLog) : WeirSt × List WeirLog :=
  match p.1.shelf with
  | some e =>
    if e ≤ now then ({ p.1 with shelf := none }, p.2 ++ [{ code := 0x0407, sev := 3, p1 := 0, p2 := 0x41 }]) else p
  | none => p

/-- The weir in `NORMAL`. -/
def WeirSt.toNormal (w : WeirSt) : WeirSt := { w with state := .normal }

/-- Acknowledgements in order; the answers say which had something to acknowledge (R230). -/
def ackAll : List Nat → WeirSt × List WeirLog → (WeirSt × List WeirLog) × List Bool
  | [], p => (p, [])
  | o :: r, p =>
    let (q, l) := ackAll r (ackOne p o)
    (q, p.1.ackable :: l)

/-- Step 5 for one weir in the order of R229; `suppress` is the suppression of its group in this frame, `now` the capture
time as network time run, `shown` its state in the last published frame. A weir that is not enabled stands `OUT_OF_SERVICE`. -/
def weirStep5 (c : WeirCfg) (k : WeirCmds) (suppress : Bool) (now : Nat) (shown : WState) (w : WeirSt) :
    (WeirSt × List WeirLog) × List Bool :=
  let s0 := w.state
  let was : Bool := decide (s0 = .outOfService) || decide (s0 = .shelved) || decide (s0 = .suppressed)
  let p1 := k.service.foldl serviceOne (w, [])
  let p2 := k.shelve.foldl (shelveOne now) p1
  let p3 := expireShelf now p2
  let m := p3.1.mask c suppress
  -- a mask that begins discards the alarm state before the acknowledgements
  let w3 := match m with | some st => { p3.1 with state := st } | none => p3.1
  let (p4, r) := ackAll k.acks (w3, p3.2)
  let (w5, l5) := match m with
    | some _ => (p4.1, [])
    | none =>
      if was then
        (if p4.1.failed then toFault c p4.1
         else if p4.1.cond then activate c p4.1 else (WeirSt.toNormal p4.1, []))
      else unmasked c p4.1
  (({ w5 with changed := decide (w5.state ≠ shown) }, p4.2 ++ l5), r)

/-- A weir after a reset, or after a commit that advances its role epoch (Table 08.11, R232). -/
def WeirSt.fresh (enabled : Bool) : WeirSt := { state := if enabled then .normal else .outOfService }

/-- A commit that changes s or W restarts the rate ring (R233). -/
def WeirSt.restart (w : WeirSt) : WeirSt := { w with ring := [], count := 0 }

/-- Weir record (Table 08.12). -/
def WeirSt.bytes (c : WeirCfg) (w : WeirSt) (role : Nat) : List Byte :=
  if c.enable then
    le8 w.stateByte ++ le8 c.catPrio ++ le16 (w.counter c) ++
      (match w.offset with | some o => leS16 (clampI (-32767) 32767 o) | none => le16 0x8000) ++ le16 role
  else le8 6 ++ le8 c.catPrio ++ le16 0 ++ le16 0x8000 ++ le16 role

end Sys2Proof.Machine
end

