-- ==== Sys2Proof/Machine/EdgeIo.lean ====
section
/-!
DEFINITION. The outer edge (chapter 17): digital inputs, annunciator outputs with their protections, the node-healthy
relay, their records and commands.
-/

namespace Sys2Proof.Machine

open Sys2Proof

/-! ## Digital inputs (R446, R447) -/

/-- Field of a DI entry in force. -/
def State.diField (s : State) (i o n : Nat) : Nat :=
  match imgEntry s.cfg.img 0x80 i with | some a => s.cfg.img.num (a + o) n | none => 0
/-- DI `i`. -/
def State.di (s : State) (i : Nat) : DiSt := s.dis.getD i {}
/-- DI `i` changed. -/
def State.modDi (s : State) (i : Nat) (f : DiSt → DiSt) : State := { s with dis := modAt s.dis i f }

/-- Value of the debounced level under the function (R447). -/
def diValue (func : Nat) (deb : Bool) : Bool := match func with | 1 => deb | 2 => !deb | _ => false

/-- Quality of a DI at local time `now`. -/
def diQuality (func debMs now : Nat) (d : DiSt) : Quality :=
  if func = 0 then .disabled
  else if d.broken then .open_
  else if now < d.enabledAt + ms debMs then .settling else .good

/-- DI record. -/
def State.diBytes (s : State) (i : Nat) : List Byte :=
  let d := s.di i
  le8 (bit d.changed * 128 + bit d.level * 64 + bit d.broken * 32 + bit d.val) ++ le8 d.q.code ++
    le16 (s.cfg.roles.get .di i)

/-- An event of DI `i`. -/
def State.logDi (s : State) (i code sev p1 p2 : Nat) : State :=
  s.logEv code sev 13 i (s.cfg.roles.get .di i) p1 p2

/-- Level that Table 17.1 gives a land at `mv`; from 5.0 V up to 11.0 V the level is kept. -/
def diClass (level : Bool) (mv : Nat) : Bool := if mv < 5000 then false else if mv < 11000 then level else true

/-- A sample of the land at local time `now`: the classified level, how long it has held, and the debounced level, which follows
once that is the debounce time (R446, R447). -/
def DiSt.sample (d : DiSt) (debMs now mv : Nat) : DiSt :=
  let l := diClass d.level mv
  let since := if l = d.level then d.levelAt else now
  { d with level := l, levelAt := since, deb := if since + ms debMs ≤ now then l else d.deb
           lowAt := if mv < 1000 then some (d.lowAt.getD now) else none }

/-- A broken line begins or ends, on a monitored input (R446). -/
def State.diLine (s : State) (i : Nat) (broken : Bool) : State :=
  if !tst (s.diField i 2 1) 0 || s.diField i 1 1 = 0 || (s.di i).broken = broken then s
  else (s.modDi i (fun d => { d with broken })).logDi i 0x0E01 5 (bit broken) 0

/-- DI `i` is sampled at a land voltage, where Table 17.6 samples it; a line is broken once its land has been below 1.0 V for
10 ms. -/
def State.diSample (s : State) (i mv : Nat) : State :=
  if !s.landsUp then s
  else
    let s1 := s.modDi i (fun d => d.sample (s.diField i 4 2) s.clk.now mv)
    match (s1.di i).lowAt with
    | some t => if t + ms 10 ≤ s.clk.now then s1.diLine i true else s1
    | none => s1.diLine i false

/-- DI `i` is captured (step 1 of Table 01.3); the value field under OPEN holds the last value of any other quality. -/
def State.captureDi (s : State) (i mv : Nat) : State :=
  let f := s.diField i 1 1
  (s.diSample i mv).modDi i (fun d =>
    let q := diQuality f (s.diField i 4 2) s.clk.now d
    let v := if q = .open_ then d.last else diValue f d.deb
    { d with val := v, q, last := v, changed := v != d.val || decide (q ≠ d.q) })

/-- `DEBOUNCE` (R447): a sample of the land; a level that has held for the debounce time becomes the debounced one. -/
def execDebounce (t di mv : Nat) (s : State) : Host.Outcome State Fault Refusal :=
  guardUnit (decide (di < 16)) ((s.advance t).diSample di mv)

/-- `DI_LINE_BROKEN` (R446): a sample below 1.0 V; the line is broken where that has lasted 10 ms. -/
def execDiLineBroken (t di : Nat) (s : State) : Host.Outcome State Fault Refusal :=
  guardUnit (decide (di < 16)) ((s.advance t).diSample di 0)

/-- `DI_LINE_RESTORED` (R446): the land rises above 1.0 V. -/
def execDiLineRestored (t di : Nat) (s : State) : Host.Outcome State Fault Refusal :=
  guardUnit (decide (di < 16)) ((s.advance t).diSample di 1000)

/-! ## Annunciator outputs (R449 to R453) -/

/-- Field of an AO entry in force. -/
def State.aoField (s : State) (k o n : Nat) : Nat :=
  match imgEntry s.cfg.img 0x81 k with | some a => s.cfg.img.num (a + o) n | none => 0
/-- An AO is enabled. -/
def State.aoOn (s : State) (k : Nat) : Bool := tst (s.aoField k 1 1) 0
/-- AO `k`. -/
def State.ao (s : State) (k : Nat) : AoSt := s.aos.getD k {}
/-- AO `k` changed. -/
def State.modAo (s : State) (k : Nat) (f : AoSt → AoSt) : State := { s with aos := modAt s.aos k f }

/-- A node condition of Table 08.2 (source kind 13). -/
def State.condition (s : State) (i : Nat) : Bool :=
  match i with
  | 0 => (match s.frame.lastSlip with | some x => decide (s.clk.now < x + secs 1) | none => false)
  | 1 => s.banks.any (fun b => decide (b.power = .failed))
  | 2 => s.banks.any (fun b => decide (b.power = .up) && !b.aligned)
  | 3 => decide (s.pwr.euUj < s.reserveUj)
  | 4 => s.outs.any (fun o => o.budgetHeld) || s.aos.any (fun a => a.budgetHeld)
  | 5 => s.unaligned
  | 6 => s.banks.any (fun b => b.insul.hullOpen)
  | 7 => (match s.log.lastDrop with | some x => decide (s.clk.now < x + secs 60) | none => false)
  | 8 => s.host.irqStat.getLsbD 7
  | _ => false

/-- Stage field of a chain: offset in the stage (Table 09.11). -/
def State.stageField (s : State) (c k o : Nat) : Nat :=
  match imgEntry s.cfg.img 0x32 c with | some a => s.cfg.img.u8 (a + 8 + 12 * k + o) | none => 0

/-- Chain `c` drives AO `k`: none, or whether steady (R255, R256). -/
def State.chainDrives (s : State) (c k : Nat) : Option Bool :=
  let x := s.eng.chains.getD c {}
  let on := x.forced || decide (x.state = .calling) || decide (x.state = .accepted)
  if on && tst (s.stageField c x.stage 2) k then some (decide (s.stageField c x.stage 3 = 0)) else none

/-- The dead-man pre-warning names AO `k` and runs (R261). -/
def State.prewarns (s : State) (k : Nat) : Bool :=
  decide (s.eng.dead.state = .prewarn) &&
    (match imgEntry s.cfg.img 0x33 16 with | some a => tst (s.cfg.img.u8 (a + 8)) k | none => false)

/-- What an AO's source asks for: on, pulsed (Table 17.3). -/
def State.aoWants (s : State) (k : Nat) : Bool × Bool :=
  let x := s.aoField k 4 2
  let pulsed := tst (s.aoField k 1 1) 3
  match s.aoField k 2 1 with
  | 0 => (decide ((s.ao k).cmd ≠ 0), decide ((s.ao k).cmd = 2))
  | 1 =>
    let ds := ((List.range 16).filter (fun c => tst x c)).filterMap (fun c => s.chainDrives c k)
    let steady := ds.any id || s.prewarns k
    (!ds.isEmpty || s.prewarns k, !ds.isEmpty && !steady)
  | 2 => let w := s.eng.weirs.getD x {}
         (decide (w.state = .activeUnack) || decide (w.state = .rtnUnack) ||
           (decide (w.state = .sourceFault) && w.faultUnack), pulsed)
  | 3 => (decide ((s.eng.groups.getD x {}).unack ≠ 0), pulsed)
  | _ => (s.condition x, pulsed)

/-- Headgate class of an AO (Table 17.3). -/
def State.aoClass (s : State) (k : Nat) : Nat := if s.aoField k 2 1 = 1 then 0 else 2

/-- Step 6: the command of AO `k` for the next tick. -/
def State.aoCommand (s : State) (k : Nat) : State :=
  let (on, pl) := if s.aoOn k then s.aoWants k else (false, false)
  s.modAo k (fun a => { a with on, pulsed := pl })

/-- The command `on` of an output whose overload is latched: off, and then on again, ends the latch (Table 17.4). -/
def AoSt.relatch (a : AoSt) (on : Bool) : AoSt :=
  if !a.latched then a
  else if !on then { a with released := true }
  else if a.released then { a with latched := false, released := false, fault := 0 }
  else a

/-- Step 8: the command takes effect at the tick, a claim that the headgate holds leaving the output as it was; outside ARMED the
output takes its safe state (Table 17.6). An output that the total limit switched off claims again. -/
def State.aoApply (s : State) (k : Nat) : State :=
  let armed := decide (s.pwr.state = .armed)
  let safeOn := s.aoOn k && tst (s.aoField k 1 1) 2
  s.modAo k (fun a =>
    let a1 :=
      if !armed then { a with appliedOn := safeOn, appliedPulsed := false }
      else if a.granted then { a with appliedOn := a.on, appliedPulsed := a.pulsed } else a
    let a2 := a1.relatch (if armed then a.on else safeOn)
    if a2.fault = 5 then { a2 with offUntil := none } else a2)

/-- The land of AO `k` is on at the present instant (R449). -/
def State.aoLand (s : State) (k : Nat) : Bool :=
  let a := s.ao k
  a.appliedOn && !a.latched && a.offUntil.isNone && (!a.appliedPulsed || decide (s.clk.base % secs 1 < ms 500))

/-- AO flags (Table 17.9). -/
def State.aoFlags (s : State) (k : Nat) : Nat :=
  let a := s.ao k
  bit a.on * 128 + bit (s.aoLand k) * 64 + bit a.pulsed * 32 + bit (s.aoOn k && decide (s.pwr.state ≠ .armed)) * 16 +
    bit a.budgetHeld * 8

/-- AO record. -/
def State.aoBytes (s : State) (k : Nat) : List Byte :=
  le8 (s.aoFlags k) ++ le8 (s.ao k).fault ++ le16 (s.ao k).current ++ le16 (s.cfg.roles.get .ao k)

/-- A fault of AO `k` is shown and logged (R451). -/
def State.aoFault (s : State) (k code ma : Nat) : State :=
  (s.modAo k (fun a => { a with fault := code, faultAt := s.clk.now, current := min 65535 ma })).logEv 0x0E02 5 14 k
    (s.cfg.roles.get .ao k) code ma

/-- An overload switches an output that is on off: for 1 s, or latched at the third within 10 s (Table 17.4). -/
def State.aoOverload (s : State) (k ma : Nat) : State :=
  if !s.aoOn k || !s.aoLand k || ma ≤ 550 then s
  else
    let recent := ((s.ao k).overloads.filter (fun x => decide (s.clk.now < x + secs 10))) ++ [s.clk.now]
    if 3 ≤ recent.length then
      (s.modAo k (fun a => { a with overloads := recent, latched := true, released := false, offUntil := none })).aoFault k 4 ma
    else
      (s.modAo k (fun a => { a with overloads := recent, offUntil := some (s.clk.now + secs 1) })).aoFault k 2 ma

/-- Fault of Table 17.4 whose condition a current and a land voltage meet, of 1 and 3; `thr` is the open-load threshold. -/
def aoCond (on : Bool) (thr ma mv vship : Nat) : Nat :=
  if on then (if ma < thr then 1 else 0) else if vship ≤ mv + 3000 then 3 else if 6000 < mv then 1 else 0

/-- The condition `c` of a sample is noted; a fault goes 100 ms after its condition last held, fault 4 never so (R451). -/
def AoSt.settle (a : AoSt) (now c : Nat) (on : Bool) : AoSt :=
  let a1 := { a with cond := c, condOn := on, condAt := if c = a.cond ∧ on = a.condOn then a.condAt else now }
  if c = a.fault then { a1 with faultAt := now }
  else if !a.latched && decide (a.faultAt + ms 100 ≤ now) then { a1 with fault := 0 } else a1

/-- AO `k` is sampled at a current and a land voltage: an overload acts at once; with LINE_MON an open load or a short to supply
that has held for 100 ms is reported (R451). -/
def State.aoSample (s : State) (k ma mv : Nat) : State :=
  let on := s.aoLand k
  let s1 := s.modAo k (fun a => { a with current := min 65535 ma })
  if s1.aoOn k && on && decide (550 < ma) then s1.aoOverload k ma
  else
    let c := if s1.aoOn k && tst (s1.aoField k 1 1) 1 then aoCond on (s1.aoField k 6 2) ma mv s1.pwr.vshipMv else 0
    let s2 := s1.modAo k (fun a => a.settle s.clk.now c on)
    let a := s2.ao k
    if c ≠ 0 ∧ a.condAt + ms 100 ≤ s.clk.now ∧ c ≠ a.fault ∧ (a.fault = 0 ∨ a.fault = 1 ∨ a.fault = 3) then s2.aoFault k c ma
    else s2

/-- `AO_LINE_FAULT` (R451): a sample of the output, at which an open load or a short to supply that has held for 100 ms is
reported. -/
def execAoLineFault (t ao mv ma : Nat) (s : State) : Host.Outcome State Fault Refusal :=
  guardUnit (decide (ao < 8)) ((s.advance t).aoSample ao ma mv)

/-- `AO_OVERLOAD` (R451): current above 0.55 A. -/
def execAoOverload (t ao ma : Nat) (s : State) : Host.Outcome State Fault Refusal :=
  guardUnit (decide (ao < 8)) ((s.advance t).aoOverload ao ma)

/-- `AO_RETRY` (R451): 1 s after an overload the output is tried again. -/
def execAoRetry (t ao : Nat) (s : State) : Host.Outcome State Fault Refusal :=
  let s1 := s.advance t
  guardUnit (decide (ao < 8)) (s1.modAo ao (fun a =>
    match a.offUntil with | some u => if u ≤ s1.clk.now && a.fault != 5 then { a with offUntil := none } else a | none => a))

/-- `AO_FAULT_CLEAR` (R451): a fault goes 100 ms after its condition last held; the condition of the last sample stands. -/
def execAoFaultClear (t ao : Nat) (s : State) : Host.Outcome State Fault Refusal :=
  let s1 := s.advance t
  guardUnit (decide (ao < 8)) (s1.modAo ao (fun a => a.settle s1.clk.now a.cond a.condOn))

/-- Outputs switched off in descending index until the total lies below 2.0 A (R452). -/
def limitOff (ma : List Nat) : List Nat → Nat → List Nat
  | [], _ => []
  | k :: r, total => if total < 2000 then [] else k :: limitOff ma r (total - ma.getD k 0)

/-- The total of the outputs has been above 2.1 A for 1 ms (R452); the occurrence goes on while a fault 5 stands. -/
def State.aoTotal (s : State) (ma : List Nat) : State :=
  let total := ((List.range 8).map (fun k => ma.getD k 0)).sum
  if total ≤ 2100 then s
  else
    let off := limitOff ma ([7, 6, 5, 4, 3, 2, 1, 0].filter s.aoLand) total
    let again := (List.range 8).any (fun k => decide ((s.ao k).fault = 5))
    let s1 := off.foldl (fun s k =>
      let s1 := s.modAo k (fun a => { a with offUntil := some s.frame.nextTick, faultAt := s.clk.now })
      if (s.ao k).fault = 5 then s1 else s1.aoFault k 5 (ma.getD k 0)) s
    if again then s1 else s1.logNode 0x0E03 6 total ((off.map (fun k => 2 ^ k)).sum)

/-- The power die sees the currents: above 2.1 A together for 1 ms is too much (R452). -/
def State.aoTotalSample (s : State) (ma : List Nat) : State :=
  if ((List.range 8).map (fun k => ma.getD k 0)).sum ≤ 2100 then { s with pwr := { s.pwr with aoOver := none } }
  else
    let since := s.pwr.aoOver.getD s.clk.now
    if since + ms 1 ≤ s.clk.now then ({ s with pwr := { s.pwr with aoOver := none } }).aoTotal ma
    else { s with pwr := { s.pwr with aoOver := some since } }

/-- `AO_TOTAL_LIMIT` (R452); `ma` are the eight currents. -/
def execAoTotalLimit (t : Nat) (ma : List Nat) (s : State) : Host.Outcome State Fault Refusal :=
  .next ((s.advance t).aoTotalSample ma)

/-- The lines of the outer edge at a capture: currents and land voltages of the AOs. -/
def State.takeAos (s : State) (ma mv : List Nat) : State :=
  ((List.range 8).foldl (fun s k => s.aoSample k (ma.getD k 0) (mv.getD k 0)) s).aoTotalSample ma

/-- `IO_AO_COMMAND` (R464): kind 0 and enabled only; it acts in the next frame. -/
def execIoAoCommand (t tag : Nat) (s : State) : Host.Outcome State Fault Refusal :=
  .next (s.withCur t tag 0x0E04 (fun f s =>
    if !s.aoOn f.unit || s.aoField f.unit 2 1 != 0 then s.refuse f (.badField, 8, [])
    else s.addLive (.aoCommand f.unit (byteAt f.req 16)) f))

/-! ## The node-healthy relay (R454, R455) -/

/-- Unmet conditions of R454, bit n − 1 for condition n. -/
def State.nokUnmet (s : State) : Nat :=
  bit (decide (s.pwr.state ≠ .armed)) + 2 * bit s.bus.duplicate + 4 * bit s.pwr.headgateOver + 8 * bit (s.condition 0) +
    16 * bit (match s.frame.lastPub with | some x => decide (x + ms 10 < s.clk.now) | none => true)

/-- NOK_DRV follows its conditions; a coil fault leaves it off until the next entry to ARMED. -/
def State.nokUpdate (s : State) : State :=
  { s with nok := { s.nok with on := decide (s.nokUnmet = 0) && !s.nok.coilFault } }

/-- NOK_DRV record. -/
def State.nokBytes (s : State) : List Byte :=
  le8 (bit s.nok.on * 128 + bit s.nok.coilFault * 64) ++ le8 s.nokUnmet ++ le16 s.nok.current ++ le16 s.rst.cause ++
    zeros 10

/-- The coil is found at fault: the driver goes off until the node next enters ARMED. -/
def State.nokFault (s : State) (ma : Nat) : State :=
  ({ s with nok := { s.nok with on := false, coilFault := true, lowAt := none } }).logNode 0x0E04 6 ma 0

/-- The coil current of the driver that is on: above 150 mA, or below 5 mA for 100 ms, is a fault (R455). -/
def State.nokSample (s : State) (ma : Nat) : State :=
  let s1 := { s with nok := { s.nok with current := min 65535 ma, lowAt := if s.nok.on ∧ ma < 5 then some (s.nok.lowAt.getD s.clk.now) else none } }
  if !s.nok.on then s1
  else if 150 < ma then s1.nokFault ma
  else match s1.nok.lowAt with
    | some t => if t + ms 100 ≤ s.clk.now then s1.nokFault ma else s1
    | none => s1

/-- `NOK_COIL_FAULT` (R455): a sample of the coil current. -/
def execNokCoilFault (t ma : Nat) (s : State) : Host.Outcome State Fault Refusal :=
  .next ((s.advance t).nokSample ma)

/-- `PUBLICATION_TIMEOUT` (R454): no page for 10 ms; the hardware timer drops the relay. -/
def execPublicationTimeout (t : Nat) (s : State) : Host.Outcome State Fault Refusal :=
  .next (s.advance t).nokUpdate

end Sys2Proof.Machine
end

