-- ==== Sys2Proof/Machine/Sources.lean ====
section
/-!
DEFINITION. The source kinds of Table 08.1 with their qualities (R212, R213), the entries of the engines as configured,
and what the frame in progress logs and sends.
-/

namespace Sys2Proof.Machine

open Sys2Proof

/-! ## Entries in force -/

/-- Weir entry in force; a weir with no entry is not enabled. -/
def State.weirCfgOf (s : State) (w : Nat) : WeirCfg :=
  match imgEntry s.cfg.img 0x21 w with | some a => weirCfg s.cfg.img a | none => weirOff

/-- Blend entry in force; a slot with no entry has operation 0. -/
def State.blendCfgOf (s : State) (b : Nat) : BlendCfg :=
  match imgEntry s.cfg.img 0x20 b with
  | some a => blendCfg s.cfg.img a
  | none => { op := 0, minUse := 0, limit := false, srcs := [], k := [], p := 0, lo := 0, hi := 0, step := 0, win := 0 }

/-- Weir `w` as the engine holds it. -/
def State.weir (s : State) (w : Nat) : WeirSt := s.eng.weirs.getD w {}

/-- The engines changed. -/
def State.setEng (s : State) (e : Eng) : State := { s with eng := e }

/-! ## Sources (Table 08.1) -/

/-- A flag as a source value. -/
def flagVal (b : Bool) : F32 := if b then 1065353216 else 0

/-- A bank is powered: its transformer is enabled. -/
def BankSt.powered (b : BankSt) : Bool := decide (b.power ≠ .off) && decide (b.power ≠ .failed)

/-- Insulation quality (R213). -/
def BankSt.insulQ (b : BankSt) : Quality :=
  if !b.powered || b.insul.hullRef || b.insul.hullOpen then .disabled
  else if b.insul.valid then .good
  else if !b.insul.published then .settling else .suspect

/-- Quality of a weir condition (R213). -/
def weirCondQ (enabled failed : Bool) : Quality :=
  if !enabled then .disabled else if failed then .sourceFault else .good

/-- Value and quality of a source (Table 08.1); kind 0 gives none. -/
def State.source (s : State) (kind idx : Nat) : Src :=
  match kind with
  | 1 => let c := s.chans.getD idx {}; (c.val, c.q)
  | 2 => let c := s.chans.getD (idx / 2) {}; (flagVal (if idx % 2 = 0 then c.sw0 else c.sw1), c.q)
  | 3 => (flagVal (s.outs.getD idx {}).compl,
          if (s.chans.getD idx {}).q = .disabled then .disabled else .good)
  | 4 => (flagVal (tst (s.banks.getD (idx / 8) {}).insul.located (idx % 8)), (s.banks.getD (idx / 8) {}).insulQ)
  | 5 => let b := s.banks.getD idx {}; (b.insul.rBank, b.insulQ)
  | 6 => let b := s.eng.blends.getD idx {}; (b.val, b.q)
  | 7 => let e := s.encs.getD idx {}; (e.posVal, e.posQ)
  | 8 => let e := s.encs.getD idx {}; (e.spdVal, e.spdQ)
  | 9 => let d := s.di idx; (flagVal d.val, d.q)
  | 10 => let v := s.bus.values.getD idx {}; (v.val, v.q)
  | 11 => let w := s.weir idx; (flagVal w.cond, weirCondQ (s.weirCfgOf idx).enable w.failed)
  | 12 => let mon := s.aoOn idx && tst (s.aoField idx 1 1) 1
          (flagVal (decide ((s.ao idx).fault ≠ 0) && mon), if mon then .good else .disabled)
  | 13 => (flagVal (s.condition idx), .good)
  | _ => (0, .disabled)

/-! ## Records and messages of the frame in progress -/

/-- A record of the frame in progress, with a timestamp of its own; it is released when the frame is published. -/
def State.frameEvAt (s : State) (ts code sev kind idx role p1 p2 flags : Nat) : State :=
  { s with frameRecs := s.frameRecs ++
      [{ ts, code, sev, kind, idx, role, p1 := p1 % 4294967296, p2 := p2 % 4294967296, flags }] }

/-- A record of the frame in progress at its capture time (R352). -/
def State.frameEv (s : State) (code sev kind idx role p1 p2 : Nat) : State :=
  s.frameEvAt s.frame.captTs code sev kind idx role p1 p2 0

/-- A message of the frame in progress on every bus of a mask. -/
def State.frameMsg (s : State) (mask prio cls index : Nat) (body : List Byte) : State :=
  { s with frameMsgs := s.frameMsgs ++
      (((List.range 4).filter (fun b => tst mask b)).map (fun b => { bus := b, prio, cls, index, body })) }

/-- Phase error of the tick at hand against the grid of R22, ns: positive when the tick comes late. -/
def State.phaseError (s : State) : Int :=
  let p := periodOf s.frame.profile
  let r := s.clk.base % p
  if 2 * r ≤ p then (r : Int) else (r : Int) - (p : Int)

/-- A frame opens at the present instant: its alignment, then its capture time on every clock (R23, R241, R352). -/
def State.openFrame (s : State) : State :=
  let s1 := { s with frame := { s.frame with unaligned := decide (2000 < s.phaseError.natAbs) } }
  { s1 with frame := { s1.frame with captTs := s1.nowTs, captBase := s1.clk.base, captNow := s1.clk.now
                                     captFlow := s1.clk.flow } }

/-- Local time runs on to `t`; an event of the frame about to be captured has that frame's capture time. -/
def State.toFrame (s : State) (t : Nat) : State :=
  let s1 := s.advance t
  if s1.frame.nextTick ≤ s1.clk.now then s1.openFrame else s1

end Sys2Proof.Machine
end

