-- ==== Sys2Proof/Machine/Thermo.lean ====
section
/-!
DEFINITION. The reference functions that Table 06.5a names: IEC 60584-1 thermocouples, DIN 43760 nickel and IEC 60751 platinum
thermometers, exact, and their inverses to 2^-20 °C. The coefficients of IEC 60584-1 and DIN 43760 are PRESUMED: taken from
the standards, which the spec names and does not restate (log entry 24).
-/

namespace Sys2Proof

/-- The decimal number `m` × 10^-`e`. -/
def q (m : Int) (e : Nat) : Rat := (m : Rat) / ((10 ^ e : Nat) : Rat)

/-- A polynomial, the constant first. -/
def poly (t : Rat) : List Rat → Rat
  | [] => 0
  | c :: r => c + t * poly t r

/-- Thermocouple type K: upper end of each piece in °C and its polynomial, mV. -/
def typeK : List (Rat × List Rat) :=
  [(0, [0, q 39450128025 12, q 23622373598 15, q (-32858906784) 17, q (-49904828777) 19, q (-67509059173) 21,
      q (-57410327428) 23, q (-31088872894) 25, q (-10451609365) 27, q (-19889266878) 30,
      q (-16322697486) 33]),
   (q 1372 0, [q (-17600413686) 12, q 38921204975 12, q 18558770032 15, q (-99457592874) 18, q 31840945719 20,
      q (-56072844889) 23, q 56075059059 26, q (-32020720003) 29, q 97151147152 33, q (-12104721275) 36])]

/-- Thermocouple type J: upper end of each piece in °C and its polynomial, mV. -/
def typeJ : List (Rat × List Rat) :=
  [(q 760 0, [0, q 50381187815 12, q 3047583693 14, q (-8568106572) 17, q 13228195295 20, q (-17052958337) 23,
      q 20948090697 26, q (-12538395336) 29, q 15631725697 33]),
   (q 1200 0, [q 29645625681 8, q (-14976127786) 10, q 31787103924 13, q (-31847686701) 16, q 15720819004 19,
      q (-30691369056) 23])]

/-- Thermocouple type T: upper end of each piece in °C and its polynomial, mV. -/
def typeT : List (Rat × List Rat) :=
  [(0, [0, q 38748106364 12, q 44194434347 15, q 11844323105 17, q 20032973554 18, q 90138019559 20,
      q 22651156593 21, q 36071154205 23, q 38493939883 25, q 28213521925 27, q 14251594779 29,
      q 48768662286 32, q 1079553927 33, q 13945027062 37, q 79795153927 41]),
   (q 400 0, [0, q 38748106364 12, q 3329222788 14, q 20618243404 17, q (-21882256846) 19, q 10996880928 21,
      q (-30815758772) 24, q 4547913529 26, q (-27512901673) 30])]

/-- Thermocouple type E: upper end of each piece in °C and its polynomial, mV. -/
def typeE : List (Rat × List Rat) :=
  [(0, [0, q 58665508708 12, q 45410977124 15, q (-77998048686) 17, q (-25800160843) 18, q (-59452583057) 20,
      q (-93214058667) 22, q (-10287605534) 23, q (-80370123621) 26, q (-43979497391) 28,
      q (-16414776355) 30, q (-39673619516) 33, q (-55827328721) 36, q (-34657842013) 39]),
   (q 1000 0, [0, q 5866550871 11, q 45032275582 15, q 28908407212 18, q (-33056896652) 20, q 6502440327 22,
      q (-19197495504) 26, q (-12536600497) 28, q 21489217569 31, q (-14388041782) 34, q 35960899481 38])]

/-- Thermocouple type N: upper end of each piece in °C and its polynomial, mV. -/
def typeN : List (Rat × List Rat) :=
  [(0, [0, q 26159105962 12, q 10957484228 15, q (-93841111554) 18, q (-46412039759) 21, q (-26303357716) 22,
      q (-22653438003) 24, q (-76089300791) 27, q (-93419667835) 30]),
   (q 1300 0, [0, q 25929394601 12, q 1571014188 14, q 43825627237 18, q (-25261169794) 20, q 64311819339 23,
      q (-10063471519) 25, q 99745338992 29, q (-60863245607) 32, q 20849229339 35, q (-30682196151) 39])]

/-- Thermocouple type R: upper end of each piece in °C and its polynomial, mV. -/
def typeR : List (Rat × List Rat) :=
  [(q 106418 2, [0, q 528961729765 14, q 139166589782 16, q (-238855693017) 19, q 356916001063 22, q (-462347666298) 25,
      q 500777441034 28, q (-373105886191) 31, q 157716482367 34, q (-281038625251) 38]),
   (q 16645 1, [q 295157925316 11, q (-252061251332) 14, q 159564501865 16, q (-764085947576) 20, q 205305291024 23,
      q (-293359668173) 27]),
   (q 17681 1, [q 152232118209 9, q (-268819888545) 12, q 171280280471 15, q (-345895706453) 19, q (-934633971046) 26])]

/-- Thermocouple type S: upper end of each piece in °C and its polynomial, mV. -/
def typeS : List (Rat × List Rat) :=
  [(q 106418 2, [0, q 540313308631 14, q 12593428974 15, q (-232477968689) 19, q 322028823036 22, q (-331465196389) 25,
      q 255744251786 28, q (-125068871393) 31, q 271443176145 35]),
   (q 16645 1, [q 132900444085 11, q 334509311344 14, q 654805192818 17, q (-164856259209) 20, q 129989605174 25]),
   (q 17681 1, [q 146628232636 9, q (-258430516752) 12, q 163693574641 15, q (-330439046987) 19, q (-943223690612) 26])]

/-- Thermocouple type B: upper end of each piece in °C and its polynomial, mV. -/
def typeB : List (Rat × List Rat) :=
  [(q 630615 3, [0, q (-24650818346) 14, q 59040421171 16, q (-13257931636) 19, q 15668291901 22, q (-1694452924) 24,
      q 62990347094 29]),
   (q 1820 0, [q (-38938168621) 10, q 2857174747 11, q (-84885104785) 15, q 15785280164 17, q (-16835344864) 20,
      q 11109794013 23, q (-44515431033) 27, q 98975640821 31, q (-93791330289) 35])]

/-- Pieces and ends in °C of thermocouple curve `c`: lowest temperature, lowest temperature from which the function rises, highest
(Table 06.5a). Type B falls as far as 21.0203 °C: below it the rising branch is taken. -/
def tcPieces (c : Nat) : List (Rat × List Rat) :=
  [typeK, typeJ, typeT, typeE, typeN, typeR, typeS, typeB].getD (c - 16) []
/-- Ends of a thermocouple curve. -/
def tcEnds (c : Nat) : Rat × Rat × Rat :=
  match c with
  | 16 => (-270, -270, 1372) | 17 => (-210, -210, 1200) | 18 => (-270, -270, 400) | 19 => (-270, -270, 1000)
  | 20 => (-270, -270, 1300) | 21 => (-50, -50, q 17681 1) | 22 => (-50, -50, q 17681 1) | _ => (0, q 210203 4, 1820)

/-- The piece that holds a temperature. -/
def pieceAt (t : Rat) : List (Rat × List Rat) → List Rat
  | [] => []
  | [p] => p.2
  | p :: r => if t ≤ p.1 then p.2 else pieceAt t r

/-- Reference function of curve `c` in mV; type K adds its exponential term above 0 °C. -/
def tcEmf (c : Nat) (t : Rat) : Rat :=
  poly t (pieceAt t (tcPieces c)) +
    (if c = 16 ∧ 0 < t then q 1185976 7 * ratExpNeg (-(q 1183432 10) * (t - q 1269686 4) * (t - q 1269686 4)) else 0)

/-- The largest multiple of 2^-20 °C, from `k` on over 2^n of them and up to `top`, at which a function that rises as far as `top`
does not exceed a value. -/
def findTemp (f : Rat → Rat) (v : Rat) (top : Int) : Nat → Int → Int
  | 0, k => k
  | n + 1, k =>
    let m := k + (2 ^ n : Nat)
    findTemp f v top n (if m ≤ top ∧ f ((m : Rat) / 1048576) ≤ v then m else k)

/-- Ratio R/R0 of a nickel thermometer (DIN 43760). -/
def niRatio (t : Rat) : Rat := poly t [1, q 5485 6, q 665 8, 0, q 2805 14, 0, -(q 2 17)]

end Sys2Proof
end

