-- ==== Sys2Proof/Machine/Convert.lean ====
section
/-!
DEFINITION. From the uncalibrated reading to the engineering value: channel entries in force, ranges (Table 06.2),
calibration records and the load correction (R143 to R147), curves (R167 to R172), scaling (R170).
-/

namespace Sys2Proof.Machine

open Sys2Proof

/-! ## Channel entries in force (Table 06.10) -/

/-- Field of a channel entry in force. -/
def State.chField (s : State) (n o k : Nat) : Nat :=
  match imgEntry s.cfg.img 0x10 n with | some a => s.cfg.img.num (a + o) k | none => 0
/-- binary32 field of a channel entry in force. -/
def State.chF32 (s : State) (n o : Nat) : F32 := BitVec.ofNat 32 (s.chField n o 4)
/-- Function code of a channel. -/
def State.func (s : State) (n : Nat) : Nat := s.chField n 1 1
/-- Function code of an output (Table 07.1). -/
def isOut (f : Nat) : Bool := decide (16 ≤ f) && decide (f ≤ 18)
/-- Function code of a current output. -/
def isOutI (f : Nat) : Bool := decide (f = 16) || decide (f = 17)
/-- I_IN_PASSIVE or I_IN_LOOP. -/
def isCurIn (f : Nat) : Bool := decide (f = 3) || decide (f = 4)
/-- CHARGE or IEPE. -/
def isVib (f : Nat) : Bool := decide (f = 10) || decide (f = 11)
/-- Functions that pass through the output filter: every input function but CHARGE and IEPE (R125). -/
def isFiltered (f : Nat) : Bool := (decide (1 ≤ f) && decide (f ≤ 9)) || decide (f = 12)
/-- A measuring function. -/
def isInput (f : Nat) : Bool := decide (1 ≤ f) && decide (f ≤ 12)
/-- Channel `n`. -/
def State.chan (s : State) (n : Nat) : ChanSt := s.chans.getD n {}
/-- Channel `n` changed. -/
def State.modChan (s : State) (n : Nat) (f : ChanSt → ChanSt) : State := { s with chans := modAt s.chans n f }
/-- Bank `b`. -/
def State.bank (s : State) (b : Nat) : BankSt := s.banks.getD b {}
/-- Bank `b` changed. -/
def State.modBank (s : State) (b : Nat) (f : BankSt → BankSt) : State := { s with banks := modAt s.banks b f }
/-- The front ends of bank `b` run. -/
def State.bankUp (s : State) (b : Nat) : Bool := decide ((s.bank b).power = .up)
/-- Option bit of a channel. -/
def State.chOpt (s : State) (n i : Nat) : Bool := tst (s.chField n 6 1) i

/-- Channels an `RTD_4W` or `BRIDGE` channel names as partner (R150). -/
def State.partnerOf (s : State) (n : Nat) : Option Nat :=
  let f := s.func n
  if f = 7 ∨ f = 9 then some (s.chField n 4 1) else none
/-- Channel `n` is a partner (R150). -/
def State.paired (s : State) (n : Nat) : Bool := (List.range 64).any (fun m => decide (s.partnerOf m = some n))

/-- An event of a channel. -/
def State.logChan (s : State) (n code sev p1 p2 : Nat) : State :=
  s.logEv code sev 1 n (s.cfg.roles.get .chan n) p1 p2
/-- An event of a bank. -/
def State.logBank (s : State) (b code sev p1 p2 : Nat) : State := s.logEv code sev 2 b 0xFFFF p1 p2

/-- Settling length in frames (Table 02.1). -/
def settleFrames (profile : Nat) : Nat :=
  match profile with | 0 => 32 | 1 => 80 | 2 => 100 | _ => 50

/-- Full scale of a function and range in the physical unit (Table 06.2, R186). -/
def fullScale (f r : Nat) : Rat :=
  match f with
  | 1 => if r = 0 then 10 else 5 / 2
  | 2 => if r = 0 then 100 else 25
  | 3 => 25 | 4 => 25
  | 5 => if r = 0 then 400 else if r = 1 then 2000 else 4000
  | 6 => if r = 0 then 400 else if r = 1 then 2000 else 4000
  | 7 => if r = 0 then 400 else if r = 1 then 2000 else 4000
  | 8 => 100
  | 9 => if r = 0 then 4 else 40
  | 10 => if r = 0 then 100 else if r = 1 then 1000 else if r = 2 then 10000 else 100000
  | 11 => if r = 0 then 10 else 5 / 2
  | 12 => 50000
  | 18 => 25 / 2
  | _ => 25

/-- Full scale of a channel. -/
def State.fs (s : State) (n : Nat) : Rat := fullScale (s.func n) (s.chField n 2 1)

/-! ## Calibration records (R143 to R146) -/

/-- A calibration record in use (Table 05.16); area 0 stands for no valid record. -/
structure CalRec where
  area : Nat := 0
  g : F32 := 1065353216
  o : F32 := 0
  cg : F32 := 0
  co : F32 := 0
  tb : Int := 0
  pb : Nat := 0
deriving DecidableEq, Repr

/-- Offset of an area of channel records: 1 field, 2 factory A, 3 factory B (Table 05.15). -/
def calArea (area : Nat) : Nat := match area with | 1 => 0x10000 | 2 => 0 | _ => 0x8000

/-- Address of the record of an area that names a channel, function and range and is in use. -/
def calMatch (m : Mem) (area n f r : Nat) : Option Nat :=
  (List.range 16).findSome? (fun i =>
    let a := calArea area + 32 * (16 * n + i)
    if m.u8 a = n && m.u8 (a + 1) = f && m.u8 (a + 2) = r && tst (m.u8 (a + 3)) 1 then some a else none)

/-- The CRC of a record passes. -/
def calCrcOk (m : Mem) (a : Nat) : Bool := decide (m.u16 (a + 30) = crc16 (m.readList a 30))

/-- Record at an address. -/
def calAt (m : Mem) (area a : Nat) : CalRec :=
  { area, g := m.f32 (a + 4), o := m.f32 (a + 8), cg := m.f32 (a + 12), co := m.f32 (a + 16),
    tb := signed 16 (m.u16 (a + 20)), pb := m.u16 (a + 24) }

/-- The first valid record of a list of areas, and the areas whose record failed its CRC before it. -/
def calFind (m : Mem) (n f r : Nat) : List Nat → CalRec × List Nat
  | [] => ({}, [])
  | x :: xs =>
    match calMatch m x n f r with
    | none => calFind m n f r xs
    | some a => if calCrcOk m a then (calAt m x a, []) else
        let p := calFind m n f r xs
        (p.1, x :: p.2)

/-- Record in use of a channel, and the areas whose record is bad (R146). -/
def State.calRec (s : State) (n : Nat) : CalRec × List Nat :=
  calFind s.cal.inForce n (s.func n) (s.chField n 2 1) [1, 2, 3]

/-- Thermal model of a bank: copy A, else copy B, else bytes the spec does not state (R145). -/
def thermal (m : Mem) (b : Nat) : List Byte :=
  let ok (a : Nat) : Bool := m.u8 (a + 1) = 1 && decide (m.u16 (a + 62) = crc16 (m.readList a 62))
  if ok (0x18000 + 64 * b) then m.readList (0x18000 + 64 * b) 64
  else if ok (0x18200 + 64 * b) then m.readList (0x18200 + 64 * b) 64
  else (List.range 64).map (Config.thermalByte b)

/-- A number over another as binary32. -/
def f32q (a : Int) (b : Nat) : F32 := F32.ofRat ((a : Rat) / (b : Rat))

/-- Rise of channel position `k` at bank dissipation `p` (R146). -/
def rise (t : List Byte) (k : Nat) (p : F32) : F32 :=
  let d (j : Nat) : F32 := f32q (s16At t (8 + 2 * (3 * k + j))) 256
  let q (j : Nat) : F32 := f32q (u16At t (2 + 2 * j)) 1
  let a := ((d 1).sub (d 0)).div ((q 1).sub (q 0))
  let b := ((((d 2).sub (d 1)).div ((q 2).sub (q 1))).sub a).div ((q 2).sub (q 0))
  ((d 0).add (a.mul (p.sub (q 0)))).add ((b.mul (p.sub (q 0))).mul (p.sub (q 1)))

/-- What the calibration of a reading gives: nominal x, calibrated y, load correction out of range. -/
structure CalOut where
  x : F32
  y : F32
  load : Bool
deriving DecidableEq, Repr

/-- A reading calibrated (R146). -/
def State.calibrate (s : State) (n : Nat) (raw : Int) : CalOut :=
  let b := s.bank (n / 8)
  let r := (s.calRec n).1
  let x := F32.ofRat ((raw : Rat) / 1073741824 * s.fs n)
  if r.area = 0 then { x, y := x, load := false }
  else
    let t := thermal s.cal.inForce (n / 8)
    let pb := F32.ofRat b.pb
    let rp := f32q r.pb 1
    let dt := ((f32q b.house.temp 16).add (rise t (n % 8) pb)).sub ((f32q r.tb 16).add (rise t (n % 8) rp))
    let one : F32 := 1065353216
    let y := (((r.g.mul (one.add (r.cg.mul dt))).mul x).add r.o).add (r.co.mul dt)
    { x, y, load := decide (600 < b.pb - (r.pb : Rat)) || decide (600 < (r.pb : Rat) - b.pb) ||
        decide (((u16At t 6 : Nat) : Rat) + 200 < b.pb) }

/-- Filtered raw field: ±2^30 at full scale (R142). -/
def rawOf (y : F32) (fs : Rat) : Int :=
  if y.isInf then (if y.neg? then -2147483648 else 2147483647)
  else
    let q := y.toRat / fs * 1073741824
    clampI (-2147483648) 2147483647 (divRound q.num q.den)

/-! ## Curves (R167 to R172) -/

/-- How a reading stands to a range: inside, above, below. -/
inductive Beyond where
  | no | above | below
deriving DecidableEq, Repr

/-- The first cause of two. -/
def Beyond.or : Beyond → Beyond → Beyond
  | .no, b => b
  | a, _ => a

/-- Quality of a reading beyond range (R140). -/
def Beyond.q : Beyond → Quality | .above => .overRange | .below => .underRange | .no => .good

/-- Ratio R/R0 of a platinum thermometer (IEC 60751). -/
def ptRatio (t : Rat) : Rat :=
  let r := 1 + 39083 / 10000000 * t - 5775 / 10000000000 * t * t
  if t < 0 then r - 4183 / 1000000000000000 * (t - 100) * t * t * t else r

/-- Platinum temperature, clamped to −200 to +850 °C. -/
def ptTemp (r : Rat) : F32 × Beyond :=
  if r < ptRatio (-200) then (F32.ofInt (-200), .below)
  else if ptRatio 850 < r then (F32.ofInt 850, .above)
  else (f32q (findTemp ptRatio r (850 * 1048576) 31 (-209715200)) 1048576, .no)

/-- Nickel temperature, clamped to −60 to +180 °C. -/
def niCurve (r : Rat) : F32 × Beyond :=
  if r < niRatio (-60) then (F32.ofInt (-60), .below)
  else if niRatio 180 < r then (F32.ofInt 180, .above)
  else (f32q (findTemp niRatio r (180 * 1048576) 28 (-62914560)) 1048576, .no)

/-- Thermocouple temperature at a compensated voltage in mV, clamped to the range of the type (R157, R168). -/
def tcCurve (c : Nat) (v : Rat) : F32 × Beyond :=
  let e := tcEnds c
  if v < tcEmf c e.2.1 then (F32.ofRat e.1, .below)
  else if tcEmf c e.2.2 < v then (F32.ofRat e.2.2, .above)
  else (f32q (findTemp (tcEmf c) v (Rat.fl (e.2.2 * 1048576)) 31 (Rat.fl (e.2.1 * 1048576))) 1048576, .no)

/-- Points of a user curve in force: its flags and (x, y) pairs; none when the table lacks it. -/
def userCurve (m : Mem) (c : Nat) : Option (Bool × List (F32 × F32)) :=
  ((imgEntries m 0x11).find? (fun a => decide (m.u8 a = c))).map (fun a =>
    (tst (m.u8 (a + 2)) 0, (List.range (m.u8 (a + 1))).map (fun i => (m.f32 (a + 16 + 8 * i), m.f32 (a + 20 + 8 * i)))))

/-- The segment of a curve that holds x: the first whose end is at or beyond it, else the last. -/
def segment : List (F32 × F32) → F32 → (F32 × F32) × (F32 × F32)
  | [], _ => ((0, 0), (0, 0))
  | [p], _ => (p, p)
  | [p, q], _ => (p, q)
  | p :: q :: r, x => if x.le q.1 then (p, q) else segment (q :: r) x

/-- Linear interpolation in a segment (R172). -/
def interp (p q : F32 × F32) (x : F32) : F32 :=
  if p.1 = q.1 then p.2 else p.2.add (((x.sub p.1).mul (q.2.sub p.2)).div (q.1.sub p.1))

/-- A user curve at x (R168, R172). -/
def userAt (ext : Bool) (pts : List (F32 × F32)) (x : F32) : F32 × Beyond :=
  let first := pts.headD (0, 0)
  let last := pts.getLastD (0, 0)
  if !ext && x.lt first.1 then (first.2, .below)
  else if !ext && last.1.lt x then (last.2, .above)
  else let s := segment pts x; (interp s.1 s.2 x, .no)

/-- Curve 32 (R169). -/
def sqrtCurve (lo hi cut x : F32) : F32 :=
  let q := (x.sub lo).div (hi.sub lo)
  if q.lt cut || q.neg? then 0 else q.sqrt

/-- Cold-junction temperature of a `TC` channel and whether its source is good (R157). Of a partner with a higher index mode 2 has the
value of the capture before (the model's choice, log entry 173). -/
def State.coldJunction (s : State) (n : Nat) : F32 × Bool :=
  match s.chField n 6 1 / 16 % 4 with
  | 0 => (f32q (s.bank (n / 8)).house.cj 16, true)
  | 1 => (s.chF32 n 32, true)
  | _ =>
    let p := s.chan (s.chField n 4 1)
    if p.q = .good ∨ p.q = .calLoad then (p.val, true) else ((s.chan n).lastCj, false)

/-- The curve of channel `n` applied to its calibrated, range-limited input (R155, R157, R167 to R172). -/
def State.curve (s : State) (n : Nat) (x : F32) : F32 × Beyond :=
  let c := s.chField n 3 1
  let x := if s.func n = 5 then x.sub (s.chF32 n 28) else x
  let per (d : Nat) : Rat := x.toRat / (d : Rat)
  match c with
  | 0 => (x, .no)
  | 1 => ptTemp (per 100)
  | 2 => ptTemp (per 500)
  | 3 => ptTemp (per 1000)
  | 4 => niCurve (per 100)
  | 5 => niCurve (per 1000)
  | 32 => (sqrtCurve (s.chF32 n 20) (s.chF32 n 24) (s.chF32 n 16) x, .no)
  | _ =>
    if 16 ≤ c ∧ c ≤ 23 then tcCurve c (x.toRat + tcEmf c (s.coldJunction n).1.toRat)
    else
      match userCurve s.cfg.img c with
      | some (e, pts) => userAt e pts x
      | none => (x, .no)

/-- Scaling (R170): a × y + b, a result that is not finite clamped with its cause. -/
def scale (a b y : F32) : F32 × Beyond :=
  let v := (a.mul y).add b
  (v.bounded, if v.finite then .no else if v.bounded.neg? then .below else .above)

/-- Scaling of channel `n`. -/
def State.scaleCh (s : State) (n : Nat) (y : F32) : F32 × Beyond := scale (s.chF32 n 8) (s.chF32 n 12) y

/-- The calibrated value limited to ±110 % of full scale when it lies beyond ±102 % (R140). -/
def rangeCheck (fs : Rat) (y : F32) : F32 × Beyond :=
  let q := y.toRat
  let lim := F32.ofRat (fs * 11 / 10)
  if y.isInf ∨ fs * 102 / 100 < q ∨ q < -(fs * 102 / 100) then
    if y.neg? then (if y.isInf || lim.lt y.abs then lim.negate else y, .below)
    else (if y.isInf || lim.lt y then lim else y, .above)
  else (y, .no)

/-- NAMUR NE 43 limits of a current input (R154): below 3.6 mA, above 21.0 mA. -/
def ne43 (y : F32) : Beyond :=
  let q := y.toRat
  if q < 36 / 10 then .below else if 21 < q then .above else .no

/-- Engineering value of a filtered input from its calibrated reading, and whether it lies beyond range. -/
def State.engValue (s : State) (n : Nat) (y : F32) : F32 × Beyond :=
  let r := rangeCheck (s.fs n) y
  let c := s.curve n r.1
  let v := s.scaleCh n c.1
  let ne := if isCurIn (s.func n) && s.chOpt n 2 then ne43 y else .no
  (v.1, ((r.2.or ne).or c.2).or v.2)

/-- A reading of the crossing stream as an engineering value (R128, R224). -/
def State.streamValue (s : State) (n : Nat) (raw : Int) : F32 := (s.engValue n (s.calibrate n raw).y).1

end Sys2Proof.Machine
end

