-- ==== Sys2Proof/Machine/Filter.lean ====
section
/-!
DEFINITION. The filter engine (R120, R124 to R127, R133, R136, R137, R159): modulator bits to the 32 kS/s stream, the
output filter of each profile, the wire-break windows, the vibration chain. Where the spec names a filter by type, order and
corner, that filter is built; where it gives a structure and states no tap, the taps are free values within that structure
(log entry 77). The arithmetic is exact.
-/

namespace Sys2Proof.Machine

open Sys2Proof

/-! ## Taps -/

/-- Sum of two lists of taps, the shorter extended by zeros. -/
def addTaps : List Rat → List Rat → List Rat
  | [], b => b
  | a, [] => a
  | x :: a, y :: b => (x + y) :: addTaps a b

/-- Two filters in cascade. -/
def mulTaps : List Rat → List Rat → List Rat
  | [], _ => []
  | x :: a, b => addTaps (b.map (fun y => x * y)) (0 :: mulTaps a b)

/-- `k` moving averages over `n` samples in cascade: a sinc filter of order `k` (Table 05.5). -/
def sincTaps (n : Nat) : Nat → List Rat
  | 0 => [1]
  | k + 1 => mulTaps (List.replicate n 1) (sincTaps n k)

/-- Output of a FIR at a history, newest first, at gain 1 for a constant input. -/
def firOut (taps hist : List Rat) : Rat := ((taps.zip hist).map (fun p => p.1 * p.2)).sum / taps.sum

/-- The series of the cosine: `i` terms taken, `x2` the squared argument. -/
def cosSeries : Nat → Nat → Rat → Rat → Rat
  | 0, _, _, _ => 0
  | k + 1, i, x2, term => term + cosSeries k (i + 1) x2 (-(term * x2) / (((2 * i + 1) * (2 * i + 2) : Nat) : Rat))

/-- The series of the sine, its argument taken out: `i` terms taken, `x2` the squared argument. -/
def sinSeries : Nat → Nat → Rat → Rat → Rat
  | 0, _, _, _ => 0
  | k + 1, i, x2, term => term + sinSeries k (i + 1) x2 (-(term * x2) / (((2 * i + 2) * (2 * i + 3) : Nat) : Rat))

/-- π to 35 places. -/
def piQ : Rat := 314159265358979323846264338327950288 / (10 ^ 35 : Nat)

/-- Cosine of 2π times the harmonic `k` of a frequency in mHz, at 32 kS/s. -/
def cosAt (k ft : Nat) : Rat :=
  let w : Rat := 2 * piQ * (((k * ft : Nat) : Rat) / 32000000)
  cosSeries 24 0 (w * w) 1

/-- Tangent of π times a frequency in Hz over 32 kS/s: the corner of an analogue filter under the bilinear transform. -/
def warp (f : Nat) : Rat :=
  let w : Rat := piQ * (f : Rat) / 32000
  w * sinSeries 24 0 (w * w) 1 / cosSeries 24 0 (w * w) 1

/-- A half-band filter: 1/2 at the centre, zero at every other place beside it, the odd places symmetric and of sum 1/2
(Table 05.5). -/
def halfBandTaps (g : List Rat) : List Rat :=
  let side := (g.flatMap (fun x => [x / (4 * g.sum), 0])).dropLast
  side.reverse ++ (1 / 2 : Rat) :: side

/-- The pair of zeros on harmonic `k` of the tracked frequency (R126, Table 05.6). -/
def zeroPair (ft k : Nat) : List Rat := [1, -(2 * cosAt k ft), 1]

/-- A linear-phase FIR of `n` taps with zero pairs at f, 2f and 3f: a symmetric low-pass of `n` − 6 taps and the three pairs. -/
def notchFir (which n ft : Nat) : List Rat :=
  let low := (List.range (n - 6)).map (fun i => Config.lowPass which (min i (n - 7 - i)))
  mulTaps (zeroPair ft 1) (mulTaps (zeroPair ft 2) (mulTaps (zeroPair ft 3) low))

/-- A second-order section. -/
structure Biquad where
  b0 : Rat
  b1 : Rat
  b2 : Rat
  a1 : Rat
  a2 : Rat

/-- A section at gain 1 for a constant input. -/
def Biquad.unity (q : Biquad) : Biquad :=
  let g := (1 + q.a1 + q.a2) / (q.b0 + q.b1 + q.b2)
  { q with b0 := g * q.b0, b1 := g * q.b1, b2 := g * q.b2 }

/-- One sample through a section with its two delays. -/
def Biquad.step (q : Biquad) (z : Rat × Rat) (x : Rat) : Rat × (Rat × Rat) :=
  let y := q.b0 * x + z.1
  (y, (q.b1 * x - q.a1 * y + z.2, q.b2 * x - q.a2 * y))

/-- One sample through sections in cascade. -/
def cascade : List Biquad → List (Rat × Rat) → Rat → Rat × List (Rat × Rat)
  | [], z, x => (x, z)
  | q :: r, z, x =>
    let p := q.step (z.headD (0, 0)) x
    let c := cascade r z.tail p.1
    (c.1, p.2 :: c.2)

/-- The low-pass b / (s² + a s + b) with its unit frequency at `f` Hz, under the bilinear transform. -/
def lowSection (f : Nat) (a b : Rat) : Biquad :=
  let k := warp f
  let d := 1 + a * k + b * k * k
  let g := b * k * k / d
  { b0 := g, b1 := 2 * g, b2 := g, a1 := 2 * (b * k * k - 1) / d, a2 := (1 - a * k + b * k * k) / d }

/-- The high-pass s² / (s² + a s + 1) with its unit frequency at `f` Hz, under the bilinear transform. -/
def highSection (f : Nat) (a : Rat) : Biquad :=
  let k := warp f
  let d := 1 + a * k + k * k
  { b0 := 1 / d, b1 := -(2 / d), b2 := 1 / d, a1 := 2 * (k * k - 1) / d, a2 := (1 - a * k + k * k) / d }

/-- The notch biquad of harmonic `k` (Table 05.6, `LATENCY`): zeros on the unit circle, poles drawn in by half the width. -/
def notchSection (ft k : Nat) : Biquad :=
  let c := 2 * cosAt k ft
  let r := 1 - piQ * (11 + ((Config.notchWidth % 301 : Nat) : Rat) / 100) / 32000
  ({ b0 := 1, b1 := -c, b2 := 1, a1 := -(r * c), a2 := r * r } : Biquad).unity

/-- The fourth-order Bessel low-pass with -3 dB at 300 Hz (Table 05.6): the two factors of s⁴ + 10 s³ + 45 s² + 105 s + 105, whose
-3 dB corner stands at 2.1139177, drawn to a corner of 1. -/
def besselSections : List Biquad :=
  [lowSection 300 (q 27401356 7) (q 20453905 7), lowSection 300 (q 19904176 7) (q 25707562 7)]

/-- The `LATENCY` chain: three notches, then a fourth-order Bessel low-pass at 300 Hz. -/
def latencyChain (ft : Nat) : List Biquad :=
  [notchSection ft 1, notchSection ft 2, notchSection ft 3] ++ besselSections

/-! ## Decimation (R124) -/

/-- Longest run of equal bits before an overload (Table 05.1). -/
def overloadRun (chg : Bool) : Nat := if chg then 128 else 64

/-- Bits that begin within the 2 µs of an integrator reset (Table 05.1). -/
def resetBits (chg : Bool) : Nat := if chg then 33 else 17

/-- Bits of a link frame run on from those before: the run of equal bits, how long the integrators still stand cleared, and the
polarity of an overload found (R120, Table 05.1). Bits of cleared integrators make no run. -/
def bitRun (chg : Bool) : List Bool → FiltSt → Option Bool → FiltSt × Option Bool
  | [], f, o => (f, o)
  | x :: r, f, o =>
    let m := if x = f.runBit then f.run + 1 else 1
    if 0 < f.clear then bitRun chg r { f with clear := f.clear - 1, run := 0, runBit := x } o
    else if overloadRun chg ≤ m then bitRun chg r { f with clear := resetBits chg, run := 0, runBit := x } (some x)
    else bitRun chg r { f with run := m, runBit := x } o

/-- A sample of the 32 kS/s stream, ±2^30 at full scale; after a source exchange the last sample before it stands for 250 µs, and
the first after that shows the step of the reading (R156). -/
def FiltSt.sample (f : FiltSt) (ft profile : Nat) (x : Rat) : FiltSt :=
  let v := if f.hold = 0 then x else f.xs.headD x
  let c := if profile = 0 then cascade (latencyChain ft) f.biq v else (0, f.biq)
  { f with xs := (v :: f.xs).take 3300, fresh := f.fresh + 1, hold := f.hold - 1, biq := c.2, ys := (c.1 :: f.ys).take 256,
           step := if f.hold = 1 then some (f.xs.headD x, none) else
             match f.step with | some (b, none) => if f.hold = 0 then some (b, some x) else f.step | y => y }

/-- The bits of one link frame go through the decimator: the sinc filter gives one sample at 256 kS/s, three half-band
stages halve the rate (Table 05.5). -/
def FiltSt.bits (f : FiltSt) (chg : Bool) (ft profile : Nat) (l : List Bool) : FiltSt :=
  let h := (l.reverse ++ f.last).take (if chg then 253 else 94)
  let v := firOut (if chg then sincTaps 64 4 else sincTaps 32 3) (h.map (fun b => if b then 1 else -1))
  let hb (i : Nat) (x : List Rat) : Rat := firOut (halfBandTaps (Config.halfBand chg i)) x
  let k := f.count + 1
  let a := (v :: f.st0).take 128
  let f1 := { f with last := h, count := k % 8, st0 := a }
  if k % 2 ≠ 0 then f1
  else
    let b := (hb 0 a :: f.st1).take 128
    let f2 := { f1 with st1 := b }
    if k % 4 ≠ 0 then f2
    else
      let c := (hb 1 b :: f.st2).take 128
      let f3 := { f2 with st2 := c }
      if k % 8 ≠ 0 then f3 else f3.sample ft profile (hb 2 c * 1073741824)

/-- Bits of a byte, the earliest in bit 0 (Table 05.2). -/
def byteBits (b : Byte) : List Bool := (List.range 8).map (fun i => b.getLsbD i)

/-- Bits of channel position `k` in the body of a link frame, groups 2 on (Table 05.2). -/
def frameBits (body : List Byte) (k : Nat) (chg : Bool) : List Bool :=
  if k < 6 then ((body.drop (4 * k)).take 4).flatMap byteBits
  else ((body.drop (24 + 8 * (k - 6))).take (if chg then 8 else 4)).flatMap byteBits

/-- Bank `b` converts: always, but in `ECONOMY` only for 20 ms behind the warm-up of its burst, and until the last frame of it has
come over the link (Table 05.6). -/
def State.converts (s : State) (b : Nat) : Bool :=
  s.frame.profile ≠ 3 ||
    (match (s.bank b).burstAt with
     | some t => decide (t + ms 2 ≤ s.clk.now) && decide (s.clk.now < t + ms 22 + us 100)
     | none => false)

/-- The bits of a link frame reach the channels of its bank: decimators and overload tests (R120, R123, R124). -/
def State.frameIn (s : State) (b : Nat) (body : List Byte) : State :=
  if !s.converts b then s
  else
    (List.range 8).foldl (fun s k =>
      let n := 8 * b + k
      let chg := isVib (s.func n)
      let l := frameBits body k chg
      s.modChan n (fun c =>
        let r := bitRun chg l c.filt none
        let f := r.1.bits chg s.notch.ftTick s.frame.profile l
        match r.2 with
        | some p => if isInput (s.func n) then { c with filt := f, ovl := some (p, s.clk.now), ovlNew := some p } else { c with filt := f }
        | none => { c with filt := f })) s

/-! ## Output filters (R126) -/

/-- Output of the profile's filter `j` samples before the newest. -/
def FiltSt.out (f : FiltSt) (profile ft j : Nat) : Rat :=
  match profile with
  | 0 => f.ys.getD j 0
  | 2 => firOut (notchFir 1 3200 ft) (f.xs.drop j)
  | _ => firOut (notchFir 0 640 ft) (f.xs.drop j)

/-- Nearest integer to a rational, halves away from zero. -/
def ratRound (q : Rat) : Int := divRound q.num q.den

/-! ## Wire-break windows (R136, R137) -/

/-- Windows of four samples, oldest first, that end with the newest sample. -/
def windowsIn (n : Nat) (xs : List Rat) : List (List Rat) :=
  ((List.range n).map (fun i => ((xs.drop (4 * i)).take 4).reverse)).reverse

/-- Volts at the lands for one unit of a function's physical quantity, in parts of 10^6: the excitation of a thermometer, mV,
the excitation of a bridge. -/
def State.unitUv (s : State) (n : Nat) : Rat :=
  match s.func n with
  | 8 => 1000
  | 9 => (s.chField n 36 2 : Rat) * 10
  | _ => if s.chField n 2 1 = 0 then 1000 else 250

/-- What one window measures: the mean current in µA, or the resistance in Ω that the 50 nA square wave sees; rounded to whole units
before the thresholds of R137 (the model's choice, log entry 172). -/
def State.winMeasure (s : State) (n : Nat) (w : List Rat) : Int :=
  let x (i : Nat) : Rat := w.getD i 0 / 1073741824 * s.fs n
  if isCurIn (s.func n) then ratRound ((x 0 + x 1 + x 2 + x 3) / 4 * 1000)
  else
    let a := (x 0 + x 1 - x 2 - x 3) / 4
    ratRound ((if a < 0 then -a else a) * s.unitUv n * 20)

/-- Class of a window (R136, R137). -/
inductive WbWin where
  | under | between | over_
deriving DecidableEq, Repr

/-- Class of a window: over and under 0.5 mA and 1.0 mA for a current input, 1 MΩ and 200 kΩ for the others. -/
def winClass (cur : Bool) (m : Int) : WbWin :=
  if cur then (if m < 500 then .over_ else if 1000 < m then .under else .between)
  else if 1000000 < m then .over_ else if m < 200000 then .under else .between

/-! ## What a capture reads -/

/-- Circuit resistance of a contact as a raw number, ±2^30 for 50 kΩ: land voltage by read-back current (R163); a circuit without
current lies beyond any resistance. -/
def contactRaw (x : ChIn) : Int :=
  if x.rb ≤ 0 then 2 ^ 60 else max 0 (x.vA * 1000 * 1073741824 / (x.rb * 50000))

/-- The operand of a capture, with what the filter engine gives in its place where link frames brought samples since the
capture before. The modulator of a contact takes its reference from the read-back current, so that its stream carries the
resistance (R125, R163). -/
def State.chIn (s : State) (n : Nat) (x : ChIn) : ChIn :=
  let f := (s.chan n).filt
  if f.fresh = 0 then (if s.func n = 12 then { x with raw := contactRaw x } else x)
  else if isVib (s.func n) then
    { x with stream := (f.xs.take f.fresh).reverse.map ratRound, raw := ratRound (f.xs.headD 0) }
  else
    let o (j : Nat) : Int := ratRound (f.out s.frame.profile s.notch.ftTick j)
    { x with raw := o 0
             stream := if s.frame.profile < 2 then (List.range f.fresh).reverse.map o else []
             wins := (windowsIn (f.fresh / 4) f.xs).map (s.winMeasure n) }

/-- The samples of the capture are taken, and with them a step across an exchange that they showed. -/
def FiltSt.taken (f : FiltSt) : FiltSt :=
  { f with fresh := 0, step := match f.step with | some (_, some _) => none | y => y }

/-- A filter restart: what the filter has stored is gone (R134). -/
def FiltSt.restarted (f : FiltSt) : FiltSt := { f with xs := [], ys := [], biq := [] }

/-! ## The vibration chain (R159) -/

/-- Stages 2 and 3: the second-order Butterworth high-pass at 2 Hz or 10 Hz, the fourth-order Butterworth low-pass at 10 kHz or
1 kHz (R159). -/
def vibSections (tune : Nat) : List Biquad :=
  let top := if tune / 8 % 2 = 1 then 1000 else 10000
  [highSection (if tune / 4 % 2 = 1 then 10 else 2) (q 14142136 7), lowSection top (q 18477591 7) 1, lowSection top (q 7653669 7) 1]

/-- Stages 2 to 4 of one stage-1 sample; `integ` is `INTEGRATE`. -/
def VibF.push (v : VibF) (tune window : Nat) (integ : Bool) (x : Rat) : VibF :=
  let c := cascade (vibSections tune) v.z x
  let acc := v.acc + c.1 / 32000
  { z := c.2, acc, win := ((if integ then 1000 * acc else c.1) :: v.win).take window }

/-- Stage 5: the statistic over the window, `RMS` or `PEAK`. -/
def VibF.stat (v : VibF) (peak : Bool) : F32 :=
  if peak then F32.ofRat ((v.win.map (fun x => if x < 0 then -x else x)).foldl max 0)
  else if v.win.isEmpty then 0
  else F32.ofRat (ratSqrt ((v.win.map (fun x => x * x)).sum / (v.win.length : Rat)))

end Sys2Proof.Machine
end

