-- ==== Sys2Proof/Machine/Outputs.lean ====
section
/-!
DEFINITION. Loop outputs (chapter 07): what an output measures at a capture and judges from it, its command from the
source to the land, its safe actions.
-/

namespace Sys2Proof.Machine

open Sys2Proof

/-- Output `n`. -/
def State.out (s : State) (n : Nat) : OutSt := s.outs.getD n {}
/-- Output `n` changed. -/
def State.modOut (s : State) (n : Nat) (f : OutSt → OutSt) : State := { s with outs := modAt s.outs n f }
/-- The state after `f` on every index below `k`. -/
def State.each (s : State) (k : Nat) (f : State → Nat → State) : State := (List.range k).foldl f s

/-- A driver works: it regulates a command at its lands. -/
def DriveState.working : DriveState → Bool
  | .off => false | .landOff => false | _ => true
/-- The driver ramps down (R200). -/
def DriveState.ramping : DriveState → Bool
  | .rampDown _ _ => true | _ => false

/-! ## Commands -/

/-- Command range of an output function: `NE43_CLAMP` limits or the function's range (R186, R197). -/
def outRange (f : Nat) (clamp : Bool) : F32 × F32 :=
  if f = 18 then (0, F32.ofRat (21 / 2))
  else if clamp then (F32.ofRat (38 / 10), F32.ofRat (41 / 2)) else (0, F32.ofInt 24)

/-- A value kept within limits. -/
def clampF (lo hi x : F32) : F32 := if x.lt lo then lo else if hi.lt x then hi else x

/-- Physical command of an engineering value (R186). -/
def State.outCommand (s : State) (n : Nat) (v : F32) : F32 :=
  let r := outRange (s.func n) (tst (s.chField n 70 1) 0)
  let y := (v.sub (s.chF32 n 12)).div (s.chF32 n 8)
  if y.finite then clampF r.1 r.2 y else if y.neg? then r.1 else r.2

/-- Safe-action value (Table 07.4, R198, R199). -/
def State.outSafe (s : State) (n : Nat) : F32 :=
  match s.chField n 68 1 with
  | 1 => F32.ofRat (7 / 2)
  | 2 => F32.ofRat (43 / 2)
  | 3 => if (s.out n).hasCmd then (s.out n).applied else 0
  | 4 => s.chF32 n 72
  | _ => 0

/-- What the source of an output gives: a command, or hold, or a fault with its quality code (R188). -/
inductive OutSrc where
  | cmd (y : F32)
  | hold
  | bad (q : Nat)
deriving DecidableEq, Repr

/-- The source of output `n` at this capture (R186, R188). -/
def State.outSource (s : State) (n : Nat) : OutSrc :=
  let of (p : Src) : OutSrc :=
    if p.2.usable then (if p.1.finite then .cmd (s.outCommand n p.1) else .bad p.2.code)
    else if p.2.isHeld then .hold else .bad p.2.code
  match s.chField n 64 1 with
  | 0 => .cmd (match (s.out n).setPoint with
      | some v => s.outCommand n v
      | none => let r := outRange (s.func n) (tst (s.chField n 70 1) 0); clampF r.1 r.2 (s.chF32 n 72))
  | 1 => of (s.source 6 (s.chField n 66 2))
  | _ => of (s.source 1 (s.chField n 66 2))

/-- Seconds of a frame period. -/
def periodSec (profile : Nat) : F32 := f32q (periodOf profile) 1000000000

/-- One tick's move of a command towards its target (R196). -/
def rampTo (rate per cur tgt : F32) : F32 :=
  if rate.abs = 0 then tgt
  else
    let m := rate.mul per
    let d := tgt.sub cur
    if d.abs.le m then tgt else if d.neg? then cur.sub m else cur.add m

/-- Step 6: the output takes its source; a fault is logged once per occurrence (R188). -/
def State.outTake (s : State) (n : Nat) : State :=
  match s.outSource n with
  | .cmd y => s.modOut n (fun o => { o with target := y, waiting := false, srcFault := false })
  | .hold => s
  | .bad q =>
    if (s.out n).srcFault then s
    else (s.modOut n (fun o => { o with srcFault := true })).frameEv 0x0313 5 1 n (s.cfg.roles.get .chan n) q
      (s.chField n 64 1 * 65536 + s.chField n 66 2)

/-- The command output `n` asks for at the next tick: its ramp step, or 0 while it stays shed. -/
def State.outWant (s : State) (n : Nat) : F32 :=
  let o := s.out n
  if o.waiting then o.applied else rampTo (s.chF32 n 76) (periodSec s.frame.profile) o.applied o.target

/-- The output stands at its safe action for a source fault (Table 07.5). -/
def State.outFaultSafe (s : State) (n : Nat) : Bool := (s.out n).srcFault && s.chField n 69 1 = 1

/-- A land of output `n` stands beyond its range (R107). -/
def State.outLandBad (s : State) (n : Nat) : Bool :=
  let b := s.bank (n / 8)
  (b.lands.getD (2 * (n % 8)) {}).beyond || (b.lands.getD (2 * (n % 8) + 1) {}).beyond

/-- An enabled output may start at a tick: its bank is up, its driver off, and the supply it draws on does not discharge
(R198, R392). -/
def State.outMayStart (s : State) (n : Nat) : Bool :=
  isOut (s.func n) && s.bankUp (n / 8) && decide ((s.out n).drive = .off) && !(s.func n != 17 && (s.bank (n / 8)).discharging)

/-- An output starts in its function at its safe-action value, with its driver off on a land beyond its range (R107);
HOLD_LAST acts as ZERO (R198). -/
def State.outStart (s : State) (n : Nat) : State :=
  let s1 := s.modOut n (fun o => { o with hasCmd := false })
  let v := s1.outSafe n
  s1.modOut n (fun o =>
    { ({} : OutSt) with drive := if s.outLandBad n then .landOff else if s.pwr.state = .armed then .run else .safe, func := s.func n,
                        setPoint := o.setPoint, applied := v, next := v, target := v })

/-- The output takes its safe action in one step (R198): class 0, granted always, so a refused claim ends with it (R384). -/
def State.outToSafe (s : State) (n : Nat) (d : DriveState) : State :=
  let v := s.outSafe n
  s.modOut n (fun o => { o with drive := d, applied := v, next := v, budgetHeld := false, heldLogged := false })

/-- Step 8: the command of output `n` takes effect at the tick; `pub` says that the frame that computed it was
published (R50, R198, R200). -/
def State.outApply (s : State) (pub : Bool) (n : Nat) : State :=
  let o := s.out n
  if o.drive.ramping then s
  else if !isOut (s.func n) || !s.bankUp (n / 8) then
    (if o.drive = .off then s else s.modOut n (fun o => { ({} : OutSt) with setPoint := o.setPoint }))
  else if o.drive = .off then (if s.outMayStart n then s.outStart n else s)
  else if s.outLandBad n then s.modOut n (fun o => { o with drive := .landOff })
  else if s.pwr.state ≠ .armed || (s.bank (n / 8)).tripped then s.outToSafe n .safe
  else
    match o.drive with
    | .safe => s.modOut n (fun o => { o with drive := .run, next := o.applied })
    | .landOff => s.modOut n (fun o => { o with drive := .run })
    | _ =>
      if !pub then s
      else if s.outFaultSafe n then s.outToSafe n .fault
      else s.modOut n (fun o => { o with drive := .run, applied := o.next, hasCmd := o.hasCmd || !o.waiting })

/-- A ramp-down begins from the applied command (R200). -/
def State.outRampDown (s : State) (n : Nat) : State :=
  s.modOut n (fun o =>
    if o.drive.working && !o.drive.ramping then { o with drive := .rampDown s.clk.now o.applied, reenable := false } else o)

/-- Length of the ramp-down. -/
def rampDownNs : Nat := ms 5

/-- The ramp-down goes on; at its end the driver is off (R200). -/
def State.outRampStep (s : State) (n : Nat) : State :=
  match (s.out n).drive with
  | .rampDown t0 v0 =>
    if t0 + rampDownNs ≤ s.clk.now then s.modOut n (fun o => { ({} : OutSt) with setPoint := o.setPoint })
    else
      let k := f32q ((rampDownNs - (s.clk.now - t0) : Nat) : Int) rampDownNs
      s.modOut n (fun o => { o with applied := v0.mul k })
  | _ => s

/-! ## Read-back, headroom and demand (R189 to R192) -/

/-- Whole number nearest to a rational. -/
def nearI (q : Rat) : Int := divRound q.num q.den

/-- Measurements of an output at a capture: read-back, lands, headroom, driver dissipation. -/
def outMeasure (f : Nat) (x : ChIn) (y : F32) (o : OutSt) : OutSt :=
  let rb := if f = 18 then x.rb else nearI (y.toRat * 1000)
  let h := if f = 17 then x.vA - x.vB else (x.vs : Int) - x.vA
  { o with y, rb, vA := x.vA, vB := x.vB, h, diss := (h * rb / 1000).toNat }

/-- A voltage in V rounded up to 0.1 V, in 0.1 V (R192). -/
def upTenth (v : Rat) : Nat := (-(-(v * 10)).fl).toNat

/-- Command in µA (mV for V_OUT_10). -/
def milli (v : F32) : Int := nearI (v.toRat * 1000)

/-- Demand of an output on the adaptive supply in 0.1 V; zero for none (R192, R194). -/
def OutSt.demandFor (o : OutSt) (f : Nat) : Nat :=
  let c := o.applied.toRat
  let y := o.y.toRat
  if f = 18 then upTenth (c + 2)
  else if f = 16 then
    if o.isOpen && !o.probing then 80
    else if 1 ≤ y then upTenth (((o.vA - o.vB : Int) : Rat) / 1000 * c / y + 2)
    else if 1 ≤ c then 260 else 80
  else 0

/-- A condition that has held since a local time: set at its first capture, none when it does not hold. -/
def since (c : Bool) (now : Nat) (prev : Option Nat) : Option Nat :=
  if c then (match prev with | some t => some t | none => some now) else none
/-- A condition has held for `d` ns. -/
def held (p : Option Nat) (now d : Nat) : Bool := match p with | some t => decide (t + d ≤ now) | none => false

/-- The read-back lies within the accuracy of Table 07.3. -/
def OutSt.accurate (o : OutSt) (f : Nat) : Bool :=
  let c := o.applied.toRat
  let d := o.y.toRat - c
  let lim := (if c < 0 then -c else c) * 5 / 10000 + (if f = 18 then 2 / 1000 else 4 / 1000)
  decide (d ≤ lim) && decide (-d ≤ lim)

/-- Timers of R193 to R195 at a capture. -/
def OutSt.timers (o : OutSt) (f now : Nat) : OutSt :=
  { o with
    lowSince := since (decide (o.h < 1500)) now o.lowSince
    goodSince := since (o.compl && decide (1500 ≤ o.h) && o.accurate f) now o.goodSince
    overSince := since (f != 18 && decide (o.applied.toRat + 1 < o.y.toRat)) now o.overSince }

/-- The 32 ms of R194 run while the output is in COMPLIANCE at its captures; `od` is OPEN_DETECT. -/
def OutSt.openTimer (o : OutSt) (f : Nat) (od : Bool) (now : Nat) : OutSt :=
  { o with openSince := since (od && f != 18 && !o.isOpen && o.compl && decide (1 ≤ o.applied.toRat) && decide (o.y.toRat < 1 / 2))
             now o.openSince }

/-- Entry to `COMPLIANCE`; it is logged unless the channel has been clear for less than 1 s (R193). -/
def State.complEnter (s : State) (n : Nat) : State :=
  let o := s.out n
  if o.compl then s
  else
    let s1 := s.modOut n (fun o => { o with compl := true, goodSince := none })
    let quiet := match o.leftAt with | some t => decide (s.clk.now < t + secs 1) | none => false
    if quiet then s1 else s1.logChan n 0x0314 5 (twos 32 o.h) (twos 32 o.rb)

/-- Conditions of R193 other than the 32 ms. -/
def State.complNow (s : State) (n : Nat) (x : ChIn) : Bool :=
  let o := s.out n
  let b := s.bank (n / 8)
  decide (o.h < 1500) && (decide (o.func = 17) || (decide (b.setPt = 260) && decide (25480 ≤ x.vs)) || b.raiseRefused ||
    b.limit || (decide (o.func = 18) && x.lim))

/-- The 32 ms of R193 have run. -/
def State.complTimer (s : State) (n : Nat) : State :=
  if held (s.out n).lowSince s.clk.now (ms 32) then s.complEnter n else s

/-- The 10 ms of R193 have run: the quality returns. -/
def State.complLeave (s : State) (n : Nat) : State :=
  let o := s.out n
  if o.compl && held o.goodSince s.clk.now (ms 10) then
    s.modOut n (fun o => { o with compl := false, goodSince := none, openSince := none, leftAt := some s.clk.now })
  else s

/-- The 32 ms of R194 have run: the output is declared open. -/
def State.openDeclare (s : State) (n : Nat) : State :=
  let o := s.out n
  if !o.isOpen && held o.openSince s.clk.now (ms 32) then
    (s.modOut n (fun o => { o with isOpen := true, openSince := none, probeAt := s.clk.now + secs 1, probing := false })).logChan
      n 0x0315 5 (twos 32 o.rb) (twos 32 (milli o.applied))
  else s

/-- The probe of R194: it runs 50 ms every 1 s, and its read-back, or any of a sink, ends the declaration. -/
def State.probeStep (s : State) (n : Nat) : State :=
  let o := s.out n
  if !o.isOpen then s
  else if decide (1 ≤ o.y.toRat) && (o.func = 17 || o.probing) then
    (s.modOut n (fun o => { o with isOpen := false, probing := false })).logChan n 0x0316 3 (twos 32 o.rb) 0
  else if o.probeAt + ms 50 ≤ s.clk.now then
    s.modOut n (fun o => { o with probing := false, probeAt := o.probeAt + secs 1 })
  else s.modOut n (fun o => { o with probing := decide (o.probeAt ≤ s.clk.now) })

/-- `OVER` of R195 while its condition has held for 10 ms. -/
def State.overStep (s : State) (n : Nat) : State :=
  s.modOut n (fun o => { o with overCur := held o.overSince s.clk.now (ms 10) })

/-- What output `n` judges from its measurements (R193 to R195). -/
def State.outJudge (s : State) (n : Nat) (x : ChIn) : State :=
  let s1 := s.modOut n (fun o => o.timers o.func s.clk.now)
  let s2 := (((if s1.complNow n x then s1.complEnter n else s1).complTimer n).complLeave n).modOut n
    (fun o => o.openTimer o.func (tst (s.chField n 70 1) 1) s.clk.now)
  ((s2.openDeclare n).probeStep n).overStep n

/-- The demand of an output at a capture: a driver that works places one (R192). -/
def State.outDemand (s : State) (n : Nat) : State :=
  s.modOut n (fun o => { o with demand := if o.drive.working then o.demandFor o.func else 0 })

/-! ## The record of an output (R190) -/

/-- Switch state under a mode (R174). -/
def swNext (mode : Nat) (l h v : F32) (on : Bool) : Bool :=
  match mode with
  | 1 => if l.le v then true else if v.le (l.sub h) then false else on
  | 2 => if v.le l then true else if (l.add h).le v then false else on
  | _ => false

/-- Threshold switches of a channel at a capture (R174, R175). A switch whose mode becomes `NONE` while the quality is unusable keeps
its bit until the next usable capture (the model's choice, log entry 176). -/
def State.switches (s : State) (n : Nat) : State :=
  s.modChan n (fun c =>
    if c.q = .good ∨ c.q = .calLoad then
      let a := swNext (s.chField n 56 1) (s.chF32 n 40) (s.chF32 n 44) c.val c.sw0
      let b := swNext (s.chField n 57 1) (s.chF32 n 48) (s.chF32 n 52) c.val c.sw1
      { c with sw0 := a, sw1 := b, sw0c := a != c.sw0, sw1c := b != c.sw1, held := false }
    else { c with sw0c := false, sw1c := false, held := true })

/-- Publish quality and value of a channel: the value field holds the last good one where the rank says so. -/
def State.publishChan (s : State) (n seq : Nat) (q : Quality) (v : Option F32) : State :=
  (s.modChan n (fun c =>
    let x := match v with | some x => x | none => c.lastGood
    let g := decide (q = .good) || decide (q = .calLoad)
    { c with q, val := x, lastGood := if g then x else c.lastGood, seqLow := seq % 65536 })).switches n

/-- `CAL_RECORD_BAD`, once per channel, area and configuration epoch (R146). -/
def State.logBadRecs (s : State) (n : Nat) : State :=
  (s.calRec n).2.foldl (fun s a =>
    if tst (s.chan n).calBadLog a then s
    else (s.modChan n (fun c => { c with calBadLog := c.calBadLog + 2 ^ a })).logChan n 0x0311 5 a (s.chField n 2 1)) s

/-- `CAL_LOAD`, once per channel and configuration epoch (R146). -/
def State.logCalLoad (s : State) (n : Nat) (load : Bool) : State :=
  if load && !(s.chan n).calLoadLog then
    (s.modChan n (fun c => { c with calLoadLog := true })).logChan n 0x0312 4
      (Rat.fl (s.bank (n / 8)).pb).toNat (s.calRec n).1.pb
  else s

/-- Calibration flags of a channel record. -/
def State.noteCal (s : State) (n : Nat) (load : Bool) : State :=
  let a := (s.calRec n).1.area
  ((s.logBadRecs n).logCalLoad n load).modChan n (fun c =>
    { c with calField := decide (a = 1), calNone := decide (a = 0) })

/-- The bank's link gives the values of the bank no more than SUSPECT (Table 05.4): two lost frames in the 1 ms before
the capture, or the link unaligned. -/
def State.linkSuspect (s : State) (b : Nat) : Bool :=
  let k := s.bank b
  !k.aligned || decide (2 ≤ (k.lostAt.filter (fun t => decide (s.clk.now < t + ms 1))).length)

/-- The frame is one in which the channels of bank `b` take new values (R27). -/
def State.bankFrame (s : State) (b seq : Nat) : Bool := s.frame.profile ≠ 3 || seq % 8 = b

/-- Quality of an output (Table 05.14) and whether the value field carries the read-back. -/
def State.outQuality (s : State) (n : Nat) (load : Bool) : Quality × Bool :=
  let o := s.out n
  let b := s.bank (n / 8)
  let la := b.lands.getD (2 * (n % 8)) {}
  let lb := b.lands.getD (2 * (n % 8) + 1) {}
  if !s.bankUp (n / 8) || o.drive = .off || o.drive.ramping then (.disabled, true)
  else if la.beyond || lb.beyond then
    (if (la.beyond && la.above) || (!la.beyond && lb.above) then .overRange else .underRange, false)
  else if o.isOpen then (.open_, false)
  else if o.overCur then (.overRange, true)
  else if s.linkSuspect (n / 8) || (s.chan n).calNone then (.suspect, b.aligned)
  else if o.compl then (.compliance, true)
  else if o.budgetHeld then (.budgetHeld, true)
  else if load then (.calLoad, true) else (.good, true)

/-- One capture of a calibration average: the nominal value of R146, and whether the quality stays good (R182). -/
def CalRun.sample (r : CalRun) (x : F32) (q : Quality) : CalRun :=
  { r with sum := r.sum + x.toRat, n := r.n + 1, clean := r.clean && (decide (q = .good) || decide (q = .calLoad)) }

/-- The averages that run on channel `n` take its nominal value at a capture. -/
def State.calSample (s : State) (n : Nat) (x : F32) : State :=
  let q := (s.chan n).q
  { s with cal := { s.cal with runs := s.cal.runs.map (fun r =>
      if r.chan = n && r.since.isSome && r.churn.isNone then r.sample x q else r) } }

/-- Step 1 and 2 for an output channel: it measures whatever its state while its bank is up (R189), and the conditions of R193
to R195 are tested at every capture of an enabled output, on a land beyond its range too. -/
def State.captureOut (s : State) (seq n : Nat) (x : ChIn) : State :=
  let c := s.calibrate n x.raw
  let o := s.out n
  let s1 := if s.bankUp (n / 8) then s.modOut n (outMeasure (if o.func = 0 then s.func n else o.func) x c.y)
    else s.modOut n (fun o => { o with rb := 0, diss := 0 })
  let s2 := (if decide (o.drive ≠ .off) && !o.drive.ramping then s1.outJudge n x else s1).outDemand n
  let s3 := if s2.bankUp (n / 8) then s2.noteCal n c.load else s2
  if !s3.bankFrame (n / 8) seq then s3.modChan n (fun c => { c with sw0c := false, sw1c := false })
  else
    let q := s3.outQuality n c.load
    let dis := decide (q.1 = .disabled)
    let s4 := s3.modChan n (fun k => { k with raw := if dis then 0 else rawOf c.y (s.fs n), stream := [] })
    (s4.publishChan n seq q.1 (if dis then some 0 else if q.2 then some (s.scaleCh n c.y).1 else none)).calSample n c.x

/-! ## Rows -/

/-- `COMPLIANCE_TIMER` (R193). -/
def execComplianceTimer (t ch : Nat) (s : State) : Host.Outcome State Fault Refusal :=
  guardUnit (decide (ch < 64)) ((s.toFrame t).complTimer ch)
/-- `COMPLIANCE_CLEAR` (R193). -/
def execComplianceClear (t ch : Nat) (s : State) : Host.Outcome State Fault Refusal :=
  guardUnit (decide (ch < 64)) ((s.toFrame t).complLeave ch)
/-- `LOOP_OPEN` (R194). -/
def execLoopOpen (t ch : Nat) (s : State) : Host.Outcome State Fault Refusal :=
  guardUnit (decide (ch < 64)) ((s.toFrame t).openDeclare ch)
/-- `OPEN_PROBE` (R194). -/
def execOpenProbe (t ch : Nat) (s : State) : Host.Outcome State Fault Refusal :=
  guardUnit (decide (ch < 64)) ((s.toFrame t).probeStep ch)
/-- `LOOP_OVER` (R195). -/
def execLoopOver (t ch : Nat) (s : State) : Host.Outcome State Fault Refusal :=
  guardUnit (decide (ch < 64)) ((s.toFrame t).overStep ch)
/-- `LOOP_RAMP_DOWN_END` (R200): the driver turns off; a pending function starts at the next tick. -/
def execLoopRampDownEnd (t ch : Nat) (s : State) : Host.Outcome State Fault Refusal :=
  guardUnit (decide (ch < 64)) ((s.advance t).outRampStep ch)

/-- `CHAN_OUT_SET` (R211): it stores the set point, which acts while the node is ARMED. -/
def execChanOutSet (t tag : Nat) (s : State) : Host.Outcome State Fault Refusal :=
  .next (s.withCur t tag 0x030B (fun f s =>
    let n := f.unit
    let v := f32At f.req 16
    if !isOut (s.func n) || s.chField n 64 1 != 0 then s.refuse f (.badField, 8, [])
    else if !v.finite then s.refuse f (.badField, 16, [])
    else s.addLive (.outSet n v) f))

/-- A live set point acts in the frame that is computed (R211). -/
def State.applyOutLive (s : State) (c : LiveCmd) : State :=
  match c.kind, c.applied with
  | .outSet n v, none =>
    if c.role != s.cfg.roles.get .chan n then s.answerLive c 255 []
    else (s.modOut n (fun o => { o with setPoint := some v })).answerLive c 0 (leF32 (s.outCommand n v))
  | _, _ => s

/-- Live set points act in the order in which they were taken. -/
def State.outLive (s : State) : State := s.live.foldl (fun s c => s.applyOutLive c) s

/-- `CHAN_OUT_STATUS` (R210). -/
def execChanOutStatus (t tag : Nat) (s : State) : Host.Outcome State Fault Refusal :=
  .next (s.withCur t tag 0x030C (fun f s =>
    let n := f.unit
    let o := s.out n
    let b := s.bank (n / 8)
    if !isOut (s.func n) then s.refuse f (.badField, 8, [])
    else s.ok f (leF32 o.applied ++ leF32 o.y ++ leF32 (f32q o.h 1000) ++ leF32 (f32q o.diss 1000000) ++
      leF32 (f32q (if b.supplyOn then b.setPt else 0) 10) ++ le8 (s.chan n).q.code ++ zeros 3)))

end Sys2Proof.Machine
end

