-- ==== Sys2Proof/Machine/Fsk.lean ====
section
/-!
DEFINITION. The FSK modems (R203 to R211): frames, transactions, burst listening.
-/

namespace Sys2Proof.Machine

open Sys2Proof

/-- Modem of bank `b`. -/
def State.modem (s : State) (b : Nat) : ModemSt := s.modems.getD b {}
/-- Modem of bank `b` changed. -/
def State.modModem (s : State) (b : Nat) (f : ModemSt → ModemSt) : State := { s with modems := modAt s.modems b f }

/-- Duration of `k` characters of 11 bits at 1,200 bit/s, ns rounded up (R206). -/
def chars (k : Nat) : Nat := (k * 11000000000 + 1199) / 1200

/-- The channel's function carries FSK (R204, Table 07.12). -/
def fskFunc (f : Nat) : Bool := isCurIn f || isOutI f

/-- Exclusive-OR of the bytes of a frame (R206). -/
def xorAll (b : List Byte) : Byte := b.foldl (fun a x => a ^^^ x) 0

/-- The request asks for a long frame. -/
def FskTx.long (x : FskTx) : Bool := tst (byteAt x.fl.req 16) 0
/-- The request speaks as secondary master. -/
def FskTx.secondary (x : FskTx) : Bool := tst (byteAt x.fl.req 16) 1

/-- First address byte of a request: bits [7:6] by the master (Table 07.9). -/
def masterBits (secondary : Bool) (b : Byte) : Byte := (b &&& 0x3F#8) ||| (if secondary then 0 else 0x80#8)

/-- Address field of a request (Table 07.9). -/
def FskTx.address (x : FskTx) : List Byte :=
  if x.long then
    let a := (x.fl.req.drop 20).take 5
    masterBits x.secondary (a.headD 0) :: a.drop 1
  else [masterBits x.secondary (x.fl.req.getD 19 0)]

/-- The request frame from its delimiter to its check byte (Table 07.9). -/
def FskTx.frame (x : FskTx) : List Byte :=
  let n := byteAt x.fl.req 26
  let b := [if x.long then 0x82#8 else 0x02#8] ++ x.address ++ [x.fl.req.getD 25 0] ++ le8 n ++ (x.fl.req.drop 28).take n
  b ++ [xorAll b]

/-- The request as the line carries it, its preamble in front. -/
def FskTx.request (x : FskTx) : List Byte := List.replicate (byteAt x.fl.req 17) 0xFF#8 ++ x.frame

/-- A received frame taken apart: delimiter, address, command, byte count, data. -/
structure FskFrame where
  delim : Nat
  addr : List Byte
  cmd : Nat
  count : Nat
  data : List Byte
deriving DecidableEq, Repr

/-- A received frame that is well formed: at least two preamble characters, correct parity, a byte count of at least 2
that fits, a correct check byte, and one of two delimiters by its frame length (R206). -/
def fskParse (short long : Nat) (pre : Nat) (parity : Bool) (b : List Byte) : Option FskFrame :=
  let d := byteAt b 0
  let k := if d = long then 5 else 1
  let n := byteAt b (k + 2)
  if (d = short ∨ d = long) ∧ 2 ≤ pre ∧ parity ∧ 2 ≤ n ∧ b.length = k + n + 4 ∧ xorAll b = 0 then
    some { delim := d, addr := (b.drop 1).take k, cmd := byteAt b (k + 1), count := n, data := (b.drop (k + 3)).take n }
  else none

/-- Address with bit 6 of its first byte cleared. -/
def noBit6 (a : List Byte) : List Byte :=
  match a with | [] => [] | x :: r => (x &&& 0xBF#8) :: r

/-- A response to a request is accepted (R206). -/
def FskTx.accepts (x : FskTx) (f : FskFrame) : Bool :=
  decide (f.delim = if x.long then 0x86 else 0x06) && decide (noBit6 f.addr = noBit6 x.address) &&
    decide (f.cmd = byteAt x.fl.req 25)

/-- Response payload (Table 07.14). -/
def fskResponse (attempts : Nat) (f : FskFrame) : List Byte :=
  le8 f.delim ++ le8 f.cmd ++ le8 f.count ++ f.data.take 2 ++ le8 attempts ++
    le8 (bit (decide (234 < f.count)) + 2 * bit (tst (byteAt f.addr 0) 6)) ++ le8 0 ++ (f.data.drop 2).take 232

/-- The transaction that runs, or the one at the head of the queue. -/
def ModemSt.head (m : ModemSt) : Option FskTx := m.queue.head?
/-- The head of the queue changed. -/
def ModemSt.modHead (m : ModemSt) (f : FskTx → FskTx) : ModemSt := { m with queue := modAt m.queue 0 f }

/-- The modem is switched to a channel, which takes 2 ms unless it is there already (R204). -/
def ModemSt.attachTo (m : ModemSt) (n : Option Nat) (now : Nat) : ModemSt :=
  if m.attached = n then m else { m with attached := n, attachAt := now + ms 2 }

/-- The head transaction ends: the modem goes back to the burst channel, its own exchange on the channel ends now. -/
def ModemSt.endHead (m : ModemSt) (x : FskTx) (now : Nat) (own : Bool) : ModemSt :=
  { m.attachTo (m.burst.map (fun p => p.1)) now with
           queue := m.queue.drop 1, burstEnd := none,
           lastOwn := if own then modAt m.lastOwn (x.chan % 8) (fun _ => some now) else m.lastOwn,
           carrier := if own then modAt m.carrier (x.chan % 8) (fun _ => now) else m.carrier }

/-- Role epoch checked again as a transaction leaves the queue (Table 07.10): a stale one completes `ROLE_STALE`. -/
def State.fskLeave (s : State) (b : Nat) (x : FskTx) (go : State → State) : State :=
  let r := s.cfg.roles.get .chan x.chan
  if r = x.role then go s
  else (s.modModem b (fun m => { m with queue := m.queue.drop 1 })).refuse x.fl (.roleStale, 0, le16 r)

/-- Silence a channel needs before a transaction attaches (Table 07.10): RT2 after the modem's own last exchange, RT1 else and
always on the channel of burst listening. -/
def ModemSt.silence (m : ModemSt) (x : FskTx) : Nat :=
  let rt1 := chars (if x.secondary then 41 else 33)
  if m.burst.map (fun p => p.1) = some x.chan then rt1
  else
    match m.lastOwn.getD (x.chan % 8) none with
    | some e => if m.carrier.getD (x.chan % 8) 0 ≤ e then chars 8 else rt1
    | none => rt1

/-- The head transaction waits in the queue and its line has been silent: the modem attaches. -/
def State.fskAttach (s : State) (b : Nat) : State :=
  let m := s.modem b
  match m.head with
  | some x =>
    if x.state = .queued && decide (m.carrier.getD (x.chan % 8) 0 + m.silence x ≤ s.clk.now) then
      s.fskLeave b x (fun s => s.modModem b (fun m =>
        (m.modHead (fun x => { x with state := .attach, since := s.clk.now })).attachTo (some x.chan) s.clk.now))
    else s
  | none => s

/-- The request frame is sent, as one attempt; nothing is sent while the link watchdog holds the bank (R13). -/
def State.fskStart (s : State) (b : Nat) : State :=
  if (s.bank b).tripped then s
  else s.modModem b (fun m =>
    { m.modHead (fun x => { x with state := .send, attempts := x.attempts + 1, since := s.clk.now }) with
      sent := match m.head with | some x => x.request | none => m.sent })

/-- After 2 ms of attachment, or within 20 ms of the end of an accepted burst frame on the burst channel (R207, R209). -/
def State.fskSend (s : State) (b : Nat) : State :=
  let m := s.modem b
  match m.head with
  | some x =>
    if x.state = .attach && decide (x.since + ms 2 ≤ s.clk.now) then s.fskStart b
    else
      let gap := match m.burstEnd with | some e => decide (s.clk.now ≤ e + ms 20) | none => false
      if x.state = .queued && m.attached = some x.chan && (m.burst.map (fun p => p.1)) = some x.chan && gap then
        s.fskLeave b x (fun s => s.fskStart b)
      else s
  | none => s

/-- An attempt failed: another follows after RT2 while retries remain, else `ABORTED`, detail 1. -/
def State.fskFail (s : State) (b : Nat) (x : FskTx) : State :=
  if 0 < x.retries then
    s.modModem b (fun m => m.modHead (fun x => { x with state := .retry, retries := x.retries - 1, since := s.clk.now }))
  else (s.modModem b (fun m => m.endHead x s.clk.now true)).complete x.fl .aborted 1 []

/-- A response arrives (Table 07.10); an accepted one completes with the next published frame (R65). -/
def State.fskRespond (s : State) (b pre : Nat) (parity : Bool) (data : List Byte) : State :=
  match (s.modem b).head with
  | some x =>
    if x.state = .wait_ then
      match fskParse 0x06 0x86 pre parity data with
      | some f =>
        if x.accepts f then (s.modModem b (fun m => m.endHead x s.clk.now true)).wait x.fl (.publish (fskResponse x.attempts f))
        else s.fskFail b x
      | none => s.fskFail b x
    else s
  | none => s

/-- A transaction that sends or waits ends with `ABORTED`, detail 1 (Table 07.10); `sel` chooses the channels. -/
def State.fskAbort (s : State) (b : Nat) (sel : Nat → Bool) : State :=
  match (s.modem b).head with
  | some x =>
    if sel x.chan && (x.state = .send || x.state = .wait_ || x.state = .retry) then
      (s.modModem b (fun m => m.endHead x s.clk.now true)).complete x.fl .aborted 1 []
    else s
  | none => s

/-- A modem without its queue and its listening. -/
def ModemSt.quiet (m : ModemSt) : ModemSt := { m with queue := [], burst := none, attached := none, burstEnd := none }

/-- Burst listening of a channel ends at a change of its role epoch (R209). -/
def State.burstCheck (s : State) (b : Nat) : State :=
  match (s.modem b).burst with
  | some (n, _, r) =>
    if s.cfg.roles.get .chan n = r then s
    else s.modModem b (fun m => { m with burst := none, attached := (if m.attached = some n then none else m.attached) })
  | none => s

/-! ## Rows -/

/-- `FSK_ATTACH`. -/
def execFskAttach (t bank : Nat) (s : State) : Host.Outcome State Fault Refusal :=
  guardUnit (decide (bank < 8)) ((s.advance t).fskAttach bank)
/-- `FSK_SEND`. -/
def execFskSend (t bank : Nat) (s : State) : Host.Outcome State Fault Refusal :=
  guardUnit (decide (bank < 8)) ((s.advance t).fskSend bank)
/-- `FSK_CHECK_SENT`. -/
def execFskCheckSent (t bank : Nat) (s : State) : Host.Outcome State Fault Refusal :=
  let s1 := s.advance t
  guardUnit (decide (bank < 8)) (s1.modModem bank (fun m => m.modHead (fun x =>
    if x.state = .send then { x with state := .wait_, since := s1.clk.now } else x)))
/-- `FSK_RESPONSE`. -/
def execFskResponse (t bank pre : Nat) (parity : Bool) (data : List Byte) (s : State) : Host.Outcome State Fault Refusal :=
  guardUnit (decide (bank < 8)) ((s.advance t).fskRespond bank pre parity data)
/-- `FSK_RESPONSE_TIMEOUT`: no carrier within 28 characters of the end of the check byte. -/
def execFskResponseTimeout (t bank : Nat) (s : State) : Host.Outcome State Fault Refusal :=
  let s1 := s.advance t
  guardUnit (decide (bank < 8)) (match (s1.modem bank).head with
    | some x => if x.state = .wait_ && decide (x.since + chars 28 ≤ s1.clk.now) then s1.fskFail bank x else s1
    | none => s1)
/-- `FSK_RETRY`: RT2 after the failed attempt. -/
def execFskRetry (t bank : Nat) (s : State) : Host.Outcome State Fault Refusal :=
  let s1 := s.advance t
  guardUnit (decide (bank < 8)) (match (s1.modem bank).head with
    | some x => if x.state = .retry && decide (x.since + chars 8 ≤ s1.clk.now) then s1.fskStart bank else s1
    | none => s1)

/-- A burst frame on the listening channel: stored when the modem listens and the frame is accepted, else counted as
missed or garbled (R209). -/
def State.burstFrame (s : State) (b pre : Nat) (parity : Bool) (data : List Byte) : State :=
  let m := s.modem b
  match m.burst with
  | none => s
  | some (n, _, _) =>
    let m1 : ModemSt := { m with carrier := modAt m.carrier (n % 8) (fun _ => s.clk.now) }
    let ok := m.attached = some n && decide (m.attachAt ≤ s.clk.now) && !(match m.head with | some x => x.state != .queued | none => false)
    s.modModem b (fun _ =>
      match ok, fskParse 0x01 0x81 pre parity data with
      | true, some _ => { m1 with accepted := satAdd 65535 m1.accepted 1, lastFrame := data, lastTime := s.nowTs,
                                  burstEnd := some s.clk.now }
      | _, _ => { m1 with missed := satAdd 65535 m1.missed 1 })

/-- `BURST_FRAME`. -/
def execBurstFrame (t bank pre : Nat) (parity : Bool) (data : List Byte) (s : State) : Host.Outcome State Fault Refusal :=
  guardUnit (decide (bank < 8)) ((s.advance t).burstFrame bank pre parity data)

/-- What `CHAN_FSK_XFER` refuses beyond Table 03.16 (Tables 07.12, 07.13). -/
def fskBad (func : Nat) (f : Flight) : Option Refused :=
  let long := tst (byteAt f.req 16) 0
  let n := byteAt f.req 26
  if !fskFunc func then badField 8
  else if f.len ≠ 12 + n then some (.badLength, 0, le16 (12 + n))
  else if long && byteAt f.req 19 ≠ 0 then badField 19
  else if long then none
  else (nonZero f.req 20 5).bind badField

/-- `CHAN_FSK_XFER` (R208). -/
def execChanFskXfer (t tag : Nat) (s : State) : Host.Outcome State Fault Refusal :=
  .next (s.withCur t tag 0x030D (fun f s =>
    match fskBad (s.func f.unit) f with
    | some r => s.refuse f r
    | none =>
      let b := f.unit / 8
      if 8 ≤ (s.modem b).queue.length then s.refuse f (.queueFull, 0, [])
      else s.modModem b (fun m => { m with queue := m.queue ++
        [{ fl := f, chan := f.unit, role := f.roleEpoch, retries := byteAt f.req 18, since := s.clk.now }] })))

/-- Burst read payload (Table 07.15). -/
def ModemSt.burstRead (m : ModemSt) (n : Nat) : List Byte :=
  if m.burst.map (fun p => p.1) = some n then
    let d := m.lastFrame
    let k := if byteAt d 0 = 0x81 then 5 else 1
    let c := byteAt d (k + 2)
    le64 m.lastTime ++ le16 m.accepted ++ le16 m.missed ++
      (if d.isEmpty then zeros 4
       else le8 (byteAt d 0) ++ le8 (byteAt d (k + 1)) ++ le8 c ++ le8 0 ++ ((d.drop (k + 3)).take (min c 224)))
  else zeros 16

/-- `CHAN_FSK_BURST` (R209, R211). -/
def execChanFskBurst (t tag : Nat) (s : State) : Host.Outcome State Fault Refusal :=
  .next (s.withCur t tag 0x030E (fun f s =>
    let n := f.unit
    let b := n / 8
    let m := s.modem b
    if !fskFunc (s.func n) then s.refuse f (.badField, 8, [])
    else
      match byteAt f.req 16 with
      | 0 =>
        let s1 := if m.burst.map (fun p => p.1) = some n then
          s.modModem b (fun m => { m with burst := none, burstEnd := none,
                                          attached := if m.queue.any (fun x => x.state != .queued) then m.attached else none }) else s
        s1.ok f []
      | 1 =>
        match m.burst with
        | some (k, o, _) => if k = n then s.ok f [] else s.refuse f (.busy, o, [])
        | none =>
          (s.modModem b (fun m =>
            { (if m.queue.any (fun x => x.state != .queued) then m else m.attachTo (some n) s.clk.now) with
              burst := some (n, f.origin.code, s.cfg.roles.get .chan n), accepted := 0, missed := 0,
              lastFrame := [], lastTime := 0, burstEnd := none })).ok f []
      | _ => s.ok f (m.burstRead n)))

end Sys2Proof.Machine
end

