-- ==== Sys2Proof/Machine/Banks.lean ====
section
/-!
DEFINITION. The banks (chapter 04): power-up, links and their watchdogs, lands, excitation, charge amplifiers, the
adaptive supply.
-/

namespace Sys2Proof.Machine

open Sys2Proof

/-! ## Front ends as configured -/

/-- Excitation code of an RTD range (Table 06.2). -/
def rtdCode (range : Nat) : Nat := if range = 0 then 6 else 4

/-- Land `l` of bank `b` stands within its range (R84). -/
def State.landOk (s : State) (b l : Nat) : Bool := !((s.bank b).lands.getD l {}).beyond

/-- What source `i` of bank `b` drives: its code and land (R92, R93, R149). A source steered to a land beyond its range is
disconnected (Table 04.13). -/
def State.iexOf (s : State) (b i : Nat) : Option (Nat × Nat) :=
  ((List.range 8).findSome? (fun k =>
    let n := 8 * b + k
    let f := if (s.out n).drive.ramping then 0 else s.func n
    let src := s.chField n 5 1
    let c := rtdCode (s.chField n 2 1)
    let swap := (s.chan n).exchanged
    if f = 5 ∨ f = 7 then (if src % 4 = i then some (c, 2 * k) else none)
    else if f = 6 then
      (if src % 4 = i then some (c, 2 * k + bit swap)
       else if src / 4 % 4 = i then some (c, 2 * k + 1 - bit swap) else none)
    else none)).filter (fun x => s.landOk b x.2)

/-- Channel that uses VEX of bank `b`, with its set voltage in 10 mV (R96); off while a force or sense land of it stands beyond its
range (Table 04.13). -/
def State.vexOf (s : State) (b : Nat) : Option (Nat × Nat) :=
  ((List.range 8).findSome? (fun k => let n := 8 * b + k; if s.func n = 9 ∧ (s.out n).drive.ramping = false then some (n, s.chField n 36 2) else none)).filter
    (fun x => let p := s.chField x.1 4 1 % 8
              s.landOk b (2 * p) && s.landOk b (2 * p + 1) && s.landOk b 16 && s.landOk b 17)

/-- A channel of bank `b` is declared hull-referenced (Table 04.22). -/
def State.hullDeclared (s : State) (b : Nat) : Bool :=
  (List.range 8).any (fun k => s.func (8 * b + k) != 0 && s.chOpt (8 * b + k) 1)

/-- Charge amplifier `i` of bank `b`, of channel 8b + 6 + i. -/
def State.amp (s : State) (b i : Nat) : AmpSt := (s.bank b).amps.getD i {}
/-- Charge amplifier changed. -/
def State.modAmp (s : State) (b i : Nat) (f : AmpSt → AmpSt) : State :=
  s.modBank b (fun k => { k with amps := modAt k.amps i f })
/-- Bank and amplifier of a channel. -/
def ampOf (ch : Nat) : Nat × Nat := (ch / 8, ch % 8 - 6)

/-- The filter of a channel restarts at the next tick (Table 05.12). -/
def State.restartChan (s : State) (n : Nat) : State := s.modChan n (fun c => { c with restart := true })
/-- The filters of every enabled channel of a bank restart at the next tick. -/
def State.restartBank (s : State) (b : Nat) : State :=
  s.each 8 (fun s k => if isInput (s.func (8 * b + k)) then s.restartChan (8 * b + k) else s)

/-- A reset of an amplifier begins: 2 ms, its channel settles (R100). -/
def State.ampReset (s : State) (b i : Nat) : State :=
  (s.modAmp b i (fun a => { a with state := .resetting (s.clk.now + ms 2) })).restartChan (8 * b + 6 + i)

/-- The amplifier takes up its function, range and corner at a tick (Table 04.10). -/
def State.ampSetup (s : State) (b i : Nat) : State :=
  let n := 8 * b + 6 + i
  let a := s.amp b i
  let on := s.func n = 10
  let r := s.chField n 2 1
  let c := s.chField n 38 1 / 16 % 2
  let busy := match a.state with | .resetting _ => a.stop | _ => false
  if on then
    if a.state = .off then
      (s.modAmp b i (fun a => { a with range := r, corner := c, stop := false, reenable := false, resets := [] })).ampReset b i
    else if busy then s.modAmp b i (fun a => { a with reenable := true })
    else if a.range ≠ r ∨ a.corner ≠ c then
      (s.modAmp b i (fun a => { a with range := r, corner := c })).ampReset b i
    else s
  else if a.state = .off then s
  else if busy then s.modAmp b i (fun a => { a with reenable := false })
  else (s.ampReset b i).modAmp b i (fun a => { a with stop := true, reenable := false })

/-- Resets and holds of an amplifier that have run their time end (R100, R101). -/
def State.ampEnd (s : State) (b i : Nat) : State :=
  match (s.amp b i).state with
  | .resetting u =>
    if u ≤ s.clk.now then
      s.modAmp b i (fun a => if a.stop then { a with state := .off, stop := false } else { a with state := .measuring })
    else s
  | .holding u => if u ≤ s.clk.now then (s.modAmp b i (fun a => { a with resets := [] })).ampReset b i else s
  | _ => s

/-- Current sources, VEX and the hull declaration of a bank as the configuration in force has them (R94). -/
def State.bankSetup (s : State) (b : Nat) : State :=
  let hr := s.hullDeclared b
  s.modBank b (fun k =>
    { k with iex := (List.range 4).map (s.iexOf b), vex := s.vexOf b, vexFault := k.vexFault && (s.vexOf b).isSome,
             insul := if hr then { k.insul with hullRef := true, valid := false, gen := 0, ran := false, published := false,
                                                lowCap := none, stepRun := 0, stepSlot := 0 }
               else { k.insul with hullRef := false } })

/-! ## The adaptive supply (R87 to R91) -/

/-- A channel is a consumer of the adaptive supply of its bank; a source that ramps down still is. -/
def State.isConsumer (s : State) (n : Nat) : Bool :=
  let f := s.func n
  [4, 11, 12, 16, 18].contains f || (decide (f = 9) && (s.vexOf (n / 8)).isSome) || ((s.out n).drive.ramping && (s.out n).func != 17)

/-- Bank `b` has an enabled consumer. -/
def State.hasConsumer (s : State) (b : Nat) : Bool := (List.range 8).any (fun k => s.isConsumer (8 * b + k))

/-- The function of a channel waits for a shutdown to end: the ramp-down of its driver, or the discharge of the supply it draws
on (R200, R392). -/
def State.pendingStart (s : State) (n : Nat) : Bool :=
  (s.out n).drive.ramping || (s.isConsumer n && (s.bank (n / 8)).discharging)

/-- Demand of a channel in 0.1 V with its headgate class (Tables 04.4, 14.5, R192). A pending enable makes no claim yet
(R392). -/
def State.demandOf (s : State) (n : Nat) : Nat × Nat :=
  if (s.out n).drive.ramping then ((s.out n).demand, 0)
  else if s.pendingStart n then (0, 1)
  else match s.func n with
  | 4 => (240, 1) | 11 => (240, 1) | 12 => (140, 1)
  | 9 => if (s.vexOf (n / 8)).isSome then ((s.chField n 36 2 + 9) / 10 + 45, 1) else (0, 1)
  | _ => let o := s.out n; (o.demand, if o.drive = .run && !s.outFaultSafe n then 2 else 0)

/-- The highest demand of a bank with its class: the most urgent of those that place it (R380). -/
def State.bankDemand (s : State) (b : Nat) : Nat × Nat :=
  ((List.range 8).map (fun k => s.demandOf (8 * b + k))).foldl
    (fun a d => if a.1 < d.1 then d else if a.1 = d.1 then (a.1, min a.2 d.2) else a) (0, 5)

/-- Set point limits in 0.1 V (Table 04.3). -/
def clampSet (d : Nat) : Nat := min 260 (max 80 d)

/-- The supply starts at 8.0 V, or waits for its discharge (R91, Table 04.12). -/
def State.supplyOn (s : State) (b : Nat) : State :=
  s.modBank b (fun k =>
    if k.supplyOn then k
    else if k.discharging then { k with reenable := true }
    else { k with supplyOn := true, setPt := 80, nextSet := 80, reenable := false })

/-- The supply is switched off and discharges (R91). -/
def State.supplyOff (s : State) (b : Nat) : State :=
  s.modBank b (fun k =>
    if k.supplyOn then
      { k with supplyOn := false, discharging := true, dischAt := s.clk.now, setPt := 80, nextSet := 80,
               reenable := false, limit := false, raiseRefused := false }
    else { k with reenable := false })

/-- The discharge of a supply has run: a pending enable waits for the next tick (R91, R392). -/
def State.supplyEnd (s : State) (b : Nat) : State :=
  s.modBank b (fun k => if k.discharging then { k with discharging := false } else k)

/-- The supply of a bank at a tick: on while a consumer is enabled, at the granted set point (R88, R89); while the link watchdog
holds the bank it stays as it is (R91). -/
def State.supplyTick (s : State) (b : Nat) : State :=
  let k := s.bank b
  let s1 := if k.discharging && decide (k.dischAt + ms 10 ≤ s.clk.now) then s.supplyEnd b else s
  if s1.bankUp b && k.tripped then s1
  else if s1.bankUp b && s1.hasConsumer b then
    (if k.supplyOn then s1.modBank b (fun k => { k with setPt := k.nextSet }) else s1.supplyOn b)
  else s1.supplyOff b

/-! ## Power-up and faults (R105) -/

/-- The transformer of bank `b` is enabled. -/
def State.bankPowerUp (s : State) (b : Nat) : State :=
  if (s.bank b).power ≠ .off ∨ s.pwr.state ≠ .starting ∨ s.pwr.stage ≠ .restored then s
  else
    s.modBank b (fun k =>
      { ({} : BankSt) with power := .starting, since := s.clk.now, lastUp := s.clk.now, lastDown := s.clk.now,
                           lastBlock := s.clk.now, pb := k.pb, house := k.house, lands := k.lands,
                           discharging := k.discharging, dischAt := k.dischAt, insul := { hullRef := s.hullDeclared b } })

/-- The front ends of a tested bank start at the first tick 5 ms or more after the enable (Table 04.12). -/
def State.bankStart (s : State) (b : Nat) : State :=
  let k := s.bank b
  if k.power = .tested && decide (k.since + ms 5 ≤ s.clk.now) then
    let s1 := ((s.modBank b (fun k => 
      { k with power := .up, settleTo := s.frame.seq + settleFrames s.frame.profile })).bankSetup b).restartBank b
    (s1.ampSetup b 0).ampSetup b 1
  else s

/-- A bank is powered down: drivers off, supply off, generator open (R105, R119). The insulation record keeps its resistances; its
located channels and fault potential go without an event, and the filter of p_b runs on from the last dissipation (the model's
choice, log entries 148 and 152). -/
def State.bankDown (s : State) (b : Nat) (p : BankPower) : State :=
  let s1 := s.modBank b (fun k =>
    { ({} : BankSt) with power := p, discharging := k.supplyOn || k.discharging,
                         dischAt := if k.supplyOn then s.clk.now else k.dischAt, lands := k.lands, pb := k.pb, house := k.house, lost := k.lost, errLogged := k.errLogged,
                         insul := { ({} : InsulSt) with rBank := k.insul.rBank, cBank := k.insul.cBank, rCh := k.insul.rCh,
                                                         count := k.insul.count, hullRef := k.insul.hullRef,
                                                         hullOpen := k.insul.hullOpen } })
  let s2 := s1.each 8 (fun s j =>
    let n := 8 * b + j
    (s.modOut n (fun o => { ({} : OutSt) with setPoint := o.setPoint })).modChan n (fun c =>
      { c with brk := .none, okSince := none, ovl := none, ovlNew := none, biasOpen := false, biasShort := false, restart := false }))
  s2.fskAbort b (fun _ => true)

/-- A cause of failure is present: 1 the self-test of a bank that starts, 2 no alignment within 10 ms of its power-up, 3 no
realignment within 10 ms of `LINK_DOWN` (R105, R123). -/
def State.faultDue (s : State) (b cause : Nat) : Bool :=
  let k := s.bank b
  match cause with
  | 1 => decide (k.power = .starting)
  | 2 => decide (k.power = .starting) && decide (k.since + ms 10 ≤ s.clk.now)
  | _ => held k.downSince s.clk.now (ms 10)

/-- A bank fails (R105, R123). -/
def State.bankFault (s : State) (b cause : Nat) : State :=
  if !(s.bank b).powered || !s.faultDue b cause then s
  else (s.bankDown b .failed).logBank b 0x0301 6 cause 0

/-! ## Links (R122, R123, R13) -/

/-- CRC-16 of link groups (Table 05.2). -/
def linkCrc (seq : Nat) (body : List Byte) : Nat := crc16 (le8 seq ++ body)

/-- Lost upstream frames are counted, and the bits of the last valid frame stand in the place of each (R123); `LINK_ERR` at
most once a minute (Table 05.4). -/
def State.linkLost (s : State) (b n : Nat) : State :=
  let s0 := (List.range n).foldl (fun s _ => s.frameIn b (s.bank b).lastBits) s
  let s1 := s0.modBank b (fun k => { k with lost := k.lost + n, lostAt := (List.replicate n s.clk.now ++ k.lostAt).take 2 })
  let k := s1.bank b
  let quiet := match k.errLogged with | some t => decide (s.clk.now < t + secs 60) | none => false
  if quiet then s1
  else (s1.modBank b (fun k => { k with lost := 0, errLogged := some s.clk.now })).logBank b 0x0302 4 k.lost 0

/-- An upstream link frame (R123); the links stop with the clock (R17). One with an error, a sequence gap or a bad CRC is discarded; the frames that a gap leaves out
are lost with it. -/
def State.upFrame (s : State) (b : Nat) (f : UpFrame) : State :=
  let k := s.bank b
  if !k.powered || s.rst.clockLoss.isSome then s
  else
    let next := (k.upSeq + 1) % 256
    if f.err || f.crc ≠ linkCrc f.seq f.body then (s.modBank b (fun k => { k with upSeq := next })).linkLost b 1
    else if f.seq % 256 ≠ next then
      (s.modBank b (fun k => { k with upSeq := f.seq % 256 })).linkLost b ((f.seq + 256 - next) % 256 + 1)
    else
      (s.modBank b (fun k => { k with upSeq := next, lastUp := s.clk.now, lastBits := f.body, house := f.house.getD k.house })).frameIn
        b f.body

/-- A downstream link frame at the bank. A block counts as new when it is complete, every frame that carried it was valid and its
sequence differs from that of the last (R122); none comes once the clock is lost (R17), and no block from halted frame
processors (R441). After a frame that is not valid the next sequence is taken from it (the model's choice, log entry 151). -/
def State.downFrame (s : State) (b : Nat) (f : DownFrame) : State :=
  let k := s.bank b
  if !k.powered || s.rst.clockLoss.isSome then s
  else
    let ok := !f.err && f.seq = (k.downSeq + 1) % 256 && f.crc = linkCrc f.seq f.body
    s.modBank b (fun k =>
      let k1 := { k with downSeq := f.seq % 256 }
      if ok then
        let k2 := { k1 with lastDown := s.clk.now, tripped := k1.tripped && !f.reconfig, blockOpen := k1.blockOpen || f.begins }
        match f.block with
        | some q =>
          if k2.blockOpen && q % 65536 ≠ k2.blockSeq && !s.frameHalted then { k2 with lastBlock := s.clk.now, blockSeq := q % 65536, blockOpen := false }
          else { k2 with blockOpen := false }
        | none => k2
      else { k1 with blockOpen := false })

/-- The link watchdog's conditions (R13). -/
def State.watchdogDue (s : State) (b : Nat) : Bool :=
  let k := s.bank b
  k.powered && (decide (k.lastDown + ms 2 ≤ s.clk.now) ||
    decide (k.lastBlock + 2 * periodOf s.frame.profile + ms 2 ≤ s.clk.now))

/-- The watchdog acts: every output of the bank takes its safe action, HOLD_LAST holds, FSK stops (R13). -/
def State.watchdogTrip (s : State) (b : Nat) : State :=
  let s1 := s.modBank b (fun k => { k with tripped := true })
  let s2 := s1.each 8 (fun s j =>
    let n := 8 * b + j
    if (s.out n).drive.working && !(s.out n).drive.ramping then s.outToSafe n .safe else s)
  s2.fskAbort b (fun _ => true)

/-! ## Lands (R107) -/

/-- Channels whose function uses land `l` of bank `b`: its own, and those that name it as partner; sense lands serve
the bridge. -/
def State.landUsers (s : State) (b l : Nat) : List Nat :=
  if 16 ≤ l then (List.range 64).filter (fun n => decide (n / 8 = b) && decide (s.func n = 9))
  else
    let m := 8 * b + l / 2
    (List.range 64).filter (fun n => decide (n = m) || decide (s.partnerOf n = some m))

/-- A land goes beyond its range. -/
def State.landBeyond (s : State) (b l : Nat) (above : Bool) : State :=
  if ((s.bank b).lands.getD l {}).beyond then s
  else
    let s1 := s.modBank b (fun k => { k with lands := modAt k.lands l (fun _ => { beyond := true, above }) })
    let n := 8 * b + l / 2
    let s1 := if s1.bankUp b then s1.bankSetup b else s1
    let s2 := if l < 16 then s1.logChan n 0x0305 5 (l % 2) (bit above) else s1.logBank b 0x0305 5 (l - 14) (bit above)
    if l < 16 && isOut (s.func n) then
      (s2.modOut n (fun o => if o.drive.working && !o.drive.ramping then { o with drive := .landOff } else o)).fskAbort b
        (fun c => decide (c = n))
    else if l < 16 then s2.fskAbort b (fun c => decide (c = n))
    else s2

/-- A land is found back in range: the functions that use it resume at the next tick, where `bankSetup` connects their sources. -/
def State.landBack (s : State) (b l : Nat) : State :=
  if !((s.bank b).lands.getD l {}).beyond then s
  else
    (s.landUsers b l).foldl (fun s n => if isInput (s.func n) then s.restartChan n else s)
      (s.modBank b (fun k => { k with lands := modAt k.lands l (fun _ => {}) }))

/-! ## Rows -/

/-- `BANK_POWER_UP` (R105). -/
def execBankPowerUp (t bank : Nat) (s : State) : Host.Outcome State Fault Refusal :=
  guardUnit (decide (bank < 8)) ((s.advance t).bankPowerUp bank)
/-- `BANK_SELF_TEST` (R105): self-test passed, configuration received. -/
def execBankSelfTest (t bank : Nat) (s : State) : Host.Outcome State Fault Refusal :=
  let s1 := s.advance t
  guardUnit (decide (bank < 8)) (s1.modBank bank (fun k =>
    if k.power = .starting then { k with power := .tested, aligned := true, lastUp := s1.clk.now } else k))
/-- `BANK_FAULT` (R105, R123). -/
def execBankFault (t bank cause : Nat) (s : State) : Host.Outcome State Fault Refusal :=
  guardUnit (decide (bank < 8)) ((s.advance t).bankFault bank cause)
/-- `LINK_WATCHDOG` (R13). -/
def execLinkWatchdog (t bank : Nat) (s : State) : Host.Outcome State Fault Refusal :=
  let s1 := s.advance t
  guardUnit (decide (bank < 8)) (if s1.watchdogDue bank then s1.watchdogTrip bank else s1)
/-- `DOWNSTREAM_LINK_FRAME` (R122). -/
def execDownstreamLinkFrame (t bank : Nat) (f : DownFrame) (s : State) : Host.Outcome State Fault Refusal :=
  guardUnit (decide (bank < 8)) ((s.advance t).downFrame bank f)
/-- `UPSTREAM_LINK_FRAME` (R123). -/
def execUpstreamLinkFrame (t bank : Nat) (f : UpFrame) (s : State) : Host.Outcome State Fault Refusal :=
  guardUnit (decide (bank < 8)) ((s.advance t).upFrame bank f)

/-- `LINK_DOWN` (Table 05.4): no valid frame for 100 µs. -/
def execLinkDown (t bank : Nat) (s : State) : Host.Outcome State Fault Refusal :=
  let s1 := s.advance t
  guardUnit (decide (bank < 8))
    (if (s1.bank bank).power = .up && (s1.bank bank).aligned && decide ((s1.bank bank).lastUp + us 100 ≤ s1.clk.now) then
      (s1.modBank bank (fun k => { k with aligned := false, downSince := some s1.clk.now })).logBank bank 0x0303 6 0 0
     else s1)
/-- `LINK_UP` (Table 05.4): realigned within 10 ms. -/
def execLinkUp (t bank : Nat) (s : State) : Host.Outcome State Fault Refusal :=
  let s1 := s.advance t
  guardUnit (decide (bank < 8)) (match (s1.bank bank).downSince with
    | some d => if d + ms 10 < s1.clk.now then s1 else
      ((s1.modBank bank (fun k => { k with aligned := true, downSince := none, lastUp := s1.clk.now, lostAt := [] })).restartBank
        bank).logBank bank 0x0304 4 ((s1.clk.now - d) / 1000) 0
    | none => s1)

/-- `MISWIRE` (R107); lands 0–15 are the channel lands, 16 and 17 the sense pair. -/
def execMiswire (t bank land : Nat) (above : Bool) (s : State) : Host.Outcome State Fault Refusal :=
  guardUnit (decide (bank < 8) && decide (land < 18)) ((s.advance t).landBeyond bank land above)
/-- `LAND_RETURN_CHECK` (R107). -/
def execLandReturnCheck (t bank land : Nat) (s : State) : Host.Outcome State Fault Refusal :=
  guardUnit (decide (bank < 8) && decide (land < 18)) ((s.advance t).landBack bank land)

/-- `VEX_SENSE_FAULT` (R97, R98). -/
def execVexSenseFault (t bank : Nat) (s : State) : Host.Outcome State Fault Refusal :=
  guardUnit (decide (bank < 8)) ((s.advance t).modBank bank (fun k => if k.vex.isSome then { k with vexFault := true } else k))
/-- `VEX_SENSE_RETURN` (R97): the filter of the bridge restarts. -/
def execVexSenseReturn (t bank : Nat) (s : State) : Host.Outcome State Fault Refusal :=
  let s1 := s.advance t
  guardUnit (decide (bank < 8)) (match (s1.bank bank).vexFault, (s1.bank bank).vex with
    | true, some (n, _) => (s1.modBank bank (fun k => { k with vexFault := false })).restartChan n
    | _, _ => s1)

/-- Resets of an amplifier within the last second. -/
def AmpSt.recent (a : AmpSt) (now : Nat) : List Nat := a.resets.filter (fun t => decide (now < t + secs 1))

/-- An overload of a measuring amplifier (R100, R101). -/
def State.ampOverload (s : State) (ch : Nat) (pos : Bool) : State :=
  let (b, i) := ampOf ch
  let a := s.amp b i
  if a.state ≠ .measuring then s
  else
    let l := a.recent s.clk.now ++ [s.clk.now]
    if 4 ≤ l.length then
      (s.modAmp b i (fun a => { a with resets := [], positive := pos, state := .holding (s.clk.now + secs 1) })).logChan ch
        0x0306 5 (bit pos) 0
    else (s.modAmp b i (fun a => { a with resets := l, positive := pos })).ampReset b i

/-- A channel with a charge amplifier. -/
def hasAmp (ch : Nat) : Bool := decide (ch < 64) && decide (6 ≤ ch % 8)

/-- `CHARGE_AMP_OVERLOAD` (R100, R101). -/
def execChargeAmpOverload (t ch : Nat) (positive : Bool) (s : State) : Host.Outcome State Fault Refusal :=
  guardUnit (hasAmp ch) ((s.advance t).ampOverload ch positive)
/-- The overload hold of an amplifier ends (R101). -/
def State.holdEnd (s : State) (ch : Nat) : State :=
  match (s.amp (ampOf ch).1 (ampOf ch).2).state with
  | .holding _ => s.ampEnd (ampOf ch).1 (ampOf ch).2
  | _ => s
/-- The reset of an amplifier ends (R100). -/
def State.resetEnd (s : State) (ch : Nat) : State :=
  match (s.amp (ampOf ch).1 (ampOf ch).2).state with
  | .resetting _ => s.ampEnd (ampOf ch).1 (ampOf ch).2
  | _ => s
/-- `OVERLOAD_HOLD_END` (R101). -/
def execOverloadHoldEnd (t ch : Nat) (s : State) : Host.Outcome State Fault Refusal :=
  guardUnit (hasAmp ch) ((s.advance t).holdEnd ch)
/-- `CHARGE_RESET_END` (R100); a pending enable starts at the next tick. -/
def execChargeResetEnd (t ch : Nat) (s : State) : Host.Outcome State Fault Refusal :=
  guardUnit (hasAmp ch) ((s.advance t).resetEnd ch)

/-- `IEPE_BIAS_FAULT` (R102): bias 0 in range, 1 open, 2 shorted, held for 10 ms. -/
def execIepeBiasFault (t ch bias : Nat) (s : State) : Host.Outcome State Fault Refusal :=
  let s1 := s.advance t
  let s2 := s1.modChan ch (fun c => { c with biasOpen := decide (bias = 1), biasShort := decide (bias = 2) })
  guardUnit (hasAmp ch)
    (if s1.func ch ≠ 11 then s1 else if (s1.chan ch).biasOpen && bias != 1 then s2.restartChan ch else s2)

/-- `BANK_POWER_LIMIT` (R90): the field load reaches 1.5 W, or falls below it. -/
def execBankPowerLimit (t bank : Nat) (on : Bool) (s : State) : Host.Outcome State Fault Refusal :=
  guardUnit (decide (bank < 8)) ((s.advance t).modBank bank (fun k => { k with limit := on && k.supplyOn }))
/-- `SUPPLY_DISCHARGE_END` (R91). -/
def execSupplyDischargeEnd (t bank : Nat) (s : State) : Host.Outcome State Fault Refusal :=
  guardUnit (decide (bank < 8)) ((s.advance t).supplyEnd bank)
/-- A tick 22 ms from now opens a frame whose sequence modulo 8 is `b` (Table 05.6): the tick nearest to that instant does. -/
def State.burstDue (s : State) (b : Nat) : Bool :=
  let p := periodOf s.frame.profile
  let at_ := s.clk.now + ms 22
  s.frame.running && decide (s.frame.nextTick ≤ at_ + p / 2) &&
    decide ((s.frame.seq + (at_ + p / 2 - s.frame.nextTick) / p) % 8 = b)

/-- `ECONOMY_BURST` (R126): the front ends of a bank are powered for its burst, 22 ms before its tick. -/
def execEconomyBurst (t bank : Nat) (s : State) : Host.Outcome State Fault Refusal :=
  let s1 := s.advance t
  guardUnit (decide (bank < 8)) (if s1.frame.profile = 3 && (s1.bank bank).power = .up && s1.burstDue bank then
    (s1.modBank bank (fun k => { k with burstAt := some s1.clk.now })).each 8 (fun s k =>
      s.modChan (8 * bank + k) (fun c => { c with filt := { c.filt with xs := [], fresh := 0 } })) else s1)

end Sys2Proof.Machine
end

