-- ==== Sys2Proof/Machine/Weirs.lean ====
section
/-!
DEFINITION. Blend slots and weirs as the frame evaluates them (steps 3 and 4 of Table 01.3), the WEIR opcodes and the
events of chapter 08.
-/

namespace Sys2Proof.Machine

open Sys2Proof

/-! ## Step 3 -/

/-- Blend slot `b` changed. -/
def State.modBlend (s : State) (b : Nat) (f : BlendSt → BlendSt) : State :=
  { s with eng := { s.eng with blends := modAt s.eng.blends b f } }

/-- The command that asks slot `b` to return its total to zero in this frame. -/
def State.totalCmd (s : State) (b : Nat) : Option LiveCmd :=
  s.live.find? (fun c => c.applied.isNone && decide (c.kind = .totalReset b))

/-- Slot `b` is evaluated (R214 to R218); a `TOTAL` that returns to zero is logged and answered. -/
def State.evalSlot (s : State) (b : Nat) : State :=
  let c := s.blendCfgOf b
  let xs := c.srcs.map (fun k => s.source k.1 k.2)
  let cmd := s.totalCmd b
  let live := match cmd with | some k => decide (k.role = s.cfg.roles.get .blend b) | none => false
  let (b1, reached) := evalBlend c xs s.frame.captFlow live (s.eng.blends.getD b {})
  let s1 := s.modBlend b (fun _ => b1)
  let s2 := match reached with
    | some y => s1.frameEv 0x040A 3 3 b (s.cfg.roles.get .blend b) y.toNat (bit live)
    | none => s1
  match cmd with
  | some k => s2.answerLive k (if live then 0 else 255) (match reached with | some y => leF32 y | none => leF32 0)
  | none => s2

/-- Step 3: the slots in ascending order, each seeing the present value of lower slots (R11). -/
def State.evalSlots (s : State) : State := (List.range 256).foldl State.evalSlot s

/-! ## Step 4 -/

/-- Weir `w` changed. -/
def State.modWeir (s : State) (w : Nat) (f : WeirSt → WeirSt) : State :=
  { s with eng := { s.eng with weirs := modAt s.eng.weirs w f } }

/-- What the crossing time of a weir needs (R224). -/
def State.crossIn (s : State) (c : WeirCfg) : CrossIn :=
  { profile := s.frame.profile, captBase := s.frame.captBase, tq := s.frame.captTs % 16
    stream := if c.kind = 1 then
        (match (s.chans.getD c.index {}).stream with | [] => none | l => some l) else none }

/-- Weir `w` is evaluated, if it is enabled (R220 to R226). -/
def State.evalWeirAt (s : State) (w : Nat) : State :=
  let c := s.weirCfgOf w
  if c.enable then
    s.modWeir w (fun x =>
      let (y, ev) := evalWeir c (s.source c.kind c.index) s.frame.captFlow (s.crossIn c) x
      { y with condNew := (x.condNew && y.cond) || ev.condSet })
  else s

/-- Step 4: the weirs in ascending order. -/
def State.evalWeirs (s : State) : State := (List.range 1024).foldl State.evalWeirAt s

/-! ## Step 5: the weir transitions -/

/-- A record of weir `w` enters the frame (R237). -/
def State.weirLog (s : State) (w : Nat) (l : WeirLog) : State :=
  s.frameEvAt (if l.atCross then (s.weir w).cross else s.frame.captTs) l.code l.sev 4 w (s.cfg.roles.get .weir w)
    l.p1 l.p2 (if l.flag then 4 else 0)

/-- A role epoch that a live command carries no longer stands. -/
def State.liveStale (s : State) (c : LiveCmd) : Bool :=
  match c.kind with
  | .weirAck w => c.role != s.cfg.roles.get .weir w
  | .weirShelve w _ => c.role != s.cfg.roles.get .weir w
  | .weirService w _ => c.role != s.cfg.roles.get .weir w
  | .groupAck g => c.role != s.cfg.roles.get .group g
  | _ => false

/-- An acknowledgement of this frame: the live command it comes from, its origin, and the weir or group it names. -/
structure AckSrc where
  cmd : Option LiveCmd
  origin : Nat
  weir : Option Nat
  group : Option Nat
deriving DecidableEq, Repr

/-- The acknowledgement a live command makes. -/
def liveAck (c : LiveCmd) : Option AckSrc :=
  match c.kind with
  | .weirAck w => some ⟨some c, c.origin, some w, none⟩
  | .groupAck g => some ⟨some c, c.origin, none, some g⟩
  | _ => none

/-- It names the weir, or the weir's group. -/
def AckSrc.names (a : AckSrc) (w : Nat) (c : WeirCfg) : Bool :=
  decide (a.weir = some w) || (c.enable && decide (a.group = some c.group))

/-- Service and shelve commands of weir `w` in the order in which they were taken. -/
def weirCmdsOf (w : Nat) (live : List LiveCmd) (acks : List AckSrc) : WeirCmds :=
  { service := live.filterMap (fun c => match c.kind with
      | .weirService v out => if v = w then some (out, c.origin) else none | _ => none)
    shelve := live.filterMap (fun c => match c.kind with
      | .weirShelve v d => if v = w then some (d, c.origin) else none | _ => none)
    acks := acks.map (fun a => a.origin) }

/-- Step 5 for weir `w` (R229); `hits` gathers the commands whose acknowledgement found something. -/
def State.stepWeirAt (live : List LiveCmd) (acks : List AckSrc) (p : State × List (Option LiveCmd)) (w : Nat) :
    State × List (Option LiveCmd) :=
  let s := p.1
  let c := s.weirCfgOf w
  let as_ := acks.filter (fun a => a.names w c)
  let supp := decide (c.group < 128) && decide ((s.eng.groups.getD c.group {}).supp ≠ .running)
  let ((x, logs), r) := weirStep5 c (weirCmdsOf w live as_) supp s.frame.captFlow (s.prev.weirs.getD w {}).state (s.weir w)
  (logs.foldl (fun s l => s.weirLog w l) (s.modWeir w (fun _ => x)),
   p.2 ++ ((as_.zip r).filter (fun y => y.2)).map (fun y => y.1.cmd))

/-- The weir transitions of step 5, with the acknowledgements in the order of R246. -/
def State.stepWeirs (s : State) (live : List LiveCmd) (acks : List AckSrc) : State × List (Option LiveCmd) :=
  (List.range 1024).foldl (State.stepWeirAt live acks) (s, [])

/-! ## Opcodes (Table 08.17) -/

/-- A WEIR command of a weir that is not enabled is refused, else it joins the live commands (R239). -/
def State.weirLive (s : State) (f : Flight) (k : LiveKind) : State :=
  if !(s.weirCfgOf f.unit).enable then s.refuse f (.badField, 8, []) else s.addLive k f

/-- `WEIR_ACK` (R230). -/
def execWeirAck (t tag : Nat) (s : State) : Host.Outcome State Fault Refusal :=
  .next (s.withCur t tag 0x0403 (fun f s => s.weirLive f (.weirAck f.unit)))

/-- `WEIR_SHELVE` (R231, R239). -/
def execWeirShelve (t tag : Nat) (s : State) : Host.Outcome State Fault Refusal :=
  .next (s.withCur t tag 0x0404 (fun f s =>
    let c := s.weirCfgOf f.unit
    if c.enable && decide (c.shelfLimit < u32At f.req 16) then s.refuse f (.badField, 16, [])
    else s.weirLive f (.weirShelve f.unit (u32At f.req 16))))

/-- `WEIR_SERVICE` (R239). -/
def execWeirService (t tag : Nat) (s : State) : Host.Outcome State Fault Refusal :=
  .next (s.withCur t tag 0x0405 (fun f s => s.weirLive f (.weirService f.unit (decide (byteAt f.req 16 = 1)))))

/-- `WEIR_STATUS` (R238): the weir as the last published frame left it; the shelve time left in whole seconds, rounded
up. -/
def State.weirStatus (s : State) (f : Flight) : State :=
  let w := s.prev.weirs.getD f.unit {}
  let left := match w.shelf with | some e => (e - s.clk.flow + 999999999) / 1000000000 | none => 0
  s.ok f (w.bytes (s.weirCfgOf f.unit) (s.cfg.roles.get .weir f.unit) ++ le64 w.cross ++ le32 left ++ le8 (bit w.raw) ++
    le8 w.srcQ.code ++ le16 0 ++ leF32 w.srcV)

/-- `WEIR_STATUS` (R238). -/
def execWeirStatus (t tag : Nat) (s : State) : Host.Outcome State Fault Refusal :=
  .next (s.withCur t tag 0x0408 (fun f s => s.weirStatus f))

/-- `BLEND_TOTAL_RESET` (R239). -/
def execBlendTotalReset (t tag : Nat) (s : State) : Host.Outcome State Fault Refusal :=
  .next (s.withCur t tag 0x0409 (fun f s =>
    if (s.blendCfgOf f.unit).op ≠ 15 then s.refuse f (.badField, 8, []) else s.addLive (.totalReset f.unit) f))

/-! ## Events of the frame about to be captured -/

/-- The delay of weir `w` runs out in the frame about to be captured: CONDITION takes the raw condition (R221). -/
def State.weirElapse (s : State) (w : Nat) : State :=
  let c := s.weirCfgOf w
  s.modWeir w (fun x =>
    if c.enable && x.running && decide ((if x.raw then c.nOn else c.nOff) ≤ x.elapsed + 1) then
      (let y := { x with cond := x.raw, running := false, elapsed := 0, condNew := x.condNew || (x.raw && !x.cond) }
       if x.raw && !x.cond then y.activated else y)
    else x)

/-- `WEIR_DELAY_ELAPSED` (R221). -/
def execWeirDelayElapsed (t weir : Nat) (s : State) : Host.Outcome State Fault Refusal :=
  guardUnit (decide (weir < 1024))
    (let s1 := s.toFrame t; if s1.frame.nextTick ≤ s1.clk.now then s1.weirElapse weir else s1)

/-- A source SUSPECT for more than 256 evaluated frames is failed (R223). -/
def State.weirSuspect (s : State) (w : Nat) : State :=
  let c := s.weirCfgOf w
  s.modWeir w (fun x =>
    if c.enable && decide (256 ≤ x.suspects) && !x.failed then
      { x with raw := false, cond := false, running := false, elapsed := 0, ring := [], count := 0, usable := false,
               failed := true, frozen := false, suspects := 257 }
    else x)

/-- `SUSPECT_LIMIT` (R223). -/
def execSuspectLimit (t weir : Nat) (s : State) : Host.Outcome State Fault Refusal :=
  guardUnit (decide (weir < 1024)) ((s.toFrame t).weirSuspect weir)

/-- The shelve of weir `w` ends (R231). -/
def State.weirUnshelve (s : State) (w : Nat) : State :=
  let (x, logs) := expireShelf s.frame.captFlow (s.weir w, [])
  logs.foldl (fun s l => s.weirLog w l) (s.modWeir w (fun _ => x))

/-- `WEIR_UNSHELVED` (R231). -/
def execWeirUnshelved (t weir : Nat) (s : State) : Host.Outcome State Fault Refusal :=
  guardUnit (decide (weir < 1024)) ((s.toFrame t).weirUnshelve weir)

/-- `HISTORY_STEP_CLOSE` (R218, R222): the full step of a blend slot or of a rate weir closes. -/
def execHistoryStepClose (t : Nat) (ofWeir : Bool) (idx : Nat) (s : State) : Host.Outcome State Fault Refusal :=
  let s1 := s.advance t
  guardUnit (if ofWeir then decide (idx < 1024) else decide (idx < 256))
    (if ofWeir then s1.modWeir idx (fun w => w.closeStep (s1.weirCfgOf idx).step)
     else s1.modBlend idx (fun b => closeStep (s1.blendCfgOf idx).op (s1.blendCfgOf idx).step b))

end Sys2Proof.Machine
end

