-- ==== Sys2Proof/Machine/Groups.lean ====
section
/-!
DEFINITION. Alarm groups (R242 to R247): suppression, acknowledgement, aggregate state and record.
-/

namespace Sys2Proof.Machine

open Sys2Proof

/-- One group entry (Table 09.1). -/
structure GroupCfg where
  stoppedHigh : Bool := false
  exclCaution : Bool := false
  failHold : Bool := false
  kind : Nat := 0
  chain : Nat := 0xFF
  index : Nat := 0
  /-- release delay, ns -/
  release : Nat := 0
  thr : F32 := 0
  cats : Nat := 0
  button : Nat := 0xFF
deriving DecidableEq, Repr

/-- The entry at address `a`. -/
def groupCfg (m : Mem) (a : Nat) : GroupCfg :=
  let o := m.u8 (a + 1)
  { stoppedHigh := tst o 0, exclCaution := tst o 1, failHold := tst o 2, kind := m.u8 (a + 2), chain := m.u8 (a + 3)
    index := m.u16 (a + 4), release := m.u16 (a + 6) * 100000000, thr := m.f32 (a + 8), cats := m.u8 (a + 12)
    button := m.u8 (a + 13) }

/-- Group entry in force; a group with no entry has no source, chain or button. -/
def State.groupCfgOf (s : State) (g : Nat) : GroupCfg :=
  match imgEntry s.cfg.img 0x30 g with | some a => groupCfg s.cfg.img a | none => {}

/-- Group `g`. -/
def State.group (s : State) (g : Nat) : GroupSt := s.eng.groups.getD g {}

/-- Group `g` changed. -/
def State.modGroup (s : State) (g : Nat) (f : GroupSt → GroupSt) : State :=
  { s with eng := { s.eng with groups := modAt s.eng.groups g f } }

/-! ## Suppression (R243) -/

/-- The release timer of a group elapses (Table 09.2). -/
def releaseStep (now : Nat) (g : GroupSt) : GroupSt × List Nat :=
  match g.supp with
  | .releasing u => if u ≤ now then ({ g with supp := .running }, [0x0502]) else (g, [])
  | _ => (g, [])

/-- Table 09.2 at one capture, with the codes of the events it logs. -/
def suppStep (c : GroupCfg) (x : Src) (now : Nat) (g : GroupSt) : GroupSt × List Nat :=
  if x.2.failed then
    if c.failHold then ({ g with faultLogged := true }, if g.faultLogged then [] else [0x0503])
    else if g.supp = .running then (g, []) else ({ g with supp := .running }, [0x0503])
  else
    let g0 := { g with faultLogged := false }
    let stopped := if c.stoppedHigh then c.thr.le x.1 else x.1.lt c.thr
    let (g1, e1) : GroupSt × List Nat :=
      if x.2.usable then
        match g0.supp, stopped with
        | .running, true => ({ g0 with supp := .suppressing }, [0x0501])
        | .releasing _, true => ({ g0 with supp := .suppressing }, [])
        | .suppressing, false => ({ g0 with supp := .releasing (now + c.release) }, [])
        | _, _ => (g0, [])
      else (g0, [])
    let (g2, e2) := releaseStep now g1
    (g2, e1 ++ e2)

/-- Events of a group's suppression, with source quality and value (Table 09.16). -/
def State.groupEvs (s : State) (g : Nat) (x : Src) (codes : List Nat) : State :=
  codes.foldl (fun s c => s.frameEv c 3 5 g (s.cfg.roles.get .group g) x.2.code x.1.toNat) s

/-- Suppression of group `g` in this frame; a group without a source stays `RUNNING`. -/
def State.suppress (s : State) (g : Nat) : State :=
  let c := s.groupCfgOf g
  if c.kind = 0 then s
  else
    let x := s.source c.kind c.index
    let (g1, ev) := suppStep c x s.frame.captFlow (s.group g)
    (s.modGroup g (fun _ => g1)).groupEvs g x ev

/-- Step 5, part 1 (R240). -/
def State.suppressAll (s : State) : State := (List.range 128).foldl State.suppress s

/-! ## Acknowledgement (R246, R247) -/

/-- DI `i` as a button at this capture: it stands at 1.0 with usable quality, and at the capture before it stood at 0.0
with usable quality. -/
def State.diEdge (s : State) (i : Nat) : Bool :=
  let d := s.di i
  let b := s.eng.buttons.getD i {}
  d.q.usable && d.val && b.usable && !b.last

/-- Groups that name DI `i` as their acknowledge button. -/
def State.buttonGroups (s : State) (i : Nat) : List Nat :=
  (List.range 128).filter (fun g => decide ((s.groupCfgOf g).button = i))

/-- Acknowledgements of this frame in the order of R246: culverts as taken, bus messages as received, DI edges in
ascending index. -/
def State.ackSrcs (s : State) (live : List LiveCmd) : List AckSrc :=
  (live.filter (fun c => c.fl.isSome)).filterMap liveAck ++ (live.filter (fun c => c.fl.isNone)).filterMap liveAck ++
    ((List.range 16).filter (fun i => s.diEdge i && !(s.eng.buttons.getD i {}).stuck)).flatMap (fun i =>
      (s.buttonGroups i).map (fun g => ⟨none, 0x43, none, some g⟩))

/-- A button that has stood at 1.0 for more than 60 s is logged once (R247). -/
def State.buttonStuck (s : State) (i : Nat) : State :=
  let b := s.eng.buttons.getD i {}
  match b.high with
  | some since =>
    if !b.stuck && decide (since + secs 60 < s.frame.captFlow) && !(s.buttonGroups i).isEmpty then
      ({ s with eng := { s.eng with buttons := modAt s.eng.buttons i (fun b => { b with stuck := true }) } }).frameEv
        0x0504 5 13 i (s.cfg.roles.get .di i) 0 0
    else s
  | none => s

/-- What the edge rules keep of DI `i` after this capture (R247, R261). -/
def State.buttonKeep (s : State) (i : Nat) : State :=
  let d := s.di i
  let on := d.q.usable && d.val
  ({ s with eng := { s.eng with buttons := modAt s.eng.buttons i (fun b =>
      { last := d.val, usable := d.q.usable
        high := if on then some (b.high.getD s.frame.captFlow) else none
        stuck := b.stuck && !(d.q.usable && !d.val) }) } }).buttonStuck i

/-! ## Aggregation (R244, R245) -/

/-- Rank of a member state (Table 09.3). -/
def WState.rank : WState → Nat
  | .activeUnack => 1 | .rtnUnack => 2 | .sourceFault => 3 | .activeAck => 4 | .suppressed => 5 | .shelved => 6
  | .outOfService => 7 | .normal => 8

/-- Enabled weirs with their entries. -/
def State.weirList (s : State) : List (Nat × WeirCfg) :=
  ((List.range 1024).map (fun w => (w, s.weirCfgOf w))).filter (fun x => x.2.enable)

/-- Members of group `g` (R242). -/
def State.members (s : State) (g : Nat) : List (Nat × WeirCfg) := s.weirList.filter (fun x => decide (x.2.group = g))

/-- Order of the leading member: rank, category, priority, index; one number that is lower for the more leading. -/
def leadKey (st : WState) (catPrio w : Nat) : Nat := ((st.rank * 4 + catPrio / 64) * 16 + catPrio % 16) * 1024 + w

/-- The member that leads. -/
def leader (key : Nat × WeirCfg → Nat) : List (Nat × WeirCfg) → Option (Nat × WeirCfg)
  | [] => none
  | x :: r => match leader key r with | none => some x | some y => if key x ≤ key y then some x else some y

/-- A weir state that masks. -/
def WState.masked : WState → Bool
  | .shelved => true | .suppressed => true | .outOfService => true | _ => false

/-- Group `g` aggregates its members. -/
def State.aggregate (s : State) (g : Nat) : State :=
  let c := s.groupCfgOf g
  let ms := (s.members g).filter (fun x => !(c.exclCaution && decide (x.2.catPrio / 64 = 3)))
  let st (x : Nat × WeirCfg) : WeirSt := s.weir x.1
  let cnt (p : WeirSt → Bool) : Nat := min 255 ((ms.filter (fun x => p (st x))).length)
  let ld := leader (fun x => leadKey (st x).state x.2.catPrio x.1) ms
  let agg := match ld with | some x => (st x).state.code | none => 0
  let old := s.prev.groups.getD g {}
  let kindOf (p : SuppState) : Nat := match p with | .running => 0 | .suppressing => 1 | .releasing _ => 2
  s.modGroup g (fun x =>
    { x with agg, lead := (match ld with | some y => y.2.catPrio | none => 0)
             unack := cnt (fun w => decide (w.state = .activeUnack) || decide (w.state = .rtnUnack) || w.faultUnack)
             active := cnt (fun w => w.cond), faults := cnt (fun w => decide (w.state = .sourceFault))
             masked := cnt (fun w => w.state.masked)
             changed := decide (agg ≠ old.agg) || decide (kindOf x.supp ≠ kindOf old.supp) })

/-- Step 5, part 3. -/
def State.aggregateAll (s : State) : State := (List.range 128).foldl State.aggregate s

/-- Group state byte (Table 09.5). -/
def GroupSt.stateByte (g : GroupSt) : Nat :=
  bit g.changed * 128 + (match g.supp with | .suppressing => 64 | .releasing _ => 32 | .running => 0) + g.agg

/-- Group record (Table 09.4). -/
def GroupSt.bytes (g : GroupSt) (role : Nat) : List Byte :=
  le8 g.stateByte ++ le8 g.lead ++ le8 g.unack ++ le8 g.active ++ le8 g.faults ++ le8 g.masked ++ le16 role

/-- Times a command appears among the hits of the acknowledgements. -/
def hitCount (c : LiveCmd) (hits : List (Option LiveCmd)) : Nat := (hits.filter (fun h => decide (h = some c))).length

/-- The answer of one weir or group command of this frame (Tables 08.17, 09.17). -/
def State.answerWeirCmd (hits : List (Option LiveCmd)) (s : State) (c : LiveCmd) : State :=
  let n := hitCount c hits
  match c.kind with
  | .weirAck w => s.answerLive c (if n = 0 then 1 else 0) (le8 (s.weir w).stateByte ++ zeros 3)
  | .weirShelve w _ => s.answerLive c 0 (le8 (s.weir w).stateByte ++ zeros 3)
  | .weirService w _ => s.answerLive c 0 (le8 (s.weir w).stateByte ++ zeros 3)
  | .groupAck g => s.answerLive c (if n = 0 then 1 else 0) (le8 (s.group g).stateByte ++ le8 (min 255 n) ++ zeros 2)
  | _ => s

/-- A live command of a weir or a group. -/
def isWeirCmd (c : LiveCmd) : Bool :=
  match c.kind with
  | .weirAck _ => true | .weirShelve _ _ => true | .weirService _ _ => true | .groupAck _ => true | _ => false

/-- Step 5, parts 1 to 3: suppression, weir transitions, aggregation (R240). Commands whose role has changed end first
(R47). -/
def State.alarmStep (s : State) : State :=
  let cmds := s.live.filter (fun c => c.applied.isNone && isWeirCmd c)
  let s0 := (cmds.filter (fun c => s.liveStale c)).foldl (fun s c => s.answerLive c 255 []) s
  let live := cmds.filter (fun c => !s.liveStale c)
  let s1 := s0.suppressAll
  let r := s1.stepWeirs live (s1.ackSrcs live)
  live.foldl (State.answerWeirCmd r.2) r.1.aggregateAll

/-! ## Commands and events -/

/-- `GROUP_ACK` (R246). -/
def execGroupAck (t tag : Nat) (s : State) : Host.Outcome State Fault Refusal :=
  .next (s.withCur t tag 0x0502 (fun f s => s.addLive (.groupAck f.unit) f))

/-- The release timer of group `g` elapses at the capture now due. -/
def State.groupRelease (s : State) (g : Nat) : State :=
  let c := s.groupCfgOf g
  let (g1, ev) := releaseStep s.frame.captFlow (s.group g)
  (s.modGroup g (fun _ => g1)).groupEvs g (s.source c.kind c.index) ev

/-- `GROUP_RELEASED` (R243). -/
def execGroupReleased (t group : Nat) (s : State) : Host.Outcome State Fault Refusal :=
  guardUnit (decide (group < 128)) ((s.toFrame t).groupRelease group)

/-- `ACK_BUTTON_STUCK` (R247). -/
def execAckButtonStuck (t di : Nat) (s : State) : Host.Outcome State Fault Refusal :=
  guardUnit (decide (di < 16)) ((s.toFrame t).buttonStuck di)

end Sys2Proof.Machine
end

