-- ==== Sys2Proof/Machine/FirstOut.lean ====
section
/-!
DEFINITION. First-out sets (R248 to R252): candidates, decision, reset, record, commands and messages.
-/

namespace Sys2Proof.Machine

open Sys2Proof

/-- One first-out entry (Table 09.7). -/
structure FoCfg where
  enable : Bool := false
  network : Bool := false
  autoReset : Bool := false
  home : Nat := 0
  netSet : Nat := 0
  windowMs : Nat := 0
  marginUs : Nat := 0
  autoS : Nat := 0
deriving DecidableEq, Repr

/-- Entry of set `f` in force; a set with no entry is not enabled. -/
def State.foCfgOf (s : State) (f : Nat) : FoCfg :=
  let m := s.cfg.img
  match imgEntry m 0x31 f with
  | some a =>
    let o := m.u8 (a + 1)
    { enable := tst o 0, network := tst o 1, autoReset := tst o 2, home := m.u8 (a + 2), netSet := m.u16 (a + 4)
      windowMs := m.u16 (a + 6), marginUs := m.u16 (a + 8), autoS := m.u16 (a + 10) }
  | none => {}

/-- Set `f`. -/
def State.fo (s : State) (f : Nat) : FoSt := s.eng.fo.getD f {}

/-- Set `f` changed. -/
def State.modFo (s : State) (f : Nat) (g : FoSt → FoSt) : State :=
  { s with eng := { s.eng with fo := modAt s.eng.fo f g } }

/-- This node is the set's home: a local set, or the node named (R248). -/
def State.foHome (s : State) (c : FoCfg) : Bool := !c.network || decide (c.home = s.bus.nodeId)

/-- Order of candidates: crossing time, node, weir (R250). -/
def FoCand.before (a b : FoCand) : Bool :=
  let ka := (tsUs a.ts * 64 + a.node) * 1024 + a.weir
  let kb := (tsUs b.ts * 64 + b.node) * 1024 + b.weir
  decide (ka < kb)

/-- `AMBIGUOUS` for a first and a runner-up: the margin is widened to the larger resolution (R250). -/
def foAmbiguous (margin : Nat) (a b : FoCand) : Bool :=
  decide (tsUs b.ts < tsUs a.ts + max margin (max a.res b.res))

/-- The set with first and runner-up; the window follows the first, moved by every step since the set opened (R24). -/
def FoSt.order (c : FoCfg) (f : FoSt) (a : FoCand) (b : Option FoCand) : FoSt :=
  { f with first := some a, runner := b, windowEnd := moved f.shift (tsUs a.ts * 1000 + ms c.windowMs)
           ambiguous := match b with | some y => foAmbiguous c.marginUs a y | none => false }

/-- The set has this candidate already: the same weir of the same node, with the same crossing time. -/
def FoSt.has (f : FoSt) (x : FoCand) : Bool :=
  f.seen.any (fun k => decide (k.node = x.node) && decide (k.weir = x.weir) && decide (k.ts = x.ts))

/-- A candidate counts. -/
def FoSt.counted (f : FoSt) (x : FoCand) : FoSt :=
  { f with count := satAdd 255 f.count 1, degraded := f.degraded || decide (x.ts % 16 ≠ 0), seen := x :: f.seen }

/-- A candidate reaches a set (Table 09.8); the second answer says that it is late. A further copy of a candidate, as a
network set's message arrives on every bus, is the same candidate and does nothing (log 155, DEDUCED). -/
def foCandidate (c : FoCfg) (home : Bool) (x : FoCand) (f : FoSt) : FoSt × Bool :=
  match f.state, f.first with
  | .open_, some a =>
    if f.has x || decide (f.windowEnd < tsUs x.ts * 1000) then (f, false)
    else
      let g := f.counted x
      if x.before a then (g.order c x (some a), false)
      else
        match f.runner with
        | none => (g.order c a (some x), false)
        | some b => (g.order c a (some (if x.before b then x else b)), false)
  | .decided, some a =>
    if home && !f.has x && decide (tsUs x.ts < tsUs a.ts) then ({ f with late := true, seen := x :: f.seen }, true)
    else (f, false)
  | _, _ => ((({ state := .open_, mismatch := f.mismatch, adopt := f.adopt } : FoSt).counted x).order c x none, false)

/-- State and flags (Table 09.10). -/
def FoSt.flags (f : FoSt) (own : Nat) : Nat :=
  (match f.state with | .idle => 0 | .open_ => 64 | .decided => 128) + bit f.ambiguous * 32 + bit f.degraded * 16 +
    bit f.late * 8 + bit f.homeAbsent * 4 +
    (match f.first with | some a => bit (decide (a.node ≠ own)) * 2 | none => 0)

/-- First-out record (Table 09.9). -/
def FoSt.bytes (f : FoSt) (own : Nat) : List Byte :=
  match f.state, f.first with
  | .idle, _ => zeros 12 ++ le8 0xFF ++ le8 0 ++ le16 0xFFFF
  | _, none => zeros 12 ++ le8 0xFF ++ le8 0 ++ le16 0xFFFF
  | _, some a =>
    le8 (f.flags own) ++ le8 a.node ++ le16 a.weir ++ le64 a.ts ++
      (match f.runner with | some b => le8 b.node | none => le8 0xFF) ++ le8 f.count ++
      (match f.runner with | some b => le16 b.weir | none => le16 0xFFFF)

/-- A record of set `f` about a first (Table 09.16). -/
def State.foEv (s : State) (f code sev node weir count : Nat) : State :=
  s.frameEv code sev 6 f 0xFFFF (node * 65536 + weir) count

/-- The decision of set `f` goes to the other nodes of a network set. -/
def State.foBroadcast (s : State) (f : Nat) : State :=
  let c := s.foCfgOf f
  if c.network then s.frameMsg 15 1 0x09 c.netSet ((s.fo f).bytes s.bus.nodeId) else s

/-- A candidate enters set `f`. -/
def State.foEnter (s : State) (f : Nat) (x : FoCand) : State :=
  let c := s.foCfgOf f
  if !c.enable then s
  else
    let (g, late) := foCandidate c (s.foHome c) x (s.fo f)
    let s1 := s.modFo f (fun _ => g)
    if late then (s1.foEv f 0x0507 5 x.node x.weir g.count).foBroadcast f else s1

/-- The candidate weir `w` makes in this frame (R249). -/
def State.foLocal (s : State) (w : Nat) (c : WeirCfg) : State :=
  let x := s.weir w
  if x.condNew && decide (x.state ≠ .outOfService) && decide (c.foSet < 32) then
    let k : FoCand := { node := s.bus.nodeId, weir := w, role := s.cfg.roles.get .weir w, ts := x.cross
                        res := if x.fine then 1 else periodOf s.frame.profile / 1000 }
    let fc := s.foCfgOf c.foSet
    let s1 := if fc.enable && fc.network then
        s.frameMsg 15 1 0x08 fc.netSet (le16 k.weir ++ le16 k.role ++ le64 k.ts ++ le32 k.res) else s
    s1.foEnter c.foSet k
  else s

/-- Set `f` is decided by its first of now. -/
def FoSt.decide_ (f : FoSt) : FoSt := { f with state := .decided, quiet := none }

/-- The window of set `f` has ended at this node, the home: it decides (R250). -/
def State.foDecide (s : State) (f : Nat) : State :=
  let x := s.fo f
  match x.state, x.first with
  | .open_, some a =>
    if s.foHome (s.foCfgOf f) && decide (x.windowEnd ≤ s.frame.captBase) then
      ((s.modFo f FoSt.decide_).foEv f 0x0506 6 a.node a.weir x.count).foBroadcast f
    else s
  | _, _ => s

/-- No decision of the home node 250 ms after the window: the node decides from what it knows (R250). -/
def State.foAbsent (s : State) (f : Nat) : State :=
  let x := s.fo f
  match x.state, x.first with
  | .open_, some a =>
    if !s.foHome (s.foCfgOf f) && decide (x.windowEnd + ms 250 ≤ s.frame.captBase) then
      (s.modFo f (fun g => { g.decide_ with homeAbsent := true })).foEv f 0x0508 5 a.node a.weir x.count
    else s
  | _, _ => s

/-- The record is cleared and the reset logged (R250). -/
def State.foClear (s : State) (f origin : Nat) : State :=
  (s.modFo f (fun x => { mismatch := x.mismatch })).frameEv 0x050A 3 6 f 0xFFFF origin 0

/-- Grid instant of the capture: ticks lie within 2 µs of the grid (R22, R23). -/
def State.captGrid (s : State) : Nat :=
  let p := periodOf s.frame.profile
  (s.frame.captBase + p / 2) / p * p

/-- A reset whose application time has come applies, at the tick of that grid instant (R251). -/
def State.foResetDue (s : State) (f : Nat) : State :=
  let x := s.fo f
  match x.resetAt with
  | some (at_, origin) =>
    if at_ ≤ s.captGrid then
      (if x.state = .decided then s.foClear f origin else s.modFo f (fun g => { g with resetAt := none }))
    else s
  | none => s

/-- Every member of set `f` is quiet. -/
def State.foQuiet (s : State) (f : Nat) : Bool :=
  (s.weirList.filter (fun x => decide (x.2.foSet = f))).all (fun x =>
    decide ((s.weir x.1).state = .normal) || decide ((s.weir x.1).state = .outOfService))

/-- The auto-reset delay of set `f` runs while every member is quiet, and resets the set at its end (R251). -/
def State.foAuto (s : State) (f : Nat) : State :=
  let c := s.foCfgOf f
  let x := s.fo f
  if c.autoReset && decide (x.state = .decided) then
    if s.foQuiet f then
      let since := x.quiet.getD s.frame.captFlow
      if since + secs c.autoS ≤ s.frame.captFlow then s.foClear f 0x41
      else s.modFo f (fun g => { g with quiet := some since })
    else s.modFo f (fun g => { g with quiet := none })
  else s

/-- A decision received is adopted at this tick; once decided, only the flag of a late candidate follows (R250). -/
def State.foAdopt (s : State) (f : Nat) : State :=
  s.modFo f (fun x =>
    match x.adopt with
    | none => x
    | some d =>
      match x.state with
      | .open_ =>
        { x.decide_ with first := some d.first, runner := d.runner.map (fun r => ⟨r.1, r.2, 0, 0, 0⟩), count := d.count
                         ambiguous := d.ambiguous, degraded := d.degraded, late := d.late, adopt := none }
      | .decided => { x with late := x.late || d.late, adopt := none }
      | .idle => { x with adopt := none })

/-- Reset commands of this frame (R251): on a decided local set the reset applies; in a network set the home node sets
its time and broadcasts it, another node asks the home node. -/
def State.foCommand (s : State) (c : LiveCmd) : State :=
  match c.kind with
  | .foReset f =>
    let k := s.foCfgOf f
    let x := s.fo f
    match x.state with
    | .idle => s.endLive c .ok 1 []
    | .open_ => s.endLive c .busy k.home []
    | .decided =>
      if !k.network then (s.foClear f c.origin).endLive c .ok 0 []
      else if x.resetAt.isSome then s
      else if s.foHome k then
        let at_ := alignUp (ms 4) (s.captGrid + ms 50)
        (s.modFo f (fun g => { g with resetAt := some (at_, c.origin) })).frameMsg 15 1 0x0A k.netSet
          (le64 (tsOf at_ s.timeQuality) ++ le8 c.origin ++ le8 1 ++ le16 0)
      else s
  | _ => s

/-- A network reset that a command of this node waits for has been applied: the set is idle. -/
def State.foAnswer (s : State) (c : LiveCmd) : State :=
  match c.kind with
  | .foReset f => if (s.fo f).state = .idle then s.endLive c .ok 0 [] else s
  | _ => s

/-- Reset commands not yet answered. -/
def State.foCmds (s : State) : List LiveCmd :=
  s.live.filter (fun c => c.applied.isNone && (match c.kind with | .foReset _ => true | _ => false))

/-- Step 5, part 4 (R240): resets, candidates of this node and of others, decisions, automatic resets. -/
def State.foStep (s : State) : State :=
  let s1 := (List.range 32).foldl State.foResetDue s
  let s2 := s1.foCmds.foldl State.foAnswer s1
  let s3 := s2.foCmds.foldl State.foCommand s2
  let s4 := s3.weirList.foldl (fun s x => s.foLocal x.1 x.2) s3
  let s5 := s4.eng.foIn.foldl (fun s x => s.foEnter x.1 x.2) s4
  let s6 := { s5 with eng := { s5.eng with foIn := [], weirs := s5.eng.weirs.map (fun w => { w with condNew := false }) } }
  let s7 := (List.range 32).foldl (fun s f => ((s.foAdopt f).foDecide f).foAbsent f) s6
  (List.range 32).foldl State.foAuto s7

/-! ## Commands -/

/-- A reset request goes to the home node of a network set (R251). -/
def State.foRequest (s : State) (k : FoCfg) (origin : Nat) : State :=
  (List.range 4).foldl (fun s b => s.sendProto b 1 0x0A k.netSet (le64 0 ++ le8 origin ++ le8 0 ++ le16 0) .other) s

/-- `FO_RESET` (R251). -/
def State.foResetReq (s : State) (fl : Flight) : State :=
  let f := byteAt fl.req 16
  let k := s.foCfgOf f
  if !k.enable then s.refuse fl (.badField, 16, [])
  else
    match (s.fo f).state with
    | .idle => s.complete fl .ok 1 []
    | .open_ => s.refuse fl (.busy, k.home, [])
    | .decided =>
      let s1 := s.addLive (.foReset f) fl
      if s.foHome k then s1 else s1.foRequest k fl.origin.code

/-- `FO_RESET` (R251). -/
def execFoReset (t tag : Nat) (s : State) : Host.Outcome State Fault Refusal :=
  .next (s.withCur t tag 0x0505 (fun f s => s.foResetReq f))

/-- `FO_STATUS` (R263): record as last published, and the window end while the set is open. -/
def State.foStatus (s : State) (fl : Flight) : State :=
  let x := s.prev.fo.getD (byteAt fl.req 16) {}
  let q := match x.first with | some a => a.ts % 16 | none => 0
  s.ok fl (x.bytes s.bus.nodeId ++ le64 (if x.state = .open_ then tsOf x.windowEnd q else 0))

/-- `FO_STATUS` (R263). -/
def execFoStatus (t tag : Nat) (s : State) : Host.Outcome State Fault Refusal :=
  .next (s.withCur t tag 0x0506 (fun f s => s.foStatus f))

/-- `FIRST_OUT_DECIDED` (R250). -/
def execFirstOutDecided (t set : Nat) (s : State) : Host.Outcome State Fault Refusal :=
  guardUnit (decide (set < 32)) ((s.toFrame t).foDecide set)

/-- `FIRST_OUT_HOME_ABSENT` (R250). -/
def execFirstOutHomeAbsent (t set : Nat) (s : State) : Host.Outcome State Fault Refusal :=
  guardUnit (decide (set < 32)) ((s.toFrame t).foAbsent set)

/-- `FIRST_OUT_RESET` (R251). -/
def execFirstOutReset (t set : Nat) (s : State) : Host.Outcome State Fault Refusal :=
  guardUnit (decide (set < 32)) ((s.toFrame t).foResetDue set)

/-- `AUTO_RESET` (R251). -/
def execAutoReset (t set : Nat) (s : State) : Host.Outcome State Fault Refusal :=
  guardUnit (decide (set < 32)) ((s.toFrame t).foAuto set)

end Sys2Proof.Machine
end

