-- ==== Sys2Proof/Machine/Valid.lean ====
section
/-!
DEFINITION. Step 2 of the commit, first part: the field checks of the system, group, first-out, call chain, roster,
encoder, display, waveform, digital input and annunciator output tables. A check lists byte offsets with whether the
field there is faulty; the lowest faulty offset is the one a refusal names.
-/

namespace Sys2Proof.Machine

open Sys2Proof

/-- Byte offsets of an entry, each with whether the field there is faulty. -/
abbrev Checks := List (Nat × Bool)

/-- The lowest faulty offset. -/
def Checks.first : Checks → Option Nat
  | [] => none
  | (o, b) :: r =>
    match Checks.first r with
    | some k => if b && decide (o ≤ k) then some o else some k
    | none => if b then some o else none

/-- A list of checks. -/
def cks (l : List (Nat × Bool)) : Checks := l

/-- A field outside its range. -/
def outside (v lo hi : Nat) : Bool := decide (v < lo) || decide (hi < v)

/-- A field of an offset and a length that must be zero; a fault names the field's offset (R487). -/
def unusedField (m : Mem) (a : Nat) (f : Nat × Nat) : Nat × Bool := (f.1, m.num (a + f.1) f.2 != 0)

/-- Fields that must be zero. -/
def unusedFields (m : Mem) (a : Nat) (l : List (Nat × Nat)) : Checks := l.map (unusedField m a)

/-- The reserved field of `n` bytes at offset `o` of the entry at `a`. -/
def reservedChecks (m : Mem) (a o n : Nat) : Checks := unusedFields m a [(o, n)]

/-- A binary32 field that is not finite. -/
def notFinite (m : Mem) (a : Nat) : Bool := !(m.f32 a).finite

/-- Units of a source kind (Table 08.1). -/
def srcCount : Nat → Nat
  | 1 => 64 | 2 => 128 | 3 => 64 | 4 => 64 | 5 => 8 | 6 => 256 | 7 => 8 | 8 => 8 | 9 => 16 | 10 => 512 | 11 => 1024
  | 12 => 8 | 13 => 9 | _ => 0

/-- The first faulty entry of a table of at most `n` entries; an entry beyond them is faulty at offset 0 (R10). -/
def tableCheck (m : Mem) (id n : Nat) (f : Nat → Nat → Checks) : Option ImgFault :=
  tableBad m id (fun _ a i => if n ≤ i then some 0 else Checks.first (f a i))

/-- System table (Table 03.26). -/
def chkSystem (m : Mem) (a _i : Nat) : Checks :=
  cks [(0, outside (m.u8 a) 0 3), (1, outside (m.u8 (a + 1)) 0 3), (2, outside (m.u8 (a + 2)) 0 1), (3, m.u8 (a + 3) != 0),
   (4, m.u32 (a + 4) != 0 && outside (m.u32 (a + 4)) 10 60000)] ++ reservedChecks m a 8 24

/-- A chain is enabled in an image. -/
def chainOn (m : Mem) (k : Nat) : Bool :=
  match imgEntry m 0x32 k with | some a => tst (m.u8 (a + 1)) 0 | none => false

/-- Group table (Table 09.1, R264). -/
def chkGroup (m : Mem) (a i : Nat) : Checks :=
  let k := m.u8 (a + 2)
  let c := m.u8 (a + 3)
  cks [(0, m.u8 a != i), (1, 7 < m.u8 (a + 1)), (2, !([0, 1, 2, 6, 8, 9, 10, 11].contains k)),
   (3, c != 0xFF && (15 < c || !chainOn m c)),
   (4, if k = 0 then m.u16 (a + 4) != 0 else srcCount k ≤ m.u16 (a + 4)), (6, 36000 < m.u16 (a + 6)),
   (8, notFinite m (a + 8)), (12, 15 < m.u8 (a + 12)), (13, 15 < m.u8 (a + 13) && m.u8 (a + 13) != 0xFF)] ++
    reservedChecks m a 14 18

/-- The node ID of an image's network entry (Table 11.15). -/
def imgNodeId (m : Mem) : Nat := match imgEntry m 0x50 4 with | some a => m.u8 (a + 2) | none => 0

/-- First-out table (Table 09.7, R264). -/
def chkFo (m : Mem) (a i : Nat) : Checks :=
  let o := m.u8 (a + 1)
  let net := tst o 1
  let auto := tst o 2
  cks [(0, m.u8 a != i), (1, 7 < o || (tst o 0 && net && auto)), (3, m.u8 (a + 3) != 0)] ++ reservedChecks m a 12 4 ++
  (if tst o 0 then
    cks [(2, 63 < m.u8 (a + 2) || (!net && m.u8 (a + 2) != imgNodeId m)),
     (4, if net then 255 < m.u16 (a + 4) else m.u16 (a + 4) != 0), (6, outside (m.u16 (a + 6)) 10 10000),
     (8, outside (m.u16 (a + 8)) 2 1000),
     (10, if auto then outside (m.u16 (a + 10)) 1 3600 else m.u16 (a + 10) != 0)] else [])

/-- An AO's entry names chain `k` as a source (R256, R450). -/
def aoServes (m : Mem) (ao k : Nat) : Bool :=
  match imgEntry m 0x81 ao with
  | some a => tst (m.u8 (a + 1)) 0 && m.u8 (a + 2) = 1 && tst (m.u16 (a + 4)) k
  | none => false

/-- AOs of a mask. -/
def maskBits (v : Nat) : List Nat := (List.range 8).filter (fun k => tst v k)

/-- One stage of a call chain (Table 09.11). -/
def chkStage (m : Mem) (a i n k : Nat) : Checks :=
  let o := 8 + 12 * k
  if n ≤ k then unusedFields m a [(o, 2), (o + 2, 1), (o + 3, 1), (o + 4, 1), (o + 5, 1), (o + 6, 6)]
  else
    cks [(o, if k + 1 = n then m.u16 (a + o) != 0 else outside (m.u16 (a + o)) 1 3600),
     (o + 2, (maskBits (m.u8 (a + o + 2))).any (fun x => !aoServes m x i)), (o + 3, 1 < m.u8 (a + o + 3)),
     (o + 4, 3 < m.u8 (a + o + 4)), (o + 5, 15 < m.u8 (a + o + 5))] ++ reservedChecks m a (o + 6) 6

/-- Call chain table (Table 09.11, R264). -/
def chkChain (m : Mem) (a i : Nat) : Checks :=
  let n := m.u8 (a + 2)
  let acc := m.u16 (a + 4)
  cks [(0, m.u8 a != i), (1, 1 < m.u8 (a + 1))] ++ reservedChecks m a 6 2 ++ reservedChecks m a 56 8 ++
  (if tst (m.u8 (a + 1)) 0 then
    cks [(2, outside n 1 4), (3, n ≤ m.u8 (a + 3)), (4, acc != 0 && outside acc 60 3600)] ++
      ((List.range 4).map (chkStage m a i (min n 4))).flatten
   else ((List.range 4).map (fun k => reservedChecks m a (14 + 12 * k) 6)).flatten)

/-- Member in use that is not a public room (R258). -/
def eligible (m : Mem) (k : Nat) : Bool :=
  match imgEntry m 0x33 k with
  | some a => tst (m.u8 (a + 1)) 0 && !tst (m.u8 (a + 1)) 1
  | none => false

/-- Member that carries DEFAULT_DUTY and is eligible. -/
def defaultDuty (m : Mem) (k : Nat) : Bool :=
  eligible m k && (match imgEntry m 0x33 k with | some a => tst (m.u8 (a + 1)) 2 | none => false)

/-- Roster table (Tables 09.13 and 09.15, R258). -/
def chkRoster (m : Mem) (a i : Nat) : Checks :=
  if i < 16 then
    let o := m.u8 (a + 1)
    let el := (List.range 16).filter (eligible m)
    let df := (List.range 16).filter (defaultDuty m)
    cks [(0, m.u8 a != i),
     (1, 7 < o || (el.head? = some i && df.isEmpty) || ((df.drop 1).head? = some i))] ++ reservedChecks m a 4 4 ++
    (if tst o 0 then cks [(2, 63 < m.u8 (a + 2)), (3, 15 < m.u8 (a + 3))] ++
      cks ((List.range 8).map (fun k => (8 + k, decide (127 < m.u8 (a + 8 + k))))) else [])
  else
    let o := m.u8 (a + 1)
    let di (x : Nat) : Bool := 15 < x && x != 0xFF
    cks [(0, m.u8 a != 16), (1, 1 < o)] ++ reservedChecks m a 12 4 ++
    (if tst o 0 then
      cks [(2, di (m.u8 (a + 2))), (3, di (m.u8 (a + 3))), (4, outside (m.u16 (a + 4)) 60 3600),
       (6, outside (m.u16 (a + 6)) 10 600),
       (8, (maskBits (m.u8 (a + 8))).any (fun k => match imgEntry m 0x81 k with
         | some x => !(tst (m.u8 (x + 1)) 0 && m.u8 (x + 2) = 1) | none => true)),
       (9, 15 < m.u8 (a + 9)), (10, outside (m.u16 (a + 10)) 30 900)] else [])

/-- Function code of a DI entry, zero without one. -/
def diFunc (m : Mem) (k : Nat) : Nat := match imgEntry m 0x80 k with | some a => m.u8 (a + 1) | none => 0

/-- Frame period in µs of the profile an image selects. -/
def imgPeriodUs (m : Mem) : Nat :=
  periodOf (match imgEntry m 1 0 with | some a => m.u8 a | none => 1) / 1000

/-- R273: an SSI read fits its interval. -/
def ssiFits (m : Mem) (a : Nat) : Bool :=
  let n := m.u8 (a + 28)
  let q := if m.u8 (a + 3) / 64 = 0 then 0 else 1
  let f := m.u16 (a + 30)
  decide ((n + q + 1) * 1000 + (m.u16 (a + 32) + 5) * f ≤ m.u8 (a + 34) * imgPeriodUs m * f)

/-- The `SSI` fields of an encoder entry: offset and length (Table 10.10). -/
def ssiFields : List (Nat × Nat) := [(28, 1), (29, 1), (30, 2), (32, 2), (34, 1), (35, 1), (36, 1)]

/-- The compare fields of an encoder entry behind the unit (Table 10.10). -/
def cmpFields : List (Nat × Nat) := [(38, 1), (39, 1), (40, 4), (44, 4), (48, 2), (50, 2), (52, 1)]

/-- Encoder table (Table 10.10, R282, R283). -/
def chkEnc (m : Mem) (a i : Nat) : Checks :=
  let mode := m.u8 (a + 1)
  let o := m.u8 (a + 3)
  let lim (x : Nat) : Bool := let k := m.u8 (a + x); k != 0xFF && (15 < k || diFunc m k = 0)
  let nr := m.u32 (a + 4)
  let unit := m.u8 (a + 37)
  let base : Checks := [(0, m.u8 a != i), (1, 3 < mode)] ++ reservedChecks m a 53 11
  if mode = 0 ∨ 3 < mode then
    base ++ unusedFields m a ([(2, 1), (3, 1), (4, 4), (8, 1), (9, 1), (10, 1), (11, 1), (12, 2), (16, 4), (20, 4), (24, 4)] ++
        ssiFields ++ cmpFields) ++
      cks [(14, m.u8 (a + 14) != 0xFF), (15, m.u8 (a + 15) != 0xFF), (37, unit != 0xFF)]
  else
    let ssi := decide (mode = 3)
    let htl := decide (m.u8 (a + 2) = 1)
    base ++
    cks [(2, 1 < m.u8 (a + 2) || (ssi && htl)),
     (3, (htl && tst o 3) || (if ssi then o / 64 = 3 || tst o 1 else o / 32 != 0)),
     (4, if ssi then nr != 0 else nr != 0 && outside nr 4 1073741824), (8, 4 < m.u8 (a + 8)),
     (9, ssi && m.u8 (a + 9) != 0), (10, m.u8 (a + 10) = 0), (11, 15 < m.u8 (a + 11)),
     (12, outside (m.u16 (a + 12)) 1 10000), (14, lim 14), (15, lim 15),
     (16, notFinite m (a + 16) || (m.f32 (a + 16)).abs = 0), (20, notFinite m (a + 20)),
     (24, notFinite m (a + 24) || (m.f32 (a + 24)).abs = 0)] ++
    (if ssi then
      cks [(28, outside (m.u8 (a + 28)) 18 32), (29, 4 < m.u8 (a + 29)), (30, outside (m.u16 (a + 30)) 100 2000),
       (32, outside (m.u16 (a + 32)) 10 100), (34, m.u8 (a + 34) = 0 || !ssiFits m a), (35, 200 < m.u8 (a + 35)),
       (36, 2 ^ m.u8 (a + 29) ≤ m.u8 (a + 36))]
     else unusedFields m a ssiFields) ++
    (if unit = 0xFF then unusedFields m a cmpFields
     else
      cks [(37, 7 < unit), (38, 1 < m.u8 (a + 38)), (39, 1 < m.u8 (a + 39)), (44, outside (m.u32 (a + 44)) 1 2147483647),
       (50, outside (m.u16 (a + 50)) 1 10000), (52, 1 < m.u8 (a + 52))])

/-! ## Display -/

/-- Address of the waveform entry of a set and band. -/
def waveEntry (m : Mem) (set band : Nat) : Option Nat :=
  (imgEntries m 0x61).find? (fun a => decide (m.u8 a = set) && decide (m.u8 (a + 1) = band))

/-- Length in ms of the native transition whose phase words start at `a`: up to a word of duration 0 (R407). -/
def phaseSum (m : Mem) : Nat → Nat → Nat
  | 0, _ => 0
  | n + 1, a => let d := m.u16 a % 1024; if d = 0 then 0 else d + phaseSum m n (a + 2)

/-- Length in ms of transition `tr` (0 light to light, 1 light to dark, 2 dark to light, 3 dark to dark) of the waveform
entry at `a`; in forerunner form every transition lasts the frame count times the period (R407, R409). -/
def waveMs (m : Mem) (a tr : Nat) : Nat :=
  if m.u8 (a + 2) = 1 then m.u8 (a + 96) * m.u8 (a + 97) else phaseSum m 16 (a + 16 + 32 * tr)

/-- The panel runs in forerunner mode. -/
def imgForerunner (m : Mem) : Bool :=
  match imgEntry m 0x60 8 with | some a => tst (m.u8 (a + 1)) 1 | none => false

/-- Addresses of all waveform entries of a set. -/
def setEntries (m : Mem) (set : Nat) : List Nat := (imgEntries m 0x61).filter (fun a => m.u8 a = set)

/-- Every band of a set has an entry, and every entry of the set has the form of the panel's mode (R410). -/
def setOk (m : Mem) (set : Nat) : Bool :=
  (List.range 10).all (fun b => (waveEntry m set b).isSome) &&
    (setEntries m set).all (fun a => m.u8 (a + 2) = bit (imgForerunner m))

/-- Period in ms of a blink group. -/
def blinkPeriod (m : Mem) (g : Nat) : Nat :=
  match imgEntry m 0x60 8 with | some a => m.u16 (a + 8 + 4 * g) | none => 0

/-- The half-period of a blink group covers both toggles of a set in every band (R410). -/
def blinkOk (m : Mem) (set g : Nat) : Bool :=
  (setEntries m set).all (fun a => decide (2 * waveMs m a 1 ≤ blinkPeriod m g) && decide (2 * waveMs m a 2 ≤ blinkPeriod m g))

/-- Cells of a mask at `a`. -/
def maskAt (m : Mem) (a : Nat) : Nat := m.num a 24

/-- Bits set below `n`. -/
def popcount (v n : Nat) : Nat := ((List.range n).filter (fun k => tst v k)).length

/-- Display regions and panel settings (Tables 15.4 and 15.5, R410). -/
def chkDisp (m : Mem) (a i : Nat) : Checks :=
  let o := m.u8 (a + 1)
  if i < 8 then
    let k := m.u8 (a + 4)
    let cells := popcount (maskAt m (a + 8)) 192
    let cnt := if k = 1 then 128 else 1024
    cks [(0, m.u8 a != i), (1, 3 < o), (5, m.u8 (a + 5) != 0)] ++
    (if tst o 0 then
      cks [(2, 3 < m.u8 (a + 2) || !setOk m (m.u8 (a + 2))),
       (3, 3 < m.u8 (a + 3) || !blinkOk m (m.u8 (a + 2)) (m.u8 (a + 3))), (4, 2 < k),
       (6, if k = 0 then m.u16 (a + 6) != 0 else cnt ≤ m.u16 (a + 6) || cnt < m.u16 (a + 6) + cells),
       (8, 127 < m.u8 (a + 31))] else [])
  else
    let p (g : Nat) : Bool := let v := m.u16 (a + 8 + 4 * g); (v = 0 && g = 0) || (v != 0 && outside v 200 5000)
    cks [(0, m.u8 a != 8), (1, 3 < o), (2, 1 < m.u8 (a + 2)),
     (3, if m.u8 (a + 2) = 1 then 63 < m.u8 (a + 3) else m.u8 (a + 3) != 0), (4, outside (m.u16 (a + 4)) 800 1500),
     (6, 3 < m.u8 (a + 6) || !setOk m (m.u8 (a + 6))), (7, m.u8 (a + 7) != 0), (8, p 0), (12, p 1), (16, p 2), (20, p 3)] ++
    reservedChecks m a 10 2 ++ reservedChecks m a 14 2 ++ reservedChecks m a 18 2 ++ reservedChecks m a 22 2 ++
    reservedChecks m a 24 8

/-- The set of the node-not-live cell. -/
def liveSet (m : Mem) : Nat := match imgEntry m 0x60 8 with | some a => m.u8 (a + 6) | none => 0

/-- Waveforms (R406 to R409). -/
def chkWave (m : Mem) (a _i : Nat) : Checks :=
  let f := m.u8 (a + 2)
  let tooLong (tr : Nat) : Bool :=
    4000 < waveMs m a tr || (tr = 1 && (imgEntry m 0x60 8).isSome && m.u8 a = liveSet m && 560 < waveMs m a tr)
  cks [(0, 3 < m.u8 a), (1, 9 < m.u8 (a + 1)), (2, 1 < f || (imgForerunner m && f != 1))] ++ reservedChecks m a 3 13 ++
  (if f = 0 then
    ((List.range 64).map (fun k =>
      let w := m.u16 (a + 16 + 2 * k)
      (16 + 2 * k, decide (5 < w / 8192) || w / 1024 % 8 != 0))) ++
    ((List.range 4).map (fun tr => (16 + 32 * tr, tooLong tr)))
   else
    ((List.range 64).map (fun k => (80, decide (m.u8 (a + 80 + k / 4) / 4 ^ (k % 4) % 4 = 3)))) ++
    cks [(96, outside (m.u8 (a + 96)) 1 64 || tooLong 1), (97, m.u8 (a + 97) = 0)] ++ reservedChecks m a 98 46)

/-! ## Digital inputs and annunciator outputs -/

/-- DI table (Table 17.2). -/
def chkDi (m : Mem) (a i : Nat) : Checks :=
  cks [(0, m.u8 a != i), (1, 2 < m.u8 (a + 1)), (2, 1 < m.u8 (a + 2)), (3, 2 < m.u8 (a + 3)), (4, 1000 < m.u16 (a + 4))] ++
    reservedChecks m a 6 10

/-- AO table (Table 17.5, R450, R464). -/
def chkAo (m : Mem) (a i : Nat) : Checks :=
  let o := m.u8 (a + 1)
  let k := m.u8 (a + 2)
  let x := m.u16 (a + 4)
  cks [(0, m.u8 a != i), (1, 15 < o || (tst o 0 && tst o 3 && k < 2))] ++ reservedChecks m a 8 8 ++
  (if tst o 0 then
    cks [(2, 4 < k), (3, 15 < m.u8 (a + 3)),
     (4, match k with
       | 0 => x != 0
       | 1 => (List.range 16).any (fun c => tst x c && !chainOn m c)
       | 2 => 1023 < x | 3 => 127 < x | _ => 8 < x),
     (6, outside (m.u16 (a + 6)) 5 200)] else [])

end Sys2Proof.Machine
end

