-- ==== Sys2Proof/Machine/Calls.lean ====
section
/-!
DEFINITION. Call chains, duty roster and dead-man timer (R253 to R261), their commands and events.
-/

namespace Sys2Proof.Machine

open Sys2Proof

/-! ## Call chains -/

/-- One call chain entry (Table 09.11); stage fields are read by `stageField`. -/
structure ChainCfg where
  enable : Bool := false
  stages : Nat := 0
  emerg : Nat := 0
  acceptS : Nat := 0
deriving DecidableEq, Repr

/-- Entry of chain `c` in force. -/
def State.chainCfgOf (s : State) (c : Nat) : ChainCfg :=
  let m := s.cfg.img
  match imgEntry m 0x32 c with
  | some a => { enable := tst (m.u8 (a + 1)) 0, stages := m.u8 (a + 2), emerg := m.u8 (a + 3), acceptS := m.u16 (a + 4) }
  | none => {}

/-- Dwell of a stage, s. -/
def State.dwell (s : State) (c k : Nat) : Nat := s.stageField c k 0 + 256 * s.stageField c k 1

/-- Chain `c`. -/
def State.chain (s : State) (c : Nat) : ChainSt := s.eng.chains.getD c {}

/-- Chain `c` changed. -/
def State.modChain (s : State) (c : Nat) (f : ChainSt → ChainSt) : State :=
  { s with eng := { s.eng with chains := modAt s.eng.chains c f } }

/-- The category with which a weir calls; none while it does not (R254). -/
def callingCat (c : WeirCfg) (w : WeirSt) : Option Nat :=
  if w.state = .activeUnack then some (c.catPrio / 64)
  else if w.state = .sourceFault ∧ w.faultUnack = true then some c.faultCat else none

/-- Categories of the weirs that call chain `c` in this frame (R254). -/
def State.calling (s : State) (c : Nat) : List Nat :=
  s.weirList.filterMap (fun x =>
    let g := s.groupCfgOf x.2.group
    if x.2.group < 128 ∧ g.chain = c then
      match callingCat x.2 (s.weir x.1) with
      | some k => if tst g.cats k then some k else none
      | none => none
    else none)

/-- Members in use that are public rooms. -/
def publicRoom (m : Mem) (k : Nat) : Bool :=
  match imgEntry m 0x33 k with
  | some a => tst (m.u8 (a + 1)) 0 && tst (m.u8 (a + 1)) 1
  | none => false

/-- Panel of a member: node and index. -/
def memberPanel (m : Mem) (k : Nat) : Nat × Nat :=
  match imgEntry m 0x33 k with | some a => (m.u8 (a + 2), m.u8 (a + 3)) | none => (0, 0)

/-- Members a stage calls (Table 09.11, R258). -/
def State.stageTargets (s : State) (c k : Nat) : List Nat :=
  let m := s.cfg.img
  (List.range 16).filter (fun i =>
    match s.stageField c k 4 with
    | 0 => false
    | 1 => if s.eng.duty.duty.isNone then publicRoom m i else decide (s.eng.duty.duty = some i)
    | 2 => publicRoom m i || decide (s.eng.duty.duty = some i)
    | _ => publicRoom m i || eligible m i)

/-- CALL message of chain `c` in its stage, to the members given (Table 11.7). -/
def State.sendCall (s : State) (c : Nat) (members : List Nat) (cancel : Bool) : State :=
  let x := s.chain c
  if members.isEmpty then s
  else
    let mask := (members.map (fun i => 2 ^ i)).sum
    s.frameMsg (s.stageField c x.stage 5) 1 0x0C c
      (le8 x.stage ++ le8 x.cat ++ le8 (min 255 x.weirs) ++ le8 (bit cancel) ++ le16 mask ++
        le8 (s.eng.duty.duty.getD 0xFF) ++ le8 0)

/-- The call of chain `c` to its stage's targets but for silenced panels (R255, R257). -/
def State.callOut (s : State) (c : Nat) : State :=
  let x := s.chain c
  s.sendCall c ((s.stageTargets c x.stage).filter (fun i => !x.silenced.contains (memberPanel s.cfg.img i))) false

/-- Chain `c` enters stage `k` (Table 09.12). -/
def State.enterStage (s : State) (c k : Nat) : State :=
  let now := s.frame.captFlow
  let s1 := s.modChain c (fun x =>
    { x with state := .calling, stage := k, since := now, silenced := [], nextCall := some (now + secs 1)
             cancels := 0 })
  (s1.frameEv 0x050B (7 - (s1.chain c).cat % 4) 7 c 0xFFFF k (s1.chain c).weirs).callOut c

/-- The calls of chain `c` end: three cancel messages at 100 ms (Table 09.12, R301). -/
def State.endCall (s : State) (c : Nat) : State :=
  let x := s.chain c
  let s1 := s.frameEv 0x050D 3 7 c 0xFFFF x.stage 0x41
  (s1.sendCall c (s1.stageTargets c x.stage) true).modChain c (fun x =>
    { x with state := .idle, silenced := [], nextCall := none, cancels := 2, nextCancel := s.frame.captFlow + ms 100 })

/-- A stage dwell elapses (Table 09.12). -/
def State.chainDwell (s : State) (c : Nat) : State :=
  let x := s.chain c
  let k := s.chainCfgOf c
  if x.state = .calling ∧ x.stage + 1 < k.stages ∧ x.since + secs (s.dwell c x.stage) ≤ s.frame.captFlow ∧
      x.forced = false then
    s.enterStage c (x.stage + 1)
  else s

/-- An accept period elapses (Table 09.12). -/
def State.chainAcceptEnd (s : State) (c : Nat) : State :=
  let x := s.chain c
  let k := s.chainCfgOf c
  if x.state = .accepted ∧ x.since + secs k.acceptS ≤ s.frame.captFlow then
    s.enterStage c (if x.stage + 1 < k.stages then x.stage + 1 else x.stage)
  else s

/-- The call is repeated each 1 s in the stage (R301). -/
def State.chainRepeat (s : State) (c : Nat) : State :=
  match (s.chain c).nextCall with
  | some n =>
    if n ≤ s.frame.captFlow ∧ (s.chain c).state ≠ .idle then
      (s.callOut c).modChain c (fun x => { x with nextCall := some (n + secs 1) })
    else s
  | none => s

/-- A cancel message is repeated at 100 ms (R301). -/
def State.chainCancel (s : State) (c : Nat) : State :=
  let x := s.chain c
  if x.state = .idle ∧ x.cancels ≠ 0 ∧ x.nextCancel ≤ s.frame.captFlow then
    (s.sendCall c (s.stageTargets c x.stage) true).modChain c (fun x =>
      { x with cancels := x.cancels - 1, nextCancel := x.nextCancel + ms 100 })
  else s

/-- A call is accepted (Table 09.12); the accepting panel's call is silenced. A chain that the dead-man alarm forces calls
until its reset (Table 09.14): no accept stops it. -/
def State.chainAccept (s : State) (c origin : Nat) (panel : Option (Nat × Nat)) : State :=
  let x := s.chain c
  if x.state = .calling ∧ (s.chainCfgOf c).acceptS ≠ 0 ∧ x.forced = false then
    (s.modChain c (fun x =>
      { x with state := .accepted, since := s.frame.captFlow
               silenced := match panel with | some p => p :: x.silenced | none => x.silenced })).frameEv
      0x050C 3 7 c 0xFFFF x.stage origin
  else s

/-- A roster panel is a target of chain `c` in its stage (R257). -/
def State.isTarget (s : State) (c node panel : Nat) : Bool :=
  (s.stageTargets c (s.chain c).stage).any (fun i => decide (memberPanel s.cfg.img i = (node, panel)))

/-- An accept command of this frame (R257, R264). -/
def State.acceptCmd (s : State) (c : LiveCmd) : State :=
  match c.kind with
  | .callAccept k n i =>
    if (s.chain k).state = .idle ∨ (s.chainCfgOf k).acceptS = 0 ∨ (n < 64 ∧ s.isTarget k n i = false) then
      s.endLive c .notPermitted 1 []
    else
      let s1 := s.chainAccept k c.origin (if n < 64 then some (n, i) else none)
      s1.endLive c .ok 0 (le8 (s1.chain k).stage)
  | _ => s

/-- Chain `c` at one capture (R254, R255). -/
def State.chainStep (s : State) (c : Nat) : State :=
  let k := s.chainCfgOf c
  let cats := if k.enable then s.calling c else []
  let emerg := cats.any (fun x => decide (x = 0))
  let old := s.chain c
  let s0 := s.modChain c (fun x =>
    { x with weirs := cats.length, emergency := emerg
             cat := if cats.isEmpty then Config.forcedCat.toNat else cats.foldl min 3 })
  let cmds := s0.live.filter (fun l => l.applied.isNone &&
    (match l.kind with | .callAccept n _ _ => decide (n = c) | _ => false))
  if cats.isEmpty ∧ old.forced = false then
    let s1 := if old.state = .idle then s0 else (s0.modChain c (fun x => { x with cat := old.cat })).endCall c
    (cmds.foldl State.acceptCmd s1).chainCancel c
  else if old.state = .idle then
    cmds.foldl State.acceptCmd (s0.enterStage c (if emerg then k.emerg else 0))
  else
    let s1 := cmds.foldl State.acceptCmd s0
    if emerg && !old.emergency && decide ((s1.chain c).stage < k.emerg) then s1.enterStage c k.emerg
    else ((s1.chainDwell c).chainAcceptEnd c).chainRepeat c

/-- Step 5, part 5 (R240). -/
def State.chainsStep (s : State) : State := (List.range 16).foldl State.chainStep s

/-! ## Duty roster (R258 to R260) -/

/-- Field of entry 16 (Table 09.15); zero where the entry is absent. -/
def State.deadField (s : State) (o n : Nat) : Nat :=
  match imgEntry s.cfg.img 0x33 16 with | some a => s.cfg.img.num (a + o) n | none => 0

/-- An event of the roster: new member and previous member, 0xFF for none. -/
def State.rosterEv (s : State) (code sev p1 p2 : Nat) : State := s.frameEv code sev 8 0 0xFFFF p1 p2

/-- The duty roster changed. -/
def State.modDuty (s : State) (f : DutySt → DutySt) : State :=
  { s with eng := { s.eng with duty := f s.eng.duty } }

/-- A confirmed handover takes effect once no chain is beyond stage 0 (R260). -/
def State.dutyChange (s : State) : State :=
  match s.eng.duty.pending with
  | some h =>
    if h.confirmed && s.eng.chains.all (fun x => decide (x.state = .idle) || decide (x.stage = 0)) then
      (s.modDuty (fun _ => { duty := some h.member, pending := none })).rosterEv 0x050E 4 h.member
        (s.eng.duty.duty.getD 0xFF)
    else s
  | none => s

/-- A handover not completed within its timeout is cancelled (R260); the timeout is a field of entry 16, in force while
that entry is enabled (R489). -/
def State.dutyTimeout (s : State) : State :=
  match s.eng.duty.pending with
  | some h =>
    if tst (s.deadField 1 1) 0 && decide (h.since + secs (s.deadField 10 2) ≤ s.frame.captFlow) then
      (s.modDuty (fun d => { d with pending := none })).rosterEv 0x0510 4 h.member (s.eng.duty.duty.getD 0xFF)
    else s
  | none => s

/-- A handover command or a panel's confirmation of this frame (R260). -/
def State.dutyCmd (s : State) (c : LiveCmd) : State :=
  match c.kind with
  | .duty 0 m => (s.modDuty (fun d => { d with pending := some { member := m, since := s.frame.captFlow } })).endLive c .ok 0 []
  | .duty 1 m =>
    (s.modDuty (fun d => { d with pending := d.pending.map (fun h =>
      if h.member = m then { h with confirmed := true } else h) })).endLive c .ok 0 []
  | .duty _ _ => (s.modDuty (fun d => { d with pending := none })).endLive c .ok 0 []
  | _ => s

/-- The `DEFAULT_DUTY` member takes the duty, and that is logged; with no eligible member there is none (R259). -/
def State.dutyDefault (s : State) : State :=
  match (List.range 16).find? (defaultDuty s.cfg.img) with
  | some k =>
    (s.modDuty (fun d => { d with duty := some k })).logEv 0x050F 4 8 0 0xFFFF k (s.eng.duty.duty.getD 0xFF)
  | none => s.modDuty (fun _ => {})

/-- The duty engineer named by a start or a commit, if still eligible; else the default member, logged (R259). -/
def State.dutySettle (s : State) (named : Option Nat) : State :=
  let m := s.cfg.img
  match named with
  | some k => if eligible m k then s.modDuty (fun d => { d with duty := some k }) else s.dutyDefault
  | none => s.dutyDefault
/-! ## Dead-man timer (R261) -/

/-- The dead-man timer changed. -/
def State.modDead (s : State) (f : DeadSt → DeadSt) : State := { s with eng := { s.eng with dead := f s.eng.dead } }

/-- The timer is enabled. -/
def State.deadOn (s : State) : Bool := tst (s.deadField 1 1) 0

/-- The timer is armed: its arm DI at 1.0 or failed, or armed by a culvert. -/
def State.deadArmed (s : State) : Bool :=
  let i := s.deadField 2 1
  s.eng.dead.armed || (decide (i < 16) && ((s.di i).q.failed || (s.di i).val))

/-- The alarm chain is forced to its last stage (Table 09.14). -/
def State.forceChain (s : State) : State :=
  let c := s.deadField 9 1
  let k := s.chainCfgOf c
  let now := s.frame.captFlow
  let s1 := s.modChain c (fun x =>
    { x with forced := true, state := .calling, stage := k.stages - 1, since := now, silenced := []
             nextCall := some (now + secs 1), cancels := 0
             cat := if x.weirs = 0 then Config.forcedCat.toNat else x.cat })
  s1.callOut c

/-- The period elapses (Table 09.14). -/
def State.deadPrewarn (s : State) : State :=
  if s.eng.dead.state = .running ∧ s.eng.dead.since + secs (s.deadField 4 2) ≤ s.frame.captFlow then
    (s.modDead (fun d => { d with state := .prewarn, since := s.frame.captFlow })).rosterEv 0x0511 5 0 0
  else s

/-- The pre-warning elapses (Table 09.14). -/
def State.deadAlarm (s : State) : State :=
  if s.eng.dead.state = .prewarn ∧ s.eng.dead.since + secs (s.deadField 6 2) ≤ s.frame.captFlow then
    ((s.modDead (fun d => { d with state := .alarm, since := s.frame.captFlow })).rosterEv 0x0512 7 0 0).forceChain
  else s

/-- A chain that the dead-man alarm forced is released under R254. -/
def State.chainsFree (s : State) : State :=
  { s with eng := { s.eng with chains := s.eng.chains.map (fun x =>
      if x.forced then { x with forced := false, since := s.frame.captFlow } else x) } }

/-- A reset of the timer (Table 09.14). -/
def State.deadReset (s : State) (origin : Nat) : State :=
  let now := s.frame.captFlow
  match s.eng.dead.state with
  | .disarmed => s
  | .alarm =>
    ((s.modDead (fun d => { d with state := if s.deadArmed then .running else .disarmed, since := now })).chainsFree).rosterEv
      0x0513 4 origin 0
  | _ => s.modDead (fun d => { d with state := .running, since := now })

/-- A dead-man command of this frame (R261, R264). -/
def State.deadCmd (s : State) (c : LiveCmd) : State :=
  let code (s : State) : List Byte :=
    le8 (match s.eng.dead.state with | .disarmed => 0 | .running => 1 | .prewarn => 2 | .alarm => 3)
  match c.kind with
  | .deadman 0 => let s1 := s.modDead (fun d => { d with armed := true })
                  let s2 := if s1.deadOn && decide (s1.eng.dead.state = .disarmed) then
                      s1.modDead (fun d => { d with state := .running, since := s.frame.captFlow }) else s1
                  s2.endLive c .ok 0 (code s2)
  | .deadman 1 => let s1 := s.deadReset c.origin; s1.endLive c .ok 0 (code s1)
  | .deadman _ =>
    if s.eng.dead.state = .alarm then s.endLive c .notPermitted 1 []
    else
      let s1 := s.modDead (fun d => { d with armed := false })
      let s2 := if s1.deadArmed then s1 else s1.modDead (fun d => { d with state := .disarmed })
      s2.endLive c .ok 0 (code s2)
  | _ => s

/-- A reset DI at failed quality cannot reset; logged once per occurrence (R261). -/
def State.deadFault (s : State) : State :=
  let i := s.deadField 3 1
  if i < 16 then
    let bad := (s.di i).q.failed
    let s1 := if bad && !s.eng.dead.faultLogged then s.frameEv 0x0505 5 13 i (s.cfg.roles.get .di i) 0 0 else s
    s1.modDead (fun d => { d with faultLogged := bad })
  else s

/-- Arming and disarming at this capture. -/
def State.deadJudge (s : State) : State :=
  let a := s.deadArmed
  match s.eng.dead.state with
  | .disarmed => if a then s.modDead (fun d => { d with state := .running, since := s.frame.captFlow }) else s
  | .alarm => s
  | _ => if a then s else s.modDead (fun d => { d with state := .disarmed })

/-- The dead-man timer at one capture; a timer that is not enabled stands DISARMED and forces no chain. -/
def State.deadStep (s : State) : State :=
  if !s.deadOn then (s.modDead (fun d => { d with state := .disarmed, faultLogged := false })).chainsFree
  else
    let i := s.deadField 3 1
    let s1 := s.deadJudge.deadFault
    let s2 := if decide (i < 16) && s1.diEdge i then s1.deadReset 0x43 else s1
    s2.deadPrewarn.deadAlarm

/-- Live commands of the roster and the dead-man timer. -/
def State.rosterCmds (s : State) : List LiveCmd :=
  s.live.filter (fun c => c.applied.isNone &&
    (match c.kind with | .duty _ _ => true | .deadman _ => true | _ => false))

/-- Step 5, part 6 (R240), and what the edge rules keep of the DI. -/
def State.rosterStep (s : State) : State :=
  let s1 := s.rosterCmds.foldl (fun s c => (s.dutyCmd c).deadCmd c) s
  let s2 := s1.dutyChange.dutyTimeout.deadStep
  (List.range 16).foldl State.buttonKeep s2

/-! ## Commands -/

/-- `CALL_ACCEPT` (R257, R264). -/
def execCallAccept (t tag : Nat) (s : State) : Host.Outcome State Fault Refusal :=
  .next (s.withCur t tag 0x0509 (fun f s =>
    let c := byteAt f.req 16
    if (s.chain c).state = .idle ∨ (s.chainCfgOf c).acceptS = 0 then s.refuse f (.notPermitted, 1, [])
    else s.addLive (.callAccept c 0xFF 0) f))

/-- Whole seconds from now to an end in network time run, rounded up. -/
def State.secsTo (s : State) (e : Nat) : Nat := (e - s.clk.flow + 999999999) / 1000000000

/-- `CALL_STATUS` (Table 09.17), as the last published frame left the engines. -/
def State.callStatus (s : State) (f : Flight) : State :=
  let c := byteAt f.req 16
  let x := s.prev.chains.getD c {}
  let k := s.chainCfgOf c
  let nextEsc : Nat := match x.state with
    | .idle => 0xFFFFFFFF
    | .calling => if x.stage + 1 < k.stages ∧ x.forced = false then s.secsTo (x.since + secs (s.dwell c x.stage)) else 0xFFFFFFFF
    | .accepted => s.secsTo (x.since + secs k.acceptS)
  let d := s.prev.dead
  let (dc, dn) : Nat × Nat := match d.state with
    | .disarmed => (0, 0xFFFFFFFF)
    | .running => (1, s.secsTo (d.since + secs (s.deadField 4 2)))
    | .prewarn => (2, s.secsTo (d.since + secs (s.deadField 6 2)))
    | .alarm => (3, 0xFFFFFFFF)
  let (code, stage) : Nat × Nat := match x.state with
    | .idle => (0, 0) | .calling => (1, x.stage) | .accepted => (2, x.stage)
  let du := s.prev.duty
  s.ok f (le8 code ++ le8 stage ++ le16 0 ++ le32 nextEsc ++ le8 (du.duty.getD 0xFF) ++
    le8 (match du.pending with | some h => h.member | none => 0xFF) ++ le8 dc ++ le8 0 ++ le32 dn)

/-- `CALL_STATUS` (Table 09.17). -/
def execCallStatus (t tag : Nat) (s : State) : Host.Outcome State Fault Refusal :=
  .next (s.withCur t tag 0x050A (fun f s => s.callStatus f))

/-- `DUTY_HANDOVER` (R258, R260): the member must be eligible; a confirmation names the pending member. -/
def State.dutyReq (s : State) (f : Flight) : State :=
  let act := byteAt f.req 16
  let m := byteAt f.req 17
  let some_ := (List.range 16).any (eligible s.cfg.img)
  if !some_ || (act != 2 && !eligible s.cfg.img m) then s.refuse f (.badField, 17, [])
  else if act = 1 && !(match s.eng.duty.pending with | some h => decide (h.member = m) | none => false) then
    s.refuse f (.badField, 17, [])
  else s.addLive (.duty act m) f

/-- `DUTY_HANDOVER` (R260). -/
def execDutyHandover (t tag : Nat) (s : State) : Host.Outcome State Fault Refusal :=
  .next (s.withCur t tag 0x050B (fun f s => s.dutyReq f))

/-- `DEADMAN` (R261, R264). -/
def execDeadman (t tag : Nat) (s : State) : Host.Outcome State Fault Refusal :=
  .next (s.withCur t tag 0x050C (fun f s =>
    if byteAt f.req 16 = 2 ∧ s.eng.dead.state = .alarm then s.refuse f (.notPermitted, 1, [])
    else s.addLive (.deadman (byteAt f.req 16)) f))

/-! ## Events of the frame about to be captured -/

/-- `CALL_STAGE` (Table 09.12): a stage dwell elapses. -/
def execCallStage (t chain : Nat) (s : State) : Host.Outcome State Fault Refusal :=
  guardUnit (decide (chain < 16)) ((s.toFrame t).chainDwell chain)

/-- `ACCEPT_PERIOD_ELAPSED` (Table 09.12). -/
def execAcceptPeriodElapsed (t chain : Nat) (s : State) : Host.Outcome State Fault Refusal :=
  guardUnit (decide (chain < 16)) ((s.toFrame t).chainAcceptEnd chain)

/-- `CALL_REPEAT` (R301). -/
def execCallRepeat (t chain : Nat) (s : State) : Host.Outcome State Fault Refusal :=
  guardUnit (decide (chain < 16)) ((s.toFrame t).chainRepeat chain)

/-- `CALL_CANCEL_REPEAT` (R301). -/
def execCallCancelRepeat (t chain : Nat) (s : State) : Host.Outcome State Fault Refusal :=
  guardUnit (decide (chain < 16)) ((s.toFrame t).chainCancel chain)

/-- `DUTY_CHANGE` (R260). -/
def execDutyChange (t : Nat) (s : State) : Host.Outcome State Fault Refusal := .next (s.toFrame t).dutyChange

/-- `HANDOVER_TIMEOUT` (R260). -/
def execHandoverTimeout (t : Nat) (s : State) : Host.Outcome State Fault Refusal := .next (s.toFrame t).dutyTimeout

/-- `DEADMAN_PREWARN` (R261). -/
def execDeadmanPrewarn (t : Nat) (s : State) : Host.Outcome State Fault Refusal := .next (s.toFrame t).deadPrewarn

/-- `DEADMAN_ALARM` (R261). -/
def execDeadmanAlarm (t : Nat) (s : State) : Host.Outcome State Fault Refusal := .next (s.toFrame t).deadAlarm

end Sys2Proof.Machine
end

