-- ==== Sys2Proof/Machine/CfgEdit.lean ====
section
/-!
DEFINITION. The SET and GET opcodes of every class: what a SET edits in the draft (R488) and what a GET reads.
-/

namespace Sys2Proof.Machine

open Sys2Proof

/-- Bytes of an entry with value 0xFF at some offsets. -/
def offWith (size : Nat) (head : List Byte) (ff : List Nat) : List Byte :=
  (List.range size).map (fun k => if ff.contains k then 0xFF else head.getD k 0)

/-- The off entry `n` of a table (R488): its index, its "none" values, zero elsewhere. -/
def offEntry (id n : Nat) : List Byte :=
  let size := (tableSize id).getD 0
  match id with
  | 0x10 => offWith size (le8 n) [4]
  | 0x20 => offWith size (le8 n) []
  | 0x21 => offWith size (le16 n) [33, 34, 35]
  | 0x30 => offWith size (le8 n) [3, 13]
  | 0x33 => offWith size (le8 n) (if n = 16 then [2, 3] else [])
  | 0x40 => offWith size (le8 n) [14, 15, 37]
  | 0x50 => offWith size (le8 n) (if n = 4 then [5, 7] else [])
  | 0x51 => offWith size (le8 n) [3, 13]
  | _ => offWith size (le8 n) []

/-- The outcome of an edit of the draft completes its request. -/
def State.edited (s : State) (f : Flight) (r : EditResult) : State :=
  match r with
  | .done m => (s.setDraft m).ok f []
  | .fault x => s.refuse f (badImage x)

/-- A SET of entry `n` of table `id` with the bytes of the request from payload offset `o` on. -/
def State.setRow (s : State) (f : Flight) (id n o : Nat) : State :=
  s.edited f (setEntry (s.image true) id n (f.payload.drop o) (offEntry id))

/-- The entry a GET answers: `n` of table `id`, or its off entry where the image has none. -/
def entryBytes (m : Mem) (id n : Nat) : List Byte :=
  match imgEntry m id n with
  | some a => m.readList a ((tableSize id).getD 0)
  | none => offEntry id n

/-- A GET of entry `n` of table `id`; payload byte 0 selects the image. -/
def State.getRow (s : State) (f : Flight) (id n : Nat) : State :=
  s.ok f (entryBytes (s.image (byteAt f.req 16 = 1)) id n)

/-- `CHAN_SET` (R181). -/
def execChanSet (t tag : Nat) (s : State) : Host.Outcome State Fault Refusal :=
  .next (s.withCur t tag 0x0301 (fun f s => s.setRow f 0x10 f.unit 0))

/-- `CHAN_GET` (Table 06.11). -/
def execChanGet (t tag : Nat) (s : State) : Host.Outcome State Fault Refusal :=
  .next (s.withCur t tag 0x0303 (fun f s => s.getRow f 0x10 f.unit))

/-- `BLEND_SET` (R239). -/
def execBlendSet (t tag : Nat) (s : State) : Host.Outcome State Fault Refusal :=
  .next (s.withCur t tag 0x0401 (fun f s => s.setRow f 0x20 f.unit 0))

/-- `WEIR_SET` (R239). -/
def execWeirSet (t tag : Nat) (s : State) : Host.Outcome State Fault Refusal :=
  .next (s.withCur t tag 0x0402 (fun f s => s.setRow f 0x21 f.unit 0))

/-- `BLEND_GET` (Table 08.17). -/
def execBlendGet (t tag : Nat) (s : State) : Host.Outcome State Fault Refusal :=
  .next (s.withCur t tag 0x0406 (fun f s => s.getRow f 0x20 f.unit))

/-- `WEIR_GET` (Table 08.17). -/
def execWeirGet (t tag : Nat) (s : State) : Host.Outcome State Fault Refusal :=
  .next (s.withCur t tag 0x0407 (fun f s => s.getRow f 0x21 f.unit))

/-- `GROUP_SET` (R263). -/
def execGroupSet (t tag : Nat) (s : State) : Host.Outcome State Fault Refusal :=
  .next (s.withCur t tag 0x0501 (fun f s => s.setRow f 0x30 f.unit 0))

/-- `GROUP_GET` (R263). -/
def execGroupGet (t tag : Nat) (s : State) : Host.Outcome State Fault Refusal :=
  .next (s.withCur t tag 0x0503 (fun f s => s.getRow f 0x30 f.unit))

/-- `FO_SET` (R263): the set is the entry's own index field. -/
def execFoSet (t tag : Nat) (s : State) : Host.Outcome State Fault Refusal :=
  .next (s.withCur t tag 0x0504 (fun f s => s.setRow f 0x31 (byteAt f.req 16) 0))

/-- `CALL_SET` (R263). -/
def execCallSet (t tag : Nat) (s : State) : Host.Outcome State Fault Refusal :=
  .next (s.withCur t tag 0x0507 (fun f s => s.setRow f 0x32 (byteAt f.req 16) 0))

/-- `ROSTER_SET` (R263). -/
def execRosterSet (t tag : Nat) (s : State) : Host.Outcome State Fault Refusal :=
  .next (s.withCur t tag 0x0508 (fun f s => s.setRow f 0x33 (byteAt f.req 16) 0))

/-- `POS_SET` (R285). -/
def execPosSet (t tag : Nat) (s : State) : Host.Outcome State Fault Refusal :=
  .next (s.withCur t tag 0x0601 (fun f s => s.setRow f 0x40 f.unit 0))

/-- `POS_GET` (R285). -/
def execPosGet (t tag : Nat) (s : State) : Host.Outcome State Fault Refusal :=
  .next (s.withCur t tag 0x0602 (fun f s => s.getRow f 0x40 f.unit))

/-- `BUS_CTRL_SET` (R330): payload byte 0 names the entry. -/
def execBusCtrlSet (t tag : Nat) (s : State) : Host.Outcome State Fault Refusal :=
  .next (s.withCur t tag 0x0701 (fun f s => s.setRow f 0x50 (byteAt f.req 16) 4))

/-- `BUS_OBJ_SET` (Table 11.19). -/
def execBusObjSet (t tag : Nat) (s : State) : Host.Outcome State Fault Refusal :=
  .next (s.withCur t tag 0x0702 (fun f s => s.setRow f 0x51 f.unit 0))

/-- `BUS_OBJ_GET` (Table 11.19). -/
def execBusObjGet (t tag : Nat) (s : State) : Host.Outcome State Fault Refusal :=
  .next (s.withCur t tag 0x0703 (fun f s => s.getRow f 0x51 f.unit))

/-- `PWR_SET` (Table 14.19). -/
def execPwrSet (t tag : Nat) (s : State) : Host.Outcome State Fault Refusal :=
  .next (s.withCur t tag 0x0A01 (fun f s => s.setRow f 0x70 (byteAt f.req 16) 4))

/-- `PWR_GET` (Table 14.19): payload byte 1 names the entry. -/
def execPwrGet (t tag : Nat) (s : State) : Host.Outcome State Fault Refusal :=
  .next (s.withCur t tag 0x0A02 (fun f s => s.getRow f 0x70 (byteAt f.req 17)))

/-- `DISP_SET` (R421). -/
def execDispSet (t tag : Nat) (s : State) : Host.Outcome State Fault Refusal :=
  .next (s.withCur t tag 0x0B01 (fun f s => s.setRow f 0x60 (byteAt f.req 16) 4))

/-- `DISP_WAVE_SET` (R421, R488): the entry of the same set and band is replaced, else a new one is appended. -/
def execDispWaveSet (t tag : Nat) (s : State) : Host.Outcome State Fault Refusal :=
  .next (s.withCur t tag 0x0B02 (fun f s =>
    let m := s.image true
    s.edited f (setKeyed m 0x61 (fun a => decide (m.u8 a = byteAt f.req 16) && decide (m.u8 (a + 1) = byteAt f.req 17))
      f.payload)))

/-- `IO_DI_SET` (R464). -/
def execIoDiSet (t tag : Nat) (s : State) : Host.Outcome State Fault Refusal :=
  .next (s.withCur t tag 0x0E01 (fun f s => s.setRow f 0x80 f.unit 0))

/-- `IO_AO_SET` (R464). -/
def execIoAoSet (t tag : Nat) (s : State) : Host.Outcome State Fault Refusal :=
  .next (s.withCur t tag 0x0E02 (fun f s => s.setRow f 0x81 f.unit 0))

/-- `IO_GET` (R464): payload byte 1 selects the table, byte 2 the entry, of which there are 16 or 8. -/
def execIoGet (t tag : Nat) (s : State) : Host.Outcome State Fault Refusal :=
  .next (s.withCur t tag 0x0E03 (fun f s =>
    if byteAt f.req 17 = 1 ∧ 7 < byteAt f.req 18 then s.refuse f (.badField, 18, [])
    else s.getRow f (if byteAt f.req 17 = 1 then 0x81 else 0x80) (byteAt f.req 18)))

end Sys2Proof.Machine
end

