-- ==== Sys2Proof/Machine/Insul.lean ====
section
/-!
DEFINITION. The insulation monitors (R111 to R119).
-/

namespace Sys2Proof.Machine

open Sys2Proof

/-- Insulation state of bank `b` changed. -/
def State.modInsul (s : State) (b : Nat) (f : InsulSt → InsulSt) : State := s.modBank b (fun k => { k with insul := f k.insul })
/-- Insulation state of bank `b`. -/
def State.insul (s : State) (b : Nat) : InsulSt := (s.bank b).insul

/-- Phase of a bank's insulation period, ns: its slot is (b + n) mod 8 (R112). -/
def State.insulPhase (s : State) (b : Nat) : Nat := (s.clk.base + secs 4 - (b + s.bus.nodeId) % 8 * ms 500) % secs 4

/-- The generator takes an edge (R111, Table 04.22): it starts at a period boundary only. -/
def State.generatorEdge (s : State) (b : Nat) : State :=
  let first := decide (s.insulPhase b < secs 2)
  let g := (s.insul b).gen
  if !s.bankUp b || (s.insul b).hullRef || s.pwr.state = .standby || s.pwr.state = .holdup then s
  else if g = 0 then
    (if first then s.modInsul b (fun i => { i with gen := 1, ran := false, published := false, spans := false, periods := 0, streak := 0, lowCap := none,
                                                    stepRun := 0, stepSlot := 0 }) else s)
  else s.modInsul b (fun i => { i with gen := if first then 1 else 2 })

/-- 50 MΩ: the highest resistance that is reported (R115). -/
def fifty : F32 := F32.ofInt 50000000

/-- A resistance as reported, and whether it is above range; one that comes out negative or not finite counts as above range (the
model's choice, log entry 149). -/
def capRes (r : F32) : F32 × Bool :=
  if !r.finite || r.neg? || fifty.lt r then (fifty, true) else (r, false)

/-- Results of an undisturbed period (R113, R115). -/
def insulResult (i : InsulSt) (m : InsulIn) : InsulSt :=
  let dv := m.v1.sub m.v2
  let di := m.i1.sub m.i2
  let rb := capRes (dv.div di)
  let q := (m.qEdge.div dv).mul (F32.ofInt 1000000)
  let cb := if q.finite then q else Config.capUndefined
  let idc := (m.i1.add m.i2).div (F32.ofInt 2)
  let rc := (List.range 8).map (fun k => (capRes (dv.div ((m.ich1.getD k 0).sub (m.ich2.getD k 0)))).1)
  let low := F32.ofInt 500000
  let clear := (List.range 8).map (fun k =>
    if tst i.located k && (F32.ofInt 1000000).lt (rc.getD k 0) then i.clearRun.getD k 0 + 1 else 0)
  let loc := (List.range 8).map (fun k =>
    (rc.getD k 0).lt low || (tst i.located k && decide (clear.getD k 0 < 2)))
  let ks := (List.range 8).filter (fun k => loc.getD k false)
  let g := F32.sum (ks.map (fun k => (1065353216 : F32).div (rc.getD k 0)))
  let vf := match ks with | [k] => idc.mul ((rc.getD k 0).add (F32.ofInt 100000)) | _ => 0
  { i with rBank := rb.1, above := rb.2, cBank := cb, cap := (1065353216 : F32).lt cb,
           lowCap := some (cb.lt (F32.ofRat (2 / 10000))), rCh := rc, located := packBits loc, clearRun := clear, vFault := vf,
           notLocated := rb.1.lt low && (g.add g).lt ((1065353216 : F32).div rb.1),
           disturbed := false, valid := true, streak := 0 }

/-- A period is disturbed (R114). -/
def insulDisturbed (i : InsulSt) (m : InsulIn) : Bool :=
  let di := (m.i1.sub m.i2).abs.toRat
  let thr := max ((5 : Rat) / 10000000) (di / 2 * 5 / 100)
  !i.ran || i.spans || m.regLost || decide (thr < m.half.abs.toRat) || decide (thr < m.depart.abs.toRat)

/-- The monitor at the end of a period: steps that coincide with another slot in three consecutive periods show an
inter-bank leak, whose results are computed between the steps (Table 04.22); while it stands no difference between halves and
no departure disturbs a period (the model's choice, log entry 150). -/
def insulPeriod (i : InsulSt) (m : InsulIn) : InsulSt :=
  let run := match m.stepSlot with | some k => if i.stepSlot = k then i.stepRun + 1 else 1 | none => 0
  let leak := decide (3 ≤ run)
  let i1 := { i with stepRun := run, stepSlot := m.stepSlot.getD 0, periods := i.periods + 1, interBank := leak,
                     interSlot := if leak then m.stepSlot.getD 0 else 0 }
  let dist := insulDisturbed i { m with half := if leak then 0 else m.half, depart := if leak then 0 else m.depart }
  let i2 := if dist then { i1 with disturbed := true, lowCap := none, streak := i1.streak + 1, valid := i1.valid && decide (i1.streak + 1 < 3) }
    else { (insulResult i1 m) with count := i1.periods % 256 }
  { i2 with ran := true, spans := false, published := i2.published || !dist }

/-- Events of a channel that becomes located or cleared (Table 04.21). -/
def State.logEarth (s : State) (b : Nat) (old new : InsulSt) : State :=
  s.each 8 (fun s k =>
    let n := 8 * b + k
    let r := nearI ((new.rCh.getD k 0).toRat)
    if tst new.located k && !tst old.located k then
      s.logChan n 0x0307 6 r.toNat (twos 32 (nearI (new.vFault.toRat * 1000)))
    else if tst old.located k && !tst new.located k then s.logChan n 0x0308 4 r.toNat 0
    else s)

/-- The hull bond: every powered bank that measures reads below 200 pF (Table 04.22). -/
def State.hullCheck (s : State) : State :=
  let ks := s.banks.filter (fun k => decide (k.power = .up) && !k.insul.hullRef)
  let isOpen := !ks.isEmpty && ks.all (fun k => k.insul.lowCap = some true)
  let was := s.banks.any (fun k => k.insul.hullOpen)
  let now := isOpen || (was && !ks.isEmpty && ks.all (fun k => k.insul.lowCap ≠ some false))
  let s1 := { s with banks := s.banks.map (fun k =>
    { k with insul := { k.insul with hullOpen := now, valid := k.insul.valid && !now } }) }
  if now && !was then s1.logNode 0x030B 6 (s.banks.filter (fun k => k.powered)).length 0 else s1

/-- The end of an insulation period of bank `b` (R113, R118). -/
def State.insulEnd (s : State) (b : Nat) (m : InsulIn) : State :=
  let old := s.insul b
  if old.gen = 0 ∨ old.hullRef then s
  else
    let new := insulPeriod old m
    let s1 := (s.modInsul b (fun _ => new)).logEarth b old new
    let s2 := if new.notLocated && !old.notLocated then s1.logBank b 0x0309 6 (nearI new.rBank.toRat).toNat 0 else s1
    let s3 := if new.interBank && !old.interBank then s2.logBank b 0x030A 5 new.interSlot 0 else s2
    s3.hullCheck

/-- Bank insulation record (Table 04.19). -/
def State.insulBytes (s : State) (b : Nat) : List Byte :=
  let i := s.insul b
  let fl := bit i.valid + 2 * bit i.disturbed + 4 * bit i.above + 8 * bit i.cap + 16 * bit i.notLocated +
    32 * bit i.interBank + 64 * bit i.hullOpen + 128 * bit i.hullRef + 8192 * (i.interSlot % 8)
  leF32 i.rBank ++ leF32 i.cBank ++ leF32 i.vFault ++ le8 i.located ++ le8 i.count ++ le16 fl ++
    (i.rCh.map leF32).flatten

/-- `GENERATOR_EDGE` (R111, R112). -/
def execGeneratorEdge (t bank : Nat) (s : State) : Host.Outcome State Fault Refusal :=
  guardUnit (decide (bank < 8)) ((s.advance t).generatorEdge bank)
/-- `INSULATION_PERIOD_END` (R113). -/
def execInsulationPeriodEnd (t bank : Nat) (m : InsulIn) (s : State) : Host.Outcome State Fault Refusal :=
  guardUnit (decide (bank < 8)) ((s.advance t).insulEnd bank m)
/-- `CHAN_INSUL_READ` (R117). -/
def execChanInsulRead (t tag : Nat) (s : State) : Host.Outcome State Fault Refusal :=
  .next (s.withCur t tag 0x0305 (fun f s => s.ok f (s.insulBytes (byteAt f.req 16))))

end Sys2Proof.Machine
end

