-- ==== Sys2Proof/Machine/Chans.lean ====
section
/-!
DEFINITION. Input channels at a capture (chapters 05 and 06): filter restarts, wire breaks, overloads, quality, contacts,
their records, and the rows of these events.
-/

namespace Sys2Proof.Machine

open Sys2Proof

/-! ## Events between captures -/

/-- Wire-break detection works on a channel (R136, R137, R164). -/
def State.breakable (s : State) (n : Nat) : Bool :=
  let f := s.func n
  isCurIn f || (decide (5 ≤ f) && decide (f ≤ 9) && s.chOpt n 0) || (decide (f = 12) && s.chOpt n 3)

/-- How many windows at the end of a list are of a class. -/
def trailing (w : WbWin) (l : List WbWin) : Nat := (l.reverse.takeWhile (fun x => decide (x = w))).length

/-- Length of a wire-break window. -/
def winNs : Nat := us 125

/-- Start of the run of windows of class `w` that ends now: an earlier start is kept when every window is of the class. -/
def runStart (w : WbWin) (l : List WbWin) (now : Nat) (prev : Option Nat) : Option Nat :=
  let k := trailing w l
  if l.isEmpty then prev
  else if k = 0 then none
  else if k = l.length then some (prev.getD (now - k * winNs)) else some (now - k * winNs)

/-- The break state after the windows of a capture (Table 05.13); the Bool says that a break was noticed. -/
def ChanSt.breakStep (c : ChanSt) (l : List WbWin) (now : Nat) : ChanSt × Bool :=
  match l.getLast? with
  | none => (c, false)
  | some w =>
    match c.brk with
    | .none =>
      if w = .over_ then ({ c with brk := .noticed, brkAt := now - trailing .over_ l * winNs, okSince := none }, true) else (c, false)
    | .noticed =>
      ({ c with brk := if w = .between then .noticed else .open_, okSince := runStart .under l now none }, false)
    | .open_ => ({ c with okSince := runStart .under l now c.okSince }, false)

/-- 100 ms of windows under threshold: the filter restarts (Table 05.13). -/
def State.wireRestore (s : State) (n : Nat) : State :=
  let c := s.chan n
  if c.brk = .open_ && held c.okSince s.clk.now (ms 100) then
    (s.modChan n (fun c => { c with brk := .none, okSince := none, restart := true })).logChan n 0x0310 3
      (min 0xFFFFFFFF ((c.okSince.getD 0 - c.brkAt) / 1000000)) 0
  else s

/-- 1 ms without overload: the filter restarts (R140). -/
def State.overloadEnd (s : State) (n : Nat) : State :=
  match (s.chan n).ovl with
  | some (_, t) => if t + ms 1 ≤ s.clk.now then s.modChan n (fun c => { c with ovl := none, restart := true }) else s
  | none => s

/-- Settling and notch marks at a capture (R131, R134): each counts the captures left, its end included. -/
def ChanSt.settleStep (c : ChanSt) (profile : Nat) : ChanSt :=
  let c1 := { c with notchSuspect := c.notchSuspect - 1 }
  if c1.restart then
    { c1 with restart := false, settle := settleFrames profile, fill := 0, beyond := none, bursts := [], mismatch := [],
              filt := c1.filt.restarted, vibf := {} }
  else { c1 with settle := c1.settle - 1 }

/-! ## Readings -/

/-- Mismatch of the two sources that the step of the reading across an exchange measures: half of it, with the sign of the
exchange (R156). -/
def mismatchStep (exchanged : Bool) (before after : Int) : Int :=
  divRound (if exchanged then after - before else before - after) 2

/-- A mismatch measured at an exchange joins the last 16 (R156). -/
def ChanSt.addMismatch (c : ChanSt) (m : Int) : ChanSt := { c with mismatch := (c.mismatch ++ [m]).reverse.take 16 |>.reverse }

/-- The step that the stream showed across an exchange joins the mismatches; the sources have changed places at it. -/
def ChanSt.stepTaken (c : ChanSt) : ChanSt :=
  match c.filt.step with
  | some (b, some a) => c.addMismatch (mismatchStep (!c.exchanged) (ratRound b) (ratRound a))
  | _ => c

/-- Mismatch removed from an RTD_3W reading (R156). -/
def State.mismatchOf (s : State) (n : Nat) : Int :=
  let c := s.chan n
  let m := if c.mismatch.length < 16 then Config.mismatch0 n else divRound c.mismatch.sum 16
  if c.exchanged then -m else m

/-- Mean of a list of readings. -/
def meanI (l : List Int) : Int := if l.isEmpty then 0 else divRound l.sum l.length

/-- Uncalibrated reading of a channel at a capture: the mean of the last six bursts in `ECONOMY` (Table 05.6), source mismatch
removed (R156). -/
def State.reading (s : State) (n : Nat) (x : ChIn) : Int × List Int :=
  let c := s.chan n
  let f := s.func n
  let r := if isVib f then x.stream.getLastD x.raw
    else if f = 6 then x.raw - s.mismatchOf n else x.raw
  let l := (c.bursts ++ [r]).reverse.take 6
  if s.frame.profile = 3 && isFiltered f then (meanI l, l.reverse) else (r, [])

/-- Window of a vibration channel in samples (R159, R162). -/
def State.window (s : State) (n : Nat) : Nat :=
  if s.frame.profile = 3 then 256
  else match s.chField n 38 1 % 4 with | 0 => 256 | 1 => 1024 | 2 => 4096 | _ => 16384

/-- A stage-1 sample (R159). -/
def State.stage1 (s : State) (n : Nat) (raw : Int) : F32 := (s.scaleCh n (s.calibrate n raw).y).1

/-- Age in samples of the last sample of a list beyond range, with its polarity (R160): with both polarities in the window the latest
sample decides (the model's choice, log entry 175). -/
def lastBeyond (fs : Rat) : List F32 → Option (Nat × Bool) → Option (Nat × Bool)
  | [], p => p
  | y :: r, p =>
    let p1 := p.map (fun q => (q.1 + 1, q.2))
    lastBeyond fs r (match (rangeCheck fs y).2 with | .above => some (0, true) | .below => some (0, false) | .no => p1)

/-- Stages 2 to 5 of the samples of a capture (R159). -/
def State.vibChain (s : State) (n : Nat) (st : List F32) : VibF :=
  st.foldl (fun v y => v.push (s.chField n 38 1) (s.window n) (tst (s.chField n 39 1) 1) y.toRat) (s.chan n).vibf

/-- The vibration chain of a capture: window fill, samples beyond range, charge block, statistic (R159 to R161). At the
tick of a restart (`re`) the window begins anew with the samples that follow the tick. -/
def State.vibStep (s : State) (n : Nat) (x : ChIn) (re : Bool) : State :=
  let w := s.window n
  let ys := x.stream.map (fun r => (s.calibrate n r).y)
  let st := ys.map (fun y => (s.scaleCh n y).1)
  let b := lastBeyond (s.fs n) ys (s.chan n).beyond
  s.modChan n (fun c =>
    { c with fill := if re then 0 else min w (c.fill + x.stream.length), block := (c.block ++ st).drop st.length,
             vibf := if re then {} else s.vibChain n st
             beyond := if re then none else match b with | some (a, p) => if a < w then some (a, p) else none | none => none })

/-! ## Contacts (R164) -/

/-- Class of a circuit resistance (Table 06.3). -/
inductive ContactClass where
  | closed | open_ | kept | short | broken
deriving DecidableEq, Repr

/-- Table 06.3, resistance in Ω. -/
def contactClass (mon : Bool) (r : Rat) : ContactClass :=
  if mon then
    if r < 300 then .short else if r < 3000 then .closed else if r < 5000 then .kept
    else if r ≤ 30000 then .open_ else .broken
  else if r < 500 then .closed else if r < 2000 then .kept else .open_

/-- The contact state after one capture: a new class holds for the debounce count (R164). -/
def ChanSt.contactStep (c : ChanSt) (k : ContactClass) (deb : Nat) : ChanSt :=
  let go (v : Bool) : ChanSt :=
    if v = c.contact then { c with cand := none }
    else
      let m := match c.cand with | some (w, m) => if w = v then m + 1 else 1 | none => 1
      if deb ≤ m then { c with contact := v, cand := none } else { c with cand := some (v, m) }
  match k with
  | .closed => go true
  | .open_ => go false
  | _ => { c with cand := none }

/-! ## Quality (Table 05.14) -/

/-- Lands a channel's function uses: bank-relative indices (R149, R150). -/
def State.landsOf (s : State) (n : Nat) : List Nat :=
  let own := [2 * (n % 8), 2 * (n % 8) + 1]
  match s.partnerOf n with
  | some p => own ++ [2 * (p % 8), 2 * (p % 8) + 1] ++ (if s.func n = 9 then [16, 17] else [])
  | none => own

/-- A land of the channel beyond its range, with its polarity (R107). -/
def State.landOf (s : State) (n : Nat) : Option Bool :=
  (s.landsOf n).findSome? (fun l =>
    let x := (s.bank (n / 8)).lands.getD l {}
    if x.beyond then some x.above else none)

/-- A cold-junction source that is not usable makes a compensated thermocouple SUSPECT (R157). -/
def State.cjBad (s : State) (n : Nat) : Bool :=
  let c := s.chField n 3 1
  decide (s.func n = 8) && decide (16 ≤ c) && decide (c ≤ 23) && !(s.coldJunction n).2

/-- Polarity as a quality. -/
def polarity (above : Bool) : Quality := if above then .overRange else .underRange

/-- Quality of an input channel, and whether the value field carries the computed value; `b` is the range condition of
the value, `now` says that a break was noticed at this capture (Table 05.14, R141). A vibration window that a tuning change has
enlarged is SETTLING until it has filled (R160; the model's choice, log entry 174). -/
def State.inQuality (s : State) (n : Nat) (b : Beyond) (now load : Bool) : Quality × Bool :=
  let c := s.chan n
  let k := s.bank (n / 8)
  let f := s.func n
  let amp := if f = 10 then (match (s.amp (n / 8) (n % 8 - 6)).state with
    | .holding _ => some (s.amp (n / 8) (n % 8 - 6)).positive | _ => none) else none
  if f = 0 ∨ !s.bankUp (n / 8) then (.disabled, true)
  else
    match s.landOf n with
    | some p => (polarity p, false)
    | none =>
      if now || c.brk = .noticed then (.suspect, true)
      else if c.brk = .open_ || c.biasOpen then (.open_, false)
      else if c.biasShort then (.underRange, false)
      else
        match amp, (match c.ovl with | some o => some o | none => c.ovlNew.map (fun p => (p, 0))), b with
        | some p, _, _ => (polarity p, true)
        | none, some (p, _), _ => (polarity p, false)
        | none, none, .above => (.overRange, true)
        | none, none, .below => (.underRange, true)
        | none, none, .no =>
          if 0 < c.settle || (isVib f && decide (c.fill < s.window n)) then (.settling, false)
          else if !k.aligned then (.suspect, false)
          else if s.linkSuspect (n / 8) || (f = 9 && k.vexFault) || 0 < c.notchSuspect || c.calNone || s.cjBad n then (.suspect, true)
          else if load then (.calLoad, true) else (.good, true)

/-- Computed value of an input channel and its range condition. -/
def State.inValue (s : State) (n : Nat) (y : F32) : F32 × Beyond :=
  let f := s.func n
  let c := s.chan n
  if f = 12 then
    (flagVal c.contact, if contactClass (s.chOpt n 3) y.toRat = .short then .below else .no)
  else if isVib f then
    let r := scale 1065353216 0 (c.vibf.stat (tst (s.chField n 39 1) 0))
    (r.1, (match c.beyond with | some (_, p) => if p then .above else .below | none => .no : Beyond).or r.2)
  else s.engValue n y

/-- Wire-break windows of a capture; those of a contact follow from its resistance (R164). -/
def State.windowsOf (s : State) (n : Nat) (x : ChIn) (y : F32) : List WbWin :=
  if !s.breakable n then []
  else if s.func n = 12 then [if contactClass true y.toRat = .broken then .over_ else .under]
  else x.wins.map (winClass (isCurIn (s.func n)))

/-- The wire break of a capture; the answer says whether it was noticed now. -/
def State.breakCapture (s : State) (n : Nat) (l : List WbWin) : State × Bool :=
  if !s.breakable n then (s.modChan n (fun c => { c with brk := .none, okSince := none }), false)
  else
    let p := (s.chan n).breakStep l s.clk.now
    let s1 := s.modChan n (fun _ => p.1)
    ((if p.2 then s1.logChan n 0x030F 5 0 0 else s1).wireRestore n, p.2)

/-- The contact of a `SWITCH` channel takes its class while the quality is usable (R164, R175). -/
def State.contactCapture (s : State) (n : Nat) (y : F32) (q : Quality) : State :=
  if s.func n ≠ 12 then s.modChan n (fun c => { c with contact := false, cand := none })
  else if q = .good ∨ q = .calLoad then
    s.modChan n (fun c => c.contactStep (contactClass (s.chOpt n 3) y.toRat) (s.chField n 7 1))
  else s.modChan n (fun c => { c with cand := none })

/-- Cold-junction bookkeeping (R157). -/
def State.cjCapture (s : State) (n : Nat) : State :=
  let j := s.coldJunction n
  s.modChan n (fun c => { c with cjDegraded := s.cjBad n, lastCj := if j.2 then j.1 else c.lastCj })

/-- Steps 1 and 2 for an input channel at the capture of frame `seq`. An input whose function still waits for a shutdown is
DISABLED (R200, R392). In a frame that is not its bank's an input keeps the quality of its record, also right after a change into
`ECONOMY`, in place of SETTLING (R27, R29; the model's choice, log entry 171). -/
def State.captureIn (s : State) (seq n : Nat) (x : ChIn) : State :=
  if s.func n = 0 then
    (if s.bankFrame (n / 8) seq then
      (s.outDemand n).modChan n (fun c =>
        { ({} : ChanSt) with seqLow := seq % 65536, held := true, lastGood := c.lastGood, calBadLog := c.calBadLog,
                             calLoadLog := c.calLoadLog, filt := c.filt.taken, flags := c.flags, last := c.last })
     else (s.outDemand n).modChan n (fun c => { c with sw0c := false, sw1c := false, stream := [] }))
  else if s.pendingStart n then
    let s1 := s.outDemand n
    if s.bankFrame (n / 8) seq then
      ((s1.modChan n (fun c => { c with raw := 0, stream := [], filt := c.filt.taken })).publishChan n seq .disabled (some 0)).calSample n 0
    else s1.modChan n (fun c => { c with sw0c := false, sw1c := false, stream := [] })
  else
    let x := s.chIn n x
    let re := (s.chan n).restart || decide ((s.overloadEnd n).chan n |>.restart)
    let s0 := (s.overloadEnd n).modChan n ChanSt.stepTaken
    let active := s0.bankFrame (n / 8) seq
    let rd := s0.reading n x
    let cal := s0.calibrate n rd.1
    let (s1, now) := if active && s0.bankUp (n / 8) then s0.breakCapture n (s0.windowsOf n x cal.y) else (s0, false)
    let s2 := s1.modChan n (fun c => c.settleStep s.frame.profile)
    if !active then s2.modChan n (fun c => { c with sw0c := false, sw1c := false, stream := [] })
    else if !s2.bankUp (n / 8) then
      ((s2.modChan n (fun c => { c with raw := 0, stream := [], calNone := false, calField := false, cjDegraded := false })).publishChan
        n seq .disabled (some 0)).calSample n cal.x
    else
      let s3 := s2.modChan n (fun c => { c with bursts := if s2.frame.profile = 3 then rd.2 else [] })
      let s4 := if isVib (s.func n) then s3.vibStep n x re else s3
      let s5 := (s4.noteCal n cal.load).cjCapture n
      let b0 := (s5.inValue n cal.y).2
      let q := s5.inQuality n b0 now cal.load
      let s6 := s5.contactCapture n cal.y q.1
      let v := (s6.inValue n cal.y).1
      let st := if s.func n < 10 && s6.frame.profile < 2 then x.stream.map (s6.streamValue n) else []
      -- the sample of the tick that opened the frame stands in front (R224)
      let st := if st.isEmpty then [] else (s6.chan n).stream.getLastD (s6.chan n).val :: st
      let raw := rawOf cal.y (s.fs n)
      ((s6.modChan n (fun c => { c with raw := if s.func n = 12 then min 1073741824 raw else raw, stream := st, ovlNew := none,
                                        filt := c.filt.taken })).publishChan n seq q.1
        (if q.2 then some v else none)).calSample n cal.x

/-! ## A slip (R51) -/

/-- What the capture to come may change is kept as it stands. -/
def ChanSt.keep (c : ChanSt) : ChanSt :=
  { c with last := { val := c.val, raw := c.raw, q := c.q, lastGood := c.lastGood, sw0 := c.sw0, sw1 := c.sw1, sw0c := c.sw0c,
                     sw1c := c.sw1c, held := c.held, contact := c.contact, cand := c.cand, seqLow := c.seqLow,
                     bursts := c.bursts, flags := c.flags } }

/-- The last capture is taken back. -/
def ChanSt.restore (c : ChanSt) : ChanSt :=
  let r := c.last
  { c with val := r.val, raw := r.raw, q := r.q, lastGood := r.lastGood, sw0 := r.sw0, sw1 := r.sw1, sw0c := r.sw0c,
           sw1c := r.sw1c, held := r.held, contact := r.contact, cand := r.cand, seqLow := r.seqLow, bursts := r.bursts,
           flags := r.flags }

/-! ## Records (R161, R176, R177) -/

/-- Switch bits (Table 06.9). -/
def ChanSt.swBits (c : ChanSt) : Nat :=
  bit c.sw0 + 2 * bit c.sw1 + 4 * bit c.sw0c + 8 * bit c.sw1c + 16 * bit c.contact + 128 * bit c.held

/-- Flags of a channel record (Table 06.8). -/
def State.chanFlags (s : State) (n : Nat) : Nat :=
  let c := s.chan n
  let k := s.bank (n / 8)
  let a := s.amp (n / 8) (n % 8 - 6)
  let amp := decide (6 ≤ n % 8)
  let isHold := match a.state with | .holding _ => true | _ => false
  let pend := (s.out n).reenable || (amp && a.reenable) || (k.reenable && s.isConsumer n)
  64 * bit (amp && isHold) + 128 * bit (s.func n = 9 && k.vexFault) + 256 * bit c.calNone + 512 * bit c.calField +
    1024 * bit c.cjDegraded + 2048 * bit pend + 4096 * bit (s.out n).compl + 8192 * bit (s.paired n) +
    16384 * bit (s.chOpt n 1) + 32768 * bit (tst k.insul.located (n % 8))

/-- The flags of the records that a frame makes are taken with them: outside the frames of its bank a channel repeats its
record (R27, R202). -/
def State.takeFlags (s : State) (seq : Nat) : State :=
  s.each 64 (fun s n => if s.bankFrame (n / 8) seq then s.modChan n (fun c => { c with flags := s.chanFlags n }) else s)

/-- Channel record (Table 06.7). -/
def State.chanBytes (s : State) (n : Nat) : List Byte :=
  let c := s.chan n
  leF32 c.val ++ leS32 c.raw ++ le8 c.q.code ++ le8 c.swBits ++ le16 (s.cfg.roles.get .chan n) ++ le16 c.seqLow ++
    le16 c.flags

/-- Charge block `c` (R161). -/
def State.chargeBytes (s : State) (c : Nat) : List Byte :=
  let n := 8 * (c / 2) + 6 + c % 2
  if isVib (s.func n) then ((s.chan n).block.map leF32).flatten else zeros 32

/-! ## The notch (R129 to R132) -/

/-- A fresh generator frequency message: of the lowest node (R313). -/
def State.genFresh (s : State) : Option Nat :=
  ((s.bus.net.genFreq.filter (fun g => decide (s.clk.now < g.2.2 + ms 300))).foldl
    (fun a g => match a with | some b => if g.1 < b.1 then some g else a | none => some g) none).map (fun g => g.2.1)

/-- The notch changed. -/
def State.modNotch (s : State) (f : NotchSt → NotchSt) : State := { s with notch := f s.notch }

/-- The notch takes another source (Table 05.10). -/
def State.notchTo (s : State) (src : MainsSrc) (ft : Nat) : State :=
  (s.modNotch (fun n => { n with src, ft, run := 0, busRejected := [], busOut := false })).logNode 0x030E 3
    (match src with | .local_ => 0 | .bus => 1 | .held => 2) ft

/-- A step of the tracked frequency marks every LATENCY channel for 32 frames (R131). The local cycles that made it count as
accepted for the 75 ms of Table 05.10 (the model's choice, log entry 153). -/
def State.notchStep (s : State) (ft : Nat) : State :=
  let s1 := (s.modNotch (fun n => { n with ft, rejected := [], busRejected := [],
                                           lastOk := if n.src = .local_ then s.clk.now else n.lastOk })).logNode 0x030D 4 s.notch.ft ft
  if s.frame.profile = 0 then
    s1.each 64 (fun s n => if isFiltered (s.func n) then s.modChan n (fun c => { c with notchSuspect := 33 }) else s)
  else s1

/-- Two frequencies within a distance, in mHz. -/
def near (a b d : Nat) : Bool := decide (a ≤ b + d) && decide (b ≤ a + d)

/-- Three consecutive rejected cycles that agree within 0.1 Hz (Table 05.9). -/
def agree (l : List Nat) : Option Nat :=
  match l with
  | [a, b, c] => if near a b 100 && near b c 100 && near a c 100 then some ((a + b + c + 1) / 3) else none
  | _ => none

/-- One local cycle of frequency `fc` in mHz under the tracking law (Tables 05.9, 05.10). -/
def State.mainsCycle (s : State) (fc : Nat) : State :=
  let n := s.notch
  if fc < 40000 ∨ 70000 < fc then
    let s1 := s.modNotch (fun n => { n with excursion := true, run := 0, rejected := [] })
    if n.excursion then s1 else s1.logNode 0x030C 4 fc 0
  else if near fc n.ft 2000 then
    let s1 := s.modNotch (fun n => { n with excursion := false, rejected := [], run := n.run + 1, lastOk := s.clk.now,
                                            ft := if n.src = .local_ then fc else n.ft })
    if n.src ≠ .local_ ∧ 8 ≤ s1.notch.run then s1.notchTo .local_ fc else s1
  else
    let l := (n.rejected ++ [fc]).reverse.take 3 |>.reverse
    let s1 := s.modNotch (fun n => { n with excursion := false, rejected := l, run := 0 })
    match agree l with
    | some m => if n.src = .local_ then s1.notchStep m else s1
    | none => s1

/-- The instant of a positive-going zero crossing of `MAINS_REF`, interpolated between its two samples to 1 ns (R129). -/
def crossAt (m : MainsIn) (now : Nat) : Nat := now - m.step * m.after / max 1 (m.before + m.after)

/-- A crossing. A valid input gives one cycle frequency per interval, in mHz; an invalid one none (R129, R130). -/
def State.mainsCross (s : State) (m : MainsIn) : State :=
  let at_ := crossAt m s.clk.now
  if m.rms < 700 ∨ 14000 < m.rms then s.modNotch (fun n => { n with valid := false, lastCross := none, run := 0, rejected := [] })
  else
    let s1 := s.modNotch (fun n => { n with valid := true, lastCross := some at_ })
    match s.notch.lastCross with
    | some p => if p < at_ then s1.mainsCycle ((1000000000000 + (at_ - p) / 2) / (at_ - p)) else s1
    | none => s1

/-- A received generator frequency moves a notch on the bus source, under the range and 2 Hz rules for its messages
(Tables 05.9, 05.10). -/
def State.mainsBus (s : State) (fm : Nat) : State :=
  if s.notch.src ≠ .bus then s
  else if fm < 40000 ∨ 70000 < fm then
    let s1 := s.modNotch (fun n => { n with busOut := true, busRejected := [] })
    if s.notch.busOut then s1 else s1.logNode 0x030C 4 fm 0
  else if near fm s.notch.ft 2000 then s.modNotch (fun n => { n with ft := fm, busRejected := [], busOut := false })
  else
    let l := (s.notch.busRejected ++ [fm]).reverse.take 3 |>.reverse
    let s1 := s.modNotch (fun n => { n with busRejected := l, busOut := false })
    match agree l with | some m => s1.notchStep m | none => s1

/-- Entering the bus source takes its frequency within the range and 2 Hz rules. -/
def busFt (ft fm : Nat) : Nat := if 40000 ≤ fm ∧ fm ≤ 70000 ∧ near fm ft 2000 then fm else ft

/-- The source of the notch falls away (Table 05.10). -/
def State.mainsSource (s : State) : State :=
  match s.notch.src, s.genFresh with
  | .local_, some fm =>
    if s.notch.lastOk + ms 75 ≤ s.clk.now ∨ s.notch.valid = false then (s.notchTo .bus (busFt s.notch.ft fm)).mainsBus fm else s
  | .local_, none => if s.notch.lastOk + ms 75 ≤ s.clk.now ∨ s.notch.valid = false then s.notchTo .held s.notch.ft else s
  | .bus, none => s.notchTo .held s.notch.ft
  | _, _ => s

/-! ## Rows -/

/-- `MAINS_CYCLE` (R130). -/
def execMainsCycle (t : Nat) (m : MainsIn) (s : State) : Host.Outcome State Fault Refusal := .next ((s.advance t).mainsCross m)
/-- `MAINS_SOURCE` (R132). -/
def execMainsSource (t : Nat) (s : State) : Host.Outcome State Fault Refusal := .next (s.advance t).mainsSource
/-- `NOTCH_SUSPECT_END` (R131): the mark of a channel has run its 32 frames. -/
def execNotchSuspectEnd (t ch : Nat) (s : State) : Host.Outcome State Fault Refusal :=
  guardUnit (decide (ch < 64)) ((s.toFrame t).modChan ch (fun c => if c.notchSuspect = 1 then { c with notchSuspect := 0 } else c))
/-- `SETTLING_END` (R134): the settling length of a channel has run out. -/
def execSettlingEnd (t ch : Nat) (s : State) : Host.Outcome State Fault Refusal :=
  guardUnit (decide (ch < 64)) ((s.toFrame t).modChan ch (fun c => if c.settle = 1 then { c with settle := 0 } else c))
/-- `WIRE_RESTORED` (Table 05.13). -/
def execWireRestored (t ch : Nat) (s : State) : Host.Outcome State Fault Refusal :=
  guardUnit (decide (ch < 64)) ((s.toFrame t).wireRestore ch)
/-- `MODULATOR_OVERLOAD` (R140). -/
def execModulatorOverload (t ch : Nat) (positive : Bool) (s : State) : Host.Outcome State Fault Refusal :=
  let s1 := s.advance t
  guardUnit (decide (ch < 64)) (if isInput (s1.func ch) then s1.modChan ch (fun c => { c with
      ovl := some (positive, s1.clk.now), ovlNew := some positive
      filt := { c.filt with run := 0, clear := resetBits (isVib (s1.func ch)) } }) else s1)
/-- `MODULATOR_OVERLOAD_END` (R140). -/
def execModulatorOverloadEnd (t ch : Nat) (s : State) : Host.Outcome State Fault Refusal :=
  guardUnit (decide (ch < 64)) ((s.advance t).overloadEnd ch)
/-- The instant is that of a tick, the one at hand or the one just run, and network time there, the nearest multiple of the
period, is a whole second (R156). -/
def State.atSecond (s : State) : Bool :=
  let p := periodOf s.frame.profile
  s.frame.running && (decide (s.clk.now = s.frame.nextTick) || decide (s.clk.now = s.frame.captNow)) &&
    decide ((s.clk.base + p / 2) % 1000000000 < p)

/-- The two sources of an `RTD_3W` channel change places, once at the tick: the stream holds its last sample for 250 µs, eight
samples, and the step that the reading makes measures their mismatch (R95, R156). Where link frames bring the stream the step is
taken from it at the next capture, else it is that of the readings given. -/
def State.exchange (s : State) (n : Nat) (m : ExchIn) : State :=
  if (s.chan n).exchAt = some s.clk.now then s
  else
    (s.modChan n (fun c =>
      let c1 := { c with exchanged := !c.exchanged, exchAt := some s.clk.now, filt := { c.filt with hold := 8, step := none } }
      if c.filt.xs.isEmpty then c1.addMismatch (mismatchStep c.exchanged m.before m.after) else c1)).bankSetup (n / 8)

/-- `SOURCE_EXCHANGE` (R95, R156). -/
def execSourceExchange (t ch : Nat) (m : ExchIn) (s : State) : Host.Outcome State Fault Refusal :=
  let s1 := s.advance t
  guardUnit (decide (ch < 64)) (if s1.func ch = 6 && s1.bankUp (ch / 8) && s1.atSecond then s1.exchange ch m else s1)

end Sys2Proof.Machine
end

