-- ==== Sys2Proof/Machine/Crypto.lean ====
section
/-!
DEFINITION. The standards chapter 16 and R323 name: SHA-256, AES-256, AES-CMAC and AES-256-GCM (PRESUMED from the
standards themselves: FIPS 180-4, FIPS 197, SP 800-38B, SP 800-38D), on byte strings.
-/

namespace Sys2Proof

/-! ## SHA-256 -/

/-- A 32-bit word turned right. -/
def rotr32 (x n : Nat) : Nat := (x / 2 ^ n) ||| (x * 2 ^ (32 - n) % 4294967296)

/-- The 64 round constants, the first in the highest 32 bits. -/
def shaConst : Nat :=
  0x428a2f9871374491b5c0fbcfe9b5dba53956c25b59f111f1923f82a4ab1c5ed5d807aa9812835b01243185be550c7dc372be5d7480deb1fe9bdc06a7c19bf174e49b69c1efbe47860fc19dc6240ca1cc2de92c6f4a7484aa5cb0a9dc76f988da983e5152a831c66db00327c8bf597fc7c6e00bf3d5a7914706ca63511429296727b70a852e1b21384d2c6dfc53380d13650a7354766a0abb81c2c92e92722c85a2bfe8a1a81a664bc24b8b70c76c51a3d192e819d6990624f40e3585106aa07019a4c1161e376c082748774c34b0bcb5391c0cb34ed8aa4a5b9cca4f682e6ff3748f82ee78a5636f84c878148cc7020890befffaa4506cebbef9a3f7c67178f2

/-- Round constant `i`. -/
def shaK (i : Nat) : Nat := shaConst / 2 ^ (32 * (63 - i)) % 4294967296

/-- The initial hash value. -/
def shaInit : List Nat := [0x6a09e667, 0xbb67ae85, 0x3c6ef372, 0xa54ff53a, 0x510e527f, 0x9b05688c, 0x1f83d9ab, 0x5be0cd19]

/-- Big-endian number of a byte string. -/
def beNat (b : List Byte) : Nat := b.foldl (fun a x => 256 * a + x.toNat) 0

/-- A number as `n` bytes, most significant first. -/
def beBytes (n x : Nat) : List Byte := ((List.range n).map (fun i => BitVec.ofNat 8 (x / 256 ^ i))).reverse

/-- Little-endian number of a byte string (R3). -/
def leNat (b : List Byte) : Nat := b.foldr (fun x a => x.toNat + 256 * a) 0

/-- A number as `n` bytes, least significant first (R3). -/
def leBytes (n x : Nat) : List Byte := (List.range n).map (fun i => BitVec.ofNat 8 (x / 256 ^ i))

/-- Next word of the message schedule, the words so far being given newest first. -/
def shaNext (w : List Nat) : Nat :=
  let x := w.getD 14 0
  let y := w.getD 1 0
  let s0 := rotr32 x 7 ^^^ rotr32 x 18 ^^^ (x / 8)
  let s1 := rotr32 y 17 ^^^ rotr32 y 19 ^^^ (y / 1024)
  (w.getD 15 0 + s0 + w.getD 6 0 + s1) % 4294967296

/-- The 64 words of a block's schedule. -/
def shaSchedule (block : List Byte) : List Nat :=
  let w := ((List.range 16).map (fun i => beNat ((block.drop (4 * i)).take 4))).reverse
  ((List.range 48).foldl (fun w _ => shaNext w :: w) w).reverse

/-- One round on the eight working words. -/
def shaRound (v : List Nat) (kw : Nat) : List Nat :=
  match v with
  | [a, b, c, d, e, f, g, h] =>
    let s1 := rotr32 e 6 ^^^ rotr32 e 11 ^^^ rotr32 e 25
    let ch := (e &&& f) ^^^ ((4294967295 - e) &&& g)
    let t1 := h + s1 + ch + kw
    let s0 := rotr32 a 2 ^^^ rotr32 a 13 ^^^ rotr32 a 22
    let mj := (a &&& b) ^^^ (a &&& c) ^^^ (b &&& c)
    [(t1 + s0 + mj) % 4294967296, a, b, c, (d + t1) % 4294967296, e, f, g]
  | _ => v

/-- One block. -/
def shaBlock (h : List Nat) (block : List Byte) : List Nat :=
  let v := (shaSchedule block).zipIdx.foldl (fun v x => shaRound v (shaK x.2 + x.1)) h
  (h.zip v).map (fun x => (x.1 + x.2) % 4294967296)

/-- SHA-256 of a byte string, 32 bytes. -/
def sha256 (m : List Byte) : List Byte :=
  let n := m.length
  let pad := (55 + 64 - n % 64) % 64
  let p := m ++ [0x80] ++ List.replicate pad 0 ++ beBytes 8 (8 * n)
  ((List.range (p.length / 64)).foldl (fun h i => shaBlock h ((p.drop (64 * i)).take 64)) shaInit).flatMap (beBytes 4)

/-! ## AES-256 -/

/-- The S-box, entry 0 in the highest byte. -/
def aesBox : Nat :=
  0x637c777bf26b6fc53001672bfed7ab76ca82c97dfa5947f0add4a2af9ca472c0b7fd9326363ff7cc34a5e5f171d8311504c723c31896059a071280e2eb27b27509832c1a1b6e5aa0523bd6b329e32f8453d100ed20fcb15b6acbbe394a4c58cfd0efaafb434d338545f9027f503c9fa851a3408f929d38f5bcb6da2110fff3d2cd0c13ec5f974417c4a77e3d645d197360814fdc222a908846eeb814de5e0bdbe0323a0a4906245cc2d3ac629195e479e7c8376d8dd54ea96c56f4ea657aae08ba78252e1ca6b4c6e8dd741f4bbd8b8a703eb5664803f60e613557b986c11d9ee1f8981169d98e949b1e87e9ce5528df8ca1890dbfe6426841992d0fb054bb16

/-- S-box of a byte. -/
def aesSub (x : Byte) : Byte := BitVec.ofNat 8 (aesBox / 256 ^ (255 - x.toNat))

/-- Multiplication by x in GF(2^8). -/
def aesX (x : Byte) : Byte := if 128 ≤ x.toNat then (x <<< 1) ^^^ 0x1B else x <<< 1

/-- Exclusive-OR of byte strings. -/
def xorBytes (a b : List Byte) : List Byte := (a.zip b).map (fun x => x.1 ^^^ x.2)

/-- Powers of x: the round constant of key word 8 i. -/
def aesRcon : Nat → Byte
  | 0 => 0x8D
  | i + 1 => aesX (aesRcon i)

/-- Next key word, the words so far being given newest first. -/
def aesKeyNext (w : List (List Byte)) (i : Nat) : List Byte :=
  let t := w.getD 0 []
  let u := if i % 8 = 0 then
      (match (t.drop 1 ++ t.take 1).map aesSub with | a :: r => (a ^^^ aesRcon (i / 8)) :: r | [] => [])
    else if i % 8 = 4 then t.map aesSub else t
  xorBytes (w.getD 7 []) u

/-- The 15 round keys of a 32-byte key. -/
def aesKeys (key : List Byte) : List (List Byte) :=
  let w0 := ((List.range 8).map (fun i => (key.drop (4 * i)).take 4)).reverse
  let w := ((List.range 52).foldl (fun w i => aesKeyNext w (i + 8) :: w) w0).reverse
  (List.range 15).map (fun i => ((w.drop (4 * i)).take 4).flatten)

/-- Rows shifted: byte r + 4 c comes from column c + r. -/
def aesShift (s : List Byte) : List Byte :=
  (List.range 16).map (fun i => s.getD ((i + 4 * (i % 4)) % 16) 0)

/-- Byte `i` of the mixed columns. -/
def aesMixAt (s : List Byte) (i : Nat) : Byte :=
  let c := i / 4 * 4
  let a := s.getD i 0
  let b := s.getD (c + (i + 1) % 4) 0
  aesX a ^^^ aesX b ^^^ b ^^^ s.getD (c + (i + 2) % 4) 0 ^^^ s.getD (c + (i + 3) % 4) 0

/-- The rounds after the first key addition. -/
def aesRounds : List (List Byte) → List Byte → List Byte
  | [], s => s
  | [k], s => xorBytes (aesShift (s.map aesSub)) k
  | k :: r, s =>
    let t := aesShift (s.map aesSub)
    aesRounds r (xorBytes ((List.range 16).map (aesMixAt t)) k)

/-- One block under round keys. -/
def aesBlock (keys : List (List Byte)) (b : List Byte) : List Byte :=
  match keys with | k :: r => aesRounds r (xorBytes b k) | [] => b

/-! ## AES-CMAC -/

/-- A 16-byte string doubled in GF(2^128), CMAC's order of bits. -/
def cmacDouble (b : List Byte) : List Byte :=
  let n := beNat b * 2
  beBytes 16 (if 2 ^ 128 ≤ n then (n - 2 ^ 128) ^^^ 0x87 else n)

/-- AES-CMAC of a byte string, 16 bytes. -/
def cmac (key m : List Byte) : List Byte :=
  let ks := aesKeys key
  let k1 := cmacDouble (aesBlock ks (List.replicate 16 0))
  let n := max 1 ((m.length + 15) / 16)
  let last := m.drop (16 * (n - 1))
  let fin := if last.length = 16 then xorBytes last k1
    else xorBytes (last ++ [0x80] ++ List.replicate (15 - last.length) 0) (cmacDouble k1)
  let x := (List.range (n - 1)).foldl (fun x i => aesBlock ks (xorBytes x ((m.drop (16 * i)).take 16)))
    (List.replicate 16 0)
  aesBlock ks (xorBytes x fin)

/-! ## AES-256-GCM -/

/-- One step of a product in GF(2^128) in GCM's order of bits: product so far, shifted factor. -/
def ghashStep (y : Nat) (p : Nat × Nat) (i : Nat) : Nat × Nat :=
  ((if y.testBit (127 - i) then p.1 ^^^ p.2 else p.1), if p.2 % 2 = 1 then (p.2 / 2) ^^^ (0xE1 * 2 ^ 120) else p.2 / 2)

/-- Product in GF(2^128). -/
def ghashMul (x y : Nat) : Nat := ((List.range 128).foldl (ghashStep x) (0, y)).1

/-- GHASH of a ciphertext with no additional data. -/
def ghash (h : Nat) (c : List Byte) : Nat :=
  let n := (c.length + 15) / 16
  let y := (List.range n).foldl (fun y i =>
    let b := (c.drop (16 * i)).take 16
    ghashMul (y ^^^ beNat (b ++ List.replicate (16 - b.length) 0)) h) 0
  ghashMul (y ^^^ (8 * c.length)) h

/-- The key stream exclusive-ORed with a byte string, counter from 2. -/
def gcmStream (ks : List (List Byte)) (iv c : List Byte) : List Byte :=
  (List.range ((c.length + 15) / 16)).flatMap (fun i =>
    xorBytes ((c.drop (16 * i)).take 16) (aesBlock ks (iv ++ beBytes 4 (i + 2))))

/-- Tag of a ciphertext. -/
def gcmTag (key iv c : List Byte) : List Byte :=
  let ks := aesKeys key
  xorBytes (beBytes 16 (ghash (beNat (aesBlock ks (List.replicate 16 0))) c)) (aesBlock ks (iv ++ beBytes 4 1))

/-- The plaintext of a ciphertext whose tag is right. -/
def gcmOpen (key iv c tag : List Byte) : Option (List Byte) :=
  if gcmTag key iv c = tag then some (gcmStream (aesKeys key) iv c) else none

end Sys2Proof
end

