-- ==== Sys2Proof/Machine/BusCore.lean ====
section
/-!
DEFINITION. The controllers of the machinery bus: settings, states and fault confinement (R286 to R292), arbitration and
transmission (R293 to R296), reception and its queues (R297, R298), authentication (R322 to R324).
-/

namespace Sys2Proof.Machine

open Sys2Proof

/-! ## Controllers -/

/-- Controller `b`. -/
def State.ctl (s : State) (b : Nat) : BusCtl := s.bus.ctl.getD b {}
/-- Controller `b` changed. -/
def State.modCtl (s : State) (b : Nat) (f : BusCtl → BusCtl) : State := { s with bus := { s.bus with ctl := modAt s.bus.ctl b f } }
/-- The bus state changed. -/
def State.modBus (s : State) (f : BusSt → BusSt) : State := { s with bus := f s.bus }
/-- Option bit of a controller entry. -/
def State.busOpt (s : State) (b i : Nat) : Bool := tst (s.busField b 1 1) i
/-- `PAIR_AB` of the network entry. -/
def State.pairAB (s : State) : Bool := tst (s.busField 4 1 1) 0
/-- An event of a controller. -/
def State.logBus (s : State) (b code sev p1 p2 : Nat) : State := s.logEv code sev 11 b 0xFFFF p1 p2
/-- A sync mark on the 12.5 ns grid of the `CAN` clock, local ns (R308). -/
def canMark (mark : Nat) : Nat := mark * 2 / 25 * 25 / 2

/-- The clocks at a sync mark (R308). -/
def State.markClk (s : State) (mark : Nat) : ClkSt := s.clk.at_ (canMark mark)

/-- State a controller takes when it (re)starts under its options (R292, R326). -/
def State.ctlStart (s : State) (b : Nat) : BusState :=
  if !s.busOpt b 0 then .off
  else if s.busOpt b 3 || s.bus.claimEnd.isSome || s.bus.duplicate then .listenOnly else .errorActive

/-- The controller counts errors and may transmit: neither off nor listening only. -/
def BusState.works : BusState → Bool
  | .off => false | .listenOnly => false | _ => true
/-- The controller transmits (Table 11.3). -/
def BusState.sends : BusState → Bool
  | .errorActive => true | .errorPassive => true | _ => false

/-! ## Node IDs (R303 to R306) -/

/-- `NODE_ID_DUPLICATE` is raised (R305); `uid` is the first four bytes of the other device's unique ID, or 0. -/
def State.raiseDuplicate (s : State) (uid : Nat) : State :=
  if s.bus.duplicate then s
  else
    let quiet (c : BusCtl) : BusCtl := if c.state = .off then c else { c with state := .listenOnly }
    (s.modBus (fun n => { n with duplicate := true, claimEnd := none, ctl := n.ctl.map quiet })).logNode 0x0701 7 s.bus.nodeId uid

/-- The device's unique ID as 16 bytes. -/
def uniqueBytes : List Byte := leBytes 16 Config.uniqueId.toNat

/-- A `CLAIM` of this node on controller `b` (Table 11.7). -/
def State.sendClaim (s : State) (b : Nat) (defend : Bool) : State :=
  s.sendProto b 0 0x02 0 (uniqueBytes ++ le8 s.pwr.state.code ++ le8 (bit defend) ++ le16 0) (.claim defend)

/-- The claim period begins once the configuration has been restored (R304), and its receiving objects are enabled from then on
(Table 11.13); a duplicate ID stands until a reset (R305). -/
def State.claimStart (s : State) : State :=
  let s1 := s.modBus (fun n => { n with claimEnd := if n.duplicate then none else some (s.clk.now + secs 2)
                                        net := { n.net with start := s.clk.now } })
  s1.modBus (fun n => { n with
    ctl := (List.range 4).map (fun b => { (n.ctl.getD b {}) with state := s1.ctlStart b })
    shadows := n.shadows.map (fun x => { x with enabled := s.clk.flow }) })

/-- The claim period ends with no frame of the node's own ID heard: it sends `CLAIM` and starts normal operation (R304). -/
def State.claimDone (s : State) : State :=
  match s.bus.claimEnd with
  | none => s
  | some e =>
    if e ≤ s.clk.now then
      let s1 := s.modBus (fun n => { n with claimEnd := none })
      let s2 := s1.modBus (fun n => { n with ctl := (List.range 4).map (fun b =>
        let c := n.ctl.getD b {}
        if c.state = .listenOnly then { c with state := s1.ctlStart b } else c) })
      s2.each 4 (fun s b => s.sendClaim b false)
    else s

/-! ## Arbitration (R294) -/

/-- Order of identifiers at arbitration: a base identifier wins over an extended one with the same first 11 bits. -/
def TxFrame.arb (f : TxFrame) : Nat := if f.ext then 2 * f.id + 1 else f.id * 524288

/-- The frame with the lowest identifier. -/
def lowestId : List TxFrame → Option TxFrame
  | [] => none
  | f :: r => match lowestId r with | none => some f | some g => if g.arb < f.arb then some g else some f

/-- The frame a controller offers at an arbitration at local time `mark`, of those not `held`. -/
def BusCtl.candidate (c : BusCtl) (trio : Bool) (mark : Nat) (held : TxFrame → Bool) : Option TxFrame :=
  let old (f : TxFrame) : Bool := decide (f.since ≤ mark)
  let free := c.objs.filter (fun f => !held f)
  let obj := if trio then lowestId (free.filter old) else (free.head?).filter old
  lowestId ((c.proto.take 8).filter old ++ obj.toList)

/-- A frame of an `AUTH` object is held back while `TIME_UNALIGNED` is set (R316). -/
def State.held (s : State) (f : TxFrame) : Bool :=
  s.unaligned && (match f.role with
    | .object o => (match imgEntry s.cfg.img 0x51 o with | some a => tst (s.cfg.img.u8 (a + 1)) 5 | none => false)
    | _ => false)

/-- State in which controller `b` sent a frame whose sync mark lies at `mark`: the frame in progress at a commit is finished in
the state before it (R326). -/
def State.stateAt (s : State) (b mark : Nat) : BusState :=
  match (s.ctl b).cut with
  | some x => if mark < x.1 then x.2.1 else (s.ctl b).state
  | none => (s.ctl b).state

/-- The frame that controller `b` had on offer at local time `mark`, under the transmit mode of then (R294, R326). -/
def State.offer (s : State) (b mark : Nat) : Option TxFrame :=
  let trio := match (s.ctl b).cut with | some x => if mark < x.1 then x.2.2 else s.busOpt b 4 | none => s.busOpt b 4
  (s.ctl b).candidate trio mark s.held

/-- The first frame of a list equal to `f` is left out. -/
def dropFrame (f : TxFrame) : List TxFrame → List TxFrame
  | [] => []
  | x :: r => if x = f then r else x :: dropFrame f r

/-- A frame leaves the buffers. -/
def BusCtl.remove (c : BusCtl) (f : TxFrame) : BusCtl :=
  { c with proto := dropFrame f c.proto, objs := dropFrame f c.objs }

/-- Role of the content that an attempt with its sync mark at `mark` carried. -/
def TxFrame.roleAt (f : TxFrame) (mark : Nat) : TxRole :=
  if f.put ≤ mark then f.role
  else match f.past.find? (fun x => decide (x.1 ≤ mark)) with | some x => x.2 | none => f.role

/-- Frame `x` fell due before `g`, or with it and as that of a lower object (R294). -/
def TxFrame.dueFirst (g x : TxFrame) : Bool :=
  let k (f : TxFrame) : Nat := match f.role with | .object o => o | _ => 0
  decide (x.since < g.since) || (decide (x.since = g.since) && decide (k x ≤ k g))

/-- What a successful transmission leaves of the frame in the buffers: content that came during the attempt falls due as a
frame of its own, with its requests and no clash counted (R295, R296). -/
def BusCtl.sent (c : BusCtl) (f : TxFrame) (mark : Nat) : BusCtl :=
  let c1 := c.remove f
  if mark < f.put then
    let g := { f with since := f.put, past := [], asks := f.asks.filter (fun a => decide (mark < a.2)), clashes := 0 }
    if c.objs.contains f then
      { c1 with objs := c1.objs.takeWhile g.dueFirst ++ g :: c1.objs.dropWhile g.dueFirst }
    else { c1 with proto := c1.proto ++ [g] }
  else c1

/-- A flight that waits for a bus object's transmission. -/
def isSend (fl : Nat) (w : Wait) : Bool :=
  (match w.kind with | .busSend _ _ => true | _ => false) && decide (w.fl.id = fl)

/-- The request of a `BUS_OBJ_SEND` completes; no frame waits for it any more. -/
def State.sendDone (s : State) (fl : Nat) (st : Status) (d : Nat) (p : List Byte) : State :=
  let ws := s.host.waits.filter (isSend fl)
  let s1 := { s with host := { s.host with waits := s.host.waits.filter (fun w => !isSend fl w) } }
  let s2 := ws.foldl (fun s w => s.complete w.fl st d p) s1
  s2.modBus (fun n => { n with ctl := n.ctl.map (fun c =>
    { c with objs := c.objs.map (fun f => { f with asks := f.asks.filter (fun a => decide (a.1 ≠ fl)) }) }) })

/-- `TIME_FU` for a reference that has been transmitted with its sync mark at network time `m` (R307, Table 11.7); a node that
is no longer the master sends none (R309). -/
def State.followUp (s : State) (b seq m : Nat) : State :=
  if !s.bus.net.isMaster then s
  else s.sendProto b 0 0x01 seq (le8 seq ++ le8 (s.busField 4 3 1) ++ le8 s.bus.net.state ++ le8 0 ++ le64 (tsOf m s.timeQuality) ++
    le16 (m % 1000) ++ le16 0) .other

/-- A frame with a data phase: a node-protocol frame, or one of an object with `FD_BRS` (Table 11.11). -/
def State.dataPhase (s : State) (f : TxFrame) : Bool :=
  let brs (o : Nat) : Bool := match imgEntry s.cfg.img 0x51 o with | some a => tst (s.cfg.img.u8 (a + 1)) 3 | none => false
  match f.role with | .object o => brs o | _ => true

/-- With `TDC` the controller measures its transmitter delay in the data phase; a measurement below the filter window is
ignored (chapter 11, Table 11.14). -/
def State.measureDelay (s : State) (b : Nat) (f : TxFrame) : State :=
  if s.busOpt b 1 && s.busOpt b 5 && s.dataPhase f then
    let d := (Config.transmitterDelay s.draw.1).toNat
    s.draw.2.modCtl b (fun c => if d < s.busField b 13 1 then c else { c with txDelay := d })
  else s

/-- A frame of controller `b`, its sync mark at local time `mark` and network time `base`, has been transmitted: a reference is
followed up, requests for the object complete (R290, R295, R307, R330). -/
def State.txSuccess (s : State) (b mark base : Nat) : State :=
  if !(s.stateAt b mark).sends then s
  else
    match s.offer b mark with
    | none => s
    | some f =>
      let s0 := s.measureDelay b f
      let s1 := s0.modCtl b (fun c =>
        let t := c.tec - 1
        { c.sent f mark with txCount := satAdd 4294967295 c.txCount 1, tec := t, dominant := false,
                             state := if c.state = .errorPassive && t < 128 && c.rec_ < 128 then .errorActive else c.state })
      let s2 := match f.roleAt mark with | .timeRef seq => s1.followUp b seq base | _ => s1
      (f.asks.filter (fun a => decide (a.2 ≤ mark))).foldl
        (fun s a => s.sendDone a.1 .ok 0 (le64 (tsOf base s.timeQuality))) s2

/-- The request whose culvert was lost with a frame completes; the rest of its segments go (R296). -/
def State.culvertLost (s : State) (fl : Nat) : State :=
  let sel (w : Wait) : Bool := (match w.kind with | .forward _ _ _ => true | _ => false) && decide (w.fl.id = fl)
  let ws := s.host.waits.filter sel
  let s1 := { s with host := { s.host with waits := s.host.waits.filter (fun w => !sel w) } }
  let s2 := s1.modBus (fun n => { n with ctl := n.ctl.map (fun c =>
    { c with proto := c.proto.filter (fun f => f.role ≠ .culvertReq fl) }) })
  ws.foldl (fun s w => s.complete w.fl .aborted 4 []) s2

/-! ## Fault confinement (Table 11.3, R291) -/

/-- An error counter has reached 128. -/
def State.errorPassive (s : State) (b tec rec_ ea ed : Nat) : State :=
  let c := s.ctl b
  if c.state = .errorActive && (decide (128 ≤ tec) || decide (128 ≤ rec_)) then
    (s.modCtl b (fun c => { c with state := .errorPassive, tec, rec_, errA := ea % 8, errD := ed % 8 })).logBus b 0x0708 4
      (if 128 ≤ tec then tec else rec_) 0
  else s

/-- TEC has passed 255: the third time within 60 s the controller holds off for 10 s (R291). -/
def State.busOff (s : State) (b tec ea ed : Nat) : State :=
  let c := s.ctl b
  if c.state.sends && decide (255 < tec) then
    let times := s.clk.now :: c.offTimes.filter (fun t => decide (s.clk.now < t + secs 60))
    let hold := decide (3 ≤ times.length)
    (s.modCtl b (fun c => { c with state := if hold then .busOff else .recovering, tec, errA := ea % 8, errD := ed % 8,
                                   offTimes := times, offSince := some s.clk.now, busOffs := satAdd 65535 c.busOffs 1,
                                   holdEnd := if hold then some (s.clk.now + secs 10) else none })).logBus b 0x0704 6 tec
      (ea % 8 + 256 * (ed % 8))
  else s

/-- A bus error raises the counter of its side, and the controller takes the state that follows; nothing is counted in `OFF`
and `LISTEN_ONLY` (R290). -/
def State.busError (s : State) (e : BusErr) : State :=
  let c := s.ctl e.bus
  if !c.state.sends then s
  else
    let tec := if e.tx then c.tec + e.up else c.tec
    let rec_ := if e.tx then c.rec_ else min 255 (c.rec_ + e.up)
    let ea := if e.dataPhase then c.errA else e.code % 8
    let ed := if e.dataPhase then e.code % 8 else c.errD
    ((s.modCtl e.bus (fun c => { c with tec, rec_, errA := ea, errD := ed })).errorPassive e.bus tec rec_ ea ed).busOff e.bus tec ea ed

/-- A clash of frame `f`: a bit error of the transmitter, recessive sent and dominant monitored, which raises TEC by eight. In a
frame with a data phase its phase is left open. -/
def State.clashError (s : State) (b : Nat) (f : TxFrame) : State :=
  if s.dataPhase f then
    s.draw.2.busError { bus := b, code := 4, dataPhase := Config.clashInData s.draw.1, tx := true, up := 8 }
  else s.busError { bus := b, code := 4, tx := true, up := 8 }

/-- A clash of the frame on offer; the third in a row aborts it (R296). -/
def State.idClash (s : State) (b mark : Nat) : State :=
  if !(s.stateAt b mark).sends then s
  else
    match s.offer b mark with
    | none => s
    | some f =>
      let hit (x : TxFrame) : TxFrame := { x with clashes := x.clashes + 1 }
      let s0 := s.clashError b f
      if f.clashes + 1 < 3 then
        s0.modCtl b (fun c => { c with proto := modFirst (fun x => decide (x = f)) hit c.proto,
                                       objs := modFirst (fun x => decide (x = f)) hit c.objs })
      else
        let s1 := (s0.modCtl b (fun c => { c.remove f with idClashes := satAdd 65535 c.idClashes 1 })).logBus b 0x0706 5 f.id
          (f.clashes + 1)
        match f.role with
        | .claim _ => s1.raiseDuplicate 0
        | .culvertReq fl => s1.culvertLost fl
        | _ => f.asks.foldl (fun s a => s.sendDone a.1 .aborted 4 []) s1

/-- Recovery starts. -/
def State.recover (s : State) (b : Nat) : State := s.modCtl b (fun c => { c with state := .recovering, holdEnd := none })

/-- The hold of a controller has run its 10 s. -/
def State.holdDone (s : State) (b : Nat) : State :=
  match (s.ctl b).state, (s.ctl b).holdEnd with
  | .busOff, some e => if e ≤ s.clk.now then s.recover b else s
  | _, _ => s

/-- Recovery completes. -/
def State.recovered (s : State) (b : Nat) : State :=
  let c := s.ctl b
  if c.state = .recovering then
    (s.modCtl b (fun c => { c with state := .errorActive, tec := 0, rec_ := 0, offSince := none })).logBus b 0x0710 3
      (min 0xFFFFFFFF ((s.clk.now - c.offSince.getD s.clk.now) / 1000000)) 0
  else s

/-! ## Authentication (R322 to R324) -/

/-- Freshness at an instant of network time. -/
def freshness (ns : Nat) : Nat := ns / 65536000 % 4294967296

/-- The first four bytes of the CMAC of a frame whose last four payload bytes are its tag. -/
def frameTag (key : BitVec 256) (ext : Bool) (id F : Nat) (data : List Byte) : List Byte :=
  (cmac (leBytes 32 key.toNat)
    (le32 (id + bit ext * 2147483648) ++ le8 data.length ++ le32 F ++ data.take (data.length - 4))).take 4

/-- Payload of a pending frame as it goes out, its tag computed with the freshness of now (R301, R323). -/
def State.txBytes (s : State) (f : TxFrame) : List Byte :=
  let d := f.data ++ zeros 4
  let timed := f.ext && decide (f.id / 1048576 % 64 ≤ 1)
  match f.key with
  | none => if f.ext && f.id / 1048576 % 64 ≠ 16 then d else f.data
  | some k =>
    match s.sec.bus.getD k none with
    | some key => f.data ++ frameTag key f.ext f.id (if timed then 0 else freshness s.clk.base) d
    | none => d

/-- A rejected frame is counted, and logged once per identifier and minute (R323). -/
def State.authFail (s : State) (b id : Nat) : State :=
  let s1 := s.modCtl b (fun c => { c with authFails := satAdd 65535 c.authFails 1 })
  if s1.bus.authLog.any (fun x => decide (x.1 = id) && decide (s.clk.now < x.2 + secs 60)) then s1
  else
    (s1.modBus (fun n => { n with authLog := n.authLog.filter (fun x => decide (s.clk.now < x.2 + secs 60)) ++ [(id, s.clk.now)] })).logBus
      b 0x070A 4 id 0

/-- Freshness with which a tag verifies, if it does (R323); a time message has freshness zero (R324). -/
def State.verifies (s : State) (slot : Nat) (ext timed : Bool) (id : Nat) (data : List Byte) : Option Nat :=
  match s.sec.bus.getD slot none with
  | none => none
  | some key =>
    let F := freshness s.clk.base
    let tries := if timed then [0] else [F, (F + 4294967294) % 4294967296, (F + 4294967295) % 4294967296, (F + 1) % 4294967296]
    if data.length < 4 then none
    else tries.find? (fun x => decide (frameTag key ext id x data = data.drop (data.length - 4)))

/-- The tag of a received frame is checked where a key slot is set; the answer is none for a rejected frame, else whether
the frame was authenticated. -/
def State.rxAuth (s : State) (b : Nat) (slot : Option Nat) (ext timed : Bool) (id : Nat) (data : List Byte) : State × Option Bool :=
  match slot with
  | none => (s, some false)
  | some k =>
    match s.verifies k ext timed id data with
    | none => (s.authFail b id, none)
    | some F =>
      let key := id + b * 4294967296 + bit ext * 2147483648
      let tag := leNat (data.drop (data.length - 4))
      let now := s.clk.base / 65536000
      let old := s.bus.replay.filter (fun x => decide (now ≤ x.2.2.2 + 4))
      if old.any (fun x => decide (x.1 = key) && decide (x.2.1 = F) && decide (x.2.2.1 = tag)) then (s.authFail b id, none)
      else (s.modBus (fun n => { n with replay := old ++ [(key, F, tag, now)] }), some true)

/-! ## Reception (R290, R297, R298) -/

/-- A frame received without error on controller `b`. -/
def State.rxOk (s : State) (b : Nat) : State :=
  let (k, s0) := if 127 < (s.ctl b).rec_ then s.draw else (0, s)
  s0.modCtl b (fun c =>
    let r := if c.state = .listenOnly then c.rec_ else if 127 < c.rec_ then 119 + Config.recAfter k % 9 else c.rec_ - 1
    { c with rxCount := satAdd 4294967295 c.rxCount 1, rec_ := r,
             state := if c.state = .errorPassive && c.tec < 128 && r < 128 then .errorActive else c.state })

/-- Controller `b` receives: it is on, not bus-off and not recovering. -/
def BusCtl.hears (c : BusCtl) : Bool :=
  match c.state with | .off => false | .busOff => false | .recovering => false | _ => true

/-- Match slot of a message class (Table 11.4a). -/
def slotOf (cls : Nat) : Nat :=
  match cls with
  | 0 => 0 | 1 => 0 | 2 => 1 | 3 => 1 | 4 => 2 | 5 => 3 | 8 => 4 | 9 => 5 | 10 => 5 | 12 => 6 | _ => 7

/-- Frames in the ring: those that spilled into it and culvert segments. -/
def State.ringFill (s : State) : Nat := s.bus.spill.length + (s.bus.ring.map (fun r => r.segs.length)).sum

/-- A frame finds the ring full: an overrun, logged once per minute with the count (R298). -/
def State.overrun (s : State) (b : Nat) : State :=
  let s1 := s.modCtl b (fun c => { c with overruns := satAdd 65535 c.overruns 1, overPend := c.overPend + 1 })
  let c := s1.ctl b
  let quiet := match c.overLog with | some t => decide (s.clk.now < t + secs 60) | none => false
  if quiet then s1
  else (s1.modCtl b (fun c => { c with overPend := 0, overLog := some s.clk.now })).logBus b 0x0709 4 c.overPend 0

/-- A frame takes its place in the match slot of its class, spills into the ring, or is dropped (R297, R298). -/
def State.rxPlace (s : State) (f : RxFrame) : State :=
  let k := slotOf f.cls
  if (s.bus.slots.getD k []).length < 8 then s.modBus (fun n => { n with slots := modAt n.slots k (fun l => l ++ [f]) })
  else if s.ringFill < 128 then s.modBus (fun n => { n with spill := n.spill ++ [f] })
  else s.overrun f.bus

/-- Payload length of a protocol class, tag included (Table 11.6). -/
def classLen (cls : Nat) : Nat :=
  match cls with
  | 0x00 => 8 | 0x01 => 20 | 0x02 => 24 | 0x03 => 8 | 0x04 => 16 | 0x05 => 8 | 0x08 => 20 | 0x09 => 20 | 0x0A => 16
  | 0x0C => 12 | 0x0D => 16 | _ => 64

/-- Priority class of a protocol class (Table 11.6). -/
def classPrio (cls : Nat) : Nat :=
  match cls with
  | 0x04 => 3 | 0x05 => 2 | 0x20 => 5 | 0x21 => 5 | c => if c < 8 then 0 else 1

/-- A protocol frame as its command gives it, with the clocks at its sync mark (R308). -/
def State.rxFrame (s : State) (bus cls node index mark : Nat) (data : List Byte) : RxFrame :=
  let c := s.markClk mark
  { bus, cls, node, index, data, mark, base := c.base, flow := c.flow }

/-- A node-protocol frame is received: counted, its source compared with the node's own ID during the claim period
(R305), its tag checked (R322); `act` takes an accepted frame to its place. A frame of another length than its class has is
counted and discarded (R297, R327). A controller without `FD` ignores it (R301). -/
def State.rxProto (s : State) (f : RxFrame) (act : RxFrame → State → State) : State :=
  let c := s.ctl f.bus
  if !c.hears || !s.busOpt f.bus 1 then s
  else
    let s1 := s.rxOk f.bus
    if s1.bus.claimEnd.isSome && f.node = s1.bus.nodeId then
      s1.raiseDuplicate (if f.cls = 2 then u32At f.data 0 else 0)
    else if f.data.length ≠ classLen f.cls then s1
    else
      let id := protoId (classPrio f.cls) f.cls f.node f.index
      let (s2, a) := s1.rxAuth f.bus s1.protoKey true (decide (f.cls ≤ 1)) id f.data
      match a with
      | none => s2
      | some auth => act { f with auth } s2

/-- A message is received: it waits in its match slot for step 1 of the next frame (R297). -/
def State.rxMessage (s : State) (t : Nat) (f : RxFrame) : State := (s.advance t).rxProto f (fun g s => s.rxPlace g)

/-! ## Rows -/

/-- `BUS_ERROR_PASSIVE` (Table 11.3): the error counters and the last error codes. -/
def execBusErrorPassive (t bus tec rec_ ea ed : Nat) (s : State) : Host.Outcome State Fault Refusal :=
  guardUnit (decide (bus < 4)) ((s.advance t).errorPassive bus tec rec_ ea ed)
/-- `BUS_OFF` (R291). -/
def execBusOff (t bus tec ea ed : Nat) (s : State) : Host.Outcome State Fault Refusal :=
  guardUnit (decide (bus < 4)) ((s.advance t).busOff bus tec ea ed)
/-- `BUS_OFF_HOLD_END` (R291). -/
def execBusOffHoldEnd (t bus : Nat) (s : State) : Host.Outcome State Fault Refusal :=
  guardUnit (decide (bus < 4)) ((s.advance t).holdDone bus)
/-- `BUS_RECOVERED` (R291). -/
def execBusRecovered (t bus : Nat) (s : State) : Host.Outcome State Fault Refusal :=
  guardUnit (decide (bus < 4)) ((s.advance t).recovered bus)
/-- `DOMINANT_TIMEOUT` (R287); the parameter is the count of them (Table 11.18, log 157). -/
def execDominantTimeout (t bus : Nat) (s : State) : Host.Outcome State Fault Refusal :=
  let s1 := s.advance t
  let k := (s1.ctl bus).dominants + 1
  guardUnit (decide (bus < 4)) (if (s1.ctl bus).state.works then
    (s1.modCtl bus (fun c => { c with dominant := true, dominants := k })).logBus bus 0x0707 4 k 0 else s1)
/-- `CLAIM_PERIOD` (R304). -/
def execClaimPeriod (t : Nat) (s : State) : Host.Outcome State Fault Refusal := .next (s.advance t).claimDone

/-- A `CLAIM` in normal operation (R305, R306). -/
def State.rxClaim (s : State) (f : RxFrame) : State :=
  if f.node ≠ s.bus.nodeId || s.bus.duplicate || s.bus.claimEnd.isSome || f.data.take 16 = uniqueBytes then s
  else if tst (byteAt f.data 17) 0 then s.raiseDuplicate (u32At f.data 0)
  else (s.sendClaim f.bus true).logBus f.bus 0x070F 4 s.bus.nodeId 0

/-- `CLAIM` received (R306). -/
def execClaim (t bus node mark : Nat) (data : List Byte) (s : State) : Host.Outcome State Fault Refusal :=
  guardUnit (decide (bus < 4)) (s.rxMessage t (s.rxFrame bus 0x02 node 0 mark data))

/-- `BUS_RECOVER` (R330). -/
def execBusRecover (t tag : Nat) (s : State) : Host.Outcome State Fault Refusal :=
  .next (s.withCur t tag 0x0705 (fun f s =>
    let b := byteAt f.req 16
    if (s.ctl b).state = .busOff then (s.recover b).wait f (.nextFrame []) else s.refuse f (.notPermitted, 1, [])))

end Sys2Proof.Machine
end

