-- ==== Sys2Proof/Machine/BusTime.lean ====
section
/-!
DEFINITION. Network time (R307 to R313): references, follow-ups, time states, steps (R24), mastership, the time bus, generator
frequency messages.
-/

namespace Sys2Proof.Machine

open Sys2Proof

/-- Network time changed. -/
def State.modNet (s : State) (f : NetTime → NetTime) : State := s.modBus (fun n => { n with net := f n.net })

/-- Reference period (R307). -/
def refPeriod : Nat := ms 100

/-- Time role of controller `b` (Table 11.14); a controller without `FD` takes no part (R301). -/
def State.timeRole (s : State) (b : Nat) : Nat := if s.busOpt b 0 && s.busOpt b 1 then s.busField b 16 1 else 0

/-- Master rank of this node. -/
def State.rank (s : State) : Nat := s.busField 4 3 1 % 8

/-- The node is a time-master candidate (R307). -/
def State.isCandidate (s : State) : Bool := (List.range 4).any (fun b => s.timeRole b = 2)

/-- The node may send: its claim has succeeded and no duplicate ID stands (R304, R305). -/
def State.joined (s : State) : Bool := s.bus.claimEnd.isNone && !s.bus.duplicate

/-- A first-out set across a step of the time base (R24). -/
def FoSt.stepTime (d : Int) (f : FoSt) : FoSt :=
  let g := { f with resetAt := f.resetAt.map (fun x => (moved d x.1, x.2)) }
  if f.state = .open_ then { g with windowEnd := moved d f.windowEnd, shift := f.shift + d, degraded := true } else g

/-- The time base is moved by `d` ns (R24): the frame, and every duration counted in local time, run on; windows of open
sets move with it; insulation periods in progress are disturbed. -/
def State.shiftTime (s : State) (d : Int) : State :=
  { s with
    clk := { s.clk with base := moved d s.clk.base, slew := 0, slewTime := 0 }
    eng := { s.eng with fo := s.eng.fo.map (FoSt.stepTime d) }
    prev := { s.prev with fo := s.prev.fo.map (FoSt.stepTime d) }
    banks := s.banks.map (fun b => { b with insul := { b.insul with spans := true } }) }

/-- The time base is stepped by `d` ns; a step beyond 1 ms is logged (R310). -/
def State.stepTime (s : State) (d : Int) : State :=
  let s1 := s.shiftTime d
  if 1000000 < d ∨ d < -1000000 then s1.logNode 0x070C 4 (twos 32 (d / 1000)) 0 else s1

/-- Time bus in use (R311). -/
def State.timeBus (s : State) : Nat := if s.bus.net.onSecondary then s.busField 4 7 1 else s.busField 4 6 1

/-- A time state is entered (Table 11.9), logged where R310 says: `TIME_LOCKED` with the node ID of the master,
`TIME_HOLDOVER` with the last θ of the time bus in µs (Table 11.18, log 157). -/
def State.timeState (s : State) (k : Nat) : State :=
  if s.bus.net.state = k then s
  else
    let s1 := s.modNet (fun n => { n with state := k, holdoverSince := if k = 3 then some s.clk.now else none,
                                          holdoverOut := false, trimSince := if k = 2 then some s.clk.flow else none })
    if k = 2 then s1.logNode 0x0712 3 (match s.bus.net.master with | some m => m.1 | none => 0xFF) 0
    else if k = 3 then s1.logNode 0x070D 4 (twos 32 ((s.ctl s.timeBus).theta / 1000)) 0 else s1

/-- A master other than the last one heard (R309). -/
def State.heardMaster (s : State) (node rank : Nat) : State :=
  let old := match s.bus.net.master with | some m => m.1 | none => 0xFF
  let s1 := s.modNet (fun n => { n with master := some (node, rank) })
  if old = node then s1 else s1.logNode 0x070E 4 (old * 256 + node) 0

/-- The node that sends is a better master than this one: lower rank, or equal rank and lower ID (R309). -/
def State.betterMaster (s : State) (node rank : Nat) : Bool :=
  decide (rank < s.rank) || (decide (rank = s.rank) && decide (node < s.bus.nodeId))

/-- `TIME_REF` received (R308): its sync mark is kept for the follow-up. -/
def State.rxTimeRef (s : State) (f : RxFrame) : State :=
  s.modNet (fun n => { n with refs := modAt n.refs f.bus (fun _ =>
    some { node := f.node, seq := byteAt f.data 0, mark := f.base }) })

/-- The deviation found is applied: a step beyond 1 ms, else a slew over the next period with an eighth into the rate
correction; the time state follows (R310, Table 11.9). -/
def State.applyTheta (s : State) (b : Nat) (d : Int) : State :=
  let mag := d.natAbs
  let s1 := s.modCtl b (fun c => { c with theta := d })
  let s2 := if 1000000 < mag then s1.stepTime d
    else { s1 with clk := { s1.clk with slew := d, slewTime := refPeriod, ratePpb := s1.clk.ratePpb + divRound (d * 5) 4 } }
  let good := if mag ≤ 1000 then min 4 (s.bus.net.good + 1) else 0
  let s3 := s2.modNet (fun n => { n with taken := true, good })
  if 2000 < mag then s3.timeState 1
  else if 4 ≤ good then s3.timeState 2
  else if s.bus.net.state = 2 then s3 else s3.timeState 1

/-- `TIME_FU` on the primary bus counts towards the return to it (R311). -/
def State.primaryHeard (s : State) (f : RxFrame) : State :=
  if f.bus ≠ s.busField 4 6 1 then s
  else
    let seq := byteAt f.data 0
    let run := if s.bus.net.primRun ≠ 0 && seq = (s.bus.net.primSeq + 1) % 256 then s.bus.net.primRun + 1 else 1
    s.modNet (fun n => { n with primRun := min 4 run, primSeq := seq, onSecondary := n.onSecondary && decide (run < 4) })

/-- A master that yields stops sending at once: its references and follow-ups leave the buffers (R309). -/
def State.yieldMaster (s : State) : State :=
  if s.bus.net.isMaster then
    s.modBus (fun n => { n with net := { n.net with isMaster := false }
                                ctl := n.ctl.map (fun c => { c with proto := c.proto.filter (fun x => 2 ≤ x.id / 1048576 % 64) }) })
  else s

/-- `TIME_FU` received (R309 to R311, R324). A controller with no time role only hears who the master is; an authenticated one
that carries no later time is discarded there too. -/
def State.rxTimeFu (s : State) (f : RxFrame) : State :=
  let rank := byteAt f.data 1
  let ts := u64At f.data 4
  let tm := tsUs ts * 1000 + u16At f.data 12 % 1000
  if s.bus.net.isMaster && !s.betterMaster f.node rank then s
  else if f.auth && decide (tm ≤ s.bus.net.lastAuth) then s.authFail f.bus (protoId 0 1 f.node f.index)
  else if s.timeRole f.bus = 0 then
    (if s.bus.net.isMaster then s
     else (s.modNet (fun n => { n with lastAuth := if f.auth then tm else n.lastAuth })).heardMaster f.node rank)
  else
    let s1 := s.yieldMaster.modNet (fun n => { n with
      lastAuth := if f.auth then tm else n.lastAuth
      lastFu := modAt n.lastFu f.bus (fun _ => some f.mark)
      silentSince := if s.betterMaster f.node rank then f.mark else n.silentSince })
    let s2 := (s1.heardMaster f.node rank).primaryHeard f
    match s.bus.net.refs.getD f.bus none with
    | some r =>
      let s3 := s2.modNet (fun n => { n with refs := modAt n.refs f.bus (fun _ => none) })
      if f.bus = s3.timeBus ∧ r.node = f.node ∧ r.seq = byteAt f.data 0 then
        s3.applyTheta f.bus ((tm : Int) + (s3.busField f.bus 14 2 : Nat) - r.mark)
      else s3
    | none => s2

/-- A multiple of 100 ms of network time: the active master sends `TIME_REF` on its role-2 controllers (R307). -/
def State.sendRef (s : State) : State :=
  let k := s.clk.base / refPeriod
  if s.bus.net.isMaster && s.joined && s.bus.net.lastRef ≠ some k then
    let q := s.bus.net.nextRef
    let s1 := s.modNet (fun n => { n with nextRef := (q + 1) % 256, lastRef := some k })
    s1.each 4 (fun s b => if s.timeRole b = 2 then s.sendProto b 0 0x00 0 (le8 q ++ le8 s.rank ++ le16 0) (.timeRef q) else s)
  else s

/-- A candidate has heard no better master for (3 + rank) periods: it takes mastership with its own time base (R309). -/
def State.takeMaster (s : State) : State :=
  if s.isCandidate && s.joined && !s.bus.net.isMaster && decide (s.bus.net.silentSince + (3 + s.rank) * refPeriod ≤ s.clk.now) then
    (((s.modNet (fun n => { n with isMaster := true, lastRef := some ((s.clk.base - 1) / refPeriod) })).heardMaster s.bus.nodeId s.rank)).timeState 2
  else s

/-- Local time of the last `TIME_FU` on a bus of the network entry; with none yet, of the start of listening. -/
def State.lastFuOf (s : State) (b : Nat) : Nat := (s.bus.net.lastFu.getD b none).getD s.bus.net.start

/-- No `TIME_FU` on any time bus for three periods (Table 11.9). -/
def State.holdover (s : State) : State :=
  let p := s.lastFuOf (s.busField 4 6 1)
  let q := if s.busField 4 7 1 < 4 then s.lastFuOf (s.busField 4 7 1) else 0
  if !s.bus.net.isMaster && (s.bus.net.state = 1 || s.bus.net.state = 2) && decide (max p q + 3 * refPeriod ≤ s.clk.now) then
    (s.timeState 3).modNet (fun n => { n with good := 0 })
  else s

/-- 10 s of holdover (Table 11.9). -/
def State.holdoverEnd (s : State) : State :=
  match s.bus.net.state, s.bus.net.holdoverSince with
  | 3, some t => if t + secs 10 ≤ s.clk.now then s.modNet (fun n => { n with holdoverOut := true }) else s
  | _, _ => s

/-- The primary time bus is silent for three periods (R311). -/
def State.timeSource (s : State) : State :=
  if s.busField 4 7 1 < 4 && !s.bus.net.onSecondary &&
      decide (s.lastFuOf (s.busField 4 6 1) + 3 * refPeriod ≤ s.clk.now) then
    s.modNet (fun n => { n with onSecondary := true, primRun := 0 })
  else s

/-- `GEN_FREQ` received (R313): the latest of each node is kept; the notch on the bus source takes the one of the lowest
node. -/
def State.rxGenFreq (s : State) (f : RxFrame) : State :=
  let keep := s.bus.net.genFreq.filter (fun g => decide (g.1 ≠ f.node) && decide (s.clk.now < g.2.2 + ms 300))
  let fm := u32At f.data 0
  let s1 := s.modNet (fun n => { n with genFreq := keep ++ [(f.node, fm, f.mark)] })
  if keep.all (fun g => decide (f.node < g.1)) then s1.mainsBus fm else s1

/-- A node on the local source tells the others its frequency every 100 ms (R313). -/
def State.sendGen (s : State) : State :=
  let due := match s.bus.net.lastGen with | some t => decide (t + ms 100 ≤ s.clk.now) | none => true
  if tst (s.busField 4 1 1) 1 && s.notch.src = .local_ && s.joined && due then
    (s.modNet (fun n => { n with lastGen := some s.clk.now })).each 4 (fun s b => s.sendProto b 2 0x05 0 (le32 s.notch.ft) .other)
  else s

/-! ## Rows -/

/-- `TIME_REF` (R308). -/
def execTimeRef (t bus node mark : Nat) (data : List Byte) (s : State) : Host.Outcome State Fault Refusal :=
  guardUnit (decide (bus < 4)) (s.rxMessage t (s.rxFrame bus 0x00 node 0 mark data))
/-- `TIME_FU` (R310). -/
def execTimeFu (t bus node index mark : Nat) (data : List Byte) (s : State) : Host.Outcome State Fault Refusal :=
  guardUnit (decide (bus < 4)) (s.rxMessage t (s.rxFrame bus 0x01 node index mark data))
/-- `TIME_REF_SEND` (R307). -/
def execTimeRefSend (t : Nat) (s : State) : Host.Outcome State Fault Refusal := .next (s.advance t).sendRef
/-- `TIME_MASTER_CHANGE` (R309). -/
def execTimeMasterChange (t : Nat) (s : State) : Host.Outcome State Fault Refusal := .next (s.advance t).takeMaster
/-- `TIME_HOLDOVER` (Table 11.9). -/
def execTimeHoldover (t : Nat) (s : State) : Host.Outcome State Fault Refusal := .next (s.advance t).holdover
/-- `HOLDOVER_LIMIT` (Table 11.9). -/
def execHoldoverLimit (t : Nat) (s : State) : Host.Outcome State Fault Refusal := .next (s.advance t).holdoverEnd
/-- `TIME_SOURCE` (R311). -/
def execTimeSource (t : Nat) (s : State) : Host.Outcome State Fault Refusal := .next (s.advance t).timeSource
/-- `GEN_FREQ` (R313). -/
def execGenFreq (t bus node mark : Nat) (data : List Byte) (s : State) : Host.Outcome State Fault Refusal :=
  guardUnit (decide (bus < 4)) (s.rxMessage t (s.rxFrame bus 0x05 node 0 mark data))
/-- `GEN_FREQ_TRANSMIT` (R313). -/
def execGenFreqTransmit (t : Nat) (s : State) : Host.Outcome State Fault Refusal := .next (s.advance t).sendGen

end Sys2Proof.Machine
end

