-- ==== Sys2Proof/Machine/BusMsg.lean ====
section
/-!
DEFINITION. Messages of the node protocol: presence (R318, R319), first-out (R248 to R251), panels (R302), remote culverts
(R80, R81, R320, R321).
-/

namespace Sys2Proof.Machine

open Sys2Proof

/-! ## Presence -/

/-- Presence of node `n` on bus `b`. -/
def State.presence (s : State) (b n : Nat) : Presence := (s.bus.presence.getD b []).getD n {}
/-- Presence changed. -/
def State.modPresence (s : State) (b n : Nat) (f : Presence → Presence) : State :=
  s.modBus (fun x => { x with presence := modAt x.presence b (fun l => modAt l n f) })

/-- Heartbeats of node `n` have come on bus `b` for 1 s without a gap. -/
def State.steady (s : State) (b n : Nat) : Bool :=
  let p := s.presence b n
  p.present && decide (p.since + secs 1 ≤ s.clk.flow)

/-- Both legs have carried the heartbeats of node `n` for 1 s: its leg fault clears (R318). -/
def State.legClear (s : State) (n : Nat) : State :=
  if s.steady 0 n && s.steady 1 n then
    s.modBus (fun x => { x with ctl := x.ctl.map (fun c => { c with legNodes := c.legNodes.filter (fun k => k != n) }) })
  else s

/-- Heartbeats of node `n` have come on one leg of the pair only for 1 s: the silent leg is in fault (R318). -/
def State.legFault (s : State) (n leg : Nat) : State :=
  let other := 1 - leg
  let quiet := match (s.presence leg n).last with | some t => decide (t + secs 1 ≤ s.clk.flow) | none => true
  if s.pairAB && decide (leg < 2) && s.steady other n && quiet && !(s.ctl leg).legNodes.contains n then
    (s.modCtl leg (fun c => { c with legNodes := c.legNodes ++ [n] })).logBus leg 0x0705 5 n leg
  else s

/-- `HEARTBEAT` received (R319). -/
def State.rxHeartbeat (s : State) (f : RxFrame) : State :=
  if 64 ≤ f.node then s
  else
    let p := s.presence f.bus f.node
    let fresh := match p.last with | some t => p.present && decide (f.flow < t + ms 300) | none => false
    let s1 := s.modPresence f.bus f.node (fun p =>
      { last := some f.flow, present := true, state := byteAt f.data 0, since := if fresh then p.since else f.flow })
    (if p.present then s1 else s1.logBus f.bus 0x0711 3 f.node 0).legClear f.node

/-- A `CLAIM` of another node tells its state (Table 11.7, `BUS_NODES`). -/
def State.claimState (s : State) (f : RxFrame) : State :=
  if f.node = s.bus.nodeId || 64 ≤ f.node then s
  else s.modPresence f.bus f.node (fun p => { p with state := byteAt f.data 16 })

/-- A node counts as absent on a bus, with the event that says so. -/
def State.absent (s : State) (b n code reason : Nat) : State :=
  if (s.presence b n).present then
    (s.modPresence b n (fun p => { p with present := false })).logBus b code 6 n reason
  else s

/-- No heartbeat of a node for 300 ms (R319). -/
def State.nodeLost (s : State) (b n : Nat) : State :=
  match (s.presence b n).last with
  | some t => if t + ms 300 ≤ s.clk.flow then s.absent b n 0x0702 0 else s
  | none => s

/-- The heartbeat of this node (Table 11.7), every 100 ms on each controller (R301). -/
def State.sendHeartbeat (s : State) : State :=
  let due := match s.bus.lastHeartbeat with | some t => decide (t + ms 100 ≤ s.clk.now) | none => true
  if s.joined && due then
    let leg := s.bus.ctl.any (fun c => !c.legNodes.isEmpty)
    let body := le8 s.pwr.state.code ++ le8 s.frame.profile ++ le16 s.cfg.epoch ++ le8 s.bus.net.state ++
      le8 (bit (decide (s.pwr.state = .safe)) + 2 * bit s.unaligned + 4 * bit leg) ++ le16 s.frame.slips ++ le32 0
    (s.modBus (fun n => { n with lastHeartbeat := some s.clk.now })).each 4 (fun s b => s.sendProto b 3 0x04 0 body .other)
  else s

/-- `GOING_DOWN` of this node, once on each controller that is not `LISTEN_ONLY` (R301, Table 14.11). -/
def State.sendGoingDown (s : State) (reason : Nat) : State :=
  s.each 4 (fun s b => if (s.ctl b).state = .listenOnly then s else s.sendProto b 0 0x03 0 (le8 reason ++ le8 0 ++ le16 s.cfg.epoch) .goingDown)

/-! ## First-out -/

/-- The network set of a number on this node. -/
def State.netSet (s : State) (n : Nat) : Option Nat :=
  (List.range 32).find? (fun f => let c := s.foCfgOf f; c.enable && c.network && decide (c.netSet = n))

/-- A set changed by a message: the change outlives a frame that slips. -/
def State.modFoBoth (s : State) (f : Nat) (g : FoSt → FoSt) : State :=
  { s.modFo f g with prev := { s.prev with fo := modAt s.prev.fo f g } }

/-- A message of a node that is not the home node of the set: ignored, logged once per configuration epoch (R248). -/
def State.foMismatch (s : State) (f p1 p2 : Nat) : State :=
  if (s.fo f).mismatch then s
  else (s.modFoBoth f (fun x => { x with mismatch := true })).logEv 0x0509 5 6 f 0xFFFF p1 p2

/-- `FO_CAND` received (R249): it enters its set with the frame computed next. -/
def State.rxFoCand (s : State) (f : RxFrame) : State :=
  match s.netSet f.index with
  | some k =>
    let x : FoCand := { node := f.node, weir := u16At f.data 0, role := u16At f.data 2, ts := u64At f.data 4, res := u32At f.data 12 }
    { s with eng := { s.eng with foIn := s.eng.foIn ++ [(k, x)] }, prev := { s.prev with foIn := s.prev.foIn ++ [(k, x)] } }
  | none => s

/-- `FO_DECIDE` received (R250): the home node's decision is adopted at the next tick. -/
def State.rxFoDecide (s : State) (f : RxFrame) : State :=
  match s.netSet f.index with
  | some k =>
    if f.node ≠ (s.foCfgOf k).home then s.foMismatch k (byteAt f.data 1 * 65536 + u16At f.data 2) (byteAt f.data 13)
    else
      let fl := byteAt f.data 0
      let d : FoDecision :=
        { first := { node := byteAt f.data 1, weir := u16At f.data 2, role := 0, ts := u64At f.data 4, res := 0 }
          runner := if byteAt f.data 12 = 0xFF then none else some (byteAt f.data 12, u16At f.data 14)
          count := byteAt f.data 13, ambiguous := tst fl 5, degraded := tst fl 4, late := tst fl 3 }
      s.modFoBoth k (fun x => { x with adopt := some d })
  | none => s

/-- `FO_RESET` received (R251): the home node gives a request its application time and broadcasts it, whatever the state of
its own set: a home that has restarted is `IDLE` where the members are decided (log 156, DEDUCED); a broadcast of the home node is taken. -/
def State.rxFoReset (s : State) (f : RxFrame) : State :=
  match s.netSet f.index with
  | some k =>
    let c := s.foCfgOf k
    let origin := byteAt f.data 8
    if byteAt f.data 9 = 0 then
      if s.foHome c && (s.fo k).resetAt.isNone then
        let at_ := alignUp (ms 4) (s.clk.base + ms 50)
        (s.modFoBoth k (fun x => { x with resetAt := some (at_, origin) })).each 4 (fun s b =>
          s.sendProto b 1 0x0A f.index (le64 (tsOf at_ s.timeQuality) ++ le8 origin ++ le8 1 ++ le16 0) .other)
      else s
    else if f.node ≠ c.home then s.foMismatch k (f.node * 65536) 0
    else s.modFoBoth k (fun x => { x with resetAt := some (tsUs (u64At f.data 0) * 1000, origin) })
  | none => s

/-! ## Panels -/

/-- A stale message of a panel is refused and logged (R47). -/
def State.panelStale (s : State) (kind idx present expected node : Nat) : State :=
  s.logEv 0x0103 4 kind idx present (expected + present * 65536) (node * 65536)

/-- A command that came without a culvert. -/
def State.panelLive (s : State) (k : LiveKind) (node role : Nat) : State :=
  { s with live := s.live ++ [{ kind := k, origin := node, fl := none, role }] }

/-- The acknowledgement of a panel is permitted: the node state as for `WEIR_ACK`, and the remote culvert mode as if it were a
culvert (Table 09.6). -/
def State.panelAck (s : State) (f : RxFrame) : Bool :=
  s.host.ready && (match opDesc 0x0403 with | some d => d.states.contains s.pwr.state | none => false) &&
    (match s.remoteMode with | 0 => false | 1 => false | 2 => f.auth | _ => true)

/-- `PANEL` received (R302): it is checked as the culvert of the same effect is (R239, R246, R257). -/
def State.rxPanel (s : State) (f : RxFrame) : State :=
  let u := u16At f.data 2
  let role := u16At f.data 4
  let panel := byteAt f.data 6
  if byteAt f.data 0 ≠ s.bus.nodeId then s
  else if (if byteAt f.data 1 < 3 then !s.panelAck f else !armedSafe.contains s.pwr.state) then s
  else
    match byteAt f.data 1 with
    | 1 =>
      if 1024 ≤ u then s
      else if role ≠ s.cfg.roles.get .weir u then s.panelStale 4 u (s.cfg.roles.get .weir u) role f.node
      else if !(s.weirCfgOf u).enable then s
      else s.panelLive (.weirAck u) f.node role
    | 2 =>
      if 128 ≤ u then s
      else if role ≠ s.cfg.roles.get .group u then s.panelStale 5 u (s.cfg.roles.get .group u) role f.node
      else s.panelLive (.groupAck u) f.node role
    | 3 => if u < 16 then s.panelLive (.callAccept u f.node panel) f.node 0 else s
    | 4 =>
      let own := memberPanel s.cfg.img u = (f.node, panel)
      let pend := match s.eng.duty.pending with | some h => decide (h.member = u) | none => false
      if u < 16 && eligible s.cfg.img u && own && pend then s.panelLive (.duty 1 u) f.node 0 else s
    | _ => s

/-! ## Step 1 (R297) -/

/-- A message acts. -/
def State.takeMessage (s : State) (f : RxFrame) : State :=
  match f.cls with
  | 0x00 => s.rxTimeRef f
  | 0x01 => s.rxTimeFu f
  | 0x02 => (s.claimState f).rxClaim f
  | 0x03 => s.absent f.bus f.node 0x0703 (byteAt f.data 0)
  | 0x04 => s.rxHeartbeat f
  | 0x05 => s.rxGenFreq f
  | 0x08 => s.rxFoCand f
  | 0x09 => s.rxFoDecide f
  | 0x0A => s.rxFoReset f
  | 0x0D => s.rxPanel f
  | _ => s

/-- Step 1 of Table 01.3: the match slots are drained in ascending order, then the frames that spilled into the ring (R297). -/
def State.drainSlots (s : State) : State :=
  (s.bus.slots.flatten ++ s.bus.spill).foldl State.takeMessage
    (s.modBus (fun n => { n with slots := List.replicate 8 [], spill := [] }))

/-! ## Remote culverts -/

/-- The transfer of a segment: source, number and direction. -/
def Reassembly.is (r : Reassembly) (src transfer : Nat) (rsp : Bool) : Bool :=
  decide (r.src = src) && decide (r.transfer = transfer) && decide (r.rsp = rsp)

/-- The bytes of a complete transfer. -/
def Reassembly.bytes (r : Reassembly) : List Byte :=
  ((List.range r.count).flatMap (fun i => ((r.segs.find? (fun x => decide (x.1 = i))).map (fun x => x.2)).getD [])).take r.len

/-- A free remote tag (R81). -/
def State.freeTag (s : State) : Option Nat := (List.range 16).findSome? (fun i => if s.inFlight (240 + i) then none else some (240 + i))

/-- A remote request is placed on a free tag and checked; with all sixteen in flight the sender receives `BUSY`, `0x7F`
(R81). -/
def State.placeRemote (s : State) (r : Reassembly) : State :=
  let b := padTo 256 r.bytes
  if !s.host.ready then s
  else
    match s.freeTag with
    | none => s.sendCulvert r.bus 0x21 r.src r.transfer (respBytes b .busy 0x7F []) 16 .culvertRsp
    | some tag =>
      let req := b.set 2 (BitVec.ofNat 8 tag)
      let f : Flight := { id := tag, origin := .node r.src, auth := r.auth, bus := r.bus, transfer := r.transfer, req }
      ({ s with host := { s.host with req := s.host.req.writeList (256 * tag) req, rsp := s.host.rsp.write (256 * tag + 12) 1 } }).submit f

/-- The response to a forwarded culvert: as much of it as fits, with `TRUNCATED` (R80). -/
def State.forwardDone (s : State) (r : Reassembly) : State :=
  let b := r.bytes
  s.endWaits (fun w =>
    match w with
    | .forward node tr _ =>
      if node = r.src ∧ tr = r.transfer then some (.ok, if 240 < b.length then 1 else 0, b.take 240) else none
    | _ => none)

/-- A segment that finds place in the ring joins its transfer; duplicates are discarded; the last one completes it (R298,
R321). -/
def State.rxSegment (s : State) (f : RxFrame) (rsp : Bool) : State :=
  let seg := f.index % 8
  let tr := f.index / 8 % 32
  let count := byteAt f.data 0
  let len := u16At f.data 2
  if 128 ≤ s.ringFill then s.overrun f.bus
  else if f.index / 256 ≠ s.bus.nodeId || len < 16 || 256 < len || count ≠ (len + 55) / 56 || count ≤ seg then s
  else
    let ring := s.bus.ring.filter (fun r => !(r.done && decide (r.first + ms 100 ≤ s.clk.now)))
    let old := ring.find? (fun r => r.is f.node tr rsp)
    let r : Reassembly := old.getD { src := f.node, transfer := tr, rsp, bus := f.bus, count, len, segs := [], first := s.clk.now, auth := true }
    if r.done || r.segs.any (fun x => decide (x.1 = seg)) then s
    else
      let r1 : Reassembly := { r with segs := r.segs ++ [(seg, (f.data.drop 4).take 56)], auth := r.auth && f.auth }
      let rest := ring.filter (fun x => !x.is f.node tr rsp)
      if r1.segs.length = r1.count then
        let s1 := s.modBus (fun n => { n with ring := rest ++ [{ r1 with done := true, segs := [] }] })
        if rsp then s1.forwardDone r1 else s1.placeRemote r1
      else s.modBus (fun n => { n with ring := rest ++ [r1] })

/-- A transfer incomplete 100 ms after its first segment is discarded, logged once per minute (R321). -/
def State.segLost (s : State) (src tr : Nat) (rsp : Bool) : State :=
  match s.bus.ring.find? (fun r => r.is src tr rsp && decide (r.first + ms 100 ≤ s.clk.now)) with
  | none => s
  | some r =>
    let s1 := s.modBus (fun n => { n with ring := n.ring.filter (fun x => !x.is src tr rsp) })
    let quiet := match s.bus.segLog with | some t => decide (s.clk.now < t + secs 60) | none => false
    if r.done || quiet then s1
    else (s1.modBus (fun n => { n with segLog := some s.clk.now })).logBus r.bus 0x070B 4
      (protoId 5 (if rsp then 0x21 else 0x20) src (s.bus.nodeId * 256 + tr * 8)) 0

/-- Buses of a forwarded culvert: the mask, or the route of the network entry (R80, R321). -/
def State.routes (s : State) (mask : Nat) : List Nat :=
  if mask ≠ 0 then (List.range 4).filter (fun b => tst mask b)
  else if s.busField 4 4 1 = 4 then [0, 1] else [s.busField 4 4 1]

/-- `SYS_FORWARD` (R80): the inner culvert goes out in segments, and its response completes the request. -/
def State.forward (s : State) (f : Flight) : State :=
  let dst := byteAt f.req 16
  if dst = s.bus.nodeId then s.refuse f (.badField, 16, [])
  else
    let tr := s.bus.transfers.getD dst 0
    let body := f.payload.drop 4
    let s1 := (s.modBus (fun n => { n with transfers := modAt n.transfers dst (fun k => (k + 1) % 32) })).wait f
      (.forward dst tr (s.clk.now + ms (u16At f.req 18)))
    (s.routes (byteAt f.req 17)).foldl (fun s b => s.sendCulvert b 0x20 dst tr body body.length (.culvertReq f.id)) s1

/-! ## Rows -/

/-- `HEARTBEAT` (R319). -/
def execHeartbeat (t bus node mark : Nat) (data : List Byte) (s : State) : Host.Outcome State Fault Refusal :=
  guardUnit (decide (bus < 4)) (s.rxMessage t (s.rxFrame bus 0x04 node 0 mark data))
/-- `GOING_DOWN` (R319). -/
def execGoingDown (t bus node mark : Nat) (data : List Byte) (s : State) : Host.Outcome State Fault Refusal :=
  guardUnit (decide (bus < 4)) (s.rxMessage t (s.rxFrame bus 0x03 node 0 mark data))
/-- `NODE_LOST` (R319). -/
def execNodeLost (t bus node : Nat) (s : State) : Host.Outcome State Fault Refusal :=
  guardUnit (decide (bus < 4)) ((s.advance t).nodeLost bus node)
/-- `BUS_LEG_FAULT` (R318): node and silent leg. -/
def execBusLegFault (t node leg : Nat) (s : State) : Host.Outcome State Fault Refusal := .next ((s.advance t).legFault node leg)
/-- `HEARTBEAT_SEND` (R301). -/
def execHeartbeatSend (t : Nat) (s : State) : Host.Outcome State Fault Refusal := .next (s.advance t).sendHeartbeat
/-- `FO_CAND` (R249). -/
def execFoCand (t bus node index mark : Nat) (data : List Byte) (s : State) : Host.Outcome State Fault Refusal :=
  guardUnit (decide (bus < 4)) (s.rxMessage t (s.rxFrame bus 0x08 node index mark data))
/-- `FO_DECIDE` (R250). -/
def execFoDecide (t bus node index mark : Nat) (data : List Byte) (s : State) : Host.Outcome State Fault Refusal :=
  guardUnit (decide (bus < 4)) (s.rxMessage t (s.rxFrame bus 0x09 node index mark data))
/-- `FO_RESET_MESSAGE` (R251). -/
def execFoResetMessage (t bus node index mark : Nat) (data : List Byte) (s : State) : Host.Outcome State Fault Refusal :=
  guardUnit (decide (bus < 4)) (s.rxMessage t (s.rxFrame bus 0x0A node index mark data))
/-- `PANEL` (R302). -/
def execPanel (t bus node mark : Nat) (data : List Byte) (s : State) : Host.Outcome State Fault Refusal :=
  guardUnit (decide (bus < 4)) (s.rxMessage t (s.rxFrame bus 0x0D node 0 mark data))
/-- `CULVERT_REQ` (R81): one segment of a request. -/
def execCulvertReq (t bus node index mark : Nat) (data : List Byte) (s : State) : Host.Outcome State Fault Refusal :=
  guardUnit (decide (bus < 4)) ((s.advance t).rxProto (s.rxFrame bus 0x20 node index mark data) (fun f s => s.rxSegment f false))
/-- `CULVERT_RSP` (R80): one segment of a response. -/
def execCulvertRsp (t bus node index mark : Nat) (data : List Byte) (s : State) : Host.Outcome State Fault Refusal :=
  guardUnit (decide (bus < 4)) ((s.advance t).rxProto (s.rxFrame bus 0x21 node index mark data) (fun f s => s.rxSegment f true))
/-- `CULVERT_SEG_LOST` (R321). -/
def execCulvertSegLost (t node transfer : Nat) (rsp : Bool) (s : State) : Host.Outcome State Fault Refusal :=
  .next ((s.advance t).segLost node transfer rsp)
/-- `SYS_FORWARD` (R80). -/
def execSysForward (t tag : Nat) (s : State) : Host.Outcome State Fault Refusal :=
  .next (s.withCur t tag 0x0105 (fun f s => s.forward f))
/-- `FORWARD_TIMEOUT` (R80): forwarded culverts whose timeout has passed. -/
def execForwardTimeout (t : Nat) (s : State) : Host.Outcome State Fault Refusal :=
  let s1 := s.advance t
  .next (s1.endWaits (fun w => match w with
    | .forward _ _ d => if d ≤ s1.clk.now then some (.aborted, 1, []) else none
    | _ => none))

/-- A node counts as present on a bus (R319). -/
def State.isPresent (s : State) (b n : Nat) : Bool :=
  let p := s.presence b n
  p.present && (match p.last with | some t => decide (s.clk.flow < t + ms 300) | none => false)

/-- Present-node map of a bus. -/
def State.presentMap (s : State) (b : Nat) : Nat := packBits ((List.range 64).map (s.isPresent b))

/-- `BUS_NODES` (Table 11.19). -/
def execBusNodes (t tag : Nat) (s : State) : Host.Outcome State Fault Refusal :=
  .next (s.withCur t tag 0x0706 (fun f s =>
    let b := byteAt f.req 16
    s.ok f (le64 (s.presentMap b) ++ (List.range 64).flatMap (fun n => le8 (s.presence b n).state))))

end Sys2Proof.Machine
end

