-- ==== Sys2Proof/Machine/BusObj.lean ====
section
/-!
DEFINITION. Bus objects and bus values (R314 to R318, R330), the bus health record (R327), a commit that changes controller
entries (R326).
-/

namespace Sys2Proof.Machine

open Sys2Proof

/-! ## Entries in force (Tables 11.11, 11.12) -/

/-- Field of a bus object entry in force. -/
def State.objField (s : State) (j o n : Nat) : Nat :=
  match imgEntry s.cfg.img 0x51 j with | some a => s.cfg.img.num (a + o) n | none => 0
/-- Option bit of a bus object. -/
def State.objOpt (s : State) (j i : Nat) : Bool := tst (s.objField j 1 1) i
/-- Object `j` is enabled. -/
def State.objOn (s : State) (j : Nat) : Bool := s.objOpt j 0
/-- Object `j` transmits. -/
def State.objTx (s : State) (j : Nat) : Bool := s.objOn j && !s.objOpt j 1
/-- Object `j` receives. -/
def State.objRx (s : State) (j : Nat) : Bool := s.objOn j && s.objOpt j 1
/-- Buses of object `j`. -/
def State.objBuses (s : State) (j : Nat) : List Nat := let b := s.objField j 2 1; if b = 4 then [0, 1] else [b]
/-- Fields of object `j`: format, offset, word +2, word +4. -/
def State.objFields (s : State) (j : Nat) : List (Nat × Nat × Nat × Nat) :=
  (List.range (min 8 (s.objField j 14 1))).map (fun i =>
    (s.objField j (16 + 6 * i) 1, s.objField j (17 + 6 * i) 1, s.objField j (18 + 6 * i) 2, s.objField j (20 + 6 * i) 2))
/-- Shadow of object `j`. -/
def State.shadow (s : State) (j : Nat) : Shadow := s.bus.shadows.getD j {}
/-- Shadow changed. -/
def State.modShadow (s : State) (j : Nat) (f : Shadow → Shadow) : State :=
  s.modBus (fun n => { n with shadows := modAt n.shadows j f })

/-! ## Transmission (R315, R316) -/

/-- Role epoch of a source unit, `0xFFFF` for a kind that carries none (R315). -/
def State.sourceRole (s : State) (kind idx : Nat) : Nat :=
  match kind with
  | 1 => s.cfg.roles.get .chan idx | 6 => s.cfg.roles.get .blend idx | 7 => s.cfg.roles.get .enc idx
  | 8 => s.cfg.roles.get .enc idx | 9 => s.cfg.roles.get .di idx | _ => 0xFFFF

/-- Bytes of one transmitted field, and what `ON_CHANGE` compares of it (Table 11.12, R316). -/
def State.txField (s : State) (fmt kind idx : Nat) : List Byte × List Byte :=
  if fmt = 3 then
    let b := (s.weir idx).bytes (s.weirCfgOf idx) (s.cfg.roles.get .weir idx)
    -- CHANGED, bit 7 of the state byte, is no part of the state (R316)
    (b, le8 (byteAt b 0 % 128))
  else
    let v := s.source kind idx
    let sig := leF32 v.1 ++ le8 v.2.code
    if fmt = 2 then (leF32 v.1 ++ le8 v.2.code ++ le8 0 ++ le16 (s.sourceRole kind idx), sig) else (leF32 v.1, sig)

/-- Bytes put at an offset of a payload. -/
def putAt (p : List Byte) (o : Nat) (b : List Byte) : List Byte := p.take o ++ b ++ p.drop (o + b.length)

/-- Bytes of a payload without its tag: its length, less four with `AUTH`. -/
def State.objLen (s : State) (j : Nat) : Nat := s.objField j 12 1 - (if s.objOpt j 5 then 4 else 0)

/-- The fields of a transmitting object as the frame in progress has them, in place in the payload (R315). -/
def State.objBody (s : State) (j : Nat) : List Byte × List Byte :=
  (s.objFields j).foldl (fun p f =>
    let b := s.txField f.1 (f.2.2.1 % 256) f.2.2.2
    (putAt p.1 f.2.1 b.1, p.2 ++ b.2)) (zeros (s.objLen j), [])

/-- End of step 6: every transmitting object's fields are taken from the frame. -/
def State.objCompute (s : State) : State :=
  s.modBus (fun n => { n with shadows := (List.range 128).map (fun j =>
    let x := n.shadows.getD j {}
    if s.objTx j then let b := s.objBody j; { x with nextBody := b.1, nextSig := b.2 }
    else { x with body := [], sig := [], nextBody := [], nextSig := [], due := none }) })

/-- A period's phase instant lies after network time `a` and at or before `b`, both ns (R316). -/
def phaseDue (a b period phase : Nat) : Bool :=
  let p := ms period
  let o := ms phase
  decide (0 < period) && decide ((a + p - o) / p < (b + p - o) / p)

/-- Objects that fall due at a tick: by their period, or with `ON_CHANGE` after a published frame that changed a field; the
published frame's fields become those that are sent (R316, R52). -/
def State.objTick (s : State) (published : Bool) : State :=
  s.modBus (fun n => { n with shadows := (List.range 128).map (fun j =>
    let x := n.shadows.getD j {}
    if s.objTx j then
      let per := phaseDue s.frame.prevBase s.clk.base (s.objField j 8 2) (s.objField j 10 2)
      let chg := published && s.objOpt j 4 && decide (x.nextSig ≠ x.sig)
      let y := if published then { x with body := x.nextBody, sig := x.nextSig } else x
      if per || chg then { y with due := some !published } else y
    else x) })

/-- Payload of an object without its tag (R315). -/
def State.objPayload (s : State) (j : Nat) (repeated : Bool) : List Byte :=
  let body := let x := (s.shadow j).body; if x.isEmpty then zeros (s.objLen j) else x
  if s.objOpt j 2 then body
  else
    let fl := bit repeated + 2 * bit (decide (s.pwr.state = .safe)) + 4 * bit s.unaligned
    putAt body 0 (le16 s.frame.pubSeq ++ le8 fl ++ le8 0)

/-- Object of a frame. -/
def TxRole.objOf : TxRole → Option Nat
  | .object o => some o | _ => none

/-- Content for an object's buffer: it takes its place, or replaces an unsent frame in place, which counts as `TX_LATE` (R295;
log 158). Requests that wait for the buffer go on waiting for it. -/
def BusCtl.loadObj (c : BusCtl) (f : TxFrame) (j : Nat) : BusCtl :=
  if c.objs.any (fun x => decide (x.role.objOf = some j)) then
    { c with txLate := satAdd 65535 c.txLate 1,
             objs := modFirst (fun x => decide (x.role.objOf = some j))
               (fun x => { x with data := f.data, put := f.put, asks := x.asks ++ f.asks }) c.objs }
  else { c with objs := c.objs ++ [f] }

/-- The buffer of object `j` is loaded on its buses, where a controller in `LISTEN_ONLY` holds it (R292); an `AUTH` object is not
sent while `TIME_UNALIGNED` is set (R316). `asks` are the requests of `BUS_OBJ_SEND` the content comes for. -/
def State.objLoad (s : State) (j : Nat) (repeated : Bool) (asks : List Nat) : State :=
  if s.objOpt j 5 && s.unaligned then s
  else
    let native := !s.objOpt j 2
    let f : TxFrame :=
      { ext := native, id := if native then protoId (s.objField j 7 1) 0x10 s.bus.nodeId j else s.objField j 4 2
        data := s.objPayload j repeated, key := if s.objOpt j 5 then some (s.objField j 13 1) else none
        since := s.clk.now, put := s.clk.now, role := .object j, asks := asks.map (fun a => (a, s.clk.now)) }
    (s.objBuses j).foldl (fun s b =>
      if (s.ctl b).state = .off then s else s.modCtl b (fun c => c.loadObj f j)) s

/-- A due object's buffer is loaded (R316). -/
def State.objDue (s : State) (j : Nat) : State :=
  match (s.shadow j).due with
  | some r => (s.modShadow j (fun x => { x with due := none })).objLoad j r []
  | none => s

/-- Objects still due are loaded before their values give way to those of the next frame. -/
def State.objFlush (s : State) : State := s.each 128 State.objDue

/-- `BUS_OBJECT_DUE` (R316): the object fell due at the last tick. Objects of lower index that fell due at the same tick enter
the FIFO before it (R294). -/
def execBusObjectDue (t obj : Nat) (s : State) : Host.Outcome State Fault Refusal :=
  guardUnit (decide (obj < 128)) ((s.advance t).each (obj + 1) State.objDue)

/-- `BUS_OBJ_SEND` (R330). -/
def execBusObjSend (t tag : Nat) (s : State) : Host.Outcome State Fault Refusal :=
  .next (s.withCur t tag 0x0704 (fun f s =>
    if !s.objTx f.unit then s.refuse f (.badField, 8, [])
    else ((s.objLoad f.unit false [f.id])).wait f (.busSend f.unit (s.clk.now + secs 1))))

/-- `BUS_OBJ_SEND_TIMEOUT` (R330): requests whose frame has not gone out within 1 s. -/
def execBusObjSendTimeout (t : Nat) (s : State) : Host.Outcome State Fault Refusal :=
  let s1 := s.advance t
  .next ((s1.host.waits.filter (fun w => match w.kind with | .busSend _ d => decide (d ≤ s1.clk.now) | _ => false)).foldl
    (fun s w => s.sendDone w.fl.id .aborted 1 []) s1)

/-! ## Reception (R299, R317, R318) -/

/-- A finite value. -/
def F32.isFinite (x : F32) : Bool := decide (x.toNat / 8388608 % 256 ≠ 255)

/-- Value and quality a received field gives, with the last accepted value kept (Table 11.13); the answer is value,
quality, last accepted value. -/
def rxField (fmt : Nat) (d : List Byte) (last : F32) : F32 × Quality × F32 :=
  if fmt = 3 then
    let st := byteAt d 0
    let v := flagVal (tst st 5)
    let q : Quality := if st % 16 = 7 then .sourceFault else if st % 16 = 6 then .disabled else .good
    (v, q, v)
  else
    let v := f32At d 0
    if !F32.isFinite v then
      (last, if v.toNat % 8388608 ≠ 0 then .sourceFault else if v.toNat < 2147483648 then .overRange else .underRange, last)
    else if fmt = 2 then
      match Quality.ofCode (byteAt d 4) with
      | some q => (v, q, v)
      | none => (last, .sourceFault, last)
    else (v, .good, v)

/-- Role epoch a received field carries; none for `VAL32`. -/
def rxRole (fmt : Nat) (d : List Byte) : Option Nat := if fmt = 1 then none else some (u16At d 6)

/-- A received field is refused for its role epoch (R47). -/
def rxStale (fmt expect : Nat) (d : List Byte) : Bool :=
  decide (expect ≠ 0xFFFF) && (match rxRole fmt d with | some r => decide (r ≠ expect) | none => false)

/-- A bus value at a capture, from the field that names it (Table 11.13). -/
def State.busValue (s : State) (j : Nat) (f : Nat × Nat × Nat × Nat) (v : BusValue) : BusValue :=
  let x := s.shadow j
  let d := x.data.drop f.2.1
  let fresh := ms (s.objField j 8 2)
  let node := if s.objOpt j 2 then 0xFF else s.objField j 6 1
  match x.rx with
  | none => { v with val := v.last, q := if s.clk.flow < x.enabled + fresh then .settling else .stale, node, rx := none }
  | some t =>
    let stale := rxStale f.1 f.2.2.1 d
    let r := rxField f.1 d v.last
    let late := decide (t + fresh ≤ s.clk.flow)
    let last := if stale then v.last else r.2.2
    if stale then { v with val := v.last, q := .sourceFault, node, rx := some t }
    else if late then { val := last, last, q := if s.clk.flow < x.enabled + fresh then .settling else .stale, node, rx := some t }
    else { val := r.1, q := r.2.1, last, node, rx := some t }

/-- Bus values of the fields of one object. -/
def State.objValues (s : State) (j : Nat) : State :=
  if s.objRx j then
    (s.objFields j).foldl (fun s f => s.modBus (fun n => { n with values := modAt n.values f.2.2.2 (s.busValue j f) })) s
  else s

/-- A bus value is named by an enabled receive field. -/
def State.valueUsed (s : State) : List Nat :=
  (List.range 128).flatMap (fun j => if s.objRx j then (s.objFields j).map (fun f => f.2.2.2) else [])

/-- Step 1 of Table 01.3: the match slots are drained, then every bus value is taken (R297, R299, R317). -/
def State.busCapture (s : State) : State :=
  let used := s.valueUsed
  let s0 := s.drainSlots
  let s1 := s0.modBus (fun n => { n with values := (List.range 512).map (fun k =>
    if used.contains k then n.values.getD k {} else {}) })
  s1.each 128 State.objValues

/-- Refused fields of an accepted frame are logged (R47). -/
def State.logRefused (s : State) (j node : Nat) (new : List Byte) : State :=
  (s.objFields j).foldl (fun s f =>
    let d := new.drop f.2.1
    let r := (rxRole f.1 d).getD 0
    if rxStale f.1 f.2.2.1 d then
      s.logEv 0x0103 4 12 j r (f.2.2.1 + r * 65536) (node * 65536)
    else s) s

/-- A frame is accepted by receiving object `j` (R299, R318, R322). -/
def State.accept (s : State) (j b node id flow : Nat) (ext : Bool) (data : List Byte) : State :=
  let x := s.shadow j
  let (s1, a) := s.rxAuth b (if s.objOpt j 5 then some (s.objField j 13 1) else none) ext false id data
  let seq := u16At data 0
  let copy := ext && decide (s.objField j 2 1 = 4) && (match x.rx with
    | some t => decide (x.seqLow = seq) && decide (x.leg ≠ b) && decide (flow < t + ms (s.objField j 8 2)) | none => false)
  if a.isNone || copy then s1
  else
    (s1.modShadow j (fun y => { y with data, rx := some flow, leg := b, seqLow := seq })).logRefused j
      (if ext then node else 0) data

/-- Receiving objects that a frame on bus `b` matches. -/
def State.matching (s : State) (b : Nat) (foreign : Bool) (node ident len : Nat) : List Nat :=
  (List.range 128).filter (fun j =>
    s.objRx j && (s.objOpt j 2 == foreign) && (s.objBuses j).contains b && decide (s.objField j 4 2 = ident) &&
      (foreign || decide (s.objField j 6 1 = node)) && decide (s.objField j 12 1 = len))

/-- A native `VALUE` frame (R317). -/
def State.rxValue (s : State) (b prio node index flow : Nat) (data : List Byte) : State :=
  if !(s.ctl b).hears || !s.busOpt b 1 then s
  else
    let s1 := s.rxOk b
    if s1.bus.claimEnd.isSome && node = s1.bus.nodeId then s1.raiseDuplicate 0
    else
      (s1.matching b false node index data.length).foldl (fun s j =>
        s.accept j b node (protoId prio 0x10 node index) flow true data) s1

/-- A base-format frame (R299). -/
def State.rxForeign (s : State) (b id flow : Nat) (data : List Byte) : State :=
  if !(s.ctl b).hears then s
  else
    let s1 := s.rxOk b
    (s1.matching b true 0 id data.length).foldl (fun s j => s.accept j b 0 id flow false data) s1

/-- `VALUE` (R317). -/
def execValue (t bus prio node index mark : Nat) (data : List Byte) (s : State) : Host.Outcome State Fault Refusal :=
  guardUnit (decide (bus < 4)) ((s.advance t).rxValue bus prio node index (s.markClk mark).flow data)
/-- `FOREIGN_FRAME` (R299). -/
def execForeignFrame (t bus id mark : Nat) (data : List Byte) (s : State) : Host.Outcome State Fault Refusal :=
  guardUnit (decide (bus < 4)) ((s.advance t).rxForeign bus id (s.markClk mark).flow data)
/-- `FRESHNESS_TIMEOUT` (R317): the objects whose freshness timeout has passed give their values anew. -/
def execFreshnessTimeout (t obj : Nat) (s : State) : Host.Outcome State Fault Refusal :=
  guardUnit (decide (obj < 128)) (let s1 := s.toFrame t
    match (s1.shadow obj).rx with
    | some r => if r + ms (s1.objField obj 8 2) ≤ s1.clk.flow then s1.objValues obj else s1
    | none => if (s1.shadow obj).enabled + ms (s1.objField obj 8 2) ≤ s1.clk.flow then s1.objValues obj else s1)

/-- `BUS_VALUES` (Table 11.19). -/
def execBusValues (t tag : Nat) (s : State) : Host.Outcome State Fault Refusal :=
  .next (s.withCur t tag 0x0707 (fun f s =>
    let i := u16At f.req 16
    let k := u16At f.req 18
    if 512 < i + k then s.refuse f (.badField, 18, [])
    else
      s.ok f (le16 i ++ le16 k ++ le32 0 ++ (List.range k).flatMap (fun n =>
        let v := s.bus.values.getD (i + n) {}
        let age := match v.rx with | some t => min 65535 ((s.clk.flow - t) / 1000000) | none => 65535
        leF32 v.val ++ le8 v.q.code ++ le8 v.node ++ le16 age))))

/-! ## Health record (Tables 11.16, 11.17) -/

/-- State code of Table 11.16. -/
def BusState.code : BusState → Nat
  | .off => 0 | .listenOnly => 1 | .errorActive => 2 | .errorPassive => 3 | .busOff => 4 | .recovering => 5

/-- Termination connected (R288). -/
def State.termOn (s : State) (b : Nat) : Bool :=
  s.busOpt b 2 && ([NodeState.starting, .armed, .safe, .holdup].contains s.pwr.state) && decide (s.pwr.stage = .restored)

/-- Health record of controller `b`. -/
def State.busBytes (s : State) (b : Nat) : List Byte :=
  let c := s.ctl b
  let n := s.bus.net
  let flags := 128 * bit (s.termOn b) + 64 * bit (!c.legNodes.isEmpty) + 32 * bit s.bus.duplicate + 16 * bit c.dominant +
    8 * bit (n.taken && !n.isMaster && decide (s.timeBus = b)) + 4 * bit (s.bus.claimEnd.isSome && decide (c.state ≠ .off)) +
    2 * bit (decide (c.state = .busOff)) + bit (s.pairAB && decide (b < 2))
  let map := s.presentMap b
  le8 c.state.code ++ le8 flags ++ le8 (min 255 c.tec) ++ le8 (min 255 c.rec_) ++ le8 c.errA ++ le8 c.errD ++ le8 (min 255 c.load) ++
    le8 n.state ++ le32 c.txCount ++ le32 c.rxCount ++ le16 c.overruns ++ le16 c.busOffs ++ le16 c.idClashes ++ le16 c.authFails ++
    le16 c.txLate ++ le16 c.txDelay ++ leS32 (clampI (-2147483648) 2147483647 c.theta) ++
    le8 (match n.master with | some m => m.1 | none => 0xFF) ++ le8 (countTrue ((List.range 64).map (s.isPresent b))) ++ le16 0 ++
    le64 map ++ leS32 (clampI (-2147483648) 2147483647 s.clk.ratePpb) ++ zeros 16

/-! ## Commits (R326) -/

/-- The controllers and objects take the entries of a new configuration at its tick; `old` is the image before. A controller
whose entry changes finishes its frame as before and resumes in the state of the new options, its error counters at zero
(log 159); a new object that transmits has the values of the last published frame. -/
def State.busApply (s : State) (old : Mem) : State :=
  let entry (m : Mem) (id n z : Nat) : List Byte := match imgEntry m id n with | some a => m.readList a z | none => []
  let s1 := s.each 4 (fun s b =>
    if entry old 0x50 b 64 = entry s.cfg.img 0x50 b 64 then s
    else
      let trio := match imgEntry old 0x50 b with | some a => tst (old.u8 (a + 1)) 4 | none => false
      s.modCtl b (fun c => { c with state := s.ctlStart b, tec := 0, rec_ := 0, holdEnd := none, offSince := none
                                    cut := some (s.clk.now, c.state, trio) }))
  let s2 := s1.modBus (fun n => { n with shadows := (List.range 128).map (fun j =>
    let x := n.shadows.getD j {}
    if entry old 0x51 j 64 = entry s.cfg.img 0x51 j 64 then x
    else if s.objTx j then let b := s1.objBody j; { enabled := s.clk.flow, body := b.1, sig := b.2 }
    else { enabled := s.clk.flow }) })
  let gone (f : TxFrame) : Bool := match f.role.objOf with | some j => !s2.objTx j | none => false
  let s3 := s2.modBus (fun n => { n with ctl := n.ctl.map (fun c => { c with objs := c.objs.filter (fun f => !gone f) }) })
  if s3.bus.net.isMaster && !s3.isCandidate then (s3.modNet (fun n => { n with isMaster := false })).timeState 3 else s3

end Sys2Proof.Machine
end

