-- ==== Sys2Proof/Machine/Cal.lean ====
section
/-!
DEFINITION. Field calibration (R143 to R148, R182), charge amplifier resets (R183), the curve library (R173, R181) and
the vibration capture (R184).
-/

namespace Sys2Proof.Machine

open Sys2Proof

/-! ## Field calibration -/

/-- Gain and temperature coefficients of the factory record of a channel that is valid, if one is (R182). -/
def State.factoryRec (s : State) (n : Nat) : CalRec :=
  (calFind s.cal.part n (s.func n) (s.chField n 2 1) [2, 3]).1

/-- The 30 bytes of a record with its CRC (Table 05.16). -/
def calSeal (b : List Byte) : List Byte := b ++ le16 (crc16 b)

/-- The field record of channel `n` with gain `g` and offset `o`, measured now (R148, R182). -/
def State.fieldRecord (s : State) (n : Nat) (g o : F32) : List Byte :=
  let r := s.factoryRec n
  let k := s.bank (n / 8)
  calSeal (le8 n ++ le8 (s.func n) ++ le8 (s.chField n 2 1) ++ le8 3 ++ leF32 g ++ leF32 o ++ leF32 r.cg ++ leF32 r.co ++
    leS16 k.house.temp ++ leS16 (Rat.fl (s.pwr.caseT * 16)) ++ le16 (min 65535 (divRound k.pb.num k.pb.den).toNat) ++
    le32 (s.clk.base / 1000000000))

/-- Address of the field record a new calibration of channel `n` takes: the index that holds its function and range, else
the first that is not in use, else the one with the oldest calibration time (R182). -/
def State.calPlace (s : State) (n : Nat) : Nat :=
  let m := s.cal.part
  let at_ (i : Nat) : Nat := calArea 1 + 32 * (16 * n + i)
  match calMatch m 1 n (s.func n) (s.chField n 2 1) with
  | some a => a
  | none =>
    match (List.range 16).find? (fun i => !tst (m.u8 (at_ i + 3)) 1) with
    | some i => at_ i
    | none => at_ ((List.range 16).foldl (fun b i => if m.u32 (at_ i + 26) < m.u32 (at_ b + 26) then i else b) 0)

/-- Calibration steps changed. -/
def State.modRun (s : State) (k : Nat) (f : CalRun → CalRun) : State :=
  { s with cal := { s.cal with runs := s.cal.runs.map (fun r => if r.num = k then f r else r) } }

/-- A calibration step is over: it is forgotten, and its request completes. -/
def State.calAnswer (s : State) (k : Nat) (st : Status) (d : Nat) (p : List Byte) : State :=
  let s1 := { s with cal := { s.cal with runs := s.cal.runs.filter (fun r => r.num != k) } }
  s1.endWaits (fun w => if w = .calibration k then some (st, d, p) else none)

/-- A calibration step fails for want of energy at once when its request carries `NO_WAIT`. -/
def State.calNoWait (s : State) (k : Nat) : Bool :=
  s.host.waits.any (fun w => decide (w.kind = .calibration k) && w.fl.noWait)

/-- The record of a calibration step goes to its churn (R148). -/
def State.calWrite (s : State) (r : CalRun) (a : Nat) (bytes rsp : List Byte) : State :=
  if s.calNoWait r.num && !s.energyOk 310 then s.calAnswer r.num .energyRefused 0 (s.energyPayload 310)
  else
    let (s1, op) := s.nvmRequest .calChurn (Mem.fromList 0 bytes) a
    s1.modRun r.num (fun x => { x with churn := some (s.clk.now, op), rsp })

/-- Response of `CHAN_CAL` (Table 06.11). -/
def calRsp (x g o : F32) : List Byte := leF32 x ++ leF32 g ++ leF32 o

/-- The average of a calibration step is complete: the step is judged and acts (R182). -/
def State.calJudge (s : State) (r : CalRun) : State :=
  let n := r.chan
  let x := F32.ofRat (r.sum / (r.n : Rat))
  let use_ := (s.calRec n).1
  let t := (s.bank (n / 8)).house.temp
  if !r.clean || r.n = 0 then s.calAnswer r.num .hwFault 1 []
  else if r.step = 0 then
    let low : CalLow := { chan := n, x, ref := r.ref, tb := t, time := s.clk.now }
    let lows := s.cal.lows.filter (fun (l : CalLow) => l.chan != n) ++ [low]
    ({ s with cal := { s.cal with lows } }).calAnswer r.num .ok 0 (calRsp x use_.g use_.o)
  else if r.step = 3 then
    let o := r.ref.sub (use_.g.mul x)
    s.calWrite r (s.calPlace n) (s.fieldRecord n use_.g o) (calRsp x use_.g o)
  else
    match s.cal.lows.find? (fun l => l.chan = n) with
    | none => s.calAnswer r.num .badField 16 []
    | some l =>
      if 16 < t - l.tb ∨ 16 < l.tb - t then s.calAnswer r.num .hwFault 2 []
      else if l.time + secs 600 < s.clk.now then s.calAnswer r.num .hwFault 3 []
      else if decide (x.toRat - l.x.toRat < s.fs n / 10) && decide (l.x.toRat - x.toRat < s.fs n / 10) then s.calAnswer r.num .badField 20 []
      else
        let g := (r.ref.sub l.ref).div (x.sub l.x)
        let o := l.ref.sub (g.mul l.x)
        s.calWrite r (s.calPlace n) (s.fieldRecord n g o) (calRsp x g o)

/-- A calibration step has averaged for 1 s. -/
def CalRun.over_ (r : CalRun) (now : Nat) : Bool := r.churn.isNone && held r.since now (secs 1)

/-- Every calibration step whose average is complete is judged, in order of request. -/
def State.calEnds (s : State) : State :=
  (s.cal.runs.filter (fun r => r.over_ s.clk.now)).foldl (fun s r => s.calJudge r) s

/-- A tick: averages waiting for it start, and records churned apply (R148); their requests complete with the frame that
shows them (R65). -/
def State.calTick (s : State) : State :=
  let done := s.cal.runs.filter (fun r => r.written)
  let runs := (s.cal.runs.filter (fun r => !r.written)).map (fun r =>
    if r.since.isNone && r.churn.isNone then { r with since := some s.clk.now } else r)
  let s1 := { s with cal := { s.cal with runs, inForce := s.cal.part } }
  { s1 with host := { s1.host with waits := s1.host.waits.map (fun w =>
      match done.find? (fun r => decide (w.kind = .calibration r.num)) with
      | some r => { w with kind := .publish r.rsp }
      | none => w) } }

/-- The calibration churn under way is complete (R148). -/
def State.calChurned (s : State) (o : NvmOp) : State :=
  let s1 := { s with cal := { s.cal with part := s.cal.part.writeList o.arg (o.data.readList 0 32),
                                         runs := s.cal.runs.map (fun r =>
                                           match r.churn with
                                           | some (_, k) => if k = o.num then { r with written := true } else r
                                           | none => r) } }
  s1

/-- A calibration step begins. -/
def State.calBegin (s : State) (f : Flight) : State :=
  let k := s.cal.nextRun
  let r : CalRun := { num := k, chan := f.unit, step := byteAt f.req 16, ref := f32At f.req 20, since := none, sum := 0,
                      n := 0, clean := true }
  ({ s with cal := { s.cal with runs := s.cal.runs ++ [r], nextRun := k + 1 } }).wait f (.calibration k)

/-- Step 2 of R182: the in-use bit of the field record is cleared; factory records apply again. -/
def State.calClear (s : State) (f : Flight) : State :=
  let n := f.unit
  let r := s.factoryRec n
  match calMatch s.cal.part 1 n (s.func n) (s.chField n 2 1) with
  | none => s.ok f (calRsp 0 r.g r.o)
  | some a =>
    let b := s.cal.part.readList a 30
    let k := s.cal.nextRun
    let run : CalRun := { num := k, chan := n, step := 2, ref := 0, since := some s.clk.now, sum := 0, n := 0, clean := true }
    let s1 := ({ s with cal := { s.cal with runs := s.cal.runs ++ [run], nextRun := k + 1 } }).wait f (.calibration k)
    s1.calWrite run a (calSeal (b.set 3 (BitVec.ofNat 8 (byteAt b 3) &&& 0xFD#8))) (calRsp 0 r.g r.o)

/-- `CHAN_CAL` (R182). -/
def execChanCal (t tag : Nat) (s : State) : Host.Outcome State Fault Refusal :=
  .next (s.withCur t tag 0x0302 (fun f s =>
    if byteAt f.req 16 = 2 then s.calClear f
    else if !(f32At f.req 20).finite then s.refuse f (.badField, 20, [])
    else if byteAt f.req 16 = 1 && !s.cal.lows.any (fun l => l.chan = f.unit) then s.refuse f (.badField, 16, [])
    else s.calBegin f))

/-- `CAL_MEASURE_END` (R182): averages that have run for 1 s. -/
def execCalMeasureEnd (t : Nat) (s : State) : Host.Outcome State Fault Refusal := .next (s.advance t).calEnds

/-- Calibration record of a channel as `CHAN_CAL_READ` answers it (Table 06.11); zeros where there is none. -/
def State.calBytes (s : State) (f : Flight) : List Byte :=
  let n := f.unit
  let area := byteAt f.req 16
  let fn := s.func n
  let r := byteAt f.req 17
  let m := s.cal.inForce
  let used := (calFind m n fn r [1, 2, 3]).1.area
  let a := if area = 0 then used else area
  if a = 0 then zeros 32 else match calMatch m a n fn r with | some x => m.readList x 32 | none => zeros 32

/-- `CHAN_CAL_READ` (Table 06.11, R65). -/
def execChanCalRead (t tag : Nat) (s : State) : Host.Outcome State Fault Refusal :=
  .next (s.withCur t tag 0x0306 (fun f s => s.nvmRead f (fun f s => s.ok f (s.calBytes f))))

/-- `CHAN_CHARGE_RESET` (R183). -/
def execChanChargeReset (t tag : Nat) (s : State) : Host.Outcome State Fault Refusal :=
  .next (s.withCur t tag 0x0304 (fun f s =>
    if s.func f.unit ≠ 10 then s.refuse f (.badField, 8, []) else s.addLive (.chargeReset f.unit) f))

/-- Amplifier resets asked for begin at a tick (R183). -/
def State.chargeLive (s : State) : State :=
  s.live.foldl (fun s c =>
    match c.kind, c.applied with
    | .chargeReset n, none =>
      if c.role != s.cfg.roles.get .chan n then s.answerLive c 255 []
      else (s.ampReset (n / 8) (n % 8 - 6)).answerLive c 0 []
    | _, _ => s) s

/-! ## The curve library -/

/-- A byte of the curve library as the flash reads it: an erased byte reads 0xFF, which the memory holds as zero (R173). -/
def flashByte (b : Byte) : Byte := b ^^^ 0xFF#8

/-- Content of library slot `n`, a store not yet complete included: the order of requests is the order of effects (R65). -/
def State.curveSlot (s : State) (n : Nat) : List Byte :=
  let ops := (s.nvm.running.toList ++ s.nvm.waiting).filter (fun o => decide (o.kind = .storeCurve) && decide (o.arg = n))
  match ops.getLast? with
  | some o => o.data.readList 0 528
  | none => (s.cfg.curves.readList (528 * n) 528).map flashByte

/-- `CHAN_CURVE_LOAD` (R181): the draft is edited, and the flash access completes the request. -/
def execChanCurveLoad (t tag : Nat) (s : State) : Host.Outcome State Fault Refusal :=
  .next (s.withCur t tag 0x0307 (fun f s =>
    let b := s.curveSlot (u16At f.req 16)
    let k := byteAt f.req 18
    if byteAt b 0 = 255 then s.refuse f (.badField, 16, [])
    else
      match setKeyed (s.image true) 0x11 (fun a => decide ((s.image true).u8 a = k)) (le8 k ++ b.drop 1) with
      | .fault x => s.refuse f (badImage x)
      | .done m =>
        let (s1, op) := (s.setDraft m).nvmRequest .flashRead [] (u16At f.req 16)
        s1.wait f (.nvm op)))

/-- `CHAN_CURVE_STORE` (R181): the curve goes to flash as a churn. -/
def execChanCurveStore (t tag : Nat) (s : State) : Host.Outcome State Fault Refusal :=
  .next (s.withCur t tag 0x0308 (fun f s =>
    let m := s.image (byteAt f.req 16 = 1)
    match (imgEntries m 0x11).find? (fun a => decide (m.u8 a = byteAt f.req 17)) with
    | none => s.refuse f (.badField, 17, [])
    | some a =>
      s.unlessNoWait f 25000 (fun s =>
        let (s1, op) := s.nvmRequest .storeCurve (m.window a (a + 528)) (u16At f.req 18)
        s1.wait f (.nvm op))))

/-- A curve has been stored. -/
def State.curveStored (s : State) (o : NvmOp) : State :=
  { s with cfg := { s.cfg with curves := s.cfg.curves.writeList (528 * o.arg) ((o.data.readList 0 528).map flashByte) } }

/-! ## The vibration capture (R184) -/

/-- Rank of a channel's quality in Table 05.14, 1 the highest. -/
def chanRank : Quality → Nat
  | .disabled => 1 | .open_ => 3 | .overRange => 4 | .underRange => 4 | .settling => 5 | .suspect => 6 | .compliance => 7
  | .budgetHeld => 8 | .calLoad => 9 | .good => 10 | _ => 6

/-- The worse of two qualities by rank. -/
def worse (a b : Quality) : Quality := if chanRank b < chanRank a then b else a

/-- Samples join the capture buffer; the request completes with the last of them. -/
def State.vibTake (s : State) (l : List F32) : State :=
  let v := { s.vib with samples := (s.vib.samples ++ l).take 4096 }
  if 4096 ≤ v.samples.length then
    ({ s with vib := { v with running := false } }).endWaits (fun w =>
      if w = WaitKind.vibCapture then some (.ok, 0, le64 v.start ++ le8 v.worst.code ++ zeros 3) else none)
  else { s with vib := v }

/-- The capture buffer at the capture of frame `seq`: a capture starts with the sample on its start tick; a running one
takes what came since the last capture (R184). -/
def State.vibCapture (s : State) (seq : Nat) (ins : Nat → ChIn) : State :=
  match s.vib.next with
  | some (n, st) =>
    if st = seq then
      let l := (ins n).stream.getLast?.toList.map (s.stage1 n)
      ({ s with vib := { s.vib with chan := some n, start := seq, running := true, next := none, samples := [],
                                    worst := (s.chan n).q } }).vibTake l
    else s
  | none =>
    match s.vib.running, s.vib.chan with
    | true, some n =>
      ({ s with vib := { s.vib with worst := worse s.vib.worst (s.chan n).q } }).vibTake ((ins n).stream.map (s.stage1 n))
    | _, _ => s

/-- `CHAN_VIB_CAPTURE` (R184). -/
def execChanVibCapture (t tag : Nat) (s : State) : Host.Outcome State Fault Refusal :=
  .next (s.withCur t tag 0x0309 (fun f s =>
    let at_ := if byteAt f.req 16 = 1 then u64At f.req 20 else s.frame.seq
    if !isVib (s.func f.unit) then s.refuse f (.badField, 8, [])
    else if at_ < s.frame.seq then s.refuse f (.badField, 20, [])
    else if s.host.waits.any (fun w => decide (w.kind = .vibCapture)) then s.refuse f (.busy, s.vib.origin, [])
    else ({ s with vib := { s.vib with next := some (f.unit, at_), origin := f.origin.code } }).wait f .vibCapture))

/-- `VIB_CAPTURE_DONE` (R184): the stage-1 samples since the last capture hold the last one of the buffer. -/
def execVibCaptureDone (t : Nat) (samples : List Int) (s : State) : Host.Outcome State Fault Refusal :=
  let s1 := s.advance t
  .next (match s1.vib.running, s1.vib.chan with
    | true, some n =>
      if 4096 ≤ s1.vib.samples.length + samples.length then s1.vibTake (samples.map (s1.stage1 n)) else s1
    | _, _ => s1)

/-- `CHAN_VIB_READ` (Table 06.11, R184). -/
def execChanVibRead (t tag : Nat) (s : State) : Host.Outcome State Fault Refusal :=
  .next (s.withCur t tag 0x030A (fun f s =>
    let i := u16At f.req 16
    let k := u16At f.req 18
    if s.vib.chan ≠ some f.unit ∨ s.vib.running then s.refuse f (.badField, 8, [])
    else if 4096 < i + k then s.refuse f (.badField, 18, [])
    else s.ok f (le16 i ++ le16 k ++ ((s.vib.samples.drop i).take k).flatMap leF32)))

end Sys2Proof.Machine
end

