-- ==== Sys2Proof/Machine/Valid2.lean ====
section
/-!
DEFINITION. Step 2 of the commit, second part: the field checks of the channel, curve, blend, weir, bus controller, bus
object and power budget tables, and the check of a whole draft image.
-/

namespace Sys2Proof.Machine

open Sys2Proof

/-- A field that must be zero unless it is used, when a check decides. -/
def usedField (m : Mem) (a o n : Nat) (used bad : Bool) : Nat × Bool := (o, if used then bad else m.num (a + o) n != 0)

/-! ## Channels and curves -/

/-- Range codes of each function (Tables 06.2, 07.1). -/
def rangeCount : Nat → Nat
  | 1 => 2 | 2 => 2 | 3 => 1 | 4 => 1 | 5 => 3 | 6 => 3 | 7 => 3 | 8 => 1 | 9 => 2 | 10 => 4 | 11 => 2 | 12 => 3
  | 16 => 1 | 17 => 1 | 18 => 1 | _ => 0

/-- The image has a user curve of a number. -/
def curveIn (m : Mem) (c : Nat) : Bool := (imgEntries m 0x11).any (fun a => m.u8 a = c)

/-- R167: curve `c` may be used with function `f` and range `r`. -/
def curveOk (m : Mem) (f r c : Nat) : Bool :=
  let rtd := f = 5 || f = 6 || f = 7
  if c = 0 then true
  else if c = 1 || c = 4 then rtd && r = 0
  else if c = 2 then rtd && r = 1
  else if c = 3 || c = 5 then rtd && r = 2
  else if 16 ≤ c && c ≤ 23 then f = 8
  else if c = 32 then 1 ≤ f && f ≤ 4
  else 64 ≤ c && c ≤ 127 && 1 ≤ f && f ≤ 9 && curveIn m c

/-- Function of a channel in an image; `OFF` without an entry (R78). -/
def imgFunc (m : Mem) (n : Nat) : Nat := match imgEntry m 0x10 n with | some a => m.u8 (a + 1) | none => 0

/-- A channel may serve as a cold junction (R157, mode 2). -/
def cjPartner (m : Mem) (p : Nat) : Bool :=
  match imgEntry m 0x10 p with
  | some a =>
    let f := m.u8 (a + 1)
    f = 8 || ((f = 5 || f = 6 || f = 7) && 1 ≤ m.u8 (a + 3) && m.u8 (a + 3) ≤ 5)
  | none => false

/-- Option bits a function uses (Table 06.10): `WIRE_BREAK`, `HULL_REF`, `NE43`, `LINE_MON`, cold-junction mode. -/
def optMask : Nat → Nat
  | 3 => 0x07 | 4 => 0x07 | 5 => 0x03 | 6 => 0x03 | 7 => 0x03 | 8 => 0x33 | 9 => 0x03 | 12 => 0x0A | _ => 0x02

/-- The partner field breaks R149, R150 or R157. -/
def partnerBad (m : Mem) (f mode i p : Nat) : Bool :=
  if f = 7 then !(p = i + 1 && p < 64 && imgFunc m p = 0)
  else if f = 9 then !(p < 64 && p / 8 = i / 8 && p != i && imgFunc m p = 0)
  else if f = 8 && mode = 2 then !(p < 64 && cjPartner m p)
  else p != 0xFF

/-- A number outside closed bounds. -/
def f32Outside (v : F32) (lo hi : Rat) : Bool := !v.finite || decide (v.toRat < lo) || decide (hi < v.toRat)

/-- The lowest ramp rate, the binary32 that stands for 0.01. -/
def rampLow : Rat := (F32.ofRat (1 / 100)).toRat

/-- Output block (Table 07.2). -/
def chkOutBlock (m : Mem) (a i f : Nat) : Checks :=
  let k := m.u8 (a + 64)
  let x := m.u16 (a + 66)
  let v := f = 18
  let ramp := m.f32 (a + 76)
  cks [(64, 2 < k), (65, m.u8 (a + 65) != 0),
    (66, match k with | 0 => x != 0 | 1 => 255 < x | _ => 63 < x || x = i),
    (68, 4 < m.u8 (a + 68) || (v && (m.u8 (a + 68) = 1 || m.u8 (a + 68) = 2))), (69, 1 < m.u8 (a + 69)),
    (70, 3 < m.u8 (a + 70) || (v && m.u8 (a + 70) != 0)), (71, m.u8 (a + 71) != 0),
    (72, f32Outside (m.f32 (a + 72)) 0 (if v then 21 / 2 else 24)),
    (76, !ramp.finite || (decide (ramp.toRat ≠ 0) && f32Outside ramp rampLow 1000000))] ++
  reservedChecks m a 80 16

/-- The low-flow limit as the binary32 that stands for 0.2. -/
def cutoffTop : Rat := (F32.ofRat (1 / 5)).toRat

/-- Channel entry with function `OFF`: every field zero, no partner. -/
def chkChanOff (m : Mem) (a i : Nat) : Checks :=
  cks [(0, m.u8 a != i), (4, m.u8 (a + 4) != 0xFF)] ++
  unusedFields m a [(2, 1), (3, 1), (5, 1), (6, 1), (7, 1), (8, 4), (12, 4), (16, 4), (20, 4), (24, 4), (28, 4),
    (32, 4), (36, 2), (38, 1), (39, 1), (40, 4), (44, 4), (48, 4), (52, 4), (56, 1), (57, 1), (58, 6), (64, 32)]

/-- Channel table (Table 06.10, R179). -/
def chkChan (m : Mem) (a i : Nat) : Checks :=
  let f := m.u8 (a + 1)
  let r := m.u8 (a + 2)
  let c := m.u8 (a + 3)
  let o := m.u8 (a + 6)
  let mode := o / 16 % 4
  let rtd := f = 5 || f = 6 || f = 7
  let vib := f = 10 || f = 11
  let out := 16 ≤ f
  let src := m.u8 (a + 5)
  let lo := m.f32 (a + 20)
  let hi := m.f32 (a + 24)
  if f = 0 then chkChanOff m a i
  else if rangeCount f = 0 then cks [(0, m.u8 a != i), (1, true)]
  else
    cks [(0, m.u8 a != i), (1, (vib && i % 8 < 6) || (f = 7 && i % 2 = 1)), (2, rangeCount f ≤ r),
      (3, !curveOk m f r c), (4, partnerBad m f mode i (m.u8 (a + 4))),
      usedField m a 5 1 rtd (15 < src || (f != 6 && 3 < src)), (6, (o &&& optMask f) != o || mode = 3),
      usedField m a 7 1 (f = 12) false,
      (8, notFinite m (a + 8) || (m.f32 (a + 8)).abs = 0 || (f = 12 && m.u32 (a + 8) != 0x3F800000)),
      (12, notFinite m (a + 12) || (f = 12 && (m.f32 (a + 12)).abs != 0)),
      usedField m a 16 4 (c = 32) (f32Outside (m.f32 (a + 16)) 0 cutoffTop),
      usedField m a 20 4 (c = 32) (!lo.finite),
      usedField m a 24 4 (c = 32) (!hi.finite || !lo.lt hi),
      usedField m a 28 4 (f = 5) (f32Outside (m.f32 (a + 28)) 0 100),
      usedField m a 32 4 (f = 8 && mode = 1) (f32Outside (m.f32 (a + 32)) (-40) 105),
      usedField m a 36 2 (f = 9) (outside (m.u16 (a + 36)) 100 1000),
      usedField m a 38 1 vib (31 < m.u8 (a + 38)), usedField m a 39 1 vib (3 < m.u8 (a + 39)),
      (40, notFinite m (a + 40)), (44, notFinite m (a + 44) || decide ((m.f32 (a + 44)).toRat < 0)),
      (48, notFinite m (a + 48)), (52, notFinite m (a + 52) || decide ((m.f32 (a + 52)).toRat < 0)),
      (56, 2 < m.u8 (a + 56)), (57, 2 < m.u8 (a + 57))] ++ reservedChecks m a 58 6 ++
    (if out then chkOutBlock m a i f else reservedChecks m a 64 32)

/-- User curve table (Table 06.6, R171, R172): distinct numbers, x rising, everything finite, unused points zero. -/
def chkCurve (m : Mem) (a i : Nat) : Checks :=
  let n := m.u8 (a + 1)
  cks [(0, outside (m.u8 a) 64 127 || (((imgEntries m 0x11).take i).any (fun b => m.u8 b = m.u8 a))),
    (1, outside n 2 64), (2, 1 < m.u8 (a + 2))] ++ reservedChecks m a 3 13 ++
  ((List.range 64).map (fun k =>
    let x := a + 16 + 8 * k
    (16 + 8 * k, if n ≤ k then m.u32 x != 0
      else notFinite m x || (k != 0 && !(m.f32 (x - 8)).lt (m.f32 x))))) ++
  ((List.range 64).map (fun k =>
    let y := a + 20 + 8 * k
    (20 + 8 * k, if n ≤ k then m.u32 y != 0 else notFinite m y)))

/-! ## Blend slots and weirs -/

/-- Fewest and most sources of an operation (Table 08.5). -/
def blendSources : Nat → Nat × Nat
  | 1 => (1, 4) | 2 => (2, 4) | 3 => (2, 2) | 4 => (1, 1) | 5 => (1, 4) | 6 => (1, 4) | 7 => (1, 4) | 8 => (3, 3)
  | 9 => (2, 4) | 10 => (1, 4) | 11 => (1, 1) | 12 => (1, 1) | 13 => (1, 1) | 14 => (1, 1) | 15 => (1, 2)
  | _ => (0, 0)

/-- Coefficients of an operation with `n` sources (Table 08.5). -/
def blendCoeffs (op n : Nat) : Nat :=
  match op with
  | 1 => n | 2 => 1 | 3 => 1 | 4 => 4 | 11 => 1 | 12 => 1 | 13 => 1 | 14 => 1 | 15 => 1 | _ => 0

/-- Source kinds a blend slot takes (Table 08.1). -/
def blendKind (k : Nat) : Bool := [1, 5, 6, 7, 8, 9, 10].contains k

/-- Sources present: positions from x0 on without a gap. -/
def sourcesPresent (m : Mem) (a : Nat) : Nat := ((List.range 4).takeWhile (fun k => m.u8 (a + 4 + 4 * k) != 0)).length

/-- Blend table (Tables 08.4, 08.5, R236). -/
def chkBlend (m : Mem) (a i : Nat) : Checks :=
  let op := m.u8 (a + 1)
  let n := sourcesPresent m a
  let b := blendSources op
  let mn := m.u8 (a + 2)
  let lim := tst (m.u8 (a + 3)) 0
  let hist := op = 11 || op = 13 || op = 14
  if 15 < op then cks [(0, m.u8 a != i), (1, true)]
  else
    cks [(0, m.u8 a != i),
      (2, if op = 5 || op = 6 || op = 7 then outside mn 1 n else if op = 9 then outside mn 2 n else mn != 0),
      (3, 1 < m.u8 (a + 3))] ++
    (((List.range 4).map (fun k =>
      let x := a + 4 + 4 * k
      if k < n then
        cks [(4 + 4 * k, b.2 ≤ k || !blendKind (m.u8 x)), (5 + 4 * k, m.u8 (x + 1) != 0),
          (6 + 4 * k, srcCount (m.u8 x) ≤ m.u16 (x + 2))]
      else
        cks [(4 + 4 * k, m.u8 x != 0 || (k = n && k < b.1)), (5 + 4 * k, m.u8 (x + 1) != 0),
          (6 + 4 * k, m.u16 (x + 2) != 0)])).flatten) ++
    ((List.range 4).map (fun k => usedField m a (20 + 4 * k) 4 (k < blendCoeffs op n) (notFinite m (a + 20 + 4 * k)))) ++
    cks [usedField m a 36 4 (op = 3 || op = 12 || op = 15)
        (notFinite m (a + 36) || (op != 15 && decide ((m.f32 (a + 36)).toRat ≤ 0))),
      usedField m a 40 4 lim (notFinite m (a + 40)),
      usedField m a 44 4 lim (notFinite m (a + 44) || !(m.f32 (a + 40)).lt (m.f32 (a + 44))),
      usedField m a 48 2 hist (outside (m.u16 (a + 48)) 1 1024), usedField m a 50 1 hist (outside (m.u8 (a + 50)) 1 64)] ++
    reservedChecks m a 51 13

/-- Source kinds of a comparison type (Table 08.8). -/
def weirKind (t k : Nat) : Bool :=
  if t ≤ 5 then [1, 5, 6, 7, 8, 10].contains k else [2, 3, 4, 9, 11, 12, 13].contains k

/-- Weirs of types 4 and 5 below entry `i`. -/
def rateBefore (m : Mem) (i : Nat) : Nat :=
  (((imgEntries m 0x21).take i).filter (fun a => tst (m.u8 (a + 3)) 0 && (m.u8 (a + 2) = 4 || m.u8 (a + 2) = 5))).length

/-- Thresholds of a weir against the last column of Table 08.8. -/
def chkThresholds (m : Mem) (a t : Nat) : Checks :=
  let s := m.f32 (a + 8)
  let c := m.f32 (a + 12)
  let s2 := m.f32 (a + 16)
  let c2 := m.f32 (a + 20)
  cks [(8, notFinite m (a + 8) || (5 < t && s.abs != 0)),
    (12, notFinite m (a + 12) || (if t = 2 || t = 5 then !s.lt c else if t ≤ 5 then !c.lt s else c.abs != 0)),
    usedField m a 16 4 (t = 3) (notFinite m (a + 16)),
    usedField m a 20 4 (t = 3) (notFinite m (a + 20) || !s2.lt c2 || !c2.lt c)]

/-- Weir table (Tables 08.8, 08.14, 08.15, R236, R489). -/
def chkWeir (m : Mem) (a i : Nat) : Checks :=
  let t := m.u8 (a + 2)
  let o := m.u8 (a + 3)
  let k := m.u8 (a + 4)
  let rate := t = 4 || t = 5
  let emergency := m.u8 (a + 31) < 64
  let common : Checks := [(0, m.u16 a != i), (5, m.u8 (a + 5) != 0)] ++ reservedChecks m a 38 10
  if !tst o 0 then common ++ cks [(3, 15 < o)]
  else if t = 0 || 7 < t then common ++ cks [(2, true)]
  else
    common ++
    cks [(2, rate && 64 ≤ rateBefore m i),
      (3, 15 < o || (tst o 2 && (emergency || m.u16 (a + 34) = 0xFFFF))), (4, !weirKind t k),
      (6, srcCount k ≤ m.u16 (a + 6)),
      (31, m.u8 (a + 31) / 16 % 4 != 0), (32, 3 < m.u8 (a + 32)),
      usedField m a 28 2 rate (outside (m.u16 (a + 28)) 1 1024), usedField m a 30 1 rate (outside (m.u8 (a + 30)) 1 64),
      (33, 31 < m.u8 (a + 33) && m.u8 (a + 33) != 0xFF), (34, 127 < m.u16 (a + 34) && m.u16 (a + 34) != 0xFFFF),
      (36, 28800 < m.u16 (a + 36) || (emergency && m.u16 (a + 36) != 0))] ++ chkThresholds m a t

/-! ## Machinery bus -/

/-- Options of a controller entry of an image; zero without one. -/
def imgBusOpt (m : Mem) (b : Nat) : Nat := match imgEntry m 0x50 b with | some a => m.u8 (a + 1) | none => 0

/-- Controller `b` has `FD` set. -/
def fdSet (m : Mem) (b : Nat) : Bool := b < 4 && tst (imgBusOpt m b) 1

/-- Controller `b` is enabled and has `FD` set. -/
def fdOn (m : Mem) (b : Nat) : Bool := fdSet m b && tst (imgBusOpt m b) 0

/-- `BUSA` and `BUSB` may form the pair: both enabled with `FD` and of equal bit timing (R326). -/
def pairOk (m : Mem) : Bool :=
  fdOn m 0 && fdOn m 1 &&
    (match imgEntry m 0x50 0, imgEntry m 0x50 1 with
     | some a, some b => m.readList (a + 2) 12 = m.readList (b + 2) 12
     | _, _ => false)

/-- Time role of a controller entry. -/
def imgTimeRole (m : Mem) (b : Nat) : Nat := match imgEntry m 0x50 b with | some a => m.u8 (a + 16) | none => 0

/-- Bit timing of an enabled controller (R289): one bit takes prescaler × (1 + TSEG1 + TSEG2) clocks of 12.5 ns. -/
def chkTiming (m : Mem) (a : Nat) : Checks :=
  let nom := m.u16 (a + 2) * (1 + m.u16 (a + 4) + m.u8 (a + 6))
  let dat := m.u8 (a + 8) * (1 + m.u8 (a + 9) + m.u8 (a + 10))
  cks [(2, outside (m.u16 (a + 2)) 1 512 || nom < 80), (4, outside (m.u16 (a + 4)) 2 256),
    (6, outside (m.u8 (a + 6)) 2 128), (7, outside (m.u8 (a + 7)) 1 128 || m.u8 (a + 6) < m.u8 (a + 7)),
    (8, outside (m.u8 (a + 8)) 1 32 || dat < 16 || nom < dat), (9, outside (m.u8 (a + 9)) 1 32),
    (10, outside (m.u8 (a + 10)) 1 16), (11, outside (m.u8 (a + 11)) 1 16 || m.u8 (a + 10) < m.u8 (a + 11)),
    (1, dat < 80 && !tst (m.u8 (a + 1)) 5)]

/-- Bus controller table (Tables 11.14, 11.15, R289, R301, R326). A controller that is not enabled is checked for its
index and its reserved bits and bytes only: the off entry of R488 passes. -/
def chkBusCtl (m : Mem) (a i : Nat) : Checks :=
  let o := m.u8 (a + 1)
  if i < 4 then
    cks [(0, m.u8 a != i), (1, 63 < o)] ++ reservedChecks m a 17 47 ++
    (if tst o 0 then
      chkTiming m a ++ cks [(12, 127 < m.u8 (a + 12)), (13, 127 < m.u8 (a + 13)), (14, 2000 < m.u16 (a + 14)),
        (16, 2 < m.u8 (a + 16))]
     else [])
  else
    let rt := m.u8 (a + 4)
    let p := m.u8 (a + 6)
    let q := m.u8 (a + 7)
    cks [(0, m.u8 a != 4), (1, 3 < o || (tst o 0 && !pairOk m)), (2, 63 < m.u8 (a + 2)), (3, 7 < m.u8 (a + 3)),
      (4, if rt = 4 then !tst o 0 else !fdSet m rt),
      (5, 3 < m.u8 (a + 5) && m.u8 (a + 5) != 0xFF),
      (6, imgTimeRole m p = 0 || !fdSet m p), (7, q != 0xFF && !fdSet m q)] ++ reservedChecks m a 8 56

/-- Length of a bus object field's format. -/
def fieldLen (k : Nat) : Nat := if k = 1 then 4 else 8

/-- Valid payload lengths (Table 11.11). -/
def lengthOk (n : Nat) : Bool := n ≤ 8 || [12, 16, 20, 24, 32, 48, 64].contains n

/-- Two spans of bytes overlap. -/
def overlaps (a n b k : Nat) : Bool := decide (a < b + k) && decide (b < a + n)

/-- An enabled bus object entry of an image (R489). -/
def objOn (m : Mem) (a : Nat) : Bool := tst (m.u8 (a + 1)) 0

/-- Field `k` of the entry at `a` receives into bus value `v`. -/
def receivesInto (m : Mem) (a k v : Nat) : Bool :=
  objOn m a && tst (m.u8 (a + 1)) 1 && k < m.u8 (a + 14) && m.u16 (a + 16 + 6 * k + 4) = v

/-- A receive field before field `k` of entry `i` names bus value `v` (R315). -/
def valueTaken (m : Mem) (a i k v : Nat) : Bool :=
  ((imgEntries m 0x51).take i).any (fun b => (List.range 8).any (fun j => receivesInto m b j v)) ||
    (List.range k).any (fun j => receivesInto m a j v)

/-- One field of a bus object (Table 11.12). -/
def chkObjField (m : Mem) (a i k : Nat) : Checks :=
  let o := m.u8 (a + 1)
  let x := a + 16 + 6 * k
  let n := m.u8 (a + 14)
  let rx := tst o 1
  let head := if tst o 2 then 0 else 4
  let top := m.u8 (a + 12) - (if tst o 5 then 4 else 0)
  let off := m.u8 (x + 1)
  let len := fieldLen (m.u8 x)
  if n ≤ k then unusedFields m (a + 16 + 6 * k) [(0, 1), (1, 1), (2, 2), (4, 2)] |>.map (fun p => (16 + 6 * k + p.1, p.2))
  else
    cks [(16 + 6 * k, outside (m.u8 x) 1 3),
      (17 + 6 * k, off < head || top < off + len ||
        (List.range k).any (fun j =>
          let y := a + 16 + 6 * j
          overlaps off len (m.u8 (y + 1)) (fieldLen (m.u8 y)))),
      (18 + 6 * k, !rx && !(if m.u8 x = 3 then m.u8 (x + 2) = 11 else [1, 5, 6, 7, 8, 9, 13].contains (m.u8 (x + 2)))),
      (19 + 6 * k, !rx && m.u8 (x + 3) != 0),
      (20 + 6 * k, if rx then 511 < m.u16 (x + 4) || valueTaken m a i k (m.u16 (x + 4))
        else srcCount (m.u8 (x + 2)) ≤ m.u16 (x + 4))]

/-- Buses an object's bus field stands for. -/
def objBuses (b : Nat) : List Nat := if b = 4 then [0, 1] else [b]

/-- Two entries both carry or match the same frames on a common bus: foreign objects with one identifier, or native
receive objects of one sender's object (R315). -/
def objClash (m : Mem) (a b : Nat) : Bool :=
  let oa := m.u8 (a + 1)
  let ob := m.u8 (b + 1)
  objOn m b && (objBuses (m.u8 (a + 2))).any (fun x => (objBuses (m.u8 (b + 2))).contains x) &&
    m.u16 (a + 4) = m.u16 (b + 4) &&
    ((tst oa 2 && tst ob 2) || (!tst oa 2 && !tst ob 2 && tst oa 1 && tst ob 1 && m.u8 (a + 6) = m.u8 (b + 6)))

/-- Bus object table (Tables 11.11, 11.12, R301, R315, R326, R489). -/
def chkObj (m : Mem) (a i : Nat) : Checks :=
  let o := m.u8 (a + 1)
  let rx := tst o 1
  let fo := tst o 2
  let b := m.u8 (a + 2)
  let per := m.u16 (a + 8)
  let len := m.u8 (a + 12)
  let n := m.u8 (a + 14)
  let common : Checks := [(0, m.u8 a != i), (1, 63 < o), (15, m.u8 (a + 15) != 0)]
  if !tst o 0 then common ++ (if rx then [] else (List.range 8).map (fun k => (19 + 6 * k, m.u8 (a + 19 + 6 * k) != 0)))
  else
    common ++
    cks [(1, rx && tst o 4),
      (2, 4 < b || (b = 4 && !pairOk m) || (b < 4 && !fo && !fdSet m b)),
      (3, if rx then m.u8 (a + 3) != 0xFF else outside (m.u8 (a + 3)) 8 31),
      (4, (if fo then 2047 < m.u16 (a + 4) else if rx then 127 < m.u16 (a + 4) else m.u16 (a + 4) != 0) ||
        ((imgEntries m 0x51).take i).any (objClash m a)),
      (6, if rx && !fo then 63 < m.u8 (a + 6) else m.u8 (a + 6) != 0),
      (7, if !rx && !fo then outside (m.u8 (a + 7)) 2 6 else m.u8 (a + 7) != 0),
      (8, 60000 < per || (rx && per = 0)),
      (10, if rx then m.u16 (a + 10) != 0 else m.u16 (a + 10) != 0 && per ≤ m.u16 (a + 10)),
      (12, !lengthOk len || (8 < len && !tst o 3)),
      (13, if tst o 5 then 3 < m.u8 (a + 13) else m.u8 (a + 13) != 0xFF), (14, outside n 1 8)] ++
    ((List.range 8).map (chkObjField m a i)).flatten

/-! ## Power budget -/

/-- Power budget table (Tables 14.13, 14.14, R393). -/
def chkBudget (m : Mem) (a i : Nat) : Checks :=
  if i = 0 then
    cks [(0, m.u8 a != 0), (1, 1 < m.u8 (a + 1)), (2, outside (m.u16 (a + 2)) 400 1600),
      (4, outside (m.u16 (a + 4)) 300 1200), (6, outside (m.u16 (a + 6)) 1000 1600),
      (8, outside (m.u16 (a + 8)) 100 2000), (10, outside (m.u16 (a + 10)) 500 5000),
      (12, outside (m.u16 (a + 12)) 100 20000), (14, outside (m.u16 (a + 14)) 10 1000),
      (16, outside (m.u8 (a + 16)) 25 85)] ++ reservedChecks m a 17 15
  else
    cks [(0, m.u8 a != i), (1, 15 < m.u8 (a + 1)), (2, m.u16 (a + 2) != 0 && outside (m.u16 (a + 2)) 50 5000),
      (4, m.u16 (a + 4) != 0 && outside (m.u16 (a + 4)) 1000 24000)] ++ reservedChecks m a 6 26

/-! ## The whole image -/

/-- Check of one table of an image, by its ID. -/
def tableFault (m : Mem) : Nat → Option ImgFault
  | 0x01 => tableCheck m 0x01 1 (chkSystem m)
  | 0x10 => tableCheck m 0x10 64 (chkChan m)
  | 0x11 => tableCheck m 0x11 64 (chkCurve m)
  | 0x20 => tableCheck m 0x20 256 (chkBlend m)
  | 0x21 => tableCheck m 0x21 1024 (chkWeir m)
  | 0x30 => tableCheck m 0x30 128 (chkGroup m)
  | 0x31 => tableCheck m 0x31 32 (chkFo m)
  | 0x32 => tableCheck m 0x32 16 (chkChain m)
  | 0x33 => tableCheck m 0x33 17 (chkRoster m)
  | 0x40 => tableCheck m 0x40 8 (chkEnc m)
  | 0x50 => tableCheck m 0x50 5 (chkBusCtl m)
  | 0x51 => tableCheck m 0x51 128 (chkObj m)
  | 0x60 => tableCheck m 0x60 9 (chkDisp m)
  | 0x61 => tableCheck m 0x61 40 (chkWave m)
  | 0x70 => tableCheck m 0x70 65 (chkBudget m)
  | 0x80 => tableCheck m 0x80 16 (chkDi m)
  | 0x81 => tableCheck m 0x81 8 (chkAo m)
  | _ => none

/-- Step 2 of the commit (R72): header and directory, then the tables in the order of their IDs; none when the image
passes. -/
def imageFault (m : Mem) : Option ImgFault :=
  match containerFault m with
  | some f => some f
  | none =>
    [0x01, 0x10, 0x11, 0x20, 0x21, 0x30, 0x31, 0x32, 0x33, 0x40, 0x50, 0x51, 0x60, 0x61, 0x70, 0x80, 0x81].findSome?
      (tableFault m)

end Sys2Proof.Machine
end

