-- ==== Sys2Proof/Machine/Claims.lean ====
section
/-!
DEFINITION. Steps 3 and 4 of the commit: the claim set of an image and its conflicts (R460, R461), the headgate's budget
check (R386), and the cost of a commit churn (R378).
-/

namespace Sys2Proof.Machine

open Sys2Proof

/-! ## Claims -/

/-- A claim: resource kind and index, and the claimant's unit kind and index (Tables 17.8, 13.3). -/
structure Claim where
  kind : Nat
  idx : Nat
  uk : Nat
  ui : Nat
deriving DecidableEq, Repr

/-- Claims of a channel entry at `a` (Tables 06.1, 07.1). -/
def chanClaims (m : Mem) (a n : Nat) : List Claim :=
  let f := m.u8 (a + 1)
  let b := n / 8
  let src := m.u8 (a + 5)
  let c (k i : Nat) : Claim := ⟨k, i, 1, n⟩
  if f = 0 then []
  else
    c 1 n :: ((if f = 7 || f = 9 then [c 1 (m.u8 (a + 4))] else []) ++
      (if f = 5 || f = 6 || f = 7 then [c 2 (4 * b + src % 4)] else []) ++
      (if f = 6 then [c 2 (4 * b + src / 4 % 4)] else []) ++ (if f = 9 then [c 3 b, c 4 b] else []))

/-- A bank holds its modem: one of its channels is a current function that FSK can use (R204). -/
def modemClaimed (m : Mem) (b : Nat) : Bool :=
  (List.range 8).any (fun k => [3, 4, 16, 17].contains (imgFunc m (8 * b + k)))

/-- Claim of an encoder entry's compare unit (R282). -/
def encClaims (m : Mem) (a n : Nat) : List Claim :=
  if m.u8 (a + 1) = 0 || m.u8 (a + 37) = 0xFF then [] else [⟨6, m.u8 (a + 37), 9, n⟩]

/-- Transmit buffers of an object entry (R293). -/
def objClaims (m : Mem) (a n : Nat) : List Claim :=
  if !objOn m a || tst (m.u8 (a + 1)) 1 then []
  else (objBuses (m.u8 (a + 2))).map (fun b => ⟨7, 32 * b + m.u8 (a + 3), 12, n⟩)

/-- Cells of a display region entry (R404). -/
def regionClaims (m : Mem) (a n : Nat) : List Claim :=
  if n < 8 && tst (m.u8 (a + 1)) 0 then
    ((List.range 191).filter (fun k => tst (maskAt m (a + 8)) k)).map (fun k => ⟨8, k, 15, n⟩)
  else []

/-- Claims that the entries of a table make. -/
def tableClaims (m : Mem) (id : Nat) (f : Nat → Nat → List Claim) : List Claim :=
  ((imgEntries m id).zipIdx.map (fun p => f p.1 p.2)).flatten

/-- The claim set of an image (R460). -/
def claimSet (m : Mem) : List Claim :=
  tableClaims m 0x10 (chanClaims m) ++
  ((List.range 8).filter (modemClaimed m)).map (fun b => ⟨5, b, 2, b⟩) ++
  tableClaims m 0x40 (encClaims m) ++ tableClaims m 0x51 (objClaims m) ++ tableClaims m 0x60 (regionClaims m)

/-- Units of each resource kind. -/
def resourceCount : Nat → Nat
  | 1 => 64 | 2 => 32 | 3 => 8 | 4 => 8 | 5 => 8 | 6 => 8 | 7 => 128 | 8 => 191 | _ => 0

/-- The lower of two claimants: unit kind, then unit index. -/
def Claim.before (a b : Claim) : Bool := decide (a.uk < b.uk) || (decide (a.uk = b.uk) && decide (a.ui < b.ui))

/-- The holder among the claimants of one resource: one that holds it in force, else the lowest (R461). -/
def holderOf (inForce : List Claim) : List Claim → Option Claim
  | [] => none
  | c :: r =>
    match (c :: r).find? (fun x => inForce.contains x) with
    | some x => some x
    | none => some (r.foldl (fun a b => if b.before a then b else a) c)

/-- Record of Table 03.19. -/
def conflictRec (h c : Claim) : List Byte :=
  le8 c.kind ++ le8 0 ++ le16 c.idx ++ le8 h.uk ++ le8 0 ++ le16 h.ui ++ le8 c.uk ++ le8 0 ++ le16 c.ui

/-- Records of the conflict on one resource: every claimant but the holder, against the holder. -/
def resourceRecs (inForce claims : List Claim) (k i : Nat) : List (List Byte) :=
  let cs := claims.filter (fun c => decide (c.kind = k) && decide (c.idx = i))
  match holderOf inForce cs with
  | some h => if cs.length < 2 then [] else (cs.erase h).map (conflictRec h)
  | none => []

/-- Conflicts of a claim set: how many resources, and the records in order of kind and index. -/
def conflicts (inForce claims : List Claim) : Nat × List (List Byte) :=
  let rs := ((List.range 9).map (fun k => (List.range (resourceCount k)).map (resourceRecs inForce claims k))).flatten
  ((rs.filter (fun r => !r.isEmpty)).length, rs.flatten)

/-- Step 3 of the commit for a draft against the image in force. -/
def claimRefusal (old new : Mem) : Option Refused :=
  let c := conflicts (claimSet old) (claimSet new)
  if c.1 = 0 then none else some (.claimConflict, min 255 c.1, (c.2.take 20).flatten)

/-- `IO_CLAIMS` (R464): holders of a range of resources; kind 0 for an unclaimed one. -/
def State.claimsOf (s : State) (f : Flight) : List Byte :=
  let draft := byteAt f.req 16 = 1
  let cs := claimSet (s.image draft)
  let old := claimSet s.cfg.img
  let k := byteAt f.req 17
  let first := u16At f.req 18
  let n := byteAt f.req 20
  le8 n ++ zeros 3 ++
    ((List.range n).map (fun j =>
      let i := first + j
      match holderOf old (cs.filter (fun c => decide (c.kind = k) && decide (c.idx = i))) with
      | some h => le16 i ++ le8 h.uk ++ le8 0 ++ le16 h.ui ++ le16 0
      | none => le16 i ++ zeros 6)).flatten

/-- `IO_CLAIMS`: a range beyond the resources of the kind is refused at its first-index field (R10). -/
def execIoClaims (t tag : Nat) (s : State) : Host.Outcome State Fault Refusal :=
  .next (s.withCur t tag 0x0E05 (fun f s =>
    if resourceCount (byteAt f.req 17) < u16At f.req 18 + byteAt f.req 20 then s.refuse f (.badField, 18, [])
    else s.ok f (s.claimsOf f)))

/-! ## The budget check (R386) -/

/-- Figures of a consumer (Table 14.6): current and power leaving in A and W, demand in V, dissipation of a sink. -/
structure Consumer where
  cur : Rat := 0
  volts : Rat := 0
  leave : Rat := 0
  sink : Rat := 0
  draws : Bool := false
deriving DecidableEq, Repr

/-- Field of power budget entry `k` of an image, or its default where it is zero or absent (R393). -/
def budgetField (m : Mem) (k o dflt : Nat) : Nat :=
  match imgEntry m 0x70 k with | some a => let v := m.u16 (a + o); if v = 0 then dflt else v | none => dflt

/-- Current of a current output in A: the largest of the budget current, the preset and the safe-action level. -/
def outputLevel (m : Mem) (a n : Nat) : Rat :=
  let ib : Rat := (budgetField m (n + 1) 4 20000 : Rat) / 1000000
  let pre := (m.f32 (a + 72)).toRat / 1000
  let lvl : Rat := match m.u8 (a + 68) with | 1 => 7 / 2000 | 2 => 43 / 2000 | 4 => pre | _ => 0
  max ib (max pre lvl)

/-- Figures of the channel entry at `a`. -/
def consumer (m : Mem) (a n : Nat) : Consumer :=
  let load (d : Nat) : Rat := (budgetField m (n + 1) 2 d : Rat)
  match m.u8 (a + 1) with
  | 16 =>
    let i := outputLevel m a n
    let r := load 250
    { cur := i, volts := i * r + 2, leave := i * i * r, draws := true }
  | 17 =>
    let i := outputLevel m a n
    let v := 24 - i * load 250
    { sink := if v < 0 then 0 else v * i }
  | 18 =>
    let i := min (21 / 2 / load 1000) (17 / 1000)
    { cur := i, volts := 25 / 2, leave := i * 21 / 2, draws := true }
  | 4 =>
    let i : Rat := (budgetField m (n + 1) 4 20000 : Rat) / 1000000
    { cur := i, volts := 24, leave := i * 21, draws := true }
  | 11 => { cur := 4 / 1000, volts := 24, leave := 48 / 1000, draws := true }
  | 12 =>
    { cur := match m.u8 (a + 2) with | 0 => 2 / 1000 | 1 => 5 / 1000 | _ => 10 / 1000, volts := 14, draws := true }
  | 9 =>
    let v : Rat := (m.u16 (a + 36) : Rat) / 100
    let i := min (v / load 350) (40 / 1000)
    { cur := i, volts := v + 9 / 2, leave := i * v, draws := true }
  | _ => {}

/-- Consumers of a bank. -/
def bankConsumers (m : Mem) (b : Nat) : List Consumer :=
  (List.range 8).filterMap (fun k => (imgEntry m 0x10 (8 * b + k)).map (fun a => consumer m a (8 * b + k)))

/-- Sum of a list of rationals. -/
def ratSum (l : List Rat) : Rat := l.foldl (· + ·) 0

/-- F_b of a bank in W. -/
def bankField (l : List Consumer) : Rat :=
  let d := l.filter (fun c => c.draws)
  if d.isEmpty then 0
  else max 8 (min 26 (d.foldl (fun x c => max x c.volts) 0)) * ratSum (d.map (fun c => c.cur))

/-- Baseline of a profile, mW (R386). -/
def baselineMw : Nat → Nat
  | 0 => 3100 | 1 => 2800 | 2 => 2600 | _ => 900

/-- Dissipation ceiling in mW at a case temperature (R381). -/
def ceilingMw (t : Rat) : Rat := if t ≤ 70 then 6000 else if t ≤ 85 then 6000 - 200 * (t - 70) else 3000

/-- Figures of the check: largest F_b, D and input power in mW, and the ceilings for the last two. -/
structure BudgetSums where
  fb : Rat
  d : Rat
  p : Rat
  dTop : Rat
  pTop : Rat
deriving DecidableEq, Repr

/-- Sums of an image under R386. -/
def budgetSums (m : Mem) : BudgetSums :=
  let banks := (List.range 8).map (bankConsumers m)
  let fbs := banks.map bankField
  let leave := ratSum (banks.map (fun l => ratSum (l.map (fun c => c.leave))))
  let sink := ratSum (banks.map (fun l => ratSum (l.map (fun c => c.sink))))
  let d := (baselineMw (sysByte m 0 1) : Rat) + 250 + 1000 * (ratSum fbs * 20 / 17 - leave + sink)
  let temp := match imgEntry m 0x70 0 with | some a => m.u8 (a + 16) | none => 70
  { fb := 1000 * fbs.foldl max 0, d, p := d + 1000 * leave, dTop := ceilingMw temp,
    pTop := (budgetField m 0 2 1200 : Rat) * 10 }

/-- A power in mW, rounded up. -/
def upMw (q : Rat) : Nat := (-(Rat.fl (-q))).toNat

/-- Step 4 of the commit: bank supply, then dissipation, then input power (R386). -/
def budgetRefusal (m : Mem) : Option Refused :=
  let b := budgetSums m
  let no (d : Nat) (need have_ : Rat) : Option Refused := some (.budgetRefused, d, le32 (upMw need) ++ le32 (upMw have_))
  if 1500 < b.fb then no 3 b.fb 1500
  else if b.dTop < b.d then no 2 b.d b.dTop
  else if b.pTop < b.p then no 1 b.p b.pTop
  else none

/-! ## Cost of a commit (Table 14.4) -/

/-- Cost in µJ of the commit churn with the pail it takes, and of the other pail's churn before it (R72). -/
def State.commitCost (s : State) : Nat :=
  let churn (p : List Rec) : Nat := logChurnCost (p.length + retiredCount s.log p.length)
  50000 + churn s.log.active + (if s.log.other.isEmpty then 0 else churn s.log.other)

/-- Payload of a dry run (R74). -/
def State.dryRunPayload (s : State) (m : Mem) : List Byte :=
  let b := budgetSums m
  le16 (claimSet m).length ++ le16 0 ++ le32 (upMw b.d) ++ le32 (upMw b.dTop) ++ s.energyPayload s.commitCost

/-- Steps 2 to 4 of the commit: what fails first. -/
def State.draftRefusal (s : State) (m : Mem) : Option Refused :=
  match imageFault m with
  | some x => some (badImage x)
  | none =>
    match claimRefusal s.cfg.img m with
    | some r => some r
    | none => budgetRefusal m

end Sys2Proof.Machine
end

