-- ==== Sys2Proof/Machine/Ecc.lean ====
section
/-!
DEFINITION. P-256 (R428, R429, R435, R436): ECDSA with SHA-256 and ECDH (PRESUMED from FIPS 186-5 and SP 800-56A).
Coordinates, r and s are 32 bytes each, little-endian (R429).
-/

namespace Sys2Proof

/-- Field prime of P-256. -/
def p256P : Nat := 2 ^ 256 - 2 ^ 224 + 2 ^ 192 + 2 ^ 96 - 1
/-- Order of the base point. -/
def p256N : Nat := 0xffffffff00000000ffffffffffffffffbce6faada7179e84f3b9cac2fc632551
/-- Coefficient b of the curve; a is −3. -/
def p256B : Nat := 0x5ac635d8aa3a93e7b3ebbd55769886bc651d06b0cc53b0f63bce3c3e27d2604b
/-- Base point. -/
def p256G : Nat × Nat :=
  (0x6b17d1f2e12c4247f8bce6e563a440f277037d812deb33a0f4a13945d898c296,
   0x4fe342e2fe1a7f9b8ee7eb4a7c0f9e162bce33576b315ececbb6406837bf51f5)

/-- Power modulo `m`; `k` bounds the bits of the exponent. -/
def powMod (m : Nat) : Nat → Nat → Nat → Nat
  | 0, _, _ => 1
  | k + 1, b, e => (if e % 2 = 1 then b else 1) * powMod m k (b * b % m) (e / 2) % m

/-- Inverse modulo a prime of at most 256 bits. -/
def invMod (m a : Nat) : Nat := powMod m 256 (a % m) (m - 2)

/-- A point in Jacobian coordinates; z = 0 is the point at infinity. -/
structure JPoint where
  x : Nat
  y : Nat
  z : Nat
deriving DecidableEq, Repr

/-- Difference in the field. -/
def fsub (a b : Nat) : Nat := (a + p256P - b % p256P) % p256P

/-- A point doubled. -/
def JPoint.double (q : JPoint) : JPoint :=
  if q.z = 0 ∨ q.y = 0 then ⟨1, 1, 0⟩
  else
    let zz := q.z * q.z % p256P
    let m := 3 * (fsub q.x zz) * (q.x + zz) % p256P
    let yy := q.y * q.y % p256P
    let v := 4 * q.x * yy % p256P
    let x3 := fsub (m * m) (2 * v)
    ⟨x3, fsub (m * fsub v x3) (8 * yy * yy), 2 * q.y * q.z % p256P⟩

/-- Two points added. -/
def JPoint.add (a b : JPoint) : JPoint :=
  if a.z = 0 then b
  else if b.z = 0 then a
  else
    let az := a.z * a.z % p256P
    let bz := b.z * b.z % p256P
    let u1 := a.x * bz % p256P
    let u2 := b.x * az % p256P
    let s1 := a.y * bz * b.z % p256P
    let s2 := b.y * az * a.z % p256P
    if u1 = u2 then (if s1 = s2 then a.double else ⟨1, 1, 0⟩)
    else
      let h := fsub u2 u1
      let r := fsub s2 s1
      let hh := h * h % p256P
      let hhh := h * hh % p256P
      let v := u1 * hh % p256P
      let x3 := fsub (fsub (r * r) hhh) (2 * v)
      ⟨x3, fsub (r * fsub v x3) (s1 * hhh), h * a.z * b.z % p256P⟩

/-- A multiple of a point; `n` bounds the bits of the factor. -/
def JPoint.mul : Nat → Nat → JPoint → JPoint
  | 0, _, _ => ⟨1, 1, 0⟩
  | n + 1, k, q => let r := JPoint.mul n (k / 2) q.double; if k % 2 = 1 then r.add q else r

/-- Affine coordinates of a point that is not at infinity. -/
def JPoint.affine (q : JPoint) : Option (Nat × Nat) :=
  if q.z = 0 then none
  else
    let i := invMod p256P q.z
    let ii := i * i % p256P
    some (q.x * ii % p256P, q.y * ii * i % p256P)

/-- A multiple of an affine point. -/
def p256Mul (k : Nat) (q : Nat × Nat) : Option (Nat × Nat) := (JPoint.mul 256 k ⟨q.1, q.2, 1⟩).affine

/-- The point lies on the curve. -/
def onCurve (q : Nat × Nat) : Bool :=
  decide (q.1 < p256P) && decide (q.2 < p256P) &&
    decide (q.2 * q.2 % p256P = (q.1 * q.1 * q.1 + (p256P - 3) * q.1 + p256B) % p256P)

/-- A key of 64 bytes, X then Y. -/
def keyPoint (b : List Byte) : Nat × Nat := (leNat (b.take 32), leNat ((b.drop 32).take 32))
/-- A point as 64 bytes. -/
def pointBytes (q : Nat × Nat) : List Byte := leBytes 32 q.1 ++ leBytes 32 q.2

/-- An ECDSA signature (r then s, 64 bytes) verifies with a key (R429). -/
def ecdsaVerify (key msg sig : List Byte) : Bool :=
  let q := keyPoint key
  let r := leNat (sig.take 32)
  let s := leNat ((sig.drop 32).take 32)
  if !onCurve q || r = 0 || s = 0 || decide (p256N ≤ r) || decide (p256N ≤ s) then false
  else
    let z := beNat (sha256 msg)
    let w := invMod p256N s
    let a := JPoint.mul 256 (z * w % p256N) ⟨p256G.1, p256G.2, 1⟩
    let b := JPoint.mul 256 (r * w % p256N) ⟨q.1, q.2, 1⟩
    match (a.add b).affine with
    | some x => decide (x.1 % p256N = r)
    | none => false

/-- An ECDSA signature by private key `d` with the random number `k`, 64 bytes. -/
def ecdsaSign (d k : Nat) (msg : List Byte) : List Byte :=
  let kk := k % (p256N - 1) + 1
  let r := match p256Mul kk p256G with | some x => x.1 % p256N | none => 0
  let z := beNat (sha256 msg)
  leBytes 32 r ++ leBytes 32 (invMod p256N kk * (z + r * d) % p256N)

/-- ECDH secret of a private key and a public key: the x coordinate, 32 bytes (R428, R436); none for a key that is not
on the curve. -/
def ecdh (d : Nat) (key : List Byte) : Option (List Byte) :=
  if onCurve (keyPoint key) then (p256Mul d (keyPoint key)).map (fun x => leBytes 32 x.1) else none

/-- Public key of a private key, 64 bytes. -/
def publicKey (d : Nat) : List Byte := match p256Mul d p256G with | some x => pointBytes x | none => []

end Sys2Proof
end

