-- ==== Sys2Proof/Machine/Log.lean ====
section
/-!
DEFINITION. The LOG opcodes (R364 to R367), the log head (R365), the triggers of the event recorder that time brings.
-/

namespace Sys2Proof.Machine

open Sys2Proof

/-! ## Reading (R364) -/

/-- How far sequence `a` lies ahead of `b`, as a signed difference modulo 2^32 (R359). -/
def seqDiff (a b : Nat) : Int := signed 32 (a + 4294967296 - b % 4294967296)

/-- The surviving record with the lowest sequence at or above `n`. -/
def LogSt.atOrAbove (l : LogSt) (n : Nat) : Option Rec :=
  l.slots.foldl (fun acc p =>
    if seqDiff p.2.seq n < 0 then acc
    else match acc with
      | none => some p.2
      | some r => if seqDiff p.2.seq r.seq < 0 then some p.2 else acc) none

/-- Up to `k` surviving records from sequence `n` on, in ascending sequence. -/
def LogSt.from_ (l : LogSt) (n : Nat) : Nat → List Rec
  | 0 => []
  | k + 1 => match l.atOrAbove n with | some r => r :: LogSt.from_ l (seqAfter r.seq) k | none => []

/-- The oldest surviving sequence; 0 when the log is empty. -/
def LogSt.oldest (l : LogSt) : Nat :=
  match oldestSlot l.next 7 l.slots with | some (_, b) => (l.next + 4294967296 - b) % 4294967296 | none => 0

/-- The newest durable sequence; 0 when the log is empty. -/
def LogSt.newest (l : LogSt) : Nat :=
  l.slots.foldl (fun a p => if a = 0 ∨ seqDiff a p.2.seq < 0 then p.2.seq else a) 0

/-- `LOG_READ` (R364). -/
def State.logRead (f : Flight) (s : State) : State :=
  let n := u32At f.req 16
  let l := s.log
  let rs := l.from_ n (byteAt f.req 20)
  let ok (rs : List Rec) : State := s.ok f (le32 n ++ le8 rs.length ++ zeros 3 ++ rs.flatMap Rec.bytes)
  if n = 0 then s.refuse f (.badField, 16, [])
  else if 0 ≤ seqDiff n l.next then ok []
  else match rs with
    | r :: _ =>
      if r.seq = n then ok rs else s.complete f .overwritten 0 (le32 l.oldest ++ le32 r.seq ++ le32 l.next)
    | [] => s.complete f .overwritten 0 (le32 l.oldest ++ le32 l.next ++ le32 l.next)

/-- `LOG_READ` (R364): served between two NVM operations. -/
def execLogRead (t tag : Nat) (s : State) : Host.Outcome State Fault Refusal :=
  .next (s.withCur t tag 0x0901 (fun f s => s.nvmRead f State.logRead))

/-- Records in the pails, the oldest first. -/
def LogSt.pails (l : LogSt) : List Rec := l.other ++ l.active

/-- `LOG_PAIL_READ` (Table 13.11). -/
def State.logPailRead (f : Flight) (s : State) : State :=
  let p := s.log.pails
  let rs := (p.drop (byteAt f.req 16)).take (byteAt f.req 17)
  s.ok f (le8 rs.length ++ le8 p.length ++ le16 0 ++ le32 s.log.next ++ rs.flatMap Rec.bytes)

/-- `LOG_PAIL_READ`. -/
def execLogPailRead (t tag : Nat) (s : State) : Host.Outcome State Fault Refusal :=
  .next (s.withCur t tag 0x0902 State.logPailRead)

/-! ## Writing and clearing (R367) -/

/-- `LOG_WRITE`: a note enters, or both pails are full and R361 drops it. -/
def State.logWrite (f : Flight) (s : State) : State :=
  let r : Rec := { ts := s.evTs, code := 0x0904, sev := byteAt f.req 16, kind := 0, idx := f.origin.code,
                   role := 0xFFFF, p1 := u32At f.req 20, p2 := u32At f.req 24,
                   flags := if tsUs s.evTs + 1000000 < s.clk.base / 1000 then 2 else 0 }
  let (l, ok) := s.log.record r s.clk.now s.dropFrom
  let s1 := { s with log := l }
  if ok then s1.ok f (le8 (l.pails.length - 1) ++ zeros 3) else s1.complete f .queueFull 0 []

/-- `LOG_WRITE`. -/
def execLogWrite (t tag : Nat) (s : State) : Host.Outcome State Fault Refusal :=
  .next (s.withCur t tag 0x0903 State.logWrite)

/-- Energy a `LOG_CLEAR` must find, µJ (Table 13.7). -/
def clearCost : Nat := 80000

/-- Segments of 512 slots in the log (R20). -/
def clearSegments : Nat := logSlots / 512

/-- A clear begins: both pails are emptied, but for a churn under way, whose records lie below the limit; the first
segment is asked for. -/
def State.clearStart (s : State) (f : Flight) (opts : Nat) : State :=
  let l := s.log
  let l1 := l.setActive []
  let l2 := if l.churning then { l1 with trigger := false }
    else { (l1.setOther []) with queued := false, trigger := false, urgent := false, energyWait := false }
  ((({ s with log := { l2 with clear := some (l.next, opts, 0, 0), limit := l.next } }).wait f .logClear).nvmRequest
    .clearSegment [] 0).1

/-- What a `LOG_CLEAR` waits for: its energy, or its record. -/
def WaitKind.ofClear : WaitKind → Bool
  | .clearEnergy _ _ => true | .logClear => true | _ => false

/-- A clear runs, or waits for its energy or its record. -/
def State.clearing (s : State) : Bool := s.log.clear.isSome || s.host.waits.any (fun w => w.kind.ofClear)

/-- `LOG_CLEAR` (R367): it waits for its energy as a commit does; one clear at a time. -/
def State.logClear (f : Flight) (s : State) : State :=
  if s.clearing then s.refuse f (.busy, 0x40, [])
  else s.unlessNoWait f clearCost (fun s =>
    if s.energyOk clearCost then s.clearStart f (byteAt f.req 16)
    else s.wait f (.clearEnergy (byteAt f.req 16) s.clk.now))

/-- `LOG_CLEAR`. -/
def execLogClear (t tag : Nat) (s : State) : Host.Outcome State Fault Refusal :=
  .next (s.withCur t tag 0x0904 State.logClear)

/-- A clear that waits for energy starts when the rule is met. -/
def State.clearRetry (s : State) : State :=
  match s.host.waits.find? (fun w => match w.kind with | .clearEnergy _ _ => true | _ => false) with
  | some w =>
    match w.kind with
    | .clearEnergy o _ =>
      if s.energyOk clearCost then
        ({ s with host := { s.host with waits := s.host.waits.filter (fun x => x != w) } }).clearStart w.fl o
      else s
    | _ => s
  | none => s

/-- One segment erased: records below the limit go; the answer says how many. -/
def LogSt.eraseSegment (l : LogSt) (limit k : Nat) : LogSt × Nat :=
  let keep := l.slots.filter (fun p => !(decide (p.1 / 512 = k) && decide (seqDiff p.2.seq limit < 0)))
  ({ l with slots := keep }, l.slots.length - keep.length)

/-- The last segment of a clear is done: flags and counters, and `LOG_CLEARED`. -/
def State.logClearEnd (s : State) (opts erased : Nat) : State :=
  let l := s.log
  let l1 := { l with clear := none, wrapped := false }
  let l2 := if tst opts 0 then { l1 with drops := List.replicate 8 0, overwritten := 0 } else l1
  ({ s with log := l2 }).logNode 0x0901 7 erased opts

/-- A segment of a clear completes (R20, R367). -/
def State.clearSegment (s : State) : State :=
  match s.log.clear with
  | some (limit, opts, erased, k) =>
    let (l, n) := s.log.eraseSegment limit k
    let s1 := { s with log := { l with clear := some (limit, opts, erased + n, k + 1) } }
    if k + 1 < clearSegments then (s1.nvmRequest .clearSegment [] 0).1 else s1.logClearEnd opts (erased + n)
  | none => s

/-- A clear cut short by power loss is completed at the next start (R367). -/
def clearRest : Nat → State → State
  | 0, s => s
  | n + 1, s =>
    match s.log.clear with
    | some (limit, opts, erased, k) =>
      let (l, m) := s.log.eraseSegment limit k
      let s1 := { s with log := { l with clear := some (limit, opts, erased + m, k + 1) } }
      clearRest n (if k + 1 < clearSegments then s1 else s1.logClearEnd opts (erased + m))
    | none => s

/-- The record of a clear has been written: its request completes with the sequence given. -/
def State.clearAnswer (s : State) : State :=
  match s.log.clear with
  | some _ => s
  | none =>
    match (s.log.slots.filter (fun p => decide (p.2.code = 0x0901))).foldl
        (fun acc p => match acc with
          | none => some p.2
          | some (r : Rec) => if seqDiff r.seq p.2.seq < 0 then some p.2 else some r) none with
    | some r =>
      if s.log.pails.any (fun x => decide (x.code = 0x0901)) then s
      else s.endWaits (fun k => if k = .logClear then some (.ok, 0, le32 r.p1 ++ le32 r.seq) else none)
    | none => s

/-! ## Triggers and drop minutes -/

/-- `LOG_CHURN` (R357): a queued log churn starts once the energy rule is met and its turn has come. -/
def execLogChurn (t : Nat) (s : State) : Host.Outcome State Fault Refusal :=
  .next (s.advance t).nvmStart

/-- A record has been 1 s in the active pail (Table 13.6). -/
def State.ageTrigger (s : State) : State :=
  if !s.log.closed && s.log.active.any (fun r => decide (r.entered + secs 1 ≤ s.clk.now)) then { s with log := s.log.swapPails } else s

/-- `AGE_TRIGGER` (R356). -/
def execAgeTrigger (t : Nat) (s : State) : Host.Outcome State Fault Refusal := .next (s.advance t).ageTrigger

/-- Four bytes of a drop minute, severity `lo` in the low byte. -/
def dropWord (c : List Nat) (lo : Nat) : Nat :=
  (List.range 4).foldr (fun i a => min 255 (c.getD (lo + i) 0) + 256 * a) 0

/-- The drop minute ends (R361). -/
def State.logDrops (s : State) : State :=
  match s.log.minute with
  | some (c, e) =>
    if e ≤ s.clk.flow then
      ({ s with log := { s.log with minute := none } }).logNode 0x0903 5 (dropWord c 4) (dropWord c 0)
    else s
  | none => s

/-- `LOG_DROPS` (R361): the minute ends at a capture, in the manner of R241; where no frame comes, at its own instant. -/
def execLogDrops (t : Nat) (s : State) : Host.Outcome State Fault Refusal :=
  let s1 := s.advance t
  .next (if s1.frame.running && decide (s1.clk.now ≠ s1.frame.captNow) && decide (s1.clk.now < s1.frame.nextTick) then s1
    else s1.logDrops)

/-! ## Log head (Table 13.9) -/

/-- The log head, 64 bytes. -/
def LogSt.headBytes (l : LogSt) : List Byte :=
  le32 l.next ++ le32 l.oldest ++ le32 l.newest ++ le16 l.slots.length ++ le8 l.pailA.length ++ le8 l.pailB.length ++
    l.drops.flatMap le16 ++ le32 l.overwritten ++ le16 (min 65535 l.lost) ++
    le8 (8 * bit l.activeB + 4 * bit l.energyWait + 2 * bit l.churning + bit l.wrapped) ++ le8 0 ++ le64 l.lastChurn ++ zeros 16

end Sys2Proof.Machine
end

