-- ==== Sys2Proof/Machine/Keys.lean ====
section
/-!
DEFINITION. The key store, the firmware slots and the erasure of RETURNED as the NVM operations leave them; the checks of
the secure boot (R425 to R433).
-/

namespace Sys2Proof.Machine

open Sys2Proof

/-! ## Slots and the boot directory -/

/-- Firmware slot `n`. -/
def SecSt.slot (x : SecSt) (n : Nat) : FwSlot := x.slots.getD n {}

/-- The boot directory record in force. -/
def SecSt.dirRec (x : SecSt) : DirRec :=
  { seq := x.dirSeq, preferred := x.preferred, slots := x.slots.map (fun y => (y.state, y.version)) }

/-- The boot directory is rewritten: the new record goes into the other copy, which is then in force; the old one stays (R429). -/
def SecSt.rewrite (x : SecSt) (g : SecSt → SecSt) : SecSt :=
  { g x with dirOld := some x.dirRec, dirAt := 1 - x.dirAt, dirSeq := (x.dirSeq + 1) % 4294967296 }

/-- A slot changed, with the boot directory. -/
def SecSt.setSlot (x : SecSt) (n : Nat) (f : FwSlot → FwSlot) : SecSt :=
  x.rewrite (fun y => { y with slots := modAt y.slots n f })

/-- The ROM takes the valid copy with the higher sequence (R429). -/
def SecSt.dirPick (x : SecSt) : SecSt :=
  match x.dirOld with
  | some r =>
    if x.dirSeq < r.seq then
      { x with dirOld := some x.dirRec, dirAt := 1 - x.dirAt, dirSeq := r.seq, preferred := r.preferred
               slots := x.slots.zipIdx.map (fun p => match r.slots[p.2]? with
                 | some v => { p.1 with state := v.1, version := v.2 } | none => p.1) }
    else x
  | none => x

/-- Security state changed. -/
def State.modSec (s : State) (f : SecSt → SecSt) : State := { s with sec := f s.sec }

/-- Code of a slot state (Table 16.4). -/
def SlotState.code : SlotState → Nat
  | .empty => 0 | .incomplete => 1 | .trial => 2 | .valid => 3 | .failed => 4

/-- The boot directory record in force as bytes (Table 16.4). -/
def SecSt.dirBytes (x : SecSt) : List Byte :=
  let b := le32 0x44424541 ++ le32 x.dirSeq ++ le8 x.preferred ++ le8 (x.slot 0).state.code ++ le8 (x.slot 1).state.code ++
    le8 0 ++ le16 (x.slot 0).version ++ le16 (x.slot 1).version ++ zeros 44
  b ++ le32 (crc32 b)

/-- Key of an owner slot as 64 bytes. -/
def SecSt.ownerKey (x : SecSt) (n : Nat) : Option (List Byte) :=
  ((x.owner.getD n none)).map (fun (k : BitVec 512) => leBytes 64 k.toNat)

/-- A signature by an owner slot verifies; an empty slot verifies nothing. -/
def SecSt.ownerSigned (x : SecSt) (n : Nat) (msg sig : List Byte) : Bool :=
  match x.ownerKey n with | some k => ecdsaVerify k msg sig | none => false

/-- Part of a memory as bytes. -/
def fwBytes (d : Mem) (o n : Nat) : List Byte := d.readList o n

/-- Root key of a block whose magic is correct and whose key has the hash of the fuses (R430). -/
def RootBlock.key : RootBlock → Option (List Byte)
  | .seluik => some (leBytes 64 Config.rootKey.toNat)
  | .other k m =>
    let b := leBytes 64 k.toNat
    if m = 0x4B524541 && sha256 b = sha256 (leBytes 64 Config.rootKey.toNat) then some b else none

/-- A signature verifies with the root key of the first good block. -/
def SecSt.rootSigned (x : SecSt) (msg sig : List Byte) : Bool :=
  match x.rootBlocks.findSome? RootBlock.key with | some k => ecdsaVerify k msg sig | none => false

/-- The device identity private key as a number. -/
def SecSt.idKey (x : SecSt) : Nat :=
  match x.identity with
  | .none => Config.noIdentity.toNat
  | .factory => Config.identityKey.toNat
  | .made n _ => (Config.random32 n).toNat % (p256N - 1) + 1

/-- Signature of the device certificate, as `SEC_ID_KEY` gives it. -/
def SecSt.certBytes (x : SecSt) : List Byte :=
  match x.identity with
  | .none => leBytes 64 Config.noCert.toNat
  | .factory => leBytes 64 Config.deviceCert.toNat
  | .made _ c => padTo 64 (c.take 64)

/-- The check of R430 that a slot fails, if any; the image of manufacture passes what depends on its bytes. -/
def SecSt.bootCheck (x : SecSt) (n : Nat) : Option Nat :=
  let s := x.slot n
  let d := s.data
  let ct := fwBytes d 256 (d.u32 8)
  if (x.rootBlocks.findSome? RootBlock.key).isNone ∨ (!s.factory && !x.rootSigned (fwBytes d 0 128) (fwBytes d 128 64)) then some 1
  else if x.requireOwner && !(if s.factory then Config.factoryCounter
      else x.ownerSigned 0 (fwBytes d 0 192) (fwBytes d 192 64) || x.ownerSigned 1 (fwBytes d 0 192) (fwBytes d 192 64)) then
    some 2
  else if (!s.factory && d.u16 16 ≠ 0x6480) ∨ (if s.factory then s.version else d.u16 18) < x.fusedVersion then some 3
  else if s.factory then none
  else if sha256 ct ≠ fwBytes d 52 32 then some 4
  else if (gcmOpen (leBytes 32 Config.firmwareKey.toNat) (fwBytes d 24 12) ct (fwBytes d 36 16)).isNone then some 5
  else none

/-- Firmware version of a slot as the events give it: major × 256 + minor. -/
def FwSlot.major256 (x : FwSlot) : Nat := if x.factory then 0x0302 else x.data.u8 12 * 256 + x.data.u8 13

/-! ## The key store (R426 to R428) -/

/-- Argument of a key store write: kind (0 erasure, 1 owner, 2 bus, 3 provisioning), slot, action. -/
def keyArg (kind slot action : Nat) : Nat := kind * 65536 + slot * 256 + action

/-- Code of a debug level. -/
def DbgLevel.code : DbgLevel → Nat
  | .none => 0 | .observe => 1 | .full => 2

/-- Debug state changed. -/
def State.modDbg (s : State) (f : DebugSt → DebugSt) : State := s.modSec (fun x => { x with dbg := f x.dbg })

/-- The session ends, its keys are erased and `EXTEST` with it; `SEC_SESSION_END` gives the cause (R440, Table 16.12). -/
def State.endSession (s : State) (cause : Nat) : State :=
  match s.sec.dbg.session with
  | some x => (s.modDbg (fun d => { d with session := none, challenge := none, out := [], halted := 0, haltPend := 0, extest := false })).logNode
      0x0C02 4 cause x.serial
  | none => s.modDbg (fun d => { d with challenge := none })

/-- A lifecycle fuse is blown, and that is logged; it ends a session (R440). -/
def State.setLife (s : State) (l : Lifecycle) : State :=
  (s.modSec (fun x => { x with life := l })).logNode 0x0C04 7 s.sec.life.code l.code

/-- The key store write of provisioning is complete: the key engine has made the identity key pair, the certificate stands with
it, the lifecycle advances (R424). -/
def State.provisioned (s : State) (cert : List Byte) : State :=
  let (n, s1) := s.draw
  ((s1.modSec (fun x => { x with identity := .made n cert })).setLife .provisioned).endSession 8

/-- An owner key write that leaves no owner key in `FIELDED` does not apply: the other slot has been emptied since the request was
accepted (R427). -/
def State.lastOwner (s : State) (o : NvmOp) : Bool :=
  decide (o.arg / 65536 = 1) && decide (o.arg % 256 = 2) && decide (s.sec.life = .fielded) &&
    (s.sec.ownerKey (1 - o.arg / 256 % 256)).isNone

/-- A key store write is complete: the erasure goes on with its second part; a bus key takes effect at the next tick. -/
def State.keyDone (s : State) (o : NvmOp) : State :=
  let kind := o.arg / 65536
  let slot := o.arg / 256 % 256
  let act := o.arg % 256
  if kind = 0 then
    let s1 := s.modSec (fun x => { x with owner := List.replicate 2 none, bus := List.replicate 4 none, busNext := [],
                                          erasure := some (2, 0) })
    (s1.nvmRequest .eraseFirst [] 0).1
  else if kind = 3 then (if s.sec.life = .blank then s.provisioned (o.data.readList 0 64) else s)
  else if s.lastOwner o then s
  else
    let s1 := if kind = 1 then
        s.modSec (fun x => { x with owner := modAt x.owner slot (fun _ =>
          if act = 2 then none else some (BitVec.ofNat 512 (leNat (o.data.readList 0 64)))) })
      else
        s.modSec (fun x => { x with busNext := x.busNext ++ [(slot,
          if act = 2 then none else some (BitVec.ofNat 256 (leNat (o.data.readList 0 32))))] })
    s1.logNode 0x0C05 5 kind (slot * 256 + act)

/-- New bus keys take effect at a tick (R428). -/
def SecSt.busTick (x : SecSt) : SecSt :=
  { x with bus := x.busNext.foldl (fun l p => modAt l p.1 (fun _ => p.2)) x.bus, busNext := [] }

/-! ## The erasure of RETURNED (R425) -/

/-- Segments of the second part: the log, then the two configuration copies in pieces of 16 KiB. -/
def eraseSegments : Nat := clearSegments + 16

/-- Sectors of the configuration image slots. -/
def eraseSectors : Nat := 256

/-- What is left when the second part is complete: an empty log, no committed configuration. -/
def State.eraseMram (s : State) : State :=
  { s with
    log := { s.log with slots := [], plan := [], pailA := [], pailB := [], queued := false, trigger := false, urgent := false,
                        closed := true, drops := List.replicate 8 0, minute := none, clear := none }
    cfg := { s.cfg with copy0 := [], copy1 := [], roles0 := {}, roles1 := {}, sel0 := {}, sel1 := {} } }

/-- A segment or a sector of the erasure is complete: the next one is asked for; the third part ends the erasure, which
is then in part 4. -/
def State.eraseStep (s : State) : State :=
  match s.sec.erasure with
  | some (2, k) =>
    if k + 1 < eraseSegments then
      ((s.modSec (fun x => { x with erasure := some (2, k + 1) })).nvmRequest .eraseSegment [] (k + 1)).1
    else ((s.eraseMram.modSec (fun x => { x with erasure := some (3, 0) })).nvmRequest .eraseSector [] 0).1
  | some (3, k) =>
    let s1 := { s with cfg := { s.cfg with slots := modAt s.cfg.slots (k / 32) (fun _ => []),
                                           slotBad := modAt s.cfg.slotBad (k / 32) (fun _ => false) } }
    if k + 1 < eraseSectors then
      ((s1.modSec (fun x => { x with erasure := some (3, k + 1) })).nvmRequest .eraseSector [] (k + 1)).1
    else s1.modSec (fun x => { x with erasure := some (4, 0) })
  | _ => s

/-- The erasure begins, or goes on after a power loss, with the part that is not complete. -/
def State.eraseBegin (s : State) : State :=
  match s.sec.erasure with
  | some (1, _) => (s.nvmRequest .keyChurn [] (keyArg 0 0 0)).1
  | some (2, k) => ((s.modSec (fun x => { x with erasure := some (2, 0) })).nvmRequest .eraseFirst [] k).1
  | some (3, k) => (s.nvmRequest .eraseSector [] k).1
  | _ => s

/-! ## Firmware writes (R433) -/

/-- Cells of a memory outside `[lo, hi)`. -/
def cutRange (m : Mem) (lo hi : Nat) : Mem := m.filter (fun c => decide (c.1 < lo) || decide (hi ≤ c.1))

/-- Sectors of a firmware slot. -/
def fwSectors : Nat := 512

/-- Argument of the operation that ends an update. -/
def fwFinal : Nat := 100000

/-- Bytes of sector `n` loaded so far. -/
def FwUpdate.count (u : FwUpdate) (n : Nat) : Nat := (u.mask.filter (fun c => decide (c.1 / 4096 = n))).length

/-- A flash operation of an update is complete: argument 0 erases one sector, `n` + 1 programs sector `n`. -/
def State.firmwareDone (s : State) (o : NvmOp) : State :=
  match s.sec.update with
  | none => s
  | some u =>
    if o.arg = 0 then
      let k := fwSectors - u.eraseLeft
      let s1 := s.modSec (fun x =>
        { x with slots := modAt x.slots u.slot (fun y => { y with data := cutRange y.data (4096 * k) (4096 * k + 4096) })
                 update := some { u with eraseLeft := u.eraseLeft - 1 } })
      if 1 < u.eraseLeft then (s1.nvmRequest .firmware [] 0).1 else s1
    else if o.arg ≤ fwSectors then
      let a := 4096 * (o.arg - 1)
      s.modSec (fun x => { x with slots := modAt x.slots u.slot (fun y =>
        { y with data := y.data.writeList a (u.buffer.readList a 4096) }) })
    else s

/-- All bytes of the length given have been loaded. -/
def FwUpdate.whole (u : FwUpdate) : Bool := decide (u.mask.length = u.len)

/-- A rewrite of the boot directory is asked for, and the request waits for it (R19, R65). -/
def State.dirWrite (s : State) (f : Flight) (c : DirChange) : State :=
  let (s1, op) := s.nvmRequest (.directory c) [] 0
  s1.wait f (.nvm op)

/-- `FW_FINISH` once the slot is programmed: the checks of R430, then TRIAL; or FAILED with the number of the check, 6 for
a slot that is not complete. -/
def State.fwJudge (s : State) (f : Flight) : State :=
  match s.sec.update with
  | none => s.dirWrite f (.failed (1 - s.sec.running) 6)
  | some u =>
    match if u.whole then s.sec.bootCheck u.slot else some 6 with
    | some k => s.dirWrite f (.failed u.slot k)
    | none => s.dirWrite f (.trial u.slot)

/-- The running trial slot is accepted (R431): it becomes VALID and preferred, and the security version fuses are blown. -/
def State.fwAccept (s : State) : State :=
  let n := s.sec.running
  let v := (s.sec.slot n).version
  let s1 := s.modSec (fun x =>
    { (x.rewrite (fun y => { y with slots := modAt y.slots n (fun z => { z with state := .valid }), preferred := n })) with
      onTrial := false, attempts := 0, fusedVersion := max x.fusedVersion v })
  s1.logNode 0x0D03 5 n v

/-- The running slot is on trial. -/
def State.onTrial (s : State) : Bool := s.sec.onTrial && decide ((s.sec.slot s.sec.running).state = .trial)

/-- A rewrite of the boot directory is complete (R429, R431, R433): after `FW_BEGIN` the erasure of the slot begins. -/
def State.dirDone (s : State) (c : DirChange) : State :=
  match c with
  | .begin_ n =>
    ((s.modSec (fun x => x.setSlot n (fun y => { state := .incomplete, data := y.data }))).nvmRequest .firmware [] 0).1
  | .trial n =>
    let d := (s.sec.slot n).data
    (s.modSec (fun x =>
      { (x.setSlot n (fun y => { y with state := .trial, version := d.u16 18 })) with attempts := 2, update := none })).logNode
        0x0D02 5 n (d.u8 12 * 256 + d.u8 13)
  | .failed n _ => s.modSec (fun x => { (x.setSlot n (fun y => { y with state := .failed })) with update := none })
  | .prefer n => s.modSec (fun x => x.rewrite (fun y => { y with preferred := n }))
  | .accept => if s.onTrial then s.fwAccept else s

/-- The answer of a `FW` request whose flash operation has ended (Table 16.13). -/
def State.fwAnswer (s : State) (f : Flight) (k : NvmKind) : State :=
  match k with
  | .firmware => s.fwJudge f
  | .directory (.begin_ n) => s.ok f (le8 n)
  | .directory (.trial n) =>
    let d := (s.sec.slot n).data
    s.ok f (le16 (d.u16 18) ++ le8 (d.u8 12) ++ le8 (d.u8 13))
  | .directory (.failed _ c) => s.complete f .hwFault c []
  | .directory .accept => s.ok f (le8 s.sec.running)
  | _ => s.ok f []

/-- The acceptance of the running trial is asked for already. -/
def State.acceptPending (s : State) : Bool :=
  (s.nvm.running.toList ++ s.nvm.waiting).any (fun o => decide (o.kind = .directory .accept))

end Sys2Proof.Machine
end

