-- ==== Sys2Proof/Machine/Display.lean ====
section
/-!
DEFINITION. The display engine (chapter 15): the charge pump, waveforms, requests, blinking, bound regions, the
node-not-live cell, and the commands that drive them.
-/

namespace Sys2Proof.Machine

open Sys2Proof

/-! ## Settings -/

/-- Field of a display entry in force. -/
def State.dispField (s : State) (k o n : Nat) : Nat :=
  match imgEntry s.cfg.img 0x60 k with | some a => s.cfg.img.num (a + o) n | none => 0
/-- A region is enabled. -/
def State.regionOn (s : State) (r : Nat) : Bool := tst (s.dispField r 1 1) 0
/-- Cells of a region. -/
def State.regionMask (s : State) (r : Nat) : Cells := BitVec.ofNat 192 (s.dispField r 8 24)
/-- The panel is enabled (Table 15.5). -/
def State.panelOn (s : State) : Bool := tst (s.dispField 8 1 1) 0
/-- Region `r`. -/
def State.region (s : State) (r : Nat) : RegionSt := s.disp.regions.getD r {}
/-- The display engine changed. -/
def State.modDisp (s : State) (f : DispSt → DispSt) : State := { s with disp := f s.disp }
/-- Region `r` changed. -/
def State.modRegion (s : State) (r : Nat) (f : RegionSt → RegionSt) : State :=
  s.modDisp (fun d => { d with regions := modAt d.regions r f })

/-- Length in ns of transition `tr` of a set in a band. -/
def State.transNs (s : State) (set band tr : Nat) : Nat :=
  match waveEntry s.cfg.img set band with | some a => ms (waveMs s.cfg.img a tr) | none => 0

/-! ## Power and the charge pump (R401, R402, R418) -/

/-- Cells a mask holds. -/
def cellCount (c : Cells) : Nat := popcount c.toNat 192

/-- Cells that a request drives: a cell that becomes blinking joins its group without a waveform (R405), one that a refresh
keeps blinking is driven to the half it shows (R422). -/
def DispReq.driven (q : DispReq) : Cells := q.cells &&& (~~~q.blink ||| q.keep)

/-- Cells that a waveform drives. -/
def DispRun.driven (w : DispRun) : Cells := w.cells &&& (~~~w.blink ||| w.keep)

/-- The pump runs: it starts or is in regulation. -/
def DispSt.pumpRuns (d : DispSt) : Bool := match d.pump with | .on => true | .starting _ => true | _ => false

/-- The display's headgate claim in units of 0.5 mW (R418). -/
def DispSt.claim2 (d : DispSt) : Nat :=
  let runs := d.regions.filterMap (fun r => r.run)
  90 * bit d.pumpRuns + 35 * (runs.length + bit d.cellRun.isSome) + (runs.map (fun r => cellCount r.driven)).sum + bit d.cellRun.isSome

/-- Something is there to drive (R402). -/
def DispSt.busy (d : DispSt) : Bool :=
  d.regions.any (fun r => r.run.isSome || r.toggle.isSome) || d.cellRun.isSome || d.cellPend.isSome ||
    decide (d.blink ≠ 0)

/-- The pump is wanted: it starts, or its start is held while a discharge runs (R401, R402). -/
def DispSt.wantPump (d : DispSt) (now : Nat) : DispSt :=
  if now < d.noStartUntil then d
  else
    match d.pump with
    | .off => { d with pump := .starting now, reenable := false }
    | .discharging _ => { d with reenable := true }
    | _ => d

/-- The pump stops and discharges for 30 ms (R402). -/
def DispSt.stopPump (d : DispSt) (now : Nat) : DispSt := { d with pump := .discharging (now + ms 30), idleSince := none }

/-- What the pump does as time passes: once the 20 ms of its start are over and no fault was found at their end (R401) it is in
regulation, 30 ms after its stop it is off and a held start proceeds, at the tick where frames run. -/
def DispSt.pumpTick (d : DispSt) (now : Nat) (frames : Bool) : DispSt :=
  match d.pump with
  | .starting a => if a + ms 20 < now then { d with pump := .on, fault := false } else d
  | .discharging u =>
    if u ≤ now then
      (if d.reenable && !frames then { d with pump := .starting u, reenable := false } else { d with pump := .off })
    else d
  | .off => if d.reenable && frames then { d with pump := .starting now, reenable := false } else d
  | .on => d

/-- 5 s with nothing to drive shut the pump down (R402). -/
def DispSt.idleTick (d : DispSt) (now : Nat) : DispSt :=
  match d.pump with
  | .on =>
    if d.busy then { d with idleSince := none }
    else
      match d.idleSince with
      | none => { d with idleSince := some now }
      | some t => if t + secs 5 ≤ now then d.stopPump now else d
  | _ => d

/-! ## Requests (R414) -/

/-- Two requests of a region merged: the newer one's states win on the shared cells. -/
def mergeReq (old new : DispReq) : DispReq :=
  { old with cells := old.cells ||| new.cells, dark := (old.dark &&& ~~~new.cells) ||| (new.dark &&& new.cells),
             blink := (old.blink &&& ~~~new.cells) ||| (new.blink &&& new.cells)
             keep := (old.keep &&& ~~~new.cells) ||| (new.keep &&& new.cells) }

/-- A request entered: the display, its queue place (0 ready) and whether it merged; none when the queue is full. -/
def DispSt.enter (d : DispSt) (q : DispReq) : Option (DispSt × Nat × Bool) :=
  let r := d.regions.getD q.region {}
  let waits := d.queue.filter (fun x => x.waiting)
  let updating := match r.run with | some w => !w.toggle | none => false
  if !updating && r.toggle.isNone then
    some ({ d with queue := d.queue ++ [{ q with waiting := false }] }, 0, false)
  else
    let same (x : DispReq) : Bool := x.waiting && decide (x.region = q.region) && decide (x.cells &&& q.cells ≠ 0)
    match waits.findIdx? same with
    | some i =>
      let merged := (d.queue.filter same).foldl mergeReq { q with cells := 0, dark := 0, blink := 0, keep := 0, waiting := true }
      let all := mergeReq merged { q with waiting := true }
      let first := waits.getD i q
      let keep := d.queue.filter (fun x => !same x || decide (x = first))
      some ({ d with queue := modFirst (fun x => decide (x = first)) (fun _ => all) keep }, i + 1, true)
    | none =>
      if 8 ≤ waits.length then none
      else some ({ d with queue := d.queue ++ [{ q with waiting := true }] }, waits.length + 1, false)

/-! ## Waveforms (R407, R412, R415) -/

/-- Length of the waveform that drives `cells` to their new states: the longest transition needed, from unknown the full one
(R403, R407). -/
def State.runNs (s : State) (r band : Nat) (cells dark : Cells) : Nat :=
  let set := s.dispField r 2 1
  let d := s.disp
  let any (c : Cells) : Bool := decide (c &&& cells ≠ 0)
  let known := ~~~d.unknown
  let l (tr : Nat) (c : Cells) : Nat := if any c then s.transNs set band tr else 0
  max (max (l 0 (known &&& ~~~d.dark &&& ~~~dark)) (l 1 ((d.unknown ||| ~~~d.dark) &&& dark)))
    (max (l 2 ((d.unknown ||| d.dark) &&& ~~~dark)) (l 3 (known &&& d.dark &&& dark)))

/-- The band a waveform latches: in range the band in force; below the range band 0, above it band 9 (R412, R413). -/
def DispSt.useBand (d : DispSt) : Nat := if d.tempOut then (if d.temp < 0 then 0 else 9) else d.band

/-- The panel is in forerunner mode and a waveform runs somewhere (R409). -/
def State.panelTaken (s : State) : Bool :=
  imgForerunner s.cfg.img && (s.disp.regions.any (fun r => r.run.isSome) || s.disp.cellRun.isSome)

/-- A waveform of region `r` starts now; a cell kept blinking is driven to the half that it shows (R422). -/
def State.startRun (s : State) (r : Nat) (toggle : Bool) (q : DispReq) : State :=
  let b := s.disp.useBand
  let dark := (q.dark &&& ~~~q.keep) ||| (s.disp.dark &&& q.keep)
  let run : DispRun :=
    { toggle, cells := q.cells, dark, blink := q.blink, keep := q.keep, band := b, start := s.clk.now
      ends := s.clk.now + s.runNs r b q.driven dark }
  s.modRegion r (fun x => { x with run := some run, lastBand := b, budgetHeld := false, granted := none })

/-- Blink toggles of region `r` are of class 0 (R416). -/
def State.blinkClass0 (s : State) (r : Nat) : Bool := decide (s.dispField r 3 1 = 0)

/-- The oldest request of a region. -/
def DispSt.oldest (d : DispSt) (r : Nat) : Option DispReq := d.queue.find? (fun q => decide (q.region = r))

/-- Region `r` may start a waveform: its sequencer is idle, the panel is driven and not taken by another waveform. -/
def State.regionFree (s : State) (r : Nat) : Bool :=
  (s.region r).run.isNone && !s.panelTaken && s.panelOn && decide (s.pwr.state ≠ .holdup)

/-- A request that comes first in region `r` may start: the temperature is within range (R413). -/
def State.nextReq (s : State) (r : Nat) : Option DispReq := if s.disp.tempOut then none else s.disp.oldest r

/-- What region `r` claims for the next tick, in units of 0.5 mW (R418): its pending toggle (true) or its oldest request; nothing
while no waveform of it can start. -/
def State.regionClaim (s : State) (r : Nat) : Option (Bool × Nat) :=
  if !s.regionFree r || (!s.disp.pumpRuns && decide (s.clk.now < s.disp.noStartUntil)) then none
  else
    match (s.region r).toggle with
    | some (c, _) => some (true, 35 + cellCount c)
    | none => (s.nextReq r).map (fun q => (false, 35 + cellCount q.driven))

/-- Region `r` starts what comes first, its pending toggle, else its oldest request (R415): a toggle of class 0 at once, every
other as the headgate has granted it in the frame before. -/
def State.startRegion (s : State) (r : Nat) : State :=
  let x := s.region r
  if !s.regionFree r || decide (s.clk.now ≤ x.endedAt) then s
  else
    let go (ok : Bool) (run : State → State) : State :=
      if !ok then s else if s.disp.pump = .on then run s else s.modDisp (fun d => d.wantPump s.clk.now)
    match x.toggle with
    | some (c, dk) =>
      go (s.blinkClass0 r || decide (x.granted = some true)) (fun s =>
        (s.modRegion r (fun y => { y with toggle := none })).startRun r true
          { region := r, cells := c, dark := if dk then c else 0, blink := 0, waiting := false })
    | none =>
      match s.nextReq r with
      | none => s
      | some q =>
        go (decide (x.granted = some false)) (fun s =>
          (s.modDisp (fun d => { d with queue := d.queue.erase q })).startRun r false q)

/-- The tick of the present instant: the one just taken or at hand, else the next. -/
def State.tickOf (s : State) : Nat :=
  if s.clk.now = s.frame.captNow || !s.frame.running then s.clk.now else max s.clk.now s.frame.nextTick

/-- The waveform of region `r` ends when its time has come: the shown states are updated (R407, R412). -/
def State.endRegion (s : State) (r : Nat) : State :=
  match (s.region r).run with
  | none => s
  | some w =>
    if s.clk.now < w.ends then s
    else
      let upd (d : DispSt) : DispSt :=
        { d with dark := (d.dark &&& ~~~w.driven) ||| (w.dark &&& w.driven), unknown := d.unknown &&& ~~~w.driven,
                 blink := if w.toggle then d.blink else (d.blink &&& ~~~w.cells) ||| (w.blink &&& w.cells) }
      let s1 := (s.modDisp upd).modRegion r (fun y =>
        { y with run := none, endedAt := s.tickOf, reband := w.reband, updates := (y.updates + bit (!w.toggle)) % 4294967296 })
      if w.reband && !w.toggle && tst (s.dispField r 1 1) 1 then
        match s1.disp.enter { region := r, cells := w.cells, dark := w.dark, blink := w.blink, keep := w.keep, waiting := false } with
        | some (d, _, _) => { s1 with disp := d }
        | none => s1
      else s1

/-! ## Blinking (R416) -/

/-- Blink group `g` stands in half `dark`: the blinking cells of its regions whose shown half differs become pending
toggles; a toggle still pending takes the new half, or is dropped where nothing differs. -/
def State.blinkTo (s : State) (g : Nat) (dark : Bool) : State :=
  let s1 := s.modDisp (fun d => { d with halves := modAt d.halves g (fun _ => dark) })
  (List.range 8).foldl (fun s r =>
    if s.regionOn r && s.dispField r 3 1 = g then
      let want : Cells := if dark then BitVec.allOnes 192 else 0
      let c := s.regionMask r &&& s.disp.blink &&& ((s.disp.dark ^^^ want) ||| s.disp.unknown)
      s.modRegion r (fun y => { y with toggle := if c = 0 then none else some (c, dark) })
    else s) s1

/-- The half a group stands in at network instant `net` (ns). -/
def darkHalf (periodMs net : Nat) : Bool := periodMs != 0 && decide (2 * (net % ms periodMs) < ms periodMs)

/-- Blink group `g` at the present instant: at a new half its cells toggle. -/
def State.blinkStep (s : State) (g : Nat) : State :=
  let p := blinkPeriod s.cfg.img g
  let h := darkHalf p s.clk.base
  if p = 0 || !s.panelOn || s.pwr.state = .standby then s
  else if h = s.disp.halves.getD g false then s else s.blinkTo g h

/-! ## The node-not-live cell (R417) -/

/-- Transition of a drive of the cell: light to dark, or dark to light. -/
def CellRun.trans (c : CellRun) : Nat := if c.dark then 1 else 2

/-- The drive of the cell starts at instant `at_`. -/
def State.cellFrom (s : State) (dark : Bool) (at_ : Nat) : State :=
  let b := s.disp.useBand
  let run : CellRun := { dark, band := b, start := at_, ends := at_ + s.transNs (s.dispField 8 6 1) b (if dark then 1 else 2) }
  s.modDisp (fun d => { d with cellPend := none, cellKnown := false, cellRun := some run })

/-- The node-not-live cell is to be driven dark or light: at a tick while frames run, else as soon as the pump can be in
regulation. -/
def State.driveCell (s : State) (dark : Bool) : State :=
  if !s.panelOn then s
  else if s.frame.running then s.modDisp (fun d => { d with cellPend := some dark })
  else
    let s1 := s.modDisp (fun d => d.wantPump s.clk.now)
    match s1.disp.pump with
    | .on => s1.cellFrom dark s.clk.now
    | .starting a => s1.cellFrom dark (a + ms 20)
    | .discharging u => if s1.disp.reenable then s1.cellFrom dark (u + ms 20) else s1.modDisp (fun d => { d with cellPend := some dark })
    | .off => s1.modDisp (fun d => { d with cellPend := some dark })

/-- The node-not-live cell, cell (15,11) on SEG191 (R398). -/
def cell191 : Cells := BitVec.twoPow 192 191

/-- The drive of the cell ends in its time and is then what the panel shows (R419), and the pump with it unless something else is there to drive (R402). -/
def DispSt.cellEnd (d : DispSt) (now : Nat) (frames : Bool) : DispSt :=
  match d.cellRun with
  | some c =>
    if c.ends ≤ now then
      let d1 := { d with cellRun := none, cellDark := c.dark, cellKnown := true, unknown := d.unknown &&& ~~~cell191
                         dark := if c.dark then d.dark ||| cell191 else d.dark &&& ~~~cell191 }
      if d1.busy && frames then d1 else d1.stopPump c.ends
    else d
  | none => d

/-- What the node-not-live cell is still to be driven to once a drive of it is broken off. -/
def DispSt.cellLeft (d : DispSt) : Option Bool := match d.cellRun with | some c => some c.dark | none => d.cellPend

/-- The pump and the cell as time has passed. -/
def State.dispSettle (s : State) : State :=
  let f := s.frame.running
  let now := s.clk.now
  s.modDisp (fun d => ((((d.pumpTick now f).pumpTick now f).cellEnd now f).pumpTick now f))

/-- A drive of the cell that waits starts at a tick when the pump is on. -/
def State.cellTick (s : State) : State :=
  match s.disp.cellPend, s.disp.cellRun with
  | some dk, none =>
    if s.disp.pump = .on then (if s.panelTaken then s else s.cellFrom dk s.clk.now) else s.modDisp (fun d => d.wantPump s.clk.now)
  | _, _ => s

/-! ## Levels on the lands (R399, R400) -/

/-- Level code, `el` ns after its start, of a native transition with these phase words: VMID after its end (R407). -/
def levelIn : List Nat → Nat → Nat
  | [], _ => 0
  | w :: r, el => if w % 1024 = 0 then 0 else if el < ms (w % 1024) then w / 8192 else levelIn r (el - ms (w % 1024))

/-- Frame of a forerunner table that stands `el` ns after its start; none after its end (R409). -/
def foreFrame (m : Mem) (a el : Nat) : Option Nat :=
  let i := el / ms (max 1 (m.u8 (a + 97)))
  if i < m.u8 (a + 96) then some i else none

/-- TPL level of a forerunner table, `el` ns after its start (R409). -/
def foreTpl (m : Mem) (a el : Nat) : Nat :=
  match foreFrame m a el with | some i => [0, 2, 4, 0].getD (m.u8 (a + 80 + i / 4) / 4 ^ (i % 4) % 4) 0 | none => 0

/-- Level of a segment in transition `tr`, `el` ns after the start of the waveform at `a`. -/
def segLevel (m : Mem) (a tr el : Nat) : Nat :=
  if m.u8 (a + 2) = 1 then
    match foreFrame m a el with
    | some i => [foreTpl m a el, 2, 4, 5].getD (m.u8 (a + 16 + i) / 4 ^ tr % 4) 0
    | none => 0
  else levelIn ((List.range 16).map (fun k => m.u16 (a + 16 + 32 * tr + 2 * k))) el

/-- Transition of a cell to a new state, from its shown state; from unknown the full one (R403, R407). -/
def DispSt.transOf (d : DispSt) (n : Nat) (dark : Bool) : Nat :=
  if d.unknown.getLsbD n then (if dark then 1 else 2) else 2 * bit (d.dark.getLsbD n) + bit dark

/-- Waveforms that run: the address of the table and the time since the start, with each cell's transition. -/
def State.waves (s : State) : List (Nat × Nat × (Nat → Option Nat)) :=
  let now := s.clk.now
  let d := s.disp
  let wave (set band start ends : Nat) (f : Nat → Option Nat) : Option (Nat × Nat × (Nat → Option Nat)) :=
    if start ≤ now && decide (now < ends) then (waveEntry s.cfg.img set band).map (fun a => (a, now - start, f)) else none
  (match d.cellRun with
    | some c => (wave (s.dispField 8 6 1) c.band c.start c.ends (fun n => if n = 191 then some c.trans else none)).toList
    | none => []) ++
  (List.range 8).filterMap (fun r => match (s.region r).run with
    | some w => wave (s.dispField r 2 1) w.band w.start w.ends (fun n =>
        if w.driven.getLsbD n then some (d.transOf n (w.dark.getLsbD n)) else none)
    | none => none)

/-- Every land of the panel takes its level: high impedance with the pump off; VMID, or in forerunner mode the level of `TPL`,
but for the segments that a running waveform drives (R400, R409). -/
def State.driveLands (s : State) : State :=
  let ws := s.waves
  let tpl := if imgForerunner s.cfg.img then (match ws with | w :: _ => foreTpl s.cfg.img w.1 w.2.1 | [] => 0) else 0
  let level (n : Nat) : Nat :=
    match ws.findSome? (fun w => (w.2.2 n).map (fun tr => segLevel s.cfg.img w.1 tr w.2.1)) with
    | some l => l
    | none => tpl
  s.modDisp (fun d =>
    if d.pump = .off then { d with seg := List.replicate 192 5, tpl := 5 }
    else { d with seg := if ws.isEmpty then List.replicate 192 tpl else (List.range 192).map level, tpl })

/-- Entry to HOLDUP: waveforms stop, requests go, the cells concerned are unknown, and the cell alone is driven dark
(R417). -/
def State.dispHoldup (s : State) : State :=
  let cells := s.disp.regions.foldl (fun (c : Cells) r => match r.run with | some w => c ||| w.cells | none => c) 0
  ((s.modDisp (fun d => { d with regions := d.regions.map (fun r => { r with run := none, toggle := none }), queue := [],
                                 unknown := d.unknown ||| cells })).driveCell true).driveLands

/-! ## Temperature (R411 to R413) -/

/-- Band in force after a temperature in 1/16 °C: it changes once a boundary is passed by 0.5 K. -/
def bandStep (b : Nat) (t16 : Int) : Nat :=
  let raw := (clampI 0 9 (t16 / 80)).toNat
  if raw = b then b
  else if b < raw then (if ((b : Int) + 1) * 80 + 8 ≤ t16 then (clampI 0 9 ((t16 - 8) / 80)).toNat else b)
  else (if t16 ≤ (b : Int) * 80 - 8 then (clampI 0 9 ((t16 + 8) / 80)).toNat else b)

/-- The panel temperature of a capture: from the channel of entry 8 while usable, else the case sensor. -/
def State.dispTemp (s : State) (chan : Nat → Src) : State :=
  let src := s.dispField 8 2 1 = 1
  let c := chan (s.dispField 8 3 1)
  let useCh := src && c.2.usable
  let t : Int := Rat.fl ((if useCh then c.1.toRat else s.pwr.caseT) * 16)
  let out := decide (t < 0) || decide (800 < t)
  let d := s.disp
  let b := bandStep d.band t
  let s1 := s.modDisp (fun d => { d with temp := t, band := b, fallback := src && !useCh, tempOut := out })
  let s2 := if out != d.tempOut then s1.logNode 0x0B02 4 (twos 32 t) (bit out) else s1
  (List.range 8).foldl (fun s r =>
    let x := s.region r
    match x.run with
    | some w =>
      let df := if w.band ≤ b then b - w.band else w.band - b
      if 2 ≤ df && !w.reband then
        (s.modRegion r (fun y => { y with reband := true, run := some { w with reband := true } })).logEv 0x0B01 4 15 r (s.cfg.roles.get .region r) w.band b
      else s
    | none => s) s2

/-! ## Bound regions (R405) -/

/-- What a bound unit asks of its cell: 0 light, 1 dark, 2 blinking (Table 15.6). -/
def boundState (state : Nat) (unack : Bool) : Nat :=
  match state with
  | 1 => 2 | 3 => 2 | 7 => if unack then 2 else 1 | 2 => 1 | _ => 0

/-- State code and "something to acknowledge" of bound unit `i` of a source kind. -/
def State.boundUnit (s : State) (kind i : Nat) : Nat × Bool :=
  if kind = 1 then let g := s.eng.groups.getD i {}; (g.agg, decide (g.unack ≠ 0))
  else let w := s.eng.weirs.getD i {}; (w.state.code, w.faultUnack)

/-- Cells of a mask in ascending segment order. -/
def cellList (c : Cells) : List Nat := (List.range 192).filter (fun k => c.getLsbD k)

/-- A set of cells from a list. -/
def cellsOf (l : List Nat) : Cells := l.foldl (fun c k => c ||| BitVec.ofNat 192 (2 ^ k)) 0

/-- The desired states of a bound region's cells after a published frame; requests are entered where they differ from
what is shown and from what waits. -/
def State.bindRegion (s : State) (r : Nat) : State :=
  let kind := s.dispField r 4 1
  if !s.regionOn r || kind = 0 || !s.panelOn then s
  else
    let base := s.dispField r 6 2
    let mask := s.regionMask r
    let want : List (Nat × Nat) := (cellList mask).zipIdx.map (fun x =>
      let u := s.boundUnit kind (base + x.2)
      (x.1, boundState u.1 u.2))
    let bl := cellsOf ((want.filter (fun x => x.2 = 2)).map (fun x => x.1))
    let dk := cellsOf ((want.filter (fun x => x.2 = 1)).map (fun x => x.1))
    let d := s.disp
    let q := d.queue.filter (fun x => decide (x.region = r))
    -- the state each cell is on its way to: shown, running, waiting
    let go (st : Cells × Cells × Cells) (c dk' bl' : Cells) : Cells × Cells × Cells :=
      ((st.1 &&& ~~~c) ||| (dk' &&& c), (st.2.1 &&& ~~~c) ||| (bl' &&& c), st.2.2 &&& ~~~c)
    let st0 : Cells × Cells × Cells := (d.dark, d.blink, d.unknown)
    let st1 := match (s.region r).run with | some w => if w.toggle then st0 else go st0 w.cells w.dark w.blink | none => st0
    let st := q.foldl (fun st x => go st x.cells x.dark x.blink) st1
    let need := mask &&& ~~~bl &&& (st.2.2 ||| st.2.1 ||| (st.1 ^^^ dk))
    let s1 := s.modDisp (fun d => { d with blink := d.blink ||| (bl &&& mask) })
    if need = 0 || s.disp.tempOut then s1
    else
      match s1.disp.enter { region := r, cells := need, dark := dk &&& need, blink := 0, waiting := false } with
      | some (d, _, _) => { s1 with disp := d }
      | none => s1

/-! ## The engine at a tick, and the record -/

/-- The display engine at a tick: waveforms end, groups blink, the cell and the regions start, the pump follows. -/
def State.dispTick (s : State) : State :=
  let s1 := (List.range 8).foldl (fun s r => s.endRegion r) s
  let s3 := (List.range 4).foldl (fun s g => s.blinkStep g) s1.dispSettle
  let s4 := (List.range 8).foldl (fun s r => s.startRegion r) s3.cellTick
  (s4.modDisp (fun d => d.idleTick s.clk.now)).driveLands

/-- A set of cells as 24 bytes. -/
def cellBytes (c : Cells) : List Byte := (List.range 24).map (fun i => c.extractLsb' (8 * i) 8)

/-- Display record (Table 15.7). -/
def State.dispBytes (s : State) : List Byte :=
  let d := s.disp
  let fl := bit (decide (d.pump = .on)) * 128 + bit (match d.pump with | .discharging _ => true | _ => false) * 64 +
    bit d.reenable * 32 + bit d.fault * 16 + bit d.tempOut * 8 + bit d.fallback * 4 + bit (imgForerunner s.cfg.img) * 2 +
    bit d.cellDark
  let waits := d.queue.filter (fun q => q.waiting)
  let reg (r : Nat) : List Byte :=
    let x := d.regions.getD r {}
    let st := match x.run with
      | some _ => 2
      | none => if d.queue.any (fun q => decide (q.region = r)) || x.toggle.isSome then 1 else 0
    le8 st ++ le8 x.lastBand ++ le8 (bit x.reband + 2 * bit x.budgetHeld) ++
      le8 (waits.filter (fun q => decide (q.region = r))).length ++ le16 (s.cfg.roles.get .region r) ++
      le16 (match x.run with | some w => (w.ends - s.clk.now + 999999) / 1000000 | none => 0) ++ le32 x.updates ++ zeros 4
  le8 fl ++ le8 d.band ++ leS16 d.temp ++ le8 waits.length ++
    le8 (packBits (d.regions.map (fun r => r.run.isSome))) ++ le8 (packBits d.halves) ++ le8 d.dropped ++
    ((List.range 8).map reg).flatten ++ cellBytes (d.dark &&& ~~~d.unknown) ++ cellBytes d.blink ++
    cellBytes d.unknown ++ zeros 48

/-! ## Claims (R418) -/

/-- What the display claims in class 0 for the next frame, in units of 0.5 mW: the node-not-live cell and the toggles of group 0,
and the pump that they need (Table 14.5). -/
def State.disp0 (s : State) : Nat :=
  let d := s.disp
  let cell := d.cellRun.isSome || (d.cellPend.isSome && s.panelOn && (d.pumpRuns || decide (d.noStartUntil ≤ s.clk.now)))
  let region (r : Nat) : Nat :=
    if !s.blinkClass0 r then 0
    else
      match (s.region r).run with
      | some w => if w.toggle then 35 + cellCount w.driven else 0
      | none => match s.regionClaim r with | some (true, n) => n | _ => 0
  let x := 36 * bit cell + ((List.range 8).map region).sum
  if x = 0 then 0 else x + 90

/-! ## Commands -/

/-- `DISP_UPDATE` and `DISP_REFRESH` enter a request; once it is queued they complete with the frame that shows it (R65, R422). -/
def State.dispRequest (s : State) (f : Flight) (cells dark blink keep : Cells) : State :=
  if s.disp.tempOut then s.refuse f (.hwFault, 1, [])
  else
    match s.disp.enter { region := f.unit, cells, dark, blink, keep, waiting := false } with
    | none => s.refuse f (.queueFull, 0, [])
    | some (d, p, m) => { s with disp := d }.wait f (.nextFrame (le8 p ++ le8 (bit m) ++ zeros 2))

/-- First byte, of 24 from offset `o`, in which `bad` has a cell. -/
def firstCell (o : Nat) (bad : Cells) : Option Refused :=
  match (List.range 24).find? (fun i => bad.extractLsb' (8 * i) 8 != 0#8) with
  | some i => badField (o + i)
  | none => none

/-- `DISP_UPDATE` (R422). -/
def execDispUpdate (t tag : Nat) (s : State) : Host.Outcome State Fault Refusal :=
  .next (s.withCur t tag 0x0B03 (fun f s =>
    let c (o : Nat) : Cells := BitVec.ofNat 192 ((List.range 24).foldr (fun i a => byteAt f.req (16 + o + i) + 256 * a) 0)
    if !s.regionOn f.unit || s.dispField f.unit 4 1 != 0 then s.refuse f (.badField, 8, [])
    else
      let out := ~~~(s.regionMask f.unit)
      match (firstCell 16 (c 0 &&& out)) <|> (firstCell 64 (c 0 &&& c 24 &&& c 48)) with
      | some r => s.refuse f r
      | none => s.dispRequest f (c 0) (c 24 &&& c 0) (c 48 &&& c 0) 0))

/-- `DISP_REFRESH` (R422): every cell of the region is driven to its shown state, a blinking one to the half that it shows;
unknown cells are left. -/
def execDispRefresh (t tag : Nat) (s : State) : Host.Outcome State Fault Refusal :=
  .next (s.withCur t tag 0x0B04 (fun f s =>
    if !s.regionOn f.unit || s.dispField f.unit 4 1 != 0 then s.refuse f (.badField, 8, [])
    else
      let m := s.regionMask f.unit &&& ~~~s.disp.unknown
      s.dispRequest f m (s.disp.dark &&& m &&& ~~~s.disp.blink) (s.disp.blink &&& m) (s.disp.blink &&& m)))

/-- `DISP_STATUS` (Table 15.10). -/
def execDispStatus (t tag : Nat) (s : State) : Host.Outcome State Fault Refusal :=
  .next (s.withCur t tag 0x0B05 (fun f s => s.ok f (s.dispBytes.take 208)))

/-- `PUMP_START` (R401): something falls due with the pump off. -/
def execPumpStart (t : Nat) (s : State) : Host.Outcome State Fault Refusal :=
  let s1 := s.advance t
  let due := s1.disp.regions.any (fun r => r.toggle.isSome) || s1.disp.cellPend.isSome || (!s1.disp.queue.isEmpty && !s1.disp.tempOut)
  .next (if due then (s1.modDisp (fun d => d.wantPump s1.clk.now)).driveLands else s1)

/-- A rail in mV lies within 10 % of the set point of entry 8 (R401). -/
def State.railOk (s : State) (mv : Nat) : Bool :=
  let p := s.dispField 8 4 2 * 10
  decide (9 * p ≤ 10 * mv) && decide (10 * mv ≤ 11 * p)

/-- `DISP_PUMP_FAULT` (R401): 20 ms after its start a rail is not within 10 % of its set point. -/
def execDispPumpFault (t vpos : Nat) (vneg : Int) (s : State) : Host.Outcome State Fault Refusal :=
  let s1 := s.advance t
  .next (match s1.disp.pump with
    | .starting a =>
      if a + ms 20 ≤ s1.clk.now && !(s1.railOk vpos && decide (vneg ≤ 0) && s1.railOk vneg.natAbs) then
        ((s1.modDisp (fun d => { (d.stopPump s1.clk.now) with
          fault := true, noStartUntil := s1.clk.now + secs 10, reenable := false, cellRun := none
          cellPend := d.cellLeft })).logNode 0x0B03 5 vpos (twos 32 vneg)).driveLands
      else s1
    | _ => s1)

/-- `WAVEFORM_START` (R415): an idle region starts its pending toggle or its oldest request at the tick at hand. -/
def execWaveformStart (t region : Nat) (s : State) : Host.Outcome State Fault Refusal :=
  let s1 := s.advance t
  if region < 8 then .next (if s1.frame.running && decide (s1.frame.nextTick ≤ s1.clk.now) then (s1.startRegion region).driveLands else s1) else .fault .noSuchUnit

/-- `WAVEFORM_END` (R407). -/
def execWaveformEnd (t region : Nat) (s : State) : Host.Outcome State Fault Refusal :=
  if region < 8 then .next ((s.advance t).endRegion region).driveLands else .fault .noSuchUnit

/-- `BLINK_TOGGLE` (R416). -/
def execBlinkToggle (t g : Nat) (s : State) : Host.Outcome State Fault Refusal :=
  if g < 4 then .next ((s.advance t).blinkStep g) else .fault .noSuchUnit

end Sys2Proof.Machine
end

