-- ==== Sys2Proof/Machine/Headgate.lean ====
section
/-!
DEFINITION. The hold-up capacitor and the headgate (chapter 14): measurements, usable energy, the step test, the grants
of a frame (R383), shedding, the power record.
-/

namespace Sys2Proof.Machine

open Sys2Proof

/-! ## Measurements (R376, R381, R382) -/

/-- A rational kept in steps of 2^-20. -/
def q20 (x : Rat) : Rat := (Rat.rne (x * 1048576) : Rat) / 1048576

/-- First-order low-pass over `dt` ns with time constant `tau` ns. -/
def lowPass (dt tau : Nat) (y x : Rat) : Rat := q20 (y + (x - y) * (1 - ratExpNeg (-((dt : Rat) / (tau : Rat)))))

/-- Input power limit in force, mW. -/
def State.inputTop (s : State) : Nat := budget16 s.cfg.img 2 1200 * 10

/-- Dissipation ceiling in force, mW (R381). -/
def State.dissTop (s : State) : Rat := ceilingMw s.pwr.caseT

/-- C in use, 10 µF (R375, R376). -/
def State.cUse (s : State) : Nat :=
  if s.pwr.measured then (match s.pwr.cLedger with | some l => min l s.pwr.cTest | none => s.pwr.cTest)
  else budget16 s.cfg.img 12 1000

/-- ESR in use, mΩ (R376). -/
def State.esrUse (s : State) : Nat := if s.pwr.measured then s.pwr.esrTest else budget16 s.cfg.img 14 200

/-- Usable energy in µJ of R376: c in 10 µF, ESR in mΩ, `HOLD` in mV, charge current in mA. -/
def usableUj (c esr holdMv chargeMa : Nat) : Nat :=
  let vh : Int := (holdMv : Int) * 1000 - chargeMa * esr
  let ve : Int := 6000000 + (esr : Int) * 3000
  if vh ≤ ve then 0 else c * 44 * (vh * vh - ve * ve).toNat / 10000000000000

/-- E_u from the measurements held. -/
def State.euNow (s : State) : Nat :=
  if s.pwr.absent then 0 else usableUj s.cUse s.esrUse s.pwr.holdMv s.pwr.chargeMa

/-- `HOLD` target, mV (Table 14.13). -/
def State.holdTarget (s : State) : Nat := budget16 s.cfg.img 6 1400 * 10

/-- HOLD at `holdMv` has reached its target and not fallen 0.25 V below it since (R372). -/
def State.fullAt (s : State) (holdMv : Nat) : Bool :=
  if s.pwr.full then decide (s.holdTarget < holdMv + 250) else decide (s.holdTarget ≤ holdMv)

/-- The charger runs: it is on, and no dip, test or HOLDUP stops it (R369, R372, R373). -/
def State.chargerRuns (s : State) : Bool :=
  s.pwr.charging && !s.pwr.dip && !s.pwr.testRun && decide (s.pwr.state ≠ .holdup)

/-- HOLD measured at `holdMv`: the charger goes on or off, the 30 s of R377 count while it is on. -/
def State.takeHold (s : State) (holdMv : Nat) : State :=
  let full := s.fullAt holdMv
  { s with pwr := { s.pwr with
    holdMv, full, charging := !full
    chargeFrom := if full then none else (match s.pwr.chargeFrom with | some t => some t | none => some s.clk.now) } }

/-- The energy ledger over `dt` ns while the charger runs: charge energy less the loss in the ESR; it starts anew when charging
does (R375). -/
def State.ledger (s : State) (x : TickIn) (dt : Nat) : State :=
  let on := s.chargerRuns
  let l : Nat × Nat :=
    if on && s.pwr.ledgerOn then
      (s.pwr.ledgerNj + x.chargeMw * dt / 1000 - x.chargeMa * x.chargeMa * s.esrUse * dt / 1000000000, s.pwr.ledgerMv)
    else (0, x.holdMv)
  { s with pwr := { s.pwr with ledgerOn := on, ledgerNj := l.1, ledgerMv := l.2 } }

/-- A step test falls due: the first of a start once HOLD stands at 8.0 V, then every 10 minutes (R373). -/
def State.testDue (s : State) (holdMv : Nat) : Bool :=
  s.pwr.testDue ||
    (!s.pwr.testRun && (match s.pwr.testAt with
      | none => decide (8000 ≤ holdMv)
      | some t => decide (t + secs 600 ≤ s.clk.now)))

/-- Measured values and what follows from them at once. -/
def State.takePower (s0 : State) (x : TickIn) (dt : Nat) : State :=
  let s := (s0.takeHold x.holdMv).ledger x dt
  let f (y v : Rat) : Rat := if s.pwr.filtOn then lowPass dt (secs 1) y v else v
  let s1 := { s with pwr := { s.pwr with
    vshipMv := x.vshipMv, inMw := x.inMw, dissMw := x.dissMw, inMa := x.inMa, chargeMa := x.chargeMa,
    chargeMw := x.chargeMw, caseT := f s.pwr.caseT ((x.caseT : Rat) / 16), dissF := f s.pwr.dissF x.dissMw,
    inF := f s.pwr.inF x.inMw, filtOn := true, testDue := s.testDue x.holdMv } }
  { s1 with pwr := { s1.pwr with euUj := s1.euNow } }

/-- Derating begins or ends (R381). -/
def State.derateStep (s : State) : State :=
  let d := decide (s.dissTop < 6000)
  if d = s.pwr.derating then s
  else ({ s with pwr := { s.pwr with derating := d } }).logNode 0x0A09 4 (twos 32 (Rat.fl (s.pwr.caseT * 16)))
    (Rat.fl s.dissTop).toNat

/-- E_u falls below the reserve, or rises to it, in ARMED and SAFE (R379). -/
def State.reserveStep (s : State) : State :=
  let low := (s.pwr.state = .armed || s.pwr.state = .safe) && decide (s.pwr.euUj < s.reserveUj)
  let s1 := { s with pwr := { s.pwr with belowReserve := low } }
  if low && !s.pwr.belowReserve then s1.logNode 0x0A06 6 (s.pwr.euUj / 1000) (s.reserveUj / 1000) else s1

/-- Bank dissipation passes its filter of 20 s (R147). -/
def State.bankFilters (s : State) (dt : Nat) : State :=
  { s with banks := s.banks.map (fun b => { b with pb := lowPass dt (secs 20) b.pb b.house.dissMw }) }

/-- The power management block at a capture. -/
def State.powerCapture (s : State) (x : TickIn) (dt : Nat) : State :=
  (((s.takePower x dt).derateStep).reserveStep).bankFilters dt

/-! ## Draws and predictions (R382) -/

/-- Priority number of a channel (Table 14.14). -/
def State.prio (s : State) (n : Nat) : Nat :=
  match imgEntry s.cfg.img 0x70 (n + 1) with | some a => s.cfg.img.u8 (a + 1) | none => 8

/-- Output `n` claims in class 2: it follows its source. -/
def State.class2 (s : State) (n : Nat) : Bool :=
  isOut (s.func n) && s.bankUp (n / 8) && decide ((s.out n).drive = .run) && !s.outFaultSafe n

/-- Class-2 outputs in the order of their claims: priority number, then index. -/
def State.claimOrder (s : State) : List Nat :=
  let l := (List.range 64).filter s.class2
  ((List.range 16).map (fun p => l.filter (fun n => decide (s.prio n = p)))).flatten

/-- Declared load in Ω. -/
def State.loadOf (s : State) (n : Nat) : Rat := (budgetField s.cfg.img (n + 1) 2 (if s.func n = 18 then 1000 else 250) : Rat)

/-- Present current of an output, mA. -/
def OutSt.ma (o : OutSt) : Rat := (o.rb : Rat) / 1000

/-- Current it would take at command `c`, mA. -/
def State.maFor (s : State) (n : Nat) (c : F32) : Rat :=
  let o := s.out n
  if o.func = 18 then
    (if decide (o.applied.toRat = 0) then c.toRat * 1000 / s.loadOf n else o.ma * c.toRat / o.applied.toRat)
  else if o.isOpen then o.ma else c.toRat

/-- Power that leaves the module through its lands now, mW. -/
def OutSt.leaves (o : OutSt) : Rat := o.ma * ((o.vA - o.vB : Int) : Rat) / 1000

/-- Power that would leave at command `c`, mW. -/
def State.leavesFor (s : State) (n : Nat) (c : F32) : Rat :=
  let o := s.out n
  let i := s.maFor n c
  if o.func = 18 then i * c.toRat
  else
    let r : Rat := if 1000 ≤ o.rb then ((o.vA - o.vB : Int) : Rat) * 1000 / (o.rb : Rat) else s.loadOf n
    i * i * r / 1000

/-- Input power of a bank supply at `v` × 0.1 V and `i` mA, mW (Table 04.3). -/
def supplyMw (v : Nat) (i : Rat) : Rat := (v : Rat) / 10 * i * 20 / 17

/-- Present draw of output `n`: input power and dissipation, mW. A sink draws nothing from the supply. -/
def State.drawOf (s : State) (n : Nat) : Rat × Rat :=
  let o := s.out n
  if o.func = 17 then (0, (o.h : Rat) / 1000 * o.ma)
  else
    let p := supplyMw (s.bank (n / 8)).setPt o.ma
    (p, p - o.leaves)

/-- Highest demand of classes 0 and 1 in a bank, 0.1 V. -/
def State.baseDemand (s : State) (b : Nat) : Nat :=
  ((List.range 8).map (fun k => let d := s.demandOf (8 * b + k); if d.2 ≤ 1 then d.1 else 0)).foldl max 0

/-- Set point of a bank for given class-2 demands; held by its watchdog or switched off it stays (R88, R91). -/
def State.setFor (s : State) (b : Nat) (dem : List Nat) : Nat :=
  let k := s.bank b
  if !k.supplyOn || k.tripped then k.setPt
  else clampSet (max (s.baseDemand b) (((dem.drop (8 * b)).take 8).foldl max 0))

/-! ## Grants (R383) -/

/-- Where the headgate stands: totals in mW, and by bank the predicted set point and the supply current (mA); by channel the demand
predicted and the demand of its last capture that the set point may serve; the power class 2 takes, and that it holds a claim. -/
structure Hg where
  p : Rat
  d : Rat
  v : List Nat
  cur : List Rat
  dem : List Nat
  set : List Nat
  used2 : Rat
  held2 : Bool
deriving DecidableEq, Repr

/-- A claim of `w` mW more input power and dissipation fits under both ceilings (R383). -/
def State.fits (s : State) (p d : Rat) (wp wd : Rat) : Bool :=
  decide (p + wp ≤ (s.inputTop : Rat)) && decide (d + wd ≤ s.dissTop)

/-- A class-2 claim decided in favour. -/
def State.hgGrant (s : State) (n : Nat) (want : F32) : State :=
  let s1 := s.modOut n (fun o => { o with next := want, budgetHeld := false, heldLogged := false })
  { s1 with pwr := { s1.pwr with shed := s1.pwr.shed.erase n } }

/-- A class-2 claim held: the command stays, a refused raise is marked; `BUDGET_HELD` is logged once per occurrence
(R384). -/
def State.hgHold (s : State) (n : Nat) (want : F32) (raise : Bool) (code mw : Nat) : State :=
  let o := s.out n
  let shed := s.pwr.shed.contains n
  let change := decide (want ≠ o.applied) || shed
  let s1 := if raise then s.modBank (n / 8) (fun k => { k with raiseRefused := true }) else s
  if !change then s1.modOut n (fun o => { o with next := o.applied, budgetHeld := false, heldLogged := false })
  else
    let s2 := s1.modOut n (fun o => { o with next := if shed then 0 else o.applied, budgetHeld := true, heldLogged := true })
    if o.heldLogged then s2 else s2.frameEv 0x0A07 4 1 n (s.cfg.roles.get .chan n) code mw

/-- The claim of output `n`. The set-point raise that its command implies is predicted (R382); the set point itself follows the
demands captured, of which a granted claim admits its own whole (R192, Table 07.6). -/
def State.hgOut (a : Hg × State) (n : Nat) : Hg × State :=
  let (h, s) := a
  let b := n / 8
  let o := s.out n
  let want := s.outWant n
  let dem := modAt h.dem n (fun _ => ({ o with applied := want }).demandFor o.func)
  let v := h.v.getD b 80
  let v1 := s.setFor b dem
  let cur := h.cur.getD b 0
  let cur1 := if o.func = 17 then cur else cur - o.ma + s.maFor n want
  let dp := supplyMw v1 cur1 - supplyMw v cur
  let now := s.drawOf n
  let req : Rat × Rat :=
    if o.func = 17 then (0, (o.h : Rat) / 1000 * s.maFor n want)
    else (now.1 + dp, now.2 + dp - (s.leavesFor n want - o.leaves))
  let fb := (v1 : Rat) / 10 * cur1
  let shrinks := decide (req.1 ≤ now.1) && decide (req.2 ≤ now.2)
  if (s.fits h.p h.d req.1 req.2 && decide (fb ≤ 1500)) || shrinks then
    ({ h with p := h.p + req.1, d := h.d + req.2, v := modAt h.v b (fun _ => v1), cur := modAt h.cur b (fun _ => cur1),
              dem, set := modAt h.set n (fun _ => o.demand), used2 := h.used2 + req.1 }, s.hgGrant n want)
  else
    let why : Nat × Rat :=
      if (s.inputTop : Rat) < h.p + req.1 then (1, h.p + req.1) else if s.dissTop < h.d + req.2 then (2, h.d + req.2) else (3, fb)
    let s1 := s.hgHold n want (decide (v < v1)) why.1 (upMw why.2)
    ({ h with p := h.p + now.1, d := h.d + now.2, used2 := h.used2 + now.1, held2 := h.held2 || (s1.out n).budgetHeld }, s1)

/-- The claim of AO `k`. Its load is fed ahead of the measurement (R370), so that it draws nothing of what the ceilings bound, and
a claim that asks no more than it has is granted (R383). -/
def State.hgAo (a : Hg × State) (k : Nat) : Hg × State :=
  let draw : Rat := 0
  let now : Rat := 0
  let ok := a.2.fits a.1.p a.1.d draw draw || decide (draw ≤ now)
  (a.1, a.2.modAo k (fun x => { x with granted := ok, budgetHeld := !ok }))

/-- The class-2 claims in their order: outputs by channel, then AOs (64 and above) with their own priority (R383, R450, R453). -/
def State.claims2 (s : State) : List Nat :=
  let l := (List.range 64).filter s.class2
  let m := (List.range 8).filter (fun k => s.aoOn k && decide (s.aoClass k = 2))
  ((List.range 16).map (fun p => l.filter (fun n => decide (s.prio n = p)) ++
    (m.filter (fun k => decide (s.aoField k 3 1 = p))).map (fun k => 64 + k))).flatten

/-- One claim of class 2. -/
def State.hgClaim (a : Hg × State) (n : Nat) : Hg × State := if n < 64 then State.hgOut a n else State.hgAo a (n - 64)

/-- Where class 3 stands: totals in mW, whether the pump is counted, the power taken, a claim held. -/
structure Hg3 where
  p : Rat
  d : Rat
  pump : Bool
  used : Rat
  held : Bool
deriving DecidableEq, Repr

/-- A class-3 draw of `w` mW is counted. -/
def Hg3.add (h : Hg3) (w : Rat) : Hg3 := { h with p := h.p + w, d := h.d + w, used := h.used + w }

/-- The class-3 claim of region `r`: a waveform that runs, else what the region would start, with the pump where it does not run
yet (R415, R418). A toggle held is dropped and counted, a request held waits in its place (R416). -/
def State.hgRegion (a : Hg3 × State) (r : Nat) : Hg3 × State :=
  let (h, s) := a
  let cls0 := s.blinkClass0 r
  match (s.region r).run with
  | some w => (if w.toggle && cls0 then h else h.add (((35 + cellCount w.driven : Nat) : Rat) / 2), s)
  | none =>
    match s.regionClaim r with
    | none => (h, s.modRegion r (fun y => { y with granted := none, budgetHeld := false }))
    | some (tog, n) =>
      let w : Rat := ((n + 90 * bit (!h.pump) : Nat) : Rat) / 2
      if tog && cls0 then (h, s.modRegion r (fun y => { y with granted := none, budgetHeld := false }))
      else if s.fits h.p h.d w w then
        ({ h.add w with pump := true }, s.modRegion r (fun y => { y with granted := some tog, budgetHeld := false }))
      else if tog then
        ({ h with held := true }, (s.modRegion r (fun y => { y with toggle := none, granted := none, budgetHeld := false })).modDisp
          (fun d => { d with dropped := satAdd 255 d.dropped 1 }))
      else ({ h with held := true }, s.modRegion r (fun y => { y with granted := none, budgetHeld := true }))

/-- Largest charge power in 10 mW steps that the request, the input power left and the dissipation left allow; its input
is 1/0.9 of it (R372). -/
def chargePart (ask : Nat) (p d : Rat) : Nat := min ask (min (Rat.fl (p * 9 / 10)).toNat (Rat.fl (d * 9)).toNat) / 10 * 10

/-- The charger is granted `mw`: it is set to the current that this power gives at HOLD, at most 250 mA (R372). -/
def PowerSt.setCharge (p : PowerSt) (mw : Nat) : PowerSt :=
  { p with chargeGrant := mw
           chargeSet := if mw = 0 then 0 else if p.holdMv = 0 then 250 else min 250 (mw * 1000 / p.holdMv) }

/-- A churn is under way: every NVM operation but a read of the flash (R373, Table 14.4). -/
def State.churnRuns (s : State) : Bool :=
  match s.nvm.running with | some o => decide (o.kind ≠ .flashRead) | none => false

/-- `HEADGATE_OVER` is set and logged while classes 0 and 1 exceed a ceiling (R385). -/
def State.overStep14 (s : State) (p d : Rat) : State :=
  let okP := decide (p ≤ (s.inputTop : Rat))
  let bad := !okP || decide (s.dissTop < d)
  let s1 := { s with pwr := { s.pwr with headgateOver := bad, overCeil := if !bad then 0 else if okP then 2 else 1 } }
  if bad && !s.pwr.headgateOver then
    s1.frameEv 0x0A0A 6 0 s.bus.nodeId 0xFFFF (if okP then 2 else 1) (upMw (if okP then d else p))
  else s1

/-- A power as a whole number of mW. -/
def downMw (q : Rat) : Nat := (Rat.fl q).toNat

/-- Power of a flash write in mW: 25 mJ in the 60 ms of a sector (Table 14.4; log entry 154). -/
def flashMw : Rat := 1250 / 3

/-- A flash write is under way. -/
def State.flashRuns (s : State) : Bool := match s.nvm.running with | some o => o.kind.flashWrite | none => false

/-- A flash write waits and lacks its grant alone. -/
def State.flashWaits (s : State) : Bool :=
  s.nvm.waiting.any (fun o => o.kind.flashWrite && s.energyOk o.kind.gate)

/-- The headgate starts on a frame: what it decides is kept as it stands, for a slip (R50); the outputs shed that claim no more
are forgotten; each bank's highest demand is taken. -/
def State.headgateOpen (s0 : State) : State :=
  let p := s0.pwr
  let order := s0.claimOrder
  { s0 with
    pwr := { p with was := (p.chargeGrant, p.testOk, p.flashOk, p.shed), shed := p.shed.filter (fun n => order.contains n) }
    outs := s0.outs.map (fun (o : OutSt) => ({ o with wasHeld := o.budgetHeld } : OutSt))
    aos := s0.aos.map (fun (a : AoSt) => ({ a with granted := true, budgetHeld := false } : AoSt))
    disp := { s0.disp with droppedWas := s0.disp.dropped, regions := s0.disp.regions.map (fun (r : RegionSt) =>
      ({ r with was := (r.budgetHeld, r.granted, r.toggle) } : RegionSt)) }
    banks := (List.range 8).map (fun b =>
      let d := s0.bankDemand b; { s0.bank b with raiseRefused := false, demand := 10 * d.1, demandClass := d.2 }) }

/-- Classes 3 to 5 after class 2 has left `p` and `d`: display, charger, flash write, step test; `inp` is the input power that
classes 0 to 2 have been granted. -/
def State.headgateLow (s : State) (p d : Rat) (inp : List Nat) (held2 : Bool) : State :=
  let pump0 := decide (s.disp0 ≠ 0)
  let h0 : Hg3 := { p, d, pump := pump0 || s.disp.pumpRuns, used := 0, held := false }
  let r := (List.range 8).foldl State.hgRegion (if !pump0 && s.disp.pumpRuns then h0.add 45 else h0, s)
  let h := r.1
  let s1 := r.2
  let ask := if s1.chargerRuns then budget16 s1.cfg.img 8 500 else 0
  let c := chargePart ask ((s1.inputTop : Rat) - h.p) (s1.dissTop - h.d)
  let p4 := h.p + (c : Rat) * 10 / 9
  let d4 := h.d + (c : Rat) / 9
  let flash := s1.flashRuns || s1.flashWaits
  let flashOk := s1.flashRuns || (s1.flashWaits && s1.fits p4 d4 flashMw flashMw)
  let f : Rat := if flashOk then flashMw else 0
  let want5 := s1.pwr.testDue && decide (8000 ≤ s1.pwr.holdMv) && !s1.churnRuns && decide (s1.pwr.state ≠ .holdup) && !s1.pwr.testRun
  let testOk := want5 && s1.fits (p4 + f) (d4 + f) 0 ((s1.pwr.holdMv : Rat) / 5)
  let q : PowerSt := ({ s1.pwr with
    testOk, flashOk
    granted := inp ++ [downMw h.used, downMw ((c : Rat) * 10 / 9), downMw f]
    heldClasses := 4 * bit held2 + 8 * bit h.held + 32 * bit ((flash && !flashOk) || (want5 && !testOk)) } : PowerSt)
  { s1 with pwr := q.setCharge c }

/-- Step 6 of Table 01.3: the grants for the next frame (R383). The fixed draw is the measured total less the present draws of the
claimants (R382): the class-2 outputs, the display, the charger, a flash write and a step test. -/
def State.headgate (s0 : State) : State :=
  let s := s0.headgateOpen
  let order := s.claimOrder
  let draws := order.map s.drawOf
  let disp : Rat := (s.disp.claim2 : Rat) / 2
  let disp0 : Rat := (s.disp0 : Rat) / 2
  let charge : Rat := (s.pwr.chargeMw : Rat)
  let flash : Rat := if s.flashRuns then flashMw else 0
  let test : Rat := if s.pwr.testRun then (s.pwr.holdMv : Rat) / 5 else 0
  let p0 := (s.pwr.inMw : Rat) - ratSum (draws.map Prod.fst) - disp - charge * 10 / 9 - flash
  let d0 := (s.pwr.dissMw : Rat) - ratSum (draws.map Prod.snd) - disp - charge / 9 - flash - test
  let cur : List Rat := s.banks.map (fun k => (k.house.outI : Rat) / 20)
  let top (n : Nat) : Nat := max (s.bank (n / 8)).setPt (clampSet (s.baseDemand (n / 8)))
  let dem := (List.range 64).map (fun n => if order.contains n then min (s.out n).demand (top n) else 0)
  let v1 := (List.range 8).map (fun b => s.setFor b dem)
  let raise := ratSum ((List.range 8).map (fun b =>
    supplyMw (v1.getD b 80) (cur.getD b 0) - supplyMw (s.bank b).setPt (cur.getD b 0)))
  let h0 : Hg :=
    { p := p0 + raise + disp0, d := d0 + raise + disp0, v := v1, cur, dem, set := dem, used2 := 0, held2 := false }
  let r := s.claims2.foldl State.hgClaim (h0, s.overStep14 h0.p h0.d)
  let h := r.1
  let s2 := { r.2 with banks := (List.range 8).map (fun b => { r.2.bank b with nextSet := r.2.setFor b h.set }) }
  let others := (List.range 64).filter (fun n => isOut (s.func n) && !order.contains n)
  let g0 := ratSum (others.map (fun n => (s.drawOf n).1))
  let g1 := ratSum ((List.range 8).map (fun b => supplyMw (s.bank b).setPt (cur.getD b 0))) -
    ratSum (draws.map Prod.fst) - g0 + raise
  s2.headgateLow h.p h.d [downMw (g0 + disp0), downMw g1, downMw h.used2] h.held2

/-- What a slipped frame had granted is undone (R50): the flags stand as before it, and what it logged is free to be
logged again. -/
def State.headgateUndo (s : State) : State :=
  let again (code n : Nat) : Bool := s.frameRecs.any (fun r => r.code = code && (code != 0x0A07 || r.idx = n))
  let w := s.pwr.was
  let p : PowerSt := { s.pwr with headgateOver := s.pwr.headgateOver && !again 0x0A0A 0, testOk := w.2.1, flashOk := w.2.2.1,
                                  shed := w.2.2.2 }
  { s with
    outs := s.outs.zipIdx.map (fun p =>
      { p.1 with budgetHeld := p.1.wasHeld, heldLogged := p.1.heldLogged && !again 0x0A07 p.2,
                 target := p.1.was.1, waiting := p.1.was.2.1, srcFault := p.1.was.2.2 })
    banks := s.banks.map (fun (k : BankSt) => ({ k with nextSet := k.setPt } : BankSt))
    disp := { s.disp with dropped := s.disp.droppedWas, regions := s.disp.regions.map (fun (r : RegionSt) =>
      ({ r with budgetHeld := r.was.1, granted := r.was.2.1, toggle := r.toggle <|> r.was.2.2 } : RegionSt)) }
    pwr := p.setCharge w.1 }

/-! ## Shedding (R385) -/

/-- The output to shed next: highest priority number, then highest index, of those not shed. -/
def State.shedNext (s : State) : Option Nat :=
  (s.claimOrder.filter (fun n => !s.pwr.shed.contains n)).foldl
    (fun best n =>
      match best with
      | none => some n
      | some m => if s.prio m < s.prio n || (s.prio m = s.prio n && m < n) then some n else best) none

/-- One output is shed: it goes to zero at the next tick. The ceiling named is the one whose filtered draw lies above it, else the
one that classes 0 and 1 alone exceed. -/
def State.outputShed (s : State) : State :=
  let overD := decide (s.dissTop < s.pwr.dissF)
  let overP := decide ((s.inputTop : Rat) < s.pwr.inF)
  let wait := match s.pwr.lastShed with | some t => decide (s.clk.now < t + ms 100) | none => false
  if !(overD || overP || s.pwr.headgateOver) || wait then s
  else
    match s.shedNext with
    | none => s
    | some n =>
      let code := if overD then 2 else if overP then 1 else s.pwr.overCeil
      let s1 := s.modOut n (fun o => { o with next := 0, budgetHeld := true, heldLogged := true })
      ({ s1 with pwr := { s1.pwr with shed := s1.pwr.shed ++ [n], lastShed := some s.clk.now } }).logEv 0x0A08 5 1 n
        (s.cfg.roles.get .chan n) code (downMw (if code = 1 then s.pwr.inF else s.pwr.dissF))

/-- `OUTPUT_SHED` (R385). -/
def execOutputShed (t : Nat) (s : State) : Host.Outcome State Fault Refusal := .next ((s.advance t).outputShed)

/-! ## The capacitor (R373 to R377) and the input limit (R370) -/

/-- A step test may start: it is due and no condition of R373 stands against it; where frames run the headgate has granted it. -/
def State.testStarts (s : State) : Bool :=
  (if s.frame.running then s.pwr.testDue && s.pwr.testOk else s.testDue s.pwr.holdMv) && !s.churnRuns &&
    decide (s.pwr.state ≠ .holdup) && decide (8000 ≤ s.pwr.holdMv) && !s.pwr.testRun

/-- `STEP_TEST` (R373): the test that is due starts; the charger is off while it runs. -/
def execStepTest (t : Nat) (s : State) : Host.Outcome State Fault Refusal :=
  let s1 := s.advance t
  .next (if s1.testStarts then
    { s1 with pwr := { s1.pwr with testDue := false, testOk := false, testRun := true, testAt := some s1.clk.now } }
  else s1)

/-- C in 10 µF and ESR in mΩ of the four means of Table 14.3, in µV, to the nearest step. -/
def testResult (v0 v1 v2 v3 : Nat) : Nat × Nat :=
  let dv : Int := (v1 : Int) - v2
  let e := divRound (((v0 : Int) - v1) + ((v3 : Int) - v2)) 400
  (if dv ≤ 0 then 65535 else min 65535 (divRound 97600000 dv.toNat).toNat, min 65535 e.toNat)

/-- The capacitor is judged on C and ESR (R377). -/
def State.judgeCap (s : State) (c esr : Nat) : State :=
  let bad := decide (c < budget16 s.cfg.img 12 1000) || decide (budget16 s.cfg.img 14 200 < esr)
  let gone := decide (c < 100)
  let s1 := { s with pwr := { s.pwr with degraded := bad, absent := gone } }
  let s2 := if bad && !s.pwr.degraded then s1.logNode 0x0A04 5 c esr else s1
  if gone && !s.pwr.absent then s2.logNode 0x0A05 6 c 0 else s2

/-- A step test completes, and the charger goes on (Table 14.3). Where no capture measures HOLD its last mean is the voltage held. -/
def State.holdMeasured (s : State) (v0 v1 v2 v3 : Nat) : State :=
  if !s.pwr.testRun then s
  else
    let r := testResult v0 v1 v2 v3
    let p1 := { s.pwr with testRun := false, measured := true, cTest := r.1, esrTest := r.2, cLedger := none, testTs := s.nowTs }
    let s1 := ({ s with pwr := p1 }).logNode 0x0A03 2 r.1 r.2
    let s2 := (if s.frame.running then s1 else s1.takeHold (v3 / 1000)).judgeCap r.1 r.2
    let s3 := { s2 with pwr := { s2.pwr with euUj := s2.euNow } }
    s3.endWaits (fun k => if k = .holdTest then some (.ok, 0, le16 r.1 ++ le16 r.2 ++ le32 (s3.pwr.euUj / 1000)) else none)

/-- `HOLD_MEASURED` (R374). -/
def execHoldMeasured (t v0 v1 v2 v3 : Nat) (s : State) : Host.Outcome State Fault Refusal :=
  .next ((s.advance t).holdMeasured v0 v1 v2 v3)

/-- A charge step of 1.0 V ends: C by the ledger is compared with the tested C (R375). -/
def State.ledgerStep (s : State) : State :=
  let p := s.pwr
  if !p.ledgerOn || p.holdMv < p.ledgerMv + 1000 then s
  else
    let cl := 200 * p.ledgerNj / (p.holdMv * p.holdMv - p.ledgerMv * p.ledgerMv)
    let far := p.measured && (decide (5 * cl < 4 * p.cTest) || decide (6 * p.cTest < 5 * cl))
    let s1 := { s with pwr := { p with ledgerNj := 0, ledgerMv := p.holdMv, testDue := p.testDue || far,
                                       cLedger := if far then some cl else p.cLedger } }
    { s1 with pwr := { s1.pwr with euUj := s1.euNow } }

/-- `LEDGER_STEP` (R375). -/
def execLedgerStep (t : Nat) (s : State) : Host.Outcome State Fault Refusal := .next ((s.advance t).ledgerStep)

/-- `HOLD_ABSENT` (R377): 30 s of charging have not brought HOLD to 8.0 V. -/
def execHoldAbsent (t : Nat) (s : State) : Host.Outcome State Fault Refusal :=
  let s1 := s.advance t
  .next (match s1.pwr.chargeFrom with
    | some c =>
      if c + secs 30 ≤ s1.clk.now && decide (s1.pwr.holdMv < 8000) && !s1.pwr.absent then
        ({ s1 with pwr := { s1.pwr with absent := true, euUj := 0 } }).logNode 0x0A05 6 s1.cUse 0
      else s1
    | none => s1)

/-- The input limit acts on a peak of `ma` (R370): it takes the excess from the charger first, and draws the rest from HOLD. -/
def State.peakLimit (s : State) (ma : Nat) : State :=
  let excess := (ma - budget16 s.cfg.img 4 800) * s.pwr.vshipMv / 1000
  let now := s.pwr.chargeGrant
  let cut := min now ((excess * 9 + 9) / 10)
  let p : PowerSt := { s.pwr with inputLimited := true, peakCut := s.pwr.peakCut + cut, peakHold := excess - cut * 10 / 9 }
  { s with pwr := p.setCharge (now - cut) }

/-- `INPUT_PEAK_LIMIT` (R370): logged at most once a minute. -/
def execInputPeakLimit (t ma : Nat) (s : State) : Host.Outcome State Fault Refusal :=
  let s1 := s.advance t
  let quiet := match s1.pwr.lastPeak with | some x => decide (s1.clk.now < x + secs 60) | none => false
  let s2 := s1.peakLimit ma
  .next (if ma < budget16 s1.cfg.img 4 800 then s1
    else if quiet then s2
    else ({ s2 with pwr := { s2.pwr with lastPeak := some s1.clk.now } }).logNode 0x0A0B 4 ma 0)

/-- `PWR_HOLD_TEST` (R397). -/
def execPwrHoldTest (t tag : Nat) (s : State) : Host.Outcome State Fault Refusal :=
  .next (s.withCur t tag 0x0A03 (fun f s =>
    if s.pwr.testRun then
      s.refuse f (.busy, (match s.host.waits.find? (fun w => w.kind = .holdTest) with
        | some w => w.fl.origin.code | none => 0x41), [])
    else if s.pwr.holdMv < 8000 then s.refuse f (.notPermitted, 1, [])
    else ({ s with pwr := { s.pwr with testDue := true } }).wait f .holdTest))

/-! ## The power record (R394) -/

/-- Power flags (Table 14.16). -/
def State.powerFlags (s : State) : Nat :=
  let p := s.pwr
  packBits [p.headgateOver, p.inputLimited, p.derating, s.chargerRuns, p.measured, p.belowReserve, p.degraded, p.absent]

/-- Bank entry of the power record (Table 14.17). -/
def BankSt.powerBytes (k : BankSt) : List Byte :=
  le16 (if k.supplyOn then k.setPt * 10 else 0) ++ le16 k.house.outV ++ le16 (k.house.outV * k.house.outI / 2000) ++
    le16 k.house.dissMw ++ leS16 k.house.temp ++
    le8 (packBits [false, false, k.raiseRefused, k.limit, k.reenable, k.discharging, k.supplyOn, k.powered]) ++
    le8 k.demandClass ++ le16 k.demand ++ le16 0

/-- A count limited to a field of 16 bits. -/
def cap16 (n : Nat) : List Byte := le16 (min 65535 n)

/-- The power record, 256 bytes (Table 14.15). -/
def State.powerBytes (s : State) : List Byte :=
  let p := s.pwr
  let held := (s.outs.filter (fun o => o.budgetHeld)).length
  cap16 p.vshipMv ++ cap16 p.holdMv ++ cap16 p.inMw ++ cap16 p.dissMw ++ cap16 s.inputTop ++ cap16 (downMw s.dissTop) ++
    leS16 (Rat.fl (p.caseT * 16)) ++ le8 s.powerFlags ++ le8 p.heldClasses ++ cap16 s.cUse ++ cap16 s.esrUse ++
    le32 (p.euUj / 1000) ++ le32 (s.reserveUj / 1000) ++ le32 ((p.euUj - s.reserveUj) / 1000) ++ cap16 p.chargeGrant ++
    cap16 p.inMa ++ le8 held ++ le8 p.shed.length ++ le8 p.cause ++ le8 0 ++ le64 p.testTs ++
    (p.granted.map cap16).flatten ++ zeros 4 ++ (s.banks.map BankSt.powerBytes).flatten ++ zeros 64

end Sys2Proof.Machine
end

