-- ==== Sys2Proof/Machine/Calendar.lean ====
section
/-!
DEFINITION. The backup domain (chapter 12): calendar registers, sets and summer-time commands, trim, wake, event inputs.
-/

namespace Sys2Proof.Machine

open Sys2Proof

/-! ## Gregorian calendar (R338) -/

/-- Leap years (R338). -/
def leap (y : Nat) : Bool := (y % 4 = 0 && y % 100 != 0) || y % 400 = 0

/-- Length of a month. -/
def monthLen (y m : Nat) : Nat :=
  match m with
  | 2 => if leap y then 29 else 28
  | 4 => 30 | 6 => 30 | 9 => 30 | 11 => 30
  | _ => 31

/-- Days from 2000-01-01 to January 1 of year `y`. -/
def daysToYear (y : Nat) : Nat :=
  let k := y - 2000
  365 * k + (k + 3) / 4 - (k + 99) / 100 + (k + 399) / 400

/-- Days from January 1 to the first of month `m`. -/
def daysToMonth (y m : Nat) : Nat := ((List.range (m - 1)).map (fun i => monthLen y (i + 1))).sum

/-- Seconds from 2000-01-01T00:00:00 to a date and time. -/
def secondsOf (y mo d h mi se : Nat) : Nat :=
  (daysToYear y + daysToMonth y mo + (d - 1)) * 86400 + h * 3600 + mi * 60 + se

/-- Year that holds day `n`, counted from 2000-01-01. -/
def yearOf (n : Nat) : Nat :=
  let c := 2000 + n / 366
  -- at most two years short within 400 years
  if daysToYear (c + 2) ≤ n then c + 2 else if daysToYear (c + 1) ≤ n then c + 1 else c

/-- Month (1–12) and day (1–31) of day `n` of year `y`, searched from month `m`. -/
def monthDay (y : Nat) : Nat → Nat → Nat → Nat × Nat
  | 0, m, n => (m, n + 1)
  | k + 1, m, n => if n < monthLen y m then (m, n + 1) else monthDay y k (m + 1) (n - monthLen y m)

/-- Two decimal digits as BCD. -/
def bcd (n : Nat) : Nat := n / 10 % 10 * 16 + n % 10

/-- The local time of the calendar, in seconds from 2000-01-01T00:00:00 (R337). -/
def BkpSt.localSec (b : BkpSt) : Nat := (((b.cyc / 32768 : Nat) : Int) + b.offset).toNat

/-- UTC count and microsecond of the sub-second count, rounded down, in µs. -/
def BkpSt.utcUs (b : BkpSt) : Nat := b.cyc / 32768 * 1000000 + b.cyc % 32768 * 1000000 / 32768

/-- The eight BCD registers RTC_SEC to RTC_CENT for a local time (Table 12.3). -/
def bcdRegs (l : Nat) (dst : Bool) : List Nat :=
  let days := l / 86400
  let y := yearOf days
  let md := monthDay y 11 1 (days - daysToYear y)
  let t := l % 86400
  [bcd (t % 60), bcd (t / 60 % 60), bcd (t / 3600) + (if dst then 128 else 0), (days + 5) % 7 + 1, bcd md.2, bcd md.1,
   bcd (y % 100), bcd (y / 100)]

/-- The snapshot of R335: the whole calendar from one BKP cycle. -/
def BkpSt.snapshot (b : BkpSt) : List Nat :=
  bcdRegs b.localSec b.dst ++ [b.cyc % 32768, twos 8 b.zone]

/-- RTC_STAT (Table 12.5). -/
def BkpSt.stat (b : BkpSt) : Nat :=
  b.errKind * 8192 + bit b.evtWake * 2048 + bit b.wake * 1024 + bit b.pendSet.isSome * 512 + bit b.pendDst.isSome * 256 +
    bit b.timeValid * 128 + bit b.range * 64 + bit b.dateErr * 32 + bit b.oscFail * 16 + bit b.vbatLow * 8 +
    bit b.lost * 4 + bit b.onRc * 2

/-- EVT_STATe (Table 12.11). -/
def EvtSt.stat (e : EvtSt) : Nat := bit e.level * 65536 + e.lost * 256 + e.stack.length

/-! ## Sets and commands -/

/-- The second boundary at which a command written now applies, counted by `clock`: the next one, or the one after it when the
next is less than two BKP cycles away (R336). -/
def BkpSt.nextBoundary (b : BkpSt) : Nat :=
  let left := 32768 - b.clock % 32768
  b.clock / 32768 + (if left < 2 ∨ (left = 2 ∧ 0 < b.frac) then 2 else 1)

/-- A refusal: DATE_ERR and ERR_KIND are set, nothing else changes (R339). -/
def BkpSt.refuse (b : BkpSt) (k : Nat) : BkpSt := { b with dateErr := true, errKind := k }

/-- Nibbles of a BCD byte are digits. -/
def bcdOk (n : Nat) : Bool := n % 16 < 10 && n / 16 < 10

/-- Value of a BCD byte. -/
def bcdVal (n : Nat) : Nat := n / 16 * 10 + n % 16

/-- A set given as a UTC count, a zone and summer time, checked under Table 12.6. -/
def checkUtc (utc : Int) (zone : Int) (dst : Bool) : Option Nat :=
  let loc := utc + zone * 900 + (if dst then 3600 else 0)
  if zone < -48 ∨ 56 < zone then some 4
  else if utc < 0 ∨ (calendarEnd : Int) < loc ∨ loc < 0 then some 3
  else none

/-- Validate the staging registers (Table 12.6): the refusal, or UTC count, zone and summer time. -/
def checkStage (r : List Nat) : Nat ⊕ (Nat × Int × Bool) :=
  let g (i : Nat) := r.getD i 0
  let hour := g 2 % 128
  let dst := decide (128 ≤ g 2)
  let zone := signed 8 (g 9)
  let y := bcdVal (g 7) * 100 + bcdVal (g 6)
  let mo := bcdVal (g 5)
  let d := bcdVal (g 4)
  if !(bcdOk (g 0) && bcdOk (g 1) && bcdOk hour && bcdOk (g 4) && bcdOk (g 5) && bcdOk (g 6) && bcdOk (g 7)) then
    .inl 1
  else if 59 < bcdVal (g 0) || 59 < bcdVal (g 1) || 23 < bcdVal hour || mo = 0 || 12 < mo || d = 0 then .inl 1
  else if bcdVal (g 7) < 20 || 23 < bcdVal (g 7) then
    (if monthLen y mo < d then .inl 1 else .inl 3)
  else if monthLen y mo < d then .inl 1
  else
    let l : Int := (secondsOf y mo d (bcdVal hour) (bcdVal (g 1)) (bcdVal (g 0)) : Nat)
    let utc := l - zone * 900 - (if dst then 3600 else 0)
    match checkUtc utc zone dst with
    | some k => .inl k
    | none => .inr (utc.toNat, zone, dst)

/-- A pending set replaces an earlier one and cancels a pending summer-time command (R336). -/
def BkpSt.setPending (b : BkpSt) (utc : Nat) (zone : Int) (dst : Bool) : BkpSt :=
  { b with pendSet := some { utc, zone, dst, due := b.nextBoundary }, pendDst := none }

/-- SET written in RTC_CTRL (R336, R339). -/
def BkpSt.writeSet (b : BkpSt) : BkpSt :=
  match checkStage b.stage with
  | .inl k => b.refuse k
  | .inr (u, z, d) => b.setPending u z d

/-- Refusal of a summer-time command, if any (Table 12.6, rows 2, 3 and 5). -/
def BkpSt.dstFault (b : BkpSt) (fwd : Bool) : Option Nat :=
  let cur := match b.pendDst with | some p => p.fwd | none => b.dst
  let l : Int := (b.nextBoundary : Int) + b.offset
  if b.pendSet.isSome then some 5
  else if cur = fwd then some 2
  else if b.pendDst.isSome then some 2
  else if fwd && decide ((calendarEnd : Int) < l + 3600) then some 3
  else if !fwd && decide (l < 3600) then some 3
  else none

/-- DST_FWD or DST_BACK written (R340). -/
def BkpSt.writeDst (b : BkpSt) (fwd : Bool) (origin : Nat) : BkpSt :=
  match b.dstFault fwd with
  | some k => b.refuse k
  | none => { b with pendDst := some { fwd, due := b.nextBoundary, origin } }

/-- CANCEL removes a pending set and a pending summer-time command (R336). -/
def BkpSt.cancel (b : BkpSt) : BkpSt := { b with pendSet := none, pendDst := none }

/-- RTC_TRIM takes a value, clamped to ±20,000 (Table 12.8). -/
def BkpSt.setTrim (b : BkpSt) (v : Int) : BkpSt := { b with trim := clampI (-20000) 20000 v }

/-- 1/64 s of the `BKP` clock in 10^-17 s. -/
def wakeUnit : Nat := 1562500000000000

/-- The periodic wake counts again from INTERVAL (R345); an interval of 0, or WAKE_EN clear, stops it. -/
def BkpSt.restartWake (b : BkpSt) : BkpSt :=
  { b with wakeDue := if b.wakeEn && b.interval != 0 then some (b.age + b.interval * wakeUnit) else none }

/-- RTC_WAKE takes a word (Table 12.8): the count restarts when WAKE_EN becomes set or INTERVAL is written (R345). -/
def BkpSt.setWake (b : BkpSt) (en : Bool) (interval : Nat) : BkpSt :=
  ({ b with wakeEn := en, interval := interval % 4194304 }).restartWake

/-! ## Byte writes of the host (R57, R334) -/

/-- A byte replaced in a register value. -/
def setByte (w k v : Nat) : Nat := w - w / 2 ^ (8 * k) % 256 * 2 ^ (8 * k) + v % 256 * 2 ^ (8 * k)

/-- Bits of each staging register byte that are fields (Table 12.3); weekday and sub-second places read zero. -/
def stageMask : List Nat := [0x7F, 0x7F, 0xBF, 0, 0x3F, 0x1F, 0xFF, 0xFF, 0, 0xFF]

/-- Bits of EVT_CFGe that are fields (Table 12.10). -/
def evtCfgMask : Nat := 0x7000 + 0x100 + 0x70 + 3

/-- A host write of byte `v` at backup-domain address `a` (0x1000 to 0x10FF): it takes effect by itself (R57). `org` is
the origin code of the writer. -/
def BkpSt.writeByte (b : BkpSt) (a v org : Nat) : BkpSt :=
  let o := a - 0x1000
  if 0x40 ≤ o ∧ o < 0x68 then
    if o % 4 = 0 then { b with stage := modAt b.stage ((o - 0x40) / 4) (fun _ => v &&& stageMask.getD ((o - 0x40) / 4) 0) }
    else b
  else if o = 0x80 then
    -- CANCEL acts first, then the set, then the summer-time commands
    let b0 := if tst v 4 then b.cancel else b
    let b1 := if tst v 0 then b0.writeSet else b0
    let b2 := if tst v 2 then b1.writeDst true org else b1
    if tst v 3 then b2.writeDst false org else b2
  else if o = 0x81 then { b with autoTrim := tst v 0 }
  else if o = 0x84 then
    { b with dateErr := b.dateErr && !tst v 5, oscFail := b.oscFail && !tst v 4, lost := b.lost && !tst v 2 }
  else if o = 0x85 then { b with evtWake := b.evtWake && !tst v 3, wake := b.wake && !tst v 2 }
  else if o = 0x88 ∨ o = 0x89 then b.setTrim (signed 16 (setByte (twos 16 b.trim) (o - 0x88) v))
  else if 0x8C ≤ o ∧ o < 0x90 then
    let w := setByte (b.interval + bit b.wakeEn * 2147483648) (o - 0x8C) v
    let en := decide (2147483648 ≤ w)
    let b1 := { b with wakeEn := en, interval := w % 4194304 }
    -- restarts when WAKE_EN is set, or when a byte of INTERVAL is written
    if o = 0x8F ∧ en = b.wakeEn then b1 else b1.restartWake
  else if 0x90 ≤ o ∧ o < 0xA0 then
    let put (e : EvtSt) : EvtSt := { e with cfg := BitVec.ofNat 32 (setByte e.cfg.toNat (o % 4) v &&& evtCfgMask) }
    { b with evts := modAt b.evts ((o - 0x90) / 4) put }
  else b

/-- Word of the backup-domain registers at `a`, as the host reads it (Table 12.2). -/
def BkpSt.readWord (b : BkpSt) (a : Nat) : Nat :=
  let o := a - 0x1000
  if o < 0x28 then b.snap.getD (o / 4) 0
  else if 0x40 ≤ o ∧ o < 0x68 then b.stage.getD ((o - 0x40) / 4) 0
  else if o = 0x80 then bit b.autoTrim * 256
  else if o = 0x84 then b.stat
  else if o = 0x88 then twos 16 b.trim
  else if o = 0x8C then b.interval + bit b.wakeEn * 2147483648
  else if 0x90 ≤ o ∧ o < 0xA0 then ((b.evts.getD ((o - 0x90) / 4) {}).cfg).toNat
  else if 0xA0 ≤ o ∧ o < 0xB0 then (b.evts.getD ((o - 0xA0) / 4) {}).stat
  else 0

end Sys2Proof.Machine
end

