-- ==== Sys2Proof/Machine/HostPort.lean ====
section
/-!
DEFINITION. The host port: registers, slots, doorbells, holds, the watchdog kick, and the address map as it reads
(R54 to R64, R33 to R41).
-/

namespace Sys2Proof.Machine

open Sys2Proof

/-! ## Registers -/

/-- The host port answers: VIO present, the node powered and not held in reset, its core rails not shed, and 5 ms since the
last reset ended (R59, R467, Tables 17.6, 18.8). -/
def State.portUp (s : State) : Bool :=
  s.host.up && !s.rst.held && decide (s.pwr.state ≠ .off) && decide (s.pwr.state ≠ .backup) &&
    decide (s.pwr.holdup ≠ .shed) && decide (s.rst.endAt + ms 5 ≤ s.clk.now)

/-- SPI_ERR is set (R56). -/
def State.spiErr (s : State) : State := s.cause 9

/-- Host watchdog timeout in force, ms (Table 03.26). -/
def State.wdogMs (s : State) : Nat :=
  match imgEntry s.cfg.img 1 0 with | some a => s.cfg.img.u32 (a + 4) | none => 0

/-- A write to HP_IRQ_STAT: bits [11:1] are cleared where written 1 (Table 03.6). -/
def State.clearIrq (s : State) (w : Nat) : State :=
  { s with host := { s.host with irqStat := s.host.irqStat &&& ~~~(BitVec.ofNat 32 w &&& 0xFFE#32) } }

/-- A doorbell for a tag (Table 03.14): the request slot is copied, the response status becomes PENDING. -/
def State.doorbell (s : State) (tag : Nat) : State :=
  if 240 ≤ tag ∨ s.host.ready = false ∨ s.inFlight tag ∨ s.host.done.getLsbD tag then s.cause 8
  else
    let f : Flight := { id := tag, origin := .host, req := s.host.req.readList (256 * tag) 256 }
    let s1 := { s with host := { s.host with rsp := s.host.rsp.write (256 * tag + 12) 1 } }
    s1.submit f

/-- A write to HP_DONEk: completed tags become FREE (Table 03.9). -/
def State.clearDone (s : State) (k w : Nat) : State :=
  { s with host := { s.host with done := s.host.done &&& ~~~(BitVec.ofNat 256 (w * 2 ^ (32 * k))) } }

/-- REQ written (Table 02.9). -/
def State.holdReq (s : State) : State :=
  match s.frame.hold with
  | .none => { s with frame := { s.frame with hold := .requested } }
  | .held => { s with frame := { s.frame with hold := .heldMove } }
  | _ => s

/-- The page that is held returns to rotation at the next tick (Table 02.9). -/
def dropHeld (ps : List Page) : List Page := ps.map (fun p => { p with held := false })

/-- The page that leaves HELD as a hold in force ends, and when: a read of its window that started before goes on in it
(R39). -/
def FrameSt.leaves (f : FrameSt) (now : Nat) : Option (Nat × Nat) :=
  match f.hold with
  | .held | .heldMove => (f.pages.findIdx? (fun p => p.held)).map (fun i => (i, now))
  | _ => f.left

/-- REL written (Table 02.9). -/
def State.holdRel (s : State) : State :=
  { s with frame := { s.frame with hold := .none, left := s.frame.leaves s.clk.now, pages := dropHeld s.frame.pages } }

/-- A write to HP_HOLD; REL wins over REQ (R40). -/
def State.writeHold (s : State) (w : Nat) : State :=
  let s1 := if tst w 8 then { s with frame := { s.frame with holdExpired := false } } else s
  if tst w 1 then s1.holdRel else if tst w 0 then s1.holdReq else s1

/-- A write to KICK (R82): ignored while the timeout is 0; a valid kick restarts the timeout and toggles EXPECT. -/
def State.kick (s : State) (v : Nat) : State :=
  if s.wdogMs = 0 then s
  else if v = (if s.host.wdog.expect then 0xA5 else 0x5A) then
    { s with host := { s.host with wdog := { running := true, expect := !s.host.wdog.expect, lastKick := s.clk.now } } }
  else s

/-- The backup domain after a write: a pending set or summer-time command that the write replaced or removed ends the culvert
that waited for it (R336, R350). -/
def State.setBkp (s : State) (b : BkpSt) : State :=
  let old := s.bkp
  ({ s with bkp := b }).endWaits (fun k =>
    if (k = WaitKind.timeSet && old.pendSet ≠ b.pendSet) || (k = WaitKind.timeDst && old.pendDst ≠ b.pendDst) then some (.aborted, 3, [])
    else none)

/-- Effects a written calendar byte has beyond the registers: SET, DST_FWD and DST_BACK carry no request, and the
origin is the local host (R491). -/
def State.writeCal (s : State) (a v : Nat) : State :=
  s.setBkp (s.bkp.writeByte a v 0x40)

/-- A whole word written to a host port register (R57). -/
def State.writeReg (s : State) (a w : Nat) : State :=
  if a = 8 then s.clearIrq w
  else if a = 0xC then { s with host := { s.host with irqMask := BitVec.ofNat 32 (w % 4096) } }
  else if 0x10 ≤ a ∧ a < 0x20 then s.doorbell (w % 256)
  else if 0x20 ≤ a ∧ a < 0x40 then s.clearDone ((a - 0x20) / 4) w
  else if a = 0x40 then s.writeHold w
  else if a = 0x48 then s.kick (w % 256)
  else s

/-- The bytes of one WRITE transaction from address `a` on; `acc` holds the bytes of the word in progress, when the
transaction began at its start (R56, R57). -/
def writeBytes : List Byte → Nat → Option (List Byte) → State → State
  | [], _, _, s => s
  | b :: r, a, acc, s =>
    if a < 0x1000 then
      let acc1 : Option (List Byte) := if a % 4 = 0 then some [b] else acc.map (fun l => l ++ [b])
      if a % 4 = 3 then
        writeBytes r (a + 1) none (match acc1 with | some w => s.writeReg (a - 3) (u32At w 0) | none => s)
      else writeBytes r (a + 1) acc1 s
    else if a < 0x1100 then writeBytes r (a + 1) none (s.writeCal a b.toNat)
    else if 0x10000 ≤ a ∧ a < 0x20000 then
      writeBytes r (a + 1) none { s with host := { s.host with req := s.host.req.write (a - 0x10000) b } }
    else writeBytes r (a + 1) none s.spiErr

/-! ## The address map as it reads (Table 03.2) -/

/-- HP_STATUS (Table 03.5). -/
def State.hpStatus (s : State) : Nat :=
  (match s.pwr.stage with | .recovery => 3 | _ => s.pwr.state.code) + bit s.host.wdog.running * 16 +
    bit s.cfg.commit.isSome * 32 + bit s.cfg.draft.isSome * 64 + bit s.host.ready * 128 + s.frame.profile * 256 +
    (match s.sec.life with | .blank => 0 | .provisioned => 1 | .fielded => 2 | .returned => 3) * 65536 +
    s.bus.nodeId * 16777216

/-- Station firmware version, major and minor: that of the image header, 3.2 for the image of manufacture. -/
def State.fwVer (s : State) : Nat × Nat :=
  let x := s.sec.slots.getD s.sec.running {}
  if x.factory then (3, 2) else (x.data.u8 12, x.data.u8 13)

/-- Grade of the part (Table 03.4). -/
def State.hpId (s : State) : Nat :=
  let fw := match s.pwr.stage with | .restored => s.fwVer.1 % 16 * 16 + s.fwVer.2 % 16 | _ => 0
  0x64800000 + (if Config.gradeX then 4096 else 0) + 256 + fw

/-- HP_IRQ_STAT with its computed bit DONE. -/
def State.hpIrqStat (s : State) : Nat := s.host.irqStat.toNat + bit (decide (s.host.done ≠ 0))

/-- HIRQ_N (R61): driven low while an enabled cause stands, else high; high-impedance while the port has no power or the
core rails are shed (R467, Table 17.6). -/
def State.hirqLand (s : State) : Option Bool :=
  if s.host.up then s.dieLand 8 (some (decide (s.hpIrqStat &&& s.host.irqMask.toNat = 0))) else none

/-- HP_HOLD (Table 03.10). -/
def State.hpHold (s : State) : Nat :=
  bit s.frame.holdExpired * 256 +
    (match s.frame.hold with | .none => 0 | .requested => 1 | .held => 2 | .heldMove => 3) * 16

/-- The page behind the LIVE window. -/
def State.livePage (s : State) : Option Page := s.frame.pages.find? (fun p => decide (p.role = .live))
/-- The page behind the HELD window. -/
def State.heldPage (s : State) : Option Page :=
  match s.frame.hold with
  | .held | .heldMove => s.frame.pages.find? (fun p => p.held)
  | _ => none

/-- HP_WDOG (Table 03.11). -/
def State.hpWdog (s : State) : Nat :=
  let w := s.host.wdog
  let rem := if w.running then s.wdogMs - (s.clk.now - w.lastKick) / 1000000 else 0xFFFF
  rem * 65536 + bit w.running * 512 + bit w.expect * 256

/-- A page byte; the CRC is computed over the other bytes (Table 02.7, R34). -/
def Page.byte (p : Page) (o : Nat) : Byte :=
  if p.epoch = 0 then 0
  else if 0x3FFC ≤ o then
    (le32 (crc32 ((p.bytes.writeList 0x3FC0 (le32 p.trailer)).readList 0 0x3FFC))).getD (o - 0x3FFC) 0
  else if 0x3FC0 ≤ o ∧ o < 0x3FC4 then (le32 p.trailer).getD (o - 0x3FC0) 0
  else p.bytes.read o

/-- A host port register as it reads. -/
def State.readReg (s : State) (a : Nat) : Nat :=
  if a = 0 then s.hpId
  else if a = 4 then s.hpStatus
  else if a = 8 then s.hpIrqStat
  else if a = 0xC then s.host.irqMask.toNat
  else if 0x20 ≤ a ∧ a < 0x40 then s.host.done.toNat / 2 ^ (32 * ((a - 0x20) / 4)) % 4294967296
  else if a = 0x40 then s.hpHold
  else if a = 0x44 then (match s.livePage with | some p => p.epoch | none => 0)
  else if a = 0x48 then s.hpWdog
  else 0

/-- The byte a READ transaction returns at an address; unmapped addresses read zero (R56). -/
def State.hostByte (s : State) (a : Nat) : Byte :=
  if a < 0x1000 then (le32 (s.readReg (a / 4 * 4))).getD (a % 4) 0
  else if a < 0x1100 then (le32 (s.bkp.readWord (a / 4 * 4))).getD (a % 4) 0
  else if 0x10000 ≤ a ∧ a < 0x20000 then s.host.req.read (a - 0x10000)
  else if 0x20000 ≤ a ∧ a < 0x30000 then s.host.rsp.read (a - 0x20000)
  else if 0x30000 ≤ a ∧ a < 0x34000 then (match s.livePage with | some p => p.byte (a - 0x30000) | none => 0)
  else if 0x40000 ≤ a ∧ a < 0x44000 then (match s.heldPage with | some p => p.byte (a - 0x40000) | none => 0)
  else 0

/-- The byte that the transaction which ran over the last tick returns at an address of its window: from the page behind the
window when it started, whatever roles the pages have now (R38, R39); zero where none stood there (R41). -/
def State.runByte (s : State) (a : Nat) : Byte :=
  let at_ (p : Option Nat) (base : Nat) : Byte :=
    match p with | some i => (s.frame.pages.getD i {}).byte (a - base) | none => 0
  match s.frame.read with
  | .live p => if 0x30000 ≤ a ∧ a < 0x34000 then at_ p 0x30000 else s.hostByte a
  | .held p => if 0x40000 ≤ a ∧ a < 0x44000 then at_ p 0x40000 else s.hostByte a
  | .none => s.hostByte a

/-! ## Pages at a tick -/

/-- Least page epoch first; a page never written has epoch zero. -/
def lowerPage (a b : Page) : Bool := decide (a.epoch ≤ b.epoch)

/-- Roles after a published tick: WRITE becomes LIVE; of the pages that are neither LIVE nor HELD, the one with the lower
page epoch becomes WRITE (R36), but not the page at place `busy`, on which a HELD-window transaction runs, while another
can be taken (R39). -/
def rotate (takeHold : Bool) (busy : Option Nat) (ps : List Page) : List Page :=
  let p1 := ps.map (fun p =>
    { p with role := (if p.role = .write then .live else .rest),
             held := if takeHold then decide (p.role = .write) else p.held })
  let cands := p1.zipIdx.filter (fun p => decide (p.1.role ≠ .live) && !p.1.held)
  let free := cands.filter (fun p => decide (busy ≠ some p.2))
  let pool := if free.isEmpty then cands else free
  match pool with
  | [] => p1
  | x :: r =>
    let b := r.foldl (fun a b => if lowerPage a.1 b.1 then a else b) x
    modAt p1 b.2 (fun p => { p with role := .write, trailer := 0 })

/-- A hold is taken on the page that is LIVE after a slipped tick (R36). -/
def holdLive (ps : List Page) : List Page := ps.map (fun p => { p with held := decide (p.role = .live) })

/-- Hold states at a tick (Table 02.9), after the pages have taken their roles. -/
def FrameSt.holdTick (f : FrameSt) (now : Nat) : FrameSt :=
  match f.hold with
  | .requested => { f with hold := .held, holdSince := now }
  | .heldMove => { f with hold := .held, holdSince := now }
  | _ => f

/-- The hold timer has reached 1 s: the hold ends, HOLD_EXPIRED and its interrupt cause are set (Table 02.9); the page
returns to rotation at the next tick. A move that is pending restarts the timer instead. -/
def State.expireHold (s : State) : State :=
  if s.frame.hold = .held && decide (s.frame.holdSince + secs 1 ≤ s.clk.now) then
    ({ s with frame := { s.frame with hold := .none, left := s.frame.leaves s.clk.now, holdExpired := true } }).cause 2
  else s

/-! ## The host watchdog (R82) -/

/-- Watchdog action in force (Table 03.26). -/
def State.wdogAction (s : State) : Nat := sysByte s.cfg.img 2 0

/-- The timeout has passed without a valid kick: counting stops, and with action 1 the node enters SAFE at the next tick. -/
def State.wdogExpire (s : State) : State :=
  let w := s.host.wdog
  if w.running && s.wdogMs ≠ 0 && decide (w.lastKick + ms s.wdogMs ≤ s.clk.now) then
    let s1 := (({ s with host := { s.host with wdog := { w with running := false } } }).cause 7).logNode 0x0102 6 s.wdogMs s.wdogAction
    if s.wdogAction = 1 && s.pwr.state = .armed then { s1 with pwr := { s1.pwr with safePend := some 4 } } else s1
  else s

/-! ## Commands of the host -/

/-- `HOST_REG_WRITE` (R57): a WRITE transaction, byte by byte or word by word. -/
def execHostRegWrite (t addr : Nat) (data : List Byte) (s : State) : Host.Outcome State Fault Refusal :=
  let s1 := s.advance t
  .next (if s1.portUp then writeBytes data addr none s1 else s1)

/-- `SPI_ERR` (R56): an irregular transaction. -/
def execSpiErr (t : Nat) (_kind : SpiErrKind) (s : State) : Host.Outcome State Fault Refusal :=
  let s1 := s.advance t
  .next (if s1.portUp then s1.spiErr else s1)

/-- `DOORBELL` (R63): a word written to HP_DOORBELL. -/
def execDoorbell (t tag : Nat) (s : State) : Host.Outcome State Fault Refusal :=
  let s1 := s.advance t
  .next (if s1.portUp then s1.doorbell (tag % 256) else s1)

/-- `HP_DONE` (R63): a 1 written to the completion bit of a tag. -/
def execHpDone (t tag : Nat) (s : State) : Host.Outcome State Fault Refusal :=
  let s1 := s.advance t
  .next (if s1.portUp then s1.clearDone (tag % 256 / 32) (2 ^ (tag % 32)) else s1)

/-- `HOLD_REQ` (R40). -/
def execHoldReq (t : Nat) (s : State) : Host.Outcome State Fault Refusal :=
  let s1 := s.advance t
  .next (if s1.portUp then s1.holdReq else s1)

/-- `HOLD_REL` (R40). -/
def execHoldRel (t : Nat) (s : State) : Host.Outcome State Fault Refusal :=
  let s1 := s.advance t
  .next (if s1.portUp then s1.holdRel else s1)

/-- `HOLD_EXPIRED` (Table 02.9): the first tick at which the hold timer has reached 1 s, sent at that tick before its
`FRAME_TICK`, which else does the same. -/
def execHoldExpired (t : Nat) (s : State) : Host.Outcome State Fault Refusal :=
  let s1 := s.advance t
  .next (if s1.frame.running && decide (s1.frame.nextTick ≤ s1.clk.now) then s1.expireHold else s1)

/-- `KICK` (R82). -/
def execKick (t v : Nat) (s : State) : Host.Outcome State Fault Refusal :=
  let s1 := s.advance t
  .next (if s1.portUp then s1.kick (v % 256) else s1)

/-- `RTC_SEC_READ` (R335): a read that includes RTC_SEC copies the whole calendar from one BKP cycle. -/
def execRtcSecRead (t : Nat) (s : State) : Host.Outcome State Fault Refusal :=
  let s1 := s.advance t
  .next (if s1.portUp then { s1 with bkp := { s1.bkp with snap := s1.bkp.snapshot } } else s1)

/-- `SET` (R336): the staging registers become a pending set, or are refused. -/
def execRtcSetCmd (t : Nat) (s : State) : Host.Outcome State Fault Refusal :=
  let s1 := s.advance t
  .next (if s1.portUp then s1.setBkp s1.bkp.writeSet else s1)

/-- `CANCEL` (R336). -/
def execRtcCancel (t : Nat) (s : State) : Host.Outcome State Fault Refusal :=
  let s1 := s.advance t
  .next (if s1.portUp then s1.setBkp s1.bkp.cancel else s1)

/-- `DST_FWD` (R340). -/
def execDstFwd (t : Nat) (s : State) : Host.Outcome State Fault Refusal :=
  let s1 := s.advance t
  .next (if s1.portUp then s1.setBkp (s1.bkp.writeDst true 0x40) else s1)

/-- `DST_BACK` (R340). -/
def execDstBack (t : Nat) (s : State) : Host.Outcome State Fault Refusal :=
  let s1 := s.advance t
  .next (if s1.portUp then s1.setBkp (s1.bkp.writeDst false 0x40) else s1)

/-- `TRIM` (Table 12.8): RTC_TRIM written. -/
def execTrim (t v : Nat) (s : State) : Host.Outcome State Fault Refusal :=
  let s1 := s.advance t
  .next (if s1.portUp then { s1 with bkp := s1.bkp.setTrim (signed 16 v) } else s1)

/-- `RTC_WAKE_WRITE` (R345): the word of RTC_WAKE written. -/
def execRtcWakeWrite (t w : Nat) (s : State) : Host.Outcome State Fault Refusal :=
  let s1 := s.advance t
  .next (if s1.portUp then { s1 with bkp := s1.bkp.setWake (tst w 31) w } else s1)

/-- VIO fell below 1.5 V: the port stops answering (R467). -/
def execVioLoss (t : Nat) (s : State) : Host.Outcome State Fault Refusal :=
  let s1 := s.advance t
  .next { s1 with host := { s1.host with up := false } }

/-- VIO rose above 1.5 V: the port answers again (R467). -/
def execVioReturn (t : Nat) (s : State) : Host.Outcome State Fault Refusal :=
  let s1 := s.advance t
  .next { s1 with host := { s1.host with up := true } }

end Sys2Proof.Machine
end

