-- ==== Sys2Proof/Machine/Apply.lean ====
section
/-!
DEFINITION. Role epochs of a new configuration (R46) and what its application at a tick does to every unit (R44, R45,
R72 step 7).
-/

namespace Sys2Proof.Machine

open Sys2Proof

/-! ## Role epochs (R44, R46, Table 02.11) -/

/-- The epoch after `v`: 0xFFFF is never assigned. -/
def nextEpoch (v : Nat) : Nat := if 0xFFFF ≤ v + 1 then 0 else v + 1

/-- Ranges of bytes of an entry, offset and length. -/
def pick (b : List Byte) (l : List (Nat × Nat)) : List Byte := l.flatMap (fun r => (b.drop r.1).take r.2)

/-- Byte `o` of an entry under a mask. -/
def masked (b : List Byte) (o k : Nat) : Nat := byteAt b o &&& k

/-- Bytes of an entry, or its off entry. -/
def changed (id : Nat) (l : List (Nat × Nat)) (old new : Mem) (n : Nat) : Bool :=
  decide (pick (entryBytes old id n) l ≠ pick (entryBytes new id n) l)

/-- A bit of an entry differs. -/
def bitChanged (id o k : Nat) (old new : Mem) (n : Nat) : Bool :=
  decide (masked (entryBytes old id n) o k ≠ masked (entryBytes new id n) o k)

/-- Enabled weirs that name group `g` (R242). -/
def imgMembers (m : Mem) (g : Nat) : List Nat :=
  (((imgEntries m 0x21).zipIdx).filter (fun p => tst (m.u8 (p.1 + 3)) 0 && decide (m.u16 (p.1 + 34) = g))).map (fun p => p.2)

/-- A commit changes a role field of the channel (Table 06.10). -/
def chanRole (old new : Mem) (n : Nat) : Bool :=
  changed 0x10 [(1, 1), (3, 2), (8, 8), (20, 8), (39, 1), (64, 1), (66, 2)] old new n
/-- Of the weir (Table 08.15). -/
def weirRole (old new : Mem) (n : Nat) : Bool :=
  changed 0x21 [(2, 1), (4, 1), (6, 2)] old new n || bitChanged 0x21 3 1 old new n
/-- Of the blend slot (Table 08.4). -/
def blendRole (old new : Mem) (n : Nat) : Bool := changed 0x20 [(1, 1), (4, 16)] old new n
/-- Of the group (Table 09.1): the level that means stopped, its source, its member list. -/
def groupRole (old new : Mem) (n : Nat) : Bool :=
  changed 0x30 [(2, 1), (4, 2)] old new n || bitChanged 0x30 1 1 old new n || decide (imgMembers old n ≠ imgMembers new n)
/-- Of the encoder channel (Table 10.10). -/
def encRole (old new : Mem) (n : Nat) : Bool := changed 0x40 [(1, 2), (4, 4)] old new n
/-- Of the bus object (Table 11.11). -/
def objRole (old new : Mem) (n : Nat) : Bool :=
  changed 0x51 [(2, 1), (4, 4), (12, 1), (14, 1), (16, 48)] old new n || bitChanged 0x51 1 7 old new n
/-- Of the DI (Table 17.2). -/
def diRole (old new : Mem) (n : Nat) : Bool := changed 0x80 [(1, 1)] old new n
/-- Of the AO (Table 17.5). -/
def aoRole (old new : Mem) (n : Nat) : Bool := changed 0x81 [(2, 1), (4, 2)] old new n || bitChanged 0x81 1 1 old new n
/-- Of the display region (Table 15.4). -/
def regionRole (old new : Mem) (n : Nat) : Bool := changed 0x60 [(8, 24)] old new n || bitChanged 0x60 1 1 old new n

/-- Role epochs of one kind of unit. -/
def advance (l : List Nat) (role : Nat → Bool) : List Nat :=
  l.zipIdx.map (fun p => if role p.2 then nextEpoch p.1 else p.1)

/-- Table 0x00F0: the role epochs of every unit, two bytes each, in the order of Table 02.11. -/
def Roles.bytes (r : Roles) : List Byte :=
  (r.chan ++ r.weir ++ r.blend ++ r.group ++ r.enc ++ r.region ++ r.obj ++ r.ao ++ r.di).flatMap le16

/-- Role epochs that step 6 assigns. -/
def newRoles (r : Roles) (old new : Mem) : Roles :=
  { chan := advance r.chan (chanRole old new), blend := advance r.blend (blendRole old new)
    weir := advance r.weir (weirRole old new), group := advance r.group (groupRole old new)
    enc := advance r.enc (encRole old new), obj := advance r.obj (objRole old new), di := advance r.di (diRole old new)
    ao := advance r.ao (aoRole old new), region := advance r.region (regionRole old new) }

/-! ## The copy selector (R73) -/

/-- The selector in force, and whether it is slot 1; none where neither is valid. -/
def CfgSt.selector (c : CfgSt) : Option (Selector × Bool) :=
  match c.sel0.valid, c.sel1.valid with
  | false, false => none
  | true, false => some (c.sel0, false)
  | false, true => some (c.sel1, true)
  | true, true => if c.sel0.seq < c.sel1.seq then some (c.sel1, true) else some (c.sel0, false)

/-- The inactive copy. -/
def CfgSt.inactive (c : CfgSt) : Nat := match c.selector with | some (x, _) => 1 - x.copy | none => 0

/-- The commit churn writes the inactive copy (R72, step 6). -/
def CfgSt.churned (c : CfgSt) (img : Mem) (roles : Roles) : CfgSt :=
  if c.inactive = 0 then { c with copy0 := img, roles0 := roles } else { c with copy1 := img, roles1 := roles }

/-- The selector write of step 7: the slot not in force takes the new copy, its epoch, and the next sequence. -/
def CfgSt.select (c : CfgSt) (epoch : Nat) : CfgSt :=
  let seq := match c.selector with | some (x, _) => x.seq + 1 | none => 1
  let x : Selector := { copy := c.inactive, epoch, seq := seq % 4294967296, valid := true }
  match c.selector with
  | some (_, false) => { c with sel1 := x }
  | _ => { c with sel0 := x }

/-! ## What each unit does at the tick of application -/

/-- A channel as an input: the filter restarts for a front-end setting (Table 05.12), the switches and the last good
value go with a role (R174, R5); a new function begins anew, a new range keeps everything but the filter. -/
def State.applyInput (s : State) (old : Mem) (n : Nat) : State :=
  let new := s.cfg.img
  let role := chanRole old new n
  let fn := changed 0x10 [(1, 1)] old new n
  let front := fn || changed 0x10 [(2, 1), (4, 2), (36, 2)] old new n || bitChanged 0x10 38 16 old new n
  s.modChan n (fun c =>
    let c0 : ChanSt := { c with calLoadLog := false, calBadLog := 0 }
    let c1 : ChanSt := if fn then
        { seqLow := c.seqLow, val := c.val, raw := c.raw, q := c.q, lastGood := c.lastGood,
          flags := c.flags, filt := c.filt, last := c.last }
      else c0
    let c2 : ChanSt := if role then
        { c1 with lastGood := 0, sw0 := false, sw1 := false, sw0c := c.sw0, sw1c := c.sw1, held := false }
      else c1
    if front && isInput (s.func n) then { c2 with restart := true } else c2)

/-- A channel as an output: it ramps down when it is disabled or changes its function (R200, R392); a role change
returns its set point to the preset (R188). -/
def State.applyOutput (s : State) (old : Mem) (n : Nat) : State :=
  let f := s.func n
  let s1 := if chanRole old s.cfg.img n then s.modOut n (fun o => { o with setPoint := none }) else s
  let o := s1.out n
  if o.drive.ramping then s1.modOut n (fun o => { o with reenable := decide (f ≠ 0) })
  else if o.drive ≠ .off && o.func != f then
    (if o.drive.working then s1.outRampDown n else s1.modOut n (fun o => { ({} : OutSt) with setPoint := o.setPoint }))
  else s1

/-- Sources, bridges and amplifiers of a bank that is up (R91, R94, R100). -/
def State.applyBank (s : State) (b : Nat) : State :=
  let s1 := s.burstCheck b
  if s1.bankUp b then ((s1.bankSetup b).ampSetup b 0).ampSetup b 1
  else s1.modBank b (fun k => { k with insul := { k.insul with hullRef := s1.hullDeclared b } })

/-- Blend slots, weirs, groups, first-out sets and chains (R218, R232, R233, Tables 09.2, 09.8, 09.12). -/
def applyEng (old new : Mem) (e : Eng) : Eng :=
  { e with
    blends := e.blends.zipIdx.map (fun (p : BlendSt × Nat) =>
      if blendRole old new p.2 then BlendSt.fresh
      else if changed 0x20 [(48, 3)] old new p.2 then p.1.restart else p.1)
    weirs := e.weirs.zipIdx.map (fun (p : WeirSt × Nat) =>
      if weirRole old new p.2 then WeirSt.fresh (tst (byteAt (entryBytes new 0x21 p.2) 3) 0)
      else if changed 0x21 [(28, 3)] old new p.2 then p.1.restart else p.1)
    groups := e.groups.zipIdx.map (fun (p : GroupSt × Nat) => if groupRole old new p.2 then {} else p.1)
    fo := e.fo.zipIdx.map (fun (p : FoSt × Nat) =>
      if changed 0x31 [(0, 16)] old new p.2 then {} else { p.1 with mismatch := false })
    chains := e.chains.zipIdx.map (fun (p : ChainSt × Nat) => if changed 0x32 [(0, 64)] old new p.2 then {} else p.1)
    duty := { e.duty with pending := match e.duty.pending with
      | some h => if eligible new h.member then some h else none
      | none => none } }

/-- An encoder channel: a role change sets its counter, offset, reference and drift to zero (R269); a changed compare
field rearms or disarms its unit from the table (R283). -/
def State.applyEnc (s : State) (old : Mem) (k : Nat) : State :=
  let new := s.cfg.img
  let s1 := if encRole old new k then
      (s.settleEnc k).modEnc k (fun e =>
        { e.zeroed with forward := false, v := 0, zeroSpeed := false, age := 0, posVal := 0, spdVal := 0, posQ := .disabled,
                        spdQ := .disabled, lastGood := 0, p := 0, ssi := {} })
    else s
  let s2 := if changed 0x40 [(37, 1)] old new k then s1.modEnc k (fun e => { e with cmp := {} }) else s1
  if changed 0x40 [(37, 16)] old new k then s2.cmpFromTable k else s2.cmpWindow k

/-- Digital inputs and annunciator outputs (R447, R450): an input enabled anew settles, one that is no longer monitored has
no broken line; an output whose role changes
forgets its last command. -/
def State.applyEdge (s : State) (old : Mem) : State :=
  let new := s.cfg.img
  let f (m : Mem) (i : Nat) : Nat := byteAt (entryBytes m 0x80 i) 1
  { s with
    dis := s.dis.zipIdx.map (fun (p : DiSt × Nat) =>
      let d0 : DiSt := if diRole old new p.2 then { p.1 with last := false } else p.1
      let d : DiSt := { d0 with broken := d0.broken && tst (byteAt (entryBytes new 0x80 p.2) 2) 0 && decide (f new p.2 ≠ 0) }
      if f old p.2 = 0 ∧ f new p.2 ≠ 0 then { d with enabledAt := s.clk.now } else d)
    aos := s.aos.zipIdx.map (fun (p : AoSt × Nat) => if aoRole old new p.2 then { p.1 with cmd := 0 } else p.1) }

/-- A vibration capture of a channel that no longer is one, or has another role, ends (R184): one that waits for its start tick
leaves the buffer as it is, one under way leaves it empty. -/
def State.applyVib (s : State) (old : Mem) : State :=
  let gone (n : Nat) : Bool := !isVib (s.func n) || chanRole old s.cfg.img n
  let ends (s : State) : State := s.endWaits (fun w => if w = WaitKind.vibCapture then some (.aborted, 3, []) else none)
  match s.vib.next, s.vib.chan with
  | some (n, _), _ => if gone n then ends { s with vib := { s.vib with next := none } } else s
  | none, some n =>
    if s.vib.running && gone n then ends { s with vib := { s.vib with running := false, chan := none } } else s
  | none, none => s

/-- A region whose role a commit changes starts anew: its requests and its toggle go, and its cells no longer blink (R404). -/
def State.applyRegion (s : State) (old : Mem) (r : Nat) : State :=
  if regionRole old s.cfg.img r then
    let cells : Cells := BitVec.ofNat 192 (match imgEntry old 0x60 r with | some a => old.num (a + 8) 24 | none => 0)
    (s.modRegion r (fun x => { x with toggle := none })).modDisp (fun d =>
      { d with queue := d.queue.filter (fun q => decide (q.region ≠ r)), blink := d.blink &&& ~~~cells })
  else s

/-- Calibration averages of a channel whose function or range changes are spoilt (R182). -/
def State.applyCal (s : State) (old : Mem) : State :=
  { s with cal := { s.cal with runs := s.cal.runs.map (fun r =>
      if changed 0x10 [(1, 2)] old s.cfg.img r.chan then { r with clean := false } else r) } }

/-- The profile of the configuration in force applies; every measuring channel settles anew (R29). -/
def State.applyProfile (s : State) : State :=
  let p := sysByte s.cfg.img 0 1
  if p = s.frame.profile then s
  else
    ({ s with frame := { s.frame with profile := p, profChanged := true } }).each 64 (fun s n =>
      if isInput (s.func n) then s.restartChan n else s)

/-- A timeout of 0 stops the host watchdog; a new timeout already past since the last valid kick expires at the tick (R82). -/
def State.wdogApply (s : State) : State :=
  let w := s.host.wdog
  if s.wdogMs = 0 then { s with host := { s.host with wdog := { w with running := false } } }
  else
    ({ s with host := { s.host with wdog := { w with
        warned := w.warned && decide (2 * w.lastKick + ms s.wdogMs ≤ 2 * s.clk.now) } } }).wdogExpire

/-- Every unit takes the configuration in force in the place of `old`; the engines start anew from it, also where its first frame
slips (R50); a panel that is disabled loses a pending start of its pump (R392). -/
def State.applyUnits (s : State) (old : Mem) : State :=
  let s1 := (s.each 64 (fun s n => (s.applyInput old n).applyOutput old n)).each 8 State.applyBank
  let s2 := { s1 with eng := applyEng old s1.cfg.img s1.eng }
  let s3 := (s2.each 8 (fun s k => s.applyEnc old k)).applyEdge old
  let s4 := (((s3.applyVib old).applyCal old).busApply old).each 8 (fun s r => s.applyRegion old r)
  let s5 := (s4.dutySettle s4.eng.duty.duty).modDisp (fun d => { d with reenable := d.reenable && s.panelOn })
  { s5 with prev := s5.eng }

/-- The tick at hand lies on the grids of the profile in force and of `p` (R28): network time there is the nearest
multiple of the period in force. -/
def State.commonTick (s : State) (p : Nat) : Bool :=
  let g := periodOf s.frame.profile
  let at_ := (s.clk.base + g / 2) / g * g
  decide (at_ % periodOf p = 0)

/-- A commit is ready and may apply at the tick at hand, which ends a published frame (R28, R45). -/
def State.applyReady (s : State) : Option Commit :=
  match s.cfg.commit with
  | some c => if c.phase = .ready && s.commonTick (sysByte c.img 0 1) then some c else none
  | none => none

/-- Channels of bank `b` whose entry the commit that applies at the tick at hand changes, with their new entries (R122). -/
def State.bankChanges (s : State) (b : Nat) : List (Nat × List Byte) :=
  match s.applyReady with
  | some c => ((List.range 8).map (fun j => (8 * b + j, entryBytes c.img 0x10 (8 * b + j)))).filter (fun p =>
      p.2 ≠ entryBytes s.cfg.img 0x10 p.1)
  | none => []

/-- The frame command blocks of a published frame go down the links: the output commands that step 6 granted, the set point
of the supply and the configuration changes for the next tick, closed by the frame sequence (R122). -/
def State.sendBlocks (s : State) (seq : Nat) : State :=
  s.each 8 (fun s b => s.modBank b (fun k =>
    if k.powered then
      { k with sent := some { outs := (List.range 8).map (fun j => (s.out (8 * b + j)).next), set := k.nextSet,
                              changes := s.bankChanges b, seq := seq % 65536 } }
    else k))

/-- Step 8: the selector is written, the draft closes, the request completes with the frame sequence of the tick of
application. -/
def State.commitDone (s : State) (c : Commit) (seq : Nat) : State :=
  ({ s with cfg := { s.cfg with draft := none, commit := none } }).ok c.fl (le16 c.epoch ++ le16 0 ++ le64 seq)

/-- The selector write of step 7 at the tick of frame `seq`: at once where the NVM controller is free, else as the next
operation of its class (R20, R73). -/
def State.selectorWrite (s : State) (c : Commit) (seq : Nat) : State :=
  match s.nvm.running with
  | none => ({ s with cfg := s.cfg.select c.epoch }).commitDone c seq
  | some _ =>
    let (s1, op) := s.nvmRequest (.selector c.epoch) [] 0
    { s1 with cfg := { s1.cfg with commit := some { c with phase := .selector op seq } } }

/-- Steps 7 and 8 (Table 03.21): the configuration applies, then the selector is written. -/
def State.applyCommit (s : State) (c : Commit) : State :=
  let old := s.cfg.img
  let s1 := { s with
    cfg := { s.cfg with img := c.img, epoch := c.epoch, roles := c.roles }
    frame := { s.frame with cfgApplied := true } }
  ((((s1.applyUnits old).applyProfile).wdogApply).cause 4).selectorWrite c s.frame.seq

/-- Step 8 of Table 01.3: the commands of the frame that ended take effect at the tick, once (R32); outputs that start at it
have none. -/
def State.outputsAct (s : State) (pub : Bool) (fresh : List Nat) : State :=
  if s.frame.acted = some s.frame.nextTick then s
  else
    ({ s with frame := { s.frame with acted := some s.frame.nextTick } }).each 64 (fun s n =>
      if fresh.contains n then s else (s.outRampStep n).outApply pub n)

/-- A ready commit applies at a tick that ends a published frame; the outputs act and due objects go out with the old
configuration first (R44). -/
def State.configTick (s : State) : State :=
  match s.applyReady with
  | some c => ((s.outputsAct true []).objFlush).applyCommit c
  | none => s

end Sys2Proof.Machine
end

