-- ==== Sys2Proof/Machine/SysCfg.lean ====
section
/-!
DEFINITION. The CFG opcodes and the commit procedure (R70 to R78), `SYS_INFO`, and the events that carry a commit on.
-/

namespace Sys2Proof.Machine

open Sys2Proof

/-! ## SYS_INFO (Table 03.20) -/

/-- Response of `SYS_INFO`; the ROM of the recovery port has no station firmware version to give. -/
def State.sysInfo (s : State) : List Byte :=
  let rom := decide (s.pwr.stage = .recovery)
  le16 0x6480 ++ le8 (bit Config.gradeX) ++ le8 s.sec.life.code ++ le8 (if rom then 0 else s.fwVer.1) ++ le8 (if rom then 0 else s.fwVer.2) ++
    le8 s.sec.running ++ le8 s.bus.nodeId ++ uniqueBytes ++ le16 s.cfg.epoch ++ le8 s.pwr.state.code ++
    le8 s.frame.profile ++ le16 s.rst.cause ++ le16 0

/-- `SYS_INFO` (R70). -/
def execSysInfo (t tag : Nat) (s : State) : Host.Outcome State Fault Refusal :=
  .next (s.withCur t tag 0x0101 (fun f s => s.ok f s.sysInfo))

/-! ## Images -/

/-- Image length as `CFG_READ` reports it (R492). -/
def Draft.len (d : Draft) : Nat := if d.img.u32 0 = imgMagic then imgLen d.img else d.top

/-- Length of the committed image, or of the draft. -/
def State.imageLen (s : State) (draft : Bool) : Nat :=
  match draft, s.cfg.draft with | true, some d => d.len | _, _ => imgLen s.cfg.img

/-- Content of image slot `n`, a store not yet complete included: the order of requests is the order of effects (R65). -/
def State.imageSlot (s : State) (n : Nat) : Mem :=
  let ops := (s.nvm.running.toList ++ s.nvm.waiting).filter (fun o => decide (o.kind = .storeImage n))
  match ops.getLast? with
  | some o => o.data
  | none => s.cfg.slots.getD n []

/-- The draft opened by a request. -/
def State.openDraft (s : State) (f : Flight) (img : Mem) : State :=
  { s with cfg := { s.cfg with draft := some { owner := f.origin, baseEpoch := s.cfg.epoch, lastUse := s.clk.now, img, top := 0 } } }

/-- Response of `CFG_OPEN`. -/
def State.openRsp (s : State) (f : Flight) : List Byte := le16 s.cfg.epoch ++ le8 f.origin.code ++ le8 0

/-- `CFG_OPEN` (R71): the draft is a copy of the committed image, of a flash slot, or empty. -/
def State.cfgOpen (s : State) (f : Flight) : State :=
  match s.cfg.draft with
  | some d => s.refuse f (.busy, d.owner.code, [])
  | none =>
    match byteAt f.req 16 with
    | 0 => (s.openDraft f s.cfg.img).ok f (s.openRsp f)
    | 1 =>
      let (s1, op) := (s.openDraft f (s.imageSlot (byteAt f.req 17))).nvmRequest .flashRead [] (byteAt f.req 17)
      s1.wait f (.nvm op)
    | _ => (s.openDraft f emptyImage).ok f (s.openRsp f)

/-- `CFG_OPEN` (R71). -/
def execCfgOpen (t tag : Nat) (s : State) : Host.Outcome State Fault Refusal :=
  .next (s.withCur t tag 0x0201 (fun f s => s.cfgOpen f))

/-- Response of `CFG_READ` (R492). -/
def State.cfgRead (s : State) (f : Flight) : List Byte :=
  let draft := byteAt f.req 16 = 1
  let o := u32At f.req 20
  let n := s.imageLen draft
  le32 o ++ le32 n ++ (s.image draft).readList o (min n (o + u16At f.req 18) - o)

/-- `CFG_READ` (R492, R65): the committed image is read by the NVM controller. -/
def execCfgRead (t tag : Nat) (s : State) : Host.Outcome State Fault Refusal :=
  .next (s.withCur t tag 0x0204 (fun f s =>
    if byteAt f.req 16 = 1 then s.ok f (s.cfgRead f) else s.nvmRead f (fun f s => s.ok f (s.cfgRead f))))

/-- Raw bytes loaded into the draft image (R492). -/
def Draft.load (d : Draft) (o : Nat) (b : List Byte) : Draft :=
  { d with img := d.img.writeList o b, top := max d.top (o + b.length) }

/-- `CFG_LOAD` (R492). -/
def execCfgLoad (t tag : Nat) (s : State) : Host.Outcome State Fault Refusal :=
  .next (s.withCur t tag 0x0205 (fun f s =>
    let o := u32At f.req 16
    let b := f.payload.drop 4
    ({ s with cfg := { s.cfg with draft := s.cfg.draft.map (fun (d : Draft) => d.load o b) } }).ok f []))

/-- `CFG_STORE` (Table 03.18): the image goes to its flash slot as a churn. -/
def execCfgStore (t tag : Nat) (s : State) : Host.Outcome State Fault Refusal :=
  .next (s.withCur t tag 0x0206 (fun f s =>
    s.unlessNoWait f 25000 (fun s =>
      let draft := byteAt f.req 16 = 1
      let n := s.imageLen draft
      let (s1, op) := s.nvmRequest (.storeImage (byteAt f.req 17)) ((s.image draft).window 0 n) n
      s1.wait f (.nvm op))))

/-! ## The commit (Table 03.21) -/

/-- The commit in flight changed. -/
def State.setCommit (s : State) (c : Option Commit) : State := { s with cfg := { s.cfg with commit := c } }

/-- Step 6: epochs are assigned, table 0x00F0 is rebuilt with them, and the churn of the draft into the inactive copy is asked
for (R73, R78). -/
def State.commitChurn (s : State) (f : Flight) (m : Mem) : State :=
  let roles := newRoles s.cfg.roles s.cfg.img m
  let img := rebuildTable m 0xF0 roles.bytes
  let (s1, op) := ({ s with cfg := { s.cfg with churn := some (img, roles) } }).nvmRequest .commitChurn [] 0
  s1.setCommit (some { fl := f, phase := .churn op, img, roles, epoch := nextEpoch s.cfg.epoch })

/-- Step 5: the energy of the commit is there, or it waits, or `NO_WAIT` refuses it. -/
def State.commitEnergy (s : State) (f : Flight) (m : Mem) : State :=
  if s.energyOk s.commitCost then s.commitChurn f m
  else if f.noWait then s.complete f .energyRefused 0 (s.energyPayload s.commitCost)
  else s.setCommit (some { fl := f, phase := .energy s.clk.now })

/-- Steps 1 to 5. A failure at step 1 discards the draft (R72). -/
def State.cfgCommit (s : State) (f : Flight) : State :=
  match s.cfg.draft with
  | none => s.refuse f (.notPermitted, 5, [])
  | some d =>
    if d.baseEpoch ≠ s.cfg.epoch then
      ({ s with cfg := { s.cfg with draft := none } }).refuse f (.epochStale, 0, le16 s.cfg.epoch)
    else
      match s.draftRefusal d.img with
      | some r => s.refuse f r
      | none => if f.dryRun then s.ok f (s.dryRunPayload d.img) else s.commitEnergy f d.img

/-- `CFG_COMMIT` (R72). -/
def execCfgCommit (t tag : Nat) (s : State) : Host.Outcome State Fault Refusal :=
  .next (s.withCur t tag 0x0202 (fun f s => s.cfgCommit f))

/-- `DRY_RUN` (R74): `CFG_COMMIT` with its flag set; without the flag the row is not about the request. -/
def execDryRun (t tag : Nat) (s : State) : Host.Outcome State Fault Refusal :=
  .next (match s.host.cur with
    | some c => if c.dryRun then s.withCur t tag 0x0202 (fun f s => s.cfgCommit f) else s.advance t
    | none => s.advance t)

/-- `COMMIT_ENERGY_MET` (R72, steps 5 and 6): the waiting commit finds its energy. -/
def execCommitEnergyMet (t : Nat) (s : State) : Host.Outcome State Fault Refusal :=
  let s1 := s.advance t
  .next (match s1.cfg.commit, s1.cfg.draft with
    | some { fl := f, phase := .energy _, .. }, some d => if s1.energyOk s1.commitCost then s1.commitChurn f d.img else s1
    | _, _ => s1)

/-- A tick that ends a published frame is at hand. -/
def State.tickDue (s : State) : Bool :=
  s.frame.running && s.frame.open_ && !s.frame.slipped && !s.frameHalted && decide (s.frame.nextTick ≤ s.clk.now)

/-- `CONFIG_APPLIED` (R44, R45): sent at the tick that ends a published frame, before its `FRAME_TICK`, which else does the
same. -/
def execConfigApplied (t : Nat) (s : State) : Host.Outcome State Fault Refusal :=
  let s1 := s.advance t
  .next (if s1.tickDue then s1.configTick else s1)

/-- `PROFILE_CHANGE` (R28, R29): as `CONFIG_APPLIED`, for a commit that changes the profile. -/
def execProfileChange (t : Nat) (s : State) : Host.Outcome State Fault Refusal :=
  let s1 := s.advance t
  let other := match s1.cfg.commit with | some c => decide (sysByte c.img 0 1 ≠ s1.frame.profile) | none => false
  .next (if s1.tickDue && other then s1.configTick else s1)

/-- `CFG_DISCARD` (R75). -/
def State.cfgDiscard (s : State) (f : Flight) : State :=
  match s.cfg.commit with
  | some { fl := c, phase := .energy _, .. } =>
    (({ s with cfg := { s.cfg with commit := none, draft := none } }).complete c .aborted 3 []).ok f []
  | some c => s.refuse f (.busy, c.fl.origin.code, [])
  | none => ({ s with cfg := { s.cfg with draft := none } }).ok f []

/-- `CFG_DISCARD` (R75). -/
def execCfgDiscard (t tag : Nat) (s : State) : Host.Outcome State Fault Refusal :=
  .next (s.withCur t tag 0x0203 (fun f s => s.cfgDiscard f))

/-- `DRAFT_TIMEOUT` (R71): 60 s without a request of the owner, no commit in flight. -/
def execDraftTimeout (t : Nat) (s : State) : Host.Outcome State Fault Refusal :=
  let s1 := s.advance t
  .next (match s1.cfg.draft, s1.cfg.commit with
    | some d, none =>
      if d.lastUse + secs 60 ≤ s1.clk.now then
        ({ s1 with cfg := { s1.cfg with draft := none } }).logNode 0x0201 3 d.owner.code d.baseEpoch
      else s1
    | _, _ => s1)

end Sys2Proof.Machine
end

