-- ==== Sys2Proof/Machine/NvmDone.lean ====
section
/-!
DEFINITION. What the completion of an NVM operation does, and the requests it answers (R20, R65, R72, R148, R358).
-/

namespace Sys2Proof.Machine

open Sys2Proof

/-- A commit churn has written the inactive copy, its commit standing or not (R73); a commit whose churn operation `o` is goes
on to its tick (R72, step 6 to 7). -/
def State.commitWritten (s : State) (o : NvmOp) : State :=
  let s1 := match s.cfg.churn with
    | some (img, roles) => { s with cfg := { (s.cfg.churned img roles) with churn := none } }
    | none => s
  match s1.cfg.commit with
  | some c => if c.phase = .churn o.num then s1.setCommit (some { c with phase := .ready }) else s1
  | none => s1

/-- The selector has been written (R73): a commit that still stands completes (Table 03.21, step 8). -/
def State.selectorDone (s : State) (epoch : Nat) : State :=
  let s1 := { s with cfg := s.cfg.select epoch }
  match s1.cfg.commit with
  | some c => match c.phase with | .selector _ seq => s1.commitDone c seq | _ => s1
  | none => s1

/-- The log churn under way is complete; its records are durable (R358), and a log clear whose record was among them
answers. A commit churn that waits takes the active pail with it, so a trigger still pending is spent. -/
def State.logWritten (s : State) : State :=
  let commitWaits := s.nvm.waiting.any (fun o => decide (o.kind = .commitChurn))
  let l0 := if commitWaits then { s.log with trigger := false } else s.log
  ({ s with log := l0.endChurn s.nowTs }).clearAnswer

/-- What an operation leaves when it completes. -/
def State.nvmEffect (s : State) (o : NvmOp) : State :=
  match o.kind with
  | .commitChurn => (s.logWritten).commitWritten o
  | .selector e => s.selectorDone e
  | .calChurn => s.calChurned o
  | .logChurn => s.logWritten
  | .clearSegment => s.clearSegment
  | .eraseFirst => s.eraseStep
  | .eraseSegment => s.eraseStep
  | .eraseSector => s.eraseStep
  | .storeImage n =>
    { s with cfg := { s.cfg with slots := modAt s.cfg.slots n (fun _ => o.data),
                                 slotBad := modAt s.cfg.slotBad n (fun _ => false) } }
  | .storeCurve => s.curveStored o
  | .flashRead => s
  | .firmware => s.firmwareDone o
  | .directory c => s.dirDone c
  | .keyChurn => s.keyDone o

/-- Response of the boot directory: the record in force, the running slot, the trial attempts left (Table 16.13). -/
def State.fwInfo (s : State) : List Byte :=
  s.sec.dirBytes ++ le8 s.sec.running ++ le8 s.sec.attempts ++ zeros 2

/-- A request that waited for operation `o` is answered. -/
def State.nvmAnswer (s : State) (f : Flight) (o : NvmOp) : State :=
  match f.opcode with
  | 0x0201 => s.ok f (s.openRsp f)
  | 0x0204 => s.ok f (s.cfgRead f)
  | 0x0206 => s.ok f (le32 o.arg)
  | 0x0306 => s.ok f (s.calBytes f)
  | 0x0901 => State.logRead f s
  | 0x0D01 => s.ok f s.fwInfo
  | 0x0D02 | 0x0D04 | 0x0D05 | 0x0D06 => s.fwAnswer f o.kind
  | 0x0C04 => if s.lastOwner o then s.complete f .notPermitted 2 [] else s.ok f []
  | _ => s.ok f []

/-- Requests that waited for operation `o` are answered in the order in which they began to wait. -/
def State.nvmServe (s : State) (o : NvmOp) : State :=
  let mine := s.host.waits.filter (fun w => decide (w.kind = .nvm o.num))
  let s1 := { s with host := { s.host with waits := s.host.waits.filter (fun w => !decide (w.kind = .nvm o.num)) } }
  mine.foldl (fun s w => s.nvmAnswer w.fl o) s1

/-- Sectors of a stored image or curve are still to write. -/
def NvmOp.more (o : NvmOp) : Bool := match o.kind with | .storeImage _ | .storeCurve => decide (1 < o.left) | _ => false

/-- The operation under way completes: its effect, its answers, then the next operation starts. A flash write of several sectors
has then written one, and the next waits for its own energy and grant (R378). -/
def State.nvmComplete (s : State) : State :=
  match s.nvm.running with
  | some o =>
    if o.more then
      ({ s with nvm := { s.nvm with
          running := none
          waiting := { o with left := o.left - 1, begun := true, started := false } :: s.nvm.waiting } }).nvmStart
    else (((({ s with nvm := { s.nvm with running := none } }).nvmEffect o).nvmServe o)).nvmStart
  | none => s

/-- The hardware fails the commit churn under way: the pail churned with it stands, the commit completes with `HW_FAULT`, its
draft stays open (Table 03.21, step 6). -/
def State.commitFailed (s : State) : State :=
  let s1 := ({ s with cfg := { s.cfg with churn := none }, nvm := { s.nvm with running := none } }).logWritten
  match s1.cfg.commit with
  | some c => ((s1.setCommit none).complete c.fl .hwFault 0 []).nvmStart
  | none => s1.nvmStart

/-- The kind of the operation under way. -/
def State.nvmKind (s : State) : Option NvmKind := s.nvm.running.map (fun (o : NvmOp) => o.kind)

/-- A completion row acts while the operation under way is of a kind it names. -/
def State.nvmIf (s : State) (p : NvmKind → Bool) (go : State → State) : State :=
  match s.nvmKind with | some k => if p k then go s else s | none => s

/-! ## Energy that does not come (R72, R148, R367, R426) -/

/-- Opcodes whose request waits for the energy of its own operation. -/
def energyOpcode (op : Nat) : Bool := op = 0x0206 || op = 0x0308 || op = 0x0C04 || op = 0x0C05

/-- A waiting operation has waited 5 s without the energy it needs; a flash write that has begun goes on waiting. -/
def State.starved (s : State) (o : NvmOp) : Bool :=
  decide (o.kind.gate ≠ 0) && !o.started && !o.begun && decide (o.since + secs 5 ≤ s.clk.now) && !s.energyOk o.kind.gate

/-- A starved operation goes, and the request that waits for it completes with `ENERGY_REFUSED`; operations that no request
waits for have no limit. -/
def State.refuseOp (s : State) (o : NvmOp) : State :=
  let cost := o.kind.gate
  let gone := { s with nvm := { s.nvm with waiting := s.nvm.waiting.filter (fun x => x.num != o.num) } }
  if o.kind = .calChurn then
    match s.cal.runs.find? (fun r => match r.churn with | some (_, k) => k = o.num | none => false) with
    | some r => gone.calAnswer r.num .energyRefused 0 (s.energyPayload cost)
    | none => s
  else
    let mine := s.host.waits.filter (fun w => decide (w.kind = .nvm o.num) && energyOpcode w.fl.opcode)
    if mine.isEmpty then s
    else
      let s1 := { gone with host := { gone.host with waits := gone.host.waits.filter (fun w => !mine.contains w) } }
      mine.foldl (fun s w => s.complete w.fl .energyRefused 0 (s.energyPayload cost)) s1

/-- Every request that has waited 5 s for energy completes with `ENERGY_REFUSED`; the draft of a commit stays open. -/
def State.energyRefuse (s : State) : State :=
  let s1 := match s.cfg.commit with
    | some { fl := f, phase := .energy since, .. } =>
      if since + secs 5 ≤ s.clk.now && !s.energyOk s.commitCost then
        (s.setCommit none).complete f .energyRefused 0 (s.energyPayload s.commitCost)
      else s
    | _ => s
  let late (k : WaitKind) : Bool := match k with
    | .clearEnergy _ since => decide (since + secs 5 ≤ s1.clk.now) && !s1.energyOk clearCost
    | _ => false
  let s2 := s1.endWaits (fun k => if late k then some (.energyRefused, 0, s1.energyPayload clearCost) else none)
  (s2.nvm.waiting.filter s2.starved).foldl State.refuseOp s2

/-- `ENERGY_REFUSED` (R72): 5 s without energy. -/
def execEnergyRefused (t : Nat) (s : State) : Host.Outcome State Fault Refusal := .next (s.advance t).energyRefuse

end Sys2Proof.Machine
end

