-- ==== Sys2Proof/Machine/Reset.lean ====
section
/-!
DEFINITION. Resets (R457, R458, R474): the flush, what survives, and the commanded reset of R459.
-/

namespace Sys2Proof.Machine

open Sys2Proof

/-! ## The flush (R20, R362) -/

/-- A flash operation cut short by the flush leaves its image slot incomplete (R20); a firmware slot is INCOMPLETE since
`FW_BEGIN` (R433), and of the boot directory the copy in force stands while the one being written is lost (R429). -/
def State.suspendFlash (s : State) (o : NvmOp) : State :=
  match o.kind with
  | .storeImage n => { s with cfg := { s.cfg with slotBad := modAt s.cfg.slotBad n (fun _ => true) } }
  | .directory _ => s.modSec (fun x => { x with dirOld := none })
  | _ => s

/-- Flash writes that have written something, under way or waiting, are cut short. -/
def State.cutFlash (s : State) : State :=
  (s.nvm.waiting.filter (fun o => o.started || o.begun)).foldl State.suspendFlash s

/-- The operation under way completes, or is suspended where it is a flash access, as one that a log churn suspended or that has
sectors left is; then both pails go into the log. No operation that waits starts any more. -/
def State.flush (s : State) : State :=
  let s0 := s.cutFlash
  let s1 := match s0.nvm.running with
    | some o => if o.kind.rank = 6 then s0.suspendFlash o else s0.nvmEffect o
    | none => s0
  { s1 with nvm := { s1.nvm with running := none, waiting := [] }, log := s1.log.flush s1.nowTs s1.clk.now s1.dropFrom }

/-! ## Restart -/

/-- Flags of the reset cause (R458). -/
def causeClockLoss : Nat := 0x100
/-- The flush before the reset completed. -/
def causeFlushDone : Nat := 0x200
/-- The reset ended a HOLDUP. -/
def causeAfterHoldup : Nat := 0x400
/-- The backup domain restarted. -/
def causeBkpLost : Nat := 0x800

/-- What of the configuration survives a reset: the two MRAM copies, the selector, the flash slots and the curve library. -/
def CfgSt.kept (c : CfgSt) : CfgSt :=
  { copy0 := c.copy0, copy1 := c.copy1, roles0 := c.roles0, roles1 := c.roles1, sel0 := c.sel0, sel1 := c.sel1,
    slots := c.slots, slotBad := c.slotBad, curves := c.curves }

/-- What of the recorder survives: the log with its numbering, and the progress of a clear. Records still in a pail are lost,
and a reset without a complete flush counts them until the log scan reports them (R363). -/
def LogSt.kept (l : LogSt) (flushed : Bool) : LogSt :=
  let n := l.pailA.length + l.pailB.length
  { slots := l.slots, next := l.next, clear := l.clear, limit := l.limit
    unflushed := if flushed || n = 0 then l.unflushed else some (l.unflushed.getD 0 + n) }

/-- What of security survives: fuses, the key store with a key that was to take effect at the next tick, the boot
directory and the slots, the progress of an erasure; a session only as R440 keeps it. -/
def SecSt.kept (x : SecSt) (session : Bool) : SecSt :=
  { x.busTick with update := none, onTrial := false, giveBack := false, bootNotes := [],
                   dbg := if session then { session := x.dbg.session, haltOnBoot := true } else {} }

/-- The node after a reset: everything that is not kept returns to its reset value, and start-up begins (Table 14.8). The
land levels of the encoder and limit inputs, VIO, VSHIP and RESET_N belong to the world outside. -/
def State.restart (s : State) (cause : Nat) (flushed session : Bool) : State :=
  let r := State.reset
  let t := s.clk.now
  { r with
    clk := { now := t }
    host := { r.host with up := s.host.up }
    cfg := s.cfg.kept
    nvm := { nextNum := s.nvm.nextNum }
    log := s.log.kept flushed
    bkp := s.bkp
    pwr := { startAt := t, vshipOn := s.pwr.vshipOn, dip := s.pwr.dip
             railsAt := if s.pwr.state = .off ∨ s.pwr.state = .backup ∨ s.pwr.state = .holdup then t + ms 5 else s.pwr.railsAt }
    rst := { cause := cause, low := s.rst.low, held := s.rst.low, endAt := t }
    cal := { part := s.cal.part, inForce := s.cal.part }
    notch := { lastOk := t }
    encs := s.encs.map (fun e => { ({} : EncSt) with a := e.a, b := e.b })
    dis := s.dis.map (fun d => { ({} : DiSt) with limit := d.limit })
    sec := s.sec.kept session
    free := s.free
    pending := s.pending }

/-- The node is powered, out of reset and not in `HOLDUP`: a reset of Table 17.7 can act. -/
def State.running (s : State) : Bool :=
  !s.rst.held && decide (s.pwr.state ≠ .off) && decide (s.pwr.state ≠ .backup) && decide (s.pwr.state ≠ .holdup)

/-- A reset with the flush before it (R362). -/
def State.flushReset (s : State) (code flags : Nat) : State :=
  (((s.endSession 5).flush).restart (code + flags + causeFlushDone) true false)

/-- A debug-commanded reset (R439, R442): in a `FULL` session with `HALT_ON_RESET`, outside FIELDED, the session is kept and
the processors halt after the secure boot (R440). -/
def State.debugReset (s : State) : State :=
  let keep : Bool := match s.sec.dbg.session with
    | some x => decide (x.level = .full) && tst x.flags 1 && decide (s.sec.life ≠ .fielded)
    | none => false
  if keep then s.flush.restart (7 + causeFlushDone) true true else s.flushReset 7 0

/-- A session ends (R440); `EXTEST` then acts as `BYPASS`, so the node leaves it (R442). -/
def State.closeSession (s : State) (cause : Nat) : State :=
  if s.sec.dbg.extest then (s.endSession cause).debugReset else s.endSession cause

/-- A reset without flush: brown-out. A flash write under way is cut short. -/
def State.coldReset (s : State) (code : Nat) : State :=
  (s.nvm.running.toList.foldl State.suspendFlash s.cutFlash).restart code false false

/-- The node-not-live cell has been driven, or cannot be: no drive waits or runs, or the pump may not start. -/
def State.cellIdle (s : State) : Bool :=
  (s.disp.cellPend.isNone && s.disp.cellRun.isNone) || decide (s.clk.now < s.disp.noStartUntil)

/-- A `GOING_DOWN` waits in a buffer. -/
def State.goingPending (s : State) : Bool := s.bus.ctl.any (fun c => c.proto.any (fun f => f.role = .goingDown))

/-- A commanded reset that waits can be taken: every `GOING_DOWN` has gone out, or 20 ms have passed, and the cell is done. -/
def State.resetReady (s : State) : Bool :=
  match s.rst.dueAt with | some d => (!s.goingPending || decide (d + ms 20 ≤ s.clk.now)) && s.cellIdle | none => false

/-- It is taken when it can be. -/
def State.resetDue (s : State) : State := if s.resetReady then s.flushReset 6 0 else s

/-- A culvert-commanded reset (R459): `GOING_DOWN` with reason 2, the node-not-live cell, the flush, the reset. The reset waits
for the `GOING_DOWN` to be sent and for the cell. -/
def State.commandedReset (s : State) : State :=
  let s1 := (s.sendGoingDown 2).driveCell true
  ({ s1 with rst := { s1.rst with dueAt := some s1.clk.now } }).resetDue

/-- Any reset leaves a held node alone; it acts only while the node runs. -/
def State.whenRunning (s : State) (go : State → State) : State := if s.running then go s else s

/-! ## Commands -/

/-- `RESET_N` (R474): low for at least 1 µs. In `HOLDUP` it is only noted, and without VSHIP it has no effect but its level. -/
def execResetN (t : Nat) (s : State) : Host.Outcome State Fault Refusal :=
  let s1 := s.advance t
  let s2 := { s1 with rst := { s1.rst with low := true } }
  .next (if s1.rst.low then s1 else s2.whenRunning (fun s => s.flushReset 2 0))

/-- `RESET_N_RELEASE` (R474): the reset ends, and the start-up timeline runs from this instant. -/
def execResetNRelease (t : Nat) (s : State) : Host.Outcome State Fault Refusal :=
  let s1 := s.advance t
  let s2 := { s1 with rst := { s1.rst with low := false } }
  .next (if s1.rst.held then
      { s2 with rst := { s2.rst with held := false, endAt := s2.clk.now }, pwr := { s2.pwr with startAt := s2.clk.now } }
    else s2)

/-- `INTERNAL_WATCHDOG` (R457): the supervisor has been silent for 50 ms. -/
def execInternalWatchdog (t : Nat) (s : State) : Host.Outcome State Fault Refusal :=
  .next ((s.advance t).whenRunning (fun s => s.flushReset 4 0))

/-- `LOCKSTEP_MISMATCH` (R18). -/
def execLockstepMismatch (t : Nat) (s : State) : Host.Outcome State Fault Refusal :=
  .next ((s.advance t).whenRunning (fun s => s.flushReset 5 0))

/-- The clock is lost (R17): frames and links stop. The NVM controller goes over to the PMU clock and completes its operation
before the flush and the reset; flash access is suspended for the flush, so that the reset follows at once. Until then the
banks' link watchdogs act on their own. -/
def State.clockLost (s : State) : State :=
  match s.nvm.running with
  | some o =>
    if o.kind.rank = 6 then s.flushReset 4 causeClockLoss
    else { s with frame := { s.frame with running := false, open_ := false },
                  rst := { s.rst with clockLoss := some s.clk.now } }
  | none => s.flushReset 4 causeClockLoss

/-- `CLOCK_LOSS` (R17). -/
def execClockLoss (t : Nat) (s : State) : Host.Outcome State Fault Refusal :=
  .next ((s.advance t).whenRunning State.clockLost)

/-- `TRANSMIT_SUCCESS` (R295): the frame on offer at its sync mark has been sent on a controller. -/
def execTransmitSuccess (t bus mark : Nat) (s : State) : Host.Outcome State Fault Refusal :=
  guardUnit (decide (bus < 4)) ((s.advance t).txSuccess bus mark (s.markClk mark).base).resetDue

/-- `ID_CLASH` (R296). -/
def execIdClash (t bus mark : Nat) (s : State) : Host.Outcome State Fault Refusal :=
  guardUnit (decide (bus < 4)) ((s.advance t).idClash bus mark).resetDue

/-- `SYS_RESET` (R459): a wrong word is refused; else `OK`, then the commanded reset. -/
def execSysReset (t tag : Nat) (s : State) : Host.Outcome State Fault Refusal :=
  .next (s.withCur t tag 0x0104 (fun f s =>
    if u32At f.req 16 ≠ 0x54455352 then s.refuse f (.badField, 16, []) else (s.ok f []).commandedReset))

/-! ## Completion rows -/

/-- The erasure of RETURNED is complete: the culvert-commanded reset follows (R425). -/
def State.returnDone (s : State) : State :=
  match s.sec.erasure with
  | some (4, _) => (s.modSec (fun x => { x with erasure := none })).commandedReset
  | _ => s

/-- The operation under way completes, and what its end brings: the reset of `FW_ACTIVATE` (R433) or of a lost clock (R17), the
end of an erasure, the end of an `EXTEST` with the session that provisioning ends (R440, R442). -/
def State.nvmEnd (s : State) : State :=
  let prefer := match s.nvmKind with | some (.directory (.prefer _)) => true | _ => false
  let s1 := s.nvmComplete
  if s1.rst.clockLoss.isSome then (if s.nvm.running.isSome then s1.flushReset 4 causeClockLoss else s1)
  else if prefer then s1.commandedReset
  else if s.sec.dbg.extest && !s1.sec.dbg.extest then s1.flushReset 7 0
  else s1.returnDone

/-- `NVM_OPERATION_COMPLETE` (R20). -/
def execNvmOperationComplete (t : Nat) (s : State) : Host.Outcome State Fault Refusal :=
  .next (s.advance t).nvmEnd

/-- `COMMIT_CHURN` (R73). -/
def execCommitChurn (e : ChurnIn) (s : State) : Host.Outcome State Fault Refusal :=
  .next ((s.advance e.t).nvmIf (fun k => decide (k = .commitChurn))
    (if e.failed then (fun s => if s.rst.clockLoss.isSome then s.commitFailed.flushReset 4 causeClockLoss else s.commitFailed)
     else State.nvmEnd))

/-- `CALIBRATION_CHURN` (R148). -/
def execCalibrationChurn (t : Nat) (s : State) : Host.Outcome State Fault Refusal :=
  .next ((s.advance t).nvmIf (fun k => decide (k = .calChurn)) State.nvmEnd)

/-- `LOG_CHURN_COMPLETE` (R358). -/
def execLogChurnComplete (t : Nat) (s : State) : Host.Outcome State Fault Refusal :=
  .next ((s.advance t).nvmIf (fun k => decide (k = .logChurn)) State.nvmEnd)

/-- `LOG_CLEAR_SEGMENT` (R20): a segment of a clear or of the MRAM erasure. -/
def execLogClearSegment (t : Nat) (s : State) : Host.Outcome State Fault Refusal :=
  .next ((s.advance t).nvmIf (fun k => decide (k = .clearSegment) || decide (k = .eraseFirst) || decide (k = .eraseSegment))
    State.nvmEnd)

/-- `RETURN_ERASURE` (R425): a write of the erasure completes, and the next starts as energy allows; `eu` is the usable energy
in µJ found while no frame measures it. -/
def execReturnErasure (t eu : Nat) (s : State) : Host.Outcome State Fault Refusal :=
  let s1 := s.advance t
  let s2 := if s1.frame.running then s1 else { s1 with pwr := { s1.pwr with euUj := eu } }
  let mine (k : NvmKind) : Bool := k = .keyChurn || k = .eraseFirst || k = .eraseSegment || k = .eraseSector
  .next (if s1.sec.erasure.isNone then s1
    else match s2.nvmKind with
      | some k => if mine k then s2.nvmEnd else s2
      | none => s2.nvmStart)

end Sys2Proof.Machine
end

