-- ==== Sys2Proof/Machine/Power.lean ====
section
/-!
DEFINITION. Node states (R387 to R392, R397), start-up (Table 14.10), HOLDUP (Table 14.11), standby and wake, the host
watchdog (R82).
-/

namespace Sys2Proof.Machine

open Sys2Proof

/-! ## Node states -/

/-- The power management state changed. -/
def State.modPwr (s : State) (f : PowerSt → PowerSt) : State := { s with pwr := f s.pwr }

/-- The node enters a state, logged as `NODE_STATE` (R387). ARMED clears a coil fault and resumes the compare units, which every
other state suspends; ARMED and SAFE drive the node-not-live cell light (R278, R417, R455). Halts that waited for SAFE act
(R437). -/
def State.setState (s : State) (st : NodeState) (cause : Nat) : State :=
  let old := s.pwr.state
  let s1 := (s.modPwr (fun p =>
    { p with state := st, cause := cause, armedSince := if st = .armed then some s.clk.now else none,
             safePend := if st = .armed then p.safePend else none })).cause 3
  let s2 := s1.logNode 0x0A01 (if st = .safe then 6 else 5) (old.code * 256 + st.code) cause
  match st with
  | .armed => (({ s2 with nok := { s2.nok with coilFault := false } }).driveCell false).each 8 State.cmpResume
  | .safe => ((s2.modDbg (fun d => { d with halted := d.halted ||| d.haltPend, haltPend := 0 })).driveCell false).each 8 State.cmpSuspend
  | _ => s2.each 8 State.cmpSuspend

/-- Requests that wait for an entry to SAFE are answered with the state they see (Table 14.19). -/
def State.stateEntered (s : State) : State :=
  s.endWaits (fun k => if k = .nodeState then some (.ok, 0, le8 s.pwr.state.code ++ zeros 3) else none)

/-- A pending entry to SAFE takes place at a tick (Table 14.8). -/
def State.safeTick (s : State) : State :=
  match s.pwr.safePend with
  | some c =>
    let s1 := s.modPwr (fun p => { p with safePend := none })
    if s1.pwr.state = .armed then s1.setState .safe c else s1
  | none => s

/-- A `FULL` session is open. -/
def State.fullSession (s : State) : Bool :=
  match s.sec.dbg.session with | some x => decide (x.level = .full) | none => false

/-- Live requests for a node state act at the tick (R396); one to arm is refused where a `FULL` session has opened since (R441). -/
def State.stateLive (s : State) : State :=
  s.live.foldl (fun s c =>
    match c.kind, c.applied with
    | .nodeState arm, none =>
      if arm && s.fullSession then s.endLive c .notPermitted 1 []
      else
        let s1 := if arm then (if s.pwr.state = .safe then s.setState .armed 1 else s)
          else if s.pwr.state = .armed then s.setState .safe 1 else s
        s1.endLive c .ok 0 (le8 s1.pwr.state.code ++ zeros 3)
    | _, _ => s) s

/-- `SYS_ARM` (R397). -/
def State.sysArm (f : Flight) (s : State) : State :=
  if s.pwr.state = .armed then s.complete f .ok 1 (le8 4 ++ zeros 3)
  else if s.fullSession || decide (s.frame.sinceSlip < 16) then s.refuse f (.notPermitted, 1, [])
  else if s.pwr.euUj < s.reserveUj then
    s.complete f .energyRefused 0 (le32 (s.reserveUj / 1000) ++ le32 (s.pwr.euUj / 1000))
  else s.addLive (.nodeState true) f

/-- `SYS_ARM` (R397). -/
def execSysArm (t tag : Nat) (s : State) : Host.Outcome State Fault Refusal :=
  .next (s.withCur t tag 0x0102 State.sysArm)

/-- `SYS_SAFE` (R397): in STARTING the node will end its start in SAFE, and the request waits for that. -/
def State.sysSafe (f : Flight) (s : State) : State :=
  if s.pwr.state = .safe then s.complete f .ok 1 (le8 5 ++ zeros 3)
  else if s.pwr.state = .starting then (s.modPwr (fun p => { p with startSafe := true })).wait f .nodeState
  else s.addLive (.nodeState false) f

/-- `SYS_SAFE`. -/
def execSysSafe (t tag : Nat) (s : State) : Host.Outcome State Fault Refusal :=
  .next (s.withCur t tag 0x0103 State.sysSafe)

/-! ## Arming (R388) -/

/-- Bank of a source that a bank gives (Table 08.1). -/
def sourceBank (kind idx : Nat) : Option Nat :=
  match kind with | 1 => some (idx / 8) | 2 => some (idx / 16) | 3 => some (idx / 8) | 4 => some (idx / 8) | 5 => some idx | _ => none

/-- A failed bank sources an enabled EMERGENCY weir: the weir names a source of the bank. -/
def State.bankSourcesEmergency (s : State) (b : Nat) : Bool :=
  (imgEntries s.cfg.img 0x21).any (fun a =>
    let c := weirCfg s.cfg.img a
    c.enable && decide (c.catPrio / 64 = 0) && decide (sourceBank c.kind c.index = some b))

/-- Every bank is powered, or has failed without sourcing an EMERGENCY weir. -/
def State.banksReady (s : State) : Bool :=
  (List.range 8).all (fun b => s.bankUp b || (decide ((s.bank b).power = .failed) && !s.bankSourcesEmergency b))

/-- Every bank that is up has settled and no channel is SETTLING, at the capture of frame `seq`. -/
def State.allSettled (s : State) (seq : Nat) : Bool :=
  s.banksReady && (List.range 8).all (fun b => !s.bankUp b || decide ((s.bank b).settleTo ≤ seq)) &&
    !(List.range 64).any (fun n => decide ((s.chan n).q = .settling))

/-- The arming conditions hold at the tick at hand (R388). -/
def State.armingMet (s : State) : Bool :=
  decide (s.pwr.state = .starting) && decide (s.pwr.stage = .restored) && s.banksReady && decide (16 ≤ s.frame.pubRun) &&
    decide (s.reserveUj ≤ s.pwr.euUj) && !s.fullSession

/-- `START_SAFE` of the power budget table. -/
def State.startSafeOpt (s : State) : Bool :=
  match budgetTable s.cfg.img with | some a => tst (s.cfg.img.u8 (a + 1)) 0 | none => false

/-- The end of STARTING at a tick that meets the conditions (Table 14.8). -/
def State.armTick (s : State) : State :=
  if s.armingMet then
    let s1 := if s.pwr.startSafe then s.setState .safe 1
      else if s.startSafeOpt then s.setState .safe 5 else s.setState .armed 0
    (s1.modPwr (fun p => { p with startSafe := false })).stateEntered
  else s

/-! ## Frames start and stop -/

/-- Local time of the first tick at or after local time `t0`: the next instant of the grid (R22). -/
def State.gridFrom (s : State) (t0 : Nat) : Nat :=
  let now := max t0 s.clk.now
  let p := periodOf s.frame.profile
  let at_ := s.clk.base + (now - s.clk.now)
  now + (p - at_ % p) % p

/-- Frames run from the first tick at or after `t0`. -/
def State.framesStart (s : State) (t0 : Nat) : State :=
  { s with frame := { s.frame with running := true, nextTick := s.gridFrom t0, open_ := false, slipped := false, pubRun := 0,
                                   consec := 0 } }

/-- Frames stop; the LIVE page stays, and what the frame in progress had computed is dropped. -/
def State.framesStop (s : State) : State :=
  { s with frame := { s.frame with running := false, open_ := false, slipped := false }, frameRecs := [], frameMsgs := [],
           eng := if s.frame.open_ then { s.prev with foIn := s.prev.foIn } else s.eng }

/-! ## Standby (R389) -/

/-- Call chains are idle, no message is sent (Table 09.12). -/
def State.chainsIdle (s : State) : State :=
  { s with eng := { s.eng with chains := s.eng.chains.map (fun _ => {}) }, prev := { s.prev with chains := s.prev.chains.map (fun _ => {}) } }

/-- Buses off: controllers and terminations (R288, R389). -/
def State.busesOff (s : State) : State :=
  s.modBus (fun n => { n with claimEnd := none,
                              ctl := n.ctl.map (fun c => { c with state := .off, proto := [], objs := [], holdEnd := none }) })

/-- Every bank shuts down for STANDBY. -/
def State.standbyBanks (s : State) : State :=
  (s.each 8 (fun s b => s.bankDown b .off)).modPwr (fun p => { p with banksPend := false })

/-- Every output is off at once, 0 mA. -/
def State.outsOff (s : State) : State :=
  s.each 64 (fun s n => s.modOut n (fun o => { ({} : OutSt) with setPoint := o.setPoint }))

/-- The charger's share while no frame decides it: class 4 is the only claimant left (R389). -/
def State.standbyCharge (s : State) : State :=
  s.modPwr (fun p => p.setCharge (chargePart (budget16 s.cfg.img 8 500) s.inputTop s.dissTop))

/-- STANDBY is entered at a tick: outputs and buses go off, frames stop, the cell is driven dark and the banks shut down once it
is (R417), a `FULL` session is reduced (R440); with it `EXTEST` is left, and the node takes a debug-commanded reset (R442). -/
def State.enterStandby (s : State) : State :=
  let s0 := ((s.setState .standby 7).modPwr (fun p => { p with standbyPend := false, shed := [] })).framesStop
  let s1 := ((s0.modDisp (fun d => { d with regions := d.regions.map (fun r => { r with toggle := none }) })).driveCell true).driveLands
  let s2 := ((s1.outsOff.busesOff).chainsIdle).standbyCharge
  let s3 := if s2.disp.cellRun.isSome then s2.modPwr (fun p => { p with banksPend := true }) else s2.standbyBanks
  let s4 := (s3.each 8 State.aoApply).nokUpdate
  let s5 := s4.modDbg (fun d => { d with halted := 0, haltPend := 0, session := d.session.map (fun (x : Session) =>
    { x with level := if x.level = .full then .observe else x.level }) })
  if s5.sec.dbg.extest then s5.debugReset else s5

/-- The display engine as time has passed while no tick comes: the pump and the cell; the banks of STANDBY go with its end, and a
commanded reset that waited for it is taken (R402, R417, R459). -/
def State.dispIdle (s : State) : State :=
  let s1 := s.dispSettle
  (if s1.pwr.banksPend && s1.disp.cellRun.isNone then s1.standbyBanks else s1).resetDue

/-- `PUMP_SHUTDOWN` (R402): 5 s with nothing to drive, or the end of the node-not-live cell while no tick comes. -/
def execPumpShutdown (t : Nat) (s : State) : Host.Outcome State Fault Refusal :=
  let s1 := s.advance t
  .next (if s1.frame.running then s1.modDisp (fun d => d.idleTick s1.clk.now) else s1.dispIdle).driveLands

/-- `PUMP_DISCHARGE_END` (R402): the discharge of 30 ms is over; a start that was held proceeds at the next tick (R392). -/
def execPumpDischargeEnd (t : Nat) (s : State) : Host.Outcome State Fault Refusal :=
  let s1 := s.advance t
  .next (if s1.frame.running then
      s1.modDisp (fun d => match d.pump with | .discharging _ => d.pumpTick s1.clk.now true | _ => d)
    else s1.dispIdle).driveLands

/-- `PWR_STANDBY` (R397): `OK`, then STANDBY at the next tick; the dwell is kept. -/
def execPwrStandby (t tag : Nat) (s : State) : Host.Outcome State Fault Refusal :=
  .next (s.withCur t tag 0x0A04 (fun f s =>
    (s.ok f []).modPwr (fun p => { p with standbyPend := true, dwell := u32At f.req 16 })))

/-- `STANDBY_DWELL` (R389): ARMED for the dwell; the node enters STANDBY at the next tick. -/
def execStandbyDwell (t : Nat) (s : State) : Host.Outcome State Fault Refusal :=
  let s1 := s.advance t
  .next (match s1.pwr.armedSince with
    | some a =>
      if s1.pwr.state = .armed && s1.pwr.dwell ≠ 0 && decide (a + secs s1.pwr.dwell ≤ s1.clk.now) then
        s1.modPwr (fun p => { p with standbyPend := true })
      else s1
    | none => s1)

/-- The node wakes: STARTING at bank power-up (Table 14.8); the sequence goes on (R25), the notch returns to 60.000 Hz (R130). -/
def State.wake (s : State) : State :=
  if s.pwr.state = .standby then
    let s' := if s.pwr.banksPend then s.standbyBanks else s
    let s0 : State := { s' with notch := { lastOk := s.clk.now } }
    let s1 := (s0.setState .starting 8).modPwr (fun p => { p with startAt := s.clk.now - ms 120, startSafe := false })
    (s1.framesStart s1.clk.now).claimStart
  else s

/-- `PWR_WAKE` (R397). -/
def execPwrWake (t tag : Nat) (s : State) : Host.Outcome State Fault Refusal :=
  .next (s.withCur t tag 0x0A05 (fun f s => s.wake.ok f []))

/-! ## Start-up (R390) -/

/-- `VSHIP_ON`: VSHIP rises through its ON threshold, VBAT at `vbat` mV. From OFF and BACKUP the node starts; the backup domain
restarts with it where its supply was lost (R332). -/
def execVshipOn (t vbat : Nat) (s : State) : Host.Outcome State Fault Refusal :=
  let s1 := s.advance t
  let on := { s1 with pwr := { s1.pwr with vshipOn := true, dip := false } }
  .next (if s1.pwr.state = .off ∨ s1.pwr.state = .backup then
      let b : BkpSt := if s1.bkp.down then { vbatMv := vbat } else { s1.bkp with vbatMv := vbat }
      ({ on with bkp := b }).restart (1 + if b.restarted then causeBkpLost else 0) true false
    else on)

/-- A finding of the ROM, for station firmware to log once it runs (R430, R443). -/
def State.bootNote (s : State) (code p1 p2 : Nat) : State :=
  s.modSec (fun x => { x with bootNotes := x.bootNotes ++ [(code, 6, p1, p2)] })

/-- The ROM chooses and checks a slot (R430): the state, and the slot accepted. Failed slots are noted; a trial without
attempts left has failed (R431). -/
def State.bootTry (s : State) : List Nat → State × Option Nat
  | [] => (s, none)
  | n :: r =>
    let x := s.sec.slot n
    if x.state = .trial && s.sec.attempts = 0 then
      State.bootTry ((s.modSec (fun y => y.setSlot n (fun z => { z with state := .failed }))).bootNote 0x0D04 n x.major256) r
    else if x.state = .valid || (x.state = .trial && n = s.sec.preferred) then
      match s.sec.bootCheck n with
      | none => (s, some n)
      | some k =>
        State.bootTry ((s.modSec (fun y => y.setSlot n (fun z => { z with state := .failed }))).bootNote 0x0D01 n k) r
    else State.bootTry s r

/-- The secure boot (R429 to R432): the directory copy in force, then the preferred slot, else the other, else the recovery port.
A trial costs an attempt, to be given back after power-on and after `HOLDUP`. Processors halt after it where a session was kept
for that (R440). -/
def State.secureBoot (s : State) : State :=
  let s0 := s.modSec SecSt.dirPick
  let p := s0.sec.preferred
  let (s1, slot) := s0.bootTry [p, 1 - p]
  match slot with
  | none => { s1 with pwr := { s1.pwr with stage := .recovery }, host := { s1.host with ready := true } }
  | some n =>
    let trial := (s1.sec.slot n).state = .trial
    let back := decide (s1.rst.cause % 256 = 1) || tst s1.rst.cause 10
    (s1.modSec (fun x =>
      { x with running := n, onTrial := trial, attempts := if trial then x.attempts - 1 else x.attempts, giveBack := trial && back
               dbg := { x.dbg with halted := if x.dbg.haltOnBoot then 7 else 0, haltOnBoot := false } })).modPwr
      (fun q => { q with stage := .booted })

/-- Start-up goes on: powered, out of reset, no processor halted. -/
def State.startsAt (s : State) (k : StartStage) : Bool :=
  decide (s.pwr.state = .starting) && !s.rst.held && decide (s.pwr.stage = k) && decide (s.sec.dbg.halted = 0)

/-- `SECURE_BOOT` (R430). -/
def execSecureBoot (t : Nat) (s : State) : Host.Outcome State Fault Refusal :=
  let s1 := s.advance t
  .next (if s1.startsAt .rails then s1.secureBoot else s1)

/-- `SELF_TEST` (R390): SRAM, MRAM and lockstep are good; station firmware runs, and gives an attempt back (R431). An erasure of
RETURNED that was interrupted goes on (R425). -/
def execSelfTest (t : Nat) (s : State) : Host.Outcome State Fault Refusal :=
  let s1 := s.advance t
  .next (if s1.startsAt .booted then
      ((s1.modPwr (fun p => { p with stage := .tested })).modSec (fun x =>
        { x with attempts := x.attempts + bit x.giveBack, giveBack := false })).eraseBegin
    else s1)

/-- The newest `DUTY_HANDOVER` record of the log names the duty engineer (R259). -/
def LogSt.dutyNamed (l : LogSt) : Option Nat :=
  ((l.slots.filter (fun p => decide (p.2.code = 0x050E))).foldl (fun acc p => match acc with
    | none => some p.2
    | some (r : Rec) => if seqDiff r.seq p.2.seq < 0 then some p.2 else some r) none).map (fun (r : Rec) => r.p1)

/-- The later of two sequence numbers (R359). -/
def laterSeq (a b : Nat) : Nat := if seqDiff a b < 0 then b else a

/-- The log scan (R363): slots whose record fails its CRC are empty and counted; the next sequence follows the highest that
survives, and no number below the limit of the last clear is given again (R367); an incomplete flush and an incomplete clear are
dealt with. -/
def State.logScan (s : State) (bad : List Nat) : State :=
  let l := s.log
  let hit := (l.slots.filter (fun p => bad.contains p.1)).map (fun p => p.1)
  let l1 := { l with slots := l.slots.filter (fun p => !bad.contains p.1) }
  let l2 := { l1 with next := if l1.newest = 0 then l.limit else laterSeq (seqAfter l1.newest) l.limit, lost := l.unflushed.getD 0, unflushed := none }
  let s1 := { s with log := l2 }
  let s2 := match hit with | [] => s1 | k :: _ => s1.logNode 0x0902 5 hit.length k
  let s3 := match l.unflushed with | some n => s2.logNode 0x0905 6 n 0 | none => s2
  clearRest clearSegments s3

/-- The configuration in force is restored: image, epochs, node ID and profile of the selected copy (R44, R73). -/
def State.restoreConfig (s : State) : State :=
  let c := match s.cfg.selector with
    | some (x, _) => { s.cfg with img := if x.copy = 0 then s.cfg.copy0 else s.cfg.copy1, epoch := x.epoch
                                  roles := if x.copy = 0 then s.cfg.roles0 else s.cfg.roles1 }
    | none => s.cfg
  let s1 := { s with cfg := c }
  let id := match imgEntry c.img 0x50 4 with | some a => c.img.u8 (a + 2) | none => 0
  { s1 with bus := { s1.bus with nodeId := id }, frame := { s1.frame with profile := sysByte c.img 0 1 } }

/-- Units take their entries at start-up: weirs, compare units, digital inputs, the banks' hull references, the duty engineer
(R119, R233, R259, R283). -/
def State.unitsStart (s : State) : State :=
  let m := s.cfg.img
  let s1 := { s with eng := { s.eng with weirs := s.eng.weirs.zipIdx.map (fun (p : WeirSt × Nat) =>
                WeirSt.fresh (tst (byteAt (entryBytes m 0x21 p.2) 3) 0)) }
                     dis := s.dis.map (fun (d : DiSt) => { d with enabledAt := s.clk.now })
                     banks := s.banks.zipIdx.map (fun (p : BankSt × Nat) =>
                       ({ p.1 with insul := { p.1.insul with hullRef := s.hullDeclared p.2 } } : BankSt)) }
  let s2 := s1.each 8 State.cmpFromTable
  let s3 := s2.dutySettle s2.log.dutyNamed
  { s3 with prev := s3.eng }

/-- Index of the event input whose oldest stamp is the earliest, with that stamp. -/
def BkpSt.firstStamp (b : BkpSt) : Option (Nat × Stamp) :=
  b.evts.zipIdx.foldl (fun acc p => match p.1.stack.head?, acc with
    | some x, none => some (p.2, x)
    | some x, some (i, y) => if tsUs x.ts < tsUs y.ts then some (p.2, x) else some (i, y)
    | none, _ => acc) none

/-- Stamps are drained in their order as `EVT_EDGE` records; one leaves its stack only when its record is in a pail (R348). -/
def drainStamps : Nat → State → State
  | 0, s => s
  | n + 1, s =>
    match s.bkp.firstStamp with
    | some (e, x) =>
      let cfg := (s.bkp.evts.getD e {}).cfg.toNat
      let r : Rec := { ts := x.ts, code := 0x0808, sev := cfg / 4096 % 8, kind := 16, idx := e, p1 := bit x.rising
                       flags := if tsUs x.ts + 1000000 < s.clk.base / 1000 then 2 else 0 }
      let (l, ok) := s.log.record r s.clk.now s.dropFrom
      if ok then
        drainStamps n { s with log := l, bkp := { s.bkp with evts := modAt s.bkp.evts e (fun y => { y with stack := y.stack.drop 1 }) } }
      else { s with log := l }
    | none => s

/-- The event inputs are drained: stamps, then the counts of lost edges (R348). -/
def State.evtDrain (s : State) : State :=
  (drainStamps 32 s).each 4 (fun s e =>
    let n := (s.bkp.evts.getD e {}).lost
    if n = 0 then s
    else ({ s with bkp := { s.bkp with evts := modAt s.bkp.evts e (fun y => { y with lost := 0 }) } }).logEv 0x0809 4 16 e 0xFFFF n 0)

/-- What the ROM found at the boot is logged (R430, R431). -/
def State.bootNoted (s : State) : State :=
  s.sec.bootNotes.foldl (fun s x => s.logNode x.1 x.2.1 x.2.2.1 x.2.2.2) (s.modSec (fun x => { x with bootNotes := [] }))

/-- What happened in the backup domain while no firmware ran is logged (log 162). -/
def State.bkpNotes (s : State) : State :=
  s.bkp.notes.foldl (fun s x => s.logNode x.1 x.2.1 x.2.2.1 x.2.2.2) { s with bkp := { s.bkp with notes := [] } }

/-- `CONFIG_RESTORED` (R390, Table 14.10): configuration, log scan, stamps drained, `NODE_RESET` and what the backup domain has to report, the
claim period, `CULVERT_READY`; the node-not-live cell is driven dark and the first tick is set for 120 ms. -/
def State.configRestored (s : State) (bad : List Nat) (holdMv : Nat) : State :=
  let s0 := s.restoreConfig.modPwr (fun p => { p with holdMv })
  let s1 := ((s0.modPwr (fun p => { p with euUj := s0.euNow })).logScan bad).evtDrain
  let s2 := s1.logNode 0x0E05 6 s1.rst.cause s1.cfg.epoch
  let s3 := if s2.bkp.restarted then
      ({ s2 with bkp := { s2.bkp with restarted := false } }).logNode 0x0801 5 s2.bkp.vbatMv 0
    else s2
  let s3a := s3.bootNoted.bkpNotes
  let s4 := ((s3a.unitsStart.claimStart).driveCell true).driveLands
  let s5 := { s4 with host := { s4.host with ready := true }, pwr := { s4.pwr with stage := .restored } }
  s5.framesStart (s5.pwr.startAt + ms 120)

/-- `CONFIG_RESTORED`; `badSlots` are the log slots whose CRC fails at the scan, `holdMv` is the voltage of HOLD, from which
E_u is first known (R371). An erasure under way comes first (R425). -/
def execConfigRestored (t : Nat) (badSlots : List Nat) (holdMv : Nat) (s : State) : Host.Outcome State Fault Refusal :=
  let s1 := s.advance t
  .next (if s1.startsAt .tested && s1.sec.erasure.isNone then s1.configRestored badSlots holdMv else s1)

/-! ## Power-fail (R369, R391) -/

/-- `VSHIP_DIP` (R369): the module runs from HOLD; the charger is off while the dip lasts and goes on after it. -/
def execVshipDip (t : Nat) (s : State) : Host.Outcome State Fault Refusal :=
  .next ((s.advance t).modPwr (fun p => { p with dip := true, vshipOn := false }))

/-- `VSHIP_RETURN` (R369): the dip ends before the qualification time. -/
def execVshipReturn (t : Nat) (s : State) : Host.Outcome State Fault Refusal :=
  .next ((s.advance t).modPwr (fun p => { p with dip := false }))

/-- Every request in flight, in the order: executing, queued, waiting, live, the commit, the modems. -/
def State.flights (s : State) : List Flight :=
  s.host.cur.toList ++ s.host.queue ++ s.host.waits.map (fun w => w.fl) ++ s.live.filterMap (fun l => l.fl) ++
    s.cfg.commit.toList.map (fun c => c.fl) ++ s.modems.flatMap (fun m => m.queue.map (fun x => x.fl))

/-- Tags in flight complete with `ABORTED`, detail `d`; the draft and the commit are lost (R63, R71). -/
def State.abortAll (s : State) (d : Nat) : State :=
  let fl := s.flights
  let s1 := { s with host := { s.host with cur := none, queue := [], waits := [] }, live := [],
                     cfg := { s.cfg with commit := none, draft := none },
                     modems := s.modems.map ModemSt.quiet, cal := { s.cal with runs := [] },
                     vib := { s.vib with next := none, running := false } }
  fl.foldl (fun s f => s.complete f .aborted d []) s1

/-- Every bank output takes its safe action at once (Table 07.5); a ramp-down runs on to its end, and pending enables are
discarded (R392). -/
def State.outsSafe (s : State) : State :=
  s.each 64 (fun s n =>
    if (s.out n).drive.ramping then s.modOut n (fun o => { o with reenable := false })
    else if (s.out n).drive.working then s.outToSafe n .safe else s)

/-- First-out sets, chains and the dead-man timer return to their idle states; encoder counters are cleared and compare trains
discarded (Tables 09.8, 09.12, 09.14, R269, R278). -/
def State.enginesIdle (s : State) : State :=
  let f (e : Eng) : Eng := { e with fo := e.fo.map (fun x => ({ mismatch := x.mismatch } : FoSt)), foIn := [], chains := e.chains.map (fun _ => {}), dead := {} }
  { s with eng := f s.eng, prev := f s.prev, encs := s.encs.map (fun e => { e.zeroed with cmp := {} }) }

/-- Entry to `HOLDUP` (Table 14.11), with VSHIP at `mv`. After the `POWER_FAIL` record nothing enters the log; an operation under
way goes on, and the flush is complete when the core rails are shed (R362). -/
def State.powerFail (s : State) (mv : Nat) : State :=
  let ts := s.evTs
  let s1 := s.modPwr (fun p => { p with state := .holdup, cause := 6, holdup := .running, armedSince := none,
                                        standbyPend := false, banksPend := false, safePend := none, startSafe := false,
                                        charging := false, chargeSet := 0, vshipOn := false, testRun := false, testDue := false, shed := [], vshipMv := mv })
  let s2 := (s1.enterRec { ts, code := 0x0A02, sev := 6, kind := 0, idx := s1.bus.nodeId, p1 := mv, p2 := s1.pwr.euUj / 1000 }).cause 3
  let s3 := ((s2.endSession 7).holdRel).abortAll 2
  let s4 := ((s3.framesStop.outsSafe).each 8 State.aoApply).nokUpdate
  let s5 := (s4.enginesIdle).dispHoldup
  let amp (a : AmpSt) : AmpSt := { a with reenable := false }
  let bank (k : BankSt) : BankSt :=
    { k with reenable := false, amps := k.amps.map amp, insul := { k.insul with gen := 0, valid := false } }
  let s6 := { s5 with banks := s5.banks.map bank }
  let s7 := { s6 with rst := { s6.rst with dueAt := none } }.sendGoingDown 1
  { s7 with log := { s7.log with closed := true } }

/-- `POWER_FAIL` (R369): VSHIP has stayed below FAIL for the qualification time. A node held in reset goes down without a
sequence. -/
def execPowerFail (t mv : Nat) (s : State) : Host.Outcome State Fault Refusal :=
  let s1 := s.advance t
  .next (if !s1.pwr.dip then s1
    else if s1.running then s1.powerFail mv
    else if s1.rst.held then
      { s1 with rst := { s1.rst with held := false }, pwr := { s1.pwr with state := .backup, vshipOn := false } }
    else s1)

/-- `CORE_RAILS_SHED` (R391): the flush is complete; loop drivers off, bus lands passive, host port undriven, an unsent `GOING_DOWN` dropped. -/
def State.railsShed (s : State) : State :=
  let s1 := ((s.flush).each 8 (fun s b => s.bankDown b .off)).busesOff
  (s1.modPwr (fun p => { p with holdup := .shed })).dispSettle.driveLands

/-- `CORE_RAILS_SHED`. -/
def execCoreRailsShed (t : Nat) (s : State) : Host.Outcome State Fault Refusal :=
  let s1 := s.advance t
  .next (if s1.pwr.state = .holdup && s1.pwr.holdup = .running then s1.railsShed else s1)

/-- The node goes down: BACKUP, or OFF with VBAT below retention, where the backup domain loses its supply (R331, R332); the
pails are lost where the flush is not complete (R363). -/
def State.goDown (s : State) (vbatOk flushed : Bool) : State :=
  let r := s.restart s.rst.cause flushed false
  { r with
    pwr := { r.pwr with state := if vbatOk then .backup else .off, cause := 6 }
    rst := { r.rst with held := false }
    bkp := { r.bkp with down := !vbatOk } }

/-- The end of `HOLDUP` (Table 14.8): a power-on start with VSHIP at or above ON, held with kind 2 while RESET_N is low; else
the node goes down. The core rails are shed by then. -/
def State.holdupEnd (s : State) (vbatOk : Bool) : State :=
  let s0 := if s.pwr.holdup = .running then s.railsShed else s
  let s1 := s0.dispSettle
  if s1.pwr.vshipOn then
    s1.restart ((if s1.rst.low then 2 else 1) + causeAfterHoldup + causeFlushDone) true false
  else s1.goDown vbatOk true

/-- `HOLDUP_COMPLETE`; `vbatOk` says that VBAT is above retention. -/
def execHoldupComplete (t : Nat) (vbatOk : Bool) (s : State) : Host.Outcome State Fault Refusal :=
  let s1 := s.advance t
  .next (if s1.pwr.state = .holdup then s1.holdupEnd vbatOk else s1)

/-- HOLD falls below 6.0 V before the sequence of `HOLDUP` ends (R391): every rail falls, and a flush that is not complete loses
the pails. The node starts anew where VSHIP is back, else it goes down to BACKUP; a low VBAT takes it to OFF by its own row. -/
def State.holdupBroken (s : State) : State :=
  let flushed := decide (s.pwr.holdup ≠ .running)
  let s1 := if flushed then s else s.nvm.running.toList.foldl State.suspendFlash s.cutFlash
  if s1.pwr.vshipOn then s1.restart (3 + causeAfterHoldup + if flushed then causeFlushDone else 0) flushed false
  else s1.goDown true flushed

/-- `BROWN_OUT` (R371, R391): a reset without flush. -/
def execBrownOut (t : Nat) (s : State) : Host.Outcome State Fault Refusal :=
  let s1 := s.advance t
  .next (if s1.pwr.state = .holdup then s1.holdupBroken else s1.whenRunning (fun s => s.coldReset 3))

/-- `VBAT_BELOW_RETENTION` (R387): BACKUP to OFF; the backup domain loses its supply. -/
def execVbatBelowRetention (t : Nat) (s : State) : Host.Outcome State Fault Refusal :=
  let s1 := s.advance t
  .next (if s1.pwr.state = .backup then
      { s1 with pwr := { s1.pwr with state := .off }, bkp := { s1.bkp with down := true } }
    else s1)

/-! ## The host watchdog (R82) -/

/-- Half the timeout has passed without a valid kick. -/
def State.wdogWarn (s : State) : State :=
  let w := s.host.wdog
  if w.running && !w.warned && s.wdogMs ≠ 0 && decide (2 * w.lastKick + ms s.wdogMs ≤ 2 * s.clk.now) then
    ({ s with host := { s.host with wdog := { w with warned := true } } }).cause 6
  else s

/-- `WDOG_WARN` (R82). -/
def execWdogWarn (t : Nat) (s : State) : Host.Outcome State Fault Refusal := .next (s.advance t).wdogWarn

/-- `HOST_WDOG_EXPIRED` (R82). -/
def execHostWdogExpired (t : Nat) (s : State) : Host.Outcome State Fault Refusal := .next (s.advance t).wdogExpire

end Sys2Proof.Machine
end

