-- ==== Sys2Proof/Machine/Sec.lean ====
section
/-!
DEFINITION. The SEC and FW opcodes (R423 to R433, R444, R445).
-/

namespace Sys2Proof.Machine

open Sys2Proof

/-- Detail 2 of `NOT_PERMITTED`: lifecycle or signature (R445). -/
def notPermitted2 : Refused := (.notPermitted, 2, [])

/-- The configuration epoch in force as the signed messages carry it. -/
def State.epochBytes (s : State) : List Byte := le16 s.cfg.epoch

/-! ## What is read -/

/-- `SEC_STATUS` (Table 16.13). -/
def State.secStatus (s : State) : List Byte :=
  let x := s.sec
  let hash (n : Nat) : List Byte := match x.ownerKey n with | some k => sha256 k | none => zeros 32
  let lvl := match x.dbg.session with | some y => y.level.code | none => 0
  let pend := match x.dbg.session with | some y => y.pendingUntil.isSome | none => false
  let setBits := ((List.range 4).map (fun k => bit (x.bus.getD k none).isSome * 2 ^ k)).sum
  le8 x.life.code ++ le8 x.fusedVersion ++ le8 (bit x.requireOwner) ++ le8 lvl ++ le8 (bit pend) ++ zeros 3 ++
    hash 0 ++ hash 1 ++ le8 setBits

/-- `SEC_STATUS`. -/
def execSecStatus (t tag : Nat) (s : State) : Host.Outcome State Fault Refusal :=
  .next (s.withCur t tag 0x0C01 (fun f s => s.ok f s.secStatus))

/-- `SEC_ID_KEY` (Table 16.13). -/
def execSecIdKey (t tag : Nat) (s : State) : Host.Outcome State Fault Refusal :=
  .next (s.withCur t tag 0x0C02 (fun f s =>
    s.ok f (uniqueBytes ++ publicKey s.sec.idKey ++ s.sec.certBytes)))

/-- What `SEC_ATTEST` signs: challenge, unique ID, firmware version, fused security version, configuration epoch. -/
def State.attestMsg (s : State) (f : Flight) : List Byte :=
  f.payload.take 32 ++ uniqueBytes ++ le8 s.fwVer.1 ++ le8 s.fwVer.2 ++ le8 s.sec.fusedVersion ++ s.epochBytes

/-- `SEC_ATTEST`: the signature's random number is drawn anew. -/
def execSecAttest (t tag : Nat) (s : State) : Host.Outcome State Fault Refusal :=
  .next (s.withCur t tag 0x0C03 (fun f s =>
    let (n, s1) := s.draw
    s1.ok f (ecdsaSign s1.sec.idKey (Config.random32 n).toNat (s1.attestMsg f))))

/-! ## Keys (R426 to R428) -/

/-- What is signed of a request whose signature stands at payload offset `n`: the payload before it, the unique ID. -/
def signedPart (f : Flight) (n : Nat) : List Byte := f.payload.take n ++ uniqueBytes

/-- The signature of a request at payload offset `n`. -/
def sigAt (f : Flight) (n : Nat) : List Byte := (f.payload.drop n).take 64

/-- A key store write waits for its energy (R426), then for its churn. -/
def State.keyWrite (s : State) (f : Flight) (data : List Byte) (arg : Nat) : State :=
  s.unlessNoWait f 2000 (fun s =>
    let (s1, op) := s.nvmRequest .keyChurn (Mem.fromList 0 data) arg
    s1.wait f (.nvm op))

/-- What forbids `SEC_OWNER_KEY` beyond Table 03.16 (R427, R444, R445): a key that is not zero for a revoke or a signature that is
not zero in PROVISIONED is a field out of its values. -/
def State.ownerKeyBad (s : State) (f : Flight) : Option Refused :=
  let slot := byteAt f.req 16
  let act := byteAt f.req 17
  let x := s.sec
  let empty := (x.ownerKey slot).isNone
  if act = 2 ∧ leNat ((f.payload.drop 4).take 64) ≠ 0 then some (.badField, 20, [])
  else if x.life = .provisioned ∧ leNat (sigAt f 68) ≠ 0 then some (.badField, 84, [])
  else
  match x.life with
  | .provisioned =>
    if f.origin ≠ .host ∧ f.origin ≠ .mailbox then some (.notPermitted, 3, [])
    else if act ≠ 0 ∨ !empty then some notPermitted2 else none
  | .fielded =>
    if act = 0 && !empty then some notPermitted2
    else if x.ownerSigned (1 - slot) (signedPart f 68 ++ s.epochBytes) (sigAt f 68) then none else some notPermitted2
  | _ => some notPermitted2

/-- `SEC_OWNER_KEY` (R427). -/
def execSecOwnerKey (t tag : Nat) (s : State) : Host.Outcome State Fault Refusal :=
  .next (s.withCur t tag 0x0C04 (fun f s =>
    match s.ownerKeyBad f with
    | some r => s.refuse f r
    | none => s.keyWrite f ((f.payload.drop 4).take 64) (keyArg 1 (byteAt f.req 16) (byteAt f.req 17))))

/-- The bus key of a request: it opens under the wrapping key made of the ECDH secret and the unique ID. -/
def SecSt.busKeyOf (x : SecSt) (f : Flight) : Option (List Byte) :=
  let p := f.payload
  match ecdh x.idKey ((p.drop 4).take 64) with
  | some z => gcmOpen (sha256 (z ++ uniqueBytes)) ((p.drop 68).take 12) ((p.drop 80).take 32) ((p.drop 112).take 16)
  | none => none

/-- `SEC_BUS_KEY` (R428): action 2 stands for a zero key, which erases, 1 for a slot that held a key, 0 else. -/
def State.busKey (s : State) (f : Flight) : State :=
  let slot := byteAt f.req 16
  if !s.sec.ownerSigned (byteAt f.req 17) (signedPart f 128) (sigAt f 128) then s.refuse f notPermitted2
  else
    match s.sec.busKeyOf f with
    | none => s.refuse f notPermitted2
    | some k =>
      let act := if leNat k = 0 then 2 else bit (s.sec.bus.getD slot none).isSome
      s.keyWrite f k (keyArg 2 slot act)

/-- `SEC_BUS_KEY`. -/
def execSecBusKey (t tag : Nat) (s : State) : Host.Outcome State Fault Refusal :=
  .next (s.withCur t tag 0x0C05 (fun f s => s.busKey f))

/-! ## Lifecycle (R423 to R425) -/

/-- `SEC_FIELD` (R424, R445). -/
def execSecField (t tag : Nat) (s : State) : Host.Outcome State Fault Refusal :=
  .next (s.withCur t tag 0x0C06 (fun f s =>
    if u32At f.req 20 ≠ 0x4649454C then s.refuse f (.badField, 20, [])
    else if (s.sec.ownerKey 0).isNone then s.refuse f notPermitted2
    else
      (((s.modSec (fun x => { x with requireOwner := x.requireOwner || tst (byteAt f.req 16) 0 })).setLife .fielded).ok f []).closeSession 8))

/-- RETURNED is entered (R425): nothing else is done before the erasure. The session and `EXTEST` end, every other request and the
NVM operations that wait are discarded, no log churn starts any more. -/
def State.toReturned (s : State) : State :=
  let s1 := ((s.setLife .returned).endSession 8).abortAll 3
  ({ s1 with host := { s1.host with ready := false }, log := { s1.log with closed := true }
             nvm := { s1.nvm with waiting := [] }, sec := { s1.sec with erasure := some (1, 0), update := none } }).eraseBegin

/-- `SEC_RETURN` (R424, R425). -/
def execSecReturn (t tag : Nat) (s : State) : Host.Outcome State Fault Refusal :=
  .next (s.withCur t tag 0x0C07 (fun f s =>
    if !s.sec.ownerSigned (byteAt f.req 16) (uniqueBytes ++ le32 0x52555445) (sigAt f 4) then s.refuse f notPermitted2
    else (s.ok f []).toReturned))

/-! ## Debug requests of the host (R438, R440) -/

/-- `SEC_DEBUG_CONFIRM` (R438). -/
def execSecDebugConfirm (t tag : Nat) (s : State) : Host.Outcome State Fault Refusal :=
  .next (s.withCur t tag 0x0C08 (fun f s =>
    match s.sec.dbg.session with
    | some x =>
      match x.pendingUntil with
      | some u =>
        if u ≤ s.clk.now then s.refuse f (.notPermitted, 1, [])
        else (s.modDbg (fun d => { d with session := some { x with level := .full, pendingUntil := none } })).ok f (le32 x.serial)
      | none => s.refuse f (.notPermitted, 1, [])
    | none => s.refuse f (.notPermitted, 1, [])))

/-- `SEC_DEBUG_END` (R440). -/
def execSecDebugEnd (t tag : Nat) (s : State) : Host.Outcome State Fault Refusal :=
  .next (s.withCur t tag 0x0C09 (fun f s => (s.ok f []).closeSession 1))

/-! ## Firmware (R433, R445) -/

/-- A slot is being erased: `FW` requests are refused with `BUSY`. -/
def State.fwErasing (s : State) : Bool :=
  match s.sec.update with | some u => decide (u.eraseLeft ≠ 0) | none => false

/-- A `FW` request that the erasure of a slot does not refuse. -/
def State.fwReq (s : State) (f : Flight) (go : State → State) : State :=
  if s.fwErasing then s.refuse f (.busy, f.origin.code, []) else go s

/-- `FW_INFO` (Table 16.13): the directory is read by the NVM controller. -/
def execFwInfo (t tag : Nat) (s : State) : Host.Outcome State Fault Refusal :=
  .next (s.withCur t tag 0x0D01 (fun f s => s.fwReq f (fun s => s.nvmRead f (fun f s => s.ok f s.fwInfo))))

/-- `FW_BEGIN` (R433): the slot that does not run becomes INCOMPLETE and its erasure begins. -/
def State.fwBegin (s : State) (f : Flight) : State :=
  let len := u32At f.req 16
  let n := 1 - s.sec.running
  if len < 256 ∨ 2097152 < len then s.refuse f (.badField, 16, [])
  else
    (s.modSec (fun x => { x with update := some { slot := n, len := len, eraseLeft := fwSectors } })).dirWrite f (.begin_ n)

/-- `FW_BEGIN`. -/
def execFwBegin (t tag : Nat) (s : State) : Host.Outcome State Fault Refusal :=
  .next (s.withCur t tag 0x0D02 (fun f s => s.fwReq f (fun s => s.fwBegin f)))

/-- Sectors that an update's bytes `[lo, hi)` touch and that are complete now and were not before. -/
def FwUpdate.completed (u v : FwUpdate) (lo hi : Nat) : List Nat :=
  (List.range ((hi + 4095) / 4096 - lo / 4096)).map (fun i => lo / 4096 + i) |>.filter (fun n =>
    decide (v.count n = 4096) && decide (u.count n < 4096))

/-- Sectors are asked to be programmed. -/
def State.fwProgram (s : State) (l : List Nat) : State :=
  l.foldl (fun s n => (s.nvmRequest .firmware [] (n + 1)).1) s

/-- `FW_WRITE` (R433): beyond the length given, or with no update open, it is refused. -/
def State.fwWrite (s : State) (f : Flight) : State :=
  let o := u32At f.req 16
  let b := f.payload.drop 4
  match s.sec.update with
  | none => s.refuse f (.busy, f.origin.code, [])
  | some u =>
    if u.len < o + b.length then s.refuse f (.busy, f.origin.code, [])
    else
      let v := { u with buffer := u.buffer.writeList o b, mask := u.mask.writeList o (b.map (fun _ => (1 : Byte))) }
      ((s.modSec (fun x => { x with update := some v })).fwProgram (u.completed v o (o + b.length))).ok f []

/-- `FW_WRITE`. -/
def execFwWrite (t tag : Nat) (s : State) : Host.Outcome State Fault Refusal :=
  .next (s.withCur t tag 0x0D03 (fun f s => s.fwReq f (fun s => s.fwWrite f)))

/-- Sectors of an update that hold loaded bytes and are not complete. -/
def FwUpdate.partial_ (u : FwUpdate) : List Nat :=
  (List.range ((u.len + 4095) / 4096)).filter (fun n => decide (u.count n ≠ 0) && decide (u.count n < 4096))

/-- `FW_FINISH` (R433, R445): what is left is programmed; the checks follow the last write. Without an open update an
INCOMPLETE slot fails. -/
def State.fwFinish (s : State) (f : Flight) : State :=
  match s.sec.update with
  | some u =>
    let (s1, op) := (s.fwProgram u.partial_).nvmRequest .firmware [] fwFinal
    s1.wait f (.nvm op)
  | none =>
    let n := 1 - s.sec.running
    if (s.sec.slot n).state = .incomplete then s.dirWrite f (.failed n 6)
    else s.refuse f (.notPermitted, 1, [])

/-- `FW_FINISH`. -/
def execFwFinish (t tag : Nat) (s : State) : Host.Outcome State Fault Refusal :=
  .next (s.withCur t tag 0x0D04 (fun f s => s.fwReq f (fun s => s.fwFinish f)))

/-- The slot in TRIAL, if there is one. -/
def SecSt.trialSlot (x : SecSt) : Option Nat :=
  (List.range 2).find? (fun n => decide ((x.slot n).state = .trial))

/-- `FW_ACTIVATE` (R433): the trial slot becomes preferred, then the commanded reset. -/
def execFwActivate (t tag : Nat) (s : State) : Host.Outcome State Fault Refusal :=
  .next (s.withCur t tag 0x0D05 (fun f s => s.fwReq f (fun s =>
    match s.sec.trialSlot with
    | none => s.refuse f (.notPermitted, 1, [])
    | some n => s.dirWrite f (.prefer n))))

/-- `FW_ACCEPT` (R431). -/
def execFwAccept (t tag : Nat) (s : State) : Host.Outcome State Fault Refusal :=
  .next (s.withCur t tag 0x0D06 (fun f s => s.fwReq f (fun s =>
    if s.onTrial then s.dirWrite f .accept else s.refuse f (.notPermitted, 1, []))))

/-- `FW_ACCEPTED` (R431): 600 s ARMED without a reset accept the running trial. -/
def execFwAccepted (t : Nat) (s : State) : Host.Outcome State Fault Refusal :=
  let s1 := s.advance t
  .next (match s1.pwr.armedSince with
    | some a => if s1.onTrial && decide (a + secs 600 ≤ s1.clk.now) && !s1.acceptPending then
        (s1.nvmRequest (.directory .accept) [] 0).1 else s1
    | none => s1)

end Sys2Proof.Machine
end

