-- ==== Sys2Proof/Machine/Debug.lean ====
section
/-!
DEFINITION. The TAP, the mailbox and debug sessions (R434 to R442).
-/

namespace Sys2Proof.Machine

open Sys2Proof

/-! ## The TAP (R434) -/

/-- The TAP answers: core rails up and the node not in `HOLDUP`; also while `RESET_N` holds it. -/
def State.tapUp (s : State) : Bool :=
  decide (s.pwr.state ≠ .off) && decide (s.pwr.state ≠ .backup) && decide (s.pwr.state ≠ .holdup) && decide (s.pwr.railsAt ≤ s.clk.now)

/-- An instruction is selected; leaving `EXTEST` for another one resets the node (R442). -/
def State.tapSelect (s : State) (i : TapInstr) (go : State → State) : State :=
  if !s.tapUp then s
  else if s.sec.dbg.extest && decide (i ≠ .extest) then s.debugReset
  else go (s.modDbg (fun d => { d with instr := i }))

/-- `IDCODE` (Table 16.6). -/
def execIdcode (t : Nat) (s : State) : Host.Outcome State Fault Refusal :=
  .next ((s.advance t).tapSelect .idcode (fun s => s.modDbg (fun d => { d with dataOut := 0x164801F3 })))

/-- `BYPASS`: the one-bit register captures 0. -/
def State.tapBypass (s : State) : State := s.tapSelect .bypass (fun s => s.modDbg (fun d => { d with dataOut := 0 }))

/-- `BYPASS` (R434). -/
def execBypass (t : Nat) (s : State) : Host.Outcome State Fault Refusal := .next (s.advance t).tapBypass

/-- The boundary register is available (R442). -/
def State.boundaryOpen (s : State) : Bool :=
  match s.sec.dbg.session with
  | some x =>
    decide (x.level = .full) && tst x.flags 0 &&
      (match s.sec.life with
       | .blank => true | .provisioned => true | .fielded => decide (s.pwr.state = .safe) | .returned => false)
  | none => false

/-- `SAMPLE/PRELOAD` (R442): the lands are captured and shifted out, the word shifted in is loaded. -/
def execSamplePreload (t lands word : Nat) (s : State) : Host.Outcome State Fault Refusal :=
  let s1 := s.advance t
  .next (if s1.boundaryOpen then
      s1.tapSelect .sample (fun s => s.modDbg (fun d => { d with dataOut := lands, boundary := word }))
    else s1.tapBypass)

/-- `EXTEST` (R442): the logic-die lands are driven from the boundary register. -/
def execExtest (t lands word : Nat) (s : State) : Host.Outcome State Fault Refusal :=
  let s1 := s.advance t
  .next (if s1.boundaryOpen then
      s1.tapSelect .extest (fun s => s.modDbg (fun d => { d with extest := true, dataOut := lands, boundary := word }))
    else s1.tapBypass)

/-! ## Opening a session (R435 to R438) -/

/-- A message of the node for the mailbox. -/
def State.mboxOut (s : State) (kind : Nat) (body : List Byte) : State :=
  s.modDbg (fun d => { d with out := d.out ++ [(kind, body)] })

/-- `HELLO` (R436): a challenge with a new nonce and a new ephemeral key. -/
def State.hello (s : State) : State :=
  if s.clk.now < s.sec.dbg.ignoreUntil then s
  else
    let (a, s1) := s.draw
    let (b, s2) := s1.draw
    let nonce := Config.random32 a
    let d := (Config.random32 b).toNat % (p256N - 1) + 1
    (s2.modDbg (fun x => { x with challenge := some (nonce, d) })).mboxOut 2
      (leBytes 32 nonce.toNat ++ uniqueBytes ++ le8 s.sec.life.code ++ le8 s.pwr.state.code ++ le8 s.timeQuality ++
        le64 s.nowTs ++ publicKey d)

/-- `HELLO`. -/
def execHello (t : Nat) (s : State) : Host.Outcome State Fault Refusal :=
  .next ((s.advance t).tapSelect .mailbox State.hello)

/-- Key that a certificate's signer names, where the lifecycle accepts that signer (Tables 16.7, 16.9). -/
def SecSt.signerKey (x : SecSt) (signer : Nat) : Option (List Byte) :=
  match signer, x.life with
  | 0, .fielded => none
  | 0, _ => some (leBytes 64 Config.rootKey.toNat)
  | 1, .fielded => x.ownerKey 0
  | 2, .fielded => x.ownerKey 1
  | _, _ => none

/-- A certificate of its form: magic and version (Table 16.7). -/
def certForm (c : List Byte) : Bool := u32At c 0 = 0x43444541 && u16At c 4 = 1 && c.length = 192

/-- Bit of the lifecycle mask. -/
def lifeBit (c : List Byte) (l : Lifecycle) : Bool := tst (byteAt c 7) l.code

/-- Highest level of the matrix for the lifecycle and node state (Table 16.9). -/
def State.matrix (s : State) : DbgLevel :=
  match s.pwr.state with
  | .off => .none | .backup => .none | .holdup => .none
  | .standby => .observe
  | _ => if s.sec.life = .fielded then .observe else .full

/-- A level code. -/
def levelOf (n : Nat) : DbgLevel := match n with | 1 => .observe | 2 => .full | _ => .none

/-- The lower of two levels. -/
def DbgLevel.min (a b : DbgLevel) : DbgLevel := if a.code ≤ b.code then a else b

/-- What an `AUTH` is refused for, by its status (Table 16.8); none when it is granted. -/
def State.authBad (s : State) (level : Nat) (c proof : List Byte) : Option Nat :=
  let x := s.sec
  let fixed := s.timeQuality ≠ 4
  let now := s.clk.base / 1000
  if x.dbg.session.isSome then some 10
  else
    match x.signerKey (byteAt c 8) with
    | none => some 9
    | some k =>
      if !certForm c || !ecdsaVerify k (c.take 128) (c.drop 128) then some 1
      else if (c.drop 16).take 16 ≠ uniqueBytes then some 2
      else if !lifeBit c x.life then some 3
      else if level = 0 ∨ 2 < level ∨ byteAt c 6 < level then some 4
      else if x.life ≠ .blank ∧ !fixed then some 6
      else if fixed ∧ (now < tsUs (u64At c 32) ∨ tsUs (u64At c 40) < now) then some 5
      else if s.matrix = .none then some 7
      else
        match x.dbg.challenge with
        | some (nonce, d) =>
          if ecdsaVerify ((c.drop 48).take 64) (leBytes 32 nonce.toNat ++ publicKey d ++ c ++ le8 level) proof then none
          else some 8
        | none => some 8

/-- A refused `AUTH`: counted, logged; after five the mailbox ignores `HELLO` for 60 s. -/
def State.authRefuse (s : State) (st serial : Nat) : State :=
  let n := s.sec.dbg.refused + 1
  let s1 := s.modDbg (fun d => { d with challenge := none, refused := if 5 ≤ n then 0 else n
                                        ignoreUntil := if 5 ≤ n then s.clk.now + secs 60 else d.ignoreUntil })
  (s1.mboxOut 4 (le8 st ++ zeros 2)).logNode 0x0C03 5 st serial

/-- A granted `AUTH` (R436 to R438): the lower of the level asked for and the matrix entry; in FIELDED a `FULL` request waits
for its confirmation; `FULL` in ARMED takes the node to SAFE at the next tick. -/
def State.authGrant (s : State) (level : Nat) (c : List Byte) : State :=
  let lvl := (levelOf level).min s.matrix
  let pend := decide (s.sec.life = .fielded) && level = 2
  let key := match s.sec.dbg.challenge with
    | some (nonce, d) => sha256 ((ecdh d ((c.drop 48).take 64)).getD [] ++ leBytes 32 nonce.toNat)
    | none => zeros 32
  let x : Session := { level := lvl, pendingUntil := if pend then some (s.clk.now + secs 60) else none, signer := byteAt c 8,
                       serial := u32At c 12, flags := byteAt c 9, notAfter := tsUs (u64At c 40),
                       key := BitVec.ofNat 256 (leNat key), lastOp := s.clk.now }
  let s1 := (s.modDbg (fun d => { d with session := some x, challenge := none, refused := 0 })).mboxOut 4
    (le8 0 ++ le8 lvl.code ++ le8 (bit pend))
  let s2 := s1.logNode 0x0C01 (if lvl = .full then 6 else 5) (lvl.code * 256 + x.signer) x.serial
  if lvl = .full && s.pwr.state = .armed then s2.modPwr (fun p => { p with safePend := some 3 }) else s2

/-- `AUTH`: level asked for, certificate, proof. The message's flags have no meaning in the spec and none here. -/
def execAuth (t level : Nat) (cert proof : List Byte) (s : State) : Host.Outcome State Fault Refusal :=
  .next ((s.advance t).tapSelect .mailbox (fun s =>
    match s.authBad level cert proof with
    | some st => s.authRefuse st (u32At cert 12)
    | none => s.authGrant level cert))

/-! ## Tagged operations (R436, R439) -/

/-- First four bytes of the CMAC of a message under the session key. -/
def Session.mac (x : Session) (m : List Byte) : Nat := leNat ((cmac (leBytes 32 x.key.toNat) m).take 4)

/-- A tagged operation: with the right tag it runs and keeps the session; a wrong tag is ignored, and the third ends the
session. Without a session nothing happens. -/
def State.tagged (s : State) (m : Session → List Byte) (mac : Nat) (go : Session → State → State) : State :=
  match s.sec.dbg.session with
  | none => s
  | some x =>
    if x.mac (m x) = mac then
      go x (s.modDbg (fun d => { d with session := some { x with lastOp := s.clk.now } }))
    else if 3 ≤ x.wrongTags + 1 then s.closeSession 4
    else s.modDbg (fun d => { d with session := some { x with wrongTags := x.wrongTags + 1 } })

/-- A mailbox message from its header on (R436). -/
def mboxMsg (kind : Nat) (body : List Byte) : List Byte := le8 kind ++ le8 0 ++ le16 body.length ++ body

/-- What a debugger reads from the mailbox (Table 16.6, R436): the node's messages with their headers, as little-endian words. -/
def State.mailboxWords (s : State) : List Nat :=
  let b := s.sec.dbg.out.flatMap (fun m => mboxMsg m.1 m.2)
  (List.range ((b.length + 3) / 4)).map (fun i => u32At b (4 * i))

/-- Responses of culverts as the mailbox gives them: messages of type 5 with their tag, while a session is open (R436). -/
def State.mailboxReplies (s : State) : List (Nat × List Byte) :=
  match s.sec.dbg.session with
  | some x => s.host.mbox.map (fun p => (p.1, mboxMsg 5 p.2 ++ le32 (x.mac (mboxMsg 5 p.2))))
  | none => []

/-- `MAILBOX_CULVERT` (R436): the request executes with origin `0x42`; a tag still in flight is ignored. -/
def execMailboxCulvert (t mtag : Nat) (req : List Byte) (mac : Nat) (s : State) : Host.Outcome State Fault Refusal :=
  .next ((s.advance t).tapSelect .mailbox (fun s => s.tagged (fun _ => mboxMsg 5 req) mac (fun _ s =>
    let id := 256 + mtag % 256
    if s.inFlight id then s else s.submit { id := id, origin := .mailbox, req := padTo 256 (req.take 256) })))

/-- `END` (R440): message of type 6. -/
def execMboxEnd (t mac : Nat) (s : State) : Host.Outcome State Fault Refusal :=
  .next ((s.advance t).tapSelect .mailbox (fun s => s.tagged (fun _ => mboxMsg 6 []) mac (fun _ s => s.closeSession 1)))

/-- What the tag of a `DBG_ACCESS` operation covers: operation, address, data, access counter. -/
def accessMsg (op addr data : Nat) (x : Session) : List Byte := le32 op ++ le32 addr ++ le32 data ++ le32 x.counter

/-- A `DBG_ACCESS` operation: the counter goes on with each one accepted. -/
def State.access (s : State) (op addr data mac : Nat) (go : Session → State → State) : State :=
  s.tapSelect .access (fun s => s.tagged (accessMsg op addr data) mac (fun x s =>
    go x (s.modDbg (fun d => { d with session := d.session.map (fun (y : Session) =>
      { y with counter := (y.counter + 1) % 4294967296 }) }))))

/-- Result of the last access. -/
def State.setAccess (s : State) (v : Nat) : State := s.modDbg (fun d => { d with accessOut := v })

/-- A word of memory space `sp`: as last written by the debugger, else a free value. -/
def State.coreRead (s : State) (sp a : Nat) : State :=
  match s.sec.dbg.words.find? (fun w => w.1 = sp && w.2.1 = a) with
  | some w => s.setAccess w.2.2
  | none => let (n, s1) := s.draw; s1.setAccess (Config.coreWord n).toNat

/-- A read by space (Table 16.10); a space that the level does not allow reads 0. Space 3 reads the halted processors. -/
def State.accessRead (s : State) (x : Session) (addr : Nat) : State :=
  let sp := addr / 268435456 % 16
  if sp = 0 then
    s.setAccess (u32At ((List.range 4).map (fun i => s.hostByte (addr % 1048576 / 4 * 4 + i))) 0)
  else if x.level ≠ .full then s.setAccess 0
  else if sp = 1 ∨ sp = 2 then s.coreRead sp (addr % 268435456)
  else if sp = 3 then s.setAccess s.sec.dbg.halted
  else s.setAccess 0

/-- `DBG_ACCESS_READ` (R439). -/
def execDbgAccessRead (t addr mac : Nat) (s : State) : Host.Outcome State Fault Refusal :=
  .next ((s.advance t).access 1 addr 0 mac (fun x s => s.accessRead x addr))

/-- Control of a processor (R439): halted processors are bits; a step leaves a processor halted. While the node is still ARMED,
until the tick after the `FULL` grant, a halt waits (R437). Provisioning waits for its write to the secure store (R424, R426). -/
def State.control (s : State) (c : DbgCtl) : State :=
  let halted (v cpu : Nat) (on : Bool) : Nat :=
    let b := 2 ^ (cpu % 3)
    if tst v (cpu % 3) = on then v else if on then v + b else v - b
  match c with
  | .halt k =>
    if s.pwr.state = .armed then s.modDbg (fun d => { d with haltPend := halted d.haltPend k true })
    else s.modDbg (fun d => { d with halted := halted d.halted k true })
  | .step _ => s
  | .resume k => s.modDbg (fun d => { d with halted := halted d.halted k false, haltPend := halted d.haltPend k false })
  | .reset => s.debugReset
  | .provision cert =>
    if s.sec.life = .blank then (s.nvmRequest .keyChurn (Mem.fromList 0 (cert.take 64)) (keyArg 3 0 0)).1 else s

/-- A write by space: `FULL` only, spaces 1 to 3 (Table 16.10). -/
def State.accessWrite (s : State) (x : Session) (addr word : Nat) (c : DbgCtl) : State :=
  let sp := addr / 268435456 % 16
  let a := addr % 268435456
  if x.level ≠ .full then s
  else if sp = 1 ∨ sp = 2 then
    s.modDbg (fun d => { d with words := (sp, a, word % 4294967296) :: d.words.filter (fun w => !(w.1 = sp && w.2.1 = a)) })
  else if sp = 3 then s.control c
  else s

/-- `DBG_ACCESS_WRITE` (R439). -/
def execDbgAccessWrite (t addr word : Nat) (ctl : DbgCtl) (mac : Nat) (s : State) : Host.Outcome State Fault Refusal :=
  .next ((s.advance t).access 2 addr word mac (fun x s => s.accessWrite x addr word ctl))

/-- `DBG_ACCESS_STATUS` (Table 16.6): level, and bit 8 while `FULL_PENDING`. -/
def execDbgAccessStatus (t addr mac : Nat) (s : State) : Host.Outcome State Fault Refusal :=
  .next ((s.advance t).access 3 addr 0 mac (fun x s => s.setAccess (x.level.code + 256 * bit x.pendingUntil.isSome)))

/-! ## What time ends (R438, R440) -/

/-- A session ends that has been idle for 10 minutes, or whose window has passed. -/
def State.sessionTime (s : State) : State :=
  match s.sec.dbg.session with
  | some x =>
    if s.timeQuality ≠ 4 ∧ x.notAfter < s.clk.base / 1000 then s.closeSession 2
    else if x.lastOp + secs 600 ≤ s.clk.now then s.closeSession 3 else s
  | none => s

/-- `SEC_SESSION_END` (R440). -/
def execSecSessionEnd (t : Nat) (s : State) : Host.Outcome State Fault Refusal := .next (s.advance t).sessionTime

/-- `FULL_PENDING_LAPSE` (R438): 60 s without confirmation. -/
def execFullPendingLapse (t : Nat) (s : State) : Host.Outcome State Fault Refusal :=
  let s1 := s.advance t
  .next (match s1.sec.dbg.session with
    | some x =>
      match x.pendingUntil with
      | some u =>
        if u ≤ s1.clk.now then s1.modDbg (fun d => { d with session := some { x with pendingUntil := none } }) else s1
      | none => s1
    | none => s1)

end Sys2Proof.Machine
end

