-- ==== Sys2Proof/Machine/TimeOps.lean ====
section
/-!
DEFINITION. Calendar, periodic wake and event inputs: the TIME opcodes and the events of the backup domain (R331 to R350).
-/

namespace Sys2Proof.Machine

open Sys2Proof

/-! ## TIME opcodes (Table 12.13) -/

/-- Timestamp of a backup-domain time in µs: quality 3, or 4 while TIME_VALID is clear (R346). -/
def BkpSt.tsOfUs (b : BkpSt) (us : Nat) : Nat := tsOf (us * 1000) (if b.timeValid then 3 else 4)

/-- `TIME_GET`: a snapshot of its own; the host's snapshot registers are not touched (R335). -/
def State.timeGet (s : State) : List Byte :=
  let b := s.bkp
  le64 (b.tsOfUs b.utcUs) ++ (bcdRegs b.localSec b.dst).flatMap le8 ++ le8 (twos 8 b.zone) ++ le8 s.bus.net.state ++ le16 b.stat

/-- `TIME_GET`. -/
def execTimeGet (t tag : Nat) (s : State) : Host.Outcome State Fault Refusal :=
  .next (s.withCur t tag 0x0801 (fun f s => s.ok f s.timeGet))

/-- A refusal of the backup domain: the register flags it, and the culvert completes with `DATE_INVALID` (R339). -/
def State.dateInvalid (s : State) (f : Flight) (k : Nat) : State :=
  ({ s with bkp := s.bkp.refuse k }).refuse f (.dateInvalid, k, [])

/-- `TIME_SET`: a pending set; the request completes at its boundary. -/
def State.timeSet (s : State) (f : Flight) : State :=
  let utc := u64At f.req 16
  let zone := signed 8 (byteAt f.req 24)
  let dst := byteAt f.req 25 = 1
  match checkUtc utc zone dst with
  | some k => s.dateInvalid f k
  | none => (s.setBkp (s.bkp.setPending utc zone dst)).wait f .timeSet

/-- `TIME_SET`. -/
def execTimeSet (t tag : Nat) (s : State) : Host.Outcome State Fault Refusal :=
  .next (s.withCur t tag 0x0802 (fun f s => s.timeSet f))

/-- `TIME_DST`: a pending summer-time command. -/
def State.timeDst (s : State) (f : Flight) : State :=
  let fwd := byteAt f.req 16 = 0
  match s.bkp.dstFault fwd with
  | some k => s.dateInvalid f k
  | none => (s.setBkp (s.bkp.writeDst fwd f.origin.code)).wait f .timeDst

/-- `TIME_DST`. -/
def execTimeDst (t tag : Nat) (s : State) : Host.Outcome State Fault Refusal :=
  .next (s.withCur t tag 0x0803 (fun f s => s.timeDst f))

/-- `TIME_TRIM`. -/
def execTimeTrim (t tag : Nat) (s : State) : Host.Outcome State Fault Refusal :=
  .next (s.withCur t tag 0x0804 (fun f s =>
    let b := { (s.bkp.setTrim (signed 16 (u16At f.req 16))) with autoTrim := byteAt f.req 18 = 1 }
    ({ s with bkp := b }).ok f (le16 (twos 16 b.trim) ++ le16 0)))

/-- `TIME_WAKE`. -/
def execTimeWake (t tag : Nat) (s : State) : Host.Outcome State Fault Refusal :=
  .next (s.withCur t tag 0x0805 (fun f s =>
    let n := u32At f.req 16
    ({ s with bkp := s.bkp.setWake (decide (n ≠ 0)) n }).ok f []))

/-- An event input changed. -/
def BkpSt.modEvt (b : BkpSt) (e : Nat) (f : EvtSt → EvtSt) : BkpSt := { b with evts := modAt b.evts e f }

/-- `TIME_EVT_SET`: the stack stays as it is (R347). -/
def execTimeEvtSet (t tag : Nat) (s : State) : Host.Outcome State Fault Refusal :=
  .next (s.withCur t tag 0x0806 (fun f s =>
    ({ s with bkp := s.bkp.modEvt (byteAt f.req 16) (fun x =>
        { x with cfg := BitVec.ofNat 32 (u16At f.req 18 &&& evtCfgMask) }) }).ok f []))

/-- `TIME_EVT_STATUS`. -/
def execTimeEvtStatus (t tag : Nat) (s : State) : Host.Outcome State Fault Refusal :=
  .next (s.withCur t tag 0x0807 (fun f s => s.ok f (le32 (s.bkp.evts.getD (byteAt f.req 16) {}).stat)))

/-! ## Second boundaries -/

/-- Station firmware runs: what happens in the backup domain can be logged. -/
def State.fwRuns (s : State) : Bool := s.running && decide (s.pwr.stage = .restored)

/-- An event of the backup domain: logged while station firmware runs, else kept until it does (log 162). -/
def State.logBkp (s : State) (code sev p1 p2 : Nat) : State :=
  if s.fwRuns then s.logNode code sev p1 p2
  else { s with bkp := { s.bkp with notes := s.bkp.notes ++ [(code, sev, p1, p2)] } }

/-- Nanoseconds that have passed since count `c` of the calendar. -/
def BkpSt.sinceNs (b : BkpSt) (c : Nat) : Nat := (b.cyc - c) * 1000000000 / 32768

/-- A pending set applies at its boundary (R336); on the active time master a changed UTC count steps the time base with it
(R343). -/
def State.rtcSet (s : State) : State :=
  match s.bkp.pendSet with
  | some p =>
    if p.due * 32768 ≤ s.bkp.clock then
      let past := s.bkp.clock - p.due * 32768
      let el := past * 1000000000 / 32768
      let was := min p.due (s.bkp.cyc / 32768)
      let b := { s.bkp with cyc := p.utc * 32768 + past, held := 0, zone := p.zone, dst := p.dst, pendSet := none, timeValid := true,
                            range := false }
      let s1 := ({ s with bkp := b }).logBkp 0x0805 4 was p.utc
      let s2 := if s1.bus.net.isMaster && decide (p.utc ≠ was) then
          s1.stepTime ((p.utc * 1000000000 + el : Nat) - (s1.clk.base : Int))
        else s1
      s2.endWaits (fun k => if k = .timeSet then some (.ok, 0, le64 (tsOf (s2.clk.base - el) s2.timeQuality)) else none)
    else s
  | none => s

/-- `RTC_SET` (R336). -/
def execRtcSet (t : Nat) (s : State) : Host.Outcome State Fault Refusal := .next (s.advance t).rtcSet

/-- A pending summer-time command applies at its boundary (R340); the UTC count stays (R337), and a calendar that stood at its
end runs on from the boundary. -/
def State.rtcDst (s : State) : State :=
  match s.bkp.pendDst with
  | some p =>
    if p.due * 32768 ≤ s.bkp.clock then
      let b := { s.bkp with dst := p.fwd, pendDst := none, held := 0,
                            cyc := s.bkp.cyc + min s.bkp.held (s.bkp.clock - p.due * 32768) }
      let s1 := ({ s with bkp := b }).logBkp 0x0806 3 (bit p.fwd) p.origin
      s1.endWaits (fun k => if k = .timeDst then some (.ok, 0, (bcdRegs b.localSec b.dst).flatMap le8) else none)
    else s
  | none => s

/-- `RTC_DST` (R340). -/
def execRtcDst (t : Nat) (s : State) : Host.Outcome State Fault Refusal := .next (s.advance t).rtcDst

/-- Network time less the calendar, in ns. -/
def State.calendarError (s : State) : Int := (s.clk.base : Int) - s.bkp.sinceNs 0

/-- The node is LOCKED to a master other than itself. -/
def State.lockedToNet (s : State) : Bool := decide (s.bus.net.state = 2) && !s.bus.net.isMaster

/-- The calendar takes a count, at most that of its end; what waits for a second boundary waits for the next one of the new
count. -/
def BkpSt.toCount (b : BkpSt) (c : Nat) : BkpSt :=
  let b1 := { b with cyc := min c b.endCyc, held := 0, frac := 0, timeValid := true }
  { b1 with pendSet := b1.pendSet.map (fun p => { p with due := b1.nextBoundary })
            pendDst := b1.pendDst.map (fun p => { p with due := b1.nextBoundary }) }

/-- The active master brings its time base onto its calendar: a step beyond 1 ms, else a slew over the next second (R343). -/
def State.masterAlign (s : State) (d : Int) : State :=
  if d.natAbs ≤ 1000000 then { s with clk := { s.clk with slew := -d, slewTime := secs 1, ratePpb := 10 * s.bkp.trim } }
  else s.stepTime (-d)

/-- A LOCKED node aligns its calendar to network time (R342): a difference beyond 100 µs is set right, one beyond 1 s logged. The
active master keeps its time base on its calendar. -/
def State.rtcAlign (s : State) : State :=
  let d := s.calendarError
  if s.fwRuns && s.bus.net.isMaster && !s.bkp.range && (decide (100000 < d) || decide (d < -100000)) then s.masterAlign d
  else if s.fwRuns && s.lockedToNet && (decide (100000 < d) || decide (d < -100000)) then
    let s1 := { s with bkp := s.bkp.toCount (s.clk.base * 32768 / 1000000000) }
    if 1000000000 < d ∨ d < -1000000000 then
      s1.logNode 0x0807 3 (twos 32 (clampI (-2147483648) 2147483647 (d / 1000000))) 0
    else s1
  else s

/-- `RTC_ALIGNED` (R342). -/
def execRtcAligned (t : Nat) (s : State) : Host.Outcome State Fault Refusal := .next (s.advance t).rtcAlign

/-- A measurement of the crystal over 1,024 s of `LOCKED` has ended (R342): its error against network time, in 0.01 ppm, is
subtracted from `TRIM` with `AUTO_TRIM` set, and the next measurement begins. The crystal is outside the model: the error
found is the row's. -/
def State.trimMeasured (s : State) (err : Int) : State :=
  match s.bus.net.trimSince with
  | some a =>
    if s.fwRuns && decide (s.bus.net.state = 2) && decide (a + secs 1024 ≤ s.clk.flow) then
      let s1 := s.modNet (fun n => { n with trimSince := some s.clk.flow })
      if s.bkp.autoTrim then { s1 with bkp := s1.bkp.setTrim (s1.bkp.trim - err) } else s1
    else s
  | none => s

/-- `AUTO_TRIM_MEASURE` (R342). -/
def execAutoTrimMeasure (t : Nat) (err : Int) (s : State) : Host.Outcome State Fault Refusal :=
  .next ((s.advance t).trimMeasured err)

/-- `RTC_RANGE` (R338): the calendar stands at its end. -/
def execRtcRange (t : Nat) (s : State) : Host.Outcome State Fault Refusal :=
  let s1 := s.advance t
  .next (if !s1.bkp.range && decide (s1.bkp.endCyc ≤ s1.bkp.cyc) then
      ({ s1 with bkp := { s1.bkp with range := true } }).logBkp 0x0804 6 0 0
    else s1)

/-- The time base takes the UTC count at the first second boundary after the main PLL runs in `STARTING` (R343), whatever state
the node has reached by then; a time base that has taken network time keeps it. -/
def State.takeUtc (s : State) : State :=
  let past := s.bkp.clock % 32768 * 1000000000 / 32768
  if s.running && !s.clk.fromRtc && !s.bus.net.taken && decide (s.pwr.startAt + past ≤ s.clk.now) then
    let utc := s.bkp.cyc / 32768 * 1000000000 + past
    let s1 := s.shiftTime ((utc : Int) - s.clk.base)
    { s1 with clk := { s1.clk with fromRtc := true, fromValid := s.bkp.timeValid } }
  else s

/-- `UTC_COUNT_TAKEN` (R343). -/
def execUtcCountTaken (t : Nat) (s : State) : Host.Outcome State Fault Refusal := .next (s.advance t).takeUtc

/-! ## Oscillator and supply (R331 to R333) -/

/-- `OSC_FAIL` (R333): no crystal cycle for 4 ms. -/
def execOscFail (t : Nat) (s : State) : Host.Outcome State Fault Refusal :=
  let s1 := s.advance t
  .next (if s1.bkp.onRc then s1
    else ({ s1 with bkp := { s1.bkp with onRc := true, oscFail := true, timeValid := false } }).logBkp 0x0802 5 s1.bkp.vbatMv 0)

/-- `CRYSTAL_RETURN` (R333): back to the crystal; TIME_VALID stays clear. -/
def execCrystalReturn (t : Nat) (s : State) : Host.Outcome State Fault Refusal :=
  let s1 := s.advance t
  .next { s1 with bkp := { s1.bkp with onRc := false } }

/-- Threshold of VBAT_LOW in mV (Table 12.1). -/
def vbatLowMv : Nat := 2350 + Config.vbatLowOffset % 101

/-- `VBAT_LOW` (R331): VBAT checked at `mv`; logged when it is found below its threshold for the first time. -/
def execVbatLow (t mv : Nat) (s : State) : Host.Outcome State Fault Refusal :=
  let s1 := s.advance t
  let low := decide (mv < vbatLowMv)
  let s2 := { s1 with bkp := { s1.bkp with vbatMv := mv, vbatLow := low } }
  .next (if low && !s1.bkp.vbatLow then s2.logBkp 0x0803 5 mv 0 else s2)

/-- `BKP_LOST` (R332): the supply returns and the domain restarts with every register at its reset value; without VSHIP the
node is then in BACKUP (Table 14.8). -/
def execBkpLost (t mv : Nat) (s : State) : Host.Outcome State Fault Refusal :=
  let s1 := s.advance t
  .next (if s1.bkp.down then
      { s1 with bkp := { vbatMv := mv }
                pwr := { s1.pwr with state := if s1.pwr.state = .off then .backup else s1.pwr.state } }
    else s1)

/-! ## Periodic wake (R345) -/

/-- The periodic wake expires: WAKE is set, the count starts again, and a node in STANDBY wakes. -/
def State.wakeExpire (s : State) : State :=
  match s.bkp.wakeDue with
  | some d =>
    if d ≤ s.bkp.age then
      ({ s with bkp := { s.bkp with wake := true, wakeDue := some (d + s.bkp.interval * wakeUnit) } }).wake
    else s
  | none => s

/-- `WAKE` (R345). -/
def execWake (t : Nat) (s : State) : Host.Outcome State Fault Refusal := .next (s.advance t).wakeExpire

/-! ## Event inputs (R346 to R348) -/

/-- The setting of an input admits an edge (Table 12.10). -/
def EvtSt.takes (e : EvtSt) (rising : Bool) : Bool := tst e.cfg.toNat (if rising then 0 else 1)

/-- A stamp joins the stack, or is counted as lost (R347). -/
def EvtSt.push (e : EvtSt) (x : Stamp) : EvtSt :=
  if 8 ≤ e.stack.length then { e with lost := satAdd 255 e.lost 1 } else { e with stack := e.stack ++ [x] }

/-- Backup time in µs at a local instant already past; a held calendar gives its held time (R338). -/
def State.bkpUsAt (s : State) (first : Nat) : Nat :=
  let b := s.bkp
  if b.range then b.utcUs else ({ b with cyc := b.cyc - ((s.clk.now - first) * b.rate / 100000000) * 32768 / 1000000000 }).utcUs

/-- Filter length of an event input in ns (Table 12.10); the reserved codes have a free one. -/
def EvtSt.filter (e : EvtSt) : Nat :=
  let c := e.cfg.toNat / 16 % 8
  if c = 0 then us 61 else if c = 1 then ms 1 else if c = 2 then ms 10 else if c = 3 then ms 100 else Config.evtFilter c

/-- An event input takes an edge, its new level having held for the filter length since its first sample at local time `first`;
a level that has not held so long is no edge (R346). -/
def State.evtEdge (s : State) (e : Nat) (level : Bool) (first : Nat) : State :=
  let x := s.bkp.evts.getD e {}
  if s.bkp.down || decide (s.clk.now < first + x.filter) then s
  else
  let b := s.bkp.modEvt e (fun y => { y with level })
  if x.takes level then
    let st : Stamp := { ts := b.tsOfUs (s.bkpUsAt first), rising := level }
    let wk := tst x.cfg.toNat 8
    let s1 := { s with bkp := { (b.modEvt e (fun y => y.push st)) with evtWake := b.evtWake || wk } }
    if wk then s1.wake else s1
  else { s with bkp := b }

/-- `EVT_EDGE` (R346). -/
def execEvtEdge (t e : Nat) (level : Bool) (first : Nat) (s : State) : Host.Outcome State Fault Refusal :=
  guardUnit (decide (e < 4)) ((s.advance t).evtEdge e level first)

/-- `EVT_DRAIN` (R348): while station firmware runs. -/
def execEvtDrain (t : Nat) (s : State) : Host.Outcome State Fault Refusal :=
  let s1 := s.advance t
  .next (if s1.fwRuns then s1.evtDrain else s1)

end Sys2Proof.Machine
end

