-- ==== Sys2Proof/Machine/Frame.lean ====
section
/-!
DEFINITION. The frame (chapter 02): what a tick does with the frame that ends and with the frame that opens, the page,
and the slip.
-/

namespace Sys2Proof.Machine

open Sys2Proof

/-! ## The page (Table 02.4) -/

/-- Frame flags (Table 02.6). -/
def State.frameFlags (s : State) : Nat :=
  bit s.unaligned * 8 + bit s.frame.profChanged * 4 + bit s.frame.cfgApplied * 2 + bit s.frame.slipBefore

/-- Header after its page epoch (Table 02.5). -/
def State.headerBytes (s : State) : List Byte :=
  le16 s.cfg.epoch ++ le8 s.frame.profile ++ le8 s.pwr.state.code ++ le64 s.frame.seq ++ le64 s.frame.captTs ++
    le32 s.frame.slips ++ le8 s.bus.nodeId ++ le8 s.frameFlags ++ zeros 34

/-- Channel region: records, charge blocks, switch summary (R161, R176, R177). -/
def State.chanRegion (s : State) : List Byte :=
  (List.range 64).flatMap s.chanBytes ++ (List.range 16).flatMap s.chargeBytes ++
    (s.chans.take 64).flatMap (fun c => le8 c.swBits)

/-- DI, AO and NOK_DRV records (Table 17.9). -/
def State.edgeRegion (s : State) : List Byte :=
  (List.range 16).flatMap s.diBytes ++ (List.range 8).flatMap s.aoBytes ++ s.nokBytes

/-- Records of the engines: blends, weirs, groups, first-out sets (R48). -/
def State.engRegion (s : State) : List Byte :=
  (List.range 256).flatMap (fun b => (s.eng.blends.getD b {}).bytes (s.cfg.roles.get .blend b)) ++
    (List.range 1024).flatMap (fun w => (s.weir w).bytes (s.weirCfgOf w) (s.cfg.roles.get .weir w)) ++
    (List.range 128).flatMap (fun g => (s.group g).bytes (s.cfg.roles.get .group g)) ++
    (List.range 32).flatMap (fun f => (s.fo f).bytes s.bus.nodeId)

/-- The page as the frame in progress computes it, from its first byte to the end of the display record. Page epoch, bus
health and log head are zero here: they are written as the page is published. -/
def State.pageBytes (s : State) : List Byte :=
  zeros 4 ++ s.headerBytes ++ s.chanRegion ++ s.edgeRegion ++ (List.range 8).flatMap s.encBytes ++ s.engRegion ++
    s.powerBytes ++ zeros 256 ++ s.dispBytes

/-- The page that is WRITE takes the content of the frame in progress. -/
def State.storePage (s : State) : State :=
  let b := Mem.fromList 0 s.pageBytes
  { s with frame := { s.frame with pages := s.frame.pages.map (fun (p : Page) =>
      if p.role = .write then { p with bytes := b } else p) } }

/-! ## The end of a frame -/

/-- The page epoch after `e` (R35). -/
def nextPageEpoch (e : Nat) : Nat := if e = 0xFFFFFFFF then 1 else e + 1

/-- The page that is WRITE is completed under page epoch `e`: header and trailer epoch, bus health, log head. -/
def State.sealPage (s : State) (e : Nat) : State :=
  let health := (List.range 4).flatMap s.busBytes
  let head := s.log.headBytes
  { s with frame := { s.frame with
      pageEpoch := e
      pages := s.frame.pages.map (fun (p : Page) =>
        if p.role = .write then
          { p with epoch := e, trailer := e,
                   bytes := ((p.bytes.writeList 0 (le32 e)).writeList 0x3800 health).writeList 0x3A00 head }
        else p) } }

/-- The read transaction that runs over a tick, with the page behind its window when it started (R38, R39). -/
def State.readOver (s : State) (r : TickRead) : ReadRun :=
  match r with
  | .none => .none
  | .live => .live (s.frame.pages.findIdx? (fun p => decide (p.role = .live)))
  | .held since =>
    .held (if s.heldPage.isSome then s.frame.pages.findIdx? (fun p => p.held)
      else match s.frame.left with | some (p, at_) => if since ≤ at_ then some p else none | none => none)
  | .goesOn => s.frame.read

/-- The page that a HELD-window transaction keeps out of rotation (R39). -/
def ReadRun.busy : ReadRun → Option Nat
  | .held p => p
  | .live _ => Option.none
  | .none => Option.none

/-- Pages and hold at a tick (R36, R40): `pub` says that the tick ends a published frame; `r` is the read transaction that runs
over it. -/
def State.pagesTick (s : State) (pub : Bool) (r : TickRead) : State :=
  let run := s.readOver r
  let busy := run.busy
  let f : FrameSt := { s.frame with read := run }
  let take := decide (f.hold = .requested) || decide (f.hold = .heldMove)
  let ps := if pub then rotate take busy f.pages else if take then holdLive f.pages else f.pages
  let s1 := { s with frame := ({ f with pages := ps } : FrameSt).holdTick s.clk.now }
  let s2 := (if f.hold = .requested then s1.cause 1 else s1).expireHold
  { s2 with frame := { s2.frame with
      left := none, pages := if s2.frame.hold = .none then dropHeld s2.frame.pages else s2.frame.pages } }

/-- A weir has changed state in the frame just published. -/
def State.alarmChanged (s : State) : Bool :=
  (s.eng.weirs.zip s.prev.weirs).any (fun p => decide (p.1.state ≠ p.2.state))

/-- Status of a code (Table 03.15). -/
def Status.ofCode (c : Nat) : Status :=
  [Status.ok, .pending, .badOpcode, .badLength, .badField, .roleStale, .epochStale, .claimConflict, .budgetRefused,
    .energyRefused, .notPermitted, .busy, .dateInvalid, .hwFault, .queueFull, .aborted, .overwritten].getD c .ok

/-- Live commands that the published frame shows are answered (R65). -/
def answerShown : List LiveCmd → State → State
  | [], s => s
  | c :: r, s =>
    answerShown r (match c.fl, c.applied with
      | some f, some (st, d, p) => if c.shown then s.complete f (Status.ofCode st) d p else s
      | _, _ => s)

/-- The records of the frame that is published enter (R355). -/
def State.releaseRecs (s : State) : State := s.frameRecs.foldl State.enterRec { s with frameRecs := [] }

/-- What a published frame releases: its messages, then the answers that waited for it (R65). -/
def State.release (s1 : State) : State :=
  let s2 := s1.frameMsgs.foldl (fun s m => s.sendProto m.bus m.prio m.cls m.index m.body .other) { s1 with frameMsgs := [] }
  let s3 := s2.endWaits (fun k => match k with | .publish p => some (.ok, 0, p) | _ => none)
  let live := s3.live
  answerShown live { s3 with live := live.filter (fun c => !c.shown) }

/-- The frame that ends is published (R36): its records enter, so that the log head shows them (R365), the page becomes LIVE
under the next page epoch, the engines' state stands. -/
def State.publish (s : State) (r : TickRead) : State :=
  let s0 := s.releaseRecs
  let s1 := if s.alarmChanged then s0.cause 5 else s0
  let s2 := (s1.sealPage (nextPageEpoch s.frame.pageEpoch)).pagesTick true r
  let s3 := { s2 with
    prev := s2.eng
    frame := { s2.frame with lastPub := some s2.clk.now, pubSeq := s2.frame.seq - 1, pubRun := if s2.frame.settled then s2.frame.pubRun + 1 else 0,
                             sinceSlip := min 16 (s2.frame.sinceSlip + 1), consec := 0, slipBefore := false,
                             cfgApplied := s2.frame.cfgApplied && !s2.frame.cfgShown, profChanged := s2.frame.profChanged && !s2.frame.profShown } }
  (List.range 8).foldl State.bindRegion (((s3.sendBlocks s3.frame.pubSeq).cause 10).release)

/-- The frame that ends has been computed and has not slipped. -/
def State.published (s : State) : Bool := s.frame.open_ && !s.frame.slipped

/-- The tick ends the frame in progress, if there is one: objects still due go out first, the frame is published or not,
the objects of this tick fall due (R36, R52, R316). -/
def State.tickEnd (s : State) (r : TickRead) : State :=
  let pub := s.published
  let s1 := s.objFlush
  let s2 := if pub then s1.publish r else s1.pagesTick false r
  let s3 := { s2 with frame := { s2.frame with prevBase := if s.frame.open_ then s.frame.captBase else s.clk.base
                                               open_ := false, slipped := false } }
  s3.objTick pub

/-! ## A slip (R50 to R53) -/

/-- A live command whose effect a slip discards: those of steps 3 to 5. -/
def LiveKind.ofEngines : LiveKind → Bool
  | .weirAck _ | .weirShelve _ _ | .weirService _ _ | .groupAck _ | .totalReset _ | .callAccept _ _ _ | .foReset _ | .duty _ _
  | .deadman _ => true
  | .outSet _ _ | .aoCommand _ _ | .chargeReset _ | .rebase _ _ _ | .cmpArm _ _ _ _ _ | .cmpStop _ | .nodeState _ => false

/-- The frame in progress slips: what steps 3 to 6 computed is discarded, the slip is counted and logged, a second slip in
a row asks for SAFE at its tick (R50, R51, R53). The values and switch states that its capture put into the channels go with it. -/
def State.slipFrame (s : State) : State :=
  let seq := s.frame.seq - 1
  let s1 := s.headgateUndo.logNode 0x0101 6 (seq % 4294967296) (seq / 4294967296)
  let n := s1.frame.consec + 1
  let s2 := { s1 with
    eng := { s1.prev with foIn := s1.prev.foIn ++ s1.eng.foIn }
    frameRecs := [], frameMsgs := []
    chans := s1.chans.map ChanSt.restore
    live := s1.live.map (fun (c : LiveCmd) => if c.kind.ofEngines then { c with applied := none, shown := false } else c)
    frame := { s1.frame with slipped := true, slips := min 0xFFFFFFFF (s1.frame.slips + 1), slipBefore := true,
                             lastSlip := some s1.clk.now, sinceSlip := 0, consec := n, pubRun := 0 } }
  if 2 ≤ n then s2.modPwr (fun p => { p with safePend := some 2 }) else s2

/-! ## The frame that opens -/

/-- The next tick: one period on, drawn to the grid by at most 1 µs while the error exceeds 2 µs (R23). -/
def State.nextTick (s : State) : State :=
  let e := s.phaseError
  let off := decide (2000 < e.natAbs)
  let d : Int := (periodOf s.frame.profile : Int) - (if off then clampI (-1000) 1000 e else 0)
  { s with frame := { s.frame with nextTick := s.clk.now + d.toNat } }

/-- The frame opens at the tick (R22, R23). -/
def State.frameOpen (s : State) : State :=
  let s1 := s.openFrame
  { s1 with frame := { s1.frame with open_ := true, slipped := false } }

/-- Supplies, front ends and charge amplifiers at a tick (R88, R94, R100). -/
def State.banksTick (s : State) : State :=
  (s.chargeLive).each 8 (fun s b =>
    let s1 := ((s.ampEnd b 0).ampEnd b 1).bankStart b
    let s2 := if s1.bankUp b then ((s1.bankSetup b).ampSetup b 0).ampSetup b 1 else s1
    s2.supplyTick b)

/-- Currents, bus loads and bus errors of the capture. -/
def State.takeLines (s : State) (x : TickIn) : State :=
  let s1 := (s.takeAos x.ao x.aoMv).nokSample x.nokMa
  x.busErrs.foldl State.busError (s1.modBus (fun n => { n with ctl := n.ctl.zipIdx.map (fun (p : BusCtl × Nat) =>
    ({ p.1 with load := x.busLoad.getD p.2 0 } : BusCtl)) }))

/-- One channel is captured, as an output or as an input (steps 1 and 2). -/
def State.captureChan (x : TickIn) (seq : Nat) (s : State) (n : Nat) : State :=
  let i := x.chans.getD n {}
  if isOut (s.func n) then s.captureOut seq n i else s.captureIn seq n i

/-- Steps 1 and 2 of Table 01.3 at the tick of frame `seq`; `dt` is the time since the capture before. -/
def State.capture (s : State) (x : TickIn) (seq dt : Nat) : State :=
  let s1 := ((s.modNotch (fun n => { n with ftTick := n.ft })).encLive.busCapture).takeLines x
  let s2 := (((s1.powerCapture x dt).nvmStart).clearRetry).logDrops
  let s3 := (List.range 16).foldl (fun s i => s.captureDi i (x.di.getD i 0)) s2
  let s4 := s3.each 8 (fun s k => (s.captureEnc k).ssiStart k seq)
  let s5 := (List.range 64).foldl (State.captureChan x seq) { s4 with chans := s4.chans.map ChanSt.keep }
  let s6 := s5.vibCapture seq (fun n => s4.chIn n (x.chans.getD n {}))
  s6.dispTemp (fun n => s6.source 1 n)

/-- Outputs that start at the tick (R198). -/
def State.freshOuts (s : State) : List Nat :=
  (List.range 64).filter s.outMayStart

/-- A live `IO_AO_COMMAND` stands for its output from this frame on (R450). -/
def State.aoLive (s : State) : State :=
  s.live.foldl (fun s c =>
    match c.kind, c.applied with
    | .aoCommand k v, none =>
      if c.role != s.cfg.roles.get .ao k then s.answerLive c 255 [] else s.modAo k (fun a => { a with cmd := v })
    | _, _ => s) s

/-- Its answer: the flags of the output after the grants (Table 17.11). -/
def State.aoAnswer (s : State) : State :=
  s.live.foldl (fun s c =>
    match c.kind, c.applied with
    | .aoCommand k _, none => s.answerLive c 0 (le8 (s.aoFlags k) ++ zeros 3)
    | _, _ => s) s

/-- Steps 3 to 5 of Table 01.3. -/
def State.engines (s : State) : State := ((((s.evalSlots.evalWeirs).alarmStep).foStep).chainsStep).rosterStep

/-- Step 6: output commands, grants, and what the bus objects will send. -/
def State.commands (s : State) : State :=
  let s1 := { s with outs := s.outs.map (fun (o : OutSt) => ({ o with was := (o.target, o.waiting, o.srcFault) } : OutSt)) }
  let s2 := s1.outLive.each 64 (fun s n => if isOut (s.func n) && decide ((s.out n).drive ≠ .off) then s.outTake n else s)
  let s3 := s2.aoLive.each 8 State.aoCommand
  (s3.headgate.aoAnswer).objCompute

/-- The frame is computed: its page content is stored, the commands it shows are marked, the next tick is set. -/
def State.frameDone (s : State) : State :=
  let s1 := (s.nokUpdate.takeFlags s.frame.seq).storePage
  let s2 := { s1 with
    live := s1.live.map (fun (c : LiveCmd) => { c with shown := c.applied.isSome })
    host := { s1.host with waits := s1.host.waits.map Wait.show }
    pwr := { s1.pwr with inputLimited := false, peakCut := 0, peakHold := 0 }
    frame := { s1.frame with settled := s1.allSettled s1.frame.seq, seq := s1.frame.seq + 1,
                             cfgShown := s1.frame.cfgApplied, profShown := s1.frame.profChanged } }
  s2.nextTick

/-- A ready commit applies at a tick that ends a published frame (R45). -/
def State.commitTick (s : State) (pub : Bool) : State := if pub then s.configTick else s

/-- State changes that wait for a tick: SAFE, the requests for a state, the end of STARTING (Table 14.8). -/
def State.stateTick (s : State) : State := (s.safeTick.stateLive).armTick

/-- The tick after the frame that ended: states, outputs of the edge, configuration, keys; then the capture and the
computation of the frame that opens (R30, Table 01.3). -/
def State.tickBegin (s : State) (pub : Bool) (x : TickIn) : State :=
  let dt := s.clk.now - s.frame.captNow
  let s1 := s.stateTick
  let s2 := if pub || decide (s1.pwr.state ≠ .armed) then s1.each 8 State.aoApply else s1
  let s3 := (s2.commitTick pub).modSec SecSt.busTick
  let s4 := ((s3.calEnds).calTick).frameOpen
  let s5 := s4.banksTick
  let fresh := s5.freshOuts
  let s6 := (((fresh.foldl State.outStart s5).capture x s4.frame.seq dt).outputsAct pub fresh).dispTick
  ((s6.engines).commands).frameDone

/-- A tick. A frame that the halted processors could not compute has slipped (R441); a pending STANDBY is entered after
the publication (R389). -/
def State.frameTick (s : State) (x : TickIn) : State :=
  if s.frame.running then
    let s1 := s.advance s.frame.nextTick
    if s1.resetReady then s1.flushReset 6 0
    else
    let s2 := if s1.frameHalted && s1.published then s1.slipFrame else s1
    let pub := s2.published
    let s3 := s2.tickEnd x.read
    if s3.pwr.standbyPend then s3.enterStandby else s3.tickBegin pub x
  else s

/-! ## Commands -/

/-- `FRAME_TICK` (R30, R36, R40): the next tick, with what the node captures at it; no tick comes while frames are
stopped. -/
def execFrameTick (inp : TickIn) (s : State) : Host.Outcome State Fault Refusal := .next (s.frameTick inp)

/-- `FRAME_SLIP` (R49, R50): the frame in progress has missed its compute deadline. -/
def execFrameSlip (t : Nat) (s : State) : Host.Outcome State Fault Refusal :=
  let s1 := s.advance t
  .next (if s1.published then s1.slipFrame else s1)

/-- `ARMING_CONDITIONS` (R388): the arming conditions are met at the tick at hand, the frame that ends there counted. -/
def execArmingConditions (t : Nat) (s : State) : Host.Outcome State Fault Refusal :=
  let s1 := s.advance t
  let run := s1.frame.pubRun
  let s2 := ({ s1 with frame := { s1.frame with pubRun := if s1.published && s1.frame.settled then run + 1 else run } }).armTick
  .next (if s1.frame.running && decide (s1.frame.nextTick ≤ s1.clk.now) then
    { s2 with frame := { s2.frame with pubRun := run } } else s1)

/-- `STANDBY_ENTRY` (R389): a node that is to enter STANDBY does so at the tick at hand, once its frame is published. -/
def execStandbyEntry (e : EntryIn) (s : State) : Host.Outcome State Fault Refusal :=
  let s1 := s.advance e.t
  .next (if s1.frame.running && decide (s1.frame.nextTick ≤ s1.clk.now) && s1.pwr.standbyPend then
    (s1.tickEnd e.read).enterStandby else s1)

end Sys2Proof.Machine
end

