-- ==== Sys2Proof/Machine/Dispatch.lean ====
section
/-!
DEFINITION. One arm per command: a direct call of its meaning.
-/

namespace Sys2Proof.Machine

open Sys2Proof

def exec (i : Instr) (s : State) : Host.Outcome State Fault Refusal :=
  match i with
  | .hostRegWrite t addr data => Sys2Proof.Machine.execHostRegWrite t addr data s
  | .spiErr t kind => Sys2Proof.Machine.execSpiErr t kind s
  | .doorbell t tag => Sys2Proof.Machine.execDoorbell t tag s
  | .hpDone t tag => Sys2Proof.Machine.execHpDone t tag s
  | .holdReq t => Sys2Proof.Machine.execHoldReq t s
  | .holdRel t => Sys2Proof.Machine.execHoldRel t s
  | .kick t v => Sys2Proof.Machine.execKick t v s
  | .rtcSecRead t => Sys2Proof.Machine.execRtcSecRead t s
  | .rtcSetCmd t => Sys2Proof.Machine.execRtcSetCmd t s
  | .rtcCancel t => Sys2Proof.Machine.execRtcCancel t s
  | .dstFwd t => Sys2Proof.Machine.execDstFwd t s
  | .dstBack t => Sys2Proof.Machine.execDstBack t s
  | .trim t v => Sys2Proof.Machine.execTrim t v s
  | .rtcWakeWrite t w => Sys2Proof.Machine.execRtcWakeWrite t w s
  | .frameTick inp => Sys2Proof.Machine.execFrameTick inp s
  | .holdExpired t => Sys2Proof.Machine.execHoldExpired t s
  | .frameSlip t => Sys2Proof.Machine.execFrameSlip t s
  | .sysInfo t tag => Sys2Proof.Machine.execSysInfo t tag s
  | .sysForward t tag => Sys2Proof.Machine.execSysForward t tag s
  | .forwardTimeout t => Sys2Proof.Machine.execForwardTimeout t s
  | .sysArm t tag => Sys2Proof.Machine.execSysArm t tag s
  | .sysSafe t tag => Sys2Proof.Machine.execSysSafe t tag s
  | .sysReset t tag => Sys2Proof.Machine.execSysReset t tag s
  | .cfgOpen t tag => Sys2Proof.Machine.execCfgOpen t tag s
  | .cfgCommit t tag => Sys2Proof.Machine.execCfgCommit t tag s
  | .dryRun t tag => Sys2Proof.Machine.execDryRun t tag s
  | .commitEnergyMet t => Sys2Proof.Machine.execCommitEnergyMet t s
  | .energyRefused t => Sys2Proof.Machine.execEnergyRefused t s
  | .commitChurn t => Sys2Proof.Machine.execCommitChurn t s
  | .configApplied t => Sys2Proof.Machine.execConfigApplied t s
  | .profileChange t => Sys2Proof.Machine.execProfileChange t s
  | .cfgDiscard t tag => Sys2Proof.Machine.execCfgDiscard t tag s
  | .cfgRead t tag => Sys2Proof.Machine.execCfgRead t tag s
  | .cfgLoad t tag => Sys2Proof.Machine.execCfgLoad t tag s
  | .cfgStore t tag => Sys2Proof.Machine.execCfgStore t tag s
  | .draftTimeout t => Sys2Proof.Machine.execDraftTimeout t s
  | .chanSet t tag => Sys2Proof.Machine.execChanSet t tag s
  | .chanCal t tag => Sys2Proof.Machine.execChanCal t tag s
  | .calMeasureEnd t => Sys2Proof.Machine.execCalMeasureEnd t s
  | .calibrationChurn t => Sys2Proof.Machine.execCalibrationChurn t s
  | .chanGet t tag => Sys2Proof.Machine.execChanGet t tag s
  | .chanChargeReset t tag => Sys2Proof.Machine.execChanChargeReset t tag s
  | .chanInsulRead t tag => Sys2Proof.Machine.execChanInsulRead t tag s
  | .chanCalRead t tag => Sys2Proof.Machine.execChanCalRead t tag s
  | .chanCurveLoad t tag => Sys2Proof.Machine.execChanCurveLoad t tag s
  | .chanCurveStore t tag => Sys2Proof.Machine.execChanCurveStore t tag s
  | .chanVibCapture t tag => Sys2Proof.Machine.execChanVibCapture t tag s
  | .vibCaptureDone t samples => Sys2Proof.Machine.execVibCaptureDone t samples s
  | .chanVibRead t tag => Sys2Proof.Machine.execChanVibRead t tag s
  | .chanOutSet t tag => Sys2Proof.Machine.execChanOutSet t tag s
  | .chanOutStatus t tag => Sys2Proof.Machine.execChanOutStatus t tag s
  | .chanFskXfer t tag => Sys2Proof.Machine.execChanFskXfer t tag s
  | .chanFskBurst t tag => Sys2Proof.Machine.execChanFskBurst t tag s
  | .blendSet t tag => Sys2Proof.Machine.execBlendSet t tag s
  | .weirSet t tag => Sys2Proof.Machine.execWeirSet t tag s
  | .weirAck t tag => Sys2Proof.Machine.execWeirAck t tag s
  | .weirShelve t tag => Sys2Proof.Machine.execWeirShelve t tag s
  | .weirService t tag => Sys2Proof.Machine.execWeirService t tag s
  | .blendGet t tag => Sys2Proof.Machine.execBlendGet t tag s
  | .weirGet t tag => Sys2Proof.Machine.execWeirGet t tag s
  | .weirStatus t tag => Sys2Proof.Machine.execWeirStatus t tag s
  | .blendTotalReset t tag => Sys2Proof.Machine.execBlendTotalReset t tag s
  | .groupSet t tag => Sys2Proof.Machine.execGroupSet t tag s
  | .groupAck t tag => Sys2Proof.Machine.execGroupAck t tag s
  | .groupGet t tag => Sys2Proof.Machine.execGroupGet t tag s
  | .foSet t tag => Sys2Proof.Machine.execFoSet t tag s
  | .foReset t tag => Sys2Proof.Machine.execFoReset t tag s
  | .foStatus t tag => Sys2Proof.Machine.execFoStatus t tag s
  | .callSet t tag => Sys2Proof.Machine.execCallSet t tag s
  | .rosterSet t tag => Sys2Proof.Machine.execRosterSet t tag s
  | .callAccept t tag => Sys2Proof.Machine.execCallAccept t tag s
  | .callStatus t tag => Sys2Proof.Machine.execCallStatus t tag s
  | .dutyHandover t tag => Sys2Proof.Machine.execDutyHandover t tag s
  | .deadman t tag => Sys2Proof.Machine.execDeadman t tag s
  | .posSet t tag => Sys2Proof.Machine.execPosSet t tag s
  | .posGet t tag => Sys2Proof.Machine.execPosGet t tag s
  | .posRebase t tag => Sys2Proof.Machine.execPosRebase t tag s
  | .posCmpArm t tag => Sys2Proof.Machine.execPosCmpArm t tag s
  | .posCmpStop t tag => Sys2Proof.Machine.execPosCmpStop t tag s
  | .posLatchRead t tag => Sys2Proof.Machine.execPosLatchRead t tag s
  | .busCtrlSet t tag => Sys2Proof.Machine.execBusCtrlSet t tag s
  | .busObjSet t tag => Sys2Proof.Machine.execBusObjSet t tag s
  | .busObjGet t tag => Sys2Proof.Machine.execBusObjGet t tag s
  | .busObjSend t tag => Sys2Proof.Machine.execBusObjSend t tag s
  | .busRecover t tag => Sys2Proof.Machine.execBusRecover t tag s
  | .busNodes t tag => Sys2Proof.Machine.execBusNodes t tag s
  | .busValues t tag => Sys2Proof.Machine.execBusValues t tag s
  | .timeGet t tag => Sys2Proof.Machine.execTimeGet t tag s
  | .timeSet t tag => Sys2Proof.Machine.execTimeSet t tag s
  | .timeDst t tag => Sys2Proof.Machine.execTimeDst t tag s
  | .timeTrim t tag => Sys2Proof.Machine.execTimeTrim t tag s
  | .timeWake t tag => Sys2Proof.Machine.execTimeWake t tag s
  | .timeEvtSet t tag => Sys2Proof.Machine.execTimeEvtSet t tag s
  | .timeEvtStatus t tag => Sys2Proof.Machine.execTimeEvtStatus t tag s
  | .logRead t tag => Sys2Proof.Machine.execLogRead t tag s
  | .logPailRead t tag => Sys2Proof.Machine.execLogPailRead t tag s
  | .logWrite t tag => Sys2Proof.Machine.execLogWrite t tag s
  | .logClear t tag => Sys2Proof.Machine.execLogClear t tag s
  | .logClearSegment t => Sys2Proof.Machine.execLogClearSegment t s
  | .pwrSet t tag => Sys2Proof.Machine.execPwrSet t tag s
  | .pwrGet t tag => Sys2Proof.Machine.execPwrGet t tag s
  | .pwrHoldTest t tag => Sys2Proof.Machine.execPwrHoldTest t tag s
  | .pwrStandby t tag => Sys2Proof.Machine.execPwrStandby t tag s
  | .standbyEntry t => Sys2Proof.Machine.execStandbyEntry t s
  | .pwrWake t tag => Sys2Proof.Machine.execPwrWake t tag s
  | .dispSet t tag => Sys2Proof.Machine.execDispSet t tag s
  | .dispWaveSet t tag => Sys2Proof.Machine.execDispWaveSet t tag s
  | .dispUpdate t tag => Sys2Proof.Machine.execDispUpdate t tag s
  | .dispRefresh t tag => Sys2Proof.Machine.execDispRefresh t tag s
  | .dispStatus t tag => Sys2Proof.Machine.execDispStatus t tag s
  | .secStatus t tag => Sys2Proof.Machine.execSecStatus t tag s
  | .secIdKey t tag => Sys2Proof.Machine.execSecIdKey t tag s
  | .secAttest t tag => Sys2Proof.Machine.execSecAttest t tag s
  | .secOwnerKey t tag => Sys2Proof.Machine.execSecOwnerKey t tag s
  | .secBusKey t tag => Sys2Proof.Machine.execSecBusKey t tag s
  | .secField t tag => Sys2Proof.Machine.execSecField t tag s
  | .secReturn t tag => Sys2Proof.Machine.execSecReturn t tag s
  | .returnErasure t eu => Sys2Proof.Machine.execReturnErasure t eu s
  | .secDebugConfirm t tag => Sys2Proof.Machine.execSecDebugConfirm t tag s
  | .secDebugEnd t tag => Sys2Proof.Machine.execSecDebugEnd t tag s
  | .fwInfo t tag => Sys2Proof.Machine.execFwInfo t tag s
  | .fwBegin t tag => Sys2Proof.Machine.execFwBegin t tag s
  | .fwWrite t tag => Sys2Proof.Machine.execFwWrite t tag s
  | .fwFinish t tag => Sys2Proof.Machine.execFwFinish t tag s
  | .fwActivate t tag => Sys2Proof.Machine.execFwActivate t tag s
  | .fwAccept t tag => Sys2Proof.Machine.execFwAccept t tag s
  | .ioDiSet t tag => Sys2Proof.Machine.execIoDiSet t tag s
  | .ioAoSet t tag => Sys2Proof.Machine.execIoAoSet t tag s
  | .ioGet t tag => Sys2Proof.Machine.execIoGet t tag s
  | .ioAoCommand t tag => Sys2Proof.Machine.execIoAoCommand t tag s
  | .ioClaims t tag => Sys2Proof.Machine.execIoClaims t tag s
  | .nvmOperationComplete t => Sys2Proof.Machine.execNvmOperationComplete t s
  | .logChurn t => Sys2Proof.Machine.execLogChurn t s
  | .logChurnComplete t => Sys2Proof.Machine.execLogChurnComplete t s
  | .ageTrigger t => Sys2Proof.Machine.execAgeTrigger t s
  | .logDrops t => Sys2Proof.Machine.execLogDrops t s
  | .linkWatchdog t bank => Sys2Proof.Machine.execLinkWatchdog t bank s
  | .downstreamLinkFrame t bank f => Sys2Proof.Machine.execDownstreamLinkFrame t bank f s
  | .upstreamLinkFrame t bank f => Sys2Proof.Machine.execUpstreamLinkFrame t bank f s
  | .linkDown t bank => Sys2Proof.Machine.execLinkDown t bank s
  | .linkUp t bank => Sys2Proof.Machine.execLinkUp t bank s
  | .bankPowerUp t bank => Sys2Proof.Machine.execBankPowerUp t bank s
  | .bankSelfTest t bank => Sys2Proof.Machine.execBankSelfTest t bank s
  | .bankFault t bank cause => Sys2Proof.Machine.execBankFault t bank cause s
  | .miswire t bank land above => Sys2Proof.Machine.execMiswire t bank land above s
  | .landReturnCheck t bank land => Sys2Proof.Machine.execLandReturnCheck t bank land s
  | .vexSenseFault t bank => Sys2Proof.Machine.execVexSenseFault t bank s
  | .vexSenseReturn t bank => Sys2Proof.Machine.execVexSenseReturn t bank s
  | .chargeAmpOverload t ch positive => Sys2Proof.Machine.execChargeAmpOverload t ch positive s
  | .overloadHoldEnd t ch => Sys2Proof.Machine.execOverloadHoldEnd t ch s
  | .chargeResetEnd t ch => Sys2Proof.Machine.execChargeResetEnd t ch s
  | .iepeBiasFault t ch bias => Sys2Proof.Machine.execIepeBiasFault t ch bias s
  | .bankPowerLimit t bank on => Sys2Proof.Machine.execBankPowerLimit t bank on s
  | .supplyDischargeEnd t bank => Sys2Proof.Machine.execSupplyDischargeEnd t bank s
  | .generatorEdge t bank => Sys2Proof.Machine.execGeneratorEdge t bank s
  | .insulationPeriodEnd t bank m => Sys2Proof.Machine.execInsulationPeriodEnd t bank m s
  | .mainsCycle t m => Sys2Proof.Machine.execMainsCycle t m s
  | .mainsSource t => Sys2Proof.Machine.execMainsSource t s
  | .notchSuspectEnd t ch => Sys2Proof.Machine.execNotchSuspectEnd t ch s
  | .settlingEnd t ch => Sys2Proof.Machine.execSettlingEnd t ch s
  | .wireRestored t ch => Sys2Proof.Machine.execWireRestored t ch s
  | .modulatorOverload t ch positive => Sys2Proof.Machine.execModulatorOverload t ch positive s
  | .modulatorOverloadEnd t ch => Sys2Proof.Machine.execModulatorOverloadEnd t ch s
  | .sourceExchange t ch m => Sys2Proof.Machine.execSourceExchange t ch m s
  | .complianceTimer t ch => Sys2Proof.Machine.execComplianceTimer t ch s
  | .complianceClear t ch => Sys2Proof.Machine.execComplianceClear t ch s
  | .loopOpen t ch => Sys2Proof.Machine.execLoopOpen t ch s
  | .openProbe t ch => Sys2Proof.Machine.execOpenProbe t ch s
  | .loopOver t ch => Sys2Proof.Machine.execLoopOver t ch s
  | .loopRampDownEnd t ch => Sys2Proof.Machine.execLoopRampDownEnd t ch s
  | .fskAttach t bank => Sys2Proof.Machine.execFskAttach t bank s
  | .fskSend t bank => Sys2Proof.Machine.execFskSend t bank s
  | .fskCheckSent t bank => Sys2Proof.Machine.execFskCheckSent t bank s
  | .fskResponse t bank pre parity data => Sys2Proof.Machine.execFskResponse t bank pre parity data s
  | .fskResponseTimeout t bank => Sys2Proof.Machine.execFskResponseTimeout t bank s
  | .fskRetry t bank => Sys2Proof.Machine.execFskRetry t bank s
  | .burstFrame t bank pre parity data => Sys2Proof.Machine.execBurstFrame t bank pre parity data s
  | .weirDelayElapsed t weir => Sys2Proof.Machine.execWeirDelayElapsed t weir s
  | .suspectLimit t weir => Sys2Proof.Machine.execSuspectLimit t weir s
  | .weirUnshelved t weir => Sys2Proof.Machine.execWeirUnshelved t weir s
  | .historyStepClose t ofWeir idx => Sys2Proof.Machine.execHistoryStepClose t ofWeir idx s
  | .groupReleased t group => Sys2Proof.Machine.execGroupReleased t group s
  | .ackButtonStuck t di => Sys2Proof.Machine.execAckButtonStuck t di s
  | .firstOutDecided t set => Sys2Proof.Machine.execFirstOutDecided t set s
  | .firstOutHomeAbsent t set => Sys2Proof.Machine.execFirstOutHomeAbsent t set s
  | .firstOutReset t set => Sys2Proof.Machine.execFirstOutReset t set s
  | .autoReset t set => Sys2Proof.Machine.execAutoReset t set s
  | .callStage t chain => Sys2Proof.Machine.execCallStage t chain s
  | .acceptPeriodElapsed t chain => Sys2Proof.Machine.execAcceptPeriodElapsed t chain s
  | .callRepeat t chain => Sys2Proof.Machine.execCallRepeat t chain s
  | .dutyChange t => Sys2Proof.Machine.execDutyChange t s
  | .handoverTimeout t => Sys2Proof.Machine.execHandoverTimeout t s
  | .deadmanPrewarn t => Sys2Proof.Machine.execDeadmanPrewarn t s
  | .deadmanAlarm t => Sys2Proof.Machine.execDeadmanAlarm t s
  | .encoderEdge t enc a b => Sys2Proof.Machine.execEncoderEdge t enc a b s
  | .indexEdge t enc => Sys2Proof.Machine.execIndexEdge t enc s
  | .posLineFault t enc input => Sys2Proof.Machine.execPosLineFault t enc input s
  | .lineFaultClear t enc => Sys2Proof.Machine.execLineFaultClear t enc s
  | .posRebased t enc => Sys2Proof.Machine.execPosRebased t enc s
  | .comparePulse t enc => Sys2Proof.Machine.execComparePulse t enc s
  | .cmpOverload t enc => Sys2Proof.Machine.execCmpOverload t enc s
  | .ssiRead t enc => Sys2Proof.Machine.execSsiRead t enc s
  | .ssiReadComplete t enc idleOk endOk parity raw => Sys2Proof.Machine.execSsiReadComplete t enc idleOk endOk parity raw s
  | .latch t enc => Sys2Proof.Machine.execLatch t enc s
  | .limitEdge t di level => Sys2Proof.Machine.execLimitEdge t di level s
  | .timeRef t bus node mark data => Sys2Proof.Machine.execTimeRef t bus node mark data s
  | .timeFu t bus node index mark data => Sys2Proof.Machine.execTimeFu t bus node index mark data s
  | .timeRefSend t => Sys2Proof.Machine.execTimeRefSend t s
  | .transmitSuccess t bus mark => Sys2Proof.Machine.execTransmitSuccess t bus mark s
  | .timeMasterChange t => Sys2Proof.Machine.execTimeMasterChange t s
  | .timeHoldover t => Sys2Proof.Machine.execTimeHoldover t s
  | .holdoverLimit t => Sys2Proof.Machine.execHoldoverLimit t s
  | .timeSource t => Sys2Proof.Machine.execTimeSource t s
  | .claim t bus node mark data => Sys2Proof.Machine.execClaim t bus node mark data s
  | .claimPeriod t => Sys2Proof.Machine.execClaimPeriod t s
  | .goingDown t bus node mark data => Sys2Proof.Machine.execGoingDown t bus node mark data s
  | .heartbeat t bus node mark data => Sys2Proof.Machine.execHeartbeat t bus node mark data s
  | .heartbeatSend t => Sys2Proof.Machine.execHeartbeatSend t s
  | .nodeLost t bus node => Sys2Proof.Machine.execNodeLost t bus node s
  | .busLegFault t node leg => Sys2Proof.Machine.execBusLegFault t node leg s
  | .genFreq t bus node mark data => Sys2Proof.Machine.execGenFreq t bus node mark data s
  | .genFreqTransmit t => Sys2Proof.Machine.execGenFreqTransmit t s
  | .foCand t bus node index mark data => Sys2Proof.Machine.execFoCand t bus node index mark data s
  | .foDecide t bus node index mark data => Sys2Proof.Machine.execFoDecide t bus node index mark data s
  | .foResetMessage t bus node index mark data => Sys2Proof.Machine.execFoResetMessage t bus node index mark data s
  | .panel t bus node mark data => Sys2Proof.Machine.execPanel t bus node mark data s
  | .value t bus prio node index mark data => Sys2Proof.Machine.execValue t bus prio node index mark data s
  | .foreignFrame t bus id mark data => Sys2Proof.Machine.execForeignFrame t bus id mark data s
  | .freshnessTimeout t obj => Sys2Proof.Machine.execFreshnessTimeout t obj s
  | .busObjectDue t obj => Sys2Proof.Machine.execBusObjectDue t obj s
  | .culvertReq t bus node index mark data => Sys2Proof.Machine.execCulvertReq t bus node index mark data s
  | .culvertRsp t bus node index mark data => Sys2Proof.Machine.execCulvertRsp t bus node index mark data s
  | .culvertSegLost t node transfer rsp => Sys2Proof.Machine.execCulvertSegLost t node transfer rsp s
  | .idClash t bus mark => Sys2Proof.Machine.execIdClash t bus mark s
  | .busErrorPassive t bus tec rxerr errA errD => Sys2Proof.Machine.execBusErrorPassive t bus tec rxerr errA errD s
  | .busOff t bus tec errA errD => Sys2Proof.Machine.execBusOff t bus tec errA errD s
  | .busOffHoldEnd t bus => Sys2Proof.Machine.execBusOffHoldEnd t bus s
  | .busRecovered t bus => Sys2Proof.Machine.execBusRecovered t bus s
  | .dominantTimeout t bus => Sys2Proof.Machine.execDominantTimeout t bus s
  | .rtcSet t => Sys2Proof.Machine.execRtcSet t s
  | .rtcDst t => Sys2Proof.Machine.execRtcDst t s
  | .rtcAligned t => Sys2Proof.Machine.execRtcAligned t s
  | .autoTrimMeasure t err => Sys2Proof.Machine.execAutoTrimMeasure t err s
  | .rtcRange t => Sys2Proof.Machine.execRtcRange t s
  | .oscFail t => Sys2Proof.Machine.execOscFail t s
  | .crystalReturn t => Sys2Proof.Machine.execCrystalReturn t s
  | .vbatLow t mv => Sys2Proof.Machine.execVbatLow t mv s
  | .bkpLost t mv => Sys2Proof.Machine.execBkpLost t mv s
  | .wake t => Sys2Proof.Machine.execWake t s
  | .evtEdge t e level first => Sys2Proof.Machine.execEvtEdge t e level first s
  | .evtDrain t => Sys2Proof.Machine.execEvtDrain t s
  | .vshipOn t vbat => Sys2Proof.Machine.execVshipOn t vbat s
  | .secureBoot t => Sys2Proof.Machine.execSecureBoot t s
  | .selfTest t => Sys2Proof.Machine.execSelfTest t s
  | .configRestored t badSlots holdMv => Sys2Proof.Machine.execConfigRestored t badSlots holdMv s
  | .fwAccepted t => Sys2Proof.Machine.execFwAccepted t s
  | .armingConditions t => Sys2Proof.Machine.execArmingConditions t s
  | .standbyDwell t => Sys2Proof.Machine.execStandbyDwell t s
  | .vshipDip t => Sys2Proof.Machine.execVshipDip t s
  | .powerFail t mv => Sys2Proof.Machine.execPowerFail t mv s
  | .coreRailsShed t => Sys2Proof.Machine.execCoreRailsShed t s
  | .holdupComplete t vbatOk => Sys2Proof.Machine.execHoldupComplete t vbatOk s
  | .brownOut t => Sys2Proof.Machine.execBrownOut t s
  | .inputPeakLimit t ma => Sys2Proof.Machine.execInputPeakLimit t ma s
  | .stepTest t => Sys2Proof.Machine.execStepTest t s
  | .holdMeasured t v0 v1 v2 v3 => Sys2Proof.Machine.execHoldMeasured t v0 v1 v2 v3 s
  | .ledgerStep t => Sys2Proof.Machine.execLedgerStep t s
  | .holdAbsent t => Sys2Proof.Machine.execHoldAbsent t s
  | .outputShed t => Sys2Proof.Machine.execOutputShed t s
  | .dispPumpFault t vpos vneg => Sys2Proof.Machine.execDispPumpFault t vpos vneg s
  | .pumpStart t => Sys2Proof.Machine.execPumpStart t s
  | .pumpShutdown t => Sys2Proof.Machine.execPumpShutdown t s
  | .pumpDischargeEnd t => Sys2Proof.Machine.execPumpDischargeEnd t s
  | .waveformStart t region => Sys2Proof.Machine.execWaveformStart t region s
  | .waveformEnd t region => Sys2Proof.Machine.execWaveformEnd t region s
  | .blinkToggle t g => Sys2Proof.Machine.execBlinkToggle t g s
  | .idcode t => Sys2Proof.Machine.execIdcode t s
  | .samplePreload t lands word => Sys2Proof.Machine.execSamplePreload t lands word s
  | .extest t lands word => Sys2Proof.Machine.execExtest t lands word s
  | .bypass t => Sys2Proof.Machine.execBypass t s
  | .hello t => Sys2Proof.Machine.execHello t s
  | .auth t level cert proof => Sys2Proof.Machine.execAuth t level cert proof s
  | .mailboxCulvert t mtag req mac => Sys2Proof.Machine.execMailboxCulvert t mtag req mac s
  | .mboxEnd t mac => Sys2Proof.Machine.execMboxEnd t mac s
  | .dbgAccessRead t addr mac => Sys2Proof.Machine.execDbgAccessRead t addr mac s
  | .dbgAccessWrite t addr word ctl mac => Sys2Proof.Machine.execDbgAccessWrite t addr word ctl mac s
  | .dbgAccessStatus t addr mac => Sys2Proof.Machine.execDbgAccessStatus t addr mac s
  | .secSessionEnd t => Sys2Proof.Machine.execSecSessionEnd t s
  | .fullPendingLapse t => Sys2Proof.Machine.execFullPendingLapse t s
  | .debounce t di mv => Sys2Proof.Machine.execDebounce t di mv s
  | .diLineBroken t di => Sys2Proof.Machine.execDiLineBroken t di s
  | .aoLineFault t ao mv ma => Sys2Proof.Machine.execAoLineFault t ao mv ma s
  | .aoOverload t ao ma => Sys2Proof.Machine.execAoOverload t ao ma s
  | .aoRetry t ao => Sys2Proof.Machine.execAoRetry t ao s
  | .aoFaultClear t ao => Sys2Proof.Machine.execAoFaultClear t ao s
  | .aoTotalLimit t ma => Sys2Proof.Machine.execAoTotalLimit t ma s
  | .nokCoilFault t ma => Sys2Proof.Machine.execNokCoilFault t ma s
  | .publicationTimeout t => Sys2Proof.Machine.execPublicationTimeout t s
  | .resetN t => Sys2Proof.Machine.execResetN t s
  | .internalWatchdog t => Sys2Proof.Machine.execInternalWatchdog t s
  | .lockstepMismatch t => Sys2Proof.Machine.execLockstepMismatch t s
  | .clockLoss t => Sys2Proof.Machine.execClockLoss t s
  | .hostWdogExpired t => Sys2Proof.Machine.execHostWdogExpired t s
  | .wdogWarn t => Sys2Proof.Machine.execWdogWarn t s
  | .resetNRelease t => Sys2Proof.Machine.execResetNRelease t s
  | .vshipReturn t => Sys2Proof.Machine.execVshipReturn t s
  | .vbatBelowRetention t => Sys2Proof.Machine.execVbatBelowRetention t s
  | .vioLoss t => Sys2Proof.Machine.execVioLoss t s
  | .vioReturn t => Sys2Proof.Machine.execVioReturn t s
  | .busObjSendTimeout t => Sys2Proof.Machine.execBusObjSendTimeout t s
  | .cmpOverloadEnd t enc => Sys2Proof.Machine.execCmpOverloadEnd t enc s
  | .comparePulseEnd t enc => Sys2Proof.Machine.execComparePulseEnd t enc s
  | .diLineRestored t di => Sys2Proof.Machine.execDiLineRestored t di s
  | .utcCountTaken t => Sys2Proof.Machine.execUtcCountTaken t s
  | .callCancelRepeat t chain => Sys2Proof.Machine.execCallCancelRepeat t chain s
  | .economyBurst t bank => Sys2Proof.Machine.execEconomyBurst t bank s

end Sys2Proof.Machine
end

