-- ==== Sys2Proof/WellFormed.lean ====
section
/-!
DEFINITION. Well-formed commands: the unit a command names lies within the counts of Table 01.2 and Chapter 00.
-/

namespace Sys2Proof

/-- A channel with a charge amplifier: the last two channels of a bank (R99). -/
def chargeAmpChannel (ch : Nat) : Bool := decide (ch < 64) && decide (6 ≤ ch % 8)

/-- The unit a command names exists (Table 01.2): 8 banks of 8 channels and 18 lands, 256 blends, 1,024 weirs, 128
groups, 32 first-out sets, 16 call chains, 8 encoders, 4 buses, 128 bus objects, 4 event inputs, 8 display regions,
4 blink groups, 16 DI, 8 AO. A culvert names its units inside its request, where the checks of Table 03.16 refuse them. -/
def Instr.wf (i : Instr) : Bool :=
  match i with
  | .hostRegWrite _ _ _ => true
  | .spiErr _ _ => true
  | .doorbell _ _ => true
  | .hpDone _ _ => true
  | .holdReq _ => true
  | .holdRel _ => true
  | .kick _ _ => true
  | .rtcSecRead _ => true
  | .rtcSetCmd _ => true
  | .rtcCancel _ => true
  | .dstFwd _ => true
  | .dstBack _ => true
  | .trim _ _ => true
  | .rtcWakeWrite _ _ => true
  | .frameTick _ => true
  | .holdExpired _ => true
  | .frameSlip _ => true
  | .sysInfo _ _ => true
  | .sysForward _ _ => true
  | .forwardTimeout _ => true
  | .sysArm _ _ => true
  | .sysSafe _ _ => true
  | .sysReset _ _ => true
  | .cfgOpen _ _ => true
  | .cfgCommit _ _ => true
  | .dryRun _ _ => true
  | .commitEnergyMet _ => true
  | .energyRefused _ => true
  | .commitChurn _ => true
  | .configApplied _ => true
  | .profileChange _ => true
  | .cfgDiscard _ _ => true
  | .cfgRead _ _ => true
  | .cfgLoad _ _ => true
  | .cfgStore _ _ => true
  | .draftTimeout _ => true
  | .chanSet _ _ => true
  | .chanCal _ _ => true
  | .calMeasureEnd _ => true
  | .calibrationChurn _ => true
  | .chanGet _ _ => true
  | .chanChargeReset _ _ => true
  | .chanInsulRead _ _ => true
  | .chanCalRead _ _ => true
  | .chanCurveLoad _ _ => true
  | .chanCurveStore _ _ => true
  | .chanVibCapture _ _ => true
  | .vibCaptureDone _ _ => true
  | .chanVibRead _ _ => true
  | .chanOutSet _ _ => true
  | .chanOutStatus _ _ => true
  | .chanFskXfer _ _ => true
  | .chanFskBurst _ _ => true
  | .blendSet _ _ => true
  | .weirSet _ _ => true
  | .weirAck _ _ => true
  | .weirShelve _ _ => true
  | .weirService _ _ => true
  | .blendGet _ _ => true
  | .weirGet _ _ => true
  | .weirStatus _ _ => true
  | .blendTotalReset _ _ => true
  | .groupSet _ _ => true
  | .groupAck _ _ => true
  | .groupGet _ _ => true
  | .foSet _ _ => true
  | .foReset _ _ => true
  | .foStatus _ _ => true
  | .callSet _ _ => true
  | .rosterSet _ _ => true
  | .callAccept _ _ => true
  | .callStatus _ _ => true
  | .dutyHandover _ _ => true
  | .deadman _ _ => true
  | .posSet _ _ => true
  | .posGet _ _ => true
  | .posRebase _ _ => true
  | .posCmpArm _ _ => true
  | .posCmpStop _ _ => true
  | .posLatchRead _ _ => true
  | .busCtrlSet _ _ => true
  | .busObjSet _ _ => true
  | .busObjGet _ _ => true
  | .busObjSend _ _ => true
  | .busRecover _ _ => true
  | .busNodes _ _ => true
  | .busValues _ _ => true
  | .timeGet _ _ => true
  | .timeSet _ _ => true
  | .timeDst _ _ => true
  | .timeTrim _ _ => true
  | .timeWake _ _ => true
  | .timeEvtSet _ _ => true
  | .timeEvtStatus _ _ => true
  | .logRead _ _ => true
  | .logPailRead _ _ => true
  | .logWrite _ _ => true
  | .logClear _ _ => true
  | .logClearSegment _ => true
  | .pwrSet _ _ => true
  | .pwrGet _ _ => true
  | .pwrHoldTest _ _ => true
  | .pwrStandby _ _ => true
  | .standbyEntry _ => true
  | .pwrWake _ _ => true
  | .dispSet _ _ => true
  | .dispWaveSet _ _ => true
  | .dispUpdate _ _ => true
  | .dispRefresh _ _ => true
  | .dispStatus _ _ => true
  | .secStatus _ _ => true
  | .secIdKey _ _ => true
  | .secAttest _ _ => true
  | .secOwnerKey _ _ => true
  | .secBusKey _ _ => true
  | .secField _ _ => true
  | .secReturn _ _ => true
  | .returnErasure _ _ => true
  | .secDebugConfirm _ _ => true
  | .secDebugEnd _ _ => true
  | .fwInfo _ _ => true
  | .fwBegin _ _ => true
  | .fwWrite _ _ => true
  | .fwFinish _ _ => true
  | .fwActivate _ _ => true
  | .fwAccept _ _ => true
  | .ioDiSet _ _ => true
  | .ioAoSet _ _ => true
  | .ioGet _ _ => true
  | .ioAoCommand _ _ => true
  | .ioClaims _ _ => true
  | .nvmOperationComplete _ => true
  | .logChurn _ => true
  | .logChurnComplete _ => true
  | .ageTrigger _ => true
  | .logDrops _ => true
  | .linkWatchdog _ bank => decide (bank < 8)
  | .downstreamLinkFrame _ bank _ => decide (bank < 8)
  | .upstreamLinkFrame _ bank _ => decide (bank < 8)
  | .linkDown _ bank => decide (bank < 8)
  | .linkUp _ bank => decide (bank < 8)
  | .bankPowerUp _ bank => decide (bank < 8)
  | .bankSelfTest _ bank => decide (bank < 8)
  | .bankFault _ bank _ => decide (bank < 8)
  | .miswire _ bank land _ => decide (bank < 8) && decide (land < 18)
  | .landReturnCheck _ bank land => decide (bank < 8) && decide (land < 18)
  | .vexSenseFault _ bank => decide (bank < 8)
  | .vexSenseReturn _ bank => decide (bank < 8)
  | .chargeAmpOverload _ ch _ => chargeAmpChannel ch
  | .overloadHoldEnd _ ch => chargeAmpChannel ch
  | .chargeResetEnd _ ch => chargeAmpChannel ch
  | .iepeBiasFault _ ch _ => chargeAmpChannel ch
  | .bankPowerLimit _ bank _ => decide (bank < 8)
  | .supplyDischargeEnd _ bank => decide (bank < 8)
  | .generatorEdge _ bank => decide (bank < 8)
  | .insulationPeriodEnd _ bank _ => decide (bank < 8)
  | .mainsCycle _ _ => true
  | .mainsSource _ => true
  | .notchSuspectEnd _ ch => decide (ch < 64)
  | .settlingEnd _ ch => decide (ch < 64)
  | .wireRestored _ ch => decide (ch < 64)
  | .modulatorOverload _ ch _ => decide (ch < 64)
  | .modulatorOverloadEnd _ ch => decide (ch < 64)
  | .sourceExchange _ ch _ => decide (ch < 64)
  | .complianceTimer _ ch => decide (ch < 64)
  | .complianceClear _ ch => decide (ch < 64)
  | .loopOpen _ ch => decide (ch < 64)
  | .openProbe _ ch => decide (ch < 64)
  | .loopOver _ ch => decide (ch < 64)
  | .loopRampDownEnd _ ch => decide (ch < 64)
  | .fskAttach _ bank => decide (bank < 8)
  | .fskSend _ bank => decide (bank < 8)
  | .fskCheckSent _ bank => decide (bank < 8)
  | .fskResponse _ bank _ _ _ => decide (bank < 8)
  | .fskResponseTimeout _ bank => decide (bank < 8)
  | .fskRetry _ bank => decide (bank < 8)
  | .burstFrame _ bank _ _ _ => decide (bank < 8)
  | .weirDelayElapsed _ weir => decide (weir < 1024)
  | .suspectLimit _ weir => decide (weir < 1024)
  | .weirUnshelved _ weir => decide (weir < 1024)
  | .historyStepClose _ ofWeir idx => if ofWeir then decide (idx < 1024) else decide (idx < 256)
  | .groupReleased _ group => decide (group < 128)
  | .ackButtonStuck _ di => decide (di < 16)
  | .firstOutDecided _ set => decide (set < 32)
  | .firstOutHomeAbsent _ set => decide (set < 32)
  | .firstOutReset _ set => decide (set < 32)
  | .autoReset _ set => decide (set < 32)
  | .callStage _ chain => decide (chain < 16)
  | .acceptPeriodElapsed _ chain => decide (chain < 16)
  | .callRepeat _ chain => decide (chain < 16)
  | .dutyChange _ => true
  | .handoverTimeout _ => true
  | .deadmanPrewarn _ => true
  | .deadmanAlarm _ => true
  | .encoderEdge _ enc _ _ => decide (enc < 8)
  | .indexEdge _ enc => decide (enc < 8)
  | .posLineFault _ enc _ => decide (enc < 8)
  | .lineFaultClear _ enc => decide (enc < 8)
  | .posRebased _ enc => decide (enc < 8)
  | .comparePulse _ enc => decide (enc < 8)
  | .cmpOverload _ enc => decide (enc < 8)
  | .ssiRead _ enc => decide (enc < 8)
  | .ssiReadComplete _ enc _ _ _ _ => decide (enc < 8)
  | .latch _ enc => decide (enc < 8)
  | .limitEdge _ di _ => decide (di < 16)
  | .timeRef _ bus _ _ _ => decide (bus < 4)
  | .timeFu _ bus _ _ _ _ => decide (bus < 4)
  | .timeRefSend _ => true
  | .transmitSuccess _ bus _ => decide (bus < 4)
  | .timeMasterChange _ => true
  | .timeHoldover _ => true
  | .holdoverLimit _ => true
  | .timeSource _ => true
  | .claim _ bus _ _ _ => decide (bus < 4)
  | .claimPeriod _ => true
  | .goingDown _ bus _ _ _ => decide (bus < 4)
  | .heartbeat _ bus _ _ _ => decide (bus < 4)
  | .heartbeatSend _ => true
  | .nodeLost _ bus _ => decide (bus < 4)
  | .busLegFault _ _ _ => true
  | .genFreq _ bus _ _ _ => decide (bus < 4)
  | .genFreqTransmit _ => true
  | .foCand _ bus _ _ _ _ => decide (bus < 4)
  | .foDecide _ bus _ _ _ _ => decide (bus < 4)
  | .foResetMessage _ bus _ _ _ _ => decide (bus < 4)
  | .panel _ bus _ _ _ => decide (bus < 4)
  | .value _ bus _ _ _ _ _ => decide (bus < 4)
  | .foreignFrame _ bus _ _ _ => decide (bus < 4)
  | .freshnessTimeout _ obj => decide (obj < 128)
  | .busObjectDue _ obj => decide (obj < 128)
  | .culvertReq _ bus _ _ _ _ => decide (bus < 4)
  | .culvertRsp _ bus _ _ _ _ => decide (bus < 4)
  | .culvertSegLost _ _ _ _ => true
  | .idClash _ bus _ => decide (bus < 4)
  | .busErrorPassive _ bus _ _ _ _ => decide (bus < 4)
  | .busOff _ bus _ _ _ => decide (bus < 4)
  | .busOffHoldEnd _ bus => decide (bus < 4)
  | .busRecovered _ bus => decide (bus < 4)
  | .dominantTimeout _ bus => decide (bus < 4)
  | .rtcSet _ => true
  | .rtcDst _ => true
  | .rtcAligned _ => true
  | .autoTrimMeasure _ _ => true
  | .rtcRange _ => true
  | .oscFail _ => true
  | .crystalReturn _ => true
  | .vbatLow _ _ => true
  | .bkpLost _ _ => true
  | .wake _ => true
  | .evtEdge _ e _ _ => decide (e < 4)
  | .evtDrain _ => true
  | .vshipOn _ _ => true
  | .secureBoot _ => true
  | .selfTest _ => true
  | .configRestored _ _ _ => true
  | .fwAccepted _ => true
  | .armingConditions _ => true
  | .standbyDwell _ => true
  | .vshipDip _ => true
  | .powerFail _ _ => true
  | .coreRailsShed _ => true
  | .holdupComplete _ _ => true
  | .brownOut _ => true
  | .inputPeakLimit _ _ => true
  | .stepTest _ => true
  | .holdMeasured _ _ _ _ _ => true
  | .ledgerStep _ => true
  | .holdAbsent _ => true
  | .outputShed _ => true
  | .dispPumpFault _ _ _ => true
  | .pumpStart _ => true
  | .pumpShutdown _ => true
  | .pumpDischargeEnd _ => true
  | .waveformStart _ region => decide (region < 8)
  | .waveformEnd _ region => decide (region < 8)
  | .blinkToggle _ g => decide (g < 4)
  | .idcode _ => true
  | .samplePreload _ _ _ => true
  | .extest _ _ _ => true
  | .bypass _ => true
  | .hello _ => true
  | .auth _ _ _ _ => true
  | .mailboxCulvert _ _ _ _ => true
  | .mboxEnd _ _ => true
  | .dbgAccessRead _ _ _ => true
  | .dbgAccessWrite _ _ _ _ _ => true
  | .dbgAccessStatus _ _ _ => true
  | .secSessionEnd _ => true
  | .fullPendingLapse _ => true
  | .debounce _ di _ => decide (di < 16)
  | .diLineBroken _ di => decide (di < 16)
  | .aoLineFault _ ao _ _ => decide (ao < 8)
  | .aoOverload _ ao _ => decide (ao < 8)
  | .aoRetry _ ao => decide (ao < 8)
  | .aoFaultClear _ ao => decide (ao < 8)
  | .aoTotalLimit _ _ => true
  | .nokCoilFault _ _ => true
  | .publicationTimeout _ => true
  | .resetN _ => true
  | .internalWatchdog _ => true
  | .lockstepMismatch _ => true
  | .clockLoss _ => true
  | .hostWdogExpired _ => true
  | .wdogWarn _ => true
  | .resetNRelease _ => true
  | .vshipReturn _ => true
  | .vbatBelowRetention _ => true
  | .vioLoss _ => true
  | .vioReturn _ => true
  | .busObjSendTimeout _ => true
  | .cmpOverloadEnd _ enc => decide (enc < 8)
  | .comparePulseEnd _ enc => decide (enc < 8)
  | .diLineRestored _ di => decide (di < 16)
  | .utcCountTaken _ => true
  | .callCancelRepeat _ chain => decide (chain < 16)
  | .economyBurst _ bank => decide (bank < 8)

end Sys2Proof
end

