-- ==== Sys2Proof/Safety.lean ====
section
/-!
DEFINITION. What counts as a safe step, and the words in which the statements speak of requests and units.
-/

namespace Sys2Proof.Machine

open Sys2Proof

/-- The step from `s` completes: it answers a next state, neither a fault nor a refusal. -/
def Completes (s : State) : Prop := ∃ s', step s = .next s'

/-- Request `f`, of id `tag` and opcode `op`, is the one that executes (R65). -/
abbrev Executes (s : State) (tag op : Nat) (f : Flight) : Prop := s.host.cur = some f ∧ f.id = tag ∧ f.opcode = op

/-- The state in which a request that executed takes its effect at `t`: local time has run on and nothing executes. -/
def State.acting (s : State) (t : Nat) : State :=
  let s1 := s.advance t
  { s1 with host := { s1.host with cur := none } }

/-- The host's own request slot of `tag` as a request (Table 03.14). -/
def State.slotRequest (s : State) (tag : Nat) : Flight :=
  { id := tag, origin := .host, req := s.host.req.readList (256 * tag) 256 }

/-- The state answers, in the slot of request `f` or in the mailbox, with a status, a detail and a payload (R62, R63). -/
def State.Answered (u : State) (f : Flight) (st : Status) (d : Nat) (p : List Byte) : Prop :=
  if 256 ≤ f.id then (f.id - 256, respBytes f.req st d p) ∈ u.host.mbox
  else (∀ i < 256, u.host.rsp.read (256 * f.id + i) = (respBytes f.req st d p).getD i 0) ∧
    (f.id < 240 → u.host.done.getLsbD f.id = true)

/-- Controller `b` hears a node-protocol frame of a class and takes it: it is on, carries FD frames, the length is the
class's, no claim period runs, no protocol key is set, and its buffers have place (R290, R297, R301, R304, R322). -/
abbrev Hears (s : State) (b cls : Nat) (data : List Byte) : Prop :=
  (s.ctl b).hears = true ∧ s.busOpt b 1 = true ∧ data.length = classLen cls ∧ s.bus.claimEnd = none ∧ s.protoKey = none ∧
    (s.bus.slots.getD (slotOf cls) []).length < 8 ∧ s.ringFill < 128

/-- The state that a frame heard at `t` leaves: the frame is counted, and a message waits in the match slot of its class. -/
def State.heard (s : State) (t : Nat) (f : RxFrame) : State :=
  let r := (s.advance t).rxOk f.bus
  if f.cls < 0x20 then r.modBus (fun n => { n with slots := modAt n.slots (slotOf f.cls) (fun l => l ++ [f]) }) else r

/-- The order of the frame store: three pages, exactly one `WRITE`, at most one `LIVE` and at most one HELD; the `WRITE` page is
not HELD and shows trailer epoch zero, every other page the same epoch in header and trailer, a `LIVE` page not epoch zero
(R35 to R37, R39). -/
abbrev PagesOk (ps : List Page) : Prop :=
  ps.length = 3 ∧ (ps.filter (fun p => decide (p.role = .write))).length = 1 ∧
    (ps.filter (fun p => decide (p.role = .live))).length ≤ 1 ∧ (ps.filter (fun p => p.held)).length ≤ 1 ∧
    ∀ p ∈ ps, (p.role = .write → p.held = false ∧ p.trailer = 0) ∧ (p.role ≠ .write → p.trailer = p.epoch) ∧
      (p.role = .live → p.epoch ≠ 0)

/-- A `SEC_FIELD` that executes was admitted in `PROVISIONED`, and the node is still in it (R66, R424). -/
def LifeOk (s : State) : Prop := ∀ f, s.host.cur = some f → f.opcode = 0x0C06 → s.sec.life = .provisioned

/-- The outcome of `n` steps; a step that stops ends them. -/
def steps : Nat → State → Host.Outcome State Fault Refusal
  | 0, s => .next s
  | n + 1, s =>
    match step s with
    | .next u => steps n u
    | .fault f => .fault f
    | .refused r => .refused r

/-- Opcodes that set one entry of a table in the draft: command, opcode, table, the entry a request names, where its bytes
begin in the payload (Tables 06.11, 08.17, 09.19, 10.14, 11.19, 14.19, 15.12, 17.11). -/
def setRows : List ((Nat → Nat → Instr) × Nat × Nat × (Flight → Nat) × Nat) :=
  [(.chanSet, 0x0301, 0x10, Flight.unit, 0), (.blendSet, 0x0401, 0x20, Flight.unit, 0), (.weirSet, 0x0402, 0x21, Flight.unit, 0),
   (.groupSet, 0x0501, 0x30, Flight.unit, 0), (.foSet, 0x0504, 0x31, fun f => byteAt f.req 16, 0),
   (.callSet, 0x0507, 0x32, fun f => byteAt f.req 16, 0), (.rosterSet, 0x0508, 0x33, fun f => byteAt f.req 16, 0),
   (.posSet, 0x0601, 0x40, Flight.unit, 0), (.busCtrlSet, 0x0701, 0x50, fun f => byteAt f.req 16, 4),
   (.busObjSet, 0x0702, 0x51, Flight.unit, 0), (.pwrSet, 0x0A01, 0x70, fun f => byteAt f.req 16, 4),
   (.dispSet, 0x0B01, 0x60, fun f => byteAt f.req 16, 4), (.ioDiSet, 0x0E01, 0x80, Flight.unit, 0),
   (.ioAoSet, 0x0E02, 0x81, Flight.unit, 0)]

/-- Opcodes that read one entry: command, opcode, table, the entry a request names. -/
def getRows : List ((Nat → Nat → Instr) × Nat × Nat × (Flight → Nat)) :=
  [(.chanGet, 0x0303, 0x10, Flight.unit), (.blendGet, 0x0406, 0x20, Flight.unit), (.weirGet, 0x0407, 0x21, Flight.unit),
   (.groupGet, 0x0503, 0x30, Flight.unit), (.posGet, 0x0602, 0x40, Flight.unit), (.busObjGet, 0x0703, 0x51, Flight.unit),
   (.pwrGet, 0x0A02, 0x70, fun f => byteAt f.req 17)]

end Sys2Proof.Machine
end

