-- ==== Sys2Proof/Certificates/Slice0/Obligations.lean ====
section
/-!
DEFINITION. The statements for the provers.
-/

open Sys2Proof Sys2Proof.Machine

/-- One step takes the command at the front of the queue and runs it on the state with the rest of the queue; an empty queue
idles (the model's choice, log entry 2). -/
def Obligations.StepRunsTheFront : Prop :=
  (∀ (c : Instr) (r : List Instr) (s : State), step { s with pending := c :: r } = exec c { s with pending := r }) ∧
  (∀ s : State, s.pending = [] → step s = .next s)

/-- Every command that names only units the node has completes, whatever the state; one that names another unit stops with
`noSuchUnit` (R10, Table 01.2), and a step stops nowhere else. -/
def Obligations.CommandsComplete : Prop :=
  (∀ (i : Instr) (s : State), i.wf = true → ∃ u, exec i s = .next u) ∧
  (∀ (i : Instr) (s : State), i.wf = false → exec i s = .fault .noSuchUnit) ∧
  (∀ (s : State) (f : Fault), step s = .fault f → ∃ i r, s.pending = i :: r ∧ i.wf = false) ∧
  (∀ (s : State) (r : Refusal), step s ≠ .refused r)

/-- A queue of commands that name units of the node runs to its end: each step takes one command, none adds one, and after as
many steps as there are commands the queue is empty. -/
def Obligations.QueueRunsOut : Prop :=
  (∀ (i : Instr) (s u : State), exec i s = .next u → u.pending = s.pending) ∧
  (∀ s : State, (∀ i ∈ s.pending, i.wf = true) → ∃ u, steps s.pending.length s = .next u ∧ u.pending = []) ∧
  (∀ (s u : State) (n : Nat), n ≤ s.pending.length → steps n s = .next u → u.pending = s.pending.drop n)

/-- R35 to R37, R39: the frame store keeps its order in every step: three pages, exactly one WRITE, at most one LIVE and one
HELD; the WRITE page is not HELD and shows trailer epoch zero; every other page shows one epoch in header and trailer; a LIVE
page never has epoch zero. -/
def Obligations.PagesStayInOrder : Prop :=
  ∀ s u : State, PagesOk s.frame.pages → step s = .next u → PagesOk u.frame.pages

/-- R424, Table 16.2: the lifecycle never goes back. While the request that executes was admitted under the lifecycle in force,
every step leaves the lifecycle as it is, or moves it onwards, and no step reaches PROVISIONED but from BLANK, FIELDED but from
PROVISIONED. -/
def Obligations.LifecycleNeverGoesBack : Prop :=
  ∀ s u : State, LifeOk s → step s = .next u → LifeOk u ∧
    (u.sec.life = s.sec.life ∨ u.sec.life = .returned ∨ (s.sec.life = .blank ∧ u.sec.life = .provisioned) ∨
      (s.sec.life = .provisioned ∧ u.sec.life = .fielded))

/-- The invariants hold of the machine right after reset. -/
def Obligations.InvariantsAtReset : Prop :=
  PagesOk State.reset.frame.pages ∧ LifeOk State.reset ∧ State.reset.pending = []

/-- R41, R56, R457, R458, Tables 03.5 and 14.10: the machine right after reset. -/
def Obligations.ResetState : Prop :=
  let s := State.reset
  s.pwr.state = .starting ∧ s.pwr.stage = .rails ∧ s.frame.running = false ∧ s.livePage = none ∧ s.heldPage = none ∧
  s.host.irqStat = 0x800#32 ∧ s.host.irqMask = 0 ∧ s.host.done = 0 ∧ s.host.ready = false ∧ s.host.queue = [] ∧ s.host.cur = none ∧
  s.cfg.draft = none ∧ s.cfg.commit = none ∧ s.log.pails = [] ∧ s.live = [] ∧ s.bus.ring = [] ∧
  (∀ k ∈ s.banks, k.power = .off) ∧ (∀ c ∈ s.bus.ctl, c.state = .off) ∧ s.bkp.timeValid = false ∧ s.bkp.pendSet = none ∧
  (∀ a, 0x30000 ≤ a → a < 0x34000 → s.hostByte a = 0) ∧ (∀ a, 0x40000 ≤ a → a < 0x44000 → s.hostByte a = 0) ∧
  (∀ a, 0x10000 ≤ a → a < 0x30000 → s.hostByte a = 0)

/-- R22, R35, R36, R53, Table 01.3: a tick ends the frame in progress, which is published unless it has slipped, and computes
the next one. Publication makes the WRITE page LIVE under the next page epoch, in header and trailer; a slipped frame
publishes nothing and keeps the epoch; a SAFE that waits for the tick is entered. -/
def Obligations.FrameTicks : Prop :=
  ∀ (s : State) (x : TickIn), let t := s.frame.nextTick
    (s.frame.running = false → exec (.frameTick x) s = .next s) ∧
    (s.frame.running = true → PagesOk s.frame.pages → s.pwr.standbyPend = false → s.rst.dueAt = none → s.sec.dbg.halted < 2 → s.frame.open_ = true →
      s.frame.slipped = false → ∃ u : State, exec (.frameTick x) s = .next u ∧ u.clk.now = (s.advance t).clk.now ∧
        u.frame.seq = s.frame.seq + 1 ∧ u.frame.pageEpoch = (if s.frame.pageEpoch = 0xFFFFFFFF then 1 else s.frame.pageEpoch + 1) ∧ u.frame.open_ = true ∧
        u.frame.consec = 0 ∧ u.frame.slips = s.frame.slips ∧ u.frame.lastPub = some (s.advance t).clk.now ∧ PagesOk u.frame.pages ∧
        ∃ p ∈ u.frame.pages, p.role = .live ∧ p.epoch = u.frame.pageEpoch ∧ p.epoch ≠ 0 ∧ p.trailer = p.epoch) ∧
    (s.frame.running = true → PagesOk s.frame.pages → s.pwr.standbyPend = false → s.rst.dueAt = none → s.sec.dbg.halted < 2 → s.frame.slipped = true →
      ∃ u : State, exec (.frameTick x) s = .next u ∧ u.frame.seq = s.frame.seq + 1 ∧ u.frame.pageEpoch = s.frame.pageEpoch ∧
        u.frame.lastPub = s.frame.lastPub ∧ u.frame.slips = s.frame.slips ∧ u.frame.consec = s.frame.consec ∧
        u.frame.pages.map (fun p => (p.role, p.epoch)) = s.frame.pages.map (fun p => (p.role, p.epoch))) ∧
    (∀ c, s.frame.running = true → s.pwr.standbyPend = false → s.rst.dueAt = none → s.sec.dbg.halted < 2 → s.pwr.safePend = some c → s.live = [] →
      s.pwr.state = .armed → ∃ u : State, exec (.frameTick x) s = .next u ∧ u.pwr.state = .safe)

/-- R49 to R53: a frame that misses its compute deadline slips. What steps 3 to 6 computed is discarded, the values and switch
states that its capture put into the channels are taken back, the records and
messages of the frame are lost, the pages stay as they are; the slip is counted, and the second in a row asks for SAFE. A frame
that has slipped already, or none, cannot slip. -/
def Obligations.FrameSlips : Prop :=
  ∀ (s : State) (t : Nat), let a := s.advance t
    (s.frame.open_ = true → s.frame.slipped = false → ∃ u : State, exec (.frameSlip t) s = .next u ∧
      u.eng = { s.prev with foIn := s.prev.foIn ++ s.eng.foIn } ∧ u.prev = s.prev ∧ u.frameRecs = [] ∧ u.frameMsgs = [] ∧
      u.frame = { s.frame with slipped := true, slips := min 0xFFFFFFFF (s.frame.slips + 1), slipBefore := true,
                               lastSlip := some a.clk.now, sinceSlip := 0, consec := s.frame.consec + 1, pubRun := 0 } ∧
      u.pwr.safePend = (if 1 ≤ s.frame.consec then some 2 else s.pwr.safePend) ∧ u.pwr.state = s.pwr.state ∧ u.cfg = s.cfg ∧
      u.chans = s.chans.map ChanSt.restore ∧ u.bus = s.bus ∧ u.host = s.host ∧ u.bkp = a.bkp ∧ u.clk = a.clk ∧
      u.live.map (fun c => c.kind) = s.live.map (fun c => c.kind)) ∧
    ((s.frame.open_ = false ∨ s.frame.slipped = true) → exec (.frameSlip t) s = .next a)

/-- R36: page roles. At a published tick the WRITE page becomes LIVE, a pending hold takes it, and of the pages that are neither
LIVE nor HELD the one with the lower page epoch becomes WRITE, the other REST; at a slipped tick roles stay, and a pending hold
takes the LIVE page. A read of the HELD window that runs over the tick reads to its end from the page it began with, and that
page is spared while another can be written (R39). Roles change at a tick only, but for a reset, which gives the pages their first
roles. -/
def Obligations.PageRoles : Prop :=
  (∀ (take : Bool) (ps : List Page) (i : Nat), ps.length = 3 → i < 3 → (∀ j < 3, (ps.getD j {}).role = .write ↔ j = i) →
    (ps.getD i {}).held = false → (ps.filter (fun p => p.held)).length ≤ 1 →
    let q := rotate take none ps
    q.length = 3 ∧ q.map (fun p => (p.bytes, p.epoch)) = ps.map (fun p => (p.bytes, p.epoch)) ∧
    (q.getD i {}).role = .live ∧ (∀ j < 3, (q.getD j {}).held = (if take then decide (j = i) else (ps.getD j {}).held)) ∧
    ∃ j < 3, j ≠ i ∧ (q.getD j {}).held = false ∧ (q.getD j {}).role = .write ∧ (q.getD j {}).trailer = 0 ∧
      ∀ k < 3, k ≠ i → k ≠ j → (q.getD k {}).role = .rest ∧ ((q.getD k {}).held = true ∨ (q.getD j {}).epoch ≤ (q.getD k {}).epoch)) ∧
  (∀ (take : Bool) (ps : List Page) (b : Nat), ps.length = 3 → b < 3 → ((rotate take (some b) ps).getD b {}).role = .write →
    ∀ j < 3, j ≠ b → ((rotate take (some b) ps).getD j {}).role = .live ∨ ((rotate take (some b) ps).getD j {}).held = true) ∧
  (∀ (s : State) (pub : Bool) (y a : Nat), PagesOk s.frame.pages → 0x40000 ≤ a → a < 0x44000 →
    (∀ p, s.heldPage = some p → (s.pagesTick pub (.held y)).runByte a = p.byte (a - 0x40000)) ∧
    (∀ i z, s.heldPage = none → s.frame.left = some (i, z) → y ≤ z → i < 3 → (s.frame.pages.getD i {}).role ≠ .write →
      (s.pagesTick pub (.held y)).runByte a = (s.frame.pages.getD i {}).byte (a - 0x40000)) ∧
    (∀ i z, s.heldPage = none → s.frame.left = some (i, z) → z < y → (s.pagesTick pub (.held y)).runByte a = 0)) ∧
  (∀ (s : State) (r : TickRead), let u := s.pagesTick false r
    u.frame.pages.map (fun p => p.role) = s.frame.pages.map (fun p => p.role) ∧
    (s.frame.hold = .requested → u.frame.hold = .held → ∀ p ∈ u.frame.pages, p.held = decide (p.role = .live))) ∧
  (∀ (i : Instr) (s u : State), exec i s = .next u → (∃ x, i = .frameTick x) ∨ (∃ t, i = .standbyEntry t) ∨
    u.frame.pages = State.reset.frame.pages ∨ u.frame.pages.map (fun p => p.role) = s.frame.pages.map (fun p => p.role))

/-- R228, Table 08.11: a weir in a frame with no command of its own. Unmasked it moves with CONDITION and with its source; a
mask discards the alarm state; when the last mask ends, what stands is shown again. `NO_ACK` shows ACTIVE_ACK at once. -/
def Obligations.WeirTransitions : Prop :=
  ∀ (c : WeirCfg) (sup : Bool) (now : Nat) (shown : WState) (w : WeirSt), (∀ e, w.shelf = some e → now < e) →
    let r := weirStep5 c {} sup now shown w; let u := r.1.1; let act : WState := if c.noAck then .activeAck else .activeUnack
    (∀ m, w.mask c sup = some m → u = { w with state := m, changed := decide (m ≠ shown) } ∧ r.1.2 = []) ∧
    (w.mask c sup = none → w.failed = false →
      ((w.state = .normal ∨ w.state = .rtnUnack) → w.cond = true → u.state = act ∧ r.1.2.map (fun l => l.code) = [0x0401]) ∧
      ((w.state = .activeUnack ∨ w.state = .activeAck) → w.cond = false →
        u.state = (if w.state = .activeUnack ∧ c.noAck = false then .rtnUnack else .normal) ∧ r.1.2.map (fun l => l.code) = [0x0402]) ∧
      ((w.state = .normal ∨ w.state = .rtnUnack) → w.cond = false → u.state = w.state ∧ r.1.2 = []) ∧
      ((w.state = .activeUnack ∨ w.state = .activeAck) → w.cond = true → u.state = w.state ∧ r.1.2 = []) ∧
      (w.state = .sourceFault → w.cond = false → u.state = .normal ∧ u.faultUnack = w.faultUnack ∧
        r.1.2.map (fun l => l.code) = [0x0404]) ∧
      ((w.state = .outOfService ∨ w.state = .shelved ∨ w.state = .suppressed) →
        u.state = (if w.cond then act else .normal) ∧ r.1.2.map (fun l => l.code) = (if w.cond then [0x0401] else []))) ∧
    (w.mask c sup = none → w.failed = true → u.state = .sourceFault ∧ u.faultUnack = (w.faultUnack || decide (w.state ≠ .sourceFault)) ∧
      r.1.2.map (fun l => l.code) = (if w.state = .sourceFault then [] else [0x0403])) ∧
    (c.noAck = true → w.state ≠ .rtnUnack → u.state ≠ .rtnUnack ∧ (w.state ≠ .activeUnack → u.state ≠ .activeUnack)) ∧
    (∀ o, let v := weirStep5 c { acks := [o] } sup now shown w; let codes := v.1.2.map (fun l => l.code)
      (w.mask c sup = none → w.failed = false → w.state = .activeUnack → w.cond = true → v.1.1.state = .activeAck ∧ codes = [0x0405]) ∧
      (w.mask c sup = none → w.failed = false → w.state = .rtnUnack → w.cond = false → v.1.1.state = .normal ∧ codes = [0x0405]) ∧
      (w.mask c sup = none → w.failed = false → w.state = .normal → w.cond = false →
        v.1.1 = { u with faultUnack := false } ∧ codes = (if w.faultUnack then [0x0405] else [])) ∧
      (w.mask c sup = none → w.failed = false → w.state = .activeAck → w.cond = true →
        v.1.1 = { u with faultUnack := false } ∧ codes = (if w.faultUnack then [0x0405] else [])) ∧
      (w.mask c sup = none → w.failed = true → w.state = .sourceFault →
        v.1.1 = { u with faultUnack := false } ∧ codes = (if w.faultUnack then [0x0405] else [])) ∧
      (∀ m, w.mask c sup = some m → v.1.1 = { u with faultUnack := false } ∧ codes = (if w.faultUnack then [0x0405] else []) ∧
        v.2 = [w.faultUnack])) ∧
    (∀ e, WeirSt.fresh e = { state := if e then .normal else .outOfService })

/-- R56, R59 to R64, R467, Tables 03.3 to 03.14: the port stops and answers again with VIO and nothing else changes; what the
host's register commands do while it answers. -/
def Obligations.HostPortCommands : Prop :=
  ∀ (s : State) (t : Nat), let s1 := s.advance t
    exec (.vioLoss t) s = .next { s1 with host := { s1.host with up := false } } ∧
    exec (.vioReturn t) s = .next { s1 with host := { s1.host with up := true } } ∧
    (s1.portUp = true →
    -- an irregular transaction sets SPI_ERR
    (∀ k, exec (.spiErr t k) s = .next (s1.cause 9)) ∧
    -- a whole word to HP_IRQ_STAT clears the causes written 1, to HP_IRQ_MASK sets its twelve bits
    (∀ w < 4294967296, exec (.hostRegWrite t 8 (le32 w)) s =
      .next { s1 with host := { s1.host with irqStat := s1.host.irqStat &&& ~~~(BitVec.ofNat 32 w &&& 0xFFE#32) } }) ∧
    (∀ w < 4294967296, exec (.hostRegWrite t 0xC (le32 w)) s =
      .next { s1 with host := { s1.host with irqMask := BitVec.ofNat 32 (w % 4096) } }) ∧
    -- a request slot takes a byte, a read-only window takes none
    (∀ a b, 0x10000 ≤ a → a < 0x20000 → exec (.hostRegWrite t a [b]) s =
      .next { s1 with host := { s1.host with req := s1.host.req.write (a - 0x10000) b } }) ∧
    (∀ a b, 0x20000 ≤ a → exec (.hostRegWrite t a [b]) s = .next (s1.cause 9)) ∧
    -- a doorbell for a FREE tag copies the slot and shows PENDING; any other is refused
    (∀ tag < 240, s1.host.ready = true → s1.inFlight tag = false → s1.host.done.getLsbD tag = false →
      exec (.doorbell t tag) s = .next
        (({ s1 with host := { s1.host with rsp := s1.host.rsp.write (256 * tag + 12) 1 } }).submit (s1.slotRequest tag))) ∧
    (∀ tag < 256, (240 ≤ tag ∨ s1.host.ready = false ∨ s1.inFlight tag = true ∨ s1.host.done.getLsbD tag = true) →
      exec (.doorbell t tag) s = .next (s1.cause 8)) ∧
    -- a completed tag becomes FREE, the others stay
    (∀ tag < 256, ∃ u, exec (.hpDone t tag) s = .next { s1 with host := { s1.host with done := u } } ∧
      ∀ i < 256, u.getLsbD i = (s1.host.done.getLsbD i && decide (i ≠ tag))) ∧
    -- a valid kick restarts the watchdog and toggles EXPECT; another value, or a timeout of 0, does nothing
    (∀ v < 256, s1.wdogMs ≠ 0 → v = (if s1.host.wdog.expect then 0xA5 else 0x5A) → exec (.kick t v) s =
      .next { s1 with host := { s1.host with
        wdog := { running := true, expect := !s1.host.wdog.expect, lastKick := s1.clk.now } } }) ∧
    (∀ v < 256, (s1.wdogMs = 0 ∨ v ≠ (if s1.host.wdog.expect then 0xA5 else 0x5A)) → exec (.kick t v) s = .next s1) ∧
    -- HP_HOLD takes a request and a release; the calendar takes its commands, trim and wake
    (s1.frame.hold = .none → exec (.holdReq t) s = .next { s1 with frame := { s1.frame with hold := .requested } }) ∧
    exec (.holdRel t) s = .next { s1 with frame := { s1.frame with
      hold := .none, left := s1.frame.leaves s1.clk.now, pages := s1.frame.pages.map (fun p => { p with held := false }) } } ∧
    exec (.rtcSecRead t) s = .next { s1 with bkp := { s1.bkp with
      snap := bcdRegs s1.bkp.localSec s1.bkp.dst ++ [s1.bkp.cyc % 32768, twos 8 s1.bkp.zone] } } ∧
    exec (.rtcSetCmd t) s = .next (s1.setBkp s1.bkp.writeSet) ∧
    exec (.rtcCancel t) s = .next (s1.setBkp { s1.bkp with pendSet := none, pendDst := none }) ∧
    exec (.dstFwd t) s = .next (s1.setBkp (s1.bkp.writeDst true 0x40)) ∧
    exec (.dstBack t) s = .next (s1.setBkp (s1.bkp.writeDst false 0x40)) ∧
    (∀ v < 65536, exec (.trim t v) s =
      .next { s1 with bkp := { s1.bkp with trim := clampI (-20000) 20000 (signed 16 v) } }) ∧
    (∀ w < 2147483648, exec (.rtcWakeWrite t w) s =
      .next { s1 with bkp := { s1.bkp with wakeEn := false, interval := w % 4194304, wakeDue := none } }))

/-- R40, Table 02.9: the states of a hold, with what writes to HP_HOLD, ticks, the hold timer, HOLDUP and a reset do to it. -/
def Obligations.HoldCommands : Prop :=
  ∀ (s : State) (t : Nat), let s1 := s.advance t
    (s1.portUp = true → s1.frame.hold = .none →
      exec (.holdReq t) s = .next { s1 with frame := { s1.frame with hold := .requested } }) ∧
    (s1.portUp = true → s1.frame.hold = .held →
      exec (.holdReq t) s = .next { s1 with frame := { s1.frame with hold := .heldMove } }) ∧
    (s1.portUp = true → (s1.frame.hold = .requested ∨ s1.frame.hold = .heldMove) → exec (.holdReq t) s = .next s1) ∧
    (s1.portUp = true → ∃ u, exec (.holdRel t) s = .next u ∧ u.frame.hold = .none ∧
      (∀ p ∈ u.frame.pages, p.held = false) ∧ u.frame.pages.map (fun p => (p.role, p.epoch, p.bytes)) =
        s1.frame.pages.map (fun p => (p.role, p.epoch, p.bytes)) ∧ u.frame.holdExpired = s1.frame.holdExpired ∧
      (∀ a, 0x40000 ≤ a → a < 0x44000 → u.hostByte a = 0)) ∧
    (s1.portUp = true → exec (.hostRegWrite t 0x40 (le32 1)) s = exec (.holdReq t) s ∧
      exec (.hostRegWrite t 0x40 (le32 2)) s = exec (.holdRel t) s ∧
      exec (.hostRegWrite t 0x40 (le32 3)) s = exec (.holdRel t) s) ∧
    (∀ pub r, (s.frame.hold = .requested ∨ s.frame.hold = .heldMove) → let u := s.pagesTick pub r
      u.frame.hold = .held ∧ u.frame.holdSince = s.clk.now ∧ (∀ p ∈ u.frame.pages, p.held = decide (p.role = .live)) ∧
      u.host.irqStat = (if s.frame.hold = .requested then s.host.irqStat ||| 2#32 else s.host.irqStat)) ∧
    (∀ pub r, s.frame.hold = .held → s.frame.holdSince + 1000000000 ≤ s.clk.now → let u := s.pagesTick pub r
      u.frame.hold = .none ∧ u.frame.holdExpired = true ∧ (∀ p ∈ u.frame.pages, p.held = false) ∧
      u.host.irqStat = s.host.irqStat ||| 4#32) ∧
    (∀ pub r, s.frame.hold = .held → s.clk.now < s.frame.holdSince + 1000000000 → (s.pagesTick pub r).frame.hold = .held) ∧
    (s1.frame.hold = .held → s1.frame.holdSince + 1000000000 ≤ s1.clk.now → s1.frame.running = true →
      s1.frame.nextTick ≤ s1.clk.now → exec (.holdExpired t) s =
      .next { s1 with frame := { s1.frame with hold := .none, left := s1.frame.leaves s1.clk.now, holdExpired := true },
                      host := { s1.host with irqStat := s1.host.irqStat ||| 4#32 } }) ∧
    ((s1.frame.hold ≠ .held ∨ s1.clk.now < s1.frame.holdSince + 1000000000 ∨ s1.frame.running = false ∨
      s1.clk.now < s1.frame.nextTick) → exec (.holdExpired t) s = .next s1) ∧
    (∀ mv, s.pwr.dip = true → s1.running = true → ∃ u, exec (.powerFail t mv) s = .next u ∧ u.frame.hold = .none ∧
      u.frame.holdExpired = s.frame.holdExpired) ∧
    (∀ c flushed session, (s.restart c flushed session).frame.hold = .none ∧
      (s.restart c flushed session).frame.holdExpired = false)

/-- R335, R336, R339 to R341, R345, Tables 12.6 and 12.8: the calendar commands of the host; each is what the byte written to
its register does. -/
def Obligations.CalendarCommands : Prop :=
  ∀ (s : State) (t : Nat), (s.advance t).portUp = true →
    let s1 := s.advance t
    let b := s1.bkp
    let l : Int := (b.nextBoundary : Int) + b.offset
    (∃ u, exec (.rtcSecRead t) s = .next u ∧ u = { s1 with bkp := { b with
        snap := bcdRegs b.localSec b.dst ++ [b.cyc % 32768, twos 8 b.zone] } } ∧
      ∀ i < 10, u.bkp.readWord (0x1000 + 4 * i) = (bcdRegs b.localSec b.dst ++ [b.cyc % 32768, twos 8 b.zone]).getD i 0) ∧
    (∀ u z d, checkStage b.stage = .inr (u, z, d) → exec (.rtcSetCmd t) s = .next (s1.setBkp { b with
      pendSet := some { utc := u, zone := z, dst := d, due := b.nextBoundary }, pendDst := none })) ∧
    (∀ k, checkStage b.stage = .inl k → exec (.rtcSetCmd t) s =
      .next (s1.setBkp { b with dateErr := true, errKind := k })) ∧
    exec (.rtcCancel t) s = .next (s1.setBkp { b with pendSet := none, pendDst := none }) ∧
    (b.pendSet = none → b.pendDst = none → b.dst = false → l + 3600 ≤ calendarEnd →
      exec (.dstFwd t) s = .next (s1.setBkp { b with pendDst := some { fwd := true, due := b.nextBoundary, origin := 0x40 } })) ∧
    (b.pendSet = none → b.pendDst = none → b.dst = true → 3600 ≤ l →
      exec (.dstBack t) s = .next (s1.setBkp { b with pendDst := some { fwd := false, due := b.nextBoundary, origin := 0x40 } })) ∧
    (b.pendSet = none → b.pendDst = none →
      (b.dst = true → exec (.dstFwd t) s = .next (s1.setBkp { b with dateErr := true, errKind := 2 })) ∧
      (b.dst = false → exec (.dstBack t) s = .next (s1.setBkp { b with dateErr := true, errKind := 2 })) ∧
      (b.dst = false → calendarEnd < l + 3600 → exec (.dstFwd t) s = .next (s1.setBkp { b with dateErr := true, errKind := 3 })) ∧
      (b.dst = true → l < 3600 → exec (.dstBack t) s = .next (s1.setBkp { b with dateErr := true, errKind := 3 }))) ∧
    (b.pendSet.isSome = true → exec (.dstFwd t) s = .next (s1.setBkp { b with dateErr := true, errKind := 5 }) ∧
      exec (.dstBack t) s = .next (s1.setBkp { b with dateErr := true, errKind := 5 })) ∧
    (exec (.hostRegWrite t 0x1080 [1]) s = exec (.rtcSetCmd t) s ∧ exec (.hostRegWrite t 0x1080 [16]) s = exec (.rtcCancel t) s ∧
      exec (.hostRegWrite t 0x1080 [4]) s = exec (.dstFwd t) s ∧ exec (.hostRegWrite t 0x1080 [8]) s = exec (.dstBack t) s) ∧
    (∀ v < 65536, exec (.trim t v) s = .next { s1 with bkp := { b with trim := clampI (-20000) 20000 (signed 16 v) } }) ∧
    (∀ w < 4294967296, exec (.rtcWakeWrite t w) s = .next { s1 with bkp :=
      { b with wakeEn := decide (2147483648 ≤ w), interval := w % 4194304,
               wakeDue := if 2147483648 ≤ w ∧ w % 4194304 ≠ 0 then some (b.age + w % 4194304 * wakeUnit) else none } })

/-- R62 to R64, R81: completion of a request. The response slot, or the mailbox, holds the 256 bytes of Table 03.12; the
completion bit of a host tag is set, and no other; every other response slot, the configuration and the node state stay. -/
def Obligations.CompletionOfARequest : Prop :=
  ∀ (s : State) (f : Flight) (st : Status) (d : Nat) (p : List Byte), s.host.rsp.wf = true →
    let u := s.complete f st d p
    (f.id < 240 → (∀ i < 256, u.host.rsp.read (256 * f.id + i) = (respBytes f.req st d p).getD i 0) ∧
      u.host.done = s.host.done ||| (1#256 <<< f.id) ∧ u = { s with host := { s.host with rsp := u.host.rsp, done := u.host.done } }) ∧
    (256 ≤ f.id → u = { s with host := { s.host with mbox := s.host.mbox ++ [(f.id - 256, respBytes f.req st d p)] } }) ∧
    (240 ≤ f.id → u.host.done = s.host.done) ∧
    (∀ a, (a < 256 * f.id ∨ 256 * f.id + 256 ≤ a) → u.host.rsp.read a = s.host.rsp.read a) ∧
    u.host.rsp.wf = true ∧ u.cfg = s.cfg ∧ u.pwr = s.pwr ∧ u.host.queue = s.host.queue ∧ u.host.cur = s.host.cur

/-- R65, R66: requests are taken in doorbell order: those that fail a check complete with its status, the first that
passes executes, the others stay QUEUED. -/
def Obligations.RequestsAreTakenInOrder : Prop :=
  (∀ s : State, s.host.cur.isSome = true → s.takeNext = s) ∧
  (∀ s : State, s.host.cur = none → s.host.queue = [] → s.takeNext = { s with host := { s.host with queue := [] , cur := none } }) ∧
  (∀ (s : State) f r, s.host.cur = none → s.host.queue = f :: r → (s.touchDraft f).check f = none →
    s.takeNext = { s.touchDraft f with host := { s.host with queue := r, cur := some f } }) ∧
  (∀ (s : State) f r x, s.host.cur = none → s.host.queue = f :: r → (s.touchDraft f).check f = some x →
    s.takeNext = takeFrom r ((s.touchDraft f).refuse f x))

/-- R70, R71, R75, R492, Tables 03.18 and 03.20: SYS_INFO, CFG_OPEN, CFG_READ, CFG_LOAD, CFG_STORE, CFG_DISCARD and the
timeout of a draft. -/
def Obligations.DraftCommands : Prop :=
  ∀ (s : State) (t tag : Nat) (f : Flight), let a := s.acting t
    (Executes s tag 0x0101 f → exec (.sysInfo t tag) s = .next (a.ok f a.sysInfo).takeNext) ∧
    (Executes s tag 0x0201 f → s.cfg.draft = none → byteAt f.req 16 = 0 → exec (.cfgOpen t tag) s =
      .next (({ a with cfg := { a.cfg with draft := some { owner := f.origin, baseEpoch := s.cfg.epoch, lastUse := a.clk.now,
                                                            img := s.cfg.img, top := 0 } } }).ok f
        (le16 s.cfg.epoch ++ le8 f.origin.code ++ le8 0)).takeNext) ∧
    (Executes s tag 0x0201 f → s.cfg.draft = none → byteAt f.req 16 = 2 → exec (.cfgOpen t tag) s =
      .next (({ a with cfg := { a.cfg with draft := some { owner := f.origin, baseEpoch := s.cfg.epoch, lastUse := a.clk.now,
                                                            img := emptyImage, top := 0 } } }).ok f
        (le16 s.cfg.epoch ++ le8 f.origin.code ++ le8 0)).takeNext) ∧
    (Executes s tag 0x0201 f → s.cfg.draft = none → byteAt f.req 16 = 1 → ∃ (u : State) (op : Nat),
      exec (.cfgOpen t tag) s = .next (u.wait f (.nvm op)).takeNext ∧
      u.cfg.draft = some { owner := f.origin, baseEpoch := s.cfg.epoch, lastUse := a.clk.now,
                           img := a.imageSlot (byteAt f.req 17), top := 0 } ∧ u.cfg.img = s.cfg.img) ∧
    (∀ d, Executes s tag 0x0201 f → s.cfg.draft = some d → exec (.cfgOpen t tag) s =
      .next (a.complete f .busy d.owner.code []).takeNext) ∧
    (Executes s tag 0x0204 f → (byteAt f.req 16 = 1 ∨ a.nvm.running = none) → exec (.cfgRead t tag) s =
      .next (a.ok f (a.cfgRead f)).takeNext) ∧
    (∀ o, Executes s tag 0x0204 f → byteAt f.req 16 = 0 → s.nvm.running = some o → exec (.cfgRead t tag) s =
      .next (a.wait f (.nvm o.num)).takeNext) ∧
    (∀ d, Executes s tag 0x0205 f → s.cfg.draft = some d → u32At f.req 16 + (f.payload.drop 4).length ≤ 131072 →
      exec (.cfgLoad t tag) s = .next (({ a with cfg := { a.cfg with
        draft := some { d with img := d.img.writeList (u32At f.req 16) (f.payload.drop 4),
                               top := max d.top (u32At f.req 16 + (f.payload.drop 4).length) } } }).ok f []).takeNext) ∧
    -- a byte beyond the image is refused at check step 10, before the BUSY of step 11
    (f.opcode = 0x0205 → f.cfgEpoch = 0xFFFF → 131072 < u32At f.req 16 + (f.len - 4) → ∀ d, opDesc 0x0205 = some d →
      s.lateChecks d f = some (.badField, 16, [])) ∧
    (Executes s tag 0x0206 f → (a.energyOk 25000 = true ∨ f.noWait = false) →
      let n := a.imageLen (byteAt f.req 16 = 1)
      ∃ u : State, exec (.cfgStore t tag) s = .next (u.wait f (.nvm s.nvm.nextNum)).takeNext ∧ u.cfg = s.cfg ∧
        ∃ o ∈ u.nvm.running.toList ++ u.nvm.waiting, o.num = s.nvm.nextNum ∧ o.kind = .storeImage (byteAt f.req 17) ∧
          o.arg = n ∧ o.data = (a.image (byteAt f.req 16 = 1)).window 0 n) ∧
    (Executes s tag 0x0206 f → a.energyOk 25000 = false → f.noWait = true → exec (.cfgStore t tag) s =
      .next (a.complete f .energyRefused 0 (a.energyPayload 25000)).takeNext) ∧
    (Executes s tag 0x0203 f → s.cfg.commit = none → exec (.cfgDiscard t tag) s =
      .next (({ a with cfg := { a.cfg with draft := none } }).ok f []).takeNext) ∧
    (∀ c, Executes s tag 0x0203 f → s.cfg.commit = some c → (∃ x : Nat, c.phase = .energy x) → exec (.cfgDiscard t tag) s =
      .next ((({ a with cfg := { a.cfg with commit := none, draft := none } }).complete c.fl .aborted 3 []).ok f []).takeNext) ∧
    (∀ c, Executes s tag 0x0203 f → s.cfg.commit = some c → (∀ x, c.phase ≠ .energy x) → exec (.cfgDiscard t tag) s =
      .next (a.complete f .busy c.fl.origin.code []).takeNext) ∧
    (∀ d, s.cfg.draft = some d → s.cfg.commit = none → d.lastUse + 60000000000 ≤ (s.advance t).clk.now →
      exec (.draftTimeout t) s = .next (({ s.advance t with cfg := { s.cfg with draft := none } }).logNode 0x0201 3
        d.owner.code d.baseEpoch)) ∧
    (s.cfg.draft = none ∨ s.cfg.commit.isSome = true ∨ (∃ d, s.cfg.draft = some d ∧ (s.advance t).clk.now < d.lastUse + 60000000000) →
      exec (.draftTimeout t) s = .next (s.advance t))

/-- R72 to R75, Table 03.21: the commit. The configuration in force changes only at the tick of application. -/
def Obligations.CommitProcedure : Prop :=
  ∀ (s : State) (t tag : Nat) (f : Flight) (d : Draft), s.cfg.draft = some d → let a := s.acting t
    let roles := newRoles s.cfg.roles s.cfg.img d.img
    let img := rebuildTable d.img 0xF0 roles.bytes
    -- step 1: a draft of another base epoch is discarded
    (Executes s tag 0x0202 f → d.baseEpoch ≠ s.cfg.epoch → exec (.cfgCommit t tag) s =
      .next (({ a with cfg := { a.cfg with draft := none } }).complete f .epochStale 0 (le16 s.cfg.epoch)).takeNext) ∧
    -- steps 2 to 4: the status of the failing step, the draft stays
    (∀ x, Executes s tag 0x0202 f → d.baseEpoch = s.cfg.epoch → a.draftRefusal d.img = some x →
      exec (.cfgCommit t tag) s = .next (a.refuse f x).takeNext) ∧
    -- DRY_RUN ends after step 4
    (Executes s tag 0x0202 f → d.baseEpoch = s.cfg.epoch → a.draftRefusal d.img = none → f.dryRun = true →
      exec (.dryRun t tag) s = .next (a.ok f (a.dryRunPayload d.img)).takeNext) ∧
    -- step 5: without the energy the commit waits, or is refused with NO_WAIT
    (Executes s tag 0x0202 f → d.baseEpoch = s.cfg.epoch → a.draftRefusal d.img = none → f.dryRun = false →
      a.energyOk a.commitCost = false → f.noWait = false → exec (.cfgCommit t tag) s =
        .next ({ a with cfg := { a.cfg with commit := some { fl := f, phase := .energy a.clk.now } } }).takeNext) ∧
    (Executes s tag 0x0202 f → d.baseEpoch = s.cfg.epoch → a.draftRefusal d.img = none → f.dryRun = false →
      a.energyOk a.commitCost = false → f.noWait = true → exec (.cfgCommit t tag) s =
        .next (a.complete f .energyRefused 0 (a.energyPayload a.commitCost)).takeNext) ∧
    -- step 6: epochs are assigned, table 0x00F0 is rebuilt with them (R78), and the churn is asked for
    (Executes s tag 0x0202 f → d.baseEpoch = s.cfg.epoch → a.draftRefusal d.img = none → f.dryRun = false →
      a.energyOk a.commitCost = true → ∃ (u : State) (n : Nat), exec (.cfgCommit t tag) s = .next u.takeNext ∧
        u.cfg = { s.cfg with churn := some (img, roles), commit := some {
          fl := f, phase := .churn n, img, roles, epoch := nextEpoch s.cfg.epoch } }) ∧
    (∀ c x, s.cfg.commit = some c → c.phase = .energy x → (s.advance t).energyOk (s.advance t).commitCost = true →
      ∃ (u : State) (n : Nat), exec (.commitEnergyMet t) s = .next u ∧
        u.cfg = { s.cfg with churn := some (img, roles), commit := some {
          fl := c.fl, phase := .churn n, img, roles, epoch := nextEpoch s.cfg.epoch } })

/-- R72 steps 6 to 8, R28, R44, R45, R73: the end of a commit: the churn into the inactive copy, or its failure (HW_FAULT and
no change of the configuration; that the pail part stands and the draft stays open is log entry 90); the application at a tick
that ends a published frame, after the outputs acted under the old configuration; the selector, at once or as an operation of
its own; the refusal after 5 s without energy. -/
def Obligations.CommitCompletes : Prop :=
  ∀ (s : State) (t : Nat) (c : Commit), s.cfg.commit = some c → let a := s.advance t
    (∀ o, s.nvm.running = some o → o.kind = .commitChurn → c.phase = .churn o.num → s.cfg.churn = some (c.img, c.roles) →
      s.sec.erasure = none → s.rst.clockLoss = none → (∀ w ∈ s.host.waits, w.kind ≠ .nvm o.num) →
      ∃ u : State, exec (.commitChurn { t := t, failed := false }) s = .next u ∧
        u.cfg = { s.cfg.churned c.img c.roles with churn := none, commit := some { c with phase := .ready } }) ∧
    (∀ o, s.nvm.running = some o → o.kind = .commitChurn → s.sec.erasure = none → s.rst.clockLoss = none →
      (∀ w ∈ s.host.waits, w.kind ≠ .nvm o.num) →
      ∃ u : State, exec (.commitChurn { t := t, failed := true }) s = .next u ∧
        u.cfg = { s.cfg with churn := none, commit := none } ∧
        ∀ i < 256, c.fl.id < 240 → s.host.rsp.wf = true → u.host.rsp.read (256 * c.fl.id + i) = (respBytes c.fl.req .hwFault 0 []).getD i 0) ∧
    (a.tickDue = true → c.phase = .ready → a.commonTick (sysByte c.img 0 1) = true →
      exec (.configApplied t) s = .next (((a.outputsAct true []).objFlush).applyCommit c)) ∧
    (a.tickDue = true → c.phase = .ready → a.commonTick (sysByte c.img 0 1) = true → sysByte c.img 0 1 ≠ s.frame.profile →
      exec (.profileChange t) s = .next (((a.outputsAct true []).objFlush).applyCommit c)) ∧
    (s.nvm.running = none → ∃ u : State, a.applyCommit c = u ∧ u.cfg.img = c.img ∧ u.cfg.epoch = c.epoch ∧
      u.cfg.roles = c.roles ∧ u.cfg.draft = none ∧ u.cfg.commit = none ∧ u.cfg.sel0 = (s.cfg.select c.epoch).sel0 ∧
      u.cfg.sel1 = (s.cfg.select c.epoch).sel1) ∧
    (∀ o, s.nvm.running = some o → ∃ (u : State) (n : Nat), a.applyCommit c = u ∧ u.cfg.img = c.img ∧ u.cfg.epoch = c.epoch ∧
      u.cfg.roles = c.roles ∧ u.cfg.draft = s.cfg.draft ∧ u.cfg.sel0 = s.cfg.sel0 ∧ u.cfg.sel1 = s.cfg.sel1 ∧
      u.cfg.commit = some { c with phase := .selector n s.frame.seq }) ∧
    (∀ x, c.phase = .energy x → x + 5000000000 ≤ a.clk.now → a.energyOk a.commitCost = false → s.host.waits = [] →
      s.nvm.waiting = [] → exec (.energyRefused t) s =
        .next (({ a with cfg := { a.cfg with commit := none } }).complete c.fl .energyRefused 0 (a.energyPayload a.commitCost)))

/-- R71, R488, Table 17.11: a SET changes the draft only: the entry, as R488 edits an image; a fault of the image refuses it and
leaves the draft. A GET answers with the entry of the image its payload chooses, the off entry where the image has none, and
changes nothing but its answer. -/
def Obligations.EntryOpcodes : Prop :=
  (∀ x ∈ setRows, ∀ (s : State) (t tag : Nat) (f : Flight) (d : Draft), Executes s tag x.2.1 f → s.cfg.draft = some d →
    let a := s.acting t
    (∀ m, setEntry d.img x.2.2.1 (x.2.2.2.1 f) (f.payload.drop x.2.2.2.2) (offEntry x.2.2.1) = .done m →
      exec (x.1 t tag) s = .next (({ a with cfg := { a.cfg with draft := some { d with img := m } } }).ok f []).takeNext) ∧
    (∀ e, setEntry d.img x.2.2.1 (x.2.2.2.1 f) (f.payload.drop x.2.2.2.2) (offEntry x.2.2.1) = .fault e →
      exec (x.1 t tag) s = .next (a.complete f .badField 255 (le16 e.table ++ le16 e.entry ++ le16 e.off)).takeNext)) ∧
  (∀ (s : State) (t tag : Nat) (f : Flight) (d : Draft) (m : Mem), Executes s tag 0x0B02 f → s.cfg.draft = some d →
    setKeyed d.img 0x61 (fun a => decide (d.img.u8 a = byteAt f.req 16) && decide (d.img.u8 (a + 1) = byteAt f.req 17))
      f.payload = .done m →
    exec (.dispWaveSet t tag) s =
      .next (({ s.acting t with cfg := { s.cfg with draft := some { d with img := m } } }).ok f []).takeNext) ∧
  (∀ x ∈ getRows, ∀ (s : State) (t tag : Nat) (f : Flight), Executes s tag x.2.1 f →
    exec (x.1 t tag) s = .next ((s.acting t).ok f
      (entryBytes (s.image (byteAt f.req 16 = 1)) x.2.2.1 (x.2.2.2 f))).takeNext) ∧
  (∀ (s : State) (t tag : Nat) (f : Flight), Executes s tag 0x0E03 f → (byteAt f.req 17 = 1 → byteAt f.req 18 ≤ 7) →
    exec (.ioGet t tag) s = .next ((s.acting t).ok f
      (entryBytes (s.image (byteAt f.req 16 = 1)) (if byteAt f.req 17 = 1 then 0x81 else 0x80) (byteAt f.req 18))).takeNext)

/-- R364, Table 13.11: LOG_READ answers with the surviving records from the sequence asked for, tells a host that fell behind
where to go on, and waits for the end of an NVM operation; LOG_PAIL_READ shows the records not yet churned. -/
def Obligations.LogReading : Prop :=
  ∀ (s : State) (t tag : Nat) (f : Flight), let a := s.acting t; let n := u32At f.req 16
    (Executes s tag 0x0901 f → s.nvm.running = none → n ≠ 0 → 0 ≤ seqDiff n s.log.next →
      exec (.logRead t tag) s = .next (a.ok f (le32 n ++ le8 0 ++ zeros 3)).takeNext) ∧
    (∀ r rs, Executes s tag 0x0901 f → s.nvm.running = none → n ≠ 0 → seqDiff n s.log.next < 0 →
      s.log.from_ n (byteAt f.req 20) = r :: rs → r.seq = n →
      exec (.logRead t tag) s = .next (a.ok f (le32 n ++ le8 (r :: rs).length ++ zeros 3 ++ (r :: rs).flatMap Rec.bytes)).takeNext) ∧
    (∀ r rs, Executes s tag 0x0901 f → s.nvm.running = none → n ≠ 0 → seqDiff n s.log.next < 0 →
      s.log.from_ n (byteAt f.req 20) = r :: rs → r.seq ≠ n →
      exec (.logRead t tag) s =
        .next (a.complete f .overwritten 0 (le32 s.log.oldest ++ le32 r.seq ++ le32 s.log.next)).takeNext) ∧
    (∀ o, Executes s tag 0x0901 f → s.nvm.running = some o →
      exec (.logRead t tag) s = .next (a.wait f (.nvm o.num)).takeNext) ∧
    (Executes s tag 0x0902 f → exec (.logPailRead t tag) s =
      .next (a.ok f (le8 ((s.log.pails.drop (byteAt f.req 16)).take (byteAt f.req 17)).length ++ le8 s.log.pails.length ++ le16 0 ++
        le32 s.log.next ++ ((s.log.pails.drop (byteAt f.req 16)).take (byteAt f.req 17)).flatMap Rec.bytes)).takeNext)

/-- What LOG_WRITE, LOG_CLEAR and LOG_CLEAR_SEGMENT do: LOG_WRITE enters a LOG_NOTE with source kind 0, the code of its origin and role epoch 0xFFFF, and answers
with its pail position; a note that is dropped at entry answers QUEUE_FULL. LOG_CLEAR waits for its 80 mJ, or is refused
ENERGY_REFUSED with NO_WAIT; then both pails are empty, but for one that is being churned, and the erasure of the first segment is
asked for; a second clear is BUSY. A segment that completes loses its records below the limit, and the next one is asked for; after the
last, LOG_CLEARED enters with the number of records erased. -/
def Obligations.LogNotesAndClear : Prop :=
  ∀ (s : State) (t tag : Nat) (f : Flight), let a := s.acting t; let b := s.advance t
    let note : Rec := { ts := a.evTs, code := 0x0904, sev := byteAt f.req 16, kind := 0, idx := f.origin.code, role := 0xFFFF,
                        p1 := u32At f.req 20, p2 := u32At f.req 24,
                        flags := if tsUs a.evTs + 1000000 < a.clk.base / 1000 then 2 else 0 }
    (∀ l, Executes s tag 0x0903 f → s.log.record note a.clk.now a.dropFrom = (l, true) →
      exec (.logWrite t tag) s = .next (({ a with log := l }).ok f (le8 (l.pails.length - 1) ++ zeros 3)).takeNext) ∧
    (∀ l, Executes s tag 0x0903 f → s.log.record note a.clk.now a.dropFrom = (l, false) →
      exec (.logWrite t tag) s = .next (({ a with log := l }).complete f .queueFull 0 []).takeNext) ∧
    (Executes s tag 0x0904 f → s.clearing = false → a.energyOk 80000 = true → ∃ u : State,
      exec (.logClear t tag) s = .next u.takeNext ∧ u.log.slots = s.log.slots ∧
        u.log.clear = some (s.log.next, byteAt f.req 16, 0, 0) ∧ u.host.waits = s.host.waits ++ [⟨f, .logClear⟩] ∧
        u.log.pails = (if s.log.churning then s.log.other else []) ∧
        ∃ o ∈ u.nvm.running.toList ++ u.nvm.waiting, o.num = s.nvm.nextNum ∧ o.kind = .clearSegment) ∧
    (Executes s tag 0x0904 f → s.clearing = false → a.energyOk 80000 = false → f.noWait = false →
      exec (.logClear t tag) s = .next (a.wait f (.clearEnergy (byteAt f.req 16) a.clk.now)).takeNext) ∧
    (Executes s tag 0x0904 f → s.clearing = false → a.energyOk 80000 = false → f.noWait = true →
      exec (.logClear t tag) s = .next (a.complete f .energyRefused 0 (a.energyPayload 80000)).takeNext) ∧
    (Executes s tag 0x0904 f → s.clearing = true → exec (.logClear t tag) s = .next (a.complete f .busy 0x40 []).takeNext) ∧
    (∀ o limit opts erased k, s.nvm.running = some o → o.kind = .clearSegment → s.log.clear = some (limit, opts, erased, k) →
      s.rst.clockLoss = none → s.sec.erasure = none → (∀ w ∈ s.host.waits, w.kind ≠ .nvm o.num) →
      let keep := s.log.slots.filter (fun p => !(decide (p.1 / 512 = k) && decide (seqDiff p.2.seq limit < 0)))
      let n := erased + (s.log.slots.length - keep.length)
      (k < 95 → ∃ u : State, exec (.logClearSegment t) s = .next u ∧ u.log.slots = keep ∧
        u.log.clear = some (limit, opts, n, k + 1) ∧
        ∃ o ∈ u.nvm.running.toList ++ u.nvm.waiting, o.kind = .clearSegment) ∧
      (95 ≤ k → ∃ l : LogSt, l.slots = keep ∧ l.clear = none ∧ l.wrapped = false ∧ l.next = s.log.next ∧ l.pails = s.log.pails ∧
        (tst opts 0 = true → l.drops = List.replicate 8 0 ∧ l.overwritten = 0) ∧
        exec (.logClearSegment t) s =
          .next (({ b with nvm := { s.nvm with running := none }, log := l }).logNode 0x0901 7 n opts).nvmStart)) ∧
    ((∀ o, s.nvm.running = some o → o.kind ≠ .clearSegment ∧ o.kind ≠ .eraseFirst ∧ o.kind ≠ .eraseSegment) →
      exec (.logClearSegment t) s = .next b)

/-- What AGE_TRIGGER, LOG_DROPS, LOG_CHURN and LOG_CHURN_COMPLETE do: a record that has been 1 s in the active pail swaps the
pails, or leaves the trigger pending while the other pail is not empty; a drop minute that ends at a capture enters LOG_DROPS. A log
churn with its energy there starts when the controller is free or serves the flash and the trigger was urgent, and gives every record
its sequence and slot; behind another operation it stays queued; without the energy it waits, with ENERGY_WAIT set. At its end its
records stand in the log and its pail is empty. -/
def Obligations.LogTimersAndChurns : Prop :=
  ∀ (s : State) (t : Nat), let a := s.advance t
    (∀ r ∈ s.log.active, s.log.closed = false → r.entered + 1000000000 ≤ a.clk.now → s.log.other = [] → s.log.churning = false →
      exec (.ageTrigger t) s =
        .next { a with log := { s.log with activeB := !s.log.activeB, queued := true, trigger := false } }) ∧
    (∀ r ∈ s.log.active, s.log.closed = false → r.entered + 1000000000 ≤ a.clk.now → (s.log.other ≠ [] ∨ s.log.churning = true) →
      exec (.ageTrigger t) s = .next { a with log := { s.log with trigger := true } }) ∧
    ((s.log.closed = true ∨ ∀ r ∈ s.log.active, a.clk.now < r.entered + 1000000000) → exec (.ageTrigger t) s = .next a) ∧
    (∀ c e, s.log.minute = some (c, e) → e ≤ a.clk.flow →
      (s.frame.running = false ∨ a.clk.now = s.frame.captNow ∨ s.frame.nextTick ≤ a.clk.now) → exec (.logDrops t) s =
      .next (({ a with log := { s.log with minute := none } }).logNode 0x0903 5
        (min 255 (c.getD 4 0) + 256 * (min 255 (c.getD 5 0) + 256 * (min 255 (c.getD 6 0) + 256 * min 255 (c.getD 7 0))))
        (min 255 (c.getD 0 0) + 256 * (min 255 (c.getD 1 0) + 256 * (min 255 (c.getD 2 0) + 256 * min 255 (c.getD 3 0)))))) ∧
    (s.frame.running = true → a.clk.now ≠ s.frame.captNow → a.clk.now < s.frame.nextTick → exec (.logDrops t) s = .next a) ∧
    ((∀ x ∈ s.log.minute, a.clk.flow < x.2) → exec (.logDrops t) s = .next a) ∧
    (s.rst.clockLoss = none → a.logChurnReady = true →
      (s.nvm.running = none ∧ (∀ o ∈ s.nvm.waiting, 4 < o.kind.rank ∧ o.started = false) ∨
        s.log.urgent = true ∧ ∃ r, s.nvm.running = some r ∧ r.kind.rank = 6) →
      ∃ u : State, exec (.logChurn t) s = .next u ∧ u.log.churning = true ∧ u.log.queued = false ∧ u.log.energyWait = false ∧
        u.log.plan = (churnPlan s.log s.log.other).slots ∧ u.log.next = (churnPlan s.log s.log.other).next ∧
        u.log.slots = s.log.slots ∧ u.log.pails = s.log.pails ∧
        u.nvm.running = some { num := s.nvm.nextNum, kind := .logChurn } ∧
        u.nvm.waiting = (s.nvm.running.map (fun r => { r with started := true })).toList ++ s.nvm.waiting) ∧
    (∀ r, s.rst.clockLoss = none → a.logChurnReady = true → s.nvm.running = some r → (r.kind.rank ≠ 6 ∨ s.log.urgent = false) →
      exec (.logChurn t) s = .next { a with log := { s.log with energyWait := false } }) ∧
    (s.rst.clockLoss = none → s.log.closed = false → a.logChurnReady = false → (s.nvm.running.isSome = true ∨ s.nvm.waiting = []) →
      exec (.logChurn t) s = .next { a with log := { s.log with energyWait := s.log.queued && !s.log.churning } }) ∧
    ((s.rst.clockLoss.isSome = true ∨ s.log.closed = true ∧ s.sec.erasure = none) → exec (.logChurn t) s = .next a) ∧
    (∀ o, s.nvm.running = some o → o.kind = .logChurn → s.rst.clockLoss = none → s.log.churning = true → s.sec.erasure = none →
      (∀ w ∈ s.host.waits, w.kind ≠ .nvm o.num) →
      ∃ u : State, exec (.logChurnComplete t) s = .next u ∧ u.log.slots = s.log.plan ∧ u.log.pails = s.log.active ∧
        u.log.lastChurn = a.nowTs ∧
        (s.nvm.waiting = [] → s.log.queued = false → s.log.trigger = false → u.log.churning = false ∧ u.nvm.running = none)) ∧
    ((∀ o, s.nvm.running = some o → o.kind ≠ .logChurn) → exec (.logChurnComplete t) s = .next a)

/-- R360: with a free slot a record takes the lowest one; with none, the slot of the oldest record of equal or lower
severity, so that a record of severity 7 gives way to severity 7 only; a record without a slot is dropped and gets no
sequence number. -/
def Obligations.SlotAssignment : Prop :=
  ∀ (acc : ChurnAcc) (r : Rec), acc.slots.Pairwise (fun x y => x.1 < y.1) →
    let i := freeSlot acc.slots 0; let u := churnOne acc r
    (i < 49152 → u = { acc with slots := putSlot acc.slots i { r with seq := acc.next }, next := seqAfter acc.next }) ∧
    (49152 ≤ i → ∀ j b, oldestSlot acc.next r.sev acc.slots = some (j, b) →
      u.slots = putSlot acc.slots j { r with seq := acc.next } ∧ u.next = seqAfter acc.next ∧ u.repl = acc.repl + 1 ∧ u.drops = acc.drops ∧
      ∃ old, (j, old) ∈ acc.slots ∧ old.sev ≤ r.sev ∧ ∀ p ∈ acc.slots, p.2.sev ≤ r.sev → behind acc.next p.2.seq ≤ behind acc.next old.seq) ∧
    (49152 ≤ i → oldestSlot acc.next r.sev acc.slots = none →
      u = { acc with drops := acc.drops ++ [r.sev] } ∧ ∀ p ∈ acc.slots, r.sev < p.2.sev) ∧
    (∀ p ∈ acc.slots, p.2.sev = 7 → r.sev ≤ 6 → p ∈ u.slots)

/-- R18, R362, R457 to R459, R474: a reset with its flush, commanded or not. The records of both pails go into the log, everything that is not
kept returns to its reset value, the backup domain runs on and start-up begins with the cause of Table 17.8. A node held in
reset or without power has none. SYS_RESET takes its word; another word is refused and nothing happens. -/
def Obligations.FlushedResets : Prop :=
  ∀ (s : State) (t : Nat), let a := s.advance t
    (∀ x ∈ ([(.resetN t, 0x202), (.internalWatchdog t, 0x204), (.lockstepMismatch t, 0x205), (.clockLoss t, 0x304)] : List (Instr × Nat)),
      a.running = true → s.rst.low = false → (x.2 = 0x304 → ∀ o, s.nvm.running = some o → o.kind.rank = 6) → ∃ u : State, exec x.1 s = .next u ∧ u.rst.cause = x.2 ∧ u.pwr.state = .starting ∧
        u.pwr.stage = .rails ∧ u.frame = State.reset.frame ∧ u.host = { State.reset.host with up := s.host.up } ∧
        u.log.pails = [] ∧ u.log.unflushed = s.log.unflushed ∧ u.cfg.draft = none ∧ u.cfg.commit = none ∧ u.bkp = a.bkp ∧
        u.clk = { now := a.clk.now } ∧ u.rst.held = u.rst.low ∧ u.pending = s.pending) ∧
    (∀ i ∈ ([.internalWatchdog t, .lockstepMismatch t, .clockLoss t] : List Instr), a.running = false → exec i s = .next a) ∧
    (a.running = false → s.pwr.state ≠ .holdup → exec (.brownOut t) s = .next a) ∧
    (a.running = true → ∃ u : State, exec (.brownOut t) s = .next u ∧ u.rst.cause = 3 ∧ u.pwr.state = .starting ∧
      u.log.slots = s.log.slots ∧ u.log.pails = [] ∧ u.log.unflushed = (if s.log.pails = [] then s.log.unflushed
        else some (s.log.unflushed.getD 0 + s.log.pails.length)) ∧ u.cfg.copy0 = s.cfg.copy0 ∧ u.cfg.copy1 = s.cfg.copy1 ∧ u.bkp = a.bkp) ∧
    -- R391: HOLD below 6.0 V before the end of HOLDUP; pails that were not flushed yet are lost
    (s.pwr.state = .holdup → ∃ u : State, exec (.brownOut t) s = .next u ∧
      u.pwr.state = (if s.pwr.vshipOn then .starting else .backup) ∧ u.log.slots = s.log.slots ∧ u.log.pails = [] ∧
      (s.pwr.vshipOn = true → u.rst.cause = if s.pwr.holdup = .running then 0x403 else 0x603) ∧
      (s.pwr.holdup = .running → s.log.pails ≠ [] → u.log.unflushed = some (s.log.unflushed.getD 0 + s.log.pails.length))) ∧
    -- R17: the operation under way completes first; the clock loss resets the node at its end
    (∀ o, a.running = true → s.nvm.running = some o → o.kind.rank ≠ 6 → exec (.clockLoss t) s =
      .next { a with frame := { s.frame with running := false, open_ := false }, rst := { s.rst with clockLoss := some a.clk.now } }) ∧
    (∀ o c, s.rst.clockLoss = some c → s.nvm.running = some o → ∃ u : State, exec (.nvmOperationComplete t) s = .next u ∧
      u.rst.cause = 0x304 ∧ u.pwr.state = .starting ∧ u.log.pails = [] ∧ u.log.unflushed = s.log.unflushed) ∧
    (s.rst.low = true → exec (.resetN t) s = .next a) ∧
    (s.rst.held = true → exec (.resetNRelease t) s = .next { a with
      rst := { s.rst with low := false, held := false, endAt := a.clk.now }, pwr := { s.pwr with startAt := a.clk.now } }) ∧
    (s.rst.held = false → exec (.resetNRelease t) s = .next { a with rst := { s.rst with low := false } }) ∧
    -- R459: SYS_RESET answers, sends GOING_DOWN and drives the cell; the reset comes when both are done, at the latest 20 ms on
    (∀ tag f, Executes s tag 0x0104 f → u32At f.req 16 = 0x54455352 →
      let w := (((s.acting t).ok f []).sendGoingDown 2).driveCell true
      let v : State := { w with rst := { w.rst with dueAt := some w.clk.now } }
      (v.resetReady = false → exec (.sysReset t tag) s = .next v.takeNext) ∧
      (v.resetReady = true → ∃ u : State, exec (.sysReset t tag) s = .next u ∧ u.rst.cause = 0x206 ∧ u.pwr.state = .starting ∧
        u.log.pails = [] ∧ u.host = { State.reset.host with up := s.host.up } ∧ u.bkp = a.bkp)) ∧
    (∀ d, s.rst.dueAt = some d → s.cellIdle = true → (d + 20000000 ≤ s.clk.now ∨ s.goingPending = false) → s.resetReady = true) ∧
    (∀ x, s.frame.running = true → (s.advance s.frame.nextTick).resetReady = true →
      exec (.frameTick x) s = .next ((s.advance s.frame.nextTick).flushReset 6 0)) ∧
    (∀ tag f, Executes s tag 0x0104 f → u32At f.req 16 ≠ 0x54455352 → exec (.sysReset t tag) s =
      .next ((s.acting t).complete f .badField 16 []).takeNext)

/-- R369, R391, Table 14.11, R387: a dip, the power failure that follows when it lasts, the flush of both pails by the time the
rails are shed, and the node down in BACKUP or OFF, or starting again when the supply is back. A node held in reset goes down at
once. -/
def Obligations.PowerFailSequence : Prop :=
  ∀ (s : State) (t : Nat), let a := s.advance t
    exec (.vshipDip t) s = .next { a with pwr := { s.pwr with dip := true, vshipOn := false } } ∧
    exec (.vshipReturn t) s = .next { a with pwr := { s.pwr with dip := false } } ∧
    (∀ mv, s.pwr.dip = true → a.running = true → ∃ u : State, exec (.powerFail t mv) s = .next u ∧ u.pwr.state = .holdup ∧
      u.pwr.cause = 6 ∧ u.pwr.vshipMv = mv ∧ u.frame.running = false ∧ u.cfg.draft = none ∧ u.cfg.commit = none ∧
      u.host.waits = [] ∧ u.host.queue = [] ∧ u.host.cur = none ∧ u.live = [] ∧ u.log.slots = s.log.slots ∧ u.log.closed = true ∧
      (s.log.closed = false → s.log.active.length < 63 → ∃ r ∈ u.log.pails, r.code = 0x0A02 ∧ r.p1 = mv)) ∧
    (∀ mv, s.pwr.dip = true → s.rst.held = true → ∃ u : State, exec (.powerFail t mv) s = .next u ∧ u.pwr.state = .backup ∧
      u.log = s.log) ∧
    (∀ mv, s.pwr.dip = false → exec (.powerFail t mv) s = .next a) ∧
    (s.pwr.state = .holdup → s.pwr.holdup = .running → s.banks.length = 8 → ∃ u : State, exec (.coreRailsShed t) s = .next u ∧
      u.pwr = { s.pwr with holdup := .shed } ∧ u.log.pails = [] ∧ u.log.closed = true ∧
      (∀ k ∈ u.banks, k.power = .off) ∧ (∀ c ∈ u.bus.ctl, c.state = .off)) ∧
    (∀ v, s.pwr.state = .holdup → s.pwr.vshipOn = false → ∃ u : State, exec (.holdupComplete t v) s = .next u ∧
      u.pwr.state = (if v then .backup else .off) ∧ u.bkp = { a.bkp with down := !v } ∧ u.log.pails = [] ∧
      (s.pwr.holdup ≠ .running → u.log.slots = s.log.slots ∧ u.cfg.copy0 = s.cfg.copy0 ∧ u.cfg.copy1 = s.cfg.copy1)) ∧
    (∀ v, s.pwr.state = .holdup → s.pwr.vshipOn = true → ∃ u : State, exec (.holdupComplete t v) s = .next u ∧
      u.pwr.state = .starting ∧ u.rst.cause = (if s.rst.low then 0x602 else 0x601) ∧ u.bkp = a.bkp) ∧
    (s.pwr.state = .backup → exec (.vbatBelowRetention t) s =
      .next { a with pwr := { s.pwr with state := .off }, bkp := { a.bkp with down := true } }) ∧
    (∀ mv, (s.pwr.state = .off ∨ s.pwr.state = .backup) → ∃ u : State, exec (.vshipOn t mv) s = .next u ∧
      u.pwr.state = .starting ∧ u.pwr.vshipOn = true ∧
      u.rst.cause = (if s.bkp.down ∨ s.bkp.restarted then 0x801 else 1) ∧
      u.bkp = (if s.bkp.down then { vbatMv := mv } else { a.bkp with vbatMv := mv }))

/-- R390, R430 to R432, Table 14.10: the stages of start-up, on the directory copy in force. A trial that boots costs an attempt,
which station firmware gives back after power-on and after HOLDUP. -/
def Obligations.StartUpStages : Prop :=
  ∀ (s : State) (t : Nat), let a := s.advance t; let x := s.sec.dirPick
    (a.startsAt .rails = true → (x.slot x.preferred).state = .valid → x.bootCheck x.preferred = none →
      ∃ u : State, exec (.secureBoot t) s = .next u ∧ u.pwr = { s.pwr with stage := .booted } ∧
        u.sec.running = x.preferred ∧ u.sec.onTrial = false ∧ u.sec.attempts = x.attempts ∧ u.log = s.log) ∧
    (a.startsAt .rails = true → (x.slot x.preferred).state = .trial → 0 < x.attempts → x.bootCheck x.preferred = none →
      ∃ u : State, exec (.secureBoot t) s = .next u ∧ u.pwr = { s.pwr with stage := .booted } ∧
        u.sec.running = x.preferred ∧ u.sec.onTrial = true ∧ u.sec.attempts = x.attempts - 1 ∧
        u.sec.giveBack = (decide (s.rst.cause % 256 = 1) || tst s.rst.cause 10)) ∧
    (a.startsAt .rails = true → (∀ n, (x.slot n).state ≠ .valid ∧ (x.slot n).state ≠ .trial) → exec (.secureBoot t) s =
      .next { a with sec := x, pwr := { s.pwr with stage := .recovery }, host := { s.host with ready := true } }) ∧
    (a.startsAt .booted = true → s.sec.erasure = none → exec (.selfTest t) s =
      .next { a with pwr := { s.pwr with stage := .tested },
                     sec := { s.sec with attempts := s.sec.attempts + (if s.sec.giveBack then 1 else 0), giveBack := false } }) ∧
    (∀ bad mv, a.startsAt .tested = true → s.sec.erasure = none → ∃ u : State, exec (.configRestored t bad mv) s = .next u ∧
      u.pwr.stage = .restored ∧ u.host.ready = true ∧ u.frame.running = true ∧ s.pwr.startAt + 120000000 ≤ u.frame.nextTick ∧
      (∀ c m, s.cfg.selector = some (c, m) → u.cfg.epoch = c.epoch ∧
        u.cfg.img = (if c.copy = 0 then s.cfg.copy0 else s.cfg.copy1) ∧
        u.cfg.roles = (if c.copy = 0 then s.cfg.roles0 else s.cfg.roles1))) ∧
    (∀ bad mv, a.startsAt .rails = false → a.startsAt .booted = false → a.startsAt .tested = false →
      exec (.secureBoot t) s = .next a ∧ exec (.selfTest t) s = .next a ∧ exec (.configRestored t bad mv) s = .next a)

/-- R387 to R389, R396, R397, Table 14.8: arming, SAFE, STANDBY and the wake from it. -/
def Obligations.NodeStates : Prop :=
  ∀ (s : State) (t tag : Nat) (f : Flight), let a := s.acting t; let b := s.advance t
    (Executes s tag 0x0102 f → s.pwr.state = .armed → exec (.sysArm t tag) s = .next (a.complete f .ok 1 (le8 4 ++ zeros 3)).takeNext) ∧
    (Executes s tag 0x0102 f → s.pwr.state ≠ .armed → a.fullSession = false → 16 ≤ s.frame.sinceSlip → a.reserveUj ≤ s.pwr.euUj →
      exec (.sysArm t tag) s = .next (a.addLive (.nodeState true) f).takeNext) ∧
    (Executes s tag 0x0102 f → s.pwr.state ≠ .armed → (a.fullSession = true ∨ s.frame.sinceSlip < 16) →
      exec (.sysArm t tag) s = .next (a.complete f .notPermitted 1 []).takeNext) ∧
    (Executes s tag 0x0103 f → s.pwr.state = .safe → exec (.sysSafe t tag) s = .next (a.complete f .ok 1 (le8 5 ++ zeros 3)).takeNext) ∧
    (Executes s tag 0x0103 f → s.pwr.state = .starting → exec (.sysSafe t tag) s =
      .next (({ a with pwr := { s.pwr with startSafe := true } }).wait f .nodeState).takeNext) ∧
    (Executes s tag 0x0103 f → s.pwr.state = .armed → exec (.sysSafe t tag) s = .next (a.addLive (.nodeState false) f).takeNext) ∧
    (∀ c : LiveCmd, s.live = [c] → c.kind = .nodeState true → c.applied = none → s.pwr.state = .safe →
      s.stateLive.pwr.state = if s.fullSession then .safe else .armed) ∧
    (∀ c : LiveCmd, s.live = [c] → c.kind = .nodeState false → c.applied = none → s.pwr.state = .armed →
      s.stateLive.pwr.state = .safe) ∧
    (Executes s tag 0x0A04 f → ∃ u : State, exec (.pwrStandby t tag) s = .next u.takeNext ∧
      u = { a.ok f [] with pwr := { s.pwr with standbyPend := true, dwell := u32At f.req 16 } }) ∧
    (∀ x, s.pwr.armedSince = some x → s.pwr.state = .armed → s.pwr.dwell ≠ 0 → x + s.pwr.dwell * 1000000000 ≤ b.clk.now →
      exec (.standbyDwell t) s = .next { b with pwr := { s.pwr with standbyPend := true } }) ∧
    (∀ r, s.frame.running = true → s.frame.nextTick ≤ b.clk.now → s.pwr.standbyPend = true → s.banks.length = 8 →
      s.sec.dbg.extest = false → ∃ u : State,
      exec (.standbyEntry { t := t, read := r }) s = .next u ∧ u.pwr.state = .standby ∧ u.pwr.standbyPend = false ∧ u.frame.running = false ∧
      (u.disp.cellRun = none → ∀ k ∈ u.banks, k.power = .off) ∧ (∀ c ∈ u.bus.ctl, c.state = .off) ∧
      (u.disp.cellRun.isSome = true → u.pwr.banksPend = true)) ∧
    (∀ run, s.frame.running = true → s.frame.nextTick ≤ b.clk.now →
      run = (if b.published && s.frame.settled then s.frame.pubRun + 1 else s.frame.pubRun) →
      ({ b with frame := { s.frame with pubRun := run } } : State).armingMet = true → ∃ u : State,
      exec (.armingConditions t) s = .next u ∧
      u.pwr.state = (if s.pwr.startSafe || b.startSafeOpt then .safe else .armed) ∧ u.pwr.startSafe = false) ∧
    (Executes s tag 0x0A05 f → s.pwr.state = .standby → ∃ u : State, exec (.pwrWake t tag) s = .next (u.ok f []).takeNext ∧
      u.pwr.state = .starting ∧ u.pwr.cause = 8 ∧ u.pwr.startAt = a.clk.now - 120000000 ∧ u.frame.running = true ∧
      u.frame.seq = s.frame.seq ∧ u.cfg.img = s.cfg.img)

/-- R82, Table 03.26: the host watchdog warns at half its timeout and expires at the whole; with action 1 an ARMED node goes
to SAFE at the next tick. -/
def Obligations.HostWatchdog : Prop :=
  ∀ (s : State) (t : Nat), let a := s.advance t; let w := s.host.wdog; let n := a.wdogMs
    (w.running = true → w.warned = false → n ≠ 0 → 2 * w.lastKick + n * 1000000 ≤ 2 * a.clk.now → exec (.wdogWarn t) s =
      .next { a with host := { s.host with wdog := { w with warned := true }, irqStat := s.host.irqStat ||| 64#32 } }) ∧
    (w.running = true → n ≠ 0 → w.lastKick + n * 1000000 ≤ a.clk.now → ∃ u : State, exec (.hostWdogExpired t) s = .next u ∧
      u.host = { s.host with wdog := { w with running := false }, irqStat := s.host.irqStat ||| 128#32 } ∧
      u.pwr = { s.pwr with safePend := if a.wdogAction = 1 ∧ s.pwr.state = .armed then some 4 else s.pwr.safePend }) ∧
    ((w.running = false ∨ n = 0 ∨ a.clk.now < w.lastKick + n * 1000000) → exec (.hostWdogExpired t) s = .next a) ∧
    ((w.running = false ∨ n = 0 ∨ w.warned = true) → exec (.wdogWarn t) s = .next a)

/-- R335 to R347, Table 12.13: the TIME opcodes. -/
def Obligations.TimeOpcodes : Prop :=
  ∀ (s : State) (t tag : Nat) (f : Flight), let a := s.acting t; let b := a.bkp
    (Executes s tag 0x0801 f → exec (.timeGet t tag) s = .next (a.ok f (le64 (tsOf (b.utcUs * 1000) (if b.timeValid then 3 else 4)) ++
      (bcdRegs b.localSec b.dst).flatMap le8 ++ le8 (twos 8 b.zone) ++ le8 s.bus.net.state ++ le16 b.stat)).takeNext) ∧
    (Executes s tag 0x0802 f → checkUtc (u64At f.req 16 : Nat) (signed 8 (byteAt f.req 24)) (byteAt f.req 25 = 1) = none →
      exec (.timeSet t tag) s = .next ((a.setBkp { b with
        pendDst := none, pendSet := some
          { utc := u64At f.req 16, zone := signed 8 (byteAt f.req 24), dst := byteAt f.req 25 = 1, due := b.nextBoundary } }).wait f .timeSet).takeNext) ∧
    (∀ k, Executes s tag 0x0802 f → checkUtc (u64At f.req 16 : Nat) (signed 8 (byteAt f.req 24)) (byteAt f.req 25 = 1) = some k →
      exec (.timeSet t tag) s =
        .next (({ a with bkp := { b with dateErr := true, errKind := k } }).complete f .dateInvalid k []).takeNext) ∧
    (∀ fwd, Executes s tag 0x0803 f → fwd = decide (byteAt f.req 16 = 0) → b.dstFault fwd = none → exec (.timeDst t tag) s =
      .next ((a.setBkp { b with pendDst := some { fwd, due := b.nextBoundary, origin := f.origin.code } }).wait f .timeDst).takeNext) ∧
    (∀ fwd k, Executes s tag 0x0803 f → fwd = decide (byteAt f.req 16 = 0) → b.dstFault fwd = some k → exec (.timeDst t tag) s =
      .next (({ a with bkp := { b with dateErr := true, errKind := k } }).complete f .dateInvalid k []).takeNext) ∧
    (∀ v, Executes s tag 0x0804 f → v = clampI (-20000) 20000 (signed 16 (u16At f.req 16)) → exec (.timeTrim t tag) s =
      .next (({ a with bkp := { b with trim := v, autoTrim := byteAt f.req 18 = 1 } }).ok f (le16 (twos 16 v) ++ le16 0)).takeNext) ∧
    (∀ n, Executes s tag 0x0805 f → n = u32At f.req 16 → exec (.timeWake t tag) s =
      .next (({ a with bkp := { b with
        wakeEn := decide (n ≠ 0), interval := n % 4194304,
        wakeDue := if n % 4194304 ≠ 0 then some (b.age + n % 4194304 * wakeUnit) else none } }).ok f []).takeNext) ∧
    (Executes s tag 0x0806 f → ∃ u : State, exec (.timeEvtSet t tag) s = .next (u.ok f []).takeNext ∧
      u = { a with bkp := { b with evts := u.bkp.evts } } ∧ u.bkp.evts.length = b.evts.length ∧
      ∀ i < b.evts.length, u.bkp.evts.getD i {} = (if i = byteAt f.req 16
        then { b.evts.getD i {} with cfg := BitVec.ofNat 32 (u16At f.req 18 &&& 0x7173) } else b.evts.getD i {})) ∧
    (Executes s tag 0x0807 f → exec (.timeEvtStatus t tag) s =
      .next (a.ok f (le32 (b.evts.getD (byteAt f.req 16) {}).stat)).takeNext)

/-- R336, R337, R340: at its boundary, counted by the `BKP` clock (a calendar that stands at its end counts on, log entry 163),
a pending set changes the UTC count, the zone and summer time, and TIME_VALID is set; a summer-time command changes DST alone,
and the UTC count runs on. Each is logged, or kept for the log while no firmware runs (log entry 162). Before the boundary, and
with nothing pending, nothing happens. -/
def Obligations.CalendarBoundaries : Prop :=
  ∀ (s : State) (t : Nat), let a := s.advance t; let b := a.bkp
    (∀ p, b.pendSet = some p → p.due * 32768 ≤ b.clock → ∃ u : State, exec (.rtcSet t) s = .next u ∧
      u.bkp = { b with cyc := p.utc * 32768 + (b.clock - p.due * 32768), held := 0, zone := p.zone, dst := p.dst, pendSet := none,
                       timeValid := true, range := false, notes := u.bkp.notes } ∧
      u.bkp.notes = (if a.fwRuns then b.notes else b.notes ++ [(0x0805, 4, min p.due (b.cyc / 32768), p.utc)]) ∧
      u.cfg = s.cfg ∧ (s.bus.net.isMaster = false → u.clk = a.clk) ∧ ∀ w ∈ u.host.waits, w.kind ≠ .timeSet) ∧
    (∀ p, b.pendSet = some p → b.clock < p.due * 32768 → exec (.rtcSet t) s = .next a) ∧
    (b.pendSet = none → exec (.rtcSet t) s = .next a) ∧
    (∀ p, b.pendDst = some p → p.due * 32768 ≤ b.clock → ∃ u : State, exec (.rtcDst t) s = .next u ∧
      u.bkp = { b with cyc := b.cyc + min b.held (b.clock - p.due * 32768), held := 0, dst := p.fwd, pendDst := none,
                       notes := u.bkp.notes } ∧
      u.bkp.notes = (if a.fwRuns then b.notes else b.notes ++ [(0x0806, 3, if p.fwd then 1 else 0, p.origin)]) ∧
      u.clk = a.clk ∧ u.cfg = s.cfg ∧ ∀ w ∈ u.host.waits, w.kind ≠ .timeDst) ∧
    (∀ p, b.pendDst = some p → b.clock < p.due * 32768 → exec (.rtcDst t) s = .next a) ∧
    (b.pendDst = none → exec (.rtcDst t) s = .next a)

/-- R338, R341 to R343: the calendar aligned to network time, its trim measured over 1,024 s of LOCKED, its end, and the UTC
count taken at the first second boundary after the start. Each acts under its condition only. How the active master brings its
time base onto its calendar (a slew over 1 s up to 1 ms, a step beyond), that pending commands wait for the next boundary of the
new count, where the measured error comes from, and from which instant the first boundary counts are the model's choices (log
entries 128, 129 and 164). -/
def Obligations.CalendarAlignment : Prop :=
  ∀ (s : State) (t : Nat), let a := s.advance t; let b := a.bkp; let d := a.calendarError
    let c := { b with cyc := min (a.clk.base * 32768 / 1000000000) b.endCyc, held := 0, frac := 0, timeValid := true }
    let al := { c with pendSet := c.pendSet.map (fun p => { p with due := c.nextBoundary }),
                       pendDst := c.pendDst.map (fun p => { p with due := c.nextBoundary }) }
    let past := b.clock % 32768 * 1000000000 / 32768
    (a.fwRuns = true → a.lockedToNet = true → 100000 < d.natAbs → d.natAbs ≤ 1000000000 → exec (.rtcAligned t) s =
      .next { a with bkp := al }) ∧
    (a.fwRuns = true → a.lockedToNet = true → 1000000000 < d.natAbs → exec (.rtcAligned t) s =
      .next (({ a with bkp := al }).logNode 0x0807 3
        (twos 32 (clampI (-2147483648) 2147483647 (d / 1000000))) 0)) ∧
    (a.fwRuns = true → s.bus.net.isMaster = true → b.range = false → 100000 < d.natAbs → d.natAbs ≤ 1000000 →
      exec (.rtcAligned t) s =
        .next { a with clk := { a.clk with slew := -d, slewTime := 1000000000, ratePpb := 10 * b.trim } }) ∧
    (a.fwRuns = true → s.bus.net.isMaster = true → b.range = false → 1000000 < d.natAbs → ∃ u : State,
      exec (.rtcAligned t) s = .next u ∧ (u.clk.base : Int) = a.clk.base - d ∧ u.clk.slew = 0 ∧ u.bkp = b ∧ u.cfg = s.cfg) ∧
    ((a.fwRuns = false ∨ (s.bus.net.isMaster = false ∧ a.lockedToNet = false) ∨ d.natAbs ≤ 100000) →
      exec (.rtcAligned t) s = .next a) ∧
    (∀ e a0, s.bus.net.trimSince = some a0 → a0 + 1024000000000 ≤ a.clk.flow → a.fwRuns = true → s.bus.net.state = 2 →
      ∃ u : State, exec (.autoTrimMeasure t e) s = .next u ∧
        u = { a with bkp := u.bkp, bus := { s.bus with net := { s.bus.net with trimSince := some a.clk.flow } } } ∧
        u.bkp = (if b.autoTrim then { b with trim := clampI (-20000) 20000 (b.trim - e) } else b)) ∧
    (∀ e, (s.bus.net.trimSince = none ∨ a.fwRuns = false ∨ s.bus.net.state ≠ 2) → exec (.autoTrimMeasure t e) s = .next a) ∧
    (∀ e a0, s.bus.net.trimSince = some a0 → a.clk.flow < a0 + 1024000000000 → exec (.autoTrimMeasure t e) s = .next a) ∧
    (b.range = false → b.endCyc ≤ b.cyc → a.fwRuns = true → exec (.rtcRange t) s =
      .next (({ a with bkp := { b with range := true } }).logNode 0x0804 6 0 0)) ∧
    (b.range = false → b.endCyc ≤ b.cyc → a.fwRuns = false → exec (.rtcRange t) s =
      .next { a with bkp := { b with range := true, notes := b.notes ++ [(0x0804, 6, 0, 0)] } }) ∧
    ((b.range = true ∨ b.cyc < b.endCyc) → exec (.rtcRange t) s = .next a) ∧
    (s.running = true → s.clk.fromRtc = false → s.bus.net.taken = false → s.pwr.startAt + past ≤ a.clk.now → ∃ u : State,
      exec (.utcCountTaken t) s = .next u ∧ u.clk.fromRtc = true ∧ u.clk.fromValid = b.timeValid ∧
      u.clk.base = b.cyc / 32768 * 1000000000 + past ∧ u.bkp = b) ∧
    ((s.running = false ∨ s.clk.fromRtc = true ∨ s.bus.net.taken = true ∨ a.clk.now < s.pwr.startAt + past) →
      exec (.utcCountTaken t) s = .next a)

/-- R331 to R333, R345 to R348: oscillator and supply of the backup domain, the periodic wake in the `BKP` clock's own time, the
event inputs with their filters. What happens while no firmware runs is kept for the log (log entry 162). -/
def Obligations.BackupDomainEvents : Prop :=
  ∀ (s : State) (t : Nat), let a := s.advance t; let b := a.bkp
    let rc := { b with onRc := true, oscFail := true, timeValid := false }
    (b.onRc = false → a.fwRuns = true → exec (.oscFail t) s = .next (({ a with bkp := rc }).logNode 0x0802 5 b.vbatMv 0)) ∧
    (b.onRc = false → a.fwRuns = false → exec (.oscFail t) s =
      .next { a with bkp := { rc with notes := b.notes ++ [(0x0802, 5, b.vbatMv, 0)] } }) ∧
    (b.onRc = true → exec (.oscFail t) s = .next a) ∧
    exec (.crystalReturn t) s = .next { a with bkp := { b with onRc := false } } ∧
    (∀ mv, (mv < vbatLowMv → b.vbatLow = true) → exec (.vbatLow t mv) s =
      .next { a with bkp := { b with vbatMv := mv, vbatLow := decide (mv < vbatLowMv) } }) ∧
    (∀ mv, mv < vbatLowMv → b.vbatLow = false → a.fwRuns = true → exec (.vbatLow t mv) s =
      .next (({ a with bkp := { b with vbatMv := mv, vbatLow := true } }).logNode 0x0803 5 mv 0)) ∧
    (∀ mv, mv < vbatLowMv → b.vbatLow = false → a.fwRuns = false → exec (.vbatLow t mv) s =
      .next { a with bkp := { b with vbatMv := mv, vbatLow := true, notes := b.notes ++ [(0x0803, 5, mv, 0)] } }) ∧
    (∀ mv, s.bkp.down = true → exec (.bkpLost t mv) s = .next { a with
      bkp := { vbatMv := mv }, pwr := { s.pwr with state := if s.pwr.state = .off then .backup else s.pwr.state } }) ∧
    (∀ mv, s.bkp.down = false → exec (.bkpLost t mv) s = .next a) ∧
    (∀ d, b.wakeDue = some d → d ≤ b.age → s.pwr.state ≠ .standby → exec (.wake t) s =
      .next { a with bkp := { b with wake := true, wakeDue := some (d + b.interval * wakeUnit) } }) ∧
    (∀ d, b.wakeDue = some d → d ≤ b.age → s.pwr.state = .standby → ∃ u : State, exec (.wake t) s = .next u ∧
      u.pwr.state = .starting ∧ u.frame.running = true ∧
      u.bkp = { b with wake := true, wakeDue := some (d + b.interval * wakeUnit) }) ∧
    ((b.wakeDue = none ∨ ∃ d, b.wakeDue = some d ∧ b.age < d) → exec (.wake t) s = .next a) ∧
    (∀ e first level, e < 4 → b.evts.length = 4 → s.bkp.down = false → (b.evts.getD e {}).takes level = true →
      first + (b.evts.getD e {}).filter ≤ a.clk.now → ∃ u : State, exec (.evtEdge t e level first) s = .next u ∧
      u.bkp.evts.getD e {} = (if 8 ≤ (b.evts.getD e {}).stack.length
        then { b.evts.getD e {} with level := level, lost := satAdd 255 (b.evts.getD e {}).lost 1 }
        else { b.evts.getD e {} with level := level, stack := (b.evts.getD e {}).stack ++
          [{ ts := tsOf (a.bkpUsAt first * 1000) (if b.timeValid then 3 else 4), rising := level }] }) ∧
      u.bkp.evtWake = (b.evtWake || (b.evts.getD e {}).cfg.getLsbD 8) ∧
      ((b.evts.getD e {}).cfg.getLsbD 8 = true → s.pwr.state = .standby → u.pwr.state = .starting) ∧
      ((b.evts.getD e {}).cfg.getLsbD 8 = false ∨ s.pwr.state ≠ .standby → u.pwr = s.pwr) ∧
      ∀ i < 4, i ≠ e → u.bkp.evts.getD i {} = b.evts.getD i {}) ∧
    (∀ e first level, e < 4 → s.bkp.down = false → (b.evts.getD e {}).takes level = false →
      first + (b.evts.getD e {}).filter ≤ a.clk.now → exec (.evtEdge t e level first) s =
        .next { a with bkp := { b with evts := b.evts.mapIdx (fun i y => if i = e then { y with level := level } else y) } }) ∧
    (∀ e first level, e < 4 → (s.bkp.down = true ∨ a.clk.now < first + (b.evts.getD e {}).filter) →
      exec (.evtEdge t e level first) s = .next a) ∧
    (a.fwRuns = true → s.log.closed = false → s.log.active.length + 36 < 48 → b.evts.length = 4 →
      (∀ e ∈ b.evts, e.cfg.toNat / 4096 % 8 < 6 ∧ e.stack.length ≤ 8) → ∃ u : State, exec (.evtDrain t) s = .next u ∧
      (∀ e < 4, (u.bkp.evts.getD e {}).lost = 0 ∧ (u.bkp.evts.getD e {}).stack = []) ∧ u.cfg = s.cfg) ∧
    (a.fwRuns = false → exec (.evtDrain t) s = .next a)

/-- R131, R134, R138, R140, R156, Table 05.13: what time and the circuit bring to an input channel. A row sent at the tick of
a capture joins that frame. An overload clears the integrators (Table 05.1); the sources of an RTD_3W channel change places once
at a tick that is a whole second, and where no link frames bring the stream the row's readings give the step (log entry 144). -/
def Obligations.ChannelEvents : Prop :=
  ∀ (s : State) (t ch : Nat), ch < 64 → let a := s.advance t; let b := s.toFrame t; let c := s.chan ch
    (c.settle = 1 → exec (.settlingEnd t ch) s = .next (b.modChan ch (fun c => { c with settle := 0 }))) ∧
    (c.notchSuspect = 1 → exec (.notchSuspectEnd t ch) s = .next (b.modChan ch (fun c => { c with notchSuspect := 0 }))) ∧
    (∀ x, c.brk = .open_ → c.okSince = some x → x + 100000000 ≤ b.clk.now → exec (.wireRestored t ch) s =
      .next ((b.modChan ch (fun c => { c with brk := .none, okSince := none, restart := true })).logChan ch 0x0310 3
        (min 0xFFFFFFFF ((x - c.brkAt) / 1000000)) 0)) ∧
    ((c.brk ≠ .open_ ∨ c.okSince = none) → exec (.wireRestored t ch) s = .next b) ∧
    (∀ p, isInput (s.func ch) = true → exec (.modulatorOverload t ch p) s =
      .next (a.modChan ch (fun c => { c with ovl := some (p, a.clk.now), ovlNew := some p,
                                             filt := { c.filt with run := 0, clear := resetBits (isVib (s.func ch)) } }))) ∧
    (∀ p, isInput (s.func ch) = false → exec (.modulatorOverload t ch p) s = .next a) ∧
    (c.ovl = none → exec (.modulatorOverloadEnd t ch) s = .next a) ∧
    (∀ p x, c.ovl = some (p, x) → x + 1000000 ≤ a.clk.now → exec (.modulatorOverloadEnd t ch) s =
      .next (a.modChan ch (fun c => { c with ovl := none, restart := true }))) ∧
    (∀ p x, c.ovl = some (p, x) → a.clk.now < x + 1000000 → exec (.modulatorOverloadEnd t ch) s = .next a) ∧
    (∀ m : ExchIn, s.func ch = 6 → s.bankUp (ch / 8) = true → a.atSecond = true → c.exchAt ≠ some a.clk.now →
      exec (.sourceExchange t ch m) s = .next ((a.modChan ch (fun c =>
        { c with exchanged := !c.exchanged, exchAt := some a.clk.now, filt := { c.filt with hold := 8, step := none },
                 mismatch := if c.filt.xs.isEmpty then
                     ((c.mismatch ++ [divRound (if c.exchanged then m.after - m.before else m.before - m.after) 2]).reverse.take 16
                       |>.reverse)
                   else c.mismatch })).bankSetup (ch / 8))) ∧
    (∀ m : ExchIn, (s.func ch ≠ 6 ∨ s.bankUp (ch / 8) = false ∨ a.atSecond = false ∨ c.exchAt = some a.clk.now) →
      exec (.sourceExchange t ch m) s = .next a)

/-- R129 to R132, Tables 05.9 and 05.10: a crossing of a valid input, stamped between its two samples, closes a cycle with the
crossing before it. The notch follows cycles from 40 to 70 Hz that lie within 2 Hz of it, steps after three that agree, returns
to the local source after eight, and leaves it when it has been silent for 75 ms or its input is invalid: for the bus, under the
range and 2 Hz rules for its messages, or, with no fresh one, to hold its frequency. -/
def Obligations.MainsNotch : Prop :=
  ∀ (s : State) (t : Nat), let a := s.advance t; let n := s.notch
    (∀ (m : MainsIn) x p fc, x = a.clk.now - m.step * m.after / max 1 (m.before + m.after) → 700 ≤ m.rms → m.rms ≤ 14000 →
      n.lastCross = some p → p < x → fc = (1000000000000 + (x - p) / 2) / (x - p) →
      let n1 : NotchSt := { n with valid := true, lastCross := some x }
      (40000 ≤ fc → fc ≤ 70000 → near fc n.ft 2000 = true → n.src = .local_ → exec (.mainsCycle t m) s =
        .next { a with notch := { n1 with excursion := false, rejected := [], run := n.run + 1, lastOk := a.clk.now, ft := fc } }) ∧
      ((fc < 40000 ∨ 70000 < fc) → n.excursion = false → exec (.mainsCycle t m) s =
        .next (({ a with notch := { n1 with excursion := true, run := 0, rejected := [] } }).logNode 0x030C 4 fc 0)) ∧
      (40000 ≤ fc → fc ≤ 70000 → near fc n.ft 2000 = true → n.src ≠ .local_ → ∃ u : State, exec (.mainsCycle t m) s = .next u ∧
        u.chans = s.chans ∧ u.notch.valid = true ∧ u.notch.lastCross = some x ∧ u.notch.lastOk = a.clk.now ∧
        u.notch.src = (if 8 ≤ n.run + 1 then .local_ else n.src) ∧ u.notch.ft = (if 8 ≤ n.run + 1 then fc else n.ft)) ∧
      (∀ v w, 40000 ≤ fc → fc ≤ 70000 → near fc n.ft 2000 = false → n.rejected = [v, w] → n.src = .local_ →
        near v w 100 = true → near w fc 100 = true → near v fc 100 = true → ∃ u : State, exec (.mainsCycle t m) s = .next u ∧
          u.notch.ft = (v + w + fc + 1) / 3 ∧ u.notch.rejected = [] ∧ u.notch.src = .local_ ∧
          (s.frame.profile ≠ 0 → u.chans = s.chans) ∧
          (s.frame.profile = 0 → s.chans.length = 64 → ∀ ch < 64, isFiltered (s.func ch) = true → (u.chan ch).notchSuspect = 33))) ∧
    (∀ m : MainsIn, (m.rms < 700 ∨ 14000 < m.rms) → exec (.mainsCycle t m) s =
      .next { a with notch := { n with valid := false, lastCross := none, run := 0, rejected := [] } }) ∧
    (∀ fm, n.src = .local_ → a.genFresh = some fm → (n.lastOk + 75000000 ≤ a.clk.now ∨ n.valid = false) →
      ∃ u : State, exec (.mainsSource t) s = .next u ∧ u.chans = s.chans ∧ u.cfg = s.cfg ∧
        u.notch = { n with src := .bus, ft := busFt n.ft fm, run := 0, busOut := decide (fm < 40000 ∨ 70000 < fm),
                           busRejected := if 40000 ≤ fm ∧ fm ≤ 70000 ∧ near fm n.ft 2000 = false then [fm] else [] }) ∧
    (∀ fm, n.src = .local_ → a.genFresh = some fm → (n.lastOk + 75000000 ≤ a.clk.now ∨ n.valid = false) →
      40000 ≤ fm → fm ≤ 70000 → near fm n.ft 2000 = true → exec (.mainsSource t) s =
        .next (({ a with notch := { n with src := .bus, ft := fm, run := 0, busRejected := [], busOut := false } }).logNode
          0x030E 3 1 fm)) ∧
    ((n.src = .local_ ∧ (n.lastOk + 75000000 ≤ a.clk.now ∨ n.valid = false) ∨ n.src = .bus) → a.genFresh = none →
      exec (.mainsSource t) s = .next (({ a with notch := { n with src := .held, run := 0, busRejected := [],
                                                                   busOut := false } }).logNode 0x030E 3 2 n.ft)) ∧
    (n.src = .local_ → a.clk.now < n.lastOk + 75000000 → n.valid = true → exec (.mainsSource t) s = .next a) ∧
    (∀ fm, n.src = .bus → a.genFresh = some fm → exec (.mainsSource t) s = .next a) ∧
    (n.src = .held → exec (.mainsSource t) s = .next a)

/-- R146, R148, R182: a calibration step is asked for, averages for 1 s and is judged; its churn writes the 32 bytes of the
record and nothing else of the partition. -/
def Obligations.CalibrationSteps : Prop :=
  ∀ (s : State) (t tag : Nat) (f : Flight), let a := s.acting t; let b := s.advance t
    (Executes s tag 0x0302 f → (byteAt f.req 16 = 0 ∨ byteAt f.req 16 = 3) → (f32At f.req 20).finite = true →
      exec (.chanCal t tag) s = .next (({ a with cal := { s.cal with
        runs := s.cal.runs ++ [({ num := s.cal.nextRun, chan := f.unit, step := byteAt f.req 16, ref := f32At f.req 20,
                                  since := none, sum := 0, n := 0, clean := true } : CalRun)],
        nextRun := s.cal.nextRun + 1 } }).wait f (.calibration s.cal.nextRun)).takeNext) ∧
    (Executes s tag 0x0302 f → byteAt f.req 16 = 1 → (∀ l ∈ s.cal.lows, l.chan ≠ f.unit) → (f32At f.req 20).finite = true →
      exec (.chanCal t tag) s = .next (a.complete f .badField 16 []).takeNext) ∧
    (∀ (r : CalRun) x, s.cal.runs = [r] → r.churn = none → r.since = some x → x + 1000000000 ≤ b.clk.now → r.step = 0 → r.clean = true →
      r.n ≠ 0 → ∃ u : State, exec (.calMeasureEnd t) s = .next u ∧ u.cal.runs = [] ∧ u.cal.part = s.cal.part ∧
        ∃ l ∈ u.cal.lows, l.chan = r.chan ∧ l.x = F32.ofRat (r.sum / (r.n : Rat)) ∧ l.ref = r.ref ∧ l.time = b.clk.now) ∧
    (∀ (r : CalRun) x, s.cal.runs = [r] → r.churn = none → r.since = some x → x + 1000000000 ≤ b.clk.now → (r.clean = false ∨ r.n = 0) →
      exec (.calMeasureEnd t) s = .next (b.calAnswer r.num .hwFault 1 [])) ∧
    (∀ o, s.nvm.running = some o → o.kind = .calChurn → s.rst.clockLoss = none → s.sec.erasure = none → (∀ w ∈ s.host.waits, w.kind ≠ .nvm o.num) → ∃ u : State,
      exec (.calibrationChurn t) s = .next u ∧ u.cal.part = s.cal.part.writeList o.arg (o.data.readList 0 32) ∧
        u.cal.inForce = s.cal.inForce ∧ (s.nvm.waiting = [] → s.log.queued = false → u.nvm.running = none)) ∧
    ((s.nvm.running = none ∨ ∃ o, s.nvm.running = some o ∧ o.kind ≠ .calChurn) → exec (.calibrationChurn t) s = .next b)

/-- Table 06.11: what the calibration, curve, insulation and amplifier opcodes of a channel answer or ask for. -/
def Obligations.ChannelOpcodes : Prop :=
  ∀ (s : State) (t tag : Nat) (f : Flight), let a := s.acting t
    (Executes s tag 0x0306 f → s.nvm.running = none → exec (.chanCalRead t tag) s = .next (a.ok f (a.calBytes f)).takeNext) ∧
    (∀ o, Executes s tag 0x0306 f → s.nvm.running = some o → exec (.chanCalRead t tag) s = .next (a.wait f (.nvm o.num)).takeNext) ∧
    (Executes s tag 0x0305 f → exec (.chanInsulRead t tag) s = .next (a.ok f (a.insulBytes (byteAt f.req 16))).takeNext) ∧
    (Executes s tag 0x0304 f → s.func f.unit = 10 → exec (.chanChargeReset t tag) s =
      .next (a.addLive (.chargeReset f.unit) f).takeNext) ∧
    (Executes s tag 0x0304 f → s.func f.unit ≠ 10 → exec (.chanChargeReset t tag) s = .next (a.complete f .badField 8 []).takeNext) ∧
    (∀ d m, Executes s tag 0x0307 f → s.cfg.draft = some d → byteAt (a.curveSlot (u16At f.req 16)) 0 ≠ 255 →
      setKeyed d.img 0x11 (fun x => decide (d.img.u8 x = byteAt f.req 18))
        (le8 (byteAt f.req 18) ++ (a.curveSlot (u16At f.req 16)).drop 1) = .done m →
      ∃ u : State, exec (.chanCurveLoad t tag) s = .next (u.wait f (.nvm s.nvm.nextNum)).takeNext ∧
        u.cfg = { s.cfg with draft := some { d with img := m } } ∧
        ∃ o ∈ u.nvm.running.toList ++ u.nvm.waiting, o.num = s.nvm.nextNum ∧ o.kind = .flashRead) ∧
    (Executes s tag 0x0307 f → byteAt (a.curveSlot (u16At f.req 16)) 0 = 255 → exec (.chanCurveLoad t tag) s =
      .next (a.complete f .badField 16 []).takeNext) ∧
    (∀ x, Executes s tag 0x0308 f → (a.energyOk 25000 = true ∨ f.noWait = false) →
      (imgEntries (a.image (byteAt f.req 16 = 1)) 0x11).find?
        (fun x => decide ((a.image (byteAt f.req 16 = 1)).u8 x = byteAt f.req 17)) = some x →
      ∃ u : State, exec (.chanCurveStore t tag) s = .next (u.wait f (.nvm s.nvm.nextNum)).takeNext ∧ u.cfg = s.cfg ∧
        ∃ o ∈ u.nvm.running.toList ++ u.nvm.waiting, o.num = s.nvm.nextNum ∧ o.kind = .storeCurve ∧ o.arg = u16At f.req 18 ∧
          o.data = (a.image (byteAt f.req 16 = 1)).window x (x + 528)) ∧
    (∀ x, Executes s tag 0x0308 f → a.energyOk 25000 = false → f.noWait = true →
      (imgEntries (a.image (byteAt f.req 16 = 1)) 0x11).find?
        (fun x => decide ((a.image (byteAt f.req 16 = 1)).u8 x = byteAt f.req 17)) = some x →
      exec (.chanCurveStore t tag) s = .next (a.complete f .energyRefused 0 (a.energyPayload 25000)).takeNext)

/-- R184: the vibration capture is asked for, takes its last samples, and is read. -/
def Obligations.VibrationCapture : Prop :=
  ∀ (s : State) (t tag : Nat) (f : Flight), let a := s.acting t; let b := s.advance t
    (Executes s tag 0x0309 f → isVib (s.func f.unit) = true → byteAt f.req 16 ≠ 1 →
      (∀ w ∈ s.host.waits, w.kind ≠ .vibCapture) → exec (.chanVibCapture t tag) s =
        .next (({ a with vib := { s.vib with next := some (f.unit, s.frame.seq), origin := f.origin.code } }).wait f .vibCapture).takeNext) ∧
    (∀ w ∈ s.host.waits, w.kind = .vibCapture → Executes s tag 0x0309 f → isVib (s.func f.unit) = true → byteAt f.req 16 ≠ 1 →
      exec (.chanVibCapture t tag) s = .next (a.complete f .busy s.vib.origin []).takeNext) ∧
    (∀ n l, s.vib.running = true → s.vib.chan = some n → 4096 ≤ s.vib.samples.length + l.length → ∃ u : State,
      exec (.vibCaptureDone t l) s = .next u ∧ u.vib.running = false ∧
      u.vib.samples = (s.vib.samples ++ l.map (b.stage1 n)).take 4096 ∧ (∀ w ∈ u.host.waits, w.kind ≠ .vibCapture)) ∧
    (∀ l, s.vib.running = false → exec (.vibCaptureDone t l) s = .next b) ∧
    (Executes s tag 0x030A f → s.vib.chan = some f.unit → s.vib.running = false → u16At f.req 16 + u16At f.req 18 ≤ 4096 →
      exec (.chanVibRead t tag) s = .next (a.ok f (le16 (u16At f.req 16) ++ le16 (u16At f.req 18) ++
        ((s.vib.samples.drop (u16At f.req 16)).take (u16At f.req 18)).flatMap leF32)).takeNext)

/-- R193 to R195, R200: compliance, the open load, its probes and its end, the second source, the end of a ramp-down. -/
def Obligations.OutputEvents : Prop :=
  ∀ (s : State) (t ch : Nat), ch < 64 → let a := s.advance t; let b := s.toFrame t; let o := s.out ch
    (∀ x, o.compl = false → o.lowSince = some x → x + 32000000 ≤ b.clk.now → o.leftAt = none → exec (.complianceTimer t ch) s =
      .next ((b.modOut ch (fun o => { o with compl := true, goodSince := none })).logChan ch 0x0314 5 (twos 32 o.h) (twos 32 o.rb))) ∧
    (o.lowSince = none → exec (.complianceTimer t ch) s = .next b) ∧
    (∀ x, o.compl = true → o.goodSince = some x → x + 10000000 ≤ b.clk.now → exec (.complianceClear t ch) s =
      .next (b.modOut ch (fun o => { o with compl := false, goodSince := none, openSince := none, leftAt := some b.clk.now }))) ∧
    ((o.compl = false ∨ o.goodSince = none) → exec (.complianceClear t ch) s = .next b) ∧
    (∀ x, o.isOpen = false → o.openSince = some x → x + 32000000 ≤ b.clk.now → exec (.loopOpen t ch) s =
      .next ((b.modOut ch (fun o => { o with isOpen := true, openSince := none, probeAt := b.clk.now + 1000000000,
                                             probing := false })).logChan ch 0x0315 5 (twos 32 o.rb) (twos 32 (milli o.applied)))) ∧
    ((o.isOpen = true ∨ o.openSince = none) → exec (.loopOpen t ch) s = .next b) ∧
    (o.isOpen = true → 1 ≤ o.y.toRat → (o.func = 17 ∨ o.probing = true) → exec (.openProbe t ch) s =
      .next ((b.modOut ch (fun o => { o with isOpen := false, probing := false })).logChan ch 0x0316 3 (twos 32 o.rb) 0)) ∧
    (o.isOpen = true → o.y.toRat < 1 → b.clk.now < o.probeAt + 50000000 → exec (.openProbe t ch) s =
      .next (b.modOut ch (fun o => { o with probing := decide (o.probeAt ≤ b.clk.now) }))) ∧
    (o.isOpen = true → o.y.toRat < 1 → o.probeAt + 50000000 ≤ b.clk.now → exec (.openProbe t ch) s =
      .next (b.modOut ch (fun o => { o with probing := false, probeAt := o.probeAt + 1000000000 }))) ∧
    exec (.loopOver t ch) s = .next (b.modOut ch (fun o => { o with overCur := held o.overSince b.clk.now 10000000 })) ∧
    (∀ x v, o.drive = .rampDown x v → x + 5000000 ≤ a.clk.now → exec (.loopRampDownEnd t ch) s =
      .next (a.modOut ch (fun o => { ({} : OutSt) with setPoint := o.setPoint })))

/-- R210, R211, R32: an output's set point is taken, and stored in the frame that is computed next. -/
def Obligations.OutputOpcodes : Prop :=
  ∀ (s : State) (t tag : Nat) (f : Flight), let a := s.acting t; let o := s.out f.unit; let k := s.bank (f.unit / 8)
    (Executes s tag 0x030B f → isOut (s.func f.unit) = true → s.chField f.unit 64 1 = 0 → (f32At f.req 16).finite = true →
      exec (.chanOutSet t tag) s = .next (a.addLive (.outSet f.unit (f32At f.req 16)) f).takeNext) ∧
    (Executes s tag 0x030B f → (isOut (s.func f.unit) = false ∨ s.chField f.unit 64 1 ≠ 0) →
      exec (.chanOutSet t tag) s = .next (a.complete f .badField 8 []).takeNext) ∧
    (Executes s tag 0x030B f → isOut (s.func f.unit) = true → s.chField f.unit 64 1 = 0 → (f32At f.req 16).finite = false →
      exec (.chanOutSet t tag) s = .next (a.complete f .badField 16 []).takeNext) ∧
    (∀ (c : LiveCmd) n v, c.kind = .outSet n v → c.applied = none → c.role = s.cfg.roles.get .chan n → n < s.outs.length →
      ((s.applyOutLive c).out n).setPoint = some v ∧ ∀ m, m ≠ n → (s.applyOutLive c).out m = s.out m) ∧
    (Executes s tag 0x030C f → isOut (s.func f.unit) = true → exec (.chanOutStatus t tag) s =
      .next (a.ok f (leF32 o.applied ++ leF32 o.y ++ leF32 (f32q o.h 1000) ++ leF32 (f32q o.diss 1000000) ++
        leF32 (f32q (if k.supplyOn then k.setPt else 0) 10) ++ le8 (s.chan f.unit).q.code ++ zeros 3)).takeNext)

/-- R206 to R209, Tables 07.10 to 07.15: a transaction is queued, attaches, sends, waits, is answered, retried or given up;
burst frames are stored or counted. -/
def Obligations.FskTransactions : Prop :=
  ∀ (s : State) (t b : Nat), b < 8 → let a := s.advance t; let m := s.modem b
    (∀ x, m.head = some x → x.state = .queued → m.carrier.getD (x.chan % 8) 0 + m.silence x ≤ a.clk.now →
      s.cfg.roles.get .chan x.chan = x.role → exec (.fskAttach t b) s = .next (a.modModem b (fun m =>
        (m.modHead (fun x => { x with state := .attach, since := a.clk.now })).attachTo (some x.chan) a.clk.now))) ∧
    (∀ x, m.head = some x → x.state = .attach → x.since + 2000000 ≤ a.clk.now → (s.bank b).tripped = false →
      exec (.fskSend t b) s = .next (a.modModem b (fun m =>
        { m.modHead (fun x => { x with state := .send, attempts := x.attempts + 1, since := a.clk.now }) with sent := x.request }))) ∧
    (∀ x, m.head = some x → x.state = .attach → (s.bank b).tripped = true → exec (.fskSend t b) s = .next a) ∧
    (exec (.fskCheckSent t b) s = .next (a.modModem b (fun m => m.modHead (fun x =>
      if x.state = .send then { x with state := .wait_, since := a.clk.now } else x)))) ∧
    (∀ x p r d f, m.head = some x → x.state = .wait_ → fskParse 0x06 0x86 p r d = some f → x.accepts f = true →
      exec (.fskResponse t b p r d) s = .next ((a.modModem b (fun m => m.endHead x a.clk.now true)).wait x.fl
        (.publish (fskResponse x.attempts f)))) ∧
    (∀ x, m.head = some x → x.state = .wait_ → x.since + 256666667 ≤ a.clk.now → x.retries = 0 → exec (.fskResponseTimeout t b) s =
      .next ((a.modModem b (fun m => m.endHead x a.clk.now true)).complete x.fl .aborted 1 [])) ∧
    (∀ x, m.head = some x → x.state = .wait_ → x.since + 256666667 ≤ a.clk.now → 0 < x.retries → exec (.fskResponseTimeout t b) s =
      .next (a.modModem b (fun m => m.modHead (fun x =>
        { x with state := .retry, retries := x.retries - 1, since := a.clk.now })))) ∧
    (∀ x, m.head = some x → x.state = .retry → x.since + 73333334 ≤ a.clk.now → (s.bank b).tripped = false →
      exec (.fskRetry t b) s = .next (a.modModem b (fun m =>
        { m.modHead (fun x => { x with state := .send, attempts := x.attempts + 1, since := a.clk.now }) with sent := x.request }))) ∧
    (∀ n o r p q d f, m.burst = some (n, o, r) → m.attached = some n → m.attachAt ≤ a.clk.now → m.queue = [] → fskParse 0x01 0x81 p q d = some f →
      exec (.burstFrame t b p q d) s = .next (a.modModem b (fun m =>
        { m with carrier := modAt m.carrier (n % 8) (fun _ => a.clk.now), accepted := satAdd 65535 m.accepted 1, lastFrame := d,
                 lastTime := a.nowTs, burstEnd := some a.clk.now }))) ∧
    (∀ n o r p q d, m.burst = some (n, o, r) →
      (fskParse 0x01 0x81 p q d = none ∨ m.attached ≠ some n ∨ a.clk.now < m.attachAt) → exec (.burstFrame t b p q d) s =
      .next (a.modModem b (fun m =>
        { m with carrier := modAt m.carrier (n % 8) (fun _ => a.clk.now), missed := satAdd 65535 m.missed 1 }))) ∧
    (m.head = none → exec (.fskAttach t b) s = .next a ∧ exec (.fskSend t b) s = .next a ∧ exec (.fskRetry t b) s = .next a)

/-- R208, R209, R211: the FSK opcodes. -/
def Obligations.FskOpcodes : Prop :=
  ∀ (s : State) (t tag : Nat) (f : Flight), let a := s.acting t; let b := f.unit / 8; let m := s.modem b
    (Executes s tag 0x030D f → fskBad (s.func f.unit) f = none → m.queue.length < 8 → exec (.chanFskXfer t tag) s =
      .next (a.modModem b (fun m => { m with queue := m.queue ++
        [{ fl := f, chan := f.unit, role := f.roleEpoch, retries := byteAt f.req 18, since := a.clk.now }] })).takeNext) ∧
    (Executes s tag 0x030D f → fskBad (s.func f.unit) f = none → 8 ≤ m.queue.length → exec (.chanFskXfer t tag) s =
      .next (a.complete f .queueFull 0 []).takeNext) ∧
    (Executes s tag 0x030E f → fskFunc (s.func f.unit) = true → byteAt f.req 16 = 1 → m.burst = none → m.queue = [] →
      exec (.chanFskBurst t tag) s = .next ((a.modModem b (fun m =>
        { m.attachTo (some f.unit) a.clk.now with
          burst := some (f.unit, f.origin.code, s.cfg.roles.get .chan f.unit), accepted := 0, missed := 0, lastFrame := [],
          lastTime := 0, burstEnd := none })).ok f []).takeNext) ∧
    (∀ n o r, Executes s tag 0x030E f → fskFunc (s.func f.unit) = true → byteAt f.req 16 = 1 → m.burst = some (n, o, r) → n ≠ f.unit →
      exec (.chanFskBurst t tag) s = .next (a.complete f .busy o []).takeNext) ∧
    (∀ o r, Executes s tag 0x030E f → fskFunc (s.func f.unit) = true → byteAt f.req 16 = 0 → m.burst = some (f.unit, o, r) → m.queue = [] →
      exec (.chanFskBurst t tag) s =
        .next ((a.modModem b (fun m => { m with burst := none, burstEnd := none, attached := none })).ok f []).takeNext) ∧
    (Executes s tag 0x030E f → fskFunc (s.func f.unit) = true → 2 ≤ byteAt f.req 16 → exec (.chanFskBurst t tag) s =
      .next (a.ok f (m.burstRead f.unit)).takeNext)

/-- R13, R105, R122, R123, Tables 04.12 and 05.4: a bank is powered, tested, fails; its link frames are taken or discarded,
the lane goes down and comes back, and the watchdog puts the outputs of the bank into their safe actions. No frame comes once the
line clock is lost (R17), and no block counts while a debugger halts the frame processors (R441). After a frame that is not valid
the next sequence is taken from that frame (log entry 151). -/
def Obligations.BankLinks : Prop :=
  ∀ (s : State) (t b : Nat), b < 8 → b < s.banks.length → let a := s.advance t; let k := s.bank b
    (k.power = .off → s.pwr.state = .starting → s.pwr.stage = .restored → ∃ u : State, exec (.bankPowerUp t b) s = .next u ∧
      (u.bank b).power = .starting ∧ (u.bank b).since = a.clk.now ∧ (u.bank b).lands = k.lands ∧ (u.bank b).supplyOn = false ∧
      ∀ c, c ≠ b → u.bank c = s.bank c) ∧
    ((k.power ≠ .off ∨ s.pwr.state ≠ .starting ∨ s.pwr.stage ≠ .restored) → exec (.bankPowerUp t b) s = .next a) ∧
    (k.power = .starting → exec (.bankSelfTest t b) s =
      .next (a.modBank b (fun k => { k with power := .tested, aligned := true, lastUp := a.clk.now }))) ∧
    (∀ c, k.powered = true → a.faultDue b c = true → ∃ u : State, exec (.bankFault t b c) s = .next u ∧ (u.bank b).power = .failed ∧
      (u.bank b).supplyOn = false ∧ (u.bank b).insul.gen = 0 ∧ (∀ j < 8, 8 * b + j < s.outs.length → (u.out (8 * b + j)).drive = .off) ∧
      ∀ c, c ≠ b → u.bank c = s.bank c) ∧
    (∀ c, (k.powered = false ∨ a.faultDue b c = false) → exec (.bankFault t b c) s = .next a) ∧
    (a.faultDue b 1 = true ↔ k.power = .starting) ∧
    (∀ d, k.downSince = some d → (a.faultDue b 3 = true ↔ d + 10000000 ≤ a.clk.now)) ∧
    (∀ f : DownFrame, (k.powered = false ∨ s.rst.clockLoss ≠ none) → exec (.downstreamLinkFrame t b f) s = .next a) ∧
    (∀ f : UpFrame, (k.powered = false ∨ s.rst.clockLoss ≠ none) → exec (.upstreamLinkFrame t b f) s = .next a) ∧
    (∀ f : DownFrame, k.powered = true → s.rst.clockLoss = none → f.err = false → f.seq = (k.downSeq + 1) % 256 → f.crc = linkCrc f.seq f.body →
      f.block = none → exec (.downstreamLinkFrame t b f) s = .next (a.modBank b (fun k =>
        { k with downSeq := f.seq, lastDown := a.clk.now, tripped := k.tripped && !f.reconfig,
                 blockOpen := k.blockOpen || f.begins }))) ∧
    (∀ (f : DownFrame) q, k.powered = true → s.rst.clockLoss = none → s.frameHalted = false → f.err = false → f.seq = (k.downSeq + 1) % 256 → f.crc = linkCrc f.seq f.body →
      f.block = some q → (k.blockOpen = true ∨ f.begins = true) → q % 65536 ≠ k.blockSeq →
      exec (.downstreamLinkFrame t b f) s = .next (a.modBank b (fun k =>
        { k with downSeq := f.seq, lastDown := a.clk.now, tripped := k.tripped && !f.reconfig, blockOpen := false,
                 lastBlock := a.clk.now, blockSeq := q % 65536 }))) ∧
    (∀ (f : DownFrame) q, k.powered = true → s.rst.clockLoss = none → f.err = false → f.seq = (k.downSeq + 1) % 256 →
      f.crc = linkCrc f.seq f.body → f.block = some q →
      (s.frameHalted = true ∨ k.blockOpen = false ∧ f.begins = false ∨ q % 65536 = k.blockSeq) →
      exec (.downstreamLinkFrame t b f) s = .next (a.modBank b (fun k =>
        { k with downSeq := f.seq, lastDown := a.clk.now, tripped := k.tripped && !f.reconfig, blockOpen := false }))) ∧
    (∀ f : DownFrame, k.powered = true → s.rst.clockLoss = none → (f.err = true ∨ f.seq ≠ (k.downSeq + 1) % 256 ∨ f.crc ≠ linkCrc f.seq f.body) →
      exec (.downstreamLinkFrame t b f) s = .next (a.modBank b (fun k => { k with downSeq := f.seq % 256, blockOpen := false }))) ∧
    (∀ f : UpFrame, k.powered = true → s.rst.clockLoss = none → f.err = false → f.seq = (k.upSeq + 1) % 256 → f.crc = linkCrc f.seq f.body →
      exec (.upstreamLinkFrame t b f) s = .next ((a.modBank b (fun k =>
        { k with upSeq := f.seq, lastUp := a.clk.now, lastBits := f.body, house := f.house.getD k.house })).frameIn b f.body)) ∧
    (∀ f : UpFrame, k.powered = true → s.rst.clockLoss = none → f.err = false → f.crc = linkCrc f.seq f.body → f.seq < 256 →
      f.seq ≠ (k.upSeq + 1) % 256 → ∃ u : State, exec (.upstreamLinkFrame t b f) s = .next u ∧ (u.bank b).upSeq = f.seq ∧
        (u.bank b).lastBits = k.lastBits ∧ (u.bank b).lastUp = k.lastUp ∧ (u.bank b).house = k.house ∧
        (u.bank b).lostAt = (List.replicate ((f.seq + 256 - (k.upSeq + 1) % 256) % 256 + 1) a.clk.now ++ k.lostAt).take 2) ∧
    (∀ f : UpFrame, k.powered = true → s.rst.clockLoss = none → (f.err = true ∨ f.crc ≠ linkCrc f.seq f.body) →
      ∃ u : State, exec (.upstreamLinkFrame t b f) s = .next u ∧ (u.bank b).lastBits = k.lastBits ∧ (u.bank b).lastUp = k.lastUp ∧
        (u.bank b).house = k.house ∧ (u.bank b).lostAt = (a.clk.now :: k.lostAt).take 2) ∧
    (k.power = .up → k.aligned = true → k.lastUp + 100000 ≤ a.clk.now → exec (.linkDown t b) s =
      .next ((a.modBank b (fun k => { k with aligned := false, downSince := some a.clk.now })).logBank b 0x0303 6 0 0)) ∧
    (∀ d, k.downSince = some d → d + 10000000 < a.clk.now → exec (.linkUp t b) s = .next a) ∧
    (∀ d, k.downSince = some d → a.clk.now ≤ d + 10000000 → exec (.linkUp t b) s =
      .next (((a.modBank b (fun k => { k with aligned := true, downSince := none, lastUp := a.clk.now, lostAt := [] })).restartBank b).logBank
        b 0x0304 4 ((a.clk.now - d) / 1000) 0)) ∧
    (k.powered = true → (k.lastDown + 2000000 ≤ a.clk.now ∨ k.lastBlock + 2 * periodOf s.frame.profile + 2000000 ≤ a.clk.now) →
      ∃ u : State, exec (.linkWatchdog t b) s = .next u ∧ (u.bank b).tripped = true ∧
        ∀ n, n / 8 ≠ b → u.out n = s.out n) ∧
    (k.powered = true → a.clk.now < k.lastDown + 2000000 → a.clk.now < k.lastBlock + 2 * periodOf s.frame.profile + 2000000 →
      exec (.linkWatchdog t b) s = .next a)

/-- R90, R91, R97, R100 to R102, R107, R126: the field side of a bank. A land beyond its range and back, the bridge's sense
lands, the resets and holds of a charge amplifier, the bias of an IEPE sensor, the supply's limit and discharge, a burst. -/
def Obligations.BankFrontEnds : Prop :=
  ∀ (s : State) (t b : Nat), b < 8 → let a := s.advance t; let k := s.bank b
    (∀ l above, l < 18 → (k.lands.getD l {}).beyond = true → exec (.miswire t b l above) s = .next a) ∧
    (∀ l above, l < 16 → b < s.banks.length → l < k.lands.length → (k.lands.getD l {}).beyond = false →
      isOut (s.func (8 * b + l / 2)) = false → ∃ u : State, exec (.miswire t b l above) s = .next u ∧
        (u.bank b).lands = modAt k.lands l (fun _ => { beyond := true, above }) ∧ u.outs = s.outs ∧
        u.log = (a.logChan (8 * b + l / 2) 0x0305 5 (l % 2) (if above then 1 else 0)).log ∧
        (s.bankUp b = true → ∀ x ∈ (u.bank b).iex, ∀ y, x = some y → y.2 ≠ l)) ∧
    (∀ l above, l < 16 → b < s.banks.length → l < k.lands.length → (k.lands.getD l {}).beyond = false →
      isOut (s.func (8 * b + l / 2)) = true → (s.out (8 * b + l / 2)).drive.working = true →
      (s.out (8 * b + l / 2)).drive.ramping = false → 8 * b + l / 2 < s.outs.length → ∃ u : State,
        exec (.miswire t b l above) s = .next u ∧ (u.bank b).lands = modAt k.lands l (fun _ => { beyond := true, above }) ∧
        (u.out (8 * b + l / 2)).drive = .landOff ∧ ∀ n, n ≠ 8 * b + l / 2 → u.out n = s.out n) ∧
    (∀ l, l < 18 → (k.lands.getD l {}).beyond = false → exec (.landReturnCheck t b l) s = .next a) ∧
    (∀ l, l < 18 → b < s.banks.length → (k.lands.getD l {}).beyond = true → ∃ u : State, exec (.landReturnCheck t b l) s = .next u ∧
      ((u.bank b).lands.getD l {}).beyond = false ∧ u.outs = s.outs ∧ u.log = s.log) ∧
    (exec (.vexSenseFault t b) s = .next (a.modBank b (fun k => if k.vex.isSome then { k with vexFault := true } else k))) ∧
    (∀ n v, k.vexFault = true → k.vex = some (n, v) → exec (.vexSenseReturn t b) s =
      .next ((a.modBank b (fun k => { k with vexFault := false })).modChan n (fun c => { c with restart := true }))) ∧
    (∀ ch p, ch < 64 → 6 ≤ ch % 8 → (s.amp (ch / 8) (ch % 8 - 6)).state = .measuring →
      ((s.amp (ch / 8) (ch % 8 - 6)).recent a.clk.now).length = 3 → exec (.chargeAmpOverload t ch p) s =
        .next ((a.modAmp (ch / 8) (ch % 8 - 6) (fun x =>
          { x with resets := [], positive := p, state := .holding (a.clk.now + 1000000000) })).logChan ch 0x0306 5 (if p then 1 else 0) 0)) ∧
    (∀ ch p, ch < 64 → 6 ≤ ch % 8 → ch / 8 < s.banks.length → ch % 8 - 6 < (s.bank (ch / 8)).amps.length →
      (s.amp (ch / 8) (ch % 8 - 6)).state = .measuring →
      ((s.amp (ch / 8) (ch % 8 - 6)).recent a.clk.now).length < 3 → ∃ u : State, exec (.chargeAmpOverload t ch p) s = .next u ∧
        (u.amp (ch / 8) (ch % 8 - 6)).state = .resetting (a.clk.now + 2000000) ∧
        (u.amp (ch / 8) (ch % 8 - 6)).resets = (s.amp (ch / 8) (ch % 8 - 6)).recent a.clk.now ++ [a.clk.now] ∧ u.log = s.log) ∧
    (∀ ch x, ch < 64 → 6 ≤ ch % 8 → (s.amp (ch / 8) (ch % 8 - 6)).state = .holding x → x ≤ a.clk.now → exec (.overloadHoldEnd t ch) s =
      .next ((a.modAmp (ch / 8) (ch % 8 - 6) (fun x => { x with resets := [] })).ampReset (ch / 8) (ch % 8 - 6))) ∧
    (∀ ch x, ch < 64 → 6 ≤ ch % 8 → (s.amp (ch / 8) (ch % 8 - 6)).state = .resetting x → x ≤ a.clk.now → exec (.chargeResetEnd t ch) s =
      .next (a.modAmp (ch / 8) (ch % 8 - 6) (fun x =>
        if x.stop then { x with state := .off, stop := false } else { x with state := .measuring }))) ∧
    (∀ ch x, ch < 64 → 6 ≤ ch % 8 → s.func ch = 11 → (s.chan ch).biasOpen = false → exec (.iepeBiasFault t ch x) s =
      .next (a.modChan ch (fun c => { c with biasOpen := decide (x = 1), biasShort := decide (x = 2) }))) ∧
    (∀ on, exec (.bankPowerLimit t b on) s = .next (a.modBank b (fun k => { k with limit := on && k.supplyOn }))) ∧
    (exec (.supplyDischargeEnd t b) s = .next (a.modBank b (fun k => if k.discharging then { k with discharging := false } else k))) ∧
    (s.frame.profile = 3 → k.power = .up → a.burstDue b = true → exec (.economyBurst t b) s =
      .next ((a.modBank b (fun k => { k with burstAt := some a.clk.now })).each 8 (fun s j =>
        s.modChan (8 * b + j) (fun c => { c with filt := { c.filt with xs := [], fresh := 0 } })))) ∧
    ((s.frame.profile ≠ 3 ∨ k.power ≠ .up ∨ a.burstDue b = false) → exec (.economyBurst t b) s = .next a)

/-- R111 to R119: the generator starts at a period boundary and alternates; a period is disturbed, or its results replace the
last ones; a fault located on a channel is recorded when it appears. -/
def Obligations.InsulationMonitor : Prop :=
  ∀ (s : State) (t b : Nat), b < 8 → b < s.banks.length → let a := s.advance t; let i := (s.bank b).insul
    (s.bankUp b = true → i.hullRef = false → s.pwr.state ≠ .standby → s.pwr.state ≠ .holdup → i.gen = 0 →
      a.insulPhase b < 2000000000 → exec (.generatorEdge t b) s = .next (a.modBank b (fun k =>
        { k with insul := { i with gen := 1, ran := false, published := false, spans := false, periods := 0, streak := 0,
                                     lowCap := none, stepRun := 0, stepSlot := 0 } }))) ∧
    (s.bankUp b = true → i.hullRef = false → s.pwr.state ≠ .standby → s.pwr.state ≠ .holdup → i.gen = 0 →
      2000000000 ≤ a.insulPhase b → exec (.generatorEdge t b) s = .next a) ∧
    (s.bankUp b = true → i.hullRef = false → s.pwr.state ≠ .standby → s.pwr.state ≠ .holdup → i.gen ≠ 0 →
      exec (.generatorEdge t b) s = .next (a.modBank b (fun k =>
        { k with insul := { i with gen := if a.insulPhase b < 2000000000 then 1 else 2 } }))) ∧
    ((s.bankUp b = false ∨ i.hullRef = true ∨ s.pwr.state = .standby ∨ s.pwr.state = .holdup) → exec (.generatorEdge t b) s = .next a) ∧
    (∀ m, (i.gen = 0 ∨ i.hullRef = true) → exec (.insulationPeriodEnd t b m) s = .next a) ∧
    (∀ m, i.gen ≠ 0 → i.hullRef = false → i.ran = false → ∃ u : State, exec (.insulationPeriodEnd t b m) s = .next u ∧
      (u.bank b).insul.ran = true ∧ (u.bank b).insul.disturbed = true ∧ (u.bank b).insul.count = i.count ∧
      (u.bank b).insul.rBank = i.rBank ∧ (u.bank b).insul.rCh = i.rCh ∧ (u.bank b).insul.published = i.published) ∧
    (∀ m, i.gen ≠ 0 → i.hullRef = false → i.ran = true → i.spans = false → m.regLost = false → m.stepSlot = none →
      m.half = 0 → m.depart = 0 → ∃ u : State, exec (.insulationPeriodEnd t b m) s = .next u ∧
      (u.bank b).insul.disturbed = false ∧ (u.bank b).insul.published = true ∧ (u.bank b).insul.count = (i.periods + 1) % 256 ∧
      (u.bank b).insul.rBank = (capRes ((m.v1.sub m.v2).div (m.i1.sub m.i2))).1)

/-- R230, R231, R238, R239, R246, R251, R257, R258, R260, R261, R263, R264, Tables 08.17 and 09.17: the opcodes of weirs,
blends, groups, first-out sets, calls, the roster and the dead-man timer. A command that changes an engine joins the live
commands and acts in the frame that is computed next; a command that cannot act is refused and changes nothing. -/
def Obligations.AlarmOpcodes : Prop :=
  ∀ (s : State) (t tag : Nat) (f : Flight), let a := s.acting t; let c := s.weirCfgOf f.unit; let b := byteAt f.req 16
    (Executes s tag 0x0403 f → c.enable = true → exec (.weirAck t tag) s = .next (a.addLive (.weirAck f.unit) f).takeNext) ∧
    (Executes s tag 0x0404 f → c.enable = true → u32At f.req 16 ≤ c.shelfLimit → exec (.weirShelve t tag) s =
      .next (a.addLive (.weirShelve f.unit (u32At f.req 16)) f).takeNext) ∧
    (Executes s tag 0x0404 f → c.enable = true → c.shelfLimit < u32At f.req 16 → exec (.weirShelve t tag) s =
      .next (a.complete f .badField 16 []).takeNext) ∧
    (Executes s tag 0x0405 f → c.enable = true → exec (.weirService t tag) s =
      .next (a.addLive (.weirService f.unit (decide (b = 1))) f).takeNext) ∧
    (c.enable = false →
      (Executes s tag 0x0403 f → exec (.weirAck t tag) s = .next (a.complete f .badField 8 []).takeNext) ∧
      (Executes s tag 0x0404 f → exec (.weirShelve t tag) s = .next (a.complete f .badField 8 []).takeNext) ∧
      (Executes s tag 0x0405 f → exec (.weirService t tag) s = .next (a.complete f .badField 8 []).takeNext)) ∧
    (Executes s tag 0x0408 f → let w := s.prev.weirs.getD f.unit {}
      exec (.weirStatus t tag) s = .next (a.complete f .ok 0 (w.bytes c (s.cfg.roles.get .weir f.unit) ++ le64 w.cross ++
        le32 (match w.shelf with | some e => (e - a.clk.flow + 999999999) / 1000000000 | none => 0) ++
        le8 (if w.raw then 1 else 0) ++ le8 w.srcQ.code ++ le16 0 ++ leF32 w.srcV)).takeNext) ∧
    (Executes s tag 0x0409 f → (s.blendCfgOf f.unit).op = 15 → exec (.blendTotalReset t tag) s =
      .next (a.addLive (.totalReset f.unit) f).takeNext) ∧
    (Executes s tag 0x0409 f → (s.blendCfgOf f.unit).op ≠ 15 → exec (.blendTotalReset t tag) s =
      .next (a.complete f .badField 8 []).takeNext) ∧
    (Executes s tag 0x0502 f → exec (.groupAck t tag) s = .next (a.addLive (.groupAck f.unit) f).takeNext) ∧
    (Executes s tag 0x0505 f → (s.foCfgOf b).enable = true → (s.fo b).state = .idle → exec (.foReset t tag) s =
      .next (a.complete f .ok 1 []).takeNext) ∧
    (Executes s tag 0x0505 f → (s.foCfgOf b).enable = true → (s.fo b).state = .open_ → exec (.foReset t tag) s =
      .next (a.complete f .busy (s.foCfgOf b).home []).takeNext) ∧
    (Executes s tag 0x0505 f → (s.foCfgOf b).enable = true → (s.fo b).state = .decided → s.foHome (s.foCfgOf b) = true →
      exec (.foReset t tag) s = .next (a.addLive (.foReset b) f).takeNext) ∧
    (Executes s tag 0x0506 f → (s.prev.fo.getD b {}).state ≠ .open_ → exec (.foStatus t tag) s =
      .next (a.complete f .ok 0 ((s.prev.fo.getD b {}).bytes s.bus.nodeId ++ le64 0)).takeNext) ∧
    (Executes s tag 0x0509 f → (s.chain b).state ≠ .idle → (s.chainCfgOf b).acceptS ≠ 0 → exec (.callAccept t tag) s =
      .next (a.addLive (.callAccept b 0xFF 0) f).takeNext) ∧
    (Executes s tag 0x0509 f → ((s.chain b).state = .idle ∨ (s.chainCfgOf b).acceptS = 0) → exec (.callAccept t tag) s =
      .next (a.complete f .notPermitted 1 []).takeNext) ∧
    (Executes s tag 0x050A f → (s.prev.chains.getD b {}).state = .idle → s.prev.dead.state = .disarmed →
      exec (.callStatus t tag) s = .next (a.complete f .ok 0 (le8 0 ++ le8 0 ++ le16 0 ++ le32 0xFFFFFFFF ++
        le8 (s.prev.duty.duty.getD 0xFF) ++ le8 (match s.prev.duty.pending with | some h => h.member | none => 0xFF) ++
        le8 0 ++ le8 0 ++ le32 0xFFFFFFFF)).takeNext) ∧
    (Executes s tag 0x050B f → (∃ m < 16, eligible s.cfg.img m = true) → (b = 2 ∨ (b = 0 ∧ eligible s.cfg.img (byteAt f.req 17) = true)) →
      exec (.dutyHandover t tag) s = .next (a.addLive (.duty b (byteAt f.req 17)) f).takeNext) ∧
    (Executes s tag 0x050B f → (∀ m < 16, eligible s.cfg.img m = false) → exec (.dutyHandover t tag) s =
      .next (a.complete f .badField 17 []).takeNext) ∧
    (Executes s tag 0x050C f → ¬ (b = 2 ∧ s.eng.dead.state = .alarm) → exec (.deadman t tag) s =
      .next (a.addLive (.deadman b) f).takeNext) ∧
    (Executes s tag 0x050C f → b = 2 → s.eng.dead.state = .alarm → exec (.deadman t tag) s =
      .next (a.complete f .notPermitted 1 []).takeNext)

/-- R218, R221, R223, R231, R243, R247, R250, R251: what elapses at a capture in weirs, groups and first-out sets. A row sent
at the tick of a capture joins that frame. -/
def Obligations.AlarmEvents : Prop :=
  ∀ (s : State) (t : Nat), let a := s.advance t; let b := s.toFrame t
    (∀ w, w < 1024 → b.frame.nextTick ≤ b.clk.now → (s.weirCfgOf w).enable = true → (b.weir w).running = true → (b.weir w).raw = true →
      (s.weirCfgOf w).nOn ≤ (b.weir w).elapsed + 1 → exec (.weirDelayElapsed t w) s = .next (b.modWeir w (fun x =>
        if (s.weirCfgOf w).enable && x.running && decide ((if x.raw then (s.weirCfgOf w).nOn else (s.weirCfgOf w).nOff) ≤ x.elapsed + 1) then
          (let y := { x with cond := x.raw, running := false, elapsed := 0, condNew := x.condNew || (x.raw && !x.cond) };
           if x.raw && !x.cond then { y with cross := y.rawCross, fine := y.offset.isSome } else y)
        else x))) ∧
    (∀ w, w < 1024 → w < s.eng.weirs.length → (s.weirCfgOf w).enable = true → 256 ≤ (s.weir w).suspects → (s.weir w).failed = false →
      ∃ u : State, exec (.suspectLimit t w) s = .next u ∧ (u.weir w).failed = true ∧ (u.weir w).cond = false ∧ (u.weir w).raw = false ∧
        (u.weir w).state = (s.weir w).state ∧ u.log = b.log ∧ ∀ v, v ≠ w → u.weir v = b.weir v) ∧
    (∀ w e, w < 1024 → w < s.eng.weirs.length → (s.weir w).shelf = some e → e ≤ b.frame.captFlow → ∃ u : State, exec (.weirUnshelved t w) s = .next u ∧
      (u.weir w).shelf = none ∧ (u.weir w).state = (s.weir w).state ∧
      ∃ r : Rec, u.frameRecs = b.frameRecs ++ [r] ∧ r.code = 0x0407 ∧ r.kind = 4 ∧ r.idx = w ∧ r.p2 = 0x41) ∧
    (∀ w, w < 1024 → (s.weir w).shelf = none → exec (.weirUnshelved t w) s = .next b) ∧
    (∀ w, w < 1024 → exec (.historyStepClose t true w) s = .next (a.modWeir w (fun x => x.closeStep (s.weirCfgOf w).step))) ∧
    (∀ k, k < 256 → exec (.historyStepClose t false k) s =
      .next (a.modBlend k (fun x => closeStep (s.blendCfgOf k).op (s.blendCfgOf k).step x))) ∧
    (∀ g e, g < 128 → g < s.eng.groups.length → (s.group g).supp = .releasing e → e ≤ b.frame.captFlow → ∃ u : State,
      exec (.groupReleased t g) s = .next u ∧ (u.group g).supp = .running ∧
      ∃ r : Rec, u.frameRecs = b.frameRecs ++ [r] ∧ r.code = 0x0502 ∧ r.kind = 5 ∧ r.idx = g) ∧
    (∀ i since, i < 16 → i < s.eng.buttons.length → (s.eng.buttons.getD i {}).high = some since → (s.eng.buttons.getD i {}).stuck = false →
      since + 60000000000 < b.frame.captFlow → s.buttonGroups i ≠ [] → ∃ u : State, exec (.ackButtonStuck t i) s = .next u ∧
        (u.eng.buttons.getD i {}).stuck = true ∧ ∃ r : Rec, u.frameRecs = b.frameRecs ++ [r] ∧ r.code = 0x0504 ∧ r.kind = 13 ∧ r.idx = i) ∧
    (∀ k x, k < 32 → k < s.eng.fo.length → (b.fo k).state = .open_ → (b.fo k).first = some x → s.foHome (s.foCfgOf k) = true →
      (b.fo k).windowEnd ≤ b.frame.captBase → ∃ u : State, exec (.firstOutDecided t k) s = .next u ∧
        u.fo k = { b.fo k with state := .decided, quiet := none } ∧
        ∃ r : Rec, u.frameRecs = b.frameRecs ++ [r] ∧ r.code = 0x0506 ∧ r.p1 = (x.node * 65536 + x.weir) % 4294967296) ∧
    (∀ k x, k < 32 → k < s.eng.fo.length → (b.fo k).state = .open_ → (b.fo k).first = some x → s.foHome (s.foCfgOf k) = false →
      (b.fo k).windowEnd + 250000000 ≤ b.frame.captBase → ∃ u : State, exec (.firstOutHomeAbsent t k) s = .next u ∧
        u.fo k = { b.fo k with state := .decided, quiet := none, homeAbsent := true }) ∧
    (∀ k at_ o, k < 32 → k < s.eng.fo.length → (b.fo k).resetAt = some (at_, o) → at_ ≤ b.captGrid → (b.fo k).state = .decided →
      ∃ u : State, exec (.firstOutReset t k) s = .next u ∧ u.fo k = { mismatch := (b.fo k).mismatch } ∧
        ∃ r : Rec, u.frameRecs = b.frameRecs ++ [r] ∧ r.code = 0x050A ∧ r.idx = k) ∧
    (∀ k x, k < 32 → k < s.eng.fo.length → (s.foCfgOf k).autoReset = true → (b.fo k).state = .decided → b.foQuiet k = true →
      (b.fo k).quiet = some x → x + 1000000000 * (s.foCfgOf k).autoS ≤ b.frame.captFlow → ∃ u : State,
        exec (.autoReset t k) s = .next u ∧ (u.fo k).state = .idle) ∧
    (∀ k, k < 32 → k < s.eng.fo.length → (s.foCfgOf k).autoReset = true → (b.fo k).state = .decided → b.foQuiet k = false → ∃ u : State,
        exec (.autoReset t k) s = .next u ∧ (u.fo k).state = .decided ∧ (u.fo k).quiet = none)

/-- R254 to R261, R301, Tables 09.12 to 09.15: what elapses at a capture in a call chain, the duty roster and the dead-man
timer. -/
def Obligations.CallEvents : Prop :=
  ∀ (s : State) (t c : Nat), c < 16 → c < s.eng.chains.length → let b := s.toFrame t; let x := b.chain c; let d := b.eng.dead
    (x.state = .calling → x.stage + 1 < (s.chainCfgOf c).stages → x.since + 1000000000 * s.dwell c x.stage ≤ b.frame.captFlow →
      x.forced = false → ∃ u : State, exec (.callStage t c) s = .next u ∧ (u.chain c).state = .calling ∧ (u.chain c).stage = x.stage + 1 ∧
        (u.chain c).since = b.frame.captFlow ∧ (u.chain c).silenced = [] ∧
        ∃ r : Rec, u.frameRecs = b.frameRecs ++ [r] ∧ r.code = 0x050B ∧ r.sev = 7 - x.cat % 4 ∧ r.idx = c) ∧
    ((x.state ≠ .calling ∨ x.forced = true ∨ b.frame.captFlow < x.since + 1000000000 * s.dwell c x.stage) →
      exec (.callStage t c) s = .next b) ∧
    (x.state = .accepted → x.since + 1000000000 * (s.chainCfgOf c).acceptS ≤ b.frame.captFlow → ∃ u : State,
      exec (.acceptPeriodElapsed t c) s = .next u ∧ (u.chain c).state = .calling ∧
        (u.chain c).stage = (if x.stage + 1 < (s.chainCfgOf c).stages then x.stage + 1 else x.stage)) ∧
    (x.state ≠ .accepted → exec (.acceptPeriodElapsed t c) s = .next b) ∧
    (∀ n, x.nextCall = some n → n ≤ b.frame.captFlow → x.state ≠ .idle → ∃ u : State, exec (.callRepeat t c) s = .next u ∧
      u.chain c = { x with nextCall := some (n + 1000000000) } ∧ u.frameRecs = b.frameRecs) ∧
    (x.state = .idle → x.cancels ≠ 0 → x.nextCancel ≤ b.frame.captFlow → ∃ u : State, exec (.callCancelRepeat t c) s = .next u ∧
      u.chain c = { x with cancels := x.cancels - 1, nextCancel := x.nextCancel + 100000000 }) ∧
    ((x.state ≠ .idle ∨ x.cancels = 0) → exec (.callCancelRepeat t c) s = .next b) ∧
    (∀ h, b.eng.duty.pending = some h → h.confirmed = true → (∀ y ∈ b.eng.chains, y.state = .idle ∨ y.stage = 0) → ∃ u : State,
      exec (.dutyChange t) s = .next u ∧ u.eng.duty = { duty := some h.member, pending := none } ∧
      ∃ r : Rec, u.frameRecs = b.frameRecs ++ [r] ∧ r.code = 0x050E ∧ r.p1 = h.member % 4294967296) ∧
    (∀ h, b.eng.duty.pending = some h → h.confirmed = false → exec (.dutyChange t) s = .next b) ∧
    (∀ h, b.eng.duty.pending = some h → tst (s.deadField 1 1) 0 = true → h.since + 1000000000 * s.deadField 10 2 ≤ b.frame.captFlow →
      ∃ u : State, exec (.handoverTimeout t) s = .next u ∧ u.eng.duty = { b.eng.duty with pending := none } ∧
        ∃ r : Rec, u.frameRecs = b.frameRecs ++ [r] ∧ r.code = 0x0510) ∧
    (d.state = .running → d.since + 1000000000 * s.deadField 4 2 ≤ b.frame.captFlow → ∃ u : State, exec (.deadmanPrewarn t) s = .next u ∧
      u.eng.dead = { d with state := .prewarn, since := b.frame.captFlow } ∧ u.eng.chains = b.eng.chains) ∧
    (d.state ≠ .running → exec (.deadmanPrewarn t) s = .next b) ∧
    (d.state = .prewarn → d.since + 1000000000 * s.deadField 6 2 ≤ b.frame.captFlow → ∃ u : State, exec (.deadmanAlarm t) s = .next u ∧
      u.eng.dead = { d with state := .alarm, since := b.frame.captFlow } ∧
      (s.deadField 9 1 < s.eng.chains.length → (u.chain (s.deadField 9 1)).forced = true ∧ (u.chain (s.deadField 9 1)).state = .calling ∧
        (u.chain (s.deadField 9 1)).stage = (s.chainCfgOf (s.deadField 9 1)).stages - 1)) ∧
    (d.state ≠ .prewarn → exec (.deadmanAlarm t) s = .next b)

/-- R269, R270, R272 to R274, R277 to R280: what reaches an encoder channel from its lines, its sensor and its compare
output. -/
def Obligations.EncoderEvents : Prop :=
  ∀ (s : State) (t k : Nat), k < 8 → k < s.encs.length → let a := s.advance t; let b := a.settleEnc k; let e := b.enc k
    (s.encMode k = 1 → s.encUnit k = 0xFF → ∀ x, x ≠ e.a → ∃ u : State, exec (.encoderEdge t k x e.b) s = .next u ∧ (u.enc k).a = x ∧
      (u.enc k).counter = (if (x != e.b) != s.encOpt k 2 then e.counter + 1 else e.counter - 1) ∧
      (u.enc k).forward = ((x != e.b) != s.encOpt k 2) ∧
      (u.enc k).edge = some ((u.enc k).counter + e.c, a.clk.now - filterNs (s.encField k 8 1), a.clk.base - filterNs (s.encField k 8 1))) ∧
    (s.encMode k = 1 → ∀ x y, x ≠ e.a → y ≠ e.b → ∃ u : State, exec (.encoderEdge t k x y) s = .next u ∧
      (u.enc k).counter = e.counter ∧ (u.enc k).errors = (if e.errors < 65535 then e.errors + 1 else 65535) ∧ (u.enc k).quadErr = true) ∧
    (s.encMode k = 2 → s.encUnit k = 0xFF → e.a = false → ∀ y, ∃ u : State, exec (.encoderEdge t k true y) s = .next u ∧
      (u.enc k).counter = (if y != s.encOpt k 2 then e.counter + 1 else e.counter - 1)) ∧
    (s.encMode k = 2 → ∀ y, exec (.encoderEdge t k false y) s = .next (b.modEnc k (fun e => { e with a := false, b := y }))) ∧
    (s.encMode k = 1 → s.encOpt k 1 = false → s.encField k 4 4 ≠ 0 → e.referenced = false → e.refPending = none →
      exec (.indexEdge t k) s =
      .next (b.modEnc k (fun e => { e with
        trigs := e.trigs ++ [(0, e.counter + e.c, a.clk.base - filterNs (s.encField k 8 1))], indexNow := true, ref := e.counter,
        referenced := true }))) ∧
    (s.encMode k = 1 → s.encOpt k 1 = false → s.encField k 4 4 = 0 → exec (.indexEdge t k) s =
      .next (b.modEnc k (fun e => { e with
        trigs := e.trigs ++ [(0, e.counter + e.c, a.clk.base - filterNs (s.encField k 8 1))], indexNow := true }))) ∧
    ((s.encMode k = 0 ∨ s.encMode k = 3) → exec (.indexEdge t k) s = .next b) ∧
    (∀ i, (s.encMode k = 0 ∨ s.encOpt k 3 = false) → exec (.posLineFault t k i) s = .next b) ∧
    (∀ i, s.encMode k ≠ 0 → s.encOpt k 3 = true → s.encField k 2 1 = 0 → i ≠ 2 → ∃ u : State, exec (.posLineFault t k i) s = .next u ∧
      (u.enc k).lineFault = true ∧ (u.enc k).quadErr = true ∧ (u.enc k).counter = e.counter) ∧
    exec (.lineFaultClear t k) s = .next (a.modEnc k (fun e => { e with lineFault := false })) ∧
    ((s.enc k).cmp.hit = none → exec (.comparePulse t k) s = .next a) ∧
    (∀ x y, (s.enc k).cmp.hit = some (x, y) → (s.enc k).cmp.armed = true → (s.enc k).cmp.pulseEnd = none →
      (s.enc k).cmp.guardEnd ≤ x → (s.enc k).cmp.left = none →
      ∃ u : State, exec (.comparePulse t k) s = .next u ∧
        (u.enc k).cmp.point = (if (s.enc k).cmp.rev then (s.enc k).cmp.point - BitVec.ofNat 32 (s.enc k).cmp.spacing
          else (s.enc k).cmp.point + BitVec.ofNat 32 (s.enc k).cmp.spacing) ∧
        (u.enc k).cmp.fired = ((s.enc k).cmp.fired + 1) % 65536 ∧
        (u.enc k).cmp.pulseEnd = some (x + 1000 * s.encField k 50 2) ∧ (u.enc k).cmp.hit = none ∧
        (u.enc k).trigs = (s.enc k).trigs ++ [(1, (s.enc k).counter + (s.enc k).c, y)]) ∧
    (∀ x, (s.enc k).cmp.pulseEnd = some x → x ≤ a.clk.now → exec (.comparePulseEnd t k) s = .next (a.modEnc k (fun e =>
      { e with cmp := { e.cmp with pulseEnd := none, guardEnd := x + 1000, level := false } }))) ∧
    (s.encUnit k ≠ 0xFF → (s.enc k).cmp.overload = none → exec (.cmpOverload t k) s = .next ((a.modEnc k (fun e =>
      { e with cmp := { e.cmp with overload := some (a.clk.now + 100000000), level := false } })).logEnc k 0x0608 5 (s.encUnit k) 0)) ∧
    (∀ x, (s.enc k).cmp.overload = some x → x ≤ a.clk.now → exec (.cmpOverloadEnd t k) s = .next ((a.modEnc k (fun e =>
      { e with cmp := { e.cmp.endPulse a.clk.now with
        overload := none, level := (e.cmp.endPulse a.clk.now).pulseEnd.isSome } })).cmpWindow k)) ∧
    (a.atTick = true → s.encMode k = 3 → s.encField k 34 1 ≠ 0 → s.frame.seq % s.encField k 34 1 = 0 → (s.enc k).ssi.reading = none →
      exec (.ssiRead t k) s = .next (a.modEnc k (fun e =>
        { e with ssi := { e.ssi with reading := some (a.clk.now, a.clk.base, s.frame.seq) } }))) ∧
    ((a.atTick = false ∨ s.encMode k ≠ 3 ∨ s.encField k 34 1 = 0) → exec (.ssiRead t k) s = .next a) ∧
    (∀ x y q i p r, (s.enc k).ssi.reading = some (x, y, q) → s.ssiFault k i true p r = none → exec (.ssiReadComplete t k i true p r) s =
      .next (a.modEnc k (fun e => { e with ssi := { e.ssi with reading := none, complete := some (some
        (let w := r / 2 ^ s.encField k 29 1 % 2 ^ s.ssiBits k; if s.encOpt k 5 then grayToBin (s.ssiBits k) w else w), x, y) } }))) ∧
    (∀ x y q i o p r f, (s.enc k).ssi.reading = some (x, y, q) → s.ssiFault k i o p r = some f → exec (.ssiReadComplete t k i o p r) s =
      .next ((a.modEnc k (fun e => { e with ssi := { e.ssi with reading := none, complete := some (none, x, y) } })).logEnc k
        0x0604 5 f r)) ∧
    ((s.enc k).trigs = [] → exec (.latch t k) s = .next a) ∧
    (∀ g p n r, (s.enc k).trigs = (g, p, n) :: r → tst (s.encField k 11 1) g = true → (s.enc k).fifo.length < 16 →
      exec (.latch t k) s = .next (a.modEnc k (fun e => { e with
        trigs := r, fifo := e.fifo ++ [({ p, net := n / 10 * 10, trigger := g, gen := e.gen } : LatchRec)],
        lastLatch := some ({ p, net := n / 10 * 10, trigger := g, gen := e.gen } : LatchRec) }))) ∧
    (∀ d l, d < 16 → d < s.dis.length → (s.dis.getD d {}).limit ≠ l → s.encMode k ≠ 0 → s.encField k 14 1 = d →
      s.encField k 15 1 ≠ d → ∃ u : State, exec (.limitEdge t d l) s = .next u ∧ (u.dis.getD d {}).limit = l ∧
      u.encLimit k 14 = l ∧ u.encLimit k 15 = s.encLimit k 15 ∧
      (u.enc k).trigs = (s.enc k).trigs ++ [(2, (s.enc k).counter + (s.enc k).c, a.clk.base - 20000)]) ∧
    (∀ d l, d < 16 → (s.dis.getD d {}).limit = l → exec (.limitEdge t d l) s = .next a)

/-- R271, R277, R279, R283, R285, Tables 10.3, 10.11 and 10.12: the opcodes of the encoder block, and a rebase at its tick. -/
def Obligations.EncoderOpcodes : Prop :=
  ∀ (s : State) (t tag : Nat) (f : Flight), let a := s.acting t; let k := f.unit; let m := byteAt f.req 16
    (Executes s tag 0x0603 f → (s.encMode k = 1 ∨ s.encMode k = 2) → (m = 0 ∨ m = 2 ∨ m = 3) → exec (.posRebase t tag) s =
      .next (a.addLive (.rebase k m (BitVec.ofNat 32 (u32At f.req 20))) f).takeNext) ∧
    (Executes s tag 0x0603 f → s.encMode k = 0 → exec (.posRebase t tag) s = .next (a.complete f .badField 8 []).takeNext) ∧
    (Executes s tag 0x0603 f → s.encMode k = 3 → (m = 1 ∨ m = 3) → exec (.posRebase t tag) s =
      .next (a.complete f .badField 16 []).takeNext) ∧
    (Executes s tag 0x0604 f → s.encPulse k = true → exec (.posCmpArm t tag) s = .next (a.addLive (.cmpArm k
      (BitVec.ofNat 32 (u32At f.req 16)) (u32At f.req 20) (u16At f.req 24) (byteAt f.req 26)) f).takeNext) ∧
    (Executes s tag 0x0605 f → s.encPulse k = true → exec (.posCmpStop t tag) s = .next (a.addLive (.cmpStop k) f).takeNext) ∧
    (s.encPulse k = false →
      (Executes s tag 0x0604 f → exec (.posCmpArm t tag) s = .next (a.complete f .badField 8 []).takeNext) ∧
      (Executes s tag 0x0605 f → exec (.posCmpStop t tag) s = .next (a.complete f .badField 8 []).takeNext)) ∧
    (Executes s tag 0x0606 f → byteAt f.req 17 ≠ 1 → let b := a.settleEnc k; exec (.posLatchRead t tag) s =
      .next (b.complete f .ok 0 (le8 ((b.enc k).fifo.take m).length ++ le8 (b.enc k).fifo.length ++ le16 (b.enc k).dropped ++ zeros 4 ++
        (((b.enc k).fifo.take m).map b.latchEntry).flatten)).takeNext) ∧
    (Executes s tag 0x0606 f → byteAt f.req 17 = 1 → let b := a.settleEnc k; let l := (b.enc k).fifo
      exec (.posLatchRead t tag) s =
        .next ((b.modEnc k (fun e => { e with fifo := l.drop m, dropped := 0, overflow := false })).wait f
          (.nextFrame (le8 (l.take m).length ++ le8 (l.drop m).length ++ le16 (b.enc k).dropped ++ zeros 4 ++
            ((l.take m).map b.latchEntry).flatten))).takeNext) ∧
    (∀ (c : LiveCmd) (v : BitVec 32), s.live = [c] → c.kind = .rebase k 0 v → c.applied = none → c.role = s.cfg.roles.get .enc k → k < 8 →
      k < s.encs.length → (s.advance t).atTick = true → ∃ u : State, exec (.posRebased t k) s = .next u ∧
        (u.enc k).counter + (u.enc k).c = v ∧ (u.enc k).referenced = true ∧ (u.enc k).quadErr = false ∧ (u.enc k).rebasedNow = true ∧
        (u.enc k).gen = (((s.advance t).settleEnc k).enc k |>.gen.succ) % 256) ∧
    (k < 8 → (s.advance t).atTick = false → exec (.posRebased t k) s = .next (s.advance t))

/-- R446, R447, R449 to R455, R464, Tables 17.1, 17.3 and 17.4: the lands of digital inputs and annunciator outputs as they are
sampled (the rows of their events are samples, log entry 166): levels, the debounce time, broken lines, open load and short to
supply, overloads and what clears a fault, the total limit, and the node-healthy relay. -/
def Obligations.EdgeEvents : Prop :=
  ∀ (s : State) (t : Nat), let a := s.advance t; let now := a.clk.now
    (∀ i mv, i < 16 → i < s.dis.length → a.landsUp = true → let d := s.di i
      let l := if mv < 5000 then false else if mv < 11000 then d.level else true
      let since := if l = d.level then d.levelAt else now
      let mon := tst (s.diField i 2 1) 0 && decide (s.diField i 1 1 ≠ 0)
      ∃ u : State, exec (.debounce t i mv) s = .next u ∧ (u.di i).level = l ∧ (u.di i).levelAt = since ∧
        (u.di i).deb = (if since + 1000000 * s.diField i 4 2 ≤ now then l else d.deb) ∧
        (u.di i).lowAt = (if mv < 1000 then some (d.lowAt.getD now) else none) ∧
        (u.di i).broken = (if mon = false then d.broken else if 1000 ≤ mv then false
          else if d.lowAt.getD now + 10000000 ≤ now then true else d.broken) ∧
        u.aos = s.aos ∧ u.nok = s.nok ∧ ∀ j, j ≠ i → u.di j = s.di j) ∧
    (∀ i x, i < 16 → a.landsUp = true → tst (s.diField i 2 1) 0 = true → s.diField i 1 1 ≠ 0 → (s.di i).broken = false →
      (s.di i).lowAt = some x → x + 10000000 ≤ now → i < s.dis.length → exec (.diLineBroken t i) s =
        .next (((a.modDi i (fun d => d.sample (s.diField i 4 2) now 0)).modDi i (fun d => { d with broken := true })).logDi i
          0x0E01 5 1 0)) ∧
    (∀ i, i < 16 → a.landsUp = true → tst (s.diField i 2 1) 0 = true → s.diField i 1 1 ≠ 0 → (s.di i).broken = true →
      i < s.dis.length → exec (.diLineRestored t i) s =
        .next (((a.modDi i (fun d => d.sample (s.diField i 4 2) now 1000)).modDi i (fun d => { d with broken := false })).logDi i
          0x0E01 5 0 0)) ∧
    (∀ i, i < 16 → a.landsUp = true → (tst (s.diField i 2 1) 0 = false ∨ s.diField i 1 1 = 0) →
      exec (.diLineBroken t i) s = .next (a.modDi i (fun d => d.sample (s.diField i 4 2) now 0)) ∧
      exec (.diLineRestored t i) s = .next (a.modDi i (fun d => d.sample (s.diField i 4 2) now 1000))) ∧
    (∀ i mv, i < 16 → a.landsUp = false → exec (.debounce t i mv) s = .next a ∧ exec (.diLineBroken t i) s = .next a ∧
      exec (.diLineRestored t i) s = .next a) ∧
    (∀ k mv ma, k < 8 → k < s.aos.length → s.aoOn k = true → tst (s.aoField k 1 1) 1 = true → (a.aoLand k = false ∨ ma ≤ 550) →
      let c := if a.aoLand k then (if ma < s.aoField k 6 2 then 1 else 0) else if s.pwr.vshipMv ≤ mv + 3000 then 3 else if 6000 < mv then 1 else 0
      c ≠ 0 → ((s.ao k).fault = 0 ∨ (s.ao k).fault = 1 ∨ (s.ao k).fault = 3) → c ≠ (s.ao k).fault → (s.ao k).cond = c →
      (s.ao k).condOn = a.aoLand k → (s.ao k).condAt + 100000000 ≤ now →
      ∃ u : State, exec (.aoLineFault t k mv ma) s = .next u ∧ (u.ao k).fault = c ∧ (u.ao k).faultAt = now ∧ u.dis = s.dis ∧
        ∀ j, j ≠ k → u.ao j = s.ao j) ∧
    (∀ k mv ma, k < 8 → k < s.aos.length → (s.aoOn k = false ∨ tst (s.aoField k 1 1) 1 = false) →
      (s.aoOn k = false ∨ a.aoLand k = false ∨ ma ≤ 550) → ∃ u : State, exec (.aoLineFault t k mv ma) s = .next u ∧
        (u.ao k).fault = (if (s.ao k).latched = false ∧ (s.ao k).faultAt + 100000000 ≤ now then 0 else (s.ao k).fault) ∧
        (u.ao k).cond = 0 ∧ (u.ao k).current = min 65535 ma ∧ u.log = s.log) ∧
    (∀ k m, k < 8 → k < s.aos.length → s.aoOn k = true → a.aoLand k = true → 550 < m →
      ((s.ao k).overloads.filter (fun x => decide (now < x + 10000000000))).length < 2 → ∃ u : State,
      exec (.aoOverload t k m) s = .next u ∧ (u.ao k).fault = 2 ∧ (u.ao k).offUntil = some (now + 1000000000) ∧
        (u.ao k).latched = (s.ao k).latched ∧ u.aoLand k = false) ∧
    (∀ k m, k < 8 → k < s.aos.length → s.aoOn k = true → a.aoLand k = true → 550 < m →
      ((s.ao k).overloads.filter (fun x => decide (now < x + 10000000000))).length = 2 → ∃ u : State,
      exec (.aoOverload t k m) s = .next u ∧ (u.ao k).fault = 4 ∧ (u.ao k).latched = true ∧ (u.ao k).released = false ∧
        u.aoLand k = false) ∧
    (∀ k m, k < 8 → (s.aoOn k = false ∨ a.aoLand k = false ∨ m ≤ 550) → exec (.aoOverload t k m) s = .next a) ∧
    (∀ k x, k < 8 → k < s.aos.length → (s.ao k).offUntil = some x → x ≤ now → (s.ao k).fault ≠ 5 → ∃ u : State,
      exec (.aoRetry t k) s = .next u ∧ u.ao k = { s.ao k with offUntil := none }) ∧
    (∀ k, k < 8 → k < s.aos.length → (s.ao k).latched = false → (s.ao k).cond ≠ (s.ao k).fault →
      (s.ao k).faultAt + 100000000 ≤ now → ∃ u : State, exec (.aoFaultClear t k) s = .next u ∧ u.ao k = { s.ao k with fault := 0 }) ∧
    (∀ k, k < 8 → k < s.aos.length → (s.ao k).cond = (s.ao k).fault → ∃ u : State, exec (.aoFaultClear t k) s = .next u ∧
      u.ao k = { s.ao k with faultAt := now }) ∧
    (∀ k, k < 8 → k < s.aos.length → (s.ao k).cond ≠ (s.ao k).fault →
      ((s.ao k).latched = true ∨ now < (s.ao k).faultAt + 100000000) → ∃ u : State,
        exec (.aoFaultClear t k) s = .next u ∧ u.ao k = s.ao k) ∧
    (∀ m, ((List.range 8).map (fun k => m.getD k 0)).sum ≤ 2100 → exec (.aoTotalLimit t m) s =
      .next { a with pwr := { s.pwr with aoOver := none } }) ∧
    (∀ m, 2100 < ((List.range 8).map (fun k => m.getD k 0)).sum → s.pwr.aoOver = none → exec (.aoTotalLimit t m) s =
      .next { a with pwr := { s.pwr with aoOver := some now } }) ∧
    (∀ m x, 2100 < ((List.range 8).map (fun k => m.getD k 0)).sum → s.pwr.aoOver = some x → now < x + 1000000 →
      exec (.aoTotalLimit t m) s = .next a) ∧
    (∀ m x, ((List.range 8).map (fun k => m.getD k 0)).sum = 2200 → s.pwr.aoOver = some x → x + 1000000 ≤ now →
      a.aoLand 7 = true → 200 < m.getD 7 0 → 7 < s.aos.length → (∀ k < 8, (s.ao k).fault ≠ 5) → ∃ u : State,
        exec (.aoTotalLimit t m) s = .next u ∧ (u.ao 7).fault = 5 ∧ (u.ao 7).offUntil = some s.frame.nextTick ∧
        u.pwr.aoOver = none ∧ ∀ k < 7, u.ao k = s.ao k) ∧
    (∀ m, s.nok.on = true → (150 < m ∨ m < 5 ∧ ∃ x, s.nok.lowAt = some x ∧ x + 100000000 ≤ now) →
      exec (.nokCoilFault t m) s = .next (({ a with nok :=
        { s.nok with on := false, coilFault := true, current := min 65535 m, lowAt := none } }).logNode 0x0E04 6 m 0)) ∧
    (∀ m, s.nok.on = true → m < 5 → (∀ x, s.nok.lowAt = some x → now < x + 100000000) → exec (.nokCoilFault t m) s =
      .next { a with nok := { s.nok with current := m, lowAt := some (s.nok.lowAt.getD now) } }) ∧
    (∀ m, (s.nok.on = false ∨ 5 ≤ m ∧ m ≤ 150) → exec (.nokCoilFault t m) s =
      .next { a with nok := { s.nok with current := min 65535 m, lowAt := none } }) ∧
    (∃ u : State, exec (.publicationTimeout t) s = .next u ∧ ((∀ x, s.frame.lastPub = some x → x + 10000000 < now) → u.nok.on = false) ∧
      u.log = s.log ∧ u.aos = s.aos)

/-- R287, R290, R291, R295, R296, R330, Table 11.3: transmission, identifier clashes and fault confinement of a controller. The frame
in progress at a commit is finished in the state and transmit mode before it (R326); the parameter of a dominant timeout is the
count of them (log entry 157). -/
def Obligations.BusFaultConfinement : Prop :=
  ∀ (s : State) (t b : Nat), b < 4 → b < s.bus.ctl.length → let a := s.advance t; let c := s.ctl b
    (∀ m f, (a.stateAt b m).sends = true → a.offer b m = some f → (∀ q, f.roleAt m ≠ .timeRef q) → f.asks = [] →
      exec (.transmitSuccess t b m) s = .next ((a.measureDelay b f).modCtl b (fun c => { c.sent f m with
        txCount := min 4294967295 (c.txCount + 1), tec := c.tec - 1, dominant := false,
        state := if c.state = .errorPassive && c.tec - 1 < 128 && c.rec_ < 128 then .errorActive else c.state })).resetDue) ∧
    (∀ m f q, (a.stateAt b m).sends = true → a.offer b m = some f → f.roleAt m = .timeRef q → f.asks = [] →
      s.bus.net.isMaster = true → s.rst.dueAt = none → ∃ u : State, exec (.transmitSuccess t b m) s = .next u ∧ u.log = s.log ∧
      u.host = s.host ∧ (u.ctl b).txCount = min 4294967295 (c.txCount + 1) ∧ ∀ d, d ≠ b → u.ctl d = s.ctl d) ∧
    (∀ m, (a.stateAt b m).sends = true → a.offer b m = none → exec (.transmitSuccess t b m) s = .next a.resetDue) ∧
    (∀ f, (s.busOpt b 5 = false ∨ s.busOpt b 1 = false) → a.measureDelay b f = a) ∧
    (c.cut = none → (∀ m, a.stateAt b m = c.state) ∧ ∀ m, a.offer b m = c.candidate (s.busOpt b 4) m a.held) ∧
    (∀ x m, c.cut = some x → m < x.1 → a.stateAt b m = x.2.1 ∧ a.offer b m = c.candidate x.2.2 m a.held) ∧
    (∀ m, (a.stateAt b m).sends = false → exec (.transmitSuccess t b m) s = .next a.resetDue ∧ exec (.idClash t b m) s = .next a.resetDue) ∧
    (∀ m f, c.state = .errorActive → (a.stateAt b m).sends = true → a.offer b m = some f → f.clashes < 2 → c.tec < 120 → c.rec_ < 128 →
      s.rst.dueAt = none → ∃ u : State, exec (.idClash t b m) s = .next u ∧ u.log = s.log ∧ (u.ctl b).tec = c.tec + 8 ∧
      ((u.ctl b).errA = 4 ∨ (u.ctl b).errD = 4) ∧ (u.ctl b).state = .errorActive ∧ (u.ctl b).idClashes = c.idClashes ∧
      (u.ctl b).proto = modFirst (fun x => decide (x = f)) (fun x => { x with clashes := x.clashes + 1 }) c.proto ∧
      ∀ d, d ≠ b → u.ctl d = s.ctl d) ∧
    (∀ m f, (a.stateAt b m).sends = true → a.offer b m = some f → 2 ≤ f.clashes → f.asks = [] →
      (f.role = .other ∨ f.role = .goingDown ∨ f.role = .culvertRsp ∨ (∃ q, f.role = .timeRef q) ∨ ∃ o, f.role = .object o) →
      exec (.idClash t b m) s = .next ((((a.clashError b f).modCtl b (fun c =>
        { c.remove f with idClashes := min 65535 (c.idClashes + 1) })).logBus b 0x0706 5 f.id (f.clashes + 1)).resetDue)) ∧
    (∀ m f d, (a.stateAt b m).sends = true → a.offer b m = some f → 2 ≤ f.clashes → f.role = .claim d → s.bus.duplicate = false →
      s.rst.dueAt = none → ∃ u : State, exec (.idClash t b m) s = .next u ∧ u.bus.duplicate = true ∧
        ∀ d ∈ u.bus.ctl, d.state = .off ∨ d.state = .listenOnly) ∧
    (∀ x r p q, c.state = .errorActive → (128 ≤ x ∨ 128 ≤ r) → exec (.busErrorPassive t b x r p q) s = .next ((a.modCtl b (fun c =>
      { c with state := .errorPassive, tec := x, rec_ := r, errA := p % 8, errD := q % 8 })).logBus b 0x0708 4
        (if 128 ≤ x then x else r) 0)) ∧
    (∀ x r p q, (c.state ≠ .errorActive ∨ (x < 128 ∧ r < 128)) → exec (.busErrorPassive t b x r p q) s = .next a) ∧
    (∀ x p q, (c.state = .errorActive ∨ c.state = .errorPassive) → 255 < x →
      (c.offTimes.filter (fun y => decide (a.clk.now < y + 60000000000))).length < 2 → ∃ u : State, exec (.busOff t b x p q) s = .next u ∧
        (u.ctl b).state = .recovering ∧ (u.ctl b).busOffs = min 65535 (c.busOffs + 1) ∧ ∀ d, d ≠ b → u.ctl d = s.ctl d) ∧
    (∀ x p q, (c.state = .errorActive ∨ c.state = .errorPassive) → 255 < x →
      2 ≤ (c.offTimes.filter (fun y => decide (a.clk.now < y + 60000000000))).length → ∃ u : State, exec (.busOff t b x p q) s = .next u ∧
        (u.ctl b).state = .busOff ∧ (u.ctl b).holdEnd = some (a.clk.now + 10000000000)) ∧
    (∀ x, c.state = .busOff → c.holdEnd = some x → x ≤ a.clk.now → exec (.busOffHoldEnd t b) s =
      .next (a.modCtl b (fun c => { c with state := .recovering, holdEnd := none }))) ∧
    (∀ x, c.holdEnd = some x → a.clk.now < x → exec (.busOffHoldEnd t b) s = .next a) ∧
    (c.state = .recovering → ∃ u : State, exec (.busRecovered t b) s = .next u ∧ (u.ctl b).state = .errorActive ∧ (u.ctl b).tec = 0 ∧
      (u.ctl b).rec_ = 0 ∧ ∀ d, d ≠ b → u.ctl d = s.ctl d) ∧
    (c.state ≠ .recovering → exec (.busRecovered t b) s = .next a) ∧
    (c.state.works = true → exec (.dominantTimeout t b) s =
      .next ((a.modCtl b (fun c => { c with dominant := true, dominants := (s.ctl b).dominants + 1 })).logBus b 0x0707 4
        ((s.ctl b).dominants + 1) 0)) ∧
    (c.state.works = false → exec (.dominantTimeout t b) s = .next a) ∧
    (∀ tag f, Executes s tag 0x0705 f → (s.ctl (byteAt f.req 16)).state = .busOff → exec (.busRecover t tag) s =
      .next (((s.acting t).modCtl (byteAt f.req 16) (fun c => { c with state := .recovering, holdEnd := none })).wait f (.nextFrame [])).takeNext) ∧
    (∀ tag f, Executes s tag 0x0705 f → (s.ctl (byteAt f.req 16)).state ≠ .busOff → exec (.busRecover t tag) s =
      .next ((s.acting t).complete f .notPermitted 1 []).takeNext)

/-- R307 to R313, Table 11.9: references and follow-ups, the deviation they give and what it does to the time base, the
mastership, holdover, the time bus, and the generator frequency. An authenticated follow-up that carries no later time than the
last is discarded whatever the time role of its controller (R324). -/
def Obligations.NetworkTime : Prop :=
  ∀ (s : State) (t b node m : Nat) (d : List Byte), b < 4 → let a := s.advance t; let n := s.bus.net
    (Hears s b 0 d → exec (.timeRef t b node m d) s = .next (s.heard t (s.rxFrame b 0 node 0 m d))) ∧
    (∀ q, Hears s b 1 d → exec (.timeFu t b node q m d) s = .next (s.heard t (s.rxFrame b 1 node q m d))) ∧
    (∀ q c, (s.rxFrame b c node q m d).base = (s.markClk m).base ∧ (s.rxFrame b c node q m d).flow = (s.markClk m).flow) ∧
    (∀ g : RxFrame, g.cls = 0 → s.takeMessage g = s.modNet (fun n =>
      { n with refs := modAt n.refs g.bus (fun _ => some { node := g.node, seq := byteAt g.data 0, mark := g.base }) })) ∧
    (∀ (g : RxFrame) (r : RefMark), g.cls = 1 → g.auth = false → s.timeRole g.bus ≠ 0 → n.isMaster = false → n.refs.getD g.bus none = some r →
      s.timeBus = g.bus → n.onSecondary = false → r.node = g.node → r.seq = byteAt g.data 0 →
      let θ : Int := (tsUs (u64At g.data 4) * 1000 + u16At g.data 12 % 1000 : Nat) + (s.busField g.bus 14 2 : Nat) - (r.mark : Nat)
      let u := s.takeMessage g
      (θ.natAbs ≤ 1000000 → u.clk = { s.clk with slew := θ, slewTime := 100000000, ratePpb := s.clk.ratePpb + divRound (θ * 5) 4 } ∧
          u.bus.net.taken = true ∧ u.bus.net.master.map (fun x => x.1) = some g.node ∧ (2000 < θ.natAbs → u.bus.net.state = 1) ∧
          (θ.natAbs ≤ 1000 → 3 ≤ n.good → u.bus.net.state = 2)) ∧
      (1000000 < θ.natAbs → u.clk = { s.clk with base := (s.clk.base + θ).toNat, slew := 0, slewTime := 0 } ∧ u.bus.net.state = 1)) ∧
    (∀ g : RxFrame, g.cls = 1 → g.auth = false → s.timeRole g.bus = 0 → n.isMaster = false →
      s.takeMessage g = s.heardMaster g.node (byteAt g.data 1)) ∧
    (∀ g : RxFrame, g.cls = 1 → g.auth = true → n.isMaster = false →
      tsUs (u64At g.data 4) * 1000 + u16At g.data 12 % 1000 ≤ n.lastAuth → s.takeMessage g = s.authFail g.bus (protoId 0 1 g.node g.index)) ∧
    (∀ g : RxFrame, g.cls = 1 → n.isMaster = true → s.betterMaster g.node (byteAt g.data 1) = false → s.takeMessage g = s) ∧
    (n.isMaster = true → s.joined = true → n.lastRef ≠ some (a.clk.base / 100000000) → ∃ u : State, exec (.timeRefSend t) s = .next u ∧
      u.bus.net = { n with nextRef := (n.nextRef + 1) % 256, lastRef := some (a.clk.base / 100000000) }) ∧
    ((n.isMaster = false ∨ s.joined = false ∨ n.lastRef = some (a.clk.base / 100000000)) → exec (.timeRefSend t) s = .next a) ∧
    (s.isCandidate = true → s.joined = true → n.isMaster = false → n.silentSince + (3 + s.rank) * 100000000 ≤ a.clk.now → ∃ u : State,
      exec (.timeMasterChange t) s = .next u ∧ u.bus.net.isMaster = true ∧ u.bus.net.state = 2 ∧ u.bus.net.master = some (s.bus.nodeId, s.rank) ∧
        u.clk = a.clk) ∧
    ((s.isCandidate = false ∨ s.joined = false ∨ n.isMaster = true) → exec (.timeMasterChange t) s = .next a) ∧
    (n.isMaster = false → (n.state = 1 ∨ n.state = 2) → (∀ x, s.lastFuOf x + 300000000 ≤ a.clk.now) → 300000000 ≤ a.clk.now → ∃ u : State,
      exec (.timeHoldover t) s = .next u ∧ u.bus.net.state = 3 ∧ u.bus.net.holdoverSince = some a.clk.now ∧ u.bus.net.good = 0) ∧
    (n.isMaster = true → exec (.timeHoldover t) s = .next a) ∧
    (∀ x, n.state = 3 → n.holdoverSince = some x → x + 10000000000 ≤ a.clk.now → exec (.holdoverLimit t) s =
      .next (a.modNet (fun n => { n with holdoverOut := true }))) ∧
    (n.state ≠ 3 → exec (.holdoverLimit t) s = .next a) ∧
    (s.busField 4 7 1 < 4 → n.onSecondary = false → s.lastFuOf (s.busField 4 6 1) + 300000000 ≤ a.clk.now →
      exec (.timeSource t) s = .next (a.modNet (fun n => { n with onSecondary := true, primRun := 0 }))) ∧
    (4 ≤ s.busField 4 7 1 → exec (.timeSource t) s = .next a) ∧
    (Hears s b 5 d → exec (.genFreq t b node m d) s = .next (s.heard t (s.rxFrame b 5 node 0 m d))) ∧
    (∀ g : RxFrame, g.cls = 5 → n.genFreq = [] → (s.takeMessage g).bus.net.genFreq = [(g.node, u32At g.data 0, g.mark)]) ∧
    (tst (s.busField 4 1 1) 1 = true → s.notch.src = .local_ → s.joined = true → n.lastGen = none → ∃ u : State,
      exec (.genFreqTransmit t) s = .next u ∧ u.bus.net.lastGen = some a.clk.now) ∧
    ((tst (s.busField 4 1 1) 1 = false ∨ s.notch.src ≠ .local_) → exec (.genFreqTransmit t) s = .next a)

/-- R47, R80, R81, R248 to R251, R301 to R306, R318 to R321: what the messages of other nodes do, and what falls due towards
them. The home node broadcasts a member's reset whatever the state of its own set (log entry 156). -/
def Obligations.BusMessages : Prop :=
  ∀ (s : State) (t b node m : Nat) (d : List Byte), b < 4 → let a := s.advance t
    (Hears s b 2 d → exec (.claim t b node m d) s = .next (s.heard t (s.rxFrame b 2 node 0 m d))) ∧
    (Hears s b 3 d → exec (.goingDown t b node m d) s = .next (s.heard t (s.rxFrame b 3 node 0 m d))) ∧
    (Hears s b 4 d → exec (.heartbeat t b node m d) s = .next (s.heard t (s.rxFrame b 4 node 0 m d))) ∧
    (∀ i, (Hears s b 8 d → exec (.foCand t b node i m d) s = .next (s.heard t (s.rxFrame b 8 node i m d))) ∧
      (Hears s b 9 d → exec (.foDecide t b node i m d) s = .next (s.heard t (s.rxFrame b 9 node i m d))) ∧
      (Hears s b 10 d → exec (.foResetMessage t b node i m d) s = .next (s.heard t (s.rxFrame b 10 node i m d)))) ∧
    (Hears s b 13 d → exec (.panel t b node m d) s = .next (s.heard t (s.rxFrame b 13 node 0 m d))) ∧
    (∀ g : RxFrame, s.bus.slots.flatten = [g] → s.bus.spill = [] →
      s.drainSlots = (s.modBus (fun n => { n with slots := List.replicate 8 [], spill := [] })).takeMessage g) ∧
    (∀ g : RxFrame, g.cls = 2 → g.node ≠ s.bus.nodeId → g.node < 64 → s.takeMessage g =
      s.modPresence g.bus g.node (fun p => { p with state := byteAt g.data 16 })) ∧
    (∀ g : RxFrame, g.cls = 2 → (g.node = s.bus.nodeId ∧ g.data.take 16 = uniqueBytes ∨ g.node ≠ s.bus.nodeId ∧ 64 ≤ g.node) →
      s.takeMessage g = s) ∧
    (∀ g : RxFrame, g.cls = 2 → g.node = s.bus.nodeId → s.bus.claimEnd = none → s.bus.duplicate = false → g.data.take 16 ≠ uniqueBytes →
      tst (byteAt g.data 17) 0 = true → (s.takeMessage g).bus.duplicate = true ∧
        ∀ c ∈ (s.takeMessage g).bus.ctl, c.state = .off ∨ c.state = .listenOnly) ∧
    (∀ g : RxFrame, g.cls = 2 → g.node = s.bus.nodeId → s.bus.claimEnd = none → s.bus.duplicate = false → g.data.take 16 ≠ uniqueBytes →
      tst (byteAt g.data 17) 0 = false → s.takeMessage g = (s.sendClaim g.bus true).logBus g.bus 0x070F 4 s.bus.nodeId 0) ∧
    (∀ e, s.bus.claimEnd = some e → e ≤ a.clk.now → ∃ u : State, exec (.claimPeriod t) s = .next u ∧ u.bus.claimEnd = none ∧
      u.bus.nodeId = s.bus.nodeId ∧ u.log = s.log) ∧
    (s.bus.claimEnd = none → exec (.claimPeriod t) s = .next a) ∧
    (∀ g : RxFrame, g.cls = 4 → g.bus < s.bus.presence.length → g.node < 64 → g.node < (s.bus.presence.getD g.bus []).length →
      let p := (s.takeMessage g).presence g.bus g.node
      p.last = some g.flow ∧ p.present = true ∧ p.state = byteAt g.data 0) ∧
    (s.joined = true → s.bus.lastHeartbeat = none → ∃ u : State, exec (.heartbeatSend t) s = .next u ∧
      u.bus.lastHeartbeat = some a.clk.now ∧ u.log = s.log) ∧
    (s.joined = false → exec (.heartbeatSend t) s = .next a) ∧
    (∀ g : RxFrame, g.cls = 3 → ((s.presence g.bus g.node).present = true → s.takeMessage g =
        (s.modPresence g.bus g.node (fun p => { p with present := false })).logBus g.bus 0x0703 6 g.node (byteAt g.data 0)) ∧
      ((s.presence g.bus g.node).present = false → s.takeMessage g = s)) ∧
    (∀ x, (s.presence b node).last = some x → x + 300000000 ≤ a.clk.flow → (s.presence b node).present = true → exec (.nodeLost t b node) s =
      .next ((a.modPresence b node (fun p => { p with present := false })).logBus b 0x0702 6 node 0)) ∧
    (∀ x, (s.presence b node).last = some x → a.clk.flow < x + 300000000 → exec (.nodeLost t b node) s = .next a) ∧
    (∀ g, g < 2 → s.pairAB = true → a.steady (1 - g) node = true → (s.presence g node).last = none → node ∉ (s.ctl g).legNodes →
      exec (.busLegFault t node g) s =
        .next ((a.modCtl g (fun c => { c with legNodes := c.legNodes ++ [node] })).logBus g 0x0705 5 node g)) ∧
    (∀ g, s.pairAB = false → exec (.busLegFault t node g) s = .next a) ∧
    (∀ (g : RxFrame) k, g.cls = 8 → s.netSet g.index = some k →
      let x : FoCand := { node := g.node, weir := u16At g.data 0, role := u16At g.data 2, ts := u64At g.data 4, res := u32At g.data 12 }
      s.takeMessage g = { s with eng := { s.eng with foIn := s.eng.foIn ++ [(k, x)] }, prev := { s.prev with foIn := s.prev.foIn ++ [(k, x)] } }) ∧
    (∀ (g : RxFrame) k, g.cls = 9 → s.netSet g.index = some k → g.node = (s.foCfgOf k).home → k < s.eng.fo.length →
      let u := s.takeMessage g
      (u.fo k).state = (s.fo k).state ∧ ∃ x : FoDecision, (u.fo k).adopt = some x ∧ x.first.node = byteAt g.data 1 ∧
        x.first.weir = u16At g.data 2 ∧ x.first.ts = u64At g.data 4 ∧ x.count = byteAt g.data 13) ∧
    (∀ (g : RxFrame) k, g.cls = 10 → s.netSet g.index = some k → byteAt g.data 9 ≠ 0 → g.node = (s.foCfgOf k).home → k < s.eng.fo.length →
      ((s.takeMessage g).fo k).resetAt = some (tsUs (u64At g.data 0) * 1000, byteAt g.data 8)) ∧
    (∀ (g : RxFrame) k, g.cls = 10 → s.netSet g.index = some k → byteAt g.data 9 = 0 → s.foHome (s.foCfgOf k) = true →
      (s.fo k).resetAt = none → k < s.eng.fo.length →
      ((s.takeMessage g).fo k).resetAt = some (alignUp 4000000 (s.clk.base + 50000000), byteAt g.data 8)) ∧
    (∀ (g : RxFrame) k, g.cls = 10 → s.netSet g.index = some k → byteAt g.data 9 = 0 →
      (s.foHome (s.foCfgOf k) = false ∨ (s.fo k).resetAt ≠ none) → s.takeMessage g = s) ∧
    (∀ g : RxFrame, (g.cls = 8 ∨ g.cls = 9 ∨ g.cls = 10) → s.netSet g.index = none → s.takeMessage g = s) ∧
    (∀ g : RxFrame, g.cls = 13 → byteAt g.data 0 = s.bus.nodeId → s.panelAck g = true → byteAt g.data 1 = 2 → u16At g.data 2 < 128 →
      u16At g.data 4 = s.cfg.roles.get .group (u16At g.data 2) → s.takeMessage g =
      { s with live := s.live ++ [({ kind := .groupAck (u16At g.data 2), origin := g.node, fl := none, role := u16At g.data 4 } : LiveCmd)] }) ∧
    (∀ g : RxFrame, g.cls = 13 → byteAt g.data 0 = s.bus.nodeId → s.panelAck g = true → byteAt g.data 1 = 1 → u16At g.data 2 < 1024 →
      u16At g.data 4 ≠ s.cfg.roles.get .weir (u16At g.data 2) → s.takeMessage g = s.logEv 0x0103 4 4 (u16At g.data 2)
        (s.cfg.roles.get .weir (u16At g.data 2))
        (u16At g.data 4 + s.cfg.roles.get .weir (u16At g.data 2) * 65536) (g.node * 65536)) ∧
    (∀ g : RxFrame, g.cls = 13 → (byteAt g.data 0 ≠ s.bus.nodeId ∨ (byteAt g.data 1 < 3 ∧ s.panelAck g = false)) → s.takeMessage g = s) ∧
    (s.remoteMode = 1 → ∀ g : RxFrame, s.panelAck g = false) ∧
    (∀ i, Hears s b 0x20 d → i / 256 ≠ s.bus.nodeId → exec (.culvertReq t b node i m d) s = .next (a.rxOk b)) ∧
    (∀ i, Hears s b 0x20 d → i / 256 = s.bus.nodeId → i % 8 = 0 → byteAt d 0 = 2 → u16At d 2 = 100 → s.bus.ring = [] → ∃ u : State,
      exec (.culvertReq t b node i m d) s = .next u ∧ u.host = s.host ∧ ∃ r, u.bus.ring = [r] ∧ r.src = node ∧ r.transfer = i / 8 % 32 ∧
        r.segs = [(0, (d.drop 4).take 56)] ∧ r.rsp = false) ∧
    (∀ i, Hears s b 0x21 d → i / 256 = s.bus.nodeId → i % 8 = 0 → byteAt d 0 = 2 → u16At d 2 = 100 → s.bus.ring = [] → ∃ u : State,
      exec (.culvertRsp t b node i m d) s = .next u ∧ u.host = s.host ∧ ∃ r, u.bus.ring = [r] ∧ r.src = node ∧ r.rsp = true) ∧
    (∀ tr rsp, (∀ r ∈ s.bus.ring, r.is node tr rsp = false) → exec (.culvertSegLost t node tr rsp) s = .next a) ∧
    (∀ tr rsp r, s.bus.ring = [r] → r.is node tr rsp = true → r.first + 100000000 ≤ a.clk.now → ∃ u : State,
      exec (.culvertSegLost t node tr rsp) s = .next u ∧ u.bus.ring = []) ∧
    (∀ tag f, Executes s tag 0x0105 f → byteAt f.req 16 = s.bus.nodeId → exec (.sysForward t tag) s =
      .next ((s.acting t).complete f .badField 16 []).takeNext) ∧
    (∀ tag f, Executes s tag 0x0105 f → byteAt f.req 16 ≠ s.bus.nodeId → s.host.queue = [] → ∃ u : State, exec (.sysForward t tag) s = .next u ∧
      u.host.waits = s.host.waits ++ [(Wait.mk f (.forward (byteAt f.req 16) (s.bus.transfers.getD (byteAt f.req 16) 0)
        (a.clk.now + 1000000 * u16At f.req 18)))] ∧ u.host.cur = none) ∧
    (∀ w x y z, s.host.waits = [w] → w.kind = .forward x y z → z ≤ a.clk.now → exec (.forwardTimeout t) s =
      .next (({ a with host := { a.host with waits := [] } } : State).complete w.fl .aborted 1 [])) ∧
    ((∀ w ∈ s.host.waits, ∀ x y z, w.kind ≠ .forward x y z) → exec (.forwardTimeout t) s = .next a)

/-- R299, R315 to R318, R330, Tables 11.13 and 11.19: the objects of the bus and the values received. -/
def Obligations.BusObjects : Prop :=
  ∀ (s : State) (t b : Nat) (d : List Byte), b < 4 → let a := s.advance t; let r := a.rxOk b
    (∀ p n i m, (s.ctl b).hears = true → s.busOpt b 1 = true → s.bus.claimEnd = none → s.matching b false n i d.length = [] →
      exec (.value t b p n i m d) s = .next r) ∧
    (∀ p n i m j, (s.ctl b).hears = true → s.busOpt b 1 = true → s.bus.claimEnd = none → s.matching b false n i d.length = [j] → s.objOpt j 5 = false →
      s.objField j 2 1 ≠ 4 → j < s.bus.shadows.length → ∃ u : State, exec (.value t b p n i m d) s = .next u ∧ (u.shadow j).data = d ∧
        (u.shadow j).rx = some (s.markClk m).flow ∧ (u.shadow j).seqLow = u16At d 0 ∧ u.bus.values = s.bus.values ∧ ∀ k, k ≠ j → u.shadow k = s.shadow k) ∧
    (∀ i m j, (s.ctl b).hears = true → s.matching b true 0 i d.length = [j] → s.objOpt j 5 = false → j < s.bus.shadows.length → ∃ u : State,
      exec (.foreignFrame t b i m d) s = .next u ∧ (u.shadow j).data = d ∧ (u.shadow j).rx = some (s.markClk m).flow ∧ ∀ k, k ≠ j → u.shadow k = s.shadow k) ∧
    (∀ p n i m, (s.ctl b).hears = false → exec (.value t b p n i m d) s = .next a ∧ exec (.foreignFrame t b i m d) s = .next a) ∧
    (∀ j x, j < 128 → (s.shadow j).rx = some x → (s.toFrame t).clk.flow < x + 1000000 * s.objField j 8 2 → exec (.freshnessTimeout t j) s =
      .next (s.toFrame t)) ∧
    (∀ j x o w v, j < 128 → s.objRx j = true → s.objFields j = [(2, o, w, v)] → v < s.bus.values.length → (s.shadow j).rx = some x →
      x + 1000000 * s.objField j 8 2 ≤ (s.toFrame t).clk.flow → (s.shadow j).enabled + 1000000 * s.objField j 8 2 ≤ (s.toFrame t).clk.flow →
      rxStale 2 w ((s.shadow j).data.drop o) = false → ∃ u : State, exec (.freshnessTimeout t j) s = .next u ∧
        (u.bus.values.getD v {}).q = .stale ∧ (u.bus.values.getD v {}).val = (u.bus.values.getD v {}).last) ∧
    (∀ j, j < 128 → (∀ i, i ≤ j → (s.shadow i).due = none) → exec (.busObjectDue t j) s = .next a) ∧
    (∀ j x, j < 128 → j < s.bus.shadows.length → (s.shadow j).due = some x → (∀ i, i < j → (s.shadow i).due = none) → s.objOpt j 5 = false → s.objField j 2 1 = b → (s.ctl b).state ≠ .off →
      b < s.bus.ctl.length → (s.ctl b).objs = [] → ∃ u : State,
      exec (.busObjectDue t j) s = .next u ∧ (u.shadow j).due = none ∧ ∃ f, (u.ctl b).objs = [f] ∧ f.role = .object j ∧ f.put = a.clk.now ∧
        f.data = a.objPayload j x) ∧
    (∀ tag f, Executes s tag 0x0704 f → s.objTx f.unit = true → exec (.busObjSend t tag) s =
      .next (((s.acting t).objLoad f.unit false [f.id]).wait f (.busSend f.unit
        (a.clk.now + 1000000000))).takeNext) ∧
    (∀ tag f, Executes s tag 0x0704 f → s.objTx f.unit = false → exec (.busObjSend t tag) s =
      .next ((s.acting t).complete f .badField 8 []).takeNext) ∧
    ((∀ w ∈ s.host.waits, ∀ o z, w.kind = .busSend o z → a.clk.now < z) → exec (.busObjSendTimeout t) s = .next a) ∧
    (∀ w o z, s.host.waits = [w] → w.kind = .busSend o z → z ≤ a.clk.now → w.fl.id < 240 → ∃ u : State, exec (.busObjSendTimeout t) s = .next u ∧
      u.host.waits = [] ∧ u.host.done.getLsbD w.fl.id = true) ∧
    (∀ tag f, Executes s tag 0x0706 f → exec (.busNodes t tag) s = .next ((s.acting t).complete f .ok 0
      (le64 ((s.acting t).presentMap (byteAt f.req 16)) ++
        (List.range 64).flatMap (fun n => le8 (s.presence (byteAt f.req 16) n).state))).takeNext) ∧
    (∀ tag f, Executes s tag 0x0707 f → u16At f.req 16 + u16At f.req 18 ≤ 512 → exec (.busValues t tag) s =
      .next ((s.acting t).complete f .ok 0 (le16 (u16At f.req 16) ++ le16 (u16At f.req 18) ++ le32 0 ++
        (List.range (u16At f.req 18)).flatMap (fun n => let v := s.bus.values.getD (u16At f.req 16 + n) {};
          leF32 v.val ++ le8 v.q.code ++ le8 v.node ++
            le16 (match v.rx with | some x => min 65535 ((a.clk.flow - x) / 1000000) | none => 65535)))).takeNext)

/-- R370, R373 to R377, R385, R397, R464, R465: the step test of the hold-up capacitor from its request to its result, the
charge ledger, a capacitor that does not charge, the input limit, shedding, and the claim list. -/
def Obligations.HoldAndHeadgate : Prop :=
  ∀ (s : State) (t tag : Nat) (f : Flight), let a := s.advance t; let c := s.acting t; let p := s.pwr
    (Executes s tag 0x0A03 f → p.testRun = false → 8000 ≤ p.holdMv → exec (.pwrHoldTest t tag) s =
      .next (({ c with pwr := { p with testDue := true } } : State).wait f .holdTest).takeNext) ∧
    (Executes s tag 0x0A03 f → p.testRun = false → p.holdMv < 8000 → exec (.pwrHoldTest t tag) s =
      .next (c.complete f .notPermitted 1 []).takeNext) ∧
    ((s.frame.running = true ∧ p.testDue = true ∧ p.testOk = true ∨ s.frame.running = false ∧ a.testDue p.holdMv = true) →
      s.churnRuns = false → p.state ≠ .holdup → 8000 ≤ p.holdMv → p.testRun = false → exec (.stepTest t) s = .next { a with
        pwr := { p with testDue := false, testOk := false, testRun := true, testAt := some a.clk.now } }) ∧
    ((s.frame.running = true ∧ (p.testDue = false ∨ p.testOk = false) ∨ s.frame.running = false ∧ a.testDue p.holdMv = false ∨
      s.churnRuns = true ∨ p.state = .holdup ∨ p.holdMv < 8000 ∨ p.testRun = true) → exec (.stepTest t) s = .next a) ∧
    (p.testRun = true → s.chargerRuns = false) ∧
    (∀ v0 v1 v2 v3, p.testRun = true → v2 < v1 → ∃ u : State, exec (.holdMeasured t v0 v1 v2 v3) s = .next u ∧ u.pwr.testRun = false ∧
      u.pwr.measured = true ∧ u.pwr.cTest = min 65535 (divRound 97600000 (v1 - v2)).toNat ∧
      u.pwr.esrTest = min 65535 (divRound (((v0 : Int) - v1) + ((v3 : Int) - v2)) 400).toNat ∧
      u.pwr.degraded = (decide (u.pwr.cTest < budget16 s.cfg.img 12 1000) || decide (budget16 s.cfg.img 14 200 < u.pwr.esrTest)) ∧
      u.pwr.absent = decide (u.pwr.cTest < 100) ∧ (u.pwr.absent = true → u.pwr.euUj = 0) ∧ (∀ w ∈ u.host.waits, w.kind ≠ .holdTest) ∧
      (s.frame.running = true → u.pwr.holdMv = p.holdMv ∧ u.pwr.charging = p.charging) ∧
      (s.frame.running = false → u.pwr.holdMv = v3 / 1000 ∧ u.pwr.charging = !s.fullAt (v3 / 1000))) ∧
    (∀ v0 v1 v2 v3, p.testRun = false → exec (.holdMeasured t v0 v1 v2 v3) s = .next a) ∧
    (p.ledgerOn = true → p.ledgerMv + 1000 ≤ p.holdMv → ∃ u : State, exec (.ledgerStep t) s = .next u ∧ u.pwr.ledgerNj = 0 ∧
      u.pwr.ledgerMv = p.holdMv ∧ u.pwr.cTest = p.cTest ∧
      (p.measured = true → 5 * (200 * p.ledgerNj / (p.holdMv * p.holdMv - p.ledgerMv * p.ledgerMv)) < 4 * p.cTest →
        u.pwr.testDue = true ∧ u.pwr.cLedger = some (200 * p.ledgerNj / (p.holdMv * p.holdMv - p.ledgerMv * p.ledgerMv)))) ∧
    ((p.ledgerOn = false ∨ p.holdMv < p.ledgerMv + 1000) → exec (.ledgerStep t) s = .next a) ∧
    (∀ x, p.chargeFrom = some x → x + 30000000000 ≤ a.clk.now → p.holdMv < 8000 → p.absent = false → exec (.holdAbsent t) s =
      .next (({ a with pwr := { p with absent := true, euUj := 0 } } : State).logNode 0x0A05 6 s.cUse 0)) ∧
    ((p.chargeFrom = none ∨ 8000 ≤ p.holdMv) → exec (.holdAbsent t) s = .next a) ∧
    (∀ m, m < budget16 s.cfg.img 4 800 → exec (.inputPeakLimit t m) s = .next a) ∧
    (∀ m, let e := (m - budget16 s.cfg.img 4 800) * p.vshipMv / 1000; let k := min p.chargeGrant ((e * 9 + 9) / 10)
      (a.peakLimit m).pwr.chargeGrant = p.chargeGrant - k ∧ (a.peakLimit m).pwr.peakCut = p.peakCut + k ∧
      (a.peakLimit m).pwr.peakHold = e - k * 10 / 9 ∧ (a.peakLimit m).pwr.inputLimited = true ∧ (a.peakLimit m).pwr.lastPeak = p.lastPeak ∧
      (a.peakLimit m).outs = s.outs ∧ (a.peakLimit m).log = s.log) ∧
    (∀ m, budget16 s.cfg.img 4 800 ≤ m → (∀ x, p.lastPeak = some x → x + 60000000000 ≤ a.clk.now) → exec (.inputPeakLimit t m) s =
      .next (({ a.peakLimit m with pwr := { (a.peakLimit m).pwr with lastPeak := some a.clk.now } } : State).logNode 0x0A0B 4 m 0)) ∧
    (∀ m x, budget16 s.cfg.img 4 800 ≤ m → p.lastPeak = some x → a.clk.now < x + 60000000000 → exec (.inputPeakLimit t m) s =
      .next (a.peakLimit m)) ∧
    (∀ n, (s.dissTop < p.dissF ∨ (s.inputTop : Rat) < p.inF ∨ p.headgateOver = true) →
      (∀ x, p.lastShed = some x → x + 100000000 ≤ a.clk.now) → s.shedNext = some n → n < s.outs.length →
      let k := if s.dissTop < p.dissF then 2 else if (s.inputTop : Rat) < p.inF then 1 else p.overCeil
      ∃ u : State, exec (.outputShed t) s = .next (u.logEv 0x0A08 5 1 n (s.cfg.roles.get .chan n) k
        (downMw (if k = 1 then p.inF else p.dissF))) ∧ (u.out n).next = 0 ∧ (u.out n).budgetHeld = true ∧
      u.pwr = { p with shed := p.shed ++ [n], lastShed := some a.clk.now } ∧ u.log = s.log ∧ ∀ m, m ≠ n → u.out m = s.out m) ∧
    (p.dissF ≤ s.dissTop → p.inF ≤ s.inputTop → p.headgateOver = false → exec (.outputShed t) s = .next a) ∧
    (∀ x, p.lastShed = some x → a.clk.now < x + 100000000 → exec (.outputShed t) s = .next a) ∧
    (Executes s tag 0x0E05 f → u16At f.req 18 + byteAt f.req 20 ≤ resourceCount (byteAt f.req 17) → exec (.ioClaims t tag) s =
      .next (c.complete f .ok 0 (c.claimsOf f)).takeNext) ∧
    (Executes s tag 0x0E05 f → resourceCount (byteAt f.req 17) < u16At f.req 18 + byteAt f.req 20 → exec (.ioClaims t tag) s =
      .next (c.complete f .badField 18 []).takeNext) ∧
    (Executes s tag 0x0E04 f → s.aoOn f.unit = true → s.aoField f.unit 2 1 = 0 → exec (.ioAoCommand t tag) s =
      .next (c.addLive (.aoCommand f.unit (byteAt f.req 16)) f).takeNext) ∧
    (Executes s tag 0x0E04 f → (s.aoOn f.unit = false ∨ s.aoField f.unit 2 1 ≠ 0) → exec (.ioAoCommand t tag) s =
      .next (c.complete f .badField 8 []).takeNext)

/-- R401, R402, R407, R412, R414 to R416, R422: the display's requests, its charge pump, its waveforms and its blinking. -/
def Obligations.DisplayEngine : Prop :=
  ∀ (s : State) (t tag : Nat) (f : Flight), let a := s.advance t; let c := s.acting t; let d := s.disp; let m := s.regionMask f.unit
    (Executes s tag 0x0B04 f → s.regionOn f.unit = true → s.dispField f.unit 4 1 = 0 → d.tempOut = false →
      (∀ w, (s.region f.unit).run = some w → w.toggle = true) → (s.region f.unit).toggle = none → exec (.dispRefresh t tag) s =
      .next (({ c with disp := { d with queue := d.queue ++ [DispReq.mk f.unit (m &&& ~~~d.unknown)
        (d.dark &&& (m &&& ~~~d.unknown) &&& ~~~d.blink) (d.blink &&& (m &&& ~~~d.unknown)) false (d.blink &&& (m &&& ~~~d.unknown))] } } :
          State).wait f (.nextFrame (le8 0 ++ le8 0 ++ zeros 2))).takeNext) ∧
    (∀ x y z, Executes s tag 0x0B03 f → s.regionOn f.unit = true → s.dispField f.unit 4 1 = 0 → d.tempOut = false →
      (f.req.drop 16).take 72 = cellBytes x ++ cellBytes y ++ cellBytes z → x &&& ~~~m = 0 → y &&& ~~~x = 0 → z &&& ~~~x = 0 → z &&& y = 0 →
      ((∀ w, (s.region f.unit).run = some w → w.toggle = true) → (s.region f.unit).toggle = none → exec (.dispUpdate t tag) s =
        .next (({ c with disp := { d with queue := d.queue ++ [DispReq.mk f.unit x y z false 0] } } : State).wait f
          (.nextFrame (le8 0 ++ le8 0 ++ zeros 2))).takeNext) ∧
      (((∃ w, (s.region f.unit).run = some w ∧ w.toggle = false) ∨ (s.region f.unit).toggle ≠ none) →
        (∀ q ∈ d.queue, q.waiting = true → q.region = f.unit → q.cells &&& x = 0) →
        let n := (d.queue.filter (fun q => q.waiting)).length
        (n < 8 → exec (.dispUpdate t tag) s = .next (({ c with disp := { d with queue := d.queue ++ [DispReq.mk f.unit x y z true 0] } } :
          State).wait f (.nextFrame (le8 (n + 1) ++ le8 0 ++ zeros 2))).takeNext) ∧
        (8 ≤ n → exec (.dispUpdate t tag) s = .next (c.complete f .queueFull 0 []).takeNext))) ∧
    ((s.regionOn f.unit = false ∨ s.dispField f.unit 4 1 ≠ 0) →
      (Executes s tag 0x0B03 f → exec (.dispUpdate t tag) s = .next (c.complete f .badField 8 []).takeNext) ∧
      (Executes s tag 0x0B04 f → exec (.dispRefresh t tag) s = .next (c.complete f .badField 8 []).takeNext)) ∧
    (Executes s tag 0x0B04 f → s.regionOn f.unit = true → s.dispField f.unit 4 1 = 0 → d.tempOut = true → exec (.dispRefresh t tag) s =
      .next (c.complete f .hwFault 1 []).takeNext) ∧
    (Executes s tag 0x0B05 f → exec (.dispStatus t tag) s = .next (c.complete f .ok 0 (c.dispBytes.take 208)).takeNext) ∧
    (d.queue ≠ [] → d.tempOut = false → d.pump = .off → d.noStartUntil ≤ a.clk.now → exec (.pumpStart t) s =
      .next ({ a with disp := { d with pump := .starting a.clk.now, reenable := false } } : State).driveLands) ∧
    (∀ x, d.queue ≠ [] → d.tempOut = false → d.pump = .discharging x → d.noStartUntil ≤ a.clk.now → exec (.pumpStart t) s =
      .next ({ a with disp := { d with reenable := true } } : State).driveLands) ∧
    (a.clk.now < d.noStartUntil → ∃ u : State, exec (.pumpStart t) s = .next u ∧ u.disp.pump = d.pump ∧ u.disp.reenable = d.reenable) ∧
    ((d.queue = [] ∨ d.tempOut = true) → d.busy = false → exec (.pumpStart t) s = .next a) ∧
    (∀ x vp vn, d.pump = .starting x → x + 20000000 ≤ a.clk.now → (s.railOk vp = false ∨ 0 < vn ∨ s.railOk vn.natAbs = false) →
      exec (.dispPumpFault t vp vn) s = .next ((({ a with disp := { d with
        pump := .discharging (a.clk.now + 30000000), idleSince := none, fault := true, noStartUntil := a.clk.now + 10000000000,
        reenable := false, cellRun := none, cellPend := d.cellLeft } } : State).logNode
        0x0B03 5 vp (twos 32 vn)).driveLands)) ∧
    (∀ x vp vn, d.pump = .starting x → (a.clk.now < x + 20000000 ∨ (s.railOk vp = true ∧ vn ≤ 0 ∧ s.railOk vn.natAbs = true)) →
      exec (.dispPumpFault t vp vn) s = .next a) ∧
    (∀ v, s.railOk v = true ↔ 9 * (s.dispField 8 4 2 * 10) ≤ 10 * v ∧ 10 * v ≤ 11 * (s.dispField 8 4 2 * 10)) ∧
    (∀ vp vn, (d.pump = .off ∨ d.pump = .on) → exec (.dispPumpFault t vp vn) s = .next a) ∧
    (s.frame.running = true →
      (∀ x, d.pump = .on → d.busy = false → d.idleSince = some x → x + 5000000000 ≤ a.clk.now → exec (.pumpShutdown t) s =
        .next ({ a with disp := { d with pump := .discharging (a.clk.now + 30000000), idleSince := none } } : State).driveLands) ∧
      (∀ x, d.pump = .on → (d.busy = true ∨ (d.idleSince = some x ∧ a.clk.now < x + 5000000000)) → ∃ u : State,
        exec (.pumpShutdown t) s = .next u ∧ u.disp.pump = .on) ∧
      (∀ x, d.pump = .discharging x → x ≤ a.clk.now → exec (.pumpDischargeEnd t) s =
        .next ({ a with disp := { d with pump := .off } } : State).driveLands) ∧
      (d.pump = .off → exec (.pumpShutdown t) s = .next a.driveLands ∧
        a.driveLands.disp.seg = List.replicate 192 5 ∧ a.driveLands.disp.tpl = 5)) ∧
    (s.frame.running = false → s.rst.dueAt = none →
      (∀ k, d.pump = .on → d.cellRun = some k → k.ends ≤ a.clk.now → a.clk.now < k.ends + 30000000 → ∃ u : State,
        exec (.pumpShutdown t) s = .next u ∧ u.disp.pump = .discharging (k.ends + 30000000) ∧ u.disp.cellRun = none ∧
        u.disp.cellDark = k.dark ∧ u.disp.dark.getLsbD 191 = k.dark ∧ u.disp.unknown.getLsbD 191 = false ∧
        (s.pwr.banksPend = true → u.pwr.banksPend = false)) ∧
      (∀ x, d.pump = .discharging x → x ≤ a.clk.now → a.clk.now ≤ x + 20000000 → d.cellRun = none → ∃ u : State,
        exec (.pumpDischargeEnd t) s = .next u ∧ u.disp.pump = (if d.reenable = true then .starting x else .off))) ∧
    (∀ r, r < 8 → r < d.regions.length → s.frame.running = true → s.frame.nextTick ≤ a.clk.now → s.regionFree r = true →
      (s.region r).endedAt < a.clk.now →
      (∀ q, (s.region r).toggle = none → d.tempOut = false → d.oldest r = some q → (s.region r).granted = some false →
        (d.pump = .on → ∃ u : State, ∃ w : DispRun, exec (.waveformStart t r) s = .next u ∧ (u.region r).run = some w ∧
          w.cells = q.cells ∧ w.dark = (q.dark &&& ~~~q.keep) ||| (d.dark &&& q.keep) ∧ w.blink = q.blink ∧ w.toggle = false ∧
          w.band = d.useBand ∧ w.start = a.clk.now ∧ u.disp.queue = d.queue.erase q ∧ u.disp.dark = d.dark) ∧
        (d.pump = .off → d.noStartUntil ≤ a.clk.now → ∃ u : State, exec (.waveformStart t r) s = .next u ∧
          u.disp.pump = .starting a.clk.now ∧ u.disp.regions = d.regions ∧ u.disp.queue = d.queue)) ∧
      (∀ x k, (s.region r).toggle = some (x, k) → (s.blinkClass0 r = true ∨ (s.region r).granted = some true) → d.pump = .on →
        ∃ u : State, ∃ w : DispRun, exec (.waveformStart t r) s = .next u ∧ (u.region r).run = some w ∧ (u.region r).toggle = none ∧
          w.cells = x ∧ w.dark = (if k = true then x else 0) ∧ w.toggle = true ∧ w.start = a.clk.now ∧ u.disp.queue = d.queue) ∧
      ((s.region r).toggle = none → (d.tempOut = true ∨ d.oldest r = none ∨ (s.region r).granted ≠ some false) →
        exec (.waveformStart t r) s = .next a.driveLands)) ∧
    (∀ r x, r < 8 → (s.region r).run = some x → ∃ u : State, exec (.waveformStart t r) s = .next u ∧ u.disp.regions = d.regions ∧
      u.disp.queue = d.queue) ∧
    (∀ r, r < 8 → (s.frame.running = false ∨ a.clk.now < s.frame.nextTick) → exec (.waveformStart t r) s = .next a) ∧
    (∀ r w, r < 8 → r < d.regions.length → (s.region r).run = some w → w.ends ≤ a.clk.now → w.reband = false → ∃ u : State,
      exec (.waveformEnd t r) s = .next u ∧ (u.region r).run = none ∧
        u.disp.dark = (d.dark &&& ~~~w.driven) ||| (w.dark &&& w.driven) ∧ u.disp.unknown = d.unknown &&& ~~~w.driven ∧
        u.disp.blink = (if w.toggle = true then d.blink else (d.blink &&& ~~~w.cells) ||| (w.blink &&& w.cells)) ∧
        (u.region r).updates = ((s.region r).updates + bit (!w.toggle)) % 4294967296 ∧ u.disp.queue = d.queue) ∧
    (∀ w : DispRun, w.driven = w.cells &&& (~~~w.blink ||| w.keep)) ∧
    (∀ r w, r < 8 → (s.region r).run = some w → a.clk.now < w.ends → exec (.waveformEnd t r) s = .next a.driveLands) ∧
    (∀ g, g < 4 → blinkPeriod s.cfg.img g = 0 → exec (.blinkToggle t g) s = .next a) ∧
    (∀ g, g < 4 → g < d.halves.length → blinkPeriod s.cfg.img g ≠ 0 → s.panelOn = true → s.pwr.state ≠ .standby →
      darkHalf (blinkPeriod s.cfg.img g) a.clk.base ≠ d.halves.getD g false → ∃ u : State, exec (.blinkToggle t g) s = .next u ∧
        u.disp.halves.getD g false = darkHalf (blinkPeriod s.cfg.img g) a.clk.base ∧ u.disp.dark = d.dark ∧ u.disp.queue = d.queue)

/-- R424 to R428, R438, R440, R445, Table 16.13: the SEC opcodes, and the erasure of RETURNED. -/
def Obligations.SecurityOpcodes : Prop :=
  ∀ (s : State) (t tag : Nat) (f : Flight), let a := s.acting t; let b := s.advance t; let x := s.sec; let n := byteAt f.req 16
    (Executes s tag 0x0C01 f → exec (.secStatus t tag) s = .next (a.complete f .ok 0 s.secStatus).takeNext) ∧
    (Executes s tag 0x0C02 f → exec (.secIdKey t tag) s =
      .next (a.complete f .ok 0 (uniqueBytes ++ publicKey x.idKey ++ x.certBytes)).takeNext) ∧
    (Executes s tag 0x0C03 f → exec (.secAttest t tag) s = .next (({ a with free := s.free + 1 } : State).complete f .ok 0
      (ecdsaSign x.idKey (Config.random32 s.free).toNat
        (f.payload.take 32 ++ uniqueBytes ++ le8 s.fwVer.1 ++ le8 s.fwVer.2 ++ le8 x.fusedVersion ++ le16 s.cfg.epoch))).takeNext) ∧
    (Executes s tag 0x0C04 f → x.life = .provisioned → (f.origin = .host ∨ f.origin = .mailbox) → byteAt f.req 17 = 0 → x.ownerKey n = none →
      leNat (sigAt f 68) = 0 → (f.noWait = false ∨ a.energyOk 2000 = true) → ∃ u : State, exec (.secOwnerKey t tag) s = .next (u.wait f (.nvm s.nvm.nextNum)).takeNext ∧
        u.sec = x ∧ ∃ o ∈ u.nvm.running.toList ++ u.nvm.waiting, o.num = s.nvm.nextNum ∧ o.kind = .keyChurn ∧ o.arg = 65536 + n * 256) ∧
    (Executes s tag 0x0C04 f → x.life = .fielded → let act := byteAt f.req 17
      (act = 0 → x.ownerKey n = none) → (act = 2 → leNat ((f.payload.drop 4).take 64) = 0) →
      (f.noWait = false ∨ a.energyOk 2000 = true) → ∃ u : State, exec (.secOwnerKey t tag) s = .next u.takeNext ∧
      (if x.ownerSigned (1 - n) (f.payload.take 68 ++ uniqueBytes ++ le16 s.cfg.epoch) ((f.payload.drop 68).take 64) = true
        then u.sec = x ∧ (∃ o ∈ u.nvm.running.toList ++ u.nvm.waiting, o.num = s.nvm.nextNum ∧ o.kind = .keyChurn ∧
            o.arg = 65536 + n * 256 + act) ∧ u.host.waits = s.host.waits ++ [(Wait.mk f (.nvm s.nvm.nextNum))]
        else u = a.complete f .notPermitted 2 [])) ∧
    (Executes s tag 0x0C04 f → x.life = .fielded → byteAt f.req 17 = 0 → x.ownerKey n ≠ none →
      exec (.secOwnerKey t tag) s = .next (a.complete f .notPermitted 2 []).takeNext) ∧
    (Executes s tag 0x0C04 f → byteAt f.req 17 = 2 → leNat ((f.payload.drop 4).take 64) ≠ 0 → exec (.secOwnerKey t tag) s =
      .next (a.complete f .badField 20 []).takeNext) ∧
    (Executes s tag 0x0C04 f → byteAt f.req 17 ≠ 2 → x.life = .provisioned → leNat (sigAt f 68) ≠ 0 → exec (.secOwnerKey t tag) s =
      .next (a.complete f .badField 84 []).takeNext) ∧
    (Executes s tag 0x0C04 f → byteAt f.req 17 ≠ 2 → (x.life = .blank ∨ x.life = .returned) → exec (.secOwnerKey t tag) s =
      .next (a.complete f .notPermitted 2 []).takeNext) ∧
    (Executes s tag 0x0C05 f → (f.noWait = false ∨ a.energyOk 2000 = true) → ∃ u : State, exec (.secBusKey t tag) s = .next u.takeNext ∧
      (if x.ownerSigned (byteAt f.req 17) (f.payload.take 128 ++ uniqueBytes) ((f.payload.drop 128).take 64) = true ∧
          (x.busKeyOf f).isSome = true
        then u.sec = x ∧ (∃ o ∈ u.nvm.running.toList ++ u.nvm.waiting, o.num = s.nvm.nextNum ∧ o.kind = .keyChurn ∧ o.arg / 65536 = 2) ∧
          u.host.waits = s.host.waits ++ [(Wait.mk f (.nvm s.nvm.nextNum))]
        else u = a.complete f .notPermitted 2 [])) ∧
    (Executes s tag 0x0C06 f → u32At f.req 20 ≠ 0x4649454C → exec (.secField t tag) s = .next (a.complete f .badField 20 []).takeNext) ∧
    (Executes s tag 0x0C06 f → u32At f.req 20 = 0x4649454C → x.ownerKey 0 = none → exec (.secField t tag) s =
      .next (a.complete f .notPermitted 2 []).takeNext) ∧
    (∀ k, Executes s tag 0x0C06 f → u32At f.req 20 = 0x4649454C → x.ownerKey 0 = some k → ∃ u : State, exec (.secField t tag) s = .next u ∧
      u.sec.life = .fielded ∧ u.sec.requireOwner = (x.requireOwner || tst n 0) ∧ u.sec.dbg.session = none ∧ u.sec.owner = x.owner) ∧
    (Executes s tag 0x0C07 f → ∃ u : State, exec (.secReturn t tag) s = .next u.takeNext ∧
      (if x.ownerSigned n (uniqueBytes ++ le32 0x52555445) ((f.payload.drop 4).take 64) = true
        then u.sec.life = .returned ∧ u.sec.erasure = some (1, 0) ∧ u.sec.update = none ∧ u.host.ready = false ∧
          u.sec.dbg.session = none ∧ u.host.queue = [] ∧ u.host.waits = [] ∧ u.live = [] ∧ u.cfg.commit = none ∧ u.log.closed = true ∧
          ∃ o ∈ u.nvm.running.toList ++ u.nvm.waiting, o.kind = .keyChurn ∧ o.arg = 0
        else u = a.complete f .notPermitted 2 [])) ∧
    (∀ y u, Executes s tag 0x0C08 f → x.dbg.session = some y → y.pendingUntil = some u → a.clk.now < u → exec (.secDebugConfirm t tag) s =
      .next (({ a with sec := { x with dbg := { x.dbg with session := some { y with level := .full, pendingUntil := none } } } } : State).complete
        f .ok 0 (le32 y.serial)).takeNext) ∧
    (Executes s tag 0x0C08 f → x.dbg.session = none → exec (.secDebugConfirm t tag) s = .next (a.complete f .notPermitted 1 []).takeNext) ∧
    (∀ y, Executes s tag 0x0C09 f → x.dbg.session = some y → ∃ u : State, exec (.secDebugEnd t tag) s = .next u ∧ u.sec.dbg.session = none ∧
      u.sec.life = x.life ∧ u.sec.owner = x.owner) ∧
    (∀ e, x.erasure = none → exec (.returnErasure t e) s = .next b) ∧
    (∀ e o, x.erasure = some (1, 0) → s.nvm.running = some o → o.kind = .keyChurn → o.arg = 0 → s.rst.clockLoss = none →
      (∀ w ∈ s.host.waits, w.kind ≠ .nvm o.num) → ∃ u : State, exec (.returnErasure t e) s = .next u ∧ u.sec.owner = [none, none] ∧
      u.sec.bus = [none, none, none, none] ∧ u.sec.erasure = some (2, 0) ∧ u.sec.life = x.life ∧
      ∃ o ∈ u.nvm.running.toList ++ u.nvm.waiting, o.kind = .eraseFirst) ∧
    (∀ o, s.nvm.running = some o → o.kind = .keyChurn → s.rst.clockLoss = none → (∀ w ∈ s.host.waits, w.kind ≠ .nvm o.num) →
      (∀ k, x.erasure ≠ some (4, k)) → x.dbg.extest = false →
      (∀ m v, o.arg = 65536 + m * 256 + v → m < 2 → v < 3 → s.lastOwner o = false → ∃ u : State, exec (.nvmOperationComplete t) s = .next u ∧
        u.sec = { x with owner := modAt x.owner m (fun _ => if v = 2 then none else some (BitVec.ofNat 512 (leNat (o.data.readList 0 64)))) }) ∧
      (∀ m v, o.arg = 131072 + m * 256 + v → m < 4 → v < 3 → ∃ u : State, exec (.nvmOperationComplete t) s = .next u ∧
        u.sec = { x with busNext := x.busNext ++ [(m, if v = 2 then none else some (BitVec.ofNat 256 (leNat (o.data.readList 0 32))))] }) ∧
      (o.arg = 196608 → x.life ≠ .blank → ∃ u : State, exec (.nvmOperationComplete t) s = .next u ∧ u.sec = x) ∧
      (o.arg = 196608 → x.life = .blank → ∃ u : State, exec (.nvmOperationComplete t) s = .next u ∧ u.sec.life = .provisioned ∧
        u.sec.identity = .made s.free (o.data.readList 0 64) ∧ u.sec.dbg.session = none ∧ u.sec.owner = x.owner) ∧
      (s.lastOwner o = true → ∃ u : State, exec (.nvmOperationComplete t) s = .next u ∧ u.sec = x))

/-- What the FW opcodes answer, wait for or are refused, each rewrite of the boot directory an operation of its own; the acceptance
of a trial by 600 s ARMED; and what the end of an NVM operation leaves, by the kind of the operation: an operation with a row of its
own for its end ends as that row says. -/
def Obligations.FirmwareOpcodes : Prop :=
  ∀ (s : State) (t tag : Nat) (f : Flight), let a := s.acting t; let b := s.advance t; let x := s.sec
    (s.fwErasing = true → let busy := Host.Outcome.next (a.complete f .busy f.origin.code []).takeNext
      (Executes s tag 0x0D01 f → exec (.fwInfo t tag) s = busy) ∧ (Executes s tag 0x0D02 f → exec (.fwBegin t tag) s = busy) ∧
      (Executes s tag 0x0D03 f → exec (.fwWrite t tag) s = busy) ∧ (Executes s tag 0x0D04 f → exec (.fwFinish t tag) s = busy) ∧
      (Executes s tag 0x0D05 f → exec (.fwActivate t tag) s = busy) ∧ (Executes s tag 0x0D06 f → exec (.fwAccept t tag) s = busy)) ∧
    (Executes s tag 0x0D01 f → s.fwErasing = false →
      (s.nvm.running = none → exec (.fwInfo t tag) s =
        .next (a.complete f .ok 0 (x.dirBytes ++ le8 x.running ++ le8 x.attempts ++ zeros 2)).takeNext) ∧
      (∀ o, s.nvm.running = some o → exec (.fwInfo t tag) s = .next (a.wait f (.nvm o.num)).takeNext)) ∧
    (Executes s tag 0x0D02 f → s.fwErasing = false → 256 ≤ u32At f.req 16 → u32At f.req 16 ≤ 2097152 → ∃ u : State,
      exec (.fwBegin t tag) s = .next (u.wait f (.nvm s.nvm.nextNum)).takeNext ∧
      u.sec = { x with update := some ({ slot := 1 - x.running, len := u32At f.req 16, eraseLeft := 512 } : FwUpdate) } ∧
      ∃ o ∈ u.nvm.running.toList ++ u.nvm.waiting, o.num = s.nvm.nextNum ∧ o.kind = .directory (.begin_ (1 - x.running))) ∧
    (Executes s tag 0x0D02 f → s.fwErasing = false → (u32At f.req 16 < 256 ∨ 2097152 < u32At f.req 16) → exec (.fwBegin t tag) s =
      .next (a.complete f .badField 16 []).takeNext) ∧
    (∀ v, Executes s tag 0x0D03 f → x.update = some v → v.eraseLeft = 0 → v.len < u32At f.req 16 + (f.payload.drop 4).length →
      exec (.fwWrite t tag) s = .next (a.complete f .busy f.origin.code []).takeNext) ∧
    (∀ v, Executes s tag 0x0D03 f → x.update = some v → v.eraseLeft = 0 → u32At f.req 16 + (f.payload.drop 4).length ≤ v.len → ∃ u : State,
      exec (.fwWrite t tag) s = .next (u.complete f .ok 0 []).takeNext ∧ ∃ w : FwUpdate, u.sec.update = some w ∧
        w.buffer = v.buffer.writeList (u32At f.req 16) (f.payload.drop 4) ∧ w.len = v.len ∧ w.slot = v.slot ∧ w.eraseLeft = 0 ∧
        w.mask = v.mask.writeList (u32At f.req 16) ((f.payload.drop 4).map (fun _ => (1 : Byte)))) ∧
    (Executes s tag 0x0D03 f → x.update = none → exec (.fwWrite t tag) s = .next (a.complete f .busy f.origin.code []).takeNext) ∧
    (∀ v, Executes s tag 0x0D04 f → x.update = some v → v.eraseLeft = 0 → ∃ u : State, ∃ k, exec (.fwFinish t tag) s =
      .next (u.wait f (.nvm k)).takeNext ∧ u.sec = x ∧ s.nvm.nextNum ≤ k ∧
      ∃ o ∈ u.nvm.running.toList ++ u.nvm.waiting, o.num = k ∧ o.kind = .firmware) ∧
    (Executes s tag 0x0D04 f → x.update = none → (x.slot (1 - x.running)).state = .incomplete → ∃ u : State,
      exec (.fwFinish t tag) s = .next (u.wait f (.nvm s.nvm.nextNum)).takeNext ∧ u.sec = x ∧
      ∃ o ∈ u.nvm.running.toList ++ u.nvm.waiting, o.num = s.nvm.nextNum ∧ o.kind = .directory (.failed (1 - x.running) 6)) ∧
    (Executes s tag 0x0D04 f → x.update = none → (x.slot (1 - x.running)).state ≠ .incomplete → exec (.fwFinish t tag) s =
      .next (a.complete f .notPermitted 1 []).takeNext) ∧
    (∀ n, Executes s tag 0x0D05 f → s.fwErasing = false → x.trialSlot = some n → ∃ u : State,
      exec (.fwActivate t tag) s = .next (u.wait f (.nvm s.nvm.nextNum)).takeNext ∧ u.sec = x ∧
      ∃ o ∈ u.nvm.running.toList ++ u.nvm.waiting, o.num = s.nvm.nextNum ∧ o.kind = .directory (.prefer n)) ∧
    (Executes s tag 0x0D05 f → s.fwErasing = false → x.trialSlot = none → exec (.fwActivate t tag) s =
      .next (a.complete f .notPermitted 1 []).takeNext) ∧
    (Executes s tag 0x0D06 f → s.fwErasing = false → s.onTrial = true → ∃ u : State,
      exec (.fwAccept t tag) s = .next (u.wait f (.nvm s.nvm.nextNum)).takeNext ∧ u.sec = x ∧
      ∃ o ∈ u.nvm.running.toList ++ u.nvm.waiting, o.num = s.nvm.nextNum ∧ o.kind = .directory .accept) ∧
    (Executes s tag 0x0D06 f → s.fwErasing = false → s.onTrial = false → exec (.fwAccept t tag) s =
      .next (a.complete f .notPermitted 1 []).takeNext) ∧
    (∀ y, s.pwr.armedSince = some y → s.onTrial = true → y + 600000000000 ≤ b.clk.now → s.acceptPending = false → ∃ u : State,
      exec (.fwAccepted t) s = .next u ∧ u.sec = x ∧ u.acceptPending = true) ∧
    ((s.acceptPending = true ∨ s.onTrial = false ∨ s.pwr.armedSince = none) → exec (.fwAccepted t) s = .next b) ∧
    (∀ y, s.pwr.armedSince = some y → b.clk.now < y + 600000000000 → exec (.fwAccepted t) s = .next b) ∧
    (s.nvm.running = none → (∀ k, x.erasure ≠ some (4, k)) → exec (.nvmOperationComplete t) s = .next b) ∧
    (∀ o, s.nvm.running = some o →
      (o.kind = .commitChurn → ∀ e : ChurnIn, e.t = t → e.failed = false → exec (.nvmOperationComplete t) s = exec (.commitChurn e) s) ∧
      (o.kind = .calChurn → exec (.nvmOperationComplete t) s = exec (.calibrationChurn t) s) ∧
      (o.kind = .logChurn → exec (.nvmOperationComplete t) s = exec (.logChurnComplete t) s) ∧
      ((o.kind = .clearSegment ∨ o.kind = .eraseFirst ∨ o.kind = .eraseSegment) →
        exec (.nvmOperationComplete t) s = exec (.logClearSegment t) s) ∧
      (o.kind = .eraseSector → s.frame.running = true → x.erasure ≠ none → ∀ e, exec (.nvmOperationComplete t) s = exec (.returnErasure t e) s)) ∧
    (∀ o, s.nvm.running = some o → s.rst.clockLoss = none → x.erasure = none → x.dbg.extest = false →
      (∀ w ∈ s.host.waits, w.kind ≠ .nvm o.num) →
      (∀ n, n < x.slots.length → o.kind = .directory (.begin_ n) → ∃ u : State, exec (.nvmOperationComplete t) s = .next u ∧
        (u.sec.slot n).state = .incomplete ∧ u.sec.dirSeq = (x.dirSeq + 1) % 4294967296 ∧ u.sec.dirAt = 1 - x.dirAt ∧
        u.sec.dirOld = some x.dirRec) ∧
      (∀ n, n < x.slots.length → o.kind = .directory (.trial n) → ∃ u : State, exec (.nvmOperationComplete t) s = .next u ∧
        (u.sec.slot n).state = .trial ∧ (u.sec.slot n).version = (x.slot n).data.u16 18 ∧ u.sec.attempts = 2 ∧ u.sec.update = none) ∧
      (∀ n k, n < x.slots.length → o.kind = .directory (.failed n k) → ∃ u : State, exec (.nvmOperationComplete t) s = .next u ∧
        (u.sec.slot n).state = .failed ∧ u.sec.update = none) ∧
      (∀ n, o.kind = .directory (.prefer n) → ∃ u : State, exec (.nvmOperationComplete t) s = .next u ∧ u.sec.preferred = n ∧
        (u.rst.dueAt.isSome = true ∨ u.rst.cause = 0x206)) ∧
      (o.kind = .directory .accept → s.onTrial = true → x.running < x.slots.length → ∃ u : State, exec (.nvmOperationComplete t) s = .next u ∧
        (u.sec.slot x.running).state = .valid ∧ u.sec.preferred = x.running ∧ u.sec.onTrial = false ∧
        u.sec.fusedVersion = max x.fusedVersion (x.slot x.running).version) ∧
      (∀ v, o.kind = .firmware → x.update = some v → o.arg = 0 → ∃ u : State, exec (.nvmOperationComplete t) s = .next u ∧
        u.sec.update = some { v with eraseLeft := v.eraseLeft - 1 }) ∧
      (∀ v, o.kind = .firmware → x.update = some v → 1 ≤ o.arg → o.arg ≤ 512 → v.slot < x.slots.length → ∃ u : State,
        exec (.nvmOperationComplete t) s = .next u ∧ u.sec.update = some v ∧
        (u.sec.slot v.slot).data = (x.slot v.slot).data.writeList (4096 * (o.arg - 1)) (v.buffer.readList (4096 * (o.arg - 1)) 4096)) ∧
      (∀ n, o.kind = .storeImage n → o.left ≤ 1 → n < s.cfg.slots.length → ∃ u : State, exec (.nvmOperationComplete t) s = .next u ∧
        u.cfg.slots.getD n [] = o.data ∧ u.sec = x) ∧
      (o.more = true → ∃ u : State, exec (.nvmOperationComplete t) s = .next u ∧ u.cfg = s.cfg ∧ u.sec = x ∧ u.host = s.host ∧
        ∃ p ∈ u.nvm.running.toList ++ u.nvm.waiting, p.num = o.num ∧ p.left = o.left - 1) ∧
      (o.kind = .flashRead → ∃ u : State, exec (.nvmOperationComplete t) s = .next u ∧ u.cfg = s.cfg ∧ u.sec = x ∧ u.host = s.host)) ∧
    (∀ o w, s.nvm.running = some o → (o.kind = .flashRead ∨ o.kind = .directory .accept ∨ ∃ n, o.kind = .directory (.begin_ n)) →
      x.erasure = none → x.dbg.extest = false → s.rst.clockLoss = none → s.host.waits = [w] → w.kind = .nvm o.num →
      (w.fl.opcode = 0x0307 ∨ w.fl.opcode = 0x0D01 ∨ w.fl.opcode = 0x0D02 ∨ w.fl.opcode = 0x0D06) → w.fl.id < 240 → ∃ u : State,
        exec (.nvmOperationComplete t) s = .next u ∧ u.host.waits = [] ∧ u.host.done.getLsbD w.fl.id = true)

/-- R434 to R440, R442, Tables 16.6 to 16.10: the test port, the mailbox and the debug session. -/
def Obligations.DebugPort : Prop :=
  ∀ (s : State) (t : Nat), let a := s.advance t; let d := s.sec.dbg; let g (x : DebugSt) : State := { a with sec := { s.sec with dbg := x } }
    (a.tapUp = true → d.extest = false →
      (exec (.idcode t) s = .next (g { d with instr := .idcode, dataOut := 0x164801F3 }) ∧
       exec (.bypass t) s = .next (g { d with instr := .bypass, dataOut := 0 }) ∧
       (∀ l w, s.boundaryOpen = true → exec (.samplePreload t l w) s = .next (g { d with instr := .sample, dataOut := l, boundary := w })) ∧
       (∀ l w, s.boundaryOpen = true → exec (.extest t l w) s =
         .next (g { d with instr := .extest, extest := true, dataOut := l, boundary := w })) ∧
       (∀ l w, s.boundaryOpen = false → exec (.extest t l w) s = .next (g { d with instr := .bypass, dataOut := 0 }) ∧
         exec (.samplePreload t l w) s = .next (g { d with instr := .bypass, dataOut := 0 })))) ∧
    (a.tapUp = false → exec (.idcode t) s = .next a ∧ exec (.bypass t) s = .next a ∧ exec (.hello t) s = .next a) ∧
    (a.tapUp = true → d.extest = true → ∃ u : State, exec (.idcode t) s = .next u ∧ u.pwr.state = .starting ∧ u.rst.cause % 256 = 7) ∧
    (a.tapUp = true → d.extest = false → d.ignoreUntil ≤ a.clk.now → ∃ u : State, exec (.hello t) s = .next u ∧ u.free = s.free + 2 ∧
      (∃ k, u.sec.dbg.challenge = some (Config.random32 s.free, k)) ∧ ∃ m, u.sec.dbg.out = d.out ++ [(2, m)]) ∧
    (a.tapUp = true → d.extest = false → a.clk.now < d.ignoreUntil → exec (.hello t) s = .next (g { d with instr := .mailbox })) ∧
    (∀ l c p, a.tapUp = true → d.extest = false → d.session = none → (s.sec.life = .blank ∨ s.sec.life = .provisioned) → s.pwr.state = .safe → ∃ u : State,
      exec (.auth t l c p) s = .next u ∧ u.sec.dbg.challenge = none ∧
      (u.sec.dbg.session.isSome = true ↔ byteAt c 8 = 0 ∧ certForm c = true ∧
        ecdsaVerify (leBytes 64 Config.rootKey.toNat) (c.take 128) (c.drop 128) = true ∧ (c.drop 16).take 16 = uniqueBytes ∧
        lifeBit c s.sec.life = true ∧ (l = 1 ∨ l = 2) ∧ l ≤ byteAt c 6 ∧ (s.sec.life = .provisioned → a.timeQuality ≠ 4) ∧
        (a.timeQuality ≠ 4 → tsUs (u64At c 32) ≤ a.clk.base / 1000 ∧ a.clk.base / 1000 ≤ tsUs (u64At c 40)) ∧
        ∃ z ∈ d.challenge.toList, ecdsaVerify ((c.drop 48).take 64) (leBytes 32 z.1.toNat ++ publicKey z.2 ++ c ++ le8 l) p = true) ∧
      ∀ y, u.sec.dbg.session = some y → y.level = (if l = 1 then .observe else .full) ∧ y.pendingUntil = none ∧
        y.serial = u32At c 12 ∧ y.counter = 0) ∧
    (∀ l c p y, a.tapUp = true → d.extest = false → d.session = some y → ∃ u : State, exec (.auth t l c p) s = .next u ∧
      u.sec.dbg.session = some y ∧ u.sec.dbg.out = d.out ++ [(4, le8 10 ++ zeros 2)] ∧ u.sec.dbg.challenge = none) ∧
    (∀ q r c y, a.tapUp = true → d.extest = false → d.session = some y → y.mac (mboxMsg 5 r) = c → s.inFlight (256 + q % 256) = false →
      exec (.mailboxCulvert t q r c) s = .next ((g { d with instr := .mailbox, session := some { y with lastOp := a.clk.now } }).submit
        { id := 256 + q % 256, origin := .mailbox, req := padTo 256 (r.take 256) })) ∧
    (∀ q r c y, a.tapUp = true → d.extest = false → d.session = some y → y.mac (mboxMsg 5 r) ≠ c → y.wrongTags < 2 →
      exec (.mailboxCulvert t q r c) s = .next (g { d with instr := .mailbox, session := some { y with wrongTags := y.wrongTags + 1 } })) ∧
    (∀ c y, a.tapUp = true → d.extest = false → d.session = some y → y.mac (mboxMsg 6 []) = c → ∃ u : State, exec (.mboxEnd t c) s = .next u ∧
      u.sec.dbg.session = none ∧ u.sec.dbg.out = []) ∧
    (∀ ad c y, a.tapUp = true → d.extest = false → d.session = some y → y.mac (accessMsg 1 ad 0 y) = c → y.level = .observe → 0 < ad / 268435456 % 16 →
      exec (.dbgAccessRead t ad c) s = .next (g { d with
        instr := .access, accessOut := 0,
        session := some { y with lastOp := a.clk.now, counter := (y.counter + 1) % 4294967296 } })) ∧
    (∀ ad w k c y, a.tapUp = true → d.extest = false → d.session = some y → y.mac (accessMsg 2 ad w y) = c → y.level = .full →
      ad / 268435456 % 16 = 1 → ∃ u : State, exec (.dbgAccessWrite t ad w k c) s = .next u ∧
        (1, ad % 268435456, w % 4294967296) ∈ u.sec.dbg.words ∧ u.frame = s.frame ∧ u.host = s.host) ∧
    (∀ ad w k c y, a.tapUp = true → d.extest = false → d.session = some y → y.mac (accessMsg 2 ad w y) = c → y.level = .full →
      ad / 268435456 % 16 = 3 → k < 3 → tst d.halted k = false → tst d.haltPend k = false → ∃ u : State,
        exec (.dbgAccessWrite t ad w (.halt k) c) s = .next u ∧ u.sec.dbg.halted = (if s.pwr.state = .armed then d.halted else d.halted + 2 ^ k) ∧
        u.sec.dbg.haltPend = (if s.pwr.state = .armed then d.haltPend + 2 ^ k else d.haltPend)) ∧
    (∀ ad w k c y, a.tapUp = true → d.extest = false → d.session = some y → y.mac (accessMsg 2 ad w y) = c → y.level = .full →
      ad / 268435456 % 16 = 3 → s.sec.life = .blank → ∃ u : State, exec (.dbgAccessWrite t ad w (.provision k) c) s = .next u ∧
        ∃ o ∈ u.nvm.running.toList ++ u.nvm.waiting, o.num = s.nvm.nextNum ∧ o.kind = .keyChurn ∧ o.arg = 196608) ∧
    (∀ ad w k c y, a.tapUp = true → d.extest = false → d.session = some y → y.mac (accessMsg 2 ad w y) = c → y.level ≠ .full →
      ∃ u : State, exec (.dbgAccessWrite t ad w k c) s = .next u ∧ u.sec.dbg.words = d.words ∧ u.sec.dbg.halted = d.halted) ∧
    (∀ ad c y, a.tapUp = true → d.extest = false → d.session = some y → y.mac (accessMsg 3 ad 0 y) = c → exec (.dbgAccessStatus t ad c) s =
      .next (g { d with
        instr := .access, accessOut := y.level.code + (if y.pendingUntil.isSome then 256 else 0),
        session := some { y with lastOp := a.clk.now, counter := (y.counter + 1) % 4294967296 } })) ∧
    (∀ y, d.session = some y → y.lastOp + 600000000000 ≤ a.clk.now → ∃ u : State, exec (.secSessionEnd t) s = .next u ∧
      u.sec.dbg.session = none) ∧
    (d.session = none → exec (.secSessionEnd t) s = .next a) ∧
    (∀ y u, d.session = some y → y.pendingUntil = some u → u ≤ a.clk.now → exec (.fullPendingLapse t) s =
      .next (g { d with session := some { y with pendingUntil := none } })) ∧
    (∀ y u, d.session = some y → y.pendingUntil = some u → a.clk.now < u → exec (.fullPendingLapse t) s = .next a)
end

