-- ==== Sys2Proof/Laws/State.lean ====
section
/-!
SUPPORT. What the updates of the state leave in each of its fields, each true by definition.
-/

namespace Sys2Proof.Machine

open Sys2Proof

/-! `advance` -/

theorem State.advance_clk (s : State) (t : Nat) : (s.advance t).clk = s.clk.run (t - s.clk.now) := rfl
@[simp] theorem State.advance_frame (s : State) (t : Nat) : (s.advance t).frame = s.frame := rfl
@[simp] theorem State.advance_host (s : State) (t : Nat) : (s.advance t).host = s.host := rfl
@[simp] theorem State.advance_cfg (s : State) (t : Nat) : (s.advance t).cfg = s.cfg := rfl
@[simp] theorem State.advance_nvm (s : State) (t : Nat) : (s.advance t).nvm = s.nvm := rfl
@[simp] theorem State.advance_log (s : State) (t : Nat) : (s.advance t).log = s.log := rfl
theorem State.advance_bkp (s : State) (t : Nat) : (s.advance t).bkp = s.bkp.run (t - s.clk.now) := rfl
@[simp] theorem State.advance_pwr (s : State) (t : Nat) : (s.advance t).pwr = s.pwr := rfl
@[simp] theorem State.advance_rst (s : State) (t : Nat) : (s.advance t).rst = s.rst := rfl
@[simp] theorem State.advance_bus (s : State) (t : Nat) : (s.advance t).bus = s.bus := rfl
@[simp] theorem State.advance_banks (s : State) (t : Nat) : (s.advance t).banks = s.banks := rfl
@[simp] theorem State.advance_chans (s : State) (t : Nat) : (s.advance t).chans = s.chans := rfl
@[simp] theorem State.advance_outs (s : State) (t : Nat) : (s.advance t).outs = s.outs := rfl
@[simp] theorem State.advance_modems (s : State) (t : Nat) : (s.advance t).modems = s.modems := rfl
@[simp] theorem State.advance_notch (s : State) (t : Nat) : (s.advance t).notch = s.notch := rfl
@[simp] theorem State.advance_cal (s : State) (t : Nat) : (s.advance t).cal = s.cal := rfl
@[simp] theorem State.advance_vib (s : State) (t : Nat) : (s.advance t).vib = s.vib := rfl
@[simp] theorem State.advance_eng (s : State) (t : Nat) : (s.advance t).eng = s.eng := rfl
@[simp] theorem State.advance_prev (s : State) (t : Nat) : (s.advance t).prev = s.prev := rfl
@[simp] theorem State.advance_frameRecs (s : State) (t : Nat) : (s.advance t).frameRecs = s.frameRecs := rfl
@[simp] theorem State.advance_frameMsgs (s : State) (t : Nat) : (s.advance t).frameMsgs = s.frameMsgs := rfl
@[simp] theorem State.advance_live (s : State) (t : Nat) : (s.advance t).live = s.live := rfl
@[simp] theorem State.advance_encs (s : State) (t : Nat) : (s.advance t).encs = s.encs := rfl
@[simp] theorem State.advance_disp (s : State) (t : Nat) : (s.advance t).disp = s.disp := rfl
@[simp] theorem State.advance_dis (s : State) (t : Nat) : (s.advance t).dis = s.dis := rfl
@[simp] theorem State.advance_aos (s : State) (t : Nat) : (s.advance t).aos = s.aos := rfl
@[simp] theorem State.advance_nok (s : State) (t : Nat) : (s.advance t).nok = s.nok := rfl
@[simp] theorem State.advance_sec (s : State) (t : Nat) : (s.advance t).sec = s.sec := rfl
@[simp] theorem State.advance_free (s : State) (t : Nat) : (s.advance t).free = s.free := rfl
@[simp] theorem State.advance_pending (s : State) (t : Nat) : (s.advance t).pending = s.pending := rfl

/-! `cause` -/

@[simp] theorem State.cause_clk (s : State) (i : Nat) : (s.cause i).clk = s.clk := rfl
@[simp] theorem State.cause_frame (s : State) (i : Nat) : (s.cause i).frame = s.frame := rfl
@[simp] theorem State.cause_host (s : State) (i : Nat) : (s.cause i).host = { s.host with irqStat := s.host.irqStat ||| (1#32 <<< i) } := rfl
@[simp] theorem State.cause_cfg (s : State) (i : Nat) : (s.cause i).cfg = s.cfg := rfl
@[simp] theorem State.cause_nvm (s : State) (i : Nat) : (s.cause i).nvm = s.nvm := rfl
@[simp] theorem State.cause_log (s : State) (i : Nat) : (s.cause i).log = s.log := rfl
@[simp] theorem State.cause_bkp (s : State) (i : Nat) : (s.cause i).bkp = s.bkp := rfl
@[simp] theorem State.cause_pwr (s : State) (i : Nat) : (s.cause i).pwr = s.pwr := rfl
@[simp] theorem State.cause_rst (s : State) (i : Nat) : (s.cause i).rst = s.rst := rfl
@[simp] theorem State.cause_bus (s : State) (i : Nat) : (s.cause i).bus = s.bus := rfl
@[simp] theorem State.cause_banks (s : State) (i : Nat) : (s.cause i).banks = s.banks := rfl
@[simp] theorem State.cause_chans (s : State) (i : Nat) : (s.cause i).chans = s.chans := rfl
@[simp] theorem State.cause_outs (s : State) (i : Nat) : (s.cause i).outs = s.outs := rfl
@[simp] theorem State.cause_modems (s : State) (i : Nat) : (s.cause i).modems = s.modems := rfl
@[simp] theorem State.cause_notch (s : State) (i : Nat) : (s.cause i).notch = s.notch := rfl
@[simp] theorem State.cause_cal (s : State) (i : Nat) : (s.cause i).cal = s.cal := rfl
@[simp] theorem State.cause_vib (s : State) (i : Nat) : (s.cause i).vib = s.vib := rfl
@[simp] theorem State.cause_eng (s : State) (i : Nat) : (s.cause i).eng = s.eng := rfl
@[simp] theorem State.cause_prev (s : State) (i : Nat) : (s.cause i).prev = s.prev := rfl
@[simp] theorem State.cause_frameRecs (s : State) (i : Nat) : (s.cause i).frameRecs = s.frameRecs := rfl
@[simp] theorem State.cause_frameMsgs (s : State) (i : Nat) : (s.cause i).frameMsgs = s.frameMsgs := rfl
@[simp] theorem State.cause_live (s : State) (i : Nat) : (s.cause i).live = s.live := rfl
@[simp] theorem State.cause_encs (s : State) (i : Nat) : (s.cause i).encs = s.encs := rfl
@[simp] theorem State.cause_disp (s : State) (i : Nat) : (s.cause i).disp = s.disp := rfl
@[simp] theorem State.cause_dis (s : State) (i : Nat) : (s.cause i).dis = s.dis := rfl
@[simp] theorem State.cause_aos (s : State) (i : Nat) : (s.cause i).aos = s.aos := rfl
@[simp] theorem State.cause_nok (s : State) (i : Nat) : (s.cause i).nok = s.nok := rfl
@[simp] theorem State.cause_sec (s : State) (i : Nat) : (s.cause i).sec = s.sec := rfl
@[simp] theorem State.cause_free (s : State) (i : Nat) : (s.cause i).free = s.free := rfl
@[simp] theorem State.cause_pending (s : State) (i : Nat) : (s.cause i).pending = s.pending := rfl

/-! `wait` -/

@[simp] theorem State.wait_clk (s : State) (f : Flight) (k : WaitKind) : (s.wait f k).clk = s.clk := rfl
@[simp] theorem State.wait_frame (s : State) (f : Flight) (k : WaitKind) : (s.wait f k).frame = s.frame := rfl
@[simp] theorem State.wait_host (s : State) (f : Flight) (k : WaitKind) : (s.wait f k).host = { s.host with waits := s.host.waits ++ [⟨f, k⟩] } := rfl
@[simp] theorem State.wait_cfg (s : State) (f : Flight) (k : WaitKind) : (s.wait f k).cfg = s.cfg := rfl
@[simp] theorem State.wait_nvm (s : State) (f : Flight) (k : WaitKind) : (s.wait f k).nvm = s.nvm := rfl
@[simp] theorem State.wait_log (s : State) (f : Flight) (k : WaitKind) : (s.wait f k).log = s.log := rfl
@[simp] theorem State.wait_bkp (s : State) (f : Flight) (k : WaitKind) : (s.wait f k).bkp = s.bkp := rfl
@[simp] theorem State.wait_pwr (s : State) (f : Flight) (k : WaitKind) : (s.wait f k).pwr = s.pwr := rfl
@[simp] theorem State.wait_rst (s : State) (f : Flight) (k : WaitKind) : (s.wait f k).rst = s.rst := rfl
@[simp] theorem State.wait_bus (s : State) (f : Flight) (k : WaitKind) : (s.wait f k).bus = s.bus := rfl
@[simp] theorem State.wait_banks (s : State) (f : Flight) (k : WaitKind) : (s.wait f k).banks = s.banks := rfl
@[simp] theorem State.wait_chans (s : State) (f : Flight) (k : WaitKind) : (s.wait f k).chans = s.chans := rfl
@[simp] theorem State.wait_outs (s : State) (f : Flight) (k : WaitKind) : (s.wait f k).outs = s.outs := rfl
@[simp] theorem State.wait_modems (s : State) (f : Flight) (k : WaitKind) : (s.wait f k).modems = s.modems := rfl
@[simp] theorem State.wait_notch (s : State) (f : Flight) (k : WaitKind) : (s.wait f k).notch = s.notch := rfl
@[simp] theorem State.wait_cal (s : State) (f : Flight) (k : WaitKind) : (s.wait f k).cal = s.cal := rfl
@[simp] theorem State.wait_vib (s : State) (f : Flight) (k : WaitKind) : (s.wait f k).vib = s.vib := rfl
@[simp] theorem State.wait_eng (s : State) (f : Flight) (k : WaitKind) : (s.wait f k).eng = s.eng := rfl
@[simp] theorem State.wait_prev (s : State) (f : Flight) (k : WaitKind) : (s.wait f k).prev = s.prev := rfl
@[simp] theorem State.wait_frameRecs (s : State) (f : Flight) (k : WaitKind) : (s.wait f k).frameRecs = s.frameRecs := rfl
@[simp] theorem State.wait_frameMsgs (s : State) (f : Flight) (k : WaitKind) : (s.wait f k).frameMsgs = s.frameMsgs := rfl
@[simp] theorem State.wait_live (s : State) (f : Flight) (k : WaitKind) : (s.wait f k).live = s.live := rfl
@[simp] theorem State.wait_encs (s : State) (f : Flight) (k : WaitKind) : (s.wait f k).encs = s.encs := rfl
@[simp] theorem State.wait_disp (s : State) (f : Flight) (k : WaitKind) : (s.wait f k).disp = s.disp := rfl
@[simp] theorem State.wait_dis (s : State) (f : Flight) (k : WaitKind) : (s.wait f k).dis = s.dis := rfl
@[simp] theorem State.wait_aos (s : State) (f : Flight) (k : WaitKind) : (s.wait f k).aos = s.aos := rfl
@[simp] theorem State.wait_nok (s : State) (f : Flight) (k : WaitKind) : (s.wait f k).nok = s.nok := rfl
@[simp] theorem State.wait_sec (s : State) (f : Flight) (k : WaitKind) : (s.wait f k).sec = s.sec := rfl
@[simp] theorem State.wait_free (s : State) (f : Flight) (k : WaitKind) : (s.wait f k).free = s.free := rfl
@[simp] theorem State.wait_pending (s : State) (f : Flight) (k : WaitKind) : (s.wait f k).pending = s.pending := rfl

/-! `modPwr` -/

@[simp] theorem State.modPwr_clk (s : State) (f : PowerSt → PowerSt) : (s.modPwr f).clk = s.clk := rfl
@[simp] theorem State.modPwr_frame (s : State) (f : PowerSt → PowerSt) : (s.modPwr f).frame = s.frame := rfl
@[simp] theorem State.modPwr_host (s : State) (f : PowerSt → PowerSt) : (s.modPwr f).host = s.host := rfl
@[simp] theorem State.modPwr_cfg (s : State) (f : PowerSt → PowerSt) : (s.modPwr f).cfg = s.cfg := rfl
@[simp] theorem State.modPwr_nvm (s : State) (f : PowerSt → PowerSt) : (s.modPwr f).nvm = s.nvm := rfl
@[simp] theorem State.modPwr_log (s : State) (f : PowerSt → PowerSt) : (s.modPwr f).log = s.log := rfl
@[simp] theorem State.modPwr_bkp (s : State) (f : PowerSt → PowerSt) : (s.modPwr f).bkp = s.bkp := rfl
@[simp] theorem State.modPwr_pwr (s : State) (f : PowerSt → PowerSt) : (s.modPwr f).pwr = f s.pwr := rfl
@[simp] theorem State.modPwr_rst (s : State) (f : PowerSt → PowerSt) : (s.modPwr f).rst = s.rst := rfl
@[simp] theorem State.modPwr_bus (s : State) (f : PowerSt → PowerSt) : (s.modPwr f).bus = s.bus := rfl
@[simp] theorem State.modPwr_banks (s : State) (f : PowerSt → PowerSt) : (s.modPwr f).banks = s.banks := rfl
@[simp] theorem State.modPwr_chans (s : State) (f : PowerSt → PowerSt) : (s.modPwr f).chans = s.chans := rfl
@[simp] theorem State.modPwr_outs (s : State) (f : PowerSt → PowerSt) : (s.modPwr f).outs = s.outs := rfl
@[simp] theorem State.modPwr_modems (s : State) (f : PowerSt → PowerSt) : (s.modPwr f).modems = s.modems := rfl
@[simp] theorem State.modPwr_notch (s : State) (f : PowerSt → PowerSt) : (s.modPwr f).notch = s.notch := rfl
@[simp] theorem State.modPwr_cal (s : State) (f : PowerSt → PowerSt) : (s.modPwr f).cal = s.cal := rfl
@[simp] theorem State.modPwr_vib (s : State) (f : PowerSt → PowerSt) : (s.modPwr f).vib = s.vib := rfl
@[simp] theorem State.modPwr_eng (s : State) (f : PowerSt → PowerSt) : (s.modPwr f).eng = s.eng := rfl
@[simp] theorem State.modPwr_prev (s : State) (f : PowerSt → PowerSt) : (s.modPwr f).prev = s.prev := rfl
@[simp] theorem State.modPwr_frameRecs (s : State) (f : PowerSt → PowerSt) : (s.modPwr f).frameRecs = s.frameRecs := rfl
@[simp] theorem State.modPwr_frameMsgs (s : State) (f : PowerSt → PowerSt) : (s.modPwr f).frameMsgs = s.frameMsgs := rfl
@[simp] theorem State.modPwr_live (s : State) (f : PowerSt → PowerSt) : (s.modPwr f).live = s.live := rfl
@[simp] theorem State.modPwr_encs (s : State) (f : PowerSt → PowerSt) : (s.modPwr f).encs = s.encs := rfl
@[simp] theorem State.modPwr_disp (s : State) (f : PowerSt → PowerSt) : (s.modPwr f).disp = s.disp := rfl
@[simp] theorem State.modPwr_dis (s : State) (f : PowerSt → PowerSt) : (s.modPwr f).dis = s.dis := rfl
@[simp] theorem State.modPwr_aos (s : State) (f : PowerSt → PowerSt) : (s.modPwr f).aos = s.aos := rfl
@[simp] theorem State.modPwr_nok (s : State) (f : PowerSt → PowerSt) : (s.modPwr f).nok = s.nok := rfl
@[simp] theorem State.modPwr_sec (s : State) (f : PowerSt → PowerSt) : (s.modPwr f).sec = s.sec := rfl
@[simp] theorem State.modPwr_free (s : State) (f : PowerSt → PowerSt) : (s.modPwr f).free = s.free := rfl
@[simp] theorem State.modPwr_pending (s : State) (f : PowerSt → PowerSt) : (s.modPwr f).pending = s.pending := rfl

/-! `modSec` -/

@[simp] theorem State.modSec_clk (s : State) (f : SecSt → SecSt) : (s.modSec f).clk = s.clk := rfl
@[simp] theorem State.modSec_frame (s : State) (f : SecSt → SecSt) : (s.modSec f).frame = s.frame := rfl
@[simp] theorem State.modSec_host (s : State) (f : SecSt → SecSt) : (s.modSec f).host = s.host := rfl
@[simp] theorem State.modSec_cfg (s : State) (f : SecSt → SecSt) : (s.modSec f).cfg = s.cfg := rfl
@[simp] theorem State.modSec_nvm (s : State) (f : SecSt → SecSt) : (s.modSec f).nvm = s.nvm := rfl
@[simp] theorem State.modSec_log (s : State) (f : SecSt → SecSt) : (s.modSec f).log = s.log := rfl
@[simp] theorem State.modSec_bkp (s : State) (f : SecSt → SecSt) : (s.modSec f).bkp = s.bkp := rfl
@[simp] theorem State.modSec_pwr (s : State) (f : SecSt → SecSt) : (s.modSec f).pwr = s.pwr := rfl
@[simp] theorem State.modSec_rst (s : State) (f : SecSt → SecSt) : (s.modSec f).rst = s.rst := rfl
@[simp] theorem State.modSec_bus (s : State) (f : SecSt → SecSt) : (s.modSec f).bus = s.bus := rfl
@[simp] theorem State.modSec_banks (s : State) (f : SecSt → SecSt) : (s.modSec f).banks = s.banks := rfl
@[simp] theorem State.modSec_chans (s : State) (f : SecSt → SecSt) : (s.modSec f).chans = s.chans := rfl
@[simp] theorem State.modSec_outs (s : State) (f : SecSt → SecSt) : (s.modSec f).outs = s.outs := rfl
@[simp] theorem State.modSec_modems (s : State) (f : SecSt → SecSt) : (s.modSec f).modems = s.modems := rfl
@[simp] theorem State.modSec_notch (s : State) (f : SecSt → SecSt) : (s.modSec f).notch = s.notch := rfl
@[simp] theorem State.modSec_cal (s : State) (f : SecSt → SecSt) : (s.modSec f).cal = s.cal := rfl
@[simp] theorem State.modSec_vib (s : State) (f : SecSt → SecSt) : (s.modSec f).vib = s.vib := rfl
@[simp] theorem State.modSec_eng (s : State) (f : SecSt → SecSt) : (s.modSec f).eng = s.eng := rfl
@[simp] theorem State.modSec_prev (s : State) (f : SecSt → SecSt) : (s.modSec f).prev = s.prev := rfl
@[simp] theorem State.modSec_frameRecs (s : State) (f : SecSt → SecSt) : (s.modSec f).frameRecs = s.frameRecs := rfl
@[simp] theorem State.modSec_frameMsgs (s : State) (f : SecSt → SecSt) : (s.modSec f).frameMsgs = s.frameMsgs := rfl
@[simp] theorem State.modSec_live (s : State) (f : SecSt → SecSt) : (s.modSec f).live = s.live := rfl
@[simp] theorem State.modSec_encs (s : State) (f : SecSt → SecSt) : (s.modSec f).encs = s.encs := rfl
@[simp] theorem State.modSec_disp (s : State) (f : SecSt → SecSt) : (s.modSec f).disp = s.disp := rfl
@[simp] theorem State.modSec_dis (s : State) (f : SecSt → SecSt) : (s.modSec f).dis = s.dis := rfl
@[simp] theorem State.modSec_aos (s : State) (f : SecSt → SecSt) : (s.modSec f).aos = s.aos := rfl
@[simp] theorem State.modSec_nok (s : State) (f : SecSt → SecSt) : (s.modSec f).nok = s.nok := rfl
@[simp] theorem State.modSec_sec (s : State) (f : SecSt → SecSt) : (s.modSec f).sec = f s.sec := rfl
@[simp] theorem State.modSec_free (s : State) (f : SecSt → SecSt) : (s.modSec f).free = s.free := rfl
@[simp] theorem State.modSec_pending (s : State) (f : SecSt → SecSt) : (s.modSec f).pending = s.pending := rfl

/-! `modBus` -/

@[simp] theorem State.modBus_clk (s : State) (f : BusSt → BusSt) : (s.modBus f).clk = s.clk := rfl
@[simp] theorem State.modBus_frame (s : State) (f : BusSt → BusSt) : (s.modBus f).frame = s.frame := rfl
@[simp] theorem State.modBus_host (s : State) (f : BusSt → BusSt) : (s.modBus f).host = s.host := rfl
@[simp] theorem State.modBus_cfg (s : State) (f : BusSt → BusSt) : (s.modBus f).cfg = s.cfg := rfl
@[simp] theorem State.modBus_nvm (s : State) (f : BusSt → BusSt) : (s.modBus f).nvm = s.nvm := rfl
@[simp] theorem State.modBus_log (s : State) (f : BusSt → BusSt) : (s.modBus f).log = s.log := rfl
@[simp] theorem State.modBus_bkp (s : State) (f : BusSt → BusSt) : (s.modBus f).bkp = s.bkp := rfl
@[simp] theorem State.modBus_pwr (s : State) (f : BusSt → BusSt) : (s.modBus f).pwr = s.pwr := rfl
@[simp] theorem State.modBus_rst (s : State) (f : BusSt → BusSt) : (s.modBus f).rst = s.rst := rfl
@[simp] theorem State.modBus_bus (s : State) (f : BusSt → BusSt) : (s.modBus f).bus = f s.bus := rfl
@[simp] theorem State.modBus_banks (s : State) (f : BusSt → BusSt) : (s.modBus f).banks = s.banks := rfl
@[simp] theorem State.modBus_chans (s : State) (f : BusSt → BusSt) : (s.modBus f).chans = s.chans := rfl
@[simp] theorem State.modBus_outs (s : State) (f : BusSt → BusSt) : (s.modBus f).outs = s.outs := rfl
@[simp] theorem State.modBus_modems (s : State) (f : BusSt → BusSt) : (s.modBus f).modems = s.modems := rfl
@[simp] theorem State.modBus_notch (s : State) (f : BusSt → BusSt) : (s.modBus f).notch = s.notch := rfl
@[simp] theorem State.modBus_cal (s : State) (f : BusSt → BusSt) : (s.modBus f).cal = s.cal := rfl
@[simp] theorem State.modBus_vib (s : State) (f : BusSt → BusSt) : (s.modBus f).vib = s.vib := rfl
@[simp] theorem State.modBus_eng (s : State) (f : BusSt → BusSt) : (s.modBus f).eng = s.eng := rfl
@[simp] theorem State.modBus_prev (s : State) (f : BusSt → BusSt) : (s.modBus f).prev = s.prev := rfl
@[simp] theorem State.modBus_frameRecs (s : State) (f : BusSt → BusSt) : (s.modBus f).frameRecs = s.frameRecs := rfl
@[simp] theorem State.modBus_frameMsgs (s : State) (f : BusSt → BusSt) : (s.modBus f).frameMsgs = s.frameMsgs := rfl
@[simp] theorem State.modBus_live (s : State) (f : BusSt → BusSt) : (s.modBus f).live = s.live := rfl
@[simp] theorem State.modBus_encs (s : State) (f : BusSt → BusSt) : (s.modBus f).encs = s.encs := rfl
@[simp] theorem State.modBus_disp (s : State) (f : BusSt → BusSt) : (s.modBus f).disp = s.disp := rfl
@[simp] theorem State.modBus_dis (s : State) (f : BusSt → BusSt) : (s.modBus f).dis = s.dis := rfl
@[simp] theorem State.modBus_aos (s : State) (f : BusSt → BusSt) : (s.modBus f).aos = s.aos := rfl
@[simp] theorem State.modBus_nok (s : State) (f : BusSt → BusSt) : (s.modBus f).nok = s.nok := rfl
@[simp] theorem State.modBus_sec (s : State) (f : BusSt → BusSt) : (s.modBus f).sec = s.sec := rfl
@[simp] theorem State.modBus_free (s : State) (f : BusSt → BusSt) : (s.modBus f).free = s.free := rfl
@[simp] theorem State.modBus_pending (s : State) (f : BusSt → BusSt) : (s.modBus f).pending = s.pending := rfl

/-! `modDisp` -/

@[simp] theorem State.modDisp_clk (s : State) (f : DispSt → DispSt) : (s.modDisp f).clk = s.clk := rfl
@[simp] theorem State.modDisp_frame (s : State) (f : DispSt → DispSt) : (s.modDisp f).frame = s.frame := rfl
@[simp] theorem State.modDisp_host (s : State) (f : DispSt → DispSt) : (s.modDisp f).host = s.host := rfl
@[simp] theorem State.modDisp_cfg (s : State) (f : DispSt → DispSt) : (s.modDisp f).cfg = s.cfg := rfl
@[simp] theorem State.modDisp_nvm (s : State) (f : DispSt → DispSt) : (s.modDisp f).nvm = s.nvm := rfl
@[simp] theorem State.modDisp_log (s : State) (f : DispSt → DispSt) : (s.modDisp f).log = s.log := rfl
@[simp] theorem State.modDisp_bkp (s : State) (f : DispSt → DispSt) : (s.modDisp f).bkp = s.bkp := rfl
@[simp] theorem State.modDisp_pwr (s : State) (f : DispSt → DispSt) : (s.modDisp f).pwr = s.pwr := rfl
@[simp] theorem State.modDisp_rst (s : State) (f : DispSt → DispSt) : (s.modDisp f).rst = s.rst := rfl
@[simp] theorem State.modDisp_bus (s : State) (f : DispSt → DispSt) : (s.modDisp f).bus = s.bus := rfl
@[simp] theorem State.modDisp_banks (s : State) (f : DispSt → DispSt) : (s.modDisp f).banks = s.banks := rfl
@[simp] theorem State.modDisp_chans (s : State) (f : DispSt → DispSt) : (s.modDisp f).chans = s.chans := rfl
@[simp] theorem State.modDisp_outs (s : State) (f : DispSt → DispSt) : (s.modDisp f).outs = s.outs := rfl
@[simp] theorem State.modDisp_modems (s : State) (f : DispSt → DispSt) : (s.modDisp f).modems = s.modems := rfl
@[simp] theorem State.modDisp_notch (s : State) (f : DispSt → DispSt) : (s.modDisp f).notch = s.notch := rfl
@[simp] theorem State.modDisp_cal (s : State) (f : DispSt → DispSt) : (s.modDisp f).cal = s.cal := rfl
@[simp] theorem State.modDisp_vib (s : State) (f : DispSt → DispSt) : (s.modDisp f).vib = s.vib := rfl
@[simp] theorem State.modDisp_eng (s : State) (f : DispSt → DispSt) : (s.modDisp f).eng = s.eng := rfl
@[simp] theorem State.modDisp_prev (s : State) (f : DispSt → DispSt) : (s.modDisp f).prev = s.prev := rfl
@[simp] theorem State.modDisp_frameRecs (s : State) (f : DispSt → DispSt) : (s.modDisp f).frameRecs = s.frameRecs := rfl
@[simp] theorem State.modDisp_frameMsgs (s : State) (f : DispSt → DispSt) : (s.modDisp f).frameMsgs = s.frameMsgs := rfl
@[simp] theorem State.modDisp_live (s : State) (f : DispSt → DispSt) : (s.modDisp f).live = s.live := rfl
@[simp] theorem State.modDisp_encs (s : State) (f : DispSt → DispSt) : (s.modDisp f).encs = s.encs := rfl
@[simp] theorem State.modDisp_disp (s : State) (f : DispSt → DispSt) : (s.modDisp f).disp = f s.disp := rfl
@[simp] theorem State.modDisp_dis (s : State) (f : DispSt → DispSt) : (s.modDisp f).dis = s.dis := rfl
@[simp] theorem State.modDisp_aos (s : State) (f : DispSt → DispSt) : (s.modDisp f).aos = s.aos := rfl
@[simp] theorem State.modDisp_nok (s : State) (f : DispSt → DispSt) : (s.modDisp f).nok = s.nok := rfl
@[simp] theorem State.modDisp_sec (s : State) (f : DispSt → DispSt) : (s.modDisp f).sec = s.sec := rfl
@[simp] theorem State.modDisp_free (s : State) (f : DispSt → DispSt) : (s.modDisp f).free = s.free := rfl
@[simp] theorem State.modDisp_pending (s : State) (f : DispSt → DispSt) : (s.modDisp f).pending = s.pending := rfl

/-! `modNotch` -/

@[simp] theorem State.modNotch_clk (s : State) (f : NotchSt → NotchSt) : (s.modNotch f).clk = s.clk := rfl
@[simp] theorem State.modNotch_frame (s : State) (f : NotchSt → NotchSt) : (s.modNotch f).frame = s.frame := rfl
@[simp] theorem State.modNotch_host (s : State) (f : NotchSt → NotchSt) : (s.modNotch f).host = s.host := rfl
@[simp] theorem State.modNotch_cfg (s : State) (f : NotchSt → NotchSt) : (s.modNotch f).cfg = s.cfg := rfl
@[simp] theorem State.modNotch_nvm (s : State) (f : NotchSt → NotchSt) : (s.modNotch f).nvm = s.nvm := rfl
@[simp] theorem State.modNotch_log (s : State) (f : NotchSt → NotchSt) : (s.modNotch f).log = s.log := rfl
@[simp] theorem State.modNotch_bkp (s : State) (f : NotchSt → NotchSt) : (s.modNotch f).bkp = s.bkp := rfl
@[simp] theorem State.modNotch_pwr (s : State) (f : NotchSt → NotchSt) : (s.modNotch f).pwr = s.pwr := rfl
@[simp] theorem State.modNotch_rst (s : State) (f : NotchSt → NotchSt) : (s.modNotch f).rst = s.rst := rfl
@[simp] theorem State.modNotch_bus (s : State) (f : NotchSt → NotchSt) : (s.modNotch f).bus = s.bus := rfl
@[simp] theorem State.modNotch_banks (s : State) (f : NotchSt → NotchSt) : (s.modNotch f).banks = s.banks := rfl
@[simp] theorem State.modNotch_chans (s : State) (f : NotchSt → NotchSt) : (s.modNotch f).chans = s.chans := rfl
@[simp] theorem State.modNotch_outs (s : State) (f : NotchSt → NotchSt) : (s.modNotch f).outs = s.outs := rfl
@[simp] theorem State.modNotch_modems (s : State) (f : NotchSt → NotchSt) : (s.modNotch f).modems = s.modems := rfl
@[simp] theorem State.modNotch_notch (s : State) (f : NotchSt → NotchSt) : (s.modNotch f).notch = f s.notch := rfl
@[simp] theorem State.modNotch_cal (s : State) (f : NotchSt → NotchSt) : (s.modNotch f).cal = s.cal := rfl
@[simp] theorem State.modNotch_vib (s : State) (f : NotchSt → NotchSt) : (s.modNotch f).vib = s.vib := rfl
@[simp] theorem State.modNotch_eng (s : State) (f : NotchSt → NotchSt) : (s.modNotch f).eng = s.eng := rfl
@[simp] theorem State.modNotch_prev (s : State) (f : NotchSt → NotchSt) : (s.modNotch f).prev = s.prev := rfl
@[simp] theorem State.modNotch_frameRecs (s : State) (f : NotchSt → NotchSt) : (s.modNotch f).frameRecs = s.frameRecs := rfl
@[simp] theorem State.modNotch_frameMsgs (s : State) (f : NotchSt → NotchSt) : (s.modNotch f).frameMsgs = s.frameMsgs := rfl
@[simp] theorem State.modNotch_live (s : State) (f : NotchSt → NotchSt) : (s.modNotch f).live = s.live := rfl
@[simp] theorem State.modNotch_encs (s : State) (f : NotchSt → NotchSt) : (s.modNotch f).encs = s.encs := rfl
@[simp] theorem State.modNotch_disp (s : State) (f : NotchSt → NotchSt) : (s.modNotch f).disp = s.disp := rfl
@[simp] theorem State.modNotch_dis (s : State) (f : NotchSt → NotchSt) : (s.modNotch f).dis = s.dis := rfl
@[simp] theorem State.modNotch_aos (s : State) (f : NotchSt → NotchSt) : (s.modNotch f).aos = s.aos := rfl
@[simp] theorem State.modNotch_nok (s : State) (f : NotchSt → NotchSt) : (s.modNotch f).nok = s.nok := rfl
@[simp] theorem State.modNotch_sec (s : State) (f : NotchSt → NotchSt) : (s.modNotch f).sec = s.sec := rfl
@[simp] theorem State.modNotch_free (s : State) (f : NotchSt → NotchSt) : (s.modNotch f).free = s.free := rfl
@[simp] theorem State.modNotch_pending (s : State) (f : NotchSt → NotchSt) : (s.modNotch f).pending = s.pending := rfl

/-! `modChan` -/

@[simp] theorem State.modChan_clk (s : State) (n : Nat) (f : ChanSt → ChanSt) : (s.modChan n f).clk = s.clk := rfl
@[simp] theorem State.modChan_frame (s : State) (n : Nat) (f : ChanSt → ChanSt) : (s.modChan n f).frame = s.frame := rfl
@[simp] theorem State.modChan_host (s : State) (n : Nat) (f : ChanSt → ChanSt) : (s.modChan n f).host = s.host := rfl
@[simp] theorem State.modChan_cfg (s : State) (n : Nat) (f : ChanSt → ChanSt) : (s.modChan n f).cfg = s.cfg := rfl
@[simp] theorem State.modChan_nvm (s : State) (n : Nat) (f : ChanSt → ChanSt) : (s.modChan n f).nvm = s.nvm := rfl
@[simp] theorem State.modChan_log (s : State) (n : Nat) (f : ChanSt → ChanSt) : (s.modChan n f).log = s.log := rfl
@[simp] theorem State.modChan_bkp (s : State) (n : Nat) (f : ChanSt → ChanSt) : (s.modChan n f).bkp = s.bkp := rfl
@[simp] theorem State.modChan_pwr (s : State) (n : Nat) (f : ChanSt → ChanSt) : (s.modChan n f).pwr = s.pwr := rfl
@[simp] theorem State.modChan_rst (s : State) (n : Nat) (f : ChanSt → ChanSt) : (s.modChan n f).rst = s.rst := rfl
@[simp] theorem State.modChan_bus (s : State) (n : Nat) (f : ChanSt → ChanSt) : (s.modChan n f).bus = s.bus := rfl
@[simp] theorem State.modChan_banks (s : State) (n : Nat) (f : ChanSt → ChanSt) : (s.modChan n f).banks = s.banks := rfl
@[simp] theorem State.modChan_chans (s : State) (n : Nat) (f : ChanSt → ChanSt) : (s.modChan n f).chans = modAt s.chans n f := rfl
@[simp] theorem State.modChan_outs (s : State) (n : Nat) (f : ChanSt → ChanSt) : (s.modChan n f).outs = s.outs := rfl
@[simp] theorem State.modChan_modems (s : State) (n : Nat) (f : ChanSt → ChanSt) : (s.modChan n f).modems = s.modems := rfl
@[simp] theorem State.modChan_notch (s : State) (n : Nat) (f : ChanSt → ChanSt) : (s.modChan n f).notch = s.notch := rfl
@[simp] theorem State.modChan_cal (s : State) (n : Nat) (f : ChanSt → ChanSt) : (s.modChan n f).cal = s.cal := rfl
@[simp] theorem State.modChan_vib (s : State) (n : Nat) (f : ChanSt → ChanSt) : (s.modChan n f).vib = s.vib := rfl
@[simp] theorem State.modChan_eng (s : State) (n : Nat) (f : ChanSt → ChanSt) : (s.modChan n f).eng = s.eng := rfl
@[simp] theorem State.modChan_prev (s : State) (n : Nat) (f : ChanSt → ChanSt) : (s.modChan n f).prev = s.prev := rfl
@[simp] theorem State.modChan_frameRecs (s : State) (n : Nat) (f : ChanSt → ChanSt) : (s.modChan n f).frameRecs = s.frameRecs := rfl
@[simp] theorem State.modChan_frameMsgs (s : State) (n : Nat) (f : ChanSt → ChanSt) : (s.modChan n f).frameMsgs = s.frameMsgs := rfl
@[simp] theorem State.modChan_live (s : State) (n : Nat) (f : ChanSt → ChanSt) : (s.modChan n f).live = s.live := rfl
@[simp] theorem State.modChan_encs (s : State) (n : Nat) (f : ChanSt → ChanSt) : (s.modChan n f).encs = s.encs := rfl
@[simp] theorem State.modChan_disp (s : State) (n : Nat) (f : ChanSt → ChanSt) : (s.modChan n f).disp = s.disp := rfl
@[simp] theorem State.modChan_dis (s : State) (n : Nat) (f : ChanSt → ChanSt) : (s.modChan n f).dis = s.dis := rfl
@[simp] theorem State.modChan_aos (s : State) (n : Nat) (f : ChanSt → ChanSt) : (s.modChan n f).aos = s.aos := rfl
@[simp] theorem State.modChan_nok (s : State) (n : Nat) (f : ChanSt → ChanSt) : (s.modChan n f).nok = s.nok := rfl
@[simp] theorem State.modChan_sec (s : State) (n : Nat) (f : ChanSt → ChanSt) : (s.modChan n f).sec = s.sec := rfl
@[simp] theorem State.modChan_free (s : State) (n : Nat) (f : ChanSt → ChanSt) : (s.modChan n f).free = s.free := rfl
@[simp] theorem State.modChan_pending (s : State) (n : Nat) (f : ChanSt → ChanSt) : (s.modChan n f).pending = s.pending := rfl

/-! `modBank` -/

@[simp] theorem State.modBank_clk (s : State) (b : Nat) (f : BankSt → BankSt) : (s.modBank b f).clk = s.clk := rfl
@[simp] theorem State.modBank_frame (s : State) (b : Nat) (f : BankSt → BankSt) : (s.modBank b f).frame = s.frame := rfl
@[simp] theorem State.modBank_host (s : State) (b : Nat) (f : BankSt → BankSt) : (s.modBank b f).host = s.host := rfl
@[simp] theorem State.modBank_cfg (s : State) (b : Nat) (f : BankSt → BankSt) : (s.modBank b f).cfg = s.cfg := rfl
@[simp] theorem State.modBank_nvm (s : State) (b : Nat) (f : BankSt → BankSt) : (s.modBank b f).nvm = s.nvm := rfl
@[simp] theorem State.modBank_log (s : State) (b : Nat) (f : BankSt → BankSt) : (s.modBank b f).log = s.log := rfl
@[simp] theorem State.modBank_bkp (s : State) (b : Nat) (f : BankSt → BankSt) : (s.modBank b f).bkp = s.bkp := rfl
@[simp] theorem State.modBank_pwr (s : State) (b : Nat) (f : BankSt → BankSt) : (s.modBank b f).pwr = s.pwr := rfl
@[simp] theorem State.modBank_rst (s : State) (b : Nat) (f : BankSt → BankSt) : (s.modBank b f).rst = s.rst := rfl
@[simp] theorem State.modBank_bus (s : State) (b : Nat) (f : BankSt → BankSt) : (s.modBank b f).bus = s.bus := rfl
@[simp] theorem State.modBank_banks (s : State) (b : Nat) (f : BankSt → BankSt) : (s.modBank b f).banks = modAt s.banks b f := rfl
@[simp] theorem State.modBank_chans (s : State) (b : Nat) (f : BankSt → BankSt) : (s.modBank b f).chans = s.chans := rfl
@[simp] theorem State.modBank_outs (s : State) (b : Nat) (f : BankSt → BankSt) : (s.modBank b f).outs = s.outs := rfl
@[simp] theorem State.modBank_modems (s : State) (b : Nat) (f : BankSt → BankSt) : (s.modBank b f).modems = s.modems := rfl
@[simp] theorem State.modBank_notch (s : State) (b : Nat) (f : BankSt → BankSt) : (s.modBank b f).notch = s.notch := rfl
@[simp] theorem State.modBank_cal (s : State) (b : Nat) (f : BankSt → BankSt) : (s.modBank b f).cal = s.cal := rfl
@[simp] theorem State.modBank_vib (s : State) (b : Nat) (f : BankSt → BankSt) : (s.modBank b f).vib = s.vib := rfl
@[simp] theorem State.modBank_eng (s : State) (b : Nat) (f : BankSt → BankSt) : (s.modBank b f).eng = s.eng := rfl
@[simp] theorem State.modBank_prev (s : State) (b : Nat) (f : BankSt → BankSt) : (s.modBank b f).prev = s.prev := rfl
@[simp] theorem State.modBank_frameRecs (s : State) (b : Nat) (f : BankSt → BankSt) : (s.modBank b f).frameRecs = s.frameRecs := rfl
@[simp] theorem State.modBank_frameMsgs (s : State) (b : Nat) (f : BankSt → BankSt) : (s.modBank b f).frameMsgs = s.frameMsgs := rfl
@[simp] theorem State.modBank_live (s : State) (b : Nat) (f : BankSt → BankSt) : (s.modBank b f).live = s.live := rfl
@[simp] theorem State.modBank_encs (s : State) (b : Nat) (f : BankSt → BankSt) : (s.modBank b f).encs = s.encs := rfl
@[simp] theorem State.modBank_disp (s : State) (b : Nat) (f : BankSt → BankSt) : (s.modBank b f).disp = s.disp := rfl
@[simp] theorem State.modBank_dis (s : State) (b : Nat) (f : BankSt → BankSt) : (s.modBank b f).dis = s.dis := rfl
@[simp] theorem State.modBank_aos (s : State) (b : Nat) (f : BankSt → BankSt) : (s.modBank b f).aos = s.aos := rfl
@[simp] theorem State.modBank_nok (s : State) (b : Nat) (f : BankSt → BankSt) : (s.modBank b f).nok = s.nok := rfl
@[simp] theorem State.modBank_sec (s : State) (b : Nat) (f : BankSt → BankSt) : (s.modBank b f).sec = s.sec := rfl
@[simp] theorem State.modBank_free (s : State) (b : Nat) (f : BankSt → BankSt) : (s.modBank b f).free = s.free := rfl
@[simp] theorem State.modBank_pending (s : State) (b : Nat) (f : BankSt → BankSt) : (s.modBank b f).pending = s.pending := rfl

/-! `modOut` -/

@[simp] theorem State.modOut_clk (s : State) (n : Nat) (f : OutSt → OutSt) : (s.modOut n f).clk = s.clk := rfl
@[simp] theorem State.modOut_frame (s : State) (n : Nat) (f : OutSt → OutSt) : (s.modOut n f).frame = s.frame := rfl
@[simp] theorem State.modOut_host (s : State) (n : Nat) (f : OutSt → OutSt) : (s.modOut n f).host = s.host := rfl
@[simp] theorem State.modOut_cfg (s : State) (n : Nat) (f : OutSt → OutSt) : (s.modOut n f).cfg = s.cfg := rfl
@[simp] theorem State.modOut_nvm (s : State) (n : Nat) (f : OutSt → OutSt) : (s.modOut n f).nvm = s.nvm := rfl
@[simp] theorem State.modOut_log (s : State) (n : Nat) (f : OutSt → OutSt) : (s.modOut n f).log = s.log := rfl
@[simp] theorem State.modOut_bkp (s : State) (n : Nat) (f : OutSt → OutSt) : (s.modOut n f).bkp = s.bkp := rfl
@[simp] theorem State.modOut_pwr (s : State) (n : Nat) (f : OutSt → OutSt) : (s.modOut n f).pwr = s.pwr := rfl
@[simp] theorem State.modOut_rst (s : State) (n : Nat) (f : OutSt → OutSt) : (s.modOut n f).rst = s.rst := rfl
@[simp] theorem State.modOut_bus (s : State) (n : Nat) (f : OutSt → OutSt) : (s.modOut n f).bus = s.bus := rfl
@[simp] theorem State.modOut_banks (s : State) (n : Nat) (f : OutSt → OutSt) : (s.modOut n f).banks = s.banks := rfl
@[simp] theorem State.modOut_chans (s : State) (n : Nat) (f : OutSt → OutSt) : (s.modOut n f).chans = s.chans := rfl
@[simp] theorem State.modOut_outs (s : State) (n : Nat) (f : OutSt → OutSt) : (s.modOut n f).outs = modAt s.outs n f := rfl
@[simp] theorem State.modOut_modems (s : State) (n : Nat) (f : OutSt → OutSt) : (s.modOut n f).modems = s.modems := rfl
@[simp] theorem State.modOut_notch (s : State) (n : Nat) (f : OutSt → OutSt) : (s.modOut n f).notch = s.notch := rfl
@[simp] theorem State.modOut_cal (s : State) (n : Nat) (f : OutSt → OutSt) : (s.modOut n f).cal = s.cal := rfl
@[simp] theorem State.modOut_vib (s : State) (n : Nat) (f : OutSt → OutSt) : (s.modOut n f).vib = s.vib := rfl
@[simp] theorem State.modOut_eng (s : State) (n : Nat) (f : OutSt → OutSt) : (s.modOut n f).eng = s.eng := rfl
@[simp] theorem State.modOut_prev (s : State) (n : Nat) (f : OutSt → OutSt) : (s.modOut n f).prev = s.prev := rfl
@[simp] theorem State.modOut_frameRecs (s : State) (n : Nat) (f : OutSt → OutSt) : (s.modOut n f).frameRecs = s.frameRecs := rfl
@[simp] theorem State.modOut_frameMsgs (s : State) (n : Nat) (f : OutSt → OutSt) : (s.modOut n f).frameMsgs = s.frameMsgs := rfl
@[simp] theorem State.modOut_live (s : State) (n : Nat) (f : OutSt → OutSt) : (s.modOut n f).live = s.live := rfl
@[simp] theorem State.modOut_encs (s : State) (n : Nat) (f : OutSt → OutSt) : (s.modOut n f).encs = s.encs := rfl
@[simp] theorem State.modOut_disp (s : State) (n : Nat) (f : OutSt → OutSt) : (s.modOut n f).disp = s.disp := rfl
@[simp] theorem State.modOut_dis (s : State) (n : Nat) (f : OutSt → OutSt) : (s.modOut n f).dis = s.dis := rfl
@[simp] theorem State.modOut_aos (s : State) (n : Nat) (f : OutSt → OutSt) : (s.modOut n f).aos = s.aos := rfl
@[simp] theorem State.modOut_nok (s : State) (n : Nat) (f : OutSt → OutSt) : (s.modOut n f).nok = s.nok := rfl
@[simp] theorem State.modOut_sec (s : State) (n : Nat) (f : OutSt → OutSt) : (s.modOut n f).sec = s.sec := rfl
@[simp] theorem State.modOut_free (s : State) (n : Nat) (f : OutSt → OutSt) : (s.modOut n f).free = s.free := rfl
@[simp] theorem State.modOut_pending (s : State) (n : Nat) (f : OutSt → OutSt) : (s.modOut n f).pending = s.pending := rfl

/-! `modModem` -/

@[simp] theorem State.modModem_clk (s : State) (b : Nat) (f : ModemSt → ModemSt) : (s.modModem b f).clk = s.clk := rfl
@[simp] theorem State.modModem_frame (s : State) (b : Nat) (f : ModemSt → ModemSt) : (s.modModem b f).frame = s.frame := rfl
@[simp] theorem State.modModem_host (s : State) (b : Nat) (f : ModemSt → ModemSt) : (s.modModem b f).host = s.host := rfl
@[simp] theorem State.modModem_cfg (s : State) (b : Nat) (f : ModemSt → ModemSt) : (s.modModem b f).cfg = s.cfg := rfl
@[simp] theorem State.modModem_nvm (s : State) (b : Nat) (f : ModemSt → ModemSt) : (s.modModem b f).nvm = s.nvm := rfl
@[simp] theorem State.modModem_log (s : State) (b : Nat) (f : ModemSt → ModemSt) : (s.modModem b f).log = s.log := rfl
@[simp] theorem State.modModem_bkp (s : State) (b : Nat) (f : ModemSt → ModemSt) : (s.modModem b f).bkp = s.bkp := rfl
@[simp] theorem State.modModem_pwr (s : State) (b : Nat) (f : ModemSt → ModemSt) : (s.modModem b f).pwr = s.pwr := rfl
@[simp] theorem State.modModem_rst (s : State) (b : Nat) (f : ModemSt → ModemSt) : (s.modModem b f).rst = s.rst := rfl
@[simp] theorem State.modModem_bus (s : State) (b : Nat) (f : ModemSt → ModemSt) : (s.modModem b f).bus = s.bus := rfl
@[simp] theorem State.modModem_banks (s : State) (b : Nat) (f : ModemSt → ModemSt) : (s.modModem b f).banks = s.banks := rfl
@[simp] theorem State.modModem_chans (s : State) (b : Nat) (f : ModemSt → ModemSt) : (s.modModem b f).chans = s.chans := rfl
@[simp] theorem State.modModem_outs (s : State) (b : Nat) (f : ModemSt → ModemSt) : (s.modModem b f).outs = s.outs := rfl
@[simp] theorem State.modModem_modems (s : State) (b : Nat) (f : ModemSt → ModemSt) : (s.modModem b f).modems = modAt s.modems b f := rfl
@[simp] theorem State.modModem_notch (s : State) (b : Nat) (f : ModemSt → ModemSt) : (s.modModem b f).notch = s.notch := rfl
@[simp] theorem State.modModem_cal (s : State) (b : Nat) (f : ModemSt → ModemSt) : (s.modModem b f).cal = s.cal := rfl
@[simp] theorem State.modModem_vib (s : State) (b : Nat) (f : ModemSt → ModemSt) : (s.modModem b f).vib = s.vib := rfl
@[simp] theorem State.modModem_eng (s : State) (b : Nat) (f : ModemSt → ModemSt) : (s.modModem b f).eng = s.eng := rfl
@[simp] theorem State.modModem_prev (s : State) (b : Nat) (f : ModemSt → ModemSt) : (s.modModem b f).prev = s.prev := rfl
@[simp] theorem State.modModem_frameRecs (s : State) (b : Nat) (f : ModemSt → ModemSt) : (s.modModem b f).frameRecs = s.frameRecs := rfl
@[simp] theorem State.modModem_frameMsgs (s : State) (b : Nat) (f : ModemSt → ModemSt) : (s.modModem b f).frameMsgs = s.frameMsgs := rfl
@[simp] theorem State.modModem_live (s : State) (b : Nat) (f : ModemSt → ModemSt) : (s.modModem b f).live = s.live := rfl
@[simp] theorem State.modModem_encs (s : State) (b : Nat) (f : ModemSt → ModemSt) : (s.modModem b f).encs = s.encs := rfl
@[simp] theorem State.modModem_disp (s : State) (b : Nat) (f : ModemSt → ModemSt) : (s.modModem b f).disp = s.disp := rfl
@[simp] theorem State.modModem_dis (s : State) (b : Nat) (f : ModemSt → ModemSt) : (s.modModem b f).dis = s.dis := rfl
@[simp] theorem State.modModem_aos (s : State) (b : Nat) (f : ModemSt → ModemSt) : (s.modModem b f).aos = s.aos := rfl
@[simp] theorem State.modModem_nok (s : State) (b : Nat) (f : ModemSt → ModemSt) : (s.modModem b f).nok = s.nok := rfl
@[simp] theorem State.modModem_sec (s : State) (b : Nat) (f : ModemSt → ModemSt) : (s.modModem b f).sec = s.sec := rfl
@[simp] theorem State.modModem_free (s : State) (b : Nat) (f : ModemSt → ModemSt) : (s.modModem b f).free = s.free := rfl
@[simp] theorem State.modModem_pending (s : State) (b : Nat) (f : ModemSt → ModemSt) : (s.modModem b f).pending = s.pending := rfl

/-! `modEnc` -/

@[simp] theorem State.modEnc_clk (s : State) (k : Nat) (f : EncSt → EncSt) : (s.modEnc k f).clk = s.clk := rfl
@[simp] theorem State.modEnc_frame (s : State) (k : Nat) (f : EncSt → EncSt) : (s.modEnc k f).frame = s.frame := rfl
@[simp] theorem State.modEnc_host (s : State) (k : Nat) (f : EncSt → EncSt) : (s.modEnc k f).host = s.host := rfl
@[simp] theorem State.modEnc_cfg (s : State) (k : Nat) (f : EncSt → EncSt) : (s.modEnc k f).cfg = s.cfg := rfl
@[simp] theorem State.modEnc_nvm (s : State) (k : Nat) (f : EncSt → EncSt) : (s.modEnc k f).nvm = s.nvm := rfl
@[simp] theorem State.modEnc_log (s : State) (k : Nat) (f : EncSt → EncSt) : (s.modEnc k f).log = s.log := rfl
@[simp] theorem State.modEnc_bkp (s : State) (k : Nat) (f : EncSt → EncSt) : (s.modEnc k f).bkp = s.bkp := rfl
@[simp] theorem State.modEnc_pwr (s : State) (k : Nat) (f : EncSt → EncSt) : (s.modEnc k f).pwr = s.pwr := rfl
@[simp] theorem State.modEnc_rst (s : State) (k : Nat) (f : EncSt → EncSt) : (s.modEnc k f).rst = s.rst := rfl
@[simp] theorem State.modEnc_bus (s : State) (k : Nat) (f : EncSt → EncSt) : (s.modEnc k f).bus = s.bus := rfl
@[simp] theorem State.modEnc_banks (s : State) (k : Nat) (f : EncSt → EncSt) : (s.modEnc k f).banks = s.banks := rfl
@[simp] theorem State.modEnc_chans (s : State) (k : Nat) (f : EncSt → EncSt) : (s.modEnc k f).chans = s.chans := rfl
@[simp] theorem State.modEnc_outs (s : State) (k : Nat) (f : EncSt → EncSt) : (s.modEnc k f).outs = s.outs := rfl
@[simp] theorem State.modEnc_modems (s : State) (k : Nat) (f : EncSt → EncSt) : (s.modEnc k f).modems = s.modems := rfl
@[simp] theorem State.modEnc_notch (s : State) (k : Nat) (f : EncSt → EncSt) : (s.modEnc k f).notch = s.notch := rfl
@[simp] theorem State.modEnc_cal (s : State) (k : Nat) (f : EncSt → EncSt) : (s.modEnc k f).cal = s.cal := rfl
@[simp] theorem State.modEnc_vib (s : State) (k : Nat) (f : EncSt → EncSt) : (s.modEnc k f).vib = s.vib := rfl
@[simp] theorem State.modEnc_eng (s : State) (k : Nat) (f : EncSt → EncSt) : (s.modEnc k f).eng = s.eng := rfl
@[simp] theorem State.modEnc_prev (s : State) (k : Nat) (f : EncSt → EncSt) : (s.modEnc k f).prev = s.prev := rfl
@[simp] theorem State.modEnc_frameRecs (s : State) (k : Nat) (f : EncSt → EncSt) : (s.modEnc k f).frameRecs = s.frameRecs := rfl
@[simp] theorem State.modEnc_frameMsgs (s : State) (k : Nat) (f : EncSt → EncSt) : (s.modEnc k f).frameMsgs = s.frameMsgs := rfl
@[simp] theorem State.modEnc_live (s : State) (k : Nat) (f : EncSt → EncSt) : (s.modEnc k f).live = s.live := rfl
@[simp] theorem State.modEnc_encs (s : State) (k : Nat) (f : EncSt → EncSt) : (s.modEnc k f).encs = modAt s.encs k f := rfl
@[simp] theorem State.modEnc_disp (s : State) (k : Nat) (f : EncSt → EncSt) : (s.modEnc k f).disp = s.disp := rfl
@[simp] theorem State.modEnc_dis (s : State) (k : Nat) (f : EncSt → EncSt) : (s.modEnc k f).dis = s.dis := rfl
@[simp] theorem State.modEnc_aos (s : State) (k : Nat) (f : EncSt → EncSt) : (s.modEnc k f).aos = s.aos := rfl
@[simp] theorem State.modEnc_nok (s : State) (k : Nat) (f : EncSt → EncSt) : (s.modEnc k f).nok = s.nok := rfl
@[simp] theorem State.modEnc_sec (s : State) (k : Nat) (f : EncSt → EncSt) : (s.modEnc k f).sec = s.sec := rfl
@[simp] theorem State.modEnc_free (s : State) (k : Nat) (f : EncSt → EncSt) : (s.modEnc k f).free = s.free := rfl
@[simp] theorem State.modEnc_pending (s : State) (k : Nat) (f : EncSt → EncSt) : (s.modEnc k f).pending = s.pending := rfl

/-! `modDi` -/

@[simp] theorem State.modDi_clk (s : State) (i : Nat) (f : DiSt → DiSt) : (s.modDi i f).clk = s.clk := rfl
@[simp] theorem State.modDi_frame (s : State) (i : Nat) (f : DiSt → DiSt) : (s.modDi i f).frame = s.frame := rfl
@[simp] theorem State.modDi_host (s : State) (i : Nat) (f : DiSt → DiSt) : (s.modDi i f).host = s.host := rfl
@[simp] theorem State.modDi_cfg (s : State) (i : Nat) (f : DiSt → DiSt) : (s.modDi i f).cfg = s.cfg := rfl
@[simp] theorem State.modDi_nvm (s : State) (i : Nat) (f : DiSt → DiSt) : (s.modDi i f).nvm = s.nvm := rfl
@[simp] theorem State.modDi_log (s : State) (i : Nat) (f : DiSt → DiSt) : (s.modDi i f).log = s.log := rfl
@[simp] theorem State.modDi_bkp (s : State) (i : Nat) (f : DiSt → DiSt) : (s.modDi i f).bkp = s.bkp := rfl
@[simp] theorem State.modDi_pwr (s : State) (i : Nat) (f : DiSt → DiSt) : (s.modDi i f).pwr = s.pwr := rfl
@[simp] theorem State.modDi_rst (s : State) (i : Nat) (f : DiSt → DiSt) : (s.modDi i f).rst = s.rst := rfl
@[simp] theorem State.modDi_bus (s : State) (i : Nat) (f : DiSt → DiSt) : (s.modDi i f).bus = s.bus := rfl
@[simp] theorem State.modDi_banks (s : State) (i : Nat) (f : DiSt → DiSt) : (s.modDi i f).banks = s.banks := rfl
@[simp] theorem State.modDi_chans (s : State) (i : Nat) (f : DiSt → DiSt) : (s.modDi i f).chans = s.chans := rfl
@[simp] theorem State.modDi_outs (s : State) (i : Nat) (f : DiSt → DiSt) : (s.modDi i f).outs = s.outs := rfl
@[simp] theorem State.modDi_modems (s : State) (i : Nat) (f : DiSt → DiSt) : (s.modDi i f).modems = s.modems := rfl
@[simp] theorem State.modDi_notch (s : State) (i : Nat) (f : DiSt → DiSt) : (s.modDi i f).notch = s.notch := rfl
@[simp] theorem State.modDi_cal (s : State) (i : Nat) (f : DiSt → DiSt) : (s.modDi i f).cal = s.cal := rfl
@[simp] theorem State.modDi_vib (s : State) (i : Nat) (f : DiSt → DiSt) : (s.modDi i f).vib = s.vib := rfl
@[simp] theorem State.modDi_eng (s : State) (i : Nat) (f : DiSt → DiSt) : (s.modDi i f).eng = s.eng := rfl
@[simp] theorem State.modDi_prev (s : State) (i : Nat) (f : DiSt → DiSt) : (s.modDi i f).prev = s.prev := rfl
@[simp] theorem State.modDi_frameRecs (s : State) (i : Nat) (f : DiSt → DiSt) : (s.modDi i f).frameRecs = s.frameRecs := rfl
@[simp] theorem State.modDi_frameMsgs (s : State) (i : Nat) (f : DiSt → DiSt) : (s.modDi i f).frameMsgs = s.frameMsgs := rfl
@[simp] theorem State.modDi_live (s : State) (i : Nat) (f : DiSt → DiSt) : (s.modDi i f).live = s.live := rfl
@[simp] theorem State.modDi_encs (s : State) (i : Nat) (f : DiSt → DiSt) : (s.modDi i f).encs = s.encs := rfl
@[simp] theorem State.modDi_disp (s : State) (i : Nat) (f : DiSt → DiSt) : (s.modDi i f).disp = s.disp := rfl
@[simp] theorem State.modDi_dis (s : State) (i : Nat) (f : DiSt → DiSt) : (s.modDi i f).dis = modAt s.dis i f := rfl
@[simp] theorem State.modDi_aos (s : State) (i : Nat) (f : DiSt → DiSt) : (s.modDi i f).aos = s.aos := rfl
@[simp] theorem State.modDi_nok (s : State) (i : Nat) (f : DiSt → DiSt) : (s.modDi i f).nok = s.nok := rfl
@[simp] theorem State.modDi_sec (s : State) (i : Nat) (f : DiSt → DiSt) : (s.modDi i f).sec = s.sec := rfl
@[simp] theorem State.modDi_free (s : State) (i : Nat) (f : DiSt → DiSt) : (s.modDi i f).free = s.free := rfl
@[simp] theorem State.modDi_pending (s : State) (i : Nat) (f : DiSt → DiSt) : (s.modDi i f).pending = s.pending := rfl

/-! `modAo` -/

@[simp] theorem State.modAo_clk (s : State) (k : Nat) (f : AoSt → AoSt) : (s.modAo k f).clk = s.clk := rfl
@[simp] theorem State.modAo_frame (s : State) (k : Nat) (f : AoSt → AoSt) : (s.modAo k f).frame = s.frame := rfl
@[simp] theorem State.modAo_host (s : State) (k : Nat) (f : AoSt → AoSt) : (s.modAo k f).host = s.host := rfl
@[simp] theorem State.modAo_cfg (s : State) (k : Nat) (f : AoSt → AoSt) : (s.modAo k f).cfg = s.cfg := rfl
@[simp] theorem State.modAo_nvm (s : State) (k : Nat) (f : AoSt → AoSt) : (s.modAo k f).nvm = s.nvm := rfl
@[simp] theorem State.modAo_log (s : State) (k : Nat) (f : AoSt → AoSt) : (s.modAo k f).log = s.log := rfl
@[simp] theorem State.modAo_bkp (s : State) (k : Nat) (f : AoSt → AoSt) : (s.modAo k f).bkp = s.bkp := rfl
@[simp] theorem State.modAo_pwr (s : State) (k : Nat) (f : AoSt → AoSt) : (s.modAo k f).pwr = s.pwr := rfl
@[simp] theorem State.modAo_rst (s : State) (k : Nat) (f : AoSt → AoSt) : (s.modAo k f).rst = s.rst := rfl
@[simp] theorem State.modAo_bus (s : State) (k : Nat) (f : AoSt → AoSt) : (s.modAo k f).bus = s.bus := rfl
@[simp] theorem State.modAo_banks (s : State) (k : Nat) (f : AoSt → AoSt) : (s.modAo k f).banks = s.banks := rfl
@[simp] theorem State.modAo_chans (s : State) (k : Nat) (f : AoSt → AoSt) : (s.modAo k f).chans = s.chans := rfl
@[simp] theorem State.modAo_outs (s : State) (k : Nat) (f : AoSt → AoSt) : (s.modAo k f).outs = s.outs := rfl
@[simp] theorem State.modAo_modems (s : State) (k : Nat) (f : AoSt → AoSt) : (s.modAo k f).modems = s.modems := rfl
@[simp] theorem State.modAo_notch (s : State) (k : Nat) (f : AoSt → AoSt) : (s.modAo k f).notch = s.notch := rfl
@[simp] theorem State.modAo_cal (s : State) (k : Nat) (f : AoSt → AoSt) : (s.modAo k f).cal = s.cal := rfl
@[simp] theorem State.modAo_vib (s : State) (k : Nat) (f : AoSt → AoSt) : (s.modAo k f).vib = s.vib := rfl
@[simp] theorem State.modAo_eng (s : State) (k : Nat) (f : AoSt → AoSt) : (s.modAo k f).eng = s.eng := rfl
@[simp] theorem State.modAo_prev (s : State) (k : Nat) (f : AoSt → AoSt) : (s.modAo k f).prev = s.prev := rfl
@[simp] theorem State.modAo_frameRecs (s : State) (k : Nat) (f : AoSt → AoSt) : (s.modAo k f).frameRecs = s.frameRecs := rfl
@[simp] theorem State.modAo_frameMsgs (s : State) (k : Nat) (f : AoSt → AoSt) : (s.modAo k f).frameMsgs = s.frameMsgs := rfl
@[simp] theorem State.modAo_live (s : State) (k : Nat) (f : AoSt → AoSt) : (s.modAo k f).live = s.live := rfl
@[simp] theorem State.modAo_encs (s : State) (k : Nat) (f : AoSt → AoSt) : (s.modAo k f).encs = s.encs := rfl
@[simp] theorem State.modAo_disp (s : State) (k : Nat) (f : AoSt → AoSt) : (s.modAo k f).disp = s.disp := rfl
@[simp] theorem State.modAo_dis (s : State) (k : Nat) (f : AoSt → AoSt) : (s.modAo k f).dis = s.dis := rfl
@[simp] theorem State.modAo_aos (s : State) (k : Nat) (f : AoSt → AoSt) : (s.modAo k f).aos = modAt s.aos k f := rfl
@[simp] theorem State.modAo_nok (s : State) (k : Nat) (f : AoSt → AoSt) : (s.modAo k f).nok = s.nok := rfl
@[simp] theorem State.modAo_sec (s : State) (k : Nat) (f : AoSt → AoSt) : (s.modAo k f).sec = s.sec := rfl
@[simp] theorem State.modAo_free (s : State) (k : Nat) (f : AoSt → AoSt) : (s.modAo k f).free = s.free := rfl
@[simp] theorem State.modAo_pending (s : State) (k : Nat) (f : AoSt → AoSt) : (s.modAo k f).pending = s.pending := rfl

/-! `setCommit` -/

@[simp] theorem State.setCommit_clk (s : State) (c : Option Commit) : (s.setCommit c).clk = s.clk := rfl
@[simp] theorem State.setCommit_frame (s : State) (c : Option Commit) : (s.setCommit c).frame = s.frame := rfl
@[simp] theorem State.setCommit_host (s : State) (c : Option Commit) : (s.setCommit c).host = s.host := rfl
@[simp] theorem State.setCommit_cfg (s : State) (c : Option Commit) : (s.setCommit c).cfg = { s.cfg with commit := c } := rfl
@[simp] theorem State.setCommit_nvm (s : State) (c : Option Commit) : (s.setCommit c).nvm = s.nvm := rfl
@[simp] theorem State.setCommit_log (s : State) (c : Option Commit) : (s.setCommit c).log = s.log := rfl
@[simp] theorem State.setCommit_bkp (s : State) (c : Option Commit) : (s.setCommit c).bkp = s.bkp := rfl
@[simp] theorem State.setCommit_pwr (s : State) (c : Option Commit) : (s.setCommit c).pwr = s.pwr := rfl
@[simp] theorem State.setCommit_rst (s : State) (c : Option Commit) : (s.setCommit c).rst = s.rst := rfl
@[simp] theorem State.setCommit_bus (s : State) (c : Option Commit) : (s.setCommit c).bus = s.bus := rfl
@[simp] theorem State.setCommit_banks (s : State) (c : Option Commit) : (s.setCommit c).banks = s.banks := rfl
@[simp] theorem State.setCommit_chans (s : State) (c : Option Commit) : (s.setCommit c).chans = s.chans := rfl
@[simp] theorem State.setCommit_outs (s : State) (c : Option Commit) : (s.setCommit c).outs = s.outs := rfl
@[simp] theorem State.setCommit_modems (s : State) (c : Option Commit) : (s.setCommit c).modems = s.modems := rfl
@[simp] theorem State.setCommit_notch (s : State) (c : Option Commit) : (s.setCommit c).notch = s.notch := rfl
@[simp] theorem State.setCommit_cal (s : State) (c : Option Commit) : (s.setCommit c).cal = s.cal := rfl
@[simp] theorem State.setCommit_vib (s : State) (c : Option Commit) : (s.setCommit c).vib = s.vib := rfl
@[simp] theorem State.setCommit_eng (s : State) (c : Option Commit) : (s.setCommit c).eng = s.eng := rfl
@[simp] theorem State.setCommit_prev (s : State) (c : Option Commit) : (s.setCommit c).prev = s.prev := rfl
@[simp] theorem State.setCommit_frameRecs (s : State) (c : Option Commit) : (s.setCommit c).frameRecs = s.frameRecs := rfl
@[simp] theorem State.setCommit_frameMsgs (s : State) (c : Option Commit) : (s.setCommit c).frameMsgs = s.frameMsgs := rfl
@[simp] theorem State.setCommit_live (s : State) (c : Option Commit) : (s.setCommit c).live = s.live := rfl
@[simp] theorem State.setCommit_encs (s : State) (c : Option Commit) : (s.setCommit c).encs = s.encs := rfl
@[simp] theorem State.setCommit_disp (s : State) (c : Option Commit) : (s.setCommit c).disp = s.disp := rfl
@[simp] theorem State.setCommit_dis (s : State) (c : Option Commit) : (s.setCommit c).dis = s.dis := rfl
@[simp] theorem State.setCommit_aos (s : State) (c : Option Commit) : (s.setCommit c).aos = s.aos := rfl
@[simp] theorem State.setCommit_nok (s : State) (c : Option Commit) : (s.setCommit c).nok = s.nok := rfl
@[simp] theorem State.setCommit_sec (s : State) (c : Option Commit) : (s.setCommit c).sec = s.sec := rfl
@[simp] theorem State.setCommit_free (s : State) (c : Option Commit) : (s.setCommit c).free = s.free := rfl
@[simp] theorem State.setCommit_pending (s : State) (c : Option Commit) : (s.setCommit c).pending = s.pending := rfl

/-! `setEng` -/

@[simp] theorem State.setEng_clk (s : State) (e : Eng) : (s.setEng e).clk = s.clk := rfl
@[simp] theorem State.setEng_frame (s : State) (e : Eng) : (s.setEng e).frame = s.frame := rfl
@[simp] theorem State.setEng_host (s : State) (e : Eng) : (s.setEng e).host = s.host := rfl
@[simp] theorem State.setEng_cfg (s : State) (e : Eng) : (s.setEng e).cfg = s.cfg := rfl
@[simp] theorem State.setEng_nvm (s : State) (e : Eng) : (s.setEng e).nvm = s.nvm := rfl
@[simp] theorem State.setEng_log (s : State) (e : Eng) : (s.setEng e).log = s.log := rfl
@[simp] theorem State.setEng_bkp (s : State) (e : Eng) : (s.setEng e).bkp = s.bkp := rfl
@[simp] theorem State.setEng_pwr (s : State) (e : Eng) : (s.setEng e).pwr = s.pwr := rfl
@[simp] theorem State.setEng_rst (s : State) (e : Eng) : (s.setEng e).rst = s.rst := rfl
@[simp] theorem State.setEng_bus (s : State) (e : Eng) : (s.setEng e).bus = s.bus := rfl
@[simp] theorem State.setEng_banks (s : State) (e : Eng) : (s.setEng e).banks = s.banks := rfl
@[simp] theorem State.setEng_chans (s : State) (e : Eng) : (s.setEng e).chans = s.chans := rfl
@[simp] theorem State.setEng_outs (s : State) (e : Eng) : (s.setEng e).outs = s.outs := rfl
@[simp] theorem State.setEng_modems (s : State) (e : Eng) : (s.setEng e).modems = s.modems := rfl
@[simp] theorem State.setEng_notch (s : State) (e : Eng) : (s.setEng e).notch = s.notch := rfl
@[simp] theorem State.setEng_cal (s : State) (e : Eng) : (s.setEng e).cal = s.cal := rfl
@[simp] theorem State.setEng_vib (s : State) (e : Eng) : (s.setEng e).vib = s.vib := rfl
@[simp] theorem State.setEng_eng (s : State) (e : Eng) : (s.setEng e).eng = e := rfl
@[simp] theorem State.setEng_prev (s : State) (e : Eng) : (s.setEng e).prev = s.prev := rfl
@[simp] theorem State.setEng_frameRecs (s : State) (e : Eng) : (s.setEng e).frameRecs = s.frameRecs := rfl
@[simp] theorem State.setEng_frameMsgs (s : State) (e : Eng) : (s.setEng e).frameMsgs = s.frameMsgs := rfl
@[simp] theorem State.setEng_live (s : State) (e : Eng) : (s.setEng e).live = s.live := rfl
@[simp] theorem State.setEng_encs (s : State) (e : Eng) : (s.setEng e).encs = s.encs := rfl
@[simp] theorem State.setEng_disp (s : State) (e : Eng) : (s.setEng e).disp = s.disp := rfl
@[simp] theorem State.setEng_dis (s : State) (e : Eng) : (s.setEng e).dis = s.dis := rfl
@[simp] theorem State.setEng_aos (s : State) (e : Eng) : (s.setEng e).aos = s.aos := rfl
@[simp] theorem State.setEng_nok (s : State) (e : Eng) : (s.setEng e).nok = s.nok := rfl
@[simp] theorem State.setEng_sec (s : State) (e : Eng) : (s.setEng e).sec = s.sec := rfl
@[simp] theorem State.setEng_free (s : State) (e : Eng) : (s.setEng e).free = s.free := rfl
@[simp] theorem State.setEng_pending (s : State) (e : Eng) : (s.setEng e).pending = s.pending := rfl

/-! `enterRec` -/

@[simp] theorem State.enterRec_clk (s : State) (r : Rec) : (s.enterRec r).clk = s.clk := rfl
@[simp] theorem State.enterRec_frame (s : State) (r : Rec) : (s.enterRec r).frame = s.frame := rfl
@[simp] theorem State.enterRec_host (s : State) (r : Rec) : (s.enterRec r).host = s.host := rfl
@[simp] theorem State.enterRec_cfg (s : State) (r : Rec) : (s.enterRec r).cfg = s.cfg := rfl
@[simp] theorem State.enterRec_nvm (s : State) (r : Rec) : (s.enterRec r).nvm = s.nvm := rfl
@[simp] theorem State.enterRec_bkp (s : State) (r : Rec) : (s.enterRec r).bkp = s.bkp := rfl
@[simp] theorem State.enterRec_pwr (s : State) (r : Rec) : (s.enterRec r).pwr = s.pwr := rfl
@[simp] theorem State.enterRec_rst (s : State) (r : Rec) : (s.enterRec r).rst = s.rst := rfl
@[simp] theorem State.enterRec_bus (s : State) (r : Rec) : (s.enterRec r).bus = s.bus := rfl
@[simp] theorem State.enterRec_banks (s : State) (r : Rec) : (s.enterRec r).banks = s.banks := rfl
@[simp] theorem State.enterRec_chans (s : State) (r : Rec) : (s.enterRec r).chans = s.chans := rfl
@[simp] theorem State.enterRec_outs (s : State) (r : Rec) : (s.enterRec r).outs = s.outs := rfl
@[simp] theorem State.enterRec_modems (s : State) (r : Rec) : (s.enterRec r).modems = s.modems := rfl
@[simp] theorem State.enterRec_notch (s : State) (r : Rec) : (s.enterRec r).notch = s.notch := rfl
@[simp] theorem State.enterRec_cal (s : State) (r : Rec) : (s.enterRec r).cal = s.cal := rfl
@[simp] theorem State.enterRec_vib (s : State) (r : Rec) : (s.enterRec r).vib = s.vib := rfl
@[simp] theorem State.enterRec_eng (s : State) (r : Rec) : (s.enterRec r).eng = s.eng := rfl
@[simp] theorem State.enterRec_prev (s : State) (r : Rec) : (s.enterRec r).prev = s.prev := rfl
@[simp] theorem State.enterRec_frameRecs (s : State) (r : Rec) : (s.enterRec r).frameRecs = s.frameRecs := rfl
@[simp] theorem State.enterRec_frameMsgs (s : State) (r : Rec) : (s.enterRec r).frameMsgs = s.frameMsgs := rfl
@[simp] theorem State.enterRec_live (s : State) (r : Rec) : (s.enterRec r).live = s.live := rfl
@[simp] theorem State.enterRec_encs (s : State) (r : Rec) : (s.enterRec r).encs = s.encs := rfl
@[simp] theorem State.enterRec_disp (s : State) (r : Rec) : (s.enterRec r).disp = s.disp := rfl
@[simp] theorem State.enterRec_dis (s : State) (r : Rec) : (s.enterRec r).dis = s.dis := rfl
@[simp] theorem State.enterRec_aos (s : State) (r : Rec) : (s.enterRec r).aos = s.aos := rfl
@[simp] theorem State.enterRec_nok (s : State) (r : Rec) : (s.enterRec r).nok = s.nok := rfl
@[simp] theorem State.enterRec_sec (s : State) (r : Rec) : (s.enterRec r).sec = s.sec := rfl
@[simp] theorem State.enterRec_free (s : State) (r : Rec) : (s.enterRec r).free = s.free := rfl
@[simp] theorem State.enterRec_pending (s : State) (r : Rec) : (s.enterRec r).pending = s.pending := rfl

/-! `logEv` -/

@[simp] theorem State.logEv_clk (s : State) (code sev kind idx role p1 p2 : Nat) : (s.logEv code sev kind idx role p1 p2).clk = s.clk := rfl
@[simp] theorem State.logEv_frame (s : State) (code sev kind idx role p1 p2 : Nat) : (s.logEv code sev kind idx role p1 p2).frame = s.frame := rfl
@[simp] theorem State.logEv_host (s : State) (code sev kind idx role p1 p2 : Nat) : (s.logEv code sev kind idx role p1 p2).host = s.host := rfl
@[simp] theorem State.logEv_cfg (s : State) (code sev kind idx role p1 p2 : Nat) : (s.logEv code sev kind idx role p1 p2).cfg = s.cfg := rfl
@[simp] theorem State.logEv_nvm (s : State) (code sev kind idx role p1 p2 : Nat) : (s.logEv code sev kind idx role p1 p2).nvm = s.nvm := rfl
@[simp] theorem State.logEv_bkp (s : State) (code sev kind idx role p1 p2 : Nat) : (s.logEv code sev kind idx role p1 p2).bkp = s.bkp := rfl
@[simp] theorem State.logEv_pwr (s : State) (code sev kind idx role p1 p2 : Nat) : (s.logEv code sev kind idx role p1 p2).pwr = s.pwr := rfl
@[simp] theorem State.logEv_rst (s : State) (code sev kind idx role p1 p2 : Nat) : (s.logEv code sev kind idx role p1 p2).rst = s.rst := rfl
@[simp] theorem State.logEv_bus (s : State) (code sev kind idx role p1 p2 : Nat) : (s.logEv code sev kind idx role p1 p2).bus = s.bus := rfl
@[simp] theorem State.logEv_banks (s : State) (code sev kind idx role p1 p2 : Nat) : (s.logEv code sev kind idx role p1 p2).banks = s.banks := rfl
@[simp] theorem State.logEv_chans (s : State) (code sev kind idx role p1 p2 : Nat) : (s.logEv code sev kind idx role p1 p2).chans = s.chans := rfl
@[simp] theorem State.logEv_outs (s : State) (code sev kind idx role p1 p2 : Nat) : (s.logEv code sev kind idx role p1 p2).outs = s.outs := rfl
@[simp] theorem State.logEv_modems (s : State) (code sev kind idx role p1 p2 : Nat) : (s.logEv code sev kind idx role p1 p2).modems = s.modems := rfl
@[simp] theorem State.logEv_notch (s : State) (code sev kind idx role p1 p2 : Nat) : (s.logEv code sev kind idx role p1 p2).notch = s.notch := rfl
@[simp] theorem State.logEv_cal (s : State) (code sev kind idx role p1 p2 : Nat) : (s.logEv code sev kind idx role p1 p2).cal = s.cal := rfl
@[simp] theorem State.logEv_vib (s : State) (code sev kind idx role p1 p2 : Nat) : (s.logEv code sev kind idx role p1 p2).vib = s.vib := rfl
@[simp] theorem State.logEv_eng (s : State) (code sev kind idx role p1 p2 : Nat) : (s.logEv code sev kind idx role p1 p2).eng = s.eng := rfl
@[simp] theorem State.logEv_prev (s : State) (code sev kind idx role p1 p2 : Nat) : (s.logEv code sev kind idx role p1 p2).prev = s.prev := rfl
@[simp] theorem State.logEv_frameRecs (s : State) (code sev kind idx role p1 p2 : Nat) : (s.logEv code sev kind idx role p1 p2).frameRecs = s.frameRecs := rfl
@[simp] theorem State.logEv_frameMsgs (s : State) (code sev kind idx role p1 p2 : Nat) : (s.logEv code sev kind idx role p1 p2).frameMsgs = s.frameMsgs := rfl
@[simp] theorem State.logEv_live (s : State) (code sev kind idx role p1 p2 : Nat) : (s.logEv code sev kind idx role p1 p2).live = s.live := rfl
@[simp] theorem State.logEv_encs (s : State) (code sev kind idx role p1 p2 : Nat) : (s.logEv code sev kind idx role p1 p2).encs = s.encs := rfl
@[simp] theorem State.logEv_disp (s : State) (code sev kind idx role p1 p2 : Nat) : (s.logEv code sev kind idx role p1 p2).disp = s.disp := rfl
@[simp] theorem State.logEv_dis (s : State) (code sev kind idx role p1 p2 : Nat) : (s.logEv code sev kind idx role p1 p2).dis = s.dis := rfl
@[simp] theorem State.logEv_aos (s : State) (code sev kind idx role p1 p2 : Nat) : (s.logEv code sev kind idx role p1 p2).aos = s.aos := rfl
@[simp] theorem State.logEv_nok (s : State) (code sev kind idx role p1 p2 : Nat) : (s.logEv code sev kind idx role p1 p2).nok = s.nok := rfl
@[simp] theorem State.logEv_sec (s : State) (code sev kind idx role p1 p2 : Nat) : (s.logEv code sev kind idx role p1 p2).sec = s.sec := rfl
@[simp] theorem State.logEv_free (s : State) (code sev kind idx role p1 p2 : Nat) : (s.logEv code sev kind idx role p1 p2).free = s.free := rfl
@[simp] theorem State.logEv_pending (s : State) (code sev kind idx role p1 p2 : Nat) : (s.logEv code sev kind idx role p1 p2).pending = s.pending := rfl

/-! `logNode` -/

@[simp] theorem State.logNode_clk (s : State) (code sev p1 p2 : Nat) : (s.logNode code sev p1 p2).clk = s.clk := rfl
@[simp] theorem State.logNode_frame (s : State) (code sev p1 p2 : Nat) : (s.logNode code sev p1 p2).frame = s.frame := rfl
@[simp] theorem State.logNode_host (s : State) (code sev p1 p2 : Nat) : (s.logNode code sev p1 p2).host = s.host := rfl
@[simp] theorem State.logNode_cfg (s : State) (code sev p1 p2 : Nat) : (s.logNode code sev p1 p2).cfg = s.cfg := rfl
@[simp] theorem State.logNode_nvm (s : State) (code sev p1 p2 : Nat) : (s.logNode code sev p1 p2).nvm = s.nvm := rfl
@[simp] theorem State.logNode_bkp (s : State) (code sev p1 p2 : Nat) : (s.logNode code sev p1 p2).bkp = s.bkp := rfl
@[simp] theorem State.logNode_pwr (s : State) (code sev p1 p2 : Nat) : (s.logNode code sev p1 p2).pwr = s.pwr := rfl
@[simp] theorem State.logNode_rst (s : State) (code sev p1 p2 : Nat) : (s.logNode code sev p1 p2).rst = s.rst := rfl
@[simp] theorem State.logNode_bus (s : State) (code sev p1 p2 : Nat) : (s.logNode code sev p1 p2).bus = s.bus := rfl
@[simp] theorem State.logNode_banks (s : State) (code sev p1 p2 : Nat) : (s.logNode code sev p1 p2).banks = s.banks := rfl
@[simp] theorem State.logNode_chans (s : State) (code sev p1 p2 : Nat) : (s.logNode code sev p1 p2).chans = s.chans := rfl
@[simp] theorem State.logNode_outs (s : State) (code sev p1 p2 : Nat) : (s.logNode code sev p1 p2).outs = s.outs := rfl
@[simp] theorem State.logNode_modems (s : State) (code sev p1 p2 : Nat) : (s.logNode code sev p1 p2).modems = s.modems := rfl
@[simp] theorem State.logNode_notch (s : State) (code sev p1 p2 : Nat) : (s.logNode code sev p1 p2).notch = s.notch := rfl
@[simp] theorem State.logNode_cal (s : State) (code sev p1 p2 : Nat) : (s.logNode code sev p1 p2).cal = s.cal := rfl
@[simp] theorem State.logNode_vib (s : State) (code sev p1 p2 : Nat) : (s.logNode code sev p1 p2).vib = s.vib := rfl
@[simp] theorem State.logNode_eng (s : State) (code sev p1 p2 : Nat) : (s.logNode code sev p1 p2).eng = s.eng := rfl
@[simp] theorem State.logNode_prev (s : State) (code sev p1 p2 : Nat) : (s.logNode code sev p1 p2).prev = s.prev := rfl
@[simp] theorem State.logNode_frameRecs (s : State) (code sev p1 p2 : Nat) : (s.logNode code sev p1 p2).frameRecs = s.frameRecs := rfl
@[simp] theorem State.logNode_frameMsgs (s : State) (code sev p1 p2 : Nat) : (s.logNode code sev p1 p2).frameMsgs = s.frameMsgs := rfl
@[simp] theorem State.logNode_live (s : State) (code sev p1 p2 : Nat) : (s.logNode code sev p1 p2).live = s.live := rfl
@[simp] theorem State.logNode_encs (s : State) (code sev p1 p2 : Nat) : (s.logNode code sev p1 p2).encs = s.encs := rfl
@[simp] theorem State.logNode_disp (s : State) (code sev p1 p2 : Nat) : (s.logNode code sev p1 p2).disp = s.disp := rfl
@[simp] theorem State.logNode_dis (s : State) (code sev p1 p2 : Nat) : (s.logNode code sev p1 p2).dis = s.dis := rfl
@[simp] theorem State.logNode_aos (s : State) (code sev p1 p2 : Nat) : (s.logNode code sev p1 p2).aos = s.aos := rfl
@[simp] theorem State.logNode_nok (s : State) (code sev p1 p2 : Nat) : (s.logNode code sev p1 p2).nok = s.nok := rfl
@[simp] theorem State.logNode_sec (s : State) (code sev p1 p2 : Nat) : (s.logNode code sev p1 p2).sec = s.sec := rfl
@[simp] theorem State.logNode_free (s : State) (code sev p1 p2 : Nat) : (s.logNode code sev p1 p2).free = s.free := rfl
@[simp] theorem State.logNode_pending (s : State) (code sev p1 p2 : Nat) : (s.logNode code sev p1 p2).pending = s.pending := rfl

end Sys2Proof.Machine
end

