-- ==== Sys2Proof/Laws/Ops.lean ====
section
/-!
SUPPORT. What each shared operation can do: the fields it may change, once per operation, and the fields it keeps.
-/

namespace Sys2Proof.Machine

open Sys2Proof

/-! ## Requests -/

/-- The state in which a request acts keeps everything but time and the executing request. -/
theorem State.acting_eq (s : State) (t : Nat) : s.acting t = { s.advance t with host := { s.host with cur := none } } := rfl

/-- An opcode row runs on the request that executes; then the next request is taken (R65). -/
theorem State.withCur_executes {s : State} {t tag op : Nat} {f : Flight} {g : Flight → State → State}
    (h : Executes s tag op f) : s.withCur t tag op g = (g f (s.acting t)).takeNext := by
  obtain ⟨h1, h2, h3⟩ := h
  have h4 : (s.advance t).host.cur = some f := h1
  simp only [State.withCur, h4, h2, h3, and_self, if_true, State.acting]

/-- A refusal other than `ROLE_STALE` only completes its request (R66). -/
theorem State.refuse_eq {s : State} {f : Flight} {st : Status} {d : Nat} {p : List Byte} (h : st ≠ .roleStale) :
    s.refuse f (st, d, p) = s.complete f st d p := by simp [State.refuse, h]

/-- A command with a unit that exists completes. -/
theorem guardUnit_next {b : Bool} {s : State} (h : b = true) : guardUnit b s = .next s := by simp [guardUnit, h]

/-- A command with a unit that does not exist faults. -/
theorem guardUnit_fault {b : Bool} {s : State} (h : b = false) : guardUnit b s = .fault .noSuchUnit := by
  simp [guardUnit, h]

/-! ## Frames of the shared operations -/

/-- Sending a node-protocol frame changes the bus only. -/
theorem State.sendProto_changes (s : State) (b prio cls index : Nat) (body : List Byte) (role : TxRole) :
    ∃ x, s.sendProto b prio cls index body role = { s with bus := x } := by
  unfold State.sendProto; split
  · exact ⟨_, rfl⟩
  · exact ⟨s.bus, rfl⟩

/-- Sending a culvert changes the bus only. -/
theorem State.sendCulvert_changes (s : State) (b cls dst tr : Nat) (l : List Byte) (n : Nat) (role : TxRole) :
    ∃ x, s.sendCulvert b cls dst tr l n role = { s with bus := x } := by
  unfold State.sendCulvert
  generalize culvertSegs l n = segs
  induction segs generalizing s with
  | nil => exact ⟨s.bus, rfl⟩
  | cons p r ih =>
    obtain ⟨y, hy⟩ := s.sendProto_changes b 5 cls (dst * 256 + tr * 8 + p.1) p.2 role
    obtain ⟨z, hz⟩ := ih { s with bus := y }
    exact ⟨z, by rw [List.foldl_cons, hy, hz]⟩

/-- Completion changes the host port's slots and maps, and, for a remote request, the bus. -/
theorem State.complete_changes (s : State) (f : Flight) (st : Status) (d : Nat) (p : List Byte) :
    ∃ r dn m x, s.complete f st d p = { s with host := { s.host with rsp := r, done := dn, mbox := m }, bus := x } := by
  simp only [State.complete]
  split
  · exact ⟨s.host.rsp, s.host.done, _, s.bus, rfl⟩
  · split
    · exact ⟨_, _, s.host.mbox, s.bus, rfl⟩
    · split
      · obtain ⟨x, hx⟩ := State.sendCulvert_changes
          { s with host := { s.host with rsp := s.host.rsp.writeList (256 * f.id) (respBytes f.req st d p) } }
          f.bus 0x21 (match f.origin with | .node n => n | _ => 0) f.transfer (respBytes f.req st d p) (16 + p.length) .culvertRsp
        rename_i n hn
        simp only [hn] at hx
        exact ⟨_, s.host.done, s.host.mbox, x, hx⟩
      · exact ⟨_, s.host.done, s.host.mbox, s.bus, rfl⟩

/-- Completing the waits that are chosen changes the host port and the bus. -/
theorem completeList_changes (sel : WaitKind → Option (Status × Nat × List Byte)) (l : List Wait) (s : State) :
    ∃ h x, completeList sel l s = { s with host := h, bus := x } := by
  induction l generalizing s with
  | nil => exact ⟨s.host, s.bus, rfl⟩
  | cons w r ih =>
    simp only [completeList]
    split
    · rename_i st d p _
      obtain ⟨a, b, c, e, h1⟩ := s.complete_changes w.fl st d p
      rw [h1]
      exact ih _
    · exact ih s

/-- Ending waits changes the host port and the bus. -/
theorem State.endWaits_changes (s : State) (sel : WaitKind → Option (Status × Nat × List Byte)) :
    ∃ h x, s.endWaits sel = { s with host := h, bus := x } := completeList_changes sel _ _

/-- A write of the backup domain that keeps its pending commands changes nothing else. -/
theorem State.setBkp_changes (s : State) (b : BkpSt) : ∃ h x, s.setBkp b = { s with bkp := b, host := h, bus := x } :=
  State.endWaits_changes { s with bkp := b } _

/-- The operation picked changes the log and the controller. -/
theorem State.nvmPick_changes (s : State) : ∃ l n, s.nvmPick = { s with log := l, nvm := n } := by
  unfold State.nvmPick
  (repeat' split) <;> first | exact ⟨s.log, s.nvm, rfl⟩ | exact ⟨_, s.nvm, rfl⟩ | exact ⟨_, _, rfl⟩

/-- The NVM controller going on changes the log and itself. -/
theorem State.nvmStart_changes (s : State) : ∃ l n, s.nvmStart = { s with log := l, nvm := n } := by
  unfold State.nvmStart
  obtain ⟨l, n, h⟩ := s.nvmPick_changes
  (repeat' split) <;> first | exact ⟨s.log, s.nvm, rfl⟩ | exact ⟨_, s.nvm, rfl⟩ | exact ⟨_, _, rfl⟩ | (rw [h]; exact ⟨_, _, rfl⟩)

/-- A new NVM operation changes the log and the controller. -/
theorem State.nvmRequest_changes (s : State) (k : NvmKind) (m : Mem) (a : Nat) :
    ∃ l n, (s.nvmRequest k m a).1 = { s with log := l, nvm := n } := State.nvmStart_changes _

/-- A drop that is counted leaves the slots, the pails, the clear and the closing of the log. -/
theorem LogSt.countDrop_keeps (l : LogSt) (sv now from_ : Nat) :
    let u := l.countDrop sv now from_
    u.slots = l.slots ∧ u.clear = l.clear ∧ u.closed = l.closed ∧ u.limit = l.limit ∧ u.pailA = l.pailA ∧ u.pailB = l.pailB ∧
      u.churning = l.churning ∧ u.activeB = l.activeB := by
  unfold LogSt.countDrop
  dsimp only
  repeat' split
  all_goals exact ⟨rfl, rfl, rfl, rfl, rfl, rfl, rfl, rfl⟩

/-- A churn that begins leaves the slots, the pails, the clear and the closing of the log. -/
theorem LogSt.beginChurn_keeps (l : LogSt) (now from_ : Nat) :
    let u := l.beginChurn now from_
    u.slots = l.slots ∧ u.clear = l.clear ∧ u.closed = l.closed ∧ u.limit = l.limit ∧ u.pailA = l.pailA ∧ u.pailB = l.pailB ∧
      u.churning = true ∧ u.activeB = l.activeB := by
  have h : ∀ (ds : List Nat) (x : LogSt),
      let u := ds.foldl (fun x sv => x.countDrop sv now from_) x
      u.slots = x.slots ∧ u.clear = x.clear ∧ u.closed = x.closed ∧ u.limit = x.limit ∧ u.pailA = x.pailA ∧ u.pailB = x.pailB ∧
        u.churning = x.churning ∧ u.activeB = x.activeB := by
    intro ds
    induction ds with
    | nil => intro x; exact ⟨rfl, rfl, rfl, rfl, rfl, rfl, rfl, rfl⟩
    | cons d r ih =>
      intro x
      have h1 := ih (x.countDrop d now from_)
      have h2 := x.countDrop_keeps d now from_
      simp only [List.foldl_cons] at h1 ⊢
      simp only [h2] at h1
      exact h1
  have e := h (churnPlan l l.other).drops
    { l with plan := (churnPlan l l.other).slots, next := (churnPlan l l.other).next, churning := true, queued := false,
             urgent := l.trigger && l.urgent, energyWait := false,
             overwritten := (l.overwritten + (churnPlan l l.other).repl) % 4294967296,
             wrapped := l.wrapped || decide (0 < (churnPlan l l.other).repl) }
  exact e

/-- The controller going on keeps the slots, the clear, its limit and the closing of the log. -/
theorem State.nvmStart_log (s : State) :
    let l := s.nvmStart.log
    l.slots = s.log.slots ∧ l.clear = s.log.clear ∧ l.closed = s.log.closed ∧ l.limit = s.log.limit ∧ l.pailA = s.log.pailA ∧
      l.pailB = s.log.pailB := by
  have hb : ∀ u : LogSt, u.slots = s.log.slots → u.clear = s.log.clear → u.closed = s.log.closed → u.limit = s.log.limit →
      u.pailA = s.log.pailA → u.pailB = s.log.pailB → ∀ n f, let l := u.beginChurn n f
      l.slots = s.log.slots ∧ l.clear = s.log.clear ∧ l.closed = s.log.closed ∧ l.limit = s.log.limit ∧ l.pailA = s.log.pailA ∧
        l.pailB = s.log.pailB := by
    intro u h1 h2 h3 h4 h5 h6 n f
    have e := u.beginChurn_keeps n f
    simp only at e ⊢
    rw [← h1, ← h2, ← h3, ← h4, ← h5, ← h6]
    exact ⟨e.1, e.2.1, e.2.2.1, e.2.2.2.1, e.2.2.2.2.1, e.2.2.2.2.2.1⟩
  have hp : let l := s.nvmPick.log
      l.slots = s.log.slots ∧ l.clear = s.log.clear ∧ l.closed = s.log.closed ∧ l.limit = s.log.limit ∧ l.pailA = s.log.pailA ∧
        l.pailB = s.log.pailB := by
    unfold State.nvmPick
    repeat' split
    all_goals first
      | exact ⟨rfl, rfl, rfl, rfl, rfl, rfl⟩
      | exact hb _ rfl rfl rfl rfl rfl rfl _ _
      | (unfold State.nvmGo; dsimp only; split
         · exact hb { s.log with activeB := !s.log.activeB } rfl rfl rfl rfl rfl rfl _ _
         · exact ⟨rfl, rfl, rfl, rfl, rfl, rfl⟩)
  unfold State.nvmStart
  repeat' split
  all_goals first
    | exact ⟨rfl, rfl, rfl, rfl, rfl, rfl⟩
    | exact hb _ rfl rfl rfl rfl rfl rfl _ _
    | exact hp

/-- An operation that waits is under way or waits still after the controller has gone on. -/
theorem State.nvmStart_has {s : State} {o : NvmOp} (h : o ∈ s.nvm.waiting) :
    o ∈ s.nvmStart.nvm.running.toList ++ s.nvmStart.nvm.waiting := by
  have hg : ∀ x : NvmOp, o ∈ (s.nvmGo x).nvm.running.toList ++ (s.nvmGo x).nvm.waiting := by
    intro x
    unfold State.nvmGo
    by_cases e : o = x
    · simp [e]
    · have h2 : o ∈ s.nvm.waiting.erase x := (List.mem_erase_of_ne e).2 h
      simp [h2]
  have hp : o ∈ s.nvmPick.nvm.running.toList ++ s.nvmPick.nvm.waiting := by
    unfold State.nvmPick
    repeat' split
    all_goals first
      | exact hg _
      | exact List.mem_append_right _ h
  unfold State.nvmStart
  repeat' split
  all_goals first
    | exact List.mem_append_right _ h
    | exact List.mem_append_right _ (List.mem_cons_of_mem _ h)
    | exact hp

/-- An operation asked for is under way or waits, under the number that the answer carries. -/
theorem State.nvmRequest_has (s : State) (k : NvmKind) (m : Mem) (a : Nat) : ∃ o : NvmOp,
    o ∈ (s.nvmRequest k m a).1.nvm.running.toList ++ (s.nvmRequest k m a).1.nvm.waiting ∧ o.num = s.nvm.nextNum ∧
      o.kind = k ∧ o.data = m ∧ o.arg = a :=
  ⟨_, State.nvmStart_has (List.mem_append_right _ (List.mem_singleton.2 rfl)), rfl, rfl, rfl, rfl⟩
/-- A refusal changes the log, the host port's slots and the bus. -/
theorem State.refuse_changes (s : State) (f : Flight) (x : Refused) :
    ∃ l r dn m b, s.refuse f x = { s with log := l, host := { s.host with rsp := r, done := dn, mbox := m }, bus := b } := by
  obtain ⟨st, d, p⟩ := x
  have e : ∀ u : State, (∃ l, u = { s with log := l }) → ∃ l r dn m b,
      u.complete f st d p = { s with log := l, host := { s.host with rsp := r, done := dn, mbox := m }, bus := b } := by
    rintro u ⟨l, rfl⟩
    obtain ⟨r, dn, m, b, h⟩ := State.complete_changes { s with log := l } f st d p
    exact ⟨l, r, dn, m, b, h⟩
  unfold State.refuse
  split
  · refine e _ ?_
    unfold State.logStale
    split
    · exact ⟨_, rfl⟩
    · exact ⟨s.log, rfl⟩
  · exact e s ⟨s.log, rfl⟩


/-! ## The fields each of them keeps -/

@[simp] theorem State.sendProto_clk (s : State) (b prio cls index : Nat) (body : List Byte) (role : TxRole) : (s.sendProto b prio cls index body role).clk = s.clk := by
  obtain ⟨_, h⟩ := s.sendProto_changes b prio cls index body role; rw [h]
@[simp] theorem State.sendProto_frame (s : State) (b prio cls index : Nat) (body : List Byte) (role : TxRole) : (s.sendProto b prio cls index body role).frame = s.frame := by
  obtain ⟨_, h⟩ := s.sendProto_changes b prio cls index body role; rw [h]
@[simp] theorem State.sendProto_host (s : State) (b prio cls index : Nat) (body : List Byte) (role : TxRole) : (s.sendProto b prio cls index body role).host = s.host := by
  obtain ⟨_, h⟩ := s.sendProto_changes b prio cls index body role; rw [h]
@[simp] theorem State.sendProto_cfg (s : State) (b prio cls index : Nat) (body : List Byte) (role : TxRole) : (s.sendProto b prio cls index body role).cfg = s.cfg := by
  obtain ⟨_, h⟩ := s.sendProto_changes b prio cls index body role; rw [h]
@[simp] theorem State.sendProto_nvm (s : State) (b prio cls index : Nat) (body : List Byte) (role : TxRole) : (s.sendProto b prio cls index body role).nvm = s.nvm := by
  obtain ⟨_, h⟩ := s.sendProto_changes b prio cls index body role; rw [h]
@[simp] theorem State.sendProto_log (s : State) (b prio cls index : Nat) (body : List Byte) (role : TxRole) : (s.sendProto b prio cls index body role).log = s.log := by
  obtain ⟨_, h⟩ := s.sendProto_changes b prio cls index body role; rw [h]
@[simp] theorem State.sendProto_bkp (s : State) (b prio cls index : Nat) (body : List Byte) (role : TxRole) : (s.sendProto b prio cls index body role).bkp = s.bkp := by
  obtain ⟨_, h⟩ := s.sendProto_changes b prio cls index body role; rw [h]
@[simp] theorem State.sendProto_pwr (s : State) (b prio cls index : Nat) (body : List Byte) (role : TxRole) : (s.sendProto b prio cls index body role).pwr = s.pwr := by
  obtain ⟨_, h⟩ := s.sendProto_changes b prio cls index body role; rw [h]
@[simp] theorem State.sendProto_rst (s : State) (b prio cls index : Nat) (body : List Byte) (role : TxRole) : (s.sendProto b prio cls index body role).rst = s.rst := by
  obtain ⟨_, h⟩ := s.sendProto_changes b prio cls index body role; rw [h]
@[simp] theorem State.sendProto_banks (s : State) (b prio cls index : Nat) (body : List Byte) (role : TxRole) : (s.sendProto b prio cls index body role).banks = s.banks := by
  obtain ⟨_, h⟩ := s.sendProto_changes b prio cls index body role; rw [h]
@[simp] theorem State.sendProto_chans (s : State) (b prio cls index : Nat) (body : List Byte) (role : TxRole) : (s.sendProto b prio cls index body role).chans = s.chans := by
  obtain ⟨_, h⟩ := s.sendProto_changes b prio cls index body role; rw [h]
@[simp] theorem State.sendProto_outs (s : State) (b prio cls index : Nat) (body : List Byte) (role : TxRole) : (s.sendProto b prio cls index body role).outs = s.outs := by
  obtain ⟨_, h⟩ := s.sendProto_changes b prio cls index body role; rw [h]
@[simp] theorem State.sendProto_modems (s : State) (b prio cls index : Nat) (body : List Byte) (role : TxRole) : (s.sendProto b prio cls index body role).modems = s.modems := by
  obtain ⟨_, h⟩ := s.sendProto_changes b prio cls index body role; rw [h]
@[simp] theorem State.sendProto_notch (s : State) (b prio cls index : Nat) (body : List Byte) (role : TxRole) : (s.sendProto b prio cls index body role).notch = s.notch := by
  obtain ⟨_, h⟩ := s.sendProto_changes b prio cls index body role; rw [h]
@[simp] theorem State.sendProto_cal (s : State) (b prio cls index : Nat) (body : List Byte) (role : TxRole) : (s.sendProto b prio cls index body role).cal = s.cal := by
  obtain ⟨_, h⟩ := s.sendProto_changes b prio cls index body role; rw [h]
@[simp] theorem State.sendProto_vib (s : State) (b prio cls index : Nat) (body : List Byte) (role : TxRole) : (s.sendProto b prio cls index body role).vib = s.vib := by
  obtain ⟨_, h⟩ := s.sendProto_changes b prio cls index body role; rw [h]
@[simp] theorem State.sendProto_eng (s : State) (b prio cls index : Nat) (body : List Byte) (role : TxRole) : (s.sendProto b prio cls index body role).eng = s.eng := by
  obtain ⟨_, h⟩ := s.sendProto_changes b prio cls index body role; rw [h]
@[simp] theorem State.sendProto_prev (s : State) (b prio cls index : Nat) (body : List Byte) (role : TxRole) : (s.sendProto b prio cls index body role).prev = s.prev := by
  obtain ⟨_, h⟩ := s.sendProto_changes b prio cls index body role; rw [h]
@[simp] theorem State.sendProto_frameRecs (s : State) (b prio cls index : Nat) (body : List Byte) (role : TxRole) : (s.sendProto b prio cls index body role).frameRecs = s.frameRecs := by
  obtain ⟨_, h⟩ := s.sendProto_changes b prio cls index body role; rw [h]
@[simp] theorem State.sendProto_frameMsgs (s : State) (b prio cls index : Nat) (body : List Byte) (role : TxRole) : (s.sendProto b prio cls index body role).frameMsgs = s.frameMsgs := by
  obtain ⟨_, h⟩ := s.sendProto_changes b prio cls index body role; rw [h]
@[simp] theorem State.sendProto_live (s : State) (b prio cls index : Nat) (body : List Byte) (role : TxRole) : (s.sendProto b prio cls index body role).live = s.live := by
  obtain ⟨_, h⟩ := s.sendProto_changes b prio cls index body role; rw [h]
@[simp] theorem State.sendProto_encs (s : State) (b prio cls index : Nat) (body : List Byte) (role : TxRole) : (s.sendProto b prio cls index body role).encs = s.encs := by
  obtain ⟨_, h⟩ := s.sendProto_changes b prio cls index body role; rw [h]
@[simp] theorem State.sendProto_disp (s : State) (b prio cls index : Nat) (body : List Byte) (role : TxRole) : (s.sendProto b prio cls index body role).disp = s.disp := by
  obtain ⟨_, h⟩ := s.sendProto_changes b prio cls index body role; rw [h]
@[simp] theorem State.sendProto_dis (s : State) (b prio cls index : Nat) (body : List Byte) (role : TxRole) : (s.sendProto b prio cls index body role).dis = s.dis := by
  obtain ⟨_, h⟩ := s.sendProto_changes b prio cls index body role; rw [h]
@[simp] theorem State.sendProto_aos (s : State) (b prio cls index : Nat) (body : List Byte) (role : TxRole) : (s.sendProto b prio cls index body role).aos = s.aos := by
  obtain ⟨_, h⟩ := s.sendProto_changes b prio cls index body role; rw [h]
@[simp] theorem State.sendProto_nok (s : State) (b prio cls index : Nat) (body : List Byte) (role : TxRole) : (s.sendProto b prio cls index body role).nok = s.nok := by
  obtain ⟨_, h⟩ := s.sendProto_changes b prio cls index body role; rw [h]
@[simp] theorem State.sendProto_sec (s : State) (b prio cls index : Nat) (body : List Byte) (role : TxRole) : (s.sendProto b prio cls index body role).sec = s.sec := by
  obtain ⟨_, h⟩ := s.sendProto_changes b prio cls index body role; rw [h]
@[simp] theorem State.sendProto_free (s : State) (b prio cls index : Nat) (body : List Byte) (role : TxRole) : (s.sendProto b prio cls index body role).free = s.free := by
  obtain ⟨_, h⟩ := s.sendProto_changes b prio cls index body role; rw [h]
@[simp] theorem State.sendProto_pending (s : State) (b prio cls index : Nat) (body : List Byte) (role : TxRole) : (s.sendProto b prio cls index body role).pending = s.pending := by
  obtain ⟨_, h⟩ := s.sendProto_changes b prio cls index body role; rw [h]
@[simp] theorem State.sendCulvert_clk (s : State) (b cls dst tr : Nat) (l : List Byte) (n : Nat) (role : TxRole) : (s.sendCulvert b cls dst tr l n role).clk = s.clk := by
  obtain ⟨_, h⟩ := s.sendCulvert_changes b cls dst tr l n role; rw [h]
@[simp] theorem State.sendCulvert_frame (s : State) (b cls dst tr : Nat) (l : List Byte) (n : Nat) (role : TxRole) : (s.sendCulvert b cls dst tr l n role).frame = s.frame := by
  obtain ⟨_, h⟩ := s.sendCulvert_changes b cls dst tr l n role; rw [h]
@[simp] theorem State.sendCulvert_host (s : State) (b cls dst tr : Nat) (l : List Byte) (n : Nat) (role : TxRole) : (s.sendCulvert b cls dst tr l n role).host = s.host := by
  obtain ⟨_, h⟩ := s.sendCulvert_changes b cls dst tr l n role; rw [h]
@[simp] theorem State.sendCulvert_cfg (s : State) (b cls dst tr : Nat) (l : List Byte) (n : Nat) (role : TxRole) : (s.sendCulvert b cls dst tr l n role).cfg = s.cfg := by
  obtain ⟨_, h⟩ := s.sendCulvert_changes b cls dst tr l n role; rw [h]
@[simp] theorem State.sendCulvert_nvm (s : State) (b cls dst tr : Nat) (l : List Byte) (n : Nat) (role : TxRole) : (s.sendCulvert b cls dst tr l n role).nvm = s.nvm := by
  obtain ⟨_, h⟩ := s.sendCulvert_changes b cls dst tr l n role; rw [h]
@[simp] theorem State.sendCulvert_log (s : State) (b cls dst tr : Nat) (l : List Byte) (n : Nat) (role : TxRole) : (s.sendCulvert b cls dst tr l n role).log = s.log := by
  obtain ⟨_, h⟩ := s.sendCulvert_changes b cls dst tr l n role; rw [h]
@[simp] theorem State.sendCulvert_bkp (s : State) (b cls dst tr : Nat) (l : List Byte) (n : Nat) (role : TxRole) : (s.sendCulvert b cls dst tr l n role).bkp = s.bkp := by
  obtain ⟨_, h⟩ := s.sendCulvert_changes b cls dst tr l n role; rw [h]
@[simp] theorem State.sendCulvert_pwr (s : State) (b cls dst tr : Nat) (l : List Byte) (n : Nat) (role : TxRole) : (s.sendCulvert b cls dst tr l n role).pwr = s.pwr := by
  obtain ⟨_, h⟩ := s.sendCulvert_changes b cls dst tr l n role; rw [h]
@[simp] theorem State.sendCulvert_rst (s : State) (b cls dst tr : Nat) (l : List Byte) (n : Nat) (role : TxRole) : (s.sendCulvert b cls dst tr l n role).rst = s.rst := by
  obtain ⟨_, h⟩ := s.sendCulvert_changes b cls dst tr l n role; rw [h]
@[simp] theorem State.sendCulvert_banks (s : State) (b cls dst tr : Nat) (l : List Byte) (n : Nat) (role : TxRole) : (s.sendCulvert b cls dst tr l n role).banks = s.banks := by
  obtain ⟨_, h⟩ := s.sendCulvert_changes b cls dst tr l n role; rw [h]
@[simp] theorem State.sendCulvert_chans (s : State) (b cls dst tr : Nat) (l : List Byte) (n : Nat) (role : TxRole) : (s.sendCulvert b cls dst tr l n role).chans = s.chans := by
  obtain ⟨_, h⟩ := s.sendCulvert_changes b cls dst tr l n role; rw [h]
@[simp] theorem State.sendCulvert_outs (s : State) (b cls dst tr : Nat) (l : List Byte) (n : Nat) (role : TxRole) : (s.sendCulvert b cls dst tr l n role).outs = s.outs := by
  obtain ⟨_, h⟩ := s.sendCulvert_changes b cls dst tr l n role; rw [h]
@[simp] theorem State.sendCulvert_modems (s : State) (b cls dst tr : Nat) (l : List Byte) (n : Nat) (role : TxRole) : (s.sendCulvert b cls dst tr l n role).modems = s.modems := by
  obtain ⟨_, h⟩ := s.sendCulvert_changes b cls dst tr l n role; rw [h]
@[simp] theorem State.sendCulvert_notch (s : State) (b cls dst tr : Nat) (l : List Byte) (n : Nat) (role : TxRole) : (s.sendCulvert b cls dst tr l n role).notch = s.notch := by
  obtain ⟨_, h⟩ := s.sendCulvert_changes b cls dst tr l n role; rw [h]
@[simp] theorem State.sendCulvert_cal (s : State) (b cls dst tr : Nat) (l : List Byte) (n : Nat) (role : TxRole) : (s.sendCulvert b cls dst tr l n role).cal = s.cal := by
  obtain ⟨_, h⟩ := s.sendCulvert_changes b cls dst tr l n role; rw [h]
@[simp] theorem State.sendCulvert_vib (s : State) (b cls dst tr : Nat) (l : List Byte) (n : Nat) (role : TxRole) : (s.sendCulvert b cls dst tr l n role).vib = s.vib := by
  obtain ⟨_, h⟩ := s.sendCulvert_changes b cls dst tr l n role; rw [h]
@[simp] theorem State.sendCulvert_eng (s : State) (b cls dst tr : Nat) (l : List Byte) (n : Nat) (role : TxRole) : (s.sendCulvert b cls dst tr l n role).eng = s.eng := by
  obtain ⟨_, h⟩ := s.sendCulvert_changes b cls dst tr l n role; rw [h]
@[simp] theorem State.sendCulvert_prev (s : State) (b cls dst tr : Nat) (l : List Byte) (n : Nat) (role : TxRole) : (s.sendCulvert b cls dst tr l n role).prev = s.prev := by
  obtain ⟨_, h⟩ := s.sendCulvert_changes b cls dst tr l n role; rw [h]
@[simp] theorem State.sendCulvert_frameRecs (s : State) (b cls dst tr : Nat) (l : List Byte) (n : Nat) (role : TxRole) : (s.sendCulvert b cls dst tr l n role).frameRecs = s.frameRecs := by
  obtain ⟨_, h⟩ := s.sendCulvert_changes b cls dst tr l n role; rw [h]
@[simp] theorem State.sendCulvert_frameMsgs (s : State) (b cls dst tr : Nat) (l : List Byte) (n : Nat) (role : TxRole) : (s.sendCulvert b cls dst tr l n role).frameMsgs = s.frameMsgs := by
  obtain ⟨_, h⟩ := s.sendCulvert_changes b cls dst tr l n role; rw [h]
@[simp] theorem State.sendCulvert_live (s : State) (b cls dst tr : Nat) (l : List Byte) (n : Nat) (role : TxRole) : (s.sendCulvert b cls dst tr l n role).live = s.live := by
  obtain ⟨_, h⟩ := s.sendCulvert_changes b cls dst tr l n role; rw [h]
@[simp] theorem State.sendCulvert_encs (s : State) (b cls dst tr : Nat) (l : List Byte) (n : Nat) (role : TxRole) : (s.sendCulvert b cls dst tr l n role).encs = s.encs := by
  obtain ⟨_, h⟩ := s.sendCulvert_changes b cls dst tr l n role; rw [h]
@[simp] theorem State.sendCulvert_disp (s : State) (b cls dst tr : Nat) (l : List Byte) (n : Nat) (role : TxRole) : (s.sendCulvert b cls dst tr l n role).disp = s.disp := by
  obtain ⟨_, h⟩ := s.sendCulvert_changes b cls dst tr l n role; rw [h]
@[simp] theorem State.sendCulvert_dis (s : State) (b cls dst tr : Nat) (l : List Byte) (n : Nat) (role : TxRole) : (s.sendCulvert b cls dst tr l n role).dis = s.dis := by
  obtain ⟨_, h⟩ := s.sendCulvert_changes b cls dst tr l n role; rw [h]
@[simp] theorem State.sendCulvert_aos (s : State) (b cls dst tr : Nat) (l : List Byte) (n : Nat) (role : TxRole) : (s.sendCulvert b cls dst tr l n role).aos = s.aos := by
  obtain ⟨_, h⟩ := s.sendCulvert_changes b cls dst tr l n role; rw [h]
@[simp] theorem State.sendCulvert_nok (s : State) (b cls dst tr : Nat) (l : List Byte) (n : Nat) (role : TxRole) : (s.sendCulvert b cls dst tr l n role).nok = s.nok := by
  obtain ⟨_, h⟩ := s.sendCulvert_changes b cls dst tr l n role; rw [h]
@[simp] theorem State.sendCulvert_sec (s : State) (b cls dst tr : Nat) (l : List Byte) (n : Nat) (role : TxRole) : (s.sendCulvert b cls dst tr l n role).sec = s.sec := by
  obtain ⟨_, h⟩ := s.sendCulvert_changes b cls dst tr l n role; rw [h]
@[simp] theorem State.sendCulvert_free (s : State) (b cls dst tr : Nat) (l : List Byte) (n : Nat) (role : TxRole) : (s.sendCulvert b cls dst tr l n role).free = s.free := by
  obtain ⟨_, h⟩ := s.sendCulvert_changes b cls dst tr l n role; rw [h]
@[simp] theorem State.sendCulvert_pending (s : State) (b cls dst tr : Nat) (l : List Byte) (n : Nat) (role : TxRole) : (s.sendCulvert b cls dst tr l n role).pending = s.pending := by
  obtain ⟨_, h⟩ := s.sendCulvert_changes b cls dst tr l n role; rw [h]
@[simp] theorem State.complete_clk (s : State) (f : Flight) (st : Status) (d : Nat) (p : List Byte) : (s.complete f st d p).clk = s.clk := by
  obtain ⟨_, _, _, _, h⟩ := s.complete_changes f st d p; rw [h]
@[simp] theorem State.complete_frame (s : State) (f : Flight) (st : Status) (d : Nat) (p : List Byte) : (s.complete f st d p).frame = s.frame := by
  obtain ⟨_, _, _, _, h⟩ := s.complete_changes f st d p; rw [h]
@[simp] theorem State.complete_cfg (s : State) (f : Flight) (st : Status) (d : Nat) (p : List Byte) : (s.complete f st d p).cfg = s.cfg := by
  obtain ⟨_, _, _, _, h⟩ := s.complete_changes f st d p; rw [h]
@[simp] theorem State.complete_nvm (s : State) (f : Flight) (st : Status) (d : Nat) (p : List Byte) : (s.complete f st d p).nvm = s.nvm := by
  obtain ⟨_, _, _, _, h⟩ := s.complete_changes f st d p; rw [h]
@[simp] theorem State.complete_log (s : State) (f : Flight) (st : Status) (d : Nat) (p : List Byte) : (s.complete f st d p).log = s.log := by
  obtain ⟨_, _, _, _, h⟩ := s.complete_changes f st d p; rw [h]
@[simp] theorem State.complete_bkp (s : State) (f : Flight) (st : Status) (d : Nat) (p : List Byte) : (s.complete f st d p).bkp = s.bkp := by
  obtain ⟨_, _, _, _, h⟩ := s.complete_changes f st d p; rw [h]
@[simp] theorem State.complete_pwr (s : State) (f : Flight) (st : Status) (d : Nat) (p : List Byte) : (s.complete f st d p).pwr = s.pwr := by
  obtain ⟨_, _, _, _, h⟩ := s.complete_changes f st d p; rw [h]
@[simp] theorem State.complete_rst (s : State) (f : Flight) (st : Status) (d : Nat) (p : List Byte) : (s.complete f st d p).rst = s.rst := by
  obtain ⟨_, _, _, _, h⟩ := s.complete_changes f st d p; rw [h]
@[simp] theorem State.complete_banks (s : State) (f : Flight) (st : Status) (d : Nat) (p : List Byte) : (s.complete f st d p).banks = s.banks := by
  obtain ⟨_, _, _, _, h⟩ := s.complete_changes f st d p; rw [h]
@[simp] theorem State.complete_chans (s : State) (f : Flight) (st : Status) (d : Nat) (p : List Byte) : (s.complete f st d p).chans = s.chans := by
  obtain ⟨_, _, _, _, h⟩ := s.complete_changes f st d p; rw [h]
@[simp] theorem State.complete_outs (s : State) (f : Flight) (st : Status) (d : Nat) (p : List Byte) : (s.complete f st d p).outs = s.outs := by
  obtain ⟨_, _, _, _, h⟩ := s.complete_changes f st d p; rw [h]
@[simp] theorem State.complete_modems (s : State) (f : Flight) (st : Status) (d : Nat) (p : List Byte) : (s.complete f st d p).modems = s.modems := by
  obtain ⟨_, _, _, _, h⟩ := s.complete_changes f st d p; rw [h]
@[simp] theorem State.complete_notch (s : State) (f : Flight) (st : Status) (d : Nat) (p : List Byte) : (s.complete f st d p).notch = s.notch := by
  obtain ⟨_, _, _, _, h⟩ := s.complete_changes f st d p; rw [h]
@[simp] theorem State.complete_cal (s : State) (f : Flight) (st : Status) (d : Nat) (p : List Byte) : (s.complete f st d p).cal = s.cal := by
  obtain ⟨_, _, _, _, h⟩ := s.complete_changes f st d p; rw [h]
@[simp] theorem State.complete_vib (s : State) (f : Flight) (st : Status) (d : Nat) (p : List Byte) : (s.complete f st d p).vib = s.vib := by
  obtain ⟨_, _, _, _, h⟩ := s.complete_changes f st d p; rw [h]
@[simp] theorem State.complete_eng (s : State) (f : Flight) (st : Status) (d : Nat) (p : List Byte) : (s.complete f st d p).eng = s.eng := by
  obtain ⟨_, _, _, _, h⟩ := s.complete_changes f st d p; rw [h]
@[simp] theorem State.complete_prev (s : State) (f : Flight) (st : Status) (d : Nat) (p : List Byte) : (s.complete f st d p).prev = s.prev := by
  obtain ⟨_, _, _, _, h⟩ := s.complete_changes f st d p; rw [h]
@[simp] theorem State.complete_frameRecs (s : State) (f : Flight) (st : Status) (d : Nat) (p : List Byte) : (s.complete f st d p).frameRecs = s.frameRecs := by
  obtain ⟨_, _, _, _, h⟩ := s.complete_changes f st d p; rw [h]
@[simp] theorem State.complete_frameMsgs (s : State) (f : Flight) (st : Status) (d : Nat) (p : List Byte) : (s.complete f st d p).frameMsgs = s.frameMsgs := by
  obtain ⟨_, _, _, _, h⟩ := s.complete_changes f st d p; rw [h]
@[simp] theorem State.complete_live (s : State) (f : Flight) (st : Status) (d : Nat) (p : List Byte) : (s.complete f st d p).live = s.live := by
  obtain ⟨_, _, _, _, h⟩ := s.complete_changes f st d p; rw [h]
@[simp] theorem State.complete_encs (s : State) (f : Flight) (st : Status) (d : Nat) (p : List Byte) : (s.complete f st d p).encs = s.encs := by
  obtain ⟨_, _, _, _, h⟩ := s.complete_changes f st d p; rw [h]
@[simp] theorem State.complete_disp (s : State) (f : Flight) (st : Status) (d : Nat) (p : List Byte) : (s.complete f st d p).disp = s.disp := by
  obtain ⟨_, _, _, _, h⟩ := s.complete_changes f st d p; rw [h]
@[simp] theorem State.complete_dis (s : State) (f : Flight) (st : Status) (d : Nat) (p : List Byte) : (s.complete f st d p).dis = s.dis := by
  obtain ⟨_, _, _, _, h⟩ := s.complete_changes f st d p; rw [h]
@[simp] theorem State.complete_aos (s : State) (f : Flight) (st : Status) (d : Nat) (p : List Byte) : (s.complete f st d p).aos = s.aos := by
  obtain ⟨_, _, _, _, h⟩ := s.complete_changes f st d p; rw [h]
@[simp] theorem State.complete_nok (s : State) (f : Flight) (st : Status) (d : Nat) (p : List Byte) : (s.complete f st d p).nok = s.nok := by
  obtain ⟨_, _, _, _, h⟩ := s.complete_changes f st d p; rw [h]
@[simp] theorem State.complete_sec (s : State) (f : Flight) (st : Status) (d : Nat) (p : List Byte) : (s.complete f st d p).sec = s.sec := by
  obtain ⟨_, _, _, _, h⟩ := s.complete_changes f st d p; rw [h]
@[simp] theorem State.complete_free (s : State) (f : Flight) (st : Status) (d : Nat) (p : List Byte) : (s.complete f st d p).free = s.free := by
  obtain ⟨_, _, _, _, h⟩ := s.complete_changes f st d p; rw [h]
@[simp] theorem State.complete_pending (s : State) (f : Flight) (st : Status) (d : Nat) (p : List Byte) : (s.complete f st d p).pending = s.pending := by
  obtain ⟨_, _, _, _, h⟩ := s.complete_changes f st d p; rw [h]
@[simp] theorem State.endWaits_clk (s : State) (sel : WaitKind → Option (Status × Nat × List Byte)) : (s.endWaits sel).clk = s.clk := by
  obtain ⟨_, _, h⟩ := s.endWaits_changes sel; rw [h]
@[simp] theorem State.endWaits_frame (s : State) (sel : WaitKind → Option (Status × Nat × List Byte)) : (s.endWaits sel).frame = s.frame := by
  obtain ⟨_, _, h⟩ := s.endWaits_changes sel; rw [h]
@[simp] theorem State.endWaits_cfg (s : State) (sel : WaitKind → Option (Status × Nat × List Byte)) : (s.endWaits sel).cfg = s.cfg := by
  obtain ⟨_, _, h⟩ := s.endWaits_changes sel; rw [h]
@[simp] theorem State.endWaits_nvm (s : State) (sel : WaitKind → Option (Status × Nat × List Byte)) : (s.endWaits sel).nvm = s.nvm := by
  obtain ⟨_, _, h⟩ := s.endWaits_changes sel; rw [h]
@[simp] theorem State.endWaits_log (s : State) (sel : WaitKind → Option (Status × Nat × List Byte)) : (s.endWaits sel).log = s.log := by
  obtain ⟨_, _, h⟩ := s.endWaits_changes sel; rw [h]
@[simp] theorem State.endWaits_bkp (s : State) (sel : WaitKind → Option (Status × Nat × List Byte)) : (s.endWaits sel).bkp = s.bkp := by
  obtain ⟨_, _, h⟩ := s.endWaits_changes sel; rw [h]
@[simp] theorem State.endWaits_pwr (s : State) (sel : WaitKind → Option (Status × Nat × List Byte)) : (s.endWaits sel).pwr = s.pwr := by
  obtain ⟨_, _, h⟩ := s.endWaits_changes sel; rw [h]
@[simp] theorem State.endWaits_rst (s : State) (sel : WaitKind → Option (Status × Nat × List Byte)) : (s.endWaits sel).rst = s.rst := by
  obtain ⟨_, _, h⟩ := s.endWaits_changes sel; rw [h]
@[simp] theorem State.endWaits_banks (s : State) (sel : WaitKind → Option (Status × Nat × List Byte)) : (s.endWaits sel).banks = s.banks := by
  obtain ⟨_, _, h⟩ := s.endWaits_changes sel; rw [h]
@[simp] theorem State.endWaits_chans (s : State) (sel : WaitKind → Option (Status × Nat × List Byte)) : (s.endWaits sel).chans = s.chans := by
  obtain ⟨_, _, h⟩ := s.endWaits_changes sel; rw [h]
@[simp] theorem State.endWaits_outs (s : State) (sel : WaitKind → Option (Status × Nat × List Byte)) : (s.endWaits sel).outs = s.outs := by
  obtain ⟨_, _, h⟩ := s.endWaits_changes sel; rw [h]
@[simp] theorem State.endWaits_modems (s : State) (sel : WaitKind → Option (Status × Nat × List Byte)) : (s.endWaits sel).modems = s.modems := by
  obtain ⟨_, _, h⟩ := s.endWaits_changes sel; rw [h]
@[simp] theorem State.endWaits_notch (s : State) (sel : WaitKind → Option (Status × Nat × List Byte)) : (s.endWaits sel).notch = s.notch := by
  obtain ⟨_, _, h⟩ := s.endWaits_changes sel; rw [h]
@[simp] theorem State.endWaits_cal (s : State) (sel : WaitKind → Option (Status × Nat × List Byte)) : (s.endWaits sel).cal = s.cal := by
  obtain ⟨_, _, h⟩ := s.endWaits_changes sel; rw [h]
@[simp] theorem State.endWaits_vib (s : State) (sel : WaitKind → Option (Status × Nat × List Byte)) : (s.endWaits sel).vib = s.vib := by
  obtain ⟨_, _, h⟩ := s.endWaits_changes sel; rw [h]
@[simp] theorem State.endWaits_eng (s : State) (sel : WaitKind → Option (Status × Nat × List Byte)) : (s.endWaits sel).eng = s.eng := by
  obtain ⟨_, _, h⟩ := s.endWaits_changes sel; rw [h]
@[simp] theorem State.endWaits_prev (s : State) (sel : WaitKind → Option (Status × Nat × List Byte)) : (s.endWaits sel).prev = s.prev := by
  obtain ⟨_, _, h⟩ := s.endWaits_changes sel; rw [h]
@[simp] theorem State.endWaits_frameRecs (s : State) (sel : WaitKind → Option (Status × Nat × List Byte)) : (s.endWaits sel).frameRecs = s.frameRecs := by
  obtain ⟨_, _, h⟩ := s.endWaits_changes sel; rw [h]
@[simp] theorem State.endWaits_frameMsgs (s : State) (sel : WaitKind → Option (Status × Nat × List Byte)) : (s.endWaits sel).frameMsgs = s.frameMsgs := by
  obtain ⟨_, _, h⟩ := s.endWaits_changes sel; rw [h]
@[simp] theorem State.endWaits_live (s : State) (sel : WaitKind → Option (Status × Nat × List Byte)) : (s.endWaits sel).live = s.live := by
  obtain ⟨_, _, h⟩ := s.endWaits_changes sel; rw [h]
@[simp] theorem State.endWaits_encs (s : State) (sel : WaitKind → Option (Status × Nat × List Byte)) : (s.endWaits sel).encs = s.encs := by
  obtain ⟨_, _, h⟩ := s.endWaits_changes sel; rw [h]
@[simp] theorem State.endWaits_disp (s : State) (sel : WaitKind → Option (Status × Nat × List Byte)) : (s.endWaits sel).disp = s.disp := by
  obtain ⟨_, _, h⟩ := s.endWaits_changes sel; rw [h]
@[simp] theorem State.endWaits_dis (s : State) (sel : WaitKind → Option (Status × Nat × List Byte)) : (s.endWaits sel).dis = s.dis := by
  obtain ⟨_, _, h⟩ := s.endWaits_changes sel; rw [h]
@[simp] theorem State.endWaits_aos (s : State) (sel : WaitKind → Option (Status × Nat × List Byte)) : (s.endWaits sel).aos = s.aos := by
  obtain ⟨_, _, h⟩ := s.endWaits_changes sel; rw [h]
@[simp] theorem State.endWaits_nok (s : State) (sel : WaitKind → Option (Status × Nat × List Byte)) : (s.endWaits sel).nok = s.nok := by
  obtain ⟨_, _, h⟩ := s.endWaits_changes sel; rw [h]
@[simp] theorem State.endWaits_sec (s : State) (sel : WaitKind → Option (Status × Nat × List Byte)) : (s.endWaits sel).sec = s.sec := by
  obtain ⟨_, _, h⟩ := s.endWaits_changes sel; rw [h]
@[simp] theorem State.endWaits_free (s : State) (sel : WaitKind → Option (Status × Nat × List Byte)) : (s.endWaits sel).free = s.free := by
  obtain ⟨_, _, h⟩ := s.endWaits_changes sel; rw [h]
@[simp] theorem State.endWaits_pending (s : State) (sel : WaitKind → Option (Status × Nat × List Byte)) : (s.endWaits sel).pending = s.pending := by
  obtain ⟨_, _, h⟩ := s.endWaits_changes sel; rw [h]
@[simp] theorem State.nvmStart_clk (s : State)  : (s.nvmStart ).clk = s.clk := by
  obtain ⟨_, _, h⟩ := s.nvmStart_changes ; rw [h]
@[simp] theorem State.nvmStart_frame (s : State)  : (s.nvmStart ).frame = s.frame := by
  obtain ⟨_, _, h⟩ := s.nvmStart_changes ; rw [h]
@[simp] theorem State.nvmStart_host (s : State)  : (s.nvmStart ).host = s.host := by
  obtain ⟨_, _, h⟩ := s.nvmStart_changes ; rw [h]
@[simp] theorem State.nvmStart_cfg (s : State)  : (s.nvmStart ).cfg = s.cfg := by
  obtain ⟨_, _, h⟩ := s.nvmStart_changes ; rw [h]
@[simp] theorem State.nvmStart_bkp (s : State)  : (s.nvmStart ).bkp = s.bkp := by
  obtain ⟨_, _, h⟩ := s.nvmStart_changes ; rw [h]
@[simp] theorem State.nvmStart_pwr (s : State)  : (s.nvmStart ).pwr = s.pwr := by
  obtain ⟨_, _, h⟩ := s.nvmStart_changes ; rw [h]
@[simp] theorem State.nvmStart_rst (s : State)  : (s.nvmStart ).rst = s.rst := by
  obtain ⟨_, _, h⟩ := s.nvmStart_changes ; rw [h]
@[simp] theorem State.nvmStart_bus (s : State)  : (s.nvmStart ).bus = s.bus := by
  obtain ⟨_, _, h⟩ := s.nvmStart_changes ; rw [h]
@[simp] theorem State.nvmStart_banks (s : State)  : (s.nvmStart ).banks = s.banks := by
  obtain ⟨_, _, h⟩ := s.nvmStart_changes ; rw [h]
@[simp] theorem State.nvmStart_chans (s : State)  : (s.nvmStart ).chans = s.chans := by
  obtain ⟨_, _, h⟩ := s.nvmStart_changes ; rw [h]
@[simp] theorem State.nvmStart_outs (s : State)  : (s.nvmStart ).outs = s.outs := by
  obtain ⟨_, _, h⟩ := s.nvmStart_changes ; rw [h]
@[simp] theorem State.nvmStart_modems (s : State)  : (s.nvmStart ).modems = s.modems := by
  obtain ⟨_, _, h⟩ := s.nvmStart_changes ; rw [h]
@[simp] theorem State.nvmStart_notch (s : State)  : (s.nvmStart ).notch = s.notch := by
  obtain ⟨_, _, h⟩ := s.nvmStart_changes ; rw [h]
@[simp] theorem State.nvmStart_cal (s : State)  : (s.nvmStart ).cal = s.cal := by
  obtain ⟨_, _, h⟩ := s.nvmStart_changes ; rw [h]
@[simp] theorem State.nvmStart_vib (s : State)  : (s.nvmStart ).vib = s.vib := by
  obtain ⟨_, _, h⟩ := s.nvmStart_changes ; rw [h]
@[simp] theorem State.nvmStart_eng (s : State)  : (s.nvmStart ).eng = s.eng := by
  obtain ⟨_, _, h⟩ := s.nvmStart_changes ; rw [h]
@[simp] theorem State.nvmStart_prev (s : State)  : (s.nvmStart ).prev = s.prev := by
  obtain ⟨_, _, h⟩ := s.nvmStart_changes ; rw [h]
@[simp] theorem State.nvmStart_frameRecs (s : State)  : (s.nvmStart ).frameRecs = s.frameRecs := by
  obtain ⟨_, _, h⟩ := s.nvmStart_changes ; rw [h]
@[simp] theorem State.nvmStart_frameMsgs (s : State)  : (s.nvmStart ).frameMsgs = s.frameMsgs := by
  obtain ⟨_, _, h⟩ := s.nvmStart_changes ; rw [h]
@[simp] theorem State.nvmStart_live (s : State)  : (s.nvmStart ).live = s.live := by
  obtain ⟨_, _, h⟩ := s.nvmStart_changes ; rw [h]
@[simp] theorem State.nvmStart_encs (s : State)  : (s.nvmStart ).encs = s.encs := by
  obtain ⟨_, _, h⟩ := s.nvmStart_changes ; rw [h]
@[simp] theorem State.nvmStart_disp (s : State)  : (s.nvmStart ).disp = s.disp := by
  obtain ⟨_, _, h⟩ := s.nvmStart_changes ; rw [h]
@[simp] theorem State.nvmStart_dis (s : State)  : (s.nvmStart ).dis = s.dis := by
  obtain ⟨_, _, h⟩ := s.nvmStart_changes ; rw [h]
@[simp] theorem State.nvmStart_aos (s : State)  : (s.nvmStart ).aos = s.aos := by
  obtain ⟨_, _, h⟩ := s.nvmStart_changes ; rw [h]
@[simp] theorem State.nvmStart_nok (s : State)  : (s.nvmStart ).nok = s.nok := by
  obtain ⟨_, _, h⟩ := s.nvmStart_changes ; rw [h]
@[simp] theorem State.nvmStart_sec (s : State)  : (s.nvmStart ).sec = s.sec := by
  obtain ⟨_, _, h⟩ := s.nvmStart_changes ; rw [h]
@[simp] theorem State.nvmStart_free (s : State)  : (s.nvmStart ).free = s.free := by
  obtain ⟨_, _, h⟩ := s.nvmStart_changes ; rw [h]
@[simp] theorem State.nvmStart_pending (s : State)  : (s.nvmStart ).pending = s.pending := by
  obtain ⟨_, _, h⟩ := s.nvmStart_changes ; rw [h]
@[simp] theorem State.refuse_clk (s : State) (f : Flight) (x : Refused) : (s.refuse f x).clk = s.clk := by
  obtain ⟨_, _, _, _, _, h⟩ := s.refuse_changes f x; rw [h]
@[simp] theorem State.refuse_frame (s : State) (f : Flight) (x : Refused) : (s.refuse f x).frame = s.frame := by
  obtain ⟨_, _, _, _, _, h⟩ := s.refuse_changes f x; rw [h]
@[simp] theorem State.refuse_cfg (s : State) (f : Flight) (x : Refused) : (s.refuse f x).cfg = s.cfg := by
  obtain ⟨_, _, _, _, _, h⟩ := s.refuse_changes f x; rw [h]
@[simp] theorem State.refuse_nvm (s : State) (f : Flight) (x : Refused) : (s.refuse f x).nvm = s.nvm := by
  obtain ⟨_, _, _, _, _, h⟩ := s.refuse_changes f x; rw [h]
@[simp] theorem State.refuse_bkp (s : State) (f : Flight) (x : Refused) : (s.refuse f x).bkp = s.bkp := by
  obtain ⟨_, _, _, _, _, h⟩ := s.refuse_changes f x; rw [h]
@[simp] theorem State.refuse_pwr (s : State) (f : Flight) (x : Refused) : (s.refuse f x).pwr = s.pwr := by
  obtain ⟨_, _, _, _, _, h⟩ := s.refuse_changes f x; rw [h]
@[simp] theorem State.refuse_rst (s : State) (f : Flight) (x : Refused) : (s.refuse f x).rst = s.rst := by
  obtain ⟨_, _, _, _, _, h⟩ := s.refuse_changes f x; rw [h]
@[simp] theorem State.refuse_banks (s : State) (f : Flight) (x : Refused) : (s.refuse f x).banks = s.banks := by
  obtain ⟨_, _, _, _, _, h⟩ := s.refuse_changes f x; rw [h]
@[simp] theorem State.refuse_chans (s : State) (f : Flight) (x : Refused) : (s.refuse f x).chans = s.chans := by
  obtain ⟨_, _, _, _, _, h⟩ := s.refuse_changes f x; rw [h]
@[simp] theorem State.refuse_outs (s : State) (f : Flight) (x : Refused) : (s.refuse f x).outs = s.outs := by
  obtain ⟨_, _, _, _, _, h⟩ := s.refuse_changes f x; rw [h]
@[simp] theorem State.refuse_modems (s : State) (f : Flight) (x : Refused) : (s.refuse f x).modems = s.modems := by
  obtain ⟨_, _, _, _, _, h⟩ := s.refuse_changes f x; rw [h]
@[simp] theorem State.refuse_notch (s : State) (f : Flight) (x : Refused) : (s.refuse f x).notch = s.notch := by
  obtain ⟨_, _, _, _, _, h⟩ := s.refuse_changes f x; rw [h]
@[simp] theorem State.refuse_cal (s : State) (f : Flight) (x : Refused) : (s.refuse f x).cal = s.cal := by
  obtain ⟨_, _, _, _, _, h⟩ := s.refuse_changes f x; rw [h]
@[simp] theorem State.refuse_vib (s : State) (f : Flight) (x : Refused) : (s.refuse f x).vib = s.vib := by
  obtain ⟨_, _, _, _, _, h⟩ := s.refuse_changes f x; rw [h]
@[simp] theorem State.refuse_eng (s : State) (f : Flight) (x : Refused) : (s.refuse f x).eng = s.eng := by
  obtain ⟨_, _, _, _, _, h⟩ := s.refuse_changes f x; rw [h]
@[simp] theorem State.refuse_prev (s : State) (f : Flight) (x : Refused) : (s.refuse f x).prev = s.prev := by
  obtain ⟨_, _, _, _, _, h⟩ := s.refuse_changes f x; rw [h]
@[simp] theorem State.refuse_frameRecs (s : State) (f : Flight) (x : Refused) : (s.refuse f x).frameRecs = s.frameRecs := by
  obtain ⟨_, _, _, _, _, h⟩ := s.refuse_changes f x; rw [h]
@[simp] theorem State.refuse_frameMsgs (s : State) (f : Flight) (x : Refused) : (s.refuse f x).frameMsgs = s.frameMsgs := by
  obtain ⟨_, _, _, _, _, h⟩ := s.refuse_changes f x; rw [h]
@[simp] theorem State.refuse_live (s : State) (f : Flight) (x : Refused) : (s.refuse f x).live = s.live := by
  obtain ⟨_, _, _, _, _, h⟩ := s.refuse_changes f x; rw [h]
@[simp] theorem State.refuse_encs (s : State) (f : Flight) (x : Refused) : (s.refuse f x).encs = s.encs := by
  obtain ⟨_, _, _, _, _, h⟩ := s.refuse_changes f x; rw [h]
@[simp] theorem State.refuse_disp (s : State) (f : Flight) (x : Refused) : (s.refuse f x).disp = s.disp := by
  obtain ⟨_, _, _, _, _, h⟩ := s.refuse_changes f x; rw [h]
@[simp] theorem State.refuse_dis (s : State) (f : Flight) (x : Refused) : (s.refuse f x).dis = s.dis := by
  obtain ⟨_, _, _, _, _, h⟩ := s.refuse_changes f x; rw [h]
@[simp] theorem State.refuse_aos (s : State) (f : Flight) (x : Refused) : (s.refuse f x).aos = s.aos := by
  obtain ⟨_, _, _, _, _, h⟩ := s.refuse_changes f x; rw [h]
@[simp] theorem State.refuse_nok (s : State) (f : Flight) (x : Refused) : (s.refuse f x).nok = s.nok := by
  obtain ⟨_, _, _, _, _, h⟩ := s.refuse_changes f x; rw [h]
@[simp] theorem State.refuse_sec (s : State) (f : Flight) (x : Refused) : (s.refuse f x).sec = s.sec := by
  obtain ⟨_, _, _, _, _, h⟩ := s.refuse_changes f x; rw [h]
@[simp] theorem State.refuse_free (s : State) (f : Flight) (x : Refused) : (s.refuse f x).free = s.free := by
  obtain ⟨_, _, _, _, _, h⟩ := s.refuse_changes f x; rw [h]
@[simp] theorem State.refuse_pending (s : State) (f : Flight) (x : Refused) : (s.refuse f x).pending = s.pending := by
  obtain ⟨_, _, _, _, _, h⟩ := s.refuse_changes f x; rw [h]
@[simp] theorem State.nvmRequest_clk (s : State) (k : NvmKind) (m : Mem) (a : Nat) : (s.nvmRequest k m a).1.clk = s.clk := by
  obtain ⟨_, _, h⟩ := s.nvmRequest_changes k m a; rw [h]
@[simp] theorem State.nvmRequest_frame (s : State) (k : NvmKind) (m : Mem) (a : Nat) : (s.nvmRequest k m a).1.frame = s.frame := by
  obtain ⟨_, _, h⟩ := s.nvmRequest_changes k m a; rw [h]
@[simp] theorem State.nvmRequest_host (s : State) (k : NvmKind) (m : Mem) (a : Nat) : (s.nvmRequest k m a).1.host = s.host := by
  obtain ⟨_, _, h⟩ := s.nvmRequest_changes k m a; rw [h]
@[simp] theorem State.nvmRequest_cfg (s : State) (k : NvmKind) (m : Mem) (a : Nat) : (s.nvmRequest k m a).1.cfg = s.cfg := by
  obtain ⟨_, _, h⟩ := s.nvmRequest_changes k m a; rw [h]
@[simp] theorem State.nvmRequest_bkp (s : State) (k : NvmKind) (m : Mem) (a : Nat) : (s.nvmRequest k m a).1.bkp = s.bkp := by
  obtain ⟨_, _, h⟩ := s.nvmRequest_changes k m a; rw [h]
@[simp] theorem State.nvmRequest_pwr (s : State) (k : NvmKind) (m : Mem) (a : Nat) : (s.nvmRequest k m a).1.pwr = s.pwr := by
  obtain ⟨_, _, h⟩ := s.nvmRequest_changes k m a; rw [h]
@[simp] theorem State.nvmRequest_rst (s : State) (k : NvmKind) (m : Mem) (a : Nat) : (s.nvmRequest k m a).1.rst = s.rst := by
  obtain ⟨_, _, h⟩ := s.nvmRequest_changes k m a; rw [h]
@[simp] theorem State.nvmRequest_bus (s : State) (k : NvmKind) (m : Mem) (a : Nat) : (s.nvmRequest k m a).1.bus = s.bus := by
  obtain ⟨_, _, h⟩ := s.nvmRequest_changes k m a; rw [h]
@[simp] theorem State.nvmRequest_banks (s : State) (k : NvmKind) (m : Mem) (a : Nat) : (s.nvmRequest k m a).1.banks = s.banks := by
  obtain ⟨_, _, h⟩ := s.nvmRequest_changes k m a; rw [h]
@[simp] theorem State.nvmRequest_chans (s : State) (k : NvmKind) (m : Mem) (a : Nat) : (s.nvmRequest k m a).1.chans = s.chans := by
  obtain ⟨_, _, h⟩ := s.nvmRequest_changes k m a; rw [h]
@[simp] theorem State.nvmRequest_outs (s : State) (k : NvmKind) (m : Mem) (a : Nat) : (s.nvmRequest k m a).1.outs = s.outs := by
  obtain ⟨_, _, h⟩ := s.nvmRequest_changes k m a; rw [h]
@[simp] theorem State.nvmRequest_modems (s : State) (k : NvmKind) (m : Mem) (a : Nat) : (s.nvmRequest k m a).1.modems = s.modems := by
  obtain ⟨_, _, h⟩ := s.nvmRequest_changes k m a; rw [h]
@[simp] theorem State.nvmRequest_notch (s : State) (k : NvmKind) (m : Mem) (a : Nat) : (s.nvmRequest k m a).1.notch = s.notch := by
  obtain ⟨_, _, h⟩ := s.nvmRequest_changes k m a; rw [h]
@[simp] theorem State.nvmRequest_cal (s : State) (k : NvmKind) (m : Mem) (a : Nat) : (s.nvmRequest k m a).1.cal = s.cal := by
  obtain ⟨_, _, h⟩ := s.nvmRequest_changes k m a; rw [h]
@[simp] theorem State.nvmRequest_vib (s : State) (k : NvmKind) (m : Mem) (a : Nat) : (s.nvmRequest k m a).1.vib = s.vib := by
  obtain ⟨_, _, h⟩ := s.nvmRequest_changes k m a; rw [h]
@[simp] theorem State.nvmRequest_eng (s : State) (k : NvmKind) (m : Mem) (a : Nat) : (s.nvmRequest k m a).1.eng = s.eng := by
  obtain ⟨_, _, h⟩ := s.nvmRequest_changes k m a; rw [h]
@[simp] theorem State.nvmRequest_prev (s : State) (k : NvmKind) (m : Mem) (a : Nat) : (s.nvmRequest k m a).1.prev = s.prev := by
  obtain ⟨_, _, h⟩ := s.nvmRequest_changes k m a; rw [h]
@[simp] theorem State.nvmRequest_frameRecs (s : State) (k : NvmKind) (m : Mem) (a : Nat) : (s.nvmRequest k m a).1.frameRecs = s.frameRecs := by
  obtain ⟨_, _, h⟩ := s.nvmRequest_changes k m a; rw [h]
@[simp] theorem State.nvmRequest_frameMsgs (s : State) (k : NvmKind) (m : Mem) (a : Nat) : (s.nvmRequest k m a).1.frameMsgs = s.frameMsgs := by
  obtain ⟨_, _, h⟩ := s.nvmRequest_changes k m a; rw [h]
@[simp] theorem State.nvmRequest_live (s : State) (k : NvmKind) (m : Mem) (a : Nat) : (s.nvmRequest k m a).1.live = s.live := by
  obtain ⟨_, _, h⟩ := s.nvmRequest_changes k m a; rw [h]
@[simp] theorem State.nvmRequest_encs (s : State) (k : NvmKind) (m : Mem) (a : Nat) : (s.nvmRequest k m a).1.encs = s.encs := by
  obtain ⟨_, _, h⟩ := s.nvmRequest_changes k m a; rw [h]
@[simp] theorem State.nvmRequest_disp (s : State) (k : NvmKind) (m : Mem) (a : Nat) : (s.nvmRequest k m a).1.disp = s.disp := by
  obtain ⟨_, _, h⟩ := s.nvmRequest_changes k m a; rw [h]
@[simp] theorem State.nvmRequest_dis (s : State) (k : NvmKind) (m : Mem) (a : Nat) : (s.nvmRequest k m a).1.dis = s.dis := by
  obtain ⟨_, _, h⟩ := s.nvmRequest_changes k m a; rw [h]
@[simp] theorem State.nvmRequest_aos (s : State) (k : NvmKind) (m : Mem) (a : Nat) : (s.nvmRequest k m a).1.aos = s.aos := by
  obtain ⟨_, _, h⟩ := s.nvmRequest_changes k m a; rw [h]
@[simp] theorem State.nvmRequest_nok (s : State) (k : NvmKind) (m : Mem) (a : Nat) : (s.nvmRequest k m a).1.nok = s.nok := by
  obtain ⟨_, _, h⟩ := s.nvmRequest_changes k m a; rw [h]
@[simp] theorem State.nvmRequest_sec (s : State) (k : NvmKind) (m : Mem) (a : Nat) : (s.nvmRequest k m a).1.sec = s.sec := by
  obtain ⟨_, _, h⟩ := s.nvmRequest_changes k m a; rw [h]
@[simp] theorem State.nvmRequest_free (s : State) (k : NvmKind) (m : Mem) (a : Nat) : (s.nvmRequest k m a).1.free = s.free := by
  obtain ⟨_, _, h⟩ := s.nvmRequest_changes k m a; rw [h]
@[simp] theorem State.nvmRequest_pending (s : State) (k : NvmKind) (m : Mem) (a : Nat) : (s.nvmRequest k m a).1.pending = s.pending := by
  obtain ⟨_, _, h⟩ := s.nvmRequest_changes k m a; rw [h]

/-- Completion leaves the queue, the executing request and the waits. -/
@[simp] theorem State.complete_queue (s : State) (f : Flight) (st : Status) (d : Nat) (p : List Byte) :
    (s.complete f st d p).host.queue = s.host.queue := by
  obtain ⟨_, _, _, _, h⟩ := s.complete_changes f st d p; rw [h]
@[simp] theorem State.complete_cur (s : State) (f : Flight) (st : Status) (d : Nat) (p : List Byte) :
    (s.complete f st d p).host.cur = s.host.cur := by
  obtain ⟨_, _, _, _, h⟩ := s.complete_changes f st d p; rw [h]
@[simp] theorem State.complete_waits (s : State) (f : Flight) (st : Status) (d : Nat) (p : List Byte) :
    (s.complete f st d p).host.waits = s.host.waits := by
  obtain ⟨_, _, _, _, h⟩ := s.complete_changes f st d p; rw [h]

end Sys2Proof.Machine
end

