-- ==== Sys2Proof/Laws/Units.lean ====
section
/-!
SUPPORT. A unit of a list changed: what is read of it and of the other units afterwards.
-/

namespace Sys2Proof.Machine

open Sys2Proof

/-! ## Lists -/

/-- Changing a place keeps the length. -/
@[simp] theorem modAt_length {α : Type} (l : List α) (i : Nat) (f : α → α) : (modAt l i f).length = l.length := by
  induction l generalizing i with
  | nil => rfl
  | cons x r ih => cases i with
    | zero => rfl
    | succ i => simp [modAt, ih]

/-- The changed place reads as changed. -/
theorem getD_modAt_self {α : Type} {l : List α} {i : Nat} (f : α → α) (d : α) (h : i < l.length) :
    (modAt l i f).getD i d = f (l.getD i d) := by
  induction l generalizing i with
  | nil => simp at h
  | cons x r ih => cases i with
    | zero => rfl
    | succ i => simpa [modAt] using ih (by simpa using h)

/-- Every other place reads as before. -/
theorem getD_modAt_ne {α : Type} {l : List α} {i j : Nat} (f : α → α) (d : α) (h : i ≠ j) :
    (modAt l i f).getD j d = l.getD j d := by
  induction l generalizing i j with
  | nil => rfl
  | cons x r ih => cases i with
    | zero => cases j with
      | zero => exact absurd rfl h
      | succ j => rfl
    | succ i => cases j with
      | zero => rfl
      | succ j => simpa [modAt] using ih (fun e => h (congrArg _ e))

/-- A place beyond the list changes nothing. -/
theorem modAt_of_le {α : Type} {l : List α} {i : Nat} (f : α → α) (h : l.length ≤ i) : modAt l i f = l := by
  induction l generalizing i with
  | nil => rfl
  | cons x r ih => cases i with
    | zero => simp at h
    | succ i => simp [modAt, ih (by simpa using h)]

/-- Two changes of one place are one change. -/
theorem modAt_modAt {α : Type} (l : List α) (i : Nat) (f g : α → α) : modAt (modAt l i f) i g = modAt l i (fun x => g (f x)) := by
  induction l generalizing i with
  | nil => rfl
  | cons x r ih => cases i with
    | zero => rfl
    | succ i => simp [modAt, ih]

/-- Changes that agree on what stands at the place are the same change. -/
theorem modAt_congr {α : Type} {l : List α} {i : Nat} {f g : α → α} (d : α) (h : i < l.length → f (l.getD i d) = g (l.getD i d)) :
    modAt l i f = modAt l i g := by
  induction l generalizing i with
  | nil => rfl
  | cons x r ih => cases i with
    | zero => simpa [modAt] using h (by simp)
    | succ i => simpa [modAt] using ih (fun e => by simpa using h (by simpa using e))

/-! ## Units -/

/-- `State.chan` after `State.modChan` of the same unit. -/
theorem State.chan_modChan_self {s : State} {n : Nat} (f : ChanSt → ChanSt) (h : n < s.chans.length) :
    (s.modChan n f).chan n = f (s.chan n) := getD_modAt_self f _ h
/-- `State.chan` after `State.modChan` of another unit. -/
theorem State.chan_modChan_ne {s : State} {n m : Nat} (f : ChanSt → ChanSt) (h : n ≠ m) : (s.modChan n f).chan m = s.chan m :=
  getD_modAt_ne f _ h
/-- `State.modChan` keeps how many units there are. -/
@[simp] theorem State.modChan_length (s : State) (n : Nat) (f : ChanSt → ChanSt) : (s.modChan n f).chans.length = s.chans.length :=
  modAt_length _ _ _
/-- `State.bank` after `State.modBank` of the same unit. -/
theorem State.bank_modBank_self {s : State} {n : Nat} (f : BankSt → BankSt) (h : n < s.banks.length) :
    (s.modBank n f).bank n = f (s.bank n) := getD_modAt_self f _ h
/-- `State.bank` after `State.modBank` of another unit. -/
theorem State.bank_modBank_ne {s : State} {n m : Nat} (f : BankSt → BankSt) (h : n ≠ m) : (s.modBank n f).bank m = s.bank m :=
  getD_modAt_ne f _ h
/-- `State.modBank` keeps how many units there are. -/
@[simp] theorem State.modBank_length (s : State) (n : Nat) (f : BankSt → BankSt) : (s.modBank n f).banks.length = s.banks.length :=
  modAt_length _ _ _
/-- `State.out` after `State.modOut` of the same unit. -/
theorem State.out_modOut_self {s : State} {n : Nat} (f : OutSt → OutSt) (h : n < s.outs.length) :
    (s.modOut n f).out n = f (s.out n) := getD_modAt_self f _ h
/-- `State.out` after `State.modOut` of another unit. -/
theorem State.out_modOut_ne {s : State} {n m : Nat} (f : OutSt → OutSt) (h : n ≠ m) : (s.modOut n f).out m = s.out m :=
  getD_modAt_ne f _ h
/-- `State.modOut` keeps how many units there are. -/
@[simp] theorem State.modOut_length (s : State) (n : Nat) (f : OutSt → OutSt) : (s.modOut n f).outs.length = s.outs.length :=
  modAt_length _ _ _
/-- `State.di` after `State.modDi` of the same unit. -/
theorem State.di_modDi_self {s : State} {n : Nat} (f : DiSt → DiSt) (h : n < s.dis.length) :
    (s.modDi n f).di n = f (s.di n) := getD_modAt_self f _ h
/-- `State.di` after `State.modDi` of another unit. -/
theorem State.di_modDi_ne {s : State} {n m : Nat} (f : DiSt → DiSt) (h : n ≠ m) : (s.modDi n f).di m = s.di m :=
  getD_modAt_ne f _ h
/-- `State.modDi` keeps how many units there are. -/
@[simp] theorem State.modDi_length (s : State) (n : Nat) (f : DiSt → DiSt) : (s.modDi n f).dis.length = s.dis.length :=
  modAt_length _ _ _
/-- `State.ao` after `State.modAo` of the same unit. -/
theorem State.ao_modAo_self {s : State} {n : Nat} (f : AoSt → AoSt) (h : n < s.aos.length) :
    (s.modAo n f).ao n = f (s.ao n) := getD_modAt_self f _ h
/-- `State.ao` after `State.modAo` of another unit. -/
theorem State.ao_modAo_ne {s : State} {n m : Nat} (f : AoSt → AoSt) (h : n ≠ m) : (s.modAo n f).ao m = s.ao m :=
  getD_modAt_ne f _ h
/-- `State.modAo` keeps how many units there are. -/
@[simp] theorem State.modAo_length (s : State) (n : Nat) (f : AoSt → AoSt) : (s.modAo n f).aos.length = s.aos.length :=
  modAt_length _ _ _
/-- `State.enc` after `State.modEnc` of the same unit. -/
theorem State.enc_modEnc_self {s : State} {n : Nat} (f : EncSt → EncSt) (h : n < s.encs.length) :
    (s.modEnc n f).enc n = f (s.enc n) := getD_modAt_self f _ h
/-- `State.enc` after `State.modEnc` of another unit. -/
theorem State.enc_modEnc_ne {s : State} {n m : Nat} (f : EncSt → EncSt) (h : n ≠ m) : (s.modEnc n f).enc m = s.enc m :=
  getD_modAt_ne f _ h
/-- `State.modEnc` keeps how many units there are. -/
@[simp] theorem State.modEnc_length (s : State) (n : Nat) (f : EncSt → EncSt) : (s.modEnc n f).encs.length = s.encs.length :=
  modAt_length _ _ _
/-- `State.modem` after `State.modModem` of the same unit. -/
theorem State.modem_modModem_self {s : State} {n : Nat} (f : ModemSt → ModemSt) (h : n < s.modems.length) :
    (s.modModem n f).modem n = f (s.modem n) := getD_modAt_self f _ h
/-- `State.modem` after `State.modModem` of another unit. -/
theorem State.modem_modModem_ne {s : State} {n m : Nat} (f : ModemSt → ModemSt) (h : n ≠ m) : (s.modModem n f).modem m = s.modem m :=
  getD_modAt_ne f _ h
/-- `State.modModem` keeps how many units there are. -/
@[simp] theorem State.modModem_length (s : State) (n : Nat) (f : ModemSt → ModemSt) : (s.modModem n f).modems.length = s.modems.length :=
  modAt_length _ _ _
/-- `State.ctl` after `State.modCtl` of the same unit. -/
theorem State.ctl_modCtl_self {s : State} {n : Nat} (f : BusCtl → BusCtl) (h : n < s.bus.ctl.length) :
    (s.modCtl n f).ctl n = f (s.ctl n) := getD_modAt_self f _ h
/-- `State.ctl` after `State.modCtl` of another unit. -/
theorem State.ctl_modCtl_ne {s : State} {n m : Nat} (f : BusCtl → BusCtl) (h : n ≠ m) : (s.modCtl n f).ctl m = s.ctl m :=
  getD_modAt_ne f _ h
/-- `State.modCtl` keeps how many units there are. -/
@[simp] theorem State.modCtl_length (s : State) (n : Nat) (f : BusCtl → BusCtl) : (s.modCtl n f).bus.ctl.length = s.bus.ctl.length :=
  modAt_length _ _ _
/-- `State.shadow` after `State.modShadow` of the same unit. -/
theorem State.shadow_modShadow_self {s : State} {n : Nat} (f : Shadow → Shadow) (h : n < s.bus.shadows.length) :
    (s.modShadow n f).shadow n = f (s.shadow n) := getD_modAt_self f _ h
/-- `State.shadow` after `State.modShadow` of another unit. -/
theorem State.shadow_modShadow_ne {s : State} {n m : Nat} (f : Shadow → Shadow) (h : n ≠ m) : (s.modShadow n f).shadow m = s.shadow m :=
  getD_modAt_ne f _ h
/-- `State.modShadow` keeps how many units there are. -/
@[simp] theorem State.modShadow_length (s : State) (n : Nat) (f : Shadow → Shadow) : (s.modShadow n f).bus.shadows.length = s.bus.shadows.length :=
  modAt_length _ _ _
/-- `State.chain` after `State.modChain` of the same unit. -/
theorem State.chain_modChain_self {s : State} {n : Nat} (f : ChainSt → ChainSt) (h : n < s.eng.chains.length) :
    (s.modChain n f).chain n = f (s.chain n) := getD_modAt_self f _ h
/-- `State.chain` after `State.modChain` of another unit. -/
theorem State.chain_modChain_ne {s : State} {n m : Nat} (f : ChainSt → ChainSt) (h : n ≠ m) : (s.modChain n f).chain m = s.chain m :=
  getD_modAt_ne f _ h
/-- `State.modChain` keeps how many units there are. -/
@[simp] theorem State.modChain_length (s : State) (n : Nat) (f : ChainSt → ChainSt) : (s.modChain n f).eng.chains.length = s.eng.chains.length :=
  modAt_length _ _ _
/-- `State.fo` after `State.modFo` of the same unit. -/
theorem State.fo_modFo_self {s : State} {n : Nat} (f : FoSt → FoSt) (h : n < s.eng.fo.length) :
    (s.modFo n f).fo n = f (s.fo n) := getD_modAt_self f _ h
/-- `State.fo` after `State.modFo` of another unit. -/
theorem State.fo_modFo_ne {s : State} {n m : Nat} (f : FoSt → FoSt) (h : n ≠ m) : (s.modFo n f).fo m = s.fo m :=
  getD_modAt_ne f _ h
/-- `State.modFo` keeps how many units there are. -/
@[simp] theorem State.modFo_length (s : State) (n : Nat) (f : FoSt → FoSt) : (s.modFo n f).eng.fo.length = s.eng.fo.length :=
  modAt_length _ _ _
/-- `State.group` after `State.modGroup` of the same unit. -/
theorem State.group_modGroup_self {s : State} {n : Nat} (f : GroupSt → GroupSt) (h : n < s.eng.groups.length) :
    (s.modGroup n f).group n = f (s.group n) := getD_modAt_self f _ h
/-- `State.group` after `State.modGroup` of another unit. -/
theorem State.group_modGroup_ne {s : State} {n m : Nat} (f : GroupSt → GroupSt) (h : n ≠ m) : (s.modGroup n f).group m = s.group m :=
  getD_modAt_ne f _ h
/-- `State.modGroup` keeps how many units there are. -/
@[simp] theorem State.modGroup_length (s : State) (n : Nat) (f : GroupSt → GroupSt) : (s.modGroup n f).eng.groups.length = s.eng.groups.length :=
  modAt_length _ _ _
/-- `State.weir` after `State.modWeir` of the same unit. -/
theorem State.weir_modWeir_self {s : State} {n : Nat} (f : WeirSt → WeirSt) (h : n < s.eng.weirs.length) :
    (s.modWeir n f).weir n = f (s.weir n) := getD_modAt_self f _ h
/-- `State.weir` after `State.modWeir` of another unit. -/
theorem State.weir_modWeir_ne {s : State} {n m : Nat} (f : WeirSt → WeirSt) (h : n ≠ m) : (s.modWeir n f).weir m = s.weir m :=
  getD_modAt_ne f _ h
/-- `State.modWeir` keeps how many units there are. -/
@[simp] theorem State.modWeir_length (s : State) (n : Nat) (f : WeirSt → WeirSt) : (s.modWeir n f).eng.weirs.length = s.eng.weirs.length :=
  modAt_length _ _ _
/-- `State.region` after `State.modRegion` of the same unit. -/
theorem State.region_modRegion_self {s : State} {n : Nat} (f : RegionSt → RegionSt) (h : n < s.disp.regions.length) :
    (s.modRegion n f).region n = f (s.region n) := getD_modAt_self f _ h
/-- `State.region` after `State.modRegion` of another unit. -/
theorem State.region_modRegion_ne {s : State} {n m : Nat} (f : RegionSt → RegionSt) (h : n ≠ m) : (s.modRegion n f).region m = s.region m :=
  getD_modAt_ne f _ h
/-- `State.modRegion` keeps how many units there are. -/
@[simp] theorem State.modRegion_length (s : State) (n : Nat) (f : RegionSt → RegionSt) : (s.modRegion n f).disp.regions.length = s.disp.regions.length :=
  modAt_length _ _ _

end Sys2Proof.Machine
end

