-- ==== Sys2Proof/Laws/Bus.lean ====
section
/-!
SUPPORT. Reception on a controller: what a frame that is heard does.
-/

namespace Sys2Proof.Machine

open Sys2Proof

/-- Counting a reception changes the controllers and the free-value counter only. -/
theorem State.rxOk_changes (s : State) (b : Nat) :
    ∃ c n, s.rxOk b = { s with bus := { s.bus with ctl := c }, free := n } := by
  simp only [State.rxOk]; split <;> exact ⟨_, _, rfl⟩

/-- Reception keeps the match slots. -/
theorem State.rxOk_slots (s : State) (b : Nat) : (s.rxOk b).bus.slots = s.bus.slots := by
  obtain ⟨_, _, h⟩ := s.rxOk_changes b; rw [h]

/-- Reception keeps the ring's fill. -/
theorem State.rxOk_ringFill (s : State) (b : Nat) : (s.rxOk b).ringFill = s.ringFill := by
  obtain ⟨_, _, h⟩ := s.rxOk_changes b; rw [h]; rfl

/-- Reception keeps the claim period. -/
theorem State.rxOk_claimEnd (s : State) (b : Nat) : (s.rxOk b).bus.claimEnd = s.bus.claimEnd := by
  obtain ⟨_, _, h⟩ := s.rxOk_changes b; rw [h]

/-- Reception keeps the key slot of the node protocol. -/
theorem State.rxOk_protoKey (s : State) (b : Nat) : (s.rxOk b).protoKey = s.protoKey := by
  obtain ⟨_, _, h⟩ := s.rxOk_changes b; rw [h]; rfl

/-- A protocol frame that a controller hears without a key goes to its place in the state that has counted it. -/
theorem State.rxProto_hears {s : State} {t : Nat} {f : RxFrame} {act : RxFrame → State → State}
    (h : Hears s f.bus f.cls f.data) :
    (s.advance t).rxProto f act = act { f with auth := false } ((s.advance t).rxOk f.bus) := by
  obtain ⟨h1, h2, h3, h4, h5, -, -⟩ := h
  have e1 : ((s.advance t).ctl f.bus).hears = true := h1
  have e2 : (s.advance t).busOpt f.bus 1 = true := h2
  have e4 : ((s.advance t).rxOk f.bus).bus.claimEnd = none := by rw [State.rxOk_claimEnd]; exact h4
  have e5 : ((s.advance t).rxOk f.bus).protoKey = none := by rw [State.rxOk_protoKey]; exact h5
  simp [State.rxProto, e1, e2, h3, e4, e5, State.rxAuth]

/-- A message that a controller hears waits in the match slot of its class (R297). -/
theorem State.rxMessage_hears {s : State} {t : Nat} {f : RxFrame} (hf : f.auth = false) (hc : f.cls < 0x20)
    (h : Hears s f.bus f.cls f.data) : s.rxMessage t f = s.heard t f := by
  have e : ({ f with auth := false } : RxFrame) = f := by rw [← hf]
  have e6 : (((s.advance t).rxOk f.bus).bus.slots.getD (slotOf f.cls) []).length < 8 := by
    rw [State.rxOk_slots]; exact h.2.2.2.2.2.1
  simp only [State.rxMessage, State.rxProto_hears h, e, State.rxPlace, e6, State.heard, hc, if_true]

end Sys2Proof.Machine
end

