-- ==== Sys2Proof/Laws/Mem.lean ====
section
/-!
SUPPORT. Memory: every operation keeps the canonical form, a read after a write gives what was written, every other address
reads as before.
-/

namespace Sys2Proof

/-- The canonical form from a higher address on is one from a lower address on. -/
theorem Mem.wfFrom_mono {lo hi : Nat} (h : lo ≤ hi) : ∀ {m : Mem}, Mem.wfFrom hi m = true → Mem.wfFrom lo m = true
  | [], _ => rfl
  | (k, v) :: r, w => by
    simp only [Mem.wfFrom, Bool.and_eq_true, decide_eq_true_eq] at w ⊢
    exact ⟨⟨by omega, w.1.2⟩, w.2⟩

/-- Below its first address a canonical memory reads zero. -/
theorem Mem.read_below {a : Nat} : ∀ {m : Mem} {lo : Nat}, Mem.wfFrom lo m = true → a < lo → m.read a = 0
  | [], _, _, _ => rfl
  | (k, v) :: r, lo, w, h => by
    simp only [Mem.wfFrom, Bool.and_eq_true, decide_eq_true_eq] at w
    simp only [Mem.read]
    rw [if_neg (by omega), if_pos (by omega)]

/-- One cell put in front keeps the canonical form. -/
theorem Mem.wfFrom_cell {lo a : Nat} {v : Byte} {r : Mem} (h : lo ≤ a) (w : Mem.wfFrom (a + 1) r = true) :
    Mem.wfFrom lo (Mem.cell a v r) = true := by
  unfold Mem.cell
  split
  · exact Mem.wfFrom_mono (by omega) w
  · rename_i hv
    simp only [Mem.wfFrom, Bool.and_eq_true, decide_eq_true_eq]
    exact ⟨⟨h, hv⟩, w⟩

/-- A write keeps the canonical form. -/
theorem Mem.wfFrom_write {a : Nat} {v : Byte} : ∀ {m : Mem} {lo : Nat}, Mem.wfFrom lo m = true → lo ≤ a →
    Mem.wfFrom lo (m.write a v) = true
  | [], lo, _, h => Mem.wfFrom_cell h rfl
  | (k, x) :: r, lo, w, h => by
    have w' := w
    simp only [Mem.wfFrom, Bool.and_eq_true, decide_eq_true_eq] at w
    simp only [Mem.write]
    split
    · subst_vars; exact Mem.wfFrom_cell h w.2
    · split
      · refine Mem.wfFrom_cell h ?_
        simp only [Mem.wfFrom, Bool.and_eq_true, decide_eq_true_eq]
        exact ⟨⟨by omega, w.1.2⟩, w.2⟩
      · simp only [Mem.wfFrom, Bool.and_eq_true, decide_eq_true_eq]
        exact ⟨w.1, Mem.wfFrom_write w.2 (by omega)⟩

/-- A write keeps the canonical form. -/
theorem Mem.wf_write {m : Mem} (w : m.wf = true) (a : Nat) (v : Byte) : (m.write a v).wf = true :=
  Mem.wfFrom_write w (Nat.zero_le a)

/-- What a cell in front reads as, in a memory that lies above it. -/
theorem Mem.read_cell {a b : Nat} {v : Byte} {r : Mem} (w : Mem.wfFrom (a + 1) r = true) :
    (Mem.cell a v r).read b = if b = a then v else r.read b := by
  unfold Mem.cell
  split
  · rename_i hv
    split
    · subst_vars; exact Mem.read_below w (by omega)
    · rfl
  · simp only [Mem.read]
    split
    · rfl
    · split
      · exact (Mem.read_below w (by omega)).symm
      · rfl

/-- A read after a write: the written byte at its address, every other address as before. -/
theorem Mem.read_write_from {a b : Nat} {v : Byte} : ∀ {m : Mem} {lo : Nat}, Mem.wfFrom lo m = true →
    (m.write a v).read b = if b = a then v else m.read b
  | [], _, _ => Mem.read_cell rfl
  | (k, x) :: r, lo, w => by
    simp only [Mem.wfFrom, Bool.and_eq_true, decide_eq_true_eq] at w
    simp only [Mem.write]
    split
    · subst_vars
      rw [Mem.read_cell w.2]
      simp only [Mem.read]
      split
      · rfl
      · split
        · exact Mem.read_below w.2 (by omega)
        · rfl
    · split
      · refine Mem.read_cell ?_
        simp only [Mem.wfFrom, Bool.and_eq_true, decide_eq_true_eq]
        exact ⟨⟨by omega, w.1.2⟩, w.2⟩
      · simp only [Mem.read, Mem.read_write_from w.2]
        split
        · rw [if_neg (by omega)]
        · split
          · rw [if_neg (by omega)]
          · rfl

/-- A read after a write. -/
theorem Mem.read_write {m : Mem} (w : m.wf = true) (a b : Nat) (v : Byte) :
    (m.write a v).read b = if b = a then v else m.read b := Mem.read_write_from w

/-- A write of several bytes keeps the canonical form. -/
theorem Mem.wf_writeList : ∀ {m : Mem} (l : List Byte) (a : Nat), m.wf = true → (m.writeList a l).wf = true
  | _, [], _, w => w
  | _, b :: r, a, w => Mem.wf_writeList r (a + 1) (Mem.wf_write w a b)

/-- A read after a write of several bytes. -/
theorem Mem.read_writeList : ∀ (l : List Byte) {m : Mem} (a x : Nat), m.wf = true →
    (m.writeList a l).read x = if a ≤ x ∧ x < a + l.length then l.getD (x - a) 0 else m.read x
  | [], m, a, x, _ => by simp only [Mem.writeList, List.length_nil]; rw [if_neg (by omega)]
  | b :: r, m, a, x, w => by
    simp only [Mem.writeList]
    rw [Mem.read_writeList r (a + 1) x (Mem.wf_write w a b), Mem.read_write w]
    simp only [List.length_cons]
    by_cases h1 : x = a
    · subst h1; rw [if_neg (by omega), if_pos rfl, if_pos (by omega)]; simp
    · by_cases h2 : a + 1 ≤ x ∧ x < a + 1 + r.length
      · rw [if_pos h2, if_pos (by omega), show x - a = (x - (a + 1)) + 1 by omega, List.getD_cons_succ]
      · rw [if_neg h2, if_neg h1, if_neg (by omega)]

/-- Bytes laid out from an address on are canonical. -/
theorem Mem.wfFrom_fromList : ∀ (l : List Byte) (a lo : Nat), lo ≤ a → Mem.wfFrom lo (Mem.fromList a l) = true
  | [], _, _, _ => rfl
  | _ :: r, a, _, h => Mem.wfFrom_cell h (Mem.wfFrom_fromList r (a + 1) (a + 1) (Nat.le_refl _))

/-- Bytes laid out from an address on read as they stand. -/
theorem Mem.read_fromList : ∀ (l : List Byte) (a x : Nat),
    (Mem.fromList a l).read x = if a ≤ x ∧ x < a + l.length then l.getD (x - a) 0 else 0
  | [], a, x => by simp only [Mem.fromList, List.length_nil]; rw [if_neg (by omega)]; rfl
  | b :: r, a, x => by
    simp only [Mem.fromList]
    rw [Mem.read_cell (Mem.wfFrom_fromList r (a + 1) (a + 1) (Nat.le_refl _)), Mem.read_fromList r (a + 1) x]
    simp only [List.length_cons]
    by_cases h1 : x = a
    · subst h1; rw [if_pos rfl, if_pos (by omega)]; simp
    · rw [if_neg h1]
      by_cases h2 : a + 1 ≤ x ∧ x < a + 1 + r.length
      · rw [if_pos h2, if_pos (by omega), show x - a = (x - (a + 1)) + 1 by omega, List.getD_cons_succ]
      · rw [if_neg h2, if_neg (by omega)]

/-- The cells of a range, moved down to address zero, are canonical. -/
theorem Mem.wfFrom_window (a b : Nat) : ∀ {m : Mem} {lo : Nat}, Mem.wfFrom lo m = true → Mem.wfFrom (lo - a) (m.window a b) = true
  | [], _, _ => rfl
  | (k, x) :: r, lo, w => by
    simp only [Mem.wfFrom, Bool.and_eq_true, decide_eq_true_eq] at w
    have ih := Mem.wfFrom_window a b w.2
    unfold Mem.window at ih ⊢
    rw [List.filter_cons]
    split
    · rename_i h
      simp only [Bool.and_eq_true, decide_eq_true_eq] at h
      simp only [List.map_cons, Mem.wfFrom, Bool.and_eq_true, decide_eq_true_eq]
      exact ⟨⟨by omega, w.1.2⟩, by rwa [show k - a + 1 = k + 1 - a by omega]⟩
    · exact Mem.wfFrom_mono (by omega) ih

/-- The cells from an address on moved up keep the canonical form. -/
theorem Mem.wfFrom_moveUp (a d : Nat) : ∀ {m : Mem} {lo : Nat}, Mem.wfFrom lo m = true →
    Mem.wfFrom (if a ≤ lo then lo + d else lo) (m.moveUp a d) = true
  | [], _, _ => rfl
  | (k, x) :: r, lo, w => by
    simp only [Mem.wfFrom, Bool.and_eq_true, decide_eq_true_eq] at w
    have ih := Mem.wfFrom_moveUp a d w.2
    simp only [Mem.moveUp, List.map_cons] at ih ⊢
    by_cases h : a ≤ k
    · rw [if_pos h]
      simp only [Mem.wfFrom, Bool.and_eq_true, decide_eq_true_eq]
      rw [if_pos (by omega)] at ih
      exact ⟨⟨by split <;> omega, w.1.2⟩, by rwa [show k + d + 1 = k + 1 + d by omega]⟩
    · rw [if_neg h]
      simp only [Mem.wfFrom, Bool.and_eq_true, decide_eq_true_eq]
      refine ⟨⟨by rw [if_neg (by omega)]; omega, w.1.2⟩, Mem.wfFrom_mono ?_ ih⟩
      split <;> omega

end Sys2Proof
end

