-- ==== Sys2Proof/Laws/Queue.lean ====
section
/-!
SUPPORT. No function of the model changes the queue of commands: one lemma per function, callees first.
-/

set_option linter.all false
set_option maxRecDepth 2000

namespace Sys2Proof.Laws

open Sys2Proof Sys2Proof.Machine

variable {α : Type}
theorem fk {f : State → α → State} (h : ∀ s x, (f s x).pending = s.pending) (l : List α) (s : State) : (l.foldl f s).pending = s.pending := by
  induction l generalizing s with
  | nil => rfl
  | cons a r ih => rw [List.foldl_cons, ih, h]
@[simp] theorem fk1 {f : State → α → State} (h : ∀ s x, (f s x).pending = s.pending) (l : List α) (s : State) : (l.foldl f s).pending = s.pending := fk h l s
@[simp] theorem ek {f : State → Nat → State} (h : ∀ s x, (f s x).pending = s.pending) (n : Nat) (s : State) : (s.each n f).pending = s.pending := by unfold State.each; exact fk h _ s
theorem ite0 {c : Prop} [Decidable c] {x y : State} {v} (hx : x.pending = v) (hy : y.pending = v) : (if c then x else y).pending = v := by split <;> assumption
theorem ite1 {β : Type} {c : Prop} [Decidable c] {x y : State × β} {v} (hx : x.1.pending = v) (hy : y.1.pending = v) : (if c then x else y).1.pending = v := by split <;> assumption
theorem ite2 {β : Type} {c : Prop} [Decidable c] {x y : β × State} {v} (hx : x.2.pending = v) (hy : y.2.pending = v) : (if c then x else y).2.pending = v := by split <;> assumption
@[simp] theorem ite_k {c : Prop} [Decidable c] {a b : State} : (if c then a else b).pending = (if c then a.pending else b.pending) := by split <;> rfl

@[simp] theorem keep_pending_State_advance (s : State) (t : Nat) : (State.advance s t).pending = s.pending := by
  rfl
@[simp] theorem keep_pending_State_enterRec (s : State) (r : Rec) : (State.enterRec s r).pending = s.pending := by
  rfl
@[simp] theorem keep_pending_State_logEv (s : State) (code sev kind idx role p1 p2 : Nat) : (State.logEv s code sev kind idx role p1 p2).pending = s.pending := by
  rfl
@[simp] theorem keep_pending_State_logNode (s : State) (code sev p1 p2 : Nat) : (State.logNode s code sev p1 p2).pending = s.pending := by
  rfl
@[simp] theorem keep_pending_State_sendProto (s : State) (b prio cls index : Nat) (body : List Byte) (role : TxRole) : (State.sendProto s b prio cls index body role).pending = s.pending := by
  (unfold State.sendProto; simp; done)
@[simp] theorem keep_pending_State_sendCulvert (s : State) (b cls dst transfer : Nat) (bytes : List Byte) (L : Nat) (role : TxRole) : (State.sendCulvert s b cls dst transfer bytes L role).pending = s.pending := by
  (unfold State.sendCulvert; simp; done)
@[simp] theorem keep_pending_State_complete (s : State) (f : Flight) (st : Status) (detail : Nat) (payload : List Byte) : (State.complete s f st detail payload).pending = s.pending := by
  (unfold State.complete; (try dsimp only); (repeat' split); all_goals (first | rfl | simp; done))
@[simp] theorem keep_pending_State_ok (s : State) (f : Flight) (payload : List Byte) : (State.ok s f payload).pending = s.pending := by
  (unfold State.ok; simp; done)
@[simp] theorem keep_pending_State_wait (s : State) (f : Flight) (k : WaitKind) : (State.wait s f k).pending = s.pending := by
  rfl
@[simp] theorem keep_pending_State_endWaits (s : State) (sel) : (s.endWaits sel).pending = s.pending := by
  unfold State.endWaits
  have h : ∀ (l : List Wait) (u : State), (completeList sel l u).pending = u.pending := by
    intro l; induction l with
    | nil => intro u; rfl
    | cons w r ih => intro u; unfold completeList; rw [ih]; split <;> simp
  simp only [h]

@[simp] theorem keep_pending_State_cause (s : State) (i : Nat) : (State.cause s i).pending = s.pending := by
  rfl
@[simp] theorem keep_pending_State_startLogChurn (s : State) : (State.startLogChurn s).pending = s.pending := by
  rfl
@[simp] theorem keep_pending_State_nvmGo (s : State) (o : NvmOp) : (State.nvmGo s o).pending = s.pending := by
  rfl
@[simp] theorem keep_pending_State_energyMark (s : State) : (State.energyMark s).pending = s.pending := by
  rfl
@[simp] theorem keep_pending_State_nvmPick (s : State) : (State.nvmPick s).pending = s.pending := by
  (unfold State.nvmPick; (try dsimp only); (repeat' split); all_goals (first | rfl | simp; done))
@[simp] theorem keep_pending_State_nvmStart (s : State) : (State.nvmStart s).pending = s.pending := by
  (unfold State.nvmStart; (try dsimp only); (repeat' split); all_goals (first | rfl | simp; done))
@[simp] theorem keep_pending_State_nvmRequest (s : State) (k : NvmKind) (data : Mem) (arg : Nat) : (State.nvmRequest s k data arg).1.pending = s.pending := by
  (unfold State.nvmRequest; simp; done)
@[simp] theorem keep_pending_State_nvmFree (s : State) : (State.nvmFree s).pending = s.pending := by
  (unfold State.nvmFree; simp; done)
@[simp] theorem keep_pending_State_nvmRead (s : State) (f) (serve : Flight → State → State) (h : ∀ f s, (serve f s).pending = s.pending) : (s.nvmRead f serve).pending = s.pending := by
  unfold State.nvmRead; split
  · exact h _ _
  · simp

@[simp] theorem keep_pending_State_unlessNoWait (s : State) (f cost) (go : State → State) (h : ∀ s, (go s).pending = s.pending) : (s.unlessNoWait f cost go).pending = s.pending := by
  unfold State.unlessNoWait; split
  · simp
  · exact h _

@[simp] theorem keep_pending_State_logStale (s : State) (f : Flight) : (State.logStale s f).pending = s.pending := by
  (unfold State.logStale; (try dsimp only); (repeat' split); all_goals (first | rfl | simp; done))
@[simp] theorem keep_pending_State_refuse (s : State) (f : Flight) (r : Refused) : (State.refuse s f r).pending = s.pending := by
  (unfold State.refuse; simp; done)
@[simp] theorem keep_pending_State_touchDraft (s : State) (f : Flight) : (State.touchDraft s f).pending = s.pending := by
  (unfold State.touchDraft; (try dsimp only); (repeat' split); all_goals (first | rfl | simp; done))
@[simp] theorem keep_pending_State_takeNext (s : State) : (s.takeNext).pending = s.pending := by
  have h : ∀ (l : List Flight) (u : State), (takeFrom l u).pending = u.pending := by
    intro l; induction l with
    | nil => intro u; rfl
    | cons w r ih => intro u; unfold takeFrom; dsimp only; split <;> simp [ih]
  unfold State.takeNext; split
  · rfl
  · exact h _ _

@[simp] theorem keep_pending_State_submit (s : State) (f : Flight) : (State.submit s f).pending = s.pending := by
  (unfold State.submit; simp; done)
@[simp] theorem keep_pending_State_withCur (s : State) (t tag op : Nat) (f : Flight → State → State) (h : ∀ c s, (f c s).pending = s.pending) : (s.withCur t tag op f).pending = s.pending := by
  unfold State.withCur; dsimp only; split
  · simp
  · split
    · simp [h]
    · simp

@[simp] theorem keep_pending_State_setDraft (s : State) (m : Mem) : (State.setDraft s m).pending = s.pending := by
  (unfold State.setDraft; (try dsimp only); (repeat' split); all_goals (first | rfl | simp; done))
@[simp] theorem keep_pending_State_modEnc (s : State) (k : Nat) (f : EncSt → EncSt) : (State.modEnc s k f).pending = s.pending := by
  rfl
@[simp] theorem keep_pending_State_logEnc (s : State) (k code sev p1 p2 : Nat) : (State.logEnc s k code sev p1 p2).pending = s.pending := by
  rfl
@[simp] theorem keep_pending_State_latchOne (s : State) (k : Nat) : (State.latchOne s k).pending = s.pending := by
  (unfold State.latchOne; (try dsimp only); (repeat' split); all_goals (first | rfl | simp; done))
@[simp] theorem keep_pending_State_cmpRevert (s : State) (k : Nat) : (State.cmpRevert s k).pending = s.pending := by
  (unfold State.cmpRevert; simp; done)
@[simp] theorem keep_pending_State_fireCmp (s : State) (k te net : Nat) : (State.fireCmp s k te net).pending = s.pending := by
  (unfold State.fireCmp; simp; done)
@[simp] theorem keep_pending_State_armCheck (s0 : State) (k : Nat) : (State.armCheck s0 k).pending = s0.pending := by
  (unfold State.armCheck; simp; done)
@[simp] theorem keep_pending_State_armDue (s : State) (k : Nat) : (State.armDue s k).pending = s.pending := by
  (unfold State.armDue; simp; done)
@[simp] theorem keep_pending_State_pulseOne (s : State) (k : Nat) : (State.pulseOne s k).pending = s.pending := by
  (unfold State.pulseOne; (try dsimp only); (repeat' split); all_goals (first | rfl | simp; done))
@[simp] theorem keep_pending_State_settleEnc (s : State) (k : Nat) : (s.settleEnc k).pending = s.pending := by
  have h : ∀ (n : Nat) (u : State), (latchAll k n u).pending = u.pending := by
    intro n; induction n with
    | zero => intro u; rfl
    | succ n ih => intro u; show (latchAll k n (u.latchOne k)).pending = _; simp [ih]
  unfold State.settleEnc; simp [h]

@[simp] theorem keep_pending_State_cmpWindow (s : State) (k : Nat) : (State.cmpWindow s k).pending = s.pending := by
  (unfold State.cmpWindow; simp; done)
@[simp] theorem keep_pending_State_compare (s : State) (k : Nat) (fwd : Bool) (te net : Nat) : (State.compare s k fwd te net).pending = s.pending := by
  (unfold State.compare; simp; done)
@[simp] theorem keep_pending_State_cmpFromTable (s0 : State) (k : Nat) : (State.cmpFromTable s0 k).pending = s0.pending := by
  (unfold State.cmpFromTable; simp; done)
@[simp] theorem keep_pending_State_cmpSuspend (s0 : State) (k : Nat) : (State.cmpSuspend s0 k).pending = s0.pending := by
  (unfold State.cmpSuspend; simp; done)
@[simp] theorem keep_pending_State_cmpResume (s : State) (k : Nat) : (State.cmpResume s k).pending = s.pending := by
  (unfold State.cmpResume; simp; done)
@[simp] theorem keep_pending_State_setQuadErr (s : State) (k : Nat) : (State.setQuadErr s k).pending = s.pending := by
  (unfold State.setQuadErr; simp; done)
@[simp] theorem keep_pending_State_countEdge (s : State) (k : Nat) (fwd : Bool) (te net : Nat) : (State.countEdge s k fwd te net).pending = s.pending := by
  (unfold State.countEdge; simp; done)
@[simp] theorem keep_pending_State_encSample (s : State) (k : Nat) (a b : Bool) : (s.encSample k a b).pending = s.pending := by
  unfold State.encSample; dsimp only; repeat' split
  all_goals simp

@[simp] theorem keep_pending_State_indexEdge (s0 : State) (k : Nat) : (s0.indexEdge k).pending = s0.pending := by
  unfold State.indexEdge; dsimp only
  refine ite0 (by simp) (ite0 (by simp) (ite0 ?_ (ite0 (ite0 (by simp) (by simp)) (ite0 (by simp) (by simp)))))
  split <;> simp

@[simp] theorem keep_pending_State_rebaseEnc (s0 : State) (k mode : Nat) (v : BitVec 32) : (State.rebaseEnc s0 k mode v).pending = s0.pending := by
  (unfold State.rebaseEnc; simp; done)
@[simp] theorem keep_pending_State_ssiStart (s : State) (k seq : Nat) : (State.ssiStart s k seq).pending = s.pending := by
  (unfold State.ssiStart; simp; done)
@[simp] theorem keep_pending_State_ssiDone (s : State) (k : Nat) (idleOk endOk parity : Bool) (raw : Nat) : (State.ssiDone s k idleOk endOk parity raw).pending = s.pending := by
  (unfold State.ssiDone; (try dsimp only); (repeat' split); all_goals (first | rfl | simp; done))
@[simp] theorem keep_pending_State_ssiTake (s : State) (k : Nat) : (State.ssiTake s k).pending = s.pending := by
  (unfold State.ssiTake; (try dsimp only); (repeat' split); all_goals (first | rfl | simp; done))
@[simp] theorem keep_pending_State_captureEnc (s0 : State) (k : Nat) : (State.captureEnc s0 k).pending = s0.pending := by
  (unfold State.captureEnc; simp; done)
@[simp] theorem keep_pending_State_lineFault (s0 : State) (k input : Nat) : (State.lineFault s0 k input).pending = s0.pending := by
  (unfold State.lineFault; simp; done)
@[simp] theorem keep_pending_State_cmpOverload (s : State) (k : Nat) : (State.cmpOverload s k).pending = s.pending := by
  (unfold State.cmpOverload; simp; done)
@[simp] theorem keep_pending_State_cmpOverloadEnd (s : State) (k : Nat) : (State.cmpOverloadEnd s k).pending = s.pending := by
  (unfold State.cmpOverloadEnd; (try dsimp only); (repeat' split); all_goals (first | rfl | simp; done))
@[simp] theorem keep_pending_State_limitEdge (s : State) (di : Nat) (level : Bool) : (State.limitEdge s di level).pending = s.pending := by
  (unfold State.limitEdge; simp; done)
@[simp] theorem keep_pending_State_addLive (s : State) (k : LiveKind) (f : Flight) : (State.addLive s k f).pending = s.pending := by
  rfl
@[simp] theorem keep_pending_State_endLive (s : State) (c : LiveCmd) (st : Status) (d : Nat) (p : List Byte) : (State.endLive s c st d p).pending = s.pending := by
  rfl
@[simp] theorem keep_pending_State_answerLive (s : State) (c : LiveCmd) (d : Nat) (p : List Byte) : (State.answerLive s c d p).pending = s.pending := by
  (unfold State.answerLive; simp; done)
@[simp] theorem keep_pending_State_latchRead (s0 : State) (f : Flight) : (State.latchRead s0 f).pending = s0.pending := by
  (unfold State.latchRead; simp; done)
@[simp] theorem keep_pending_State_applyEncLive (s : State) (c : LiveCmd) : (s.applyEncLive c).pending = s.pending := by
  unfold State.applyEncLive; dsimp only
  refine ite0 rfl ?_
  split
  · exact ite0 (by simp) (by simp)
  · exact ite0 (by simp) (by simp)
  · exact ite0 (by simp) (by simp)
  · rfl

@[simp] theorem keep_pending_State_encLive (s : State) : (State.encLive s).pending = s.pending := by
  (unfold State.encLive; simp; done)
@[simp] theorem keep_pending_State_modDi (s : State) (i : Nat) (f : DiSt → DiSt) : (State.modDi s i f).pending = s.pending := by
  rfl
@[simp] theorem keep_pending_State_logDi (s : State) (i code sev p1 p2 : Nat) : (State.logDi s i code sev p1 p2).pending = s.pending := by
  rfl
@[simp] theorem keep_pending_State_diLine (s : State) (i : Nat) (broken : Bool) : (State.diLine s i broken).pending = s.pending := by
  (unfold State.diLine; simp; done)
@[simp] theorem keep_pending_State_diSample (s : State) (i mv : Nat) : (State.diSample s i mv).pending = s.pending := by
  (unfold State.diSample; (try dsimp only); (repeat' split); all_goals (first | rfl | simp; done))
@[simp] theorem keep_pending_State_captureDi (s : State) (i mv : Nat) : (State.captureDi s i mv).pending = s.pending := by
  (unfold State.captureDi; simp; done)
@[simp] theorem keep_pending_State_modAo (s : State) (k : Nat) (f : AoSt → AoSt) : (State.modAo s k f).pending = s.pending := by
  rfl
@[simp] theorem keep_pending_State_aoCommand (s : State) (k : Nat) : (State.aoCommand s k).pending = s.pending := by
  rfl
@[simp] theorem keep_pending_State_aoApply (s : State) (k : Nat) : (State.aoApply s k).pending = s.pending := by
  rfl
@[simp] theorem keep_pending_State_aoFault (s : State) (k code ma : Nat) : (State.aoFault s k code ma).pending = s.pending := by
  rfl
@[simp] theorem keep_pending_State_aoOverload (s : State) (k ma : Nat) : (State.aoOverload s k ma).pending = s.pending := by
  (unfold State.aoOverload; simp; done)
@[simp] theorem keep_pending_State_aoSample (s : State) (k ma mv : Nat) : (State.aoSample s k ma mv).pending = s.pending := by
  (unfold State.aoSample; simp; done)
@[simp] theorem keep_pending_State_aoTotal (s : State) (ma : List Nat) : (State.aoTotal s ma).pending = s.pending := by
  (unfold State.aoTotal; simp; done)
@[simp] theorem keep_pending_State_aoTotalSample (s : State) (ma : List Nat) : (State.aoTotalSample s ma).pending = s.pending := by
  (unfold State.aoTotalSample; simp; done)
@[simp] theorem keep_pending_State_takeAos (s : State) (ma mv : List Nat) : (State.takeAos s ma mv).pending = s.pending := by
  (unfold State.takeAos; simp; done)
@[simp] theorem keep_pending_State_nokUpdate (s : State) : (State.nokUpdate s).pending = s.pending := by
  rfl
@[simp] theorem keep_pending_State_nokFault (s : State) (ma : Nat) : (State.nokFault s ma).pending = s.pending := by
  rfl
@[simp] theorem keep_pending_State_nokSample (s : State) (ma : Nat) : (State.nokSample s ma).pending = s.pending := by
  (unfold State.nokSample; (try dsimp only); (repeat' split); all_goals (first | rfl | simp; done))
@[simp] theorem keep_pending_State_setEng (s : State) (e : Eng) : (State.setEng s e).pending = s.pending := by
  rfl
@[simp] theorem keep_pending_State_frameEvAt (s : State) (ts code sev kind idx role p1 p2 flags : Nat) : (State.frameEvAt s ts code sev kind idx role p1 p2 flags).pending = s.pending := by
  rfl
@[simp] theorem keep_pending_State_frameEv (s : State) (code sev kind idx role p1 p2 : Nat) : (State.frameEv s code sev kind idx role p1 p2).pending = s.pending := by
  rfl
@[simp] theorem keep_pending_State_frameMsg (s : State) (mask prio cls index : Nat) (body : List Byte) : (State.frameMsg s mask prio cls index body).pending = s.pending := by
  rfl
@[simp] theorem keep_pending_State_openFrame (s : State) : (State.openFrame s).pending = s.pending := by
  rfl
@[simp] theorem keep_pending_State_toFrame (s : State) (t : Nat) : (State.toFrame s t).pending = s.pending := by
  (unfold State.toFrame; (try dsimp only); (repeat' split); all_goals (first | rfl | simp; done))
@[simp] theorem keep_pending_State_modChan (s : State) (n : Nat) (f : ChanSt → ChanSt) : (State.modChan s n f).pending = s.pending := by
  rfl
@[simp] theorem keep_pending_State_modBank (s : State) (b : Nat) (f : BankSt → BankSt) : (State.modBank s b f).pending = s.pending := by
  rfl
@[simp] theorem keep_pending_State_logChan (s : State) (n code sev p1 p2 : Nat) : (State.logChan s n code sev p1 p2).pending = s.pending := by
  rfl
@[simp] theorem keep_pending_State_logBank (s : State) (b code sev p1 p2 : Nat) : (State.logBank s b code sev p1 p2).pending = s.pending := by
  rfl
@[simp] theorem keep_pending_State_modOut (s : State) (n : Nat) (f : OutSt → OutSt) : (State.modOut s n f).pending = s.pending := by
  rfl
@[simp] theorem keep_pending_State_each (s : State) (n : Nat) (f : State → Nat → State) (h : ∀ s x, (f s x).pending = s.pending) : (s.each n f).pending = s.pending := ek h n s

@[simp] theorem keep_pending_State_outTake (s : State) (n : Nat) : (State.outTake s n).pending = s.pending := by
  (unfold State.outTake; (try dsimp only); (repeat' split); all_goals (first | rfl | simp; done))
@[simp] theorem keep_pending_State_outStart (s : State) (n : Nat) : (State.outStart s n).pending = s.pending := by
  rfl
@[simp] theorem keep_pending_State_outToSafe (s : State) (n : Nat) (d : DriveState) : (State.outToSafe s n d).pending = s.pending := by
  rfl
@[simp] theorem keep_pending_State_outApply (s : State) (pub : Bool) (n : Nat) : (State.outApply s pub n).pending = s.pending := by
  (unfold State.outApply; (try dsimp only); (repeat' split); all_goals (first | rfl | simp; done))
@[simp] theorem keep_pending_State_outRampDown (s : State) (n : Nat) : (State.outRampDown s n).pending = s.pending := by
  rfl
@[simp] theorem keep_pending_State_outRampStep (s : State) (n : Nat) : (State.outRampStep s n).pending = s.pending := by
  (unfold State.outRampStep; (try dsimp only); (repeat' split); all_goals (first | rfl | simp; done))
@[simp] theorem keep_pending_State_complEnter (s : State) (n : Nat) : (State.complEnter s n).pending = s.pending := by
  (unfold State.complEnter; simp; done)
@[simp] theorem keep_pending_State_complTimer (s : State) (n : Nat) : (State.complTimer s n).pending = s.pending := by
  (unfold State.complTimer; simp; done)
@[simp] theorem keep_pending_State_complLeave (s : State) (n : Nat) : (State.complLeave s n).pending = s.pending := by
  (unfold State.complLeave; simp; done)
@[simp] theorem keep_pending_State_openDeclare (s : State) (n : Nat) : (State.openDeclare s n).pending = s.pending := by
  (unfold State.openDeclare; simp; done)
@[simp] theorem keep_pending_State_probeStep (s : State) (n : Nat) : (State.probeStep s n).pending = s.pending := by
  (unfold State.probeStep; simp; done)
@[simp] theorem keep_pending_State_overStep (s : State) (n : Nat) : (State.overStep s n).pending = s.pending := by
  rfl
@[simp] theorem keep_pending_State_outJudge (s : State) (n : Nat) (x : ChIn) : (State.outJudge s n x).pending = s.pending := by
  (unfold State.outJudge; simp; done)
@[simp] theorem keep_pending_State_outDemand (s : State) (n : Nat) : (State.outDemand s n).pending = s.pending := by
  rfl
@[simp] theorem keep_pending_State_switches (s : State) (n : Nat) : (State.switches s n).pending = s.pending := by
  rfl
@[simp] theorem keep_pending_State_publishChan (s : State) (n seq : Nat) (q : Quality) (v : Option F32) : (State.publishChan s n seq q v).pending = s.pending := by
  rfl
@[simp] theorem keep_pending_State_logBadRecs (s : State) (n : Nat) : (State.logBadRecs s n).pending = s.pending := by
  (unfold State.logBadRecs; simp; done)
@[simp] theorem keep_pending_State_logCalLoad (s : State) (n : Nat) (load : Bool) : (State.logCalLoad s n load).pending = s.pending := by
  (unfold State.logCalLoad; simp; done)
@[simp] theorem keep_pending_State_noteCal (s : State) (n : Nat) (load : Bool) : (State.noteCal s n load).pending = s.pending := by
  (unfold State.noteCal; simp; done)
@[simp] theorem keep_pending_State_calSample (s : State) (n : Nat) (x : F32) : (State.calSample s n x).pending = s.pending := by
  rfl
@[simp] theorem keep_pending_State_captureOut (s : State) (seq n : Nat) (x : ChIn) : (State.captureOut s seq n x).pending = s.pending := by
  (unfold State.captureOut; simp; done)
@[simp] theorem keep_pending_State_applyOutLive (s : State) (c : LiveCmd) : (State.applyOutLive s c).pending = s.pending := by
  (unfold State.applyOutLive; (try dsimp only); (repeat' split); all_goals (first | rfl | simp; done))
@[simp] theorem keep_pending_State_outLive (s : State) : (State.outLive s).pending = s.pending := by
  (unfold State.outLive; simp; done)
@[simp] theorem keep_pending_State_modModem (s : State) (b : Nat) (f : ModemSt → ModemSt) : (State.modModem s b f).pending = s.pending := by
  rfl
@[simp] theorem keep_pending_State_fskLeave (s : State) (b : Nat) (x : FskTx) (go : State → State) (h : ∀ s, (go s).pending = s.pending) : (s.fskLeave b x go).pending = s.pending := by
  unfold State.fskLeave; dsimp only; split
  · exact h _
  · simp

@[simp] theorem keep_pending_State_fskAttach (s : State) (b : Nat) : (s.fskAttach b).pending = s.pending := by
  unfold State.fskAttach; dsimp only; split
  · split
    · exact keep_pending_State_fskLeave _ _ _ _ (fun s => by simp)
    · rfl
  · rfl

@[simp] theorem keep_pending_State_fskStart (s : State) (b : Nat) : (State.fskStart s b).pending = s.pending := by
  (unfold State.fskStart; simp; done)
@[simp] theorem keep_pending_State_fskSend (s : State) (b : Nat) : (State.fskSend s b).pending = s.pending := by
  (unfold State.fskSend; (try dsimp only); (repeat' split); all_goals (first | rfl | simp; done))
@[simp] theorem keep_pending_State_fskFail (s : State) (b : Nat) (x : FskTx) : (State.fskFail s b x).pending = s.pending := by
  (unfold State.fskFail; simp; done)
@[simp] theorem keep_pending_State_fskRespond (s : State) (b pre : Nat) (parity : Bool) (data : List Byte) : (State.fskRespond s b pre parity data).pending = s.pending := by
  (unfold State.fskRespond; (try dsimp only); (repeat' split); all_goals (first | rfl | simp; done))
@[simp] theorem keep_pending_State_fskAbort (s : State) (b : Nat) (sel : Nat → Bool) : (State.fskAbort s b sel).pending = s.pending := by
  (unfold State.fskAbort; (try dsimp only); (repeat' split); all_goals (first | rfl | simp; done))
@[simp] theorem keep_pending_State_burstCheck (s : State) (b : Nat) : (State.burstCheck s b).pending = s.pending := by
  (unfold State.burstCheck; (try dsimp only); (repeat' split); all_goals (first | rfl | simp; done))
@[simp] theorem keep_pending_State_burstFrame (s : State) (b pre : Nat) (parity : Bool) (data : List Byte) : (State.burstFrame s b pre parity data).pending = s.pending := by
  (unfold State.burstFrame; (try dsimp only); (repeat' split); all_goals (first | rfl | simp; done))
@[simp] theorem keep_pending_State_frameIn (s : State) (b : Nat) (body : List Byte) : (s.frameIn b body).pending = s.pending := by
  unfold State.frameIn; split
  · rfl
  · exact fk (fun s k => by simp) _ _

@[simp] theorem keep_pending_State_modAmp (s : State) (b i : Nat) (f : AmpSt → AmpSt) : (State.modAmp s b i f).pending = s.pending := by
  rfl
@[simp] theorem keep_pending_State_restartChan (s : State) (n : Nat) : (State.restartChan s n).pending = s.pending := by
  rfl
@[simp] theorem keep_pending_State_restartBank (s : State) (b : Nat) : (State.restartBank s b).pending = s.pending := by
  (unfold State.restartBank; simp; done)
@[simp] theorem keep_pending_State_ampReset (s : State) (b i : Nat) : (State.ampReset s b i).pending = s.pending := by
  rfl
@[simp] theorem keep_pending_State_ampSetup (s : State) (b i : Nat) : (State.ampSetup s b i).pending = s.pending := by
  (unfold State.ampSetup; simp; done)
@[simp] theorem keep_pending_State_ampEnd (s : State) (b i : Nat) : (s.ampEnd b i).pending = s.pending := by
  unfold State.ampEnd; repeat' split
  all_goals simp

@[simp] theorem keep_pending_State_bankSetup (s : State) (b : Nat) : (State.bankSetup s b).pending = s.pending := by
  rfl
@[simp] theorem keep_pending_State_supplyOn (s : State) (b : Nat) : (State.supplyOn s b).pending = s.pending := by
  rfl
@[simp] theorem keep_pending_State_supplyOff (s : State) (b : Nat) : (State.supplyOff s b).pending = s.pending := by
  rfl
@[simp] theorem keep_pending_State_supplyEnd (s : State) (b : Nat) : (State.supplyEnd s b).pending = s.pending := by
  rfl
@[simp] theorem keep_pending_State_supplyTick (s : State) (b : Nat) : (State.supplyTick s b).pending = s.pending := by
  (unfold State.supplyTick; simp; done)
@[simp] theorem keep_pending_State_bankPowerUp (s : State) (b : Nat) : (State.bankPowerUp s b).pending = s.pending := by
  (unfold State.bankPowerUp; simp; done)
@[simp] theorem keep_pending_State_bankStart (s : State) (b : Nat) : (State.bankStart s b).pending = s.pending := by
  (unfold State.bankStart; simp; done)
@[simp] theorem keep_pending_State_bankDown (s : State) (b : Nat) (p : BankPower) : (s.bankDown b p).pending = s.pending := by
  unfold State.bankDown; dsimp only
  rw [keep_pending_State_fskAbort, ek (fun s j => by simp)]; simp

@[simp] theorem keep_pending_State_bankFault (s : State) (b cause : Nat) : (State.bankFault s b cause).pending = s.pending := by
  (unfold State.bankFault; simp; done)
@[simp] theorem keep_pending_State_linkLost (s : State) (b n : Nat) : (State.linkLost s b n).pending = s.pending := by
  (unfold State.linkLost; simp; done)
@[simp] theorem keep_pending_State_upFrame (s : State) (b : Nat) (f : UpFrame) : (State.upFrame s b f).pending = s.pending := by
  (unfold State.upFrame; simp; done)
@[simp] theorem keep_pending_State_downFrame (s : State) (b : Nat) (f : DownFrame) : (State.downFrame s b f).pending = s.pending := by
  (unfold State.downFrame; simp; done)
@[simp] theorem keep_pending_State_watchdogTrip (s : State) (b : Nat) : (State.watchdogTrip s b).pending = s.pending := by
  (unfold State.watchdogTrip; simp; done)
@[simp] theorem keep_pending_State_landBeyond (s : State) (b l : Nat) (above : Bool) : (State.landBeyond s b l above).pending = s.pending := by
  (unfold State.landBeyond; simp; done)
@[simp] theorem keep_pending_State_landBack (s : State) (b l : Nat) : (State.landBack s b l).pending = s.pending := by
  (unfold State.landBack; simp; done)
@[simp] theorem keep_pending_State_ampOverload (s : State) (ch : Nat) (pos : Bool) : (State.ampOverload s ch pos).pending = s.pending := by
  (unfold State.ampOverload; simp; done)
@[simp] theorem keep_pending_State_holdEnd (s : State) (ch : Nat) : (State.holdEnd s ch).pending = s.pending := by
  (unfold State.holdEnd; (try dsimp only); (repeat' split); all_goals (first | rfl | simp; done))
@[simp] theorem keep_pending_State_resetEnd (s : State) (ch : Nat) : (State.resetEnd s ch).pending = s.pending := by
  (unfold State.resetEnd; (try dsimp only); (repeat' split); all_goals (first | rfl | simp; done))
@[simp] theorem keep_pending_State_modBlend (s : State) (b : Nat) (f : BlendSt → BlendSt) : (State.modBlend s b f).pending = s.pending := by
  rfl
@[simp] theorem keep_pending_State_evalSlot (s : State) (b : Nat) : (State.evalSlot s b).pending = s.pending := by
  (unfold State.evalSlot; (try dsimp only); (repeat' split); all_goals (first | rfl | simp; done))
@[simp] theorem keep_pending_State_evalSlots (s : State) : (State.evalSlots s).pending = s.pending := by
  (unfold State.evalSlots; simp; done)
@[simp] theorem keep_pending_State_modWeir (s : State) (w : Nat) (f : WeirSt → WeirSt) : (State.modWeir s w f).pending = s.pending := by
  rfl
@[simp] theorem keep_pending_State_evalWeirAt (s : State) (w : Nat) : (State.evalWeirAt s w).pending = s.pending := by
  (unfold State.evalWeirAt; simp; done)
@[simp] theorem keep_pending_State_evalWeirs (s : State) : (State.evalWeirs s).pending = s.pending := by
  (unfold State.evalWeirs; simp; done)
@[simp] theorem keep_pending_State_weirLog (s : State) (w : Nat) (l : WeirLog) : (State.weirLog s w l).pending = s.pending := by
  rfl
@[simp] theorem keep_pending_State_stepWeirs (s : State) (live : List LiveCmd) (acks : List AckSrc) : (s.stepWeirs live acks).1.pending = s.pending := by
  unfold State.stepWeirs
  have h : ∀ (l : List Nat) (p : State × List (Option LiveCmd)), (l.foldl (State.stepWeirAt live acks) p).1.pending = p.1.pending := by
    intro l; induction l with
    | nil => intro p; rfl
    | cons w r ih => intro p; rw [List.foldl_cons, ih]; unfold State.stepWeirAt; dsimp only; repeat' split
                     all_goals simp
  simp [h]

@[simp] theorem keep_pending_State_weirLive (s : State) (f : Flight) (k : LiveKind) : (State.weirLive s f k).pending = s.pending := by
  (unfold State.weirLive; simp; done)
@[simp] theorem keep_pending_State_weirStatus (s : State) (f : Flight) : (State.weirStatus s f).pending = s.pending := by
  (unfold State.weirStatus; simp; done)
@[simp] theorem keep_pending_State_weirElapse (s : State) (w : Nat) : (State.weirElapse s w).pending = s.pending := by
  rfl
@[simp] theorem keep_pending_State_weirSuspect (s : State) (w : Nat) : (State.weirSuspect s w).pending = s.pending := by
  rfl
@[simp] theorem keep_pending_State_weirUnshelve (s : State) (w : Nat) : (State.weirUnshelve s w).pending = s.pending := by
  (unfold State.weirUnshelve; simp; done)
@[simp] theorem keep_pending_State_modGroup (s : State) (g : Nat) (f : GroupSt → GroupSt) : (State.modGroup s g f).pending = s.pending := by
  rfl
@[simp] theorem keep_pending_State_groupEvs (s : State) (g : Nat) (x : Src) (codes : List Nat) : (State.groupEvs s g x codes).pending = s.pending := by
  (unfold State.groupEvs; simp; done)
@[simp] theorem keep_pending_State_suppress (s : State) (g : Nat) : (State.suppress s g).pending = s.pending := by
  (unfold State.suppress; simp; done)
@[simp] theorem keep_pending_State_suppressAll (s : State) : (State.suppressAll s).pending = s.pending := by
  (unfold State.suppressAll; simp; done)
@[simp] theorem keep_pending_State_buttonStuck (s : State) (i : Nat) : (State.buttonStuck s i).pending = s.pending := by
  (unfold State.buttonStuck; (try dsimp only); (repeat' split); all_goals (first | rfl | simp; done))
@[simp] theorem keep_pending_State_buttonKeep (s : State) (i : Nat) : (State.buttonKeep s i).pending = s.pending := by
  (unfold State.buttonKeep; simp; done)
@[simp] theorem keep_pending_State_aggregate (s : State) (g : Nat) : (State.aggregate s g).pending = s.pending := by
  rfl
@[simp] theorem keep_pending_State_aggregateAll (s : State) : (State.aggregateAll s).pending = s.pending := by
  (unfold State.aggregateAll; simp; done)
@[simp] theorem keep_pending_State_answerWeirCmd (hits : List (Option LiveCmd)) (s : State) (c : LiveCmd) : (State.answerWeirCmd hits s c).pending = s.pending := by
  (unfold State.answerWeirCmd; (try dsimp only); (repeat' split); all_goals (first | rfl | simp; done))
@[simp] theorem keep_pending_State_alarmStep (s : State) : (s.alarmStep).pending = s.pending := by
  unfold State.alarmStep
  dsimp only
  refine (fk (fun s c => keep_pending_State_answerWeirCmd _ _ _) _ _).trans ?_
  rw [keep_pending_State_aggregateAll, keep_pending_State_stepWeirs, keep_pending_State_suppressAll]
  exact fk (fun s c => by simp) _ _

@[simp] theorem keep_pending_State_groupRelease (s : State) (g : Nat) : (State.groupRelease s g).pending = s.pending := by
  (unfold State.groupRelease; simp; done)
@[simp] theorem keep_pending_State_modFo (s : State) (f : Nat) (g : FoSt → FoSt) : (State.modFo s f g).pending = s.pending := by
  rfl
@[simp] theorem keep_pending_State_foEv (s : State) (f code sev node weir count : Nat) : (State.foEv s f code sev node weir count).pending = s.pending := by
  rfl
@[simp] theorem keep_pending_State_foBroadcast (s : State) (f : Nat) : (State.foBroadcast s f).pending = s.pending := by
  (unfold State.foBroadcast; simp; done)
@[simp] theorem keep_pending_State_foEnter (s : State) (f : Nat) (x : FoCand) : (State.foEnter s f x).pending = s.pending := by
  (unfold State.foEnter; simp; done)
@[simp] theorem keep_pending_State_foLocal (s : State) (w : Nat) (c : WeirCfg) : (State.foLocal s w c).pending = s.pending := by
  (unfold State.foLocal; simp; done)
@[simp] theorem keep_pending_State_foDecide (s : State) (f : Nat) : (State.foDecide s f).pending = s.pending := by
  (unfold State.foDecide; (try dsimp only); (repeat' split); all_goals (first | rfl | simp; done))
@[simp] theorem keep_pending_State_foAbsent (s : State) (f : Nat) : (State.foAbsent s f).pending = s.pending := by
  (unfold State.foAbsent; (try dsimp only); (repeat' split); all_goals (first | rfl | simp; done))
@[simp] theorem keep_pending_State_foClear (s : State) (f origin : Nat) : (State.foClear s f origin).pending = s.pending := by
  rfl
@[simp] theorem keep_pending_State_foResetDue (s : State) (f : Nat) : (State.foResetDue s f).pending = s.pending := by
  (unfold State.foResetDue; (try dsimp only); (repeat' split); all_goals (first | rfl | simp; done))
@[simp] theorem keep_pending_State_foAuto (s : State) (f : Nat) : (State.foAuto s f).pending = s.pending := by
  (unfold State.foAuto; simp; done)
@[simp] theorem keep_pending_State_foAdopt (s : State) (f : Nat) : (State.foAdopt s f).pending = s.pending := by
  rfl
@[simp] theorem keep_pending_State_foCommand (s : State) (c : LiveCmd) : (State.foCommand s c).pending = s.pending := by
  (unfold State.foCommand; (try dsimp only); (repeat' split); all_goals (first | rfl | simp; done))
@[simp] theorem keep_pending_State_foAnswer (s : State) (c : LiveCmd) : (State.foAnswer s c).pending = s.pending := by
  (unfold State.foAnswer; (try dsimp only); (repeat' split); all_goals (first | rfl | simp; done))
@[simp] theorem keep_pending_State_foStep (s : State) : (State.foStep s).pending = s.pending := by
  (unfold State.foStep; simp; done)
@[simp] theorem keep_pending_State_foRequest (s : State) (k : FoCfg) (origin : Nat) : (State.foRequest s k origin).pending = s.pending := by
  (unfold State.foRequest; simp; done)
@[simp] theorem keep_pending_State_foResetReq (s : State) (fl : Flight) : (State.foResetReq s fl).pending = s.pending := by
  (unfold State.foResetReq; (try dsimp only); (repeat' split); all_goals (first | rfl | simp; done))
@[simp] theorem keep_pending_State_foStatus (s : State) (fl : Flight) : (State.foStatus s fl).pending = s.pending := by
  (unfold State.foStatus; simp; done)
@[simp] theorem keep_pending_State_modChain (s : State) (c : Nat) (f : ChainSt → ChainSt) : (State.modChain s c f).pending = s.pending := by
  rfl
@[simp] theorem keep_pending_State_sendCall (s : State) (c : Nat) (members : List Nat) (cancel : Bool) : (State.sendCall s c members cancel).pending = s.pending := by
  (unfold State.sendCall; simp; done)
@[simp] theorem keep_pending_State_callOut (s : State) (c : Nat) : (State.callOut s c).pending = s.pending := by
  (unfold State.callOut; simp; done)
@[simp] theorem keep_pending_State_enterStage (s : State) (c k : Nat) : (State.enterStage s c k).pending = s.pending := by
  (unfold State.enterStage; simp; done)
@[simp] theorem keep_pending_State_endCall (s : State) (c : Nat) : (State.endCall s c).pending = s.pending := by
  (unfold State.endCall; simp; done)
@[simp] theorem keep_pending_State_chainDwell (s : State) (c : Nat) : (State.chainDwell s c).pending = s.pending := by
  (unfold State.chainDwell; simp; done)
@[simp] theorem keep_pending_State_chainAcceptEnd (s : State) (c : Nat) : (State.chainAcceptEnd s c).pending = s.pending := by
  (unfold State.chainAcceptEnd; simp; done)
@[simp] theorem keep_pending_State_chainRepeat (s : State) (c : Nat) : (State.chainRepeat s c).pending = s.pending := by
  (unfold State.chainRepeat; (try dsimp only); (repeat' split); all_goals (first | rfl | simp; done))
@[simp] theorem keep_pending_State_chainCancel (s : State) (c : Nat) : (State.chainCancel s c).pending = s.pending := by
  (unfold State.chainCancel; simp; done)
@[simp] theorem keep_pending_State_chainAccept (s : State) (c origin : Nat) (panel : Option (Nat × Nat)) : (State.chainAccept s c origin panel).pending = s.pending := by
  (unfold State.chainAccept; simp; done)
@[simp] theorem keep_pending_State_acceptCmd (s : State) (c : LiveCmd) : (State.acceptCmd s c).pending = s.pending := by
  (unfold State.acceptCmd; (try dsimp only); (repeat' split); all_goals (first | rfl | simp; done))
@[simp] theorem keep_pending_State_chainStep (s : State) (c : Nat) : (State.chainStep s c).pending = s.pending := by
  (unfold State.chainStep; simp; done)
@[simp] theorem keep_pending_State_chainsStep (s : State) : (State.chainsStep s).pending = s.pending := by
  (unfold State.chainsStep; simp; done)
@[simp] theorem keep_pending_State_rosterEv (s : State) (code sev p1 p2 : Nat) : (State.rosterEv s code sev p1 p2).pending = s.pending := by
  rfl
@[simp] theorem keep_pending_State_modDuty (s : State) (f : DutySt → DutySt) : (State.modDuty s f).pending = s.pending := by
  rfl
@[simp] theorem keep_pending_State_dutyChange (s : State) : (State.dutyChange s).pending = s.pending := by
  (unfold State.dutyChange; (try dsimp only); (repeat' split); all_goals (first | rfl | simp; done))
@[simp] theorem keep_pending_State_dutyTimeout (s : State) : (State.dutyTimeout s).pending = s.pending := by
  (unfold State.dutyTimeout; (try dsimp only); (repeat' split); all_goals (first | rfl | simp; done))
@[simp] theorem keep_pending_State_dutyCmd (s : State) (c : LiveCmd) : (State.dutyCmd s c).pending = s.pending := by
  (unfold State.dutyCmd; (try dsimp only); (repeat' split); all_goals (first | rfl | simp; done))
@[simp] theorem keep_pending_State_dutyDefault (s : State) : (State.dutyDefault s).pending = s.pending := by
  (unfold State.dutyDefault; (try dsimp only); (repeat' split); all_goals (first | rfl | simp; done))
@[simp] theorem keep_pending_State_dutySettle (s : State) (named : Option Nat) : (State.dutySettle s named).pending = s.pending := by
  (unfold State.dutySettle; (try dsimp only); (repeat' split); all_goals (first | rfl | simp; done))
@[simp] theorem keep_pending_State_modDead (s : State) (f : DeadSt → DeadSt) : (State.modDead s f).pending = s.pending := by
  rfl
@[simp] theorem keep_pending_State_forceChain (s : State) : (State.forceChain s).pending = s.pending := by
  (unfold State.forceChain; simp; done)
@[simp] theorem keep_pending_State_deadPrewarn (s : State) : (State.deadPrewarn s).pending = s.pending := by
  (unfold State.deadPrewarn; simp; done)
@[simp] theorem keep_pending_State_deadAlarm (s : State) : (State.deadAlarm s).pending = s.pending := by
  (unfold State.deadAlarm; simp; done)
@[simp] theorem keep_pending_State_chainsFree (s : State) : (State.chainsFree s).pending = s.pending := by
  rfl
@[simp] theorem keep_pending_State_deadReset (s : State) (origin : Nat) : (State.deadReset s origin).pending = s.pending := by
  (unfold State.deadReset; (try dsimp only); (repeat' split); all_goals (first | rfl | simp; done))
@[simp] theorem keep_pending_State_deadCmd (s : State) (c : LiveCmd) : (State.deadCmd s c).pending = s.pending := by
  (unfold State.deadCmd; (try dsimp only); (repeat' split); all_goals (first | rfl | simp; done))
@[simp] theorem keep_pending_State_deadFault (s : State) : (State.deadFault s).pending = s.pending := by
  (unfold State.deadFault; simp; done)
@[simp] theorem keep_pending_State_deadJudge (s : State) : (State.deadJudge s).pending = s.pending := by
  (unfold State.deadJudge; (try dsimp only); (repeat' split); all_goals (first | rfl | simp; done))
@[simp] theorem keep_pending_State_deadStep (s : State) : (State.deadStep s).pending = s.pending := by
  (unfold State.deadStep; simp; done)
@[simp] theorem keep_pending_State_rosterStep (s : State) : (State.rosterStep s).pending = s.pending := by
  (unfold State.rosterStep; simp; done)
@[simp] theorem keep_pending_State_callStatus (s : State) (f : Flight) : (State.callStatus s f).pending = s.pending := by
  (unfold State.callStatus; simp; done)
@[simp] theorem keep_pending_State_dutyReq (s : State) (f : Flight) : (State.dutyReq s f).pending = s.pending := by
  (unfold State.dutyReq; simp; done)
@[simp] theorem keep_pending_State_modInsul (s : State) (b : Nat) (f : InsulSt → InsulSt) : (State.modInsul s b f).pending = s.pending := by
  rfl
@[simp] theorem keep_pending_State_generatorEdge (s : State) (b : Nat) : (State.generatorEdge s b).pending = s.pending := by
  (unfold State.generatorEdge; simp; done)
@[simp] theorem keep_pending_State_logEarth (s : State) (b : Nat) (old new : InsulSt) : (State.logEarth s b old new).pending = s.pending := by
  (unfold State.logEarth; simp; done)
@[simp] theorem keep_pending_State_hullCheck (s : State) : (State.hullCheck s).pending = s.pending := by
  (unfold State.hullCheck; simp; done)
@[simp] theorem keep_pending_State_insulEnd (s : State) (b : Nat) (m : InsulIn) : (State.insulEnd s b m).pending = s.pending := by
  (unfold State.insulEnd; simp; done)
@[simp] theorem keep_pending_State_edited (s : State) (f : Flight) (r : EditResult) : (State.edited s f r).pending = s.pending := by
  (unfold State.edited; (try dsimp only); (repeat' split); all_goals (first | rfl | simp; done))
@[simp] theorem keep_pending_State_setRow (s : State) (f : Flight) (id n o : Nat) : (State.setRow s f id n o).pending = s.pending := by
  (unfold State.setRow; simp; done)
@[simp] theorem keep_pending_State_getRow (s : State) (f : Flight) (id n : Nat) : (State.getRow s f id n).pending = s.pending := by
  (unfold State.getRow; simp; done)
@[simp] theorem keep_pending_State_wireRestore (s : State) (n : Nat) : (State.wireRestore s n).pending = s.pending := by
  (unfold State.wireRestore; simp; done)
@[simp] theorem keep_pending_State_overloadEnd (s : State) (n : Nat) : (State.overloadEnd s n).pending = s.pending := by
  (unfold State.overloadEnd; (try dsimp only); (repeat' split); all_goals (first | rfl | simp; done))
@[simp] theorem keep_pending_State_vibStep (s : State) (n : Nat) (x : ChIn) (re : Bool) : (State.vibStep s n x re).pending = s.pending := by
  rfl
@[simp] theorem keep_pending_State_breakCapture (s : State) (n : Nat) (l : List WbWin) : (State.breakCapture s n l).1.pending = s.pending := by
  (unfold State.breakCapture; (try dsimp only); (repeat' split); all_goals (first | rfl | simp; done))
@[simp] theorem keep_pending_State_contactCapture (s : State) (n : Nat) (y : F32) (q : Quality) : (State.contactCapture s n y q).pending = s.pending := by
  (unfold State.contactCapture; simp; done)
@[simp] theorem keep_pending_State_cjCapture (s : State) (n : Nat) : (State.cjCapture s n).pending = s.pending := by
  rfl
@[simp] theorem keep_pending_State_captureIn (s : State) (seq n : Nat) (x : ChIn) : (s.captureIn seq n x).pending = s.pending := by
  unfold State.captureIn
  split
  · split <;> simp
  · split
    · dsimp only; split <;> simp
    · dsimp only
      refine ite0 ?_ (ite0 ?_ ?_)
      · rw [keep_pending_State_modChan, keep_pending_State_modChan]; exact ite1 (by simp) (by simp)
      · rw [keep_pending_State_calSample, keep_pending_State_publishChan, keep_pending_State_modChan, keep_pending_State_modChan]
        exact ite1 (by simp) (by simp)
      · rw [keep_pending_State_calSample, keep_pending_State_publishChan, keep_pending_State_modChan, keep_pending_State_contactCapture, keep_pending_State_cjCapture, keep_pending_State_noteCal]
        refine ite0 ?_ ?_
        · rw [keep_pending_State_vibStep, keep_pending_State_modChan, keep_pending_State_modChan]; exact ite1 (by simp) (by simp)
        · rw [keep_pending_State_modChan, keep_pending_State_modChan]; exact ite1 (by simp) (by simp)

@[simp] theorem keep_pending_State_takeFlags (s : State) (seq : Nat) : (State.takeFlags s seq).pending = s.pending := by
  (unfold State.takeFlags; simp; done)
@[simp] theorem keep_pending_State_modNotch (s : State) (f : NotchSt → NotchSt) : (State.modNotch s f).pending = s.pending := by
  rfl
@[simp] theorem keep_pending_State_notchTo (s : State) (src : MainsSrc) (ft : Nat) : (State.notchTo s src ft).pending = s.pending := by
  rfl
@[simp] theorem keep_pending_State_notchStep (s : State) (ft : Nat) : (State.notchStep s ft).pending = s.pending := by
  (unfold State.notchStep; simp; done)
@[simp] theorem keep_pending_State_mainsCycle (s : State) (fc : Nat) : (State.mainsCycle s fc).pending = s.pending := by
  (unfold State.mainsCycle; (try dsimp only); (repeat' split); all_goals (first | rfl | simp; done))
@[simp] theorem keep_pending_State_mainsCross (s : State) (m : MainsIn) : (State.mainsCross s m).pending = s.pending := by
  (unfold State.mainsCross; (try dsimp only); (repeat' split); all_goals (first | rfl | simp; done))
@[simp] theorem keep_pending_State_mainsBus (s : State) (fm : Nat) : (State.mainsBus s fm).pending = s.pending := by
  (unfold State.mainsBus; (try dsimp only); (repeat' split); all_goals (first | rfl | simp; done))
@[simp] theorem keep_pending_State_mainsSource (s : State) : (State.mainsSource s).pending = s.pending := by
  (unfold State.mainsSource; (try dsimp only); (repeat' split); all_goals (first | rfl | simp; done))
@[simp] theorem keep_pending_State_exchange (s : State) (n : Nat) (m : ExchIn) : (State.exchange s n m).pending = s.pending := by
  (unfold State.exchange; simp; done)
@[simp] theorem keep_pending_State_modCtl (s : State) (b : Nat) (f : BusCtl → BusCtl) : (State.modCtl s b f).pending = s.pending := by
  rfl
@[simp] theorem keep_pending_State_modBus (s : State) (f : BusSt → BusSt) : (State.modBus s f).pending = s.pending := by
  rfl
@[simp] theorem keep_pending_State_logBus (s : State) (b code sev p1 p2 : Nat) : (State.logBus s b code sev p1 p2).pending = s.pending := by
  rfl
@[simp] theorem keep_pending_State_raiseDuplicate (s : State) (uid : Nat) : (State.raiseDuplicate s uid).pending = s.pending := by
  (unfold State.raiseDuplicate; simp; done)
@[simp] theorem keep_pending_State_sendClaim (s : State) (b : Nat) (defend : Bool) : (State.sendClaim s b defend).pending = s.pending := by
  (unfold State.sendClaim; simp; done)
@[simp] theorem keep_pending_State_claimStart (s : State) : (State.claimStart s).pending = s.pending := by
  rfl
@[simp] theorem keep_pending_State_claimDone (s : State) : (State.claimDone s).pending = s.pending := by
  (unfold State.claimDone; (try dsimp only); (repeat' split); all_goals (first | rfl | simp; done))
@[simp] theorem keep_pending_State_sendDone (s : State) (fl : Nat) (st : Status) (d : Nat) (p : List Byte) : (State.sendDone s fl st d p).pending = s.pending := by
  (unfold State.sendDone; simp; done)
@[simp] theorem keep_pending_State_followUp (s : State) (b seq m : Nat) : (State.followUp s b seq m).pending = s.pending := by
  (unfold State.followUp; simp; done)
@[simp] theorem keep_pending_State_measureDelay (s : State) (b : Nat) (f : TxFrame) : (State.measureDelay s b f).pending = s.pending := by
  (unfold State.measureDelay; (try dsimp only); (repeat' split); all_goals (first | rfl | simp; done))
@[simp] theorem keep_pending_State_txSuccess (s : State) (b mark base : Nat) : (State.txSuccess s b mark base).pending = s.pending := by
  (unfold State.txSuccess; (try dsimp only); (repeat' split); all_goals (first | rfl | simp; done))
@[simp] theorem keep_pending_State_culvertLost (s : State) (fl : Nat) : (State.culvertLost s fl).pending = s.pending := by
  (unfold State.culvertLost; simp; done)
@[simp] theorem keep_pending_State_errorPassive (s : State) (b tec rec_ ea ed : Nat) : (State.errorPassive s b tec rec_ ea ed).pending = s.pending := by
  (unfold State.errorPassive; simp; done)
@[simp] theorem keep_pending_State_busOff (s : State) (b tec ea ed : Nat) : (State.busOff s b tec ea ed).pending = s.pending := by
  (unfold State.busOff; simp; done)
@[simp] theorem keep_pending_State_busError (s : State) (e : BusErr) : (State.busError s e).pending = s.pending := by
  (unfold State.busError; simp; done)
@[simp] theorem keep_pending_State_clashError (s : State) (b : Nat) (f : TxFrame) : (s.clashError b f).pending = s.pending := by
  have e : s.draw.2.pending = s.pending := rfl
  unfold State.clashError; exact ite0 (by rw [← e]; simp) (by simp)

@[simp] theorem keep_pending_State_idClash (s : State) (b mark : Nat) : (State.idClash s b mark).pending = s.pending := by
  (unfold State.idClash; (try dsimp only); (repeat' split); all_goals (first | rfl | simp; done))
@[simp] theorem keep_pending_State_recover (s : State) (b : Nat) : (State.recover s b).pending = s.pending := by
  rfl
@[simp] theorem keep_pending_State_holdDone (s : State) (b : Nat) : (State.holdDone s b).pending = s.pending := by
  (unfold State.holdDone; (try dsimp only); (repeat' split); all_goals (first | rfl | simp; done))
@[simp] theorem keep_pending_State_recovered (s : State) (b : Nat) : (State.recovered s b).pending = s.pending := by
  (unfold State.recovered; simp; done)
@[simp] theorem keep_pending_State_authFail (s : State) (b id : Nat) : (State.authFail s b id).pending = s.pending := by
  (unfold State.authFail; simp; done)
@[simp] theorem keep_pending_State_rxAuth (s : State) (b : Nat) (slot : Option Nat) (ext timed : Bool) (id : Nat) (data : List Byte) : (State.rxAuth s b slot ext timed id data).1.pending = s.pending := by
  (unfold State.rxAuth; (try dsimp only); (repeat' split); all_goals (first | rfl | simp; done))
@[simp] theorem keep_pending_State_rxOk (s : State) (b : Nat) : (State.rxOk s b).pending = s.pending := by
  (unfold State.rxOk; (try dsimp only); (repeat' split); all_goals (first | rfl | simp; done))
@[simp] theorem keep_pending_State_overrun (s : State) (b : Nat) : (State.overrun s b).pending = s.pending := by
  (unfold State.overrun; simp; done)
@[simp] theorem keep_pending_State_rxPlace (s : State) (f : RxFrame) : (State.rxPlace s f).pending = s.pending := by
  (unfold State.rxPlace; simp; done)
@[simp] theorem keep_pending_State_rxProto (s : State) (f : RxFrame) (act : RxFrame → State → State) (h : ∀ f s, (act f s).pending = s.pending) : (s.rxProto f act).pending = s.pending := by
  unfold State.rxProto; dsimp only
  split
  · rfl
  · split
    · simp
    · split
      · simp
      · generalize hp : State.rxAuth _ _ _ _ _ _ _ = p
        have e : p.1.pending = s.pending := by rw [← hp]; simp
        obtain ⟨u, a⟩ := p
        dsimp only at e ⊢
        cases a with
        | none => exact e
        | some b => exact (h _ _).trans e

@[simp] theorem keep_pending_State_rxMessage (s : State) (t : Nat) (f : RxFrame) : (s.rxMessage t f).pending = s.pending := by
  unfold State.rxMessage
  exact (keep_pending_State_rxProto _ _ _ (fun f s => by simp)).trans (by simp)

@[simp] theorem keep_pending_State_rxClaim (s : State) (f : RxFrame) : (State.rxClaim s f).pending = s.pending := by
  (unfold State.rxClaim; simp; done)
@[simp] theorem keep_pending_State_modNet (s : State) (f : NetTime → NetTime) : (State.modNet s f).pending = s.pending := by
  rfl
@[simp] theorem keep_pending_State_shiftTime (s : State) (d : Int) : (State.shiftTime s d).pending = s.pending := by
  rfl
@[simp] theorem keep_pending_State_stepTime (s : State) (d : Int) : (State.stepTime s d).pending = s.pending := by
  (unfold State.stepTime; simp; done)
@[simp] theorem keep_pending_State_timeState (s : State) (k : Nat) : (State.timeState s k).pending = s.pending := by
  (unfold State.timeState; simp; done)
@[simp] theorem keep_pending_State_heardMaster (s : State) (node rank : Nat) : (State.heardMaster s node rank).pending = s.pending := by
  (unfold State.heardMaster; simp; done)
@[simp] theorem keep_pending_State_rxTimeRef (s : State) (f : RxFrame) : (State.rxTimeRef s f).pending = s.pending := by
  rfl
@[simp] theorem keep_pending_State_applyTheta (s : State) (b : Nat) (d : Int) : (State.applyTheta s b d).pending = s.pending := by
  (unfold State.applyTheta; simp; done)
@[simp] theorem keep_pending_State_primaryHeard (s : State) (f : RxFrame) : (State.primaryHeard s f).pending = s.pending := by
  (unfold State.primaryHeard; simp; done)
@[simp] theorem keep_pending_State_yieldMaster (s : State) : (State.yieldMaster s).pending = s.pending := by
  (unfold State.yieldMaster; simp; done)
@[simp] theorem keep_pending_State_rxTimeFu (s : State) (f : RxFrame) : (State.rxTimeFu s f).pending = s.pending := by
  (unfold State.rxTimeFu; (try dsimp only); (repeat' split); all_goals (first | rfl | simp; done))
@[simp] theorem keep_pending_State_sendRef (s : State) : (State.sendRef s).pending = s.pending := by
  (unfold State.sendRef; simp; done)
@[simp] theorem keep_pending_State_takeMaster (s : State) : (State.takeMaster s).pending = s.pending := by
  (unfold State.takeMaster; simp; done)
@[simp] theorem keep_pending_State_holdover (s : State) : (State.holdover s).pending = s.pending := by
  (unfold State.holdover; simp; done)
@[simp] theorem keep_pending_State_holdoverEnd (s : State) : (State.holdoverEnd s).pending = s.pending := by
  (unfold State.holdoverEnd; (try dsimp only); (repeat' split); all_goals (first | rfl | simp; done))
@[simp] theorem keep_pending_State_timeSource (s : State) : (State.timeSource s).pending = s.pending := by
  (unfold State.timeSource; simp; done)
@[simp] theorem keep_pending_State_rxGenFreq (s : State) (f : RxFrame) : (State.rxGenFreq s f).pending = s.pending := by
  (unfold State.rxGenFreq; simp; done)
@[simp] theorem keep_pending_State_sendGen (s : State) : (State.sendGen s).pending = s.pending := by
  (unfold State.sendGen; simp; done)
@[simp] theorem keep_pending_State_modPresence (s : State) (b n : Nat) (f : Presence → Presence) : (State.modPresence s b n f).pending = s.pending := by
  rfl
@[simp] theorem keep_pending_State_legClear (s : State) (n : Nat) : (State.legClear s n).pending = s.pending := by
  (unfold State.legClear; simp; done)
@[simp] theorem keep_pending_State_legFault (s : State) (n leg : Nat) : (State.legFault s n leg).pending = s.pending := by
  (unfold State.legFault; simp; done)
@[simp] theorem keep_pending_State_rxHeartbeat (s : State) (f : RxFrame) : (State.rxHeartbeat s f).pending = s.pending := by
  (unfold State.rxHeartbeat; simp; done)
@[simp] theorem keep_pending_State_claimState (s : State) (f : RxFrame) : (State.claimState s f).pending = s.pending := by
  (unfold State.claimState; simp; done)
@[simp] theorem keep_pending_State_absent (s : State) (b n code reason : Nat) : (State.absent s b n code reason).pending = s.pending := by
  (unfold State.absent; simp; done)
@[simp] theorem keep_pending_State_nodeLost (s : State) (b n : Nat) : (State.nodeLost s b n).pending = s.pending := by
  (unfold State.nodeLost; (try dsimp only); (repeat' split); all_goals (first | rfl | simp; done))
@[simp] theorem keep_pending_State_sendHeartbeat (s : State) : (State.sendHeartbeat s).pending = s.pending := by
  (unfold State.sendHeartbeat; simp; done)
@[simp] theorem keep_pending_State_sendGoingDown (s : State) (reason : Nat) : (State.sendGoingDown s reason).pending = s.pending := by
  (unfold State.sendGoingDown; simp; done)
@[simp] theorem keep_pending_State_modFoBoth (s : State) (f : Nat) (g : FoSt → FoSt) : (State.modFoBoth s f g).pending = s.pending := by
  rfl
@[simp] theorem keep_pending_State_foMismatch (s : State) (f p1 p2 : Nat) : (State.foMismatch s f p1 p2).pending = s.pending := by
  (unfold State.foMismatch; simp; done)
@[simp] theorem keep_pending_State_rxFoCand (s : State) (f : RxFrame) : (State.rxFoCand s f).pending = s.pending := by
  (unfold State.rxFoCand; (try dsimp only); (repeat' split); all_goals (first | rfl | simp; done))
@[simp] theorem keep_pending_State_rxFoDecide (s : State) (f : RxFrame) : (State.rxFoDecide s f).pending = s.pending := by
  (unfold State.rxFoDecide; (try dsimp only); (repeat' split); all_goals (first | rfl | simp; done))
@[simp] theorem keep_pending_State_rxFoReset (s : State) (f : RxFrame) : (State.rxFoReset s f).pending = s.pending := by
  (unfold State.rxFoReset; (try dsimp only); (repeat' split); all_goals (first | rfl | simp; done))
@[simp] theorem keep_pending_State_panelStale (s : State) (kind idx present expected node : Nat) : (State.panelStale s kind idx present expected node).pending = s.pending := by
  rfl
@[simp] theorem keep_pending_State_panelLive (s : State) (k : LiveKind) (node role : Nat) : (State.panelLive s k node role).pending = s.pending := by
  rfl
@[simp] theorem keep_pending_State_rxPanel (s : State) (f : RxFrame) : (State.rxPanel s f).pending = s.pending := by
  (unfold State.rxPanel; (try dsimp only); (repeat' split); all_goals (first | rfl | simp; done))
@[simp] theorem keep_pending_State_takeMessage (s : State) (f : RxFrame) : (State.takeMessage s f).pending = s.pending := by
  (unfold State.takeMessage; (try dsimp only); (repeat' split); all_goals (first | rfl | simp; done))
@[simp] theorem keep_pending_State_drainSlots (s : State) : (State.drainSlots s).pending = s.pending := by
  (unfold State.drainSlots; simp; done)
@[simp] theorem keep_pending_State_placeRemote (s : State) (r : Reassembly) : (State.placeRemote s r).pending = s.pending := by
  (unfold State.placeRemote; (try dsimp only); (repeat' split); all_goals (first | rfl | simp; done))
@[simp] theorem keep_pending_State_forwardDone (s : State) (r : Reassembly) : (State.forwardDone s r).pending = s.pending := by
  (unfold State.forwardDone; simp; done)
@[simp] theorem keep_pending_State_rxSegment (s : State) (f : RxFrame) (rsp : Bool) : (State.rxSegment s f rsp).pending = s.pending := by
  (unfold State.rxSegment; simp; done)
@[simp] theorem keep_pending_State_segLost (s : State) (src tr : Nat) (rsp : Bool) : (State.segLost s src tr rsp).pending = s.pending := by
  (unfold State.segLost; (try dsimp only); (repeat' split); all_goals (first | rfl | simp; done))
@[simp] theorem keep_pending_State_forward (s : State) (f : Flight) : (State.forward s f).pending = s.pending := by
  (unfold State.forward; simp; done)
@[simp] theorem keep_pending_State_modShadow (s : State) (j : Nat) (f : Shadow → Shadow) : (State.modShadow s j f).pending = s.pending := by
  rfl
@[simp] theorem keep_pending_State_objCompute (s : State) : (State.objCompute s).pending = s.pending := by
  rfl
@[simp] theorem keep_pending_State_objTick (s : State) (published : Bool) : (State.objTick s published).pending = s.pending := by
  rfl
@[simp] theorem keep_pending_State_objLoad (s : State) (j : Nat) (repeated : Bool) (asks : List Nat) : (State.objLoad s j repeated asks).pending = s.pending := by
  (unfold State.objLoad; simp; done)
@[simp] theorem keep_pending_State_objDue (s : State) (j : Nat) : (State.objDue s j).pending = s.pending := by
  (unfold State.objDue; (try dsimp only); (repeat' split); all_goals (first | rfl | simp; done))
@[simp] theorem keep_pending_State_objFlush (s : State) : (State.objFlush s).pending = s.pending := by
  (unfold State.objFlush; simp; done)
@[simp] theorem keep_pending_State_objValues (s : State) (j : Nat) : (s.objValues j).pending = s.pending := by
  unfold State.objValues; split
  · exact fk (fun s f => by simp) _ _
  · rfl

@[simp] theorem keep_pending_State_busCapture (s : State) : (State.busCapture s).pending = s.pending := by
  (unfold State.busCapture; simp; done)
@[simp] theorem keep_pending_State_logRefused (s : State) (j node : Nat) (new : List Byte) : (State.logRefused s j node new).pending = s.pending := by
  (unfold State.logRefused; simp; done)
@[simp] theorem keep_pending_State_accept (s : State) (j b node id flow : Nat) (ext : Bool) (data : List Byte) : (State.accept s j b node id flow ext data).pending = s.pending := by
  (unfold State.accept; simp; done)
@[simp] theorem keep_pending_State_rxValue (s : State) (b prio node index flow : Nat) (data : List Byte) : (State.rxValue s b prio node index flow data).pending = s.pending := by
  (unfold State.rxValue; simp; done)
@[simp] theorem keep_pending_State_rxForeign (s : State) (b id flow : Nat) (data : List Byte) : (State.rxForeign s b id flow data).pending = s.pending := by
  (unfold State.rxForeign; simp; done)
@[simp] theorem keep_pending_State_busApply (s : State) (old : Mem) : (State.busApply s old).pending = s.pending := by
  (unfold State.busApply; simp; done)
@[simp] theorem keep_pending_State_modRun (s : State) (k : Nat) (f : CalRun → CalRun) : (State.modRun s k f).pending = s.pending := by
  rfl
@[simp] theorem keep_pending_State_calAnswer (s : State) (k : Nat) (st : Status) (d : Nat) (p : List Byte) : (State.calAnswer s k st d p).pending = s.pending := by
  (unfold State.calAnswer; simp; done)
@[simp] theorem keep_pending_State_calWrite (s : State) (r : CalRun) (a : Nat) (bytes rsp : List Byte) : (State.calWrite s r a bytes rsp).pending = s.pending := by
  (unfold State.calWrite; simp; done)
@[simp] theorem keep_pending_State_calJudge (s : State) (r : CalRun) : (State.calJudge s r).pending = s.pending := by
  (unfold State.calJudge; (try dsimp only); (repeat' split); all_goals (first | rfl | simp; done))
@[simp] theorem keep_pending_State_calEnds (s : State) : (State.calEnds s).pending = s.pending := by
  (unfold State.calEnds; simp; done)
@[simp] theorem keep_pending_State_calTick (s : State) : (State.calTick s).pending = s.pending := by
  rfl
@[simp] theorem keep_pending_State_calChurned (s : State) (o : NvmOp) : (State.calChurned s o).pending = s.pending := by
  (unfold State.calChurned; simp; done)
@[simp] theorem keep_pending_State_calBegin (s : State) (f : Flight) : (State.calBegin s f).pending = s.pending := by
  rfl
@[simp] theorem keep_pending_State_calClear (s : State) (f : Flight) : (State.calClear s f).pending = s.pending := by
  (unfold State.calClear; (try dsimp only); (repeat' split); all_goals (first | rfl | simp; done))
@[simp] theorem keep_pending_State_chargeLive (s : State) : (s.chargeLive).pending = s.pending := by
  unfold State.chargeLive
  refine fk (fun s c => ?_) _ _
  repeat' split
  all_goals simp

@[simp] theorem keep_pending_State_curveStored (s : State) (o : NvmOp) : (State.curveStored s o).pending = s.pending := by
  (unfold State.curveStored; simp; done)
@[simp] theorem keep_pending_State_vibTake (s : State) (l : List F32) : (State.vibTake s l).pending = s.pending := by
  (unfold State.vibTake; simp; done)
@[simp] theorem keep_pending_State_vibCapture (s : State) (seq : Nat) (ins : Nat → ChIn) : (State.vibCapture s seq ins).pending = s.pending := by
  (unfold State.vibCapture; (try dsimp only); (repeat' split); all_goals (first | rfl | simp; done))
@[simp] theorem keep_pending_State_logRead (f : Flight) (s : State) : (State.logRead f s).pending = s.pending := by
  (unfold State.logRead; (try dsimp only); (repeat' split); all_goals (first | rfl | simp; done))
@[simp] theorem keep_pending_State_logPailRead (f : Flight) (s : State) : (State.logPailRead f s).pending = s.pending := by
  (unfold State.logPailRead; simp; done)
@[simp] theorem keep_pending_State_logWrite (f : Flight) (s : State) : (State.logWrite f s).pending = s.pending := by
  (unfold State.logWrite; simp; done)
@[simp] theorem keep_pending_State_clearStart (s : State) (f : Flight) (opts : Nat) : (State.clearStart s f opts).pending = s.pending := by
  (unfold State.clearStart; simp; done)
@[simp] theorem keep_pending_State_logClear (f : Flight) (s : State) : (State.logClear f s).pending = s.pending := by
  (unfold State.logClear; simp; done)
@[simp] theorem keep_pending_State_clearRetry (s : State) : (State.clearRetry s).pending = s.pending := by
  (unfold State.clearRetry; (try dsimp only); (repeat' split); all_goals (first | rfl | simp; done))
@[simp] theorem keep_pending_State_logClearEnd (s : State) (opts erased : Nat) : (State.logClearEnd s opts erased).pending = s.pending := by
  rfl
@[simp] theorem keep_pending_State_clearSegment (s : State) : (State.clearSegment s).pending = s.pending := by
  (unfold State.clearSegment; (try dsimp only); (repeat' split); all_goals (first | rfl | simp; done))
@[simp] theorem keep_pending_State_clearAnswer (s : State) : (State.clearAnswer s).pending = s.pending := by
  (unfold State.clearAnswer; (try dsimp only); (repeat' split); all_goals (first | rfl | simp; done))
@[simp] theorem keep_pending_State_ageTrigger (s : State) : (State.ageTrigger s).pending = s.pending := by
  (unfold State.ageTrigger; simp; done)
@[simp] theorem keep_pending_State_logDrops (s : State) : (State.logDrops s).pending = s.pending := by
  (unfold State.logDrops; (try dsimp only); (repeat' split); all_goals (first | rfl | simp; done))
@[simp] theorem keep_pending_State_modSec (s : State) (f : SecSt → SecSt) : (State.modSec s f).pending = s.pending := by
  rfl
@[simp] theorem keep_pending_State_modDbg (s : State) (f : DebugSt → DebugSt) : (State.modDbg s f).pending = s.pending := by
  rfl
@[simp] theorem keep_pending_State_endSession (s : State) (cause : Nat) : (State.endSession s cause).pending = s.pending := by
  (unfold State.endSession; (try dsimp only); (repeat' split); all_goals (first | rfl | simp; done))
@[simp] theorem keep_pending_State_setLife (s : State) (l : Lifecycle) : (State.setLife s l).pending = s.pending := by
  rfl
@[simp] theorem keep_pending_State_provisioned (s : State) (cert : List Byte) : (s.provisioned cert).pending = s.pending := by
  unfold State.provisioned State.draw; simp

@[simp] theorem keep_pending_State_keyDone (s : State) (o : NvmOp) : (State.keyDone s o).pending = s.pending := by
  (unfold State.keyDone; simp; done)
@[simp] theorem keep_pending_State_eraseMram (s : State) : (State.eraseMram s).pending = s.pending := by
  rfl
@[simp] theorem keep_pending_State_eraseStep (s : State) : (State.eraseStep s).pending = s.pending := by
  (unfold State.eraseStep; (try dsimp only); (repeat' split); all_goals (first | rfl | simp; done))
@[simp] theorem keep_pending_State_eraseBegin (s : State) : (State.eraseBegin s).pending = s.pending := by
  (unfold State.eraseBegin; (try dsimp only); (repeat' split); all_goals (first | rfl | simp; done))
@[simp] theorem keep_pending_State_firmwareDone (s : State) (o : NvmOp) : (State.firmwareDone s o).pending = s.pending := by
  (unfold State.firmwareDone; (try dsimp only); (repeat' split); all_goals (first | rfl | simp; done))
@[simp] theorem keep_pending_State_dirWrite (s : State) (f : Flight) (c : DirChange) : (State.dirWrite s f c).pending = s.pending := by
  (unfold State.dirWrite; simp; done)
@[simp] theorem keep_pending_State_fwJudge (s : State) (f : Flight) : (State.fwJudge s f).pending = s.pending := by
  (unfold State.fwJudge; (try dsimp only); (repeat' split); all_goals (first | rfl | simp; done))
@[simp] theorem keep_pending_State_fwAccept (s : State) : (State.fwAccept s).pending = s.pending := by
  rfl
@[simp] theorem keep_pending_State_dirDone (s : State) (c : DirChange) : (State.dirDone s c).pending = s.pending := by
  (unfold State.dirDone; (try dsimp only); (repeat' split); all_goals (first | rfl | simp; done))
@[simp] theorem keep_pending_State_fwAnswer (s : State) (f : Flight) (k : NvmKind) : (State.fwAnswer s f k).pending = s.pending := by
  (unfold State.fwAnswer; (try dsimp only); (repeat' split); all_goals (first | rfl | simp; done))
@[simp] theorem keep_pending_State_modDisp (s : State) (f : DispSt → DispSt) : (State.modDisp s f).pending = s.pending := by
  rfl
@[simp] theorem keep_pending_State_modRegion (s : State) (r : Nat) (f : RegionSt → RegionSt) : (State.modRegion s r f).pending = s.pending := by
  rfl
@[simp] theorem keep_pending_State_startRun (s : State) (r : Nat) (toggle : Bool) (q : DispReq) : (State.startRun s r toggle q).pending = s.pending := by
  rfl
@[simp] theorem keep_pending_State_startRegion (s : State) (r : Nat) : (State.startRegion s r).pending = s.pending := by
  (unfold State.startRegion; (try dsimp only); (repeat' split); all_goals (first | rfl | simp; done))
@[simp] theorem keep_pending_State_endRegion (s : State) (r : Nat) : (State.endRegion s r).pending = s.pending := by
  (unfold State.endRegion; (try dsimp only); (repeat' split); all_goals (first | rfl | simp; done))
@[simp] theorem keep_pending_State_blinkTo (s : State) (g : Nat) (dark : Bool) : (State.blinkTo s g dark).pending = s.pending := by
  (unfold State.blinkTo; simp; done)
@[simp] theorem keep_pending_State_blinkStep (s : State) (g : Nat) : (State.blinkStep s g).pending = s.pending := by
  (unfold State.blinkStep; simp; done)
@[simp] theorem keep_pending_State_cellFrom (s : State) (dark : Bool) (at_ : Nat) : (State.cellFrom s dark at_).pending = s.pending := by
  rfl
@[simp] theorem keep_pending_State_driveCell (s : State) (dark : Bool) : (State.driveCell s dark).pending = s.pending := by
  (unfold State.driveCell; (try dsimp only); (repeat' split); all_goals (first | rfl | simp; done))
@[simp] theorem keep_pending_State_dispSettle (s : State) : (State.dispSettle s).pending = s.pending := by
  rfl
@[simp] theorem keep_pending_State_cellTick (s : State) : (State.cellTick s).pending = s.pending := by
  (unfold State.cellTick; (try dsimp only); (repeat' split); all_goals (first | rfl | simp; done))
@[simp] theorem keep_pending_State_driveLands (s : State) : (State.driveLands s).pending = s.pending := by
  rfl
@[simp] theorem keep_pending_State_dispHoldup (s : State) : (State.dispHoldup s).pending = s.pending := by
  (unfold State.dispHoldup; simp; done)
@[simp] theorem keep_pending_State_dispTemp (s : State) (chan : Nat → Src) : (s.dispTemp chan).pending = s.pending := by
  unfold State.dispTemp; dsimp only
  refine (fk (fun s r => ?_) _ _).trans ?_
  · repeat' split
    all_goals simp
  · split <;> simp

@[simp] theorem keep_pending_State_bindRegion (s : State) (r : Nat) : (State.bindRegion s r).pending = s.pending := by
  (unfold State.bindRegion; (try dsimp only); (repeat' split); all_goals (first | rfl | simp; done))
@[simp] theorem keep_pending_State_dispTick (s : State) : (State.dispTick s).pending = s.pending := by
  (unfold State.dispTick; simp; done)
@[simp] theorem keep_pending_State_dispRequest (s : State) (f : Flight) (cells dark blink keep : Cells) : (State.dispRequest s f cells dark blink keep).pending = s.pending := by
  (unfold State.dispRequest; (try dsimp only); (repeat' split); all_goals (first | rfl | simp; done))
@[simp] theorem keep_pending_State_takeHold (s : State) (holdMv : Nat) : (State.takeHold s holdMv).pending = s.pending := by
  rfl
@[simp] theorem keep_pending_State_ledger (s : State) (x : TickIn) (dt : Nat) : (State.ledger s x dt).pending = s.pending := by
  rfl
@[simp] theorem keep_pending_State_takePower (s0 : State) (x : TickIn) (dt : Nat) : (State.takePower s0 x dt).pending = s0.pending := by
  rfl
@[simp] theorem keep_pending_State_derateStep (s : State) : (State.derateStep s).pending = s.pending := by
  (unfold State.derateStep; simp; done)
@[simp] theorem keep_pending_State_reserveStep (s : State) : (State.reserveStep s).pending = s.pending := by
  (unfold State.reserveStep; simp; done)
@[simp] theorem keep_pending_State_bankFilters (s : State) (dt : Nat) : (State.bankFilters s dt).pending = s.pending := by
  rfl
@[simp] theorem keep_pending_State_powerCapture (s : State) (x : TickIn) (dt : Nat) : (State.powerCapture s x dt).pending = s.pending := by
  (unfold State.powerCapture; simp; done)
@[simp] theorem keep_pending_State_hgGrant (s : State) (n : Nat) (want : F32) : (State.hgGrant s n want).pending = s.pending := by
  rfl
@[simp] theorem keep_pending_State_hgHold (s : State) (n : Nat) (want : F32) (raise : Bool) (code mw : Nat) : (State.hgHold s n want raise code mw).pending = s.pending := by
  (unfold State.hgHold; simp; done)
@[simp] theorem keep_pending_State_overStep14 (s : State) (p d : Rat) : (State.overStep14 s p d).pending = s.pending := by
  (unfold State.overStep14; simp; done)
@[simp] theorem keep_pending_State_headgateOpen (s0 : State) : (State.headgateOpen s0).pending = s0.pending := by
  rfl
@[simp] theorem keep_pending_State_headgateLow (s : State) (p d : Rat) (inp : List Nat) (held2 : Bool) : (s.headgateLow p d inp held2).pending = s.pending := by
  have h : ∀ (l : List Nat) (a : Hg3 × State), (l.foldl State.hgRegion a).2.pending = a.2.pending := by
    intro l; induction l with
    | nil => intro a; rfl
    | cons w r ih =>
      intro a; rw [List.foldl_cons, ih]
      obtain ⟨h, s⟩ := a
      unfold State.hgRegion; dsimp only; repeat' split
      all_goals simp
  unfold State.headgateLow; dsimp only
  show (List.foldl State.hgRegion _ _).2.pending = _
  rw [h]

@[simp] theorem keep_pending_State_headgate (s0 : State) : (s0.headgate).pending = s0.pending := by
  have h : ∀ (l : List Nat) (p : Hg × State), (l.foldl State.hgClaim p).2.pending = p.2.pending := by
    intro l; induction l with
    | nil => intro p; rfl
    | cons w r ih =>
      intro p; rw [List.foldl_cons, ih]
      obtain ⟨h, s⟩ := p
      unfold State.hgClaim; split
      · unfold State.hgOut; dsimp only; exact ite2 (by simp) (by simp)
      · unfold State.hgAo; simp
  unfold State.headgate
  dsimp only
  rw [keep_pending_State_headgateLow]
  show (List.foldl State.hgClaim _ _).2.pending = _
  rw [h, keep_pending_State_overStep14]
  rfl

@[simp] theorem keep_pending_State_headgateUndo (s : State) : (State.headgateUndo s).pending = s.pending := by
  rfl
@[simp] theorem keep_pending_State_outputShed (s : State) : (State.outputShed s).pending = s.pending := by
  (unfold State.outputShed; (try dsimp only); (repeat' split); all_goals (first | rfl | simp; done))
@[simp] theorem keep_pending_State_judgeCap (s : State) (c esr : Nat) : (State.judgeCap s c esr).pending = s.pending := by
  (unfold State.judgeCap; simp; done)
@[simp] theorem keep_pending_State_holdMeasured (s : State) (v0 v1 v2 v3 : Nat) : (State.holdMeasured s v0 v1 v2 v3).pending = s.pending := by
  (unfold State.holdMeasured; simp; done)
@[simp] theorem keep_pending_State_ledgerStep (s : State) : (State.ledgerStep s).pending = s.pending := by
  (unfold State.ledgerStep; simp; done)
@[simp] theorem keep_pending_State_peakLimit (s : State) (ma : Nat) : (State.peakLimit s ma).pending = s.pending := by
  rfl
@[simp] theorem keep_pending_State_spiErr (s : State) : (State.spiErr s).pending = s.pending := by
  rfl
@[simp] theorem keep_pending_State_clearIrq (s : State) (w : Nat) : (State.clearIrq s w).pending = s.pending := by
  rfl
@[simp] theorem keep_pending_State_doorbell (s : State) (tag : Nat) : (State.doorbell s tag).pending = s.pending := by
  (unfold State.doorbell; simp; done)
@[simp] theorem keep_pending_State_clearDone (s : State) (k w : Nat) : (State.clearDone s k w).pending = s.pending := by
  rfl
@[simp] theorem keep_pending_State_holdReq (s : State) : (State.holdReq s).pending = s.pending := by
  (unfold State.holdReq; (try dsimp only); (repeat' split); all_goals (first | rfl | simp; done))
@[simp] theorem keep_pending_State_holdRel (s : State) : (State.holdRel s).pending = s.pending := by
  rfl
@[simp] theorem keep_pending_State_writeHold (s : State) (w : Nat) : (State.writeHold s w).pending = s.pending := by
  (unfold State.writeHold; simp; done)
@[simp] theorem keep_pending_State_kick (s : State) (v : Nat) : (State.kick s v).pending = s.pending := by
  (unfold State.kick; simp; done)
@[simp] theorem keep_pending_State_setBkp (s : State) (b : BkpSt) : (State.setBkp s b).pending = s.pending := by
  (unfold State.setBkp; simp; done)
@[simp] theorem keep_pending_State_writeCal (s : State) (a v : Nat) : (State.writeCal s a v).pending = s.pending := by
  (unfold State.writeCal; simp; done)
@[simp] theorem keep_pending_State_writeReg (s : State) (a w : Nat) : (State.writeReg s a w).pending = s.pending := by
  (unfold State.writeReg; simp; done)
@[simp] theorem keep_pending_State_expireHold (s : State) : (State.expireHold s).pending = s.pending := by
  (unfold State.expireHold; simp; done)
@[simp] theorem keep_pending_State_wdogExpire (s : State) : (State.wdogExpire s).pending = s.pending := by
  (unfold State.wdogExpire; simp; done)
@[simp] theorem keep_pending_State_applyInput (s : State) (old : Mem) (n : Nat) : (State.applyInput s old n).pending = s.pending := by
  rfl
@[simp] theorem keep_pending_State_applyOutput (s : State) (old : Mem) (n : Nat) : (State.applyOutput s old n).pending = s.pending := by
  (unfold State.applyOutput; simp; done)
@[simp] theorem keep_pending_State_applyBank (s : State) (b : Nat) : (State.applyBank s b).pending = s.pending := by
  (unfold State.applyBank; simp; done)
@[simp] theorem keep_pending_State_applyEnc (s : State) (old : Mem) (k : Nat) : (State.applyEnc s old k).pending = s.pending := by
  (unfold State.applyEnc; simp; done)
@[simp] theorem keep_pending_State_applyEdge (s : State) (old : Mem) : (State.applyEdge s old).pending = s.pending := by
  rfl
@[simp] theorem keep_pending_State_applyVib (s : State) (old : Mem) : (State.applyVib s old).pending = s.pending := by
  (unfold State.applyVib; (try dsimp only); (repeat' split); all_goals (first | rfl | simp; done))
@[simp] theorem keep_pending_State_applyRegion (s : State) (old : Mem) (r : Nat) : (State.applyRegion s old r).pending = s.pending := by
  (unfold State.applyRegion; simp; done)
@[simp] theorem keep_pending_State_applyCal (s : State) (old : Mem) : (State.applyCal s old).pending = s.pending := by
  rfl
@[simp] theorem keep_pending_State_applyProfile (s : State) : (State.applyProfile s).pending = s.pending := by
  (unfold State.applyProfile; simp; done)
@[simp] theorem keep_pending_State_wdogApply (s : State) : (State.wdogApply s).pending = s.pending := by
  (unfold State.wdogApply; simp; done)
@[simp] theorem keep_pending_State_applyUnits (s : State) (old : Mem) : (State.applyUnits s old).pending = s.pending := by
  (unfold State.applyUnits; simp; done)
@[simp] theorem keep_pending_State_sendBlocks (s : State) (seq : Nat) : (s.sendBlocks seq).pending = s.pending := by
  unfold State.sendBlocks; exact ek (fun s b => by simp) _ _

@[simp] theorem keep_pending_State_commitDone (s : State) (c : Commit) (seq : Nat) : (State.commitDone s c seq).pending = s.pending := by
  (unfold State.commitDone; simp; done)
@[simp] theorem keep_pending_State_selectorWrite (s : State) (c : Commit) (seq : Nat) : (State.selectorWrite s c seq).pending = s.pending := by
  (unfold State.selectorWrite; (try dsimp only); (repeat' split); all_goals (first | rfl | simp; done))
@[simp] theorem keep_pending_State_applyCommit (s : State) (c : Commit) : (State.applyCommit s c).pending = s.pending := by
  (unfold State.applyCommit; simp; done)
@[simp] theorem keep_pending_State_outputsAct (s : State) (pub : Bool) (fresh : List Nat) : (State.outputsAct s pub fresh).pending = s.pending := by
  (unfold State.outputsAct; simp; done)
@[simp] theorem keep_pending_State_configTick (s : State) : (s.configTick).pending = s.pending := by
  unfold State.configTick; split
  · rw [keep_pending_State_applyCommit, keep_pending_State_objFlush, keep_pending_State_outputsAct]
  · rfl

@[simp] theorem keep_pending_State_openDraft (s : State) (f : Flight) (img : Mem) : (State.openDraft s f img).pending = s.pending := by
  rfl
@[simp] theorem keep_pending_State_cfgOpen (s : State) (f : Flight) : (State.cfgOpen s f).pending = s.pending := by
  (unfold State.cfgOpen; (try dsimp only); (repeat' split); all_goals (first | rfl | simp; done))
@[simp] theorem keep_pending_State_setCommit (s : State) (c : Option Commit) : (State.setCommit s c).pending = s.pending := by
  rfl
@[simp] theorem keep_pending_State_commitChurn (s : State) (f : Flight) (m : Mem) : (State.commitChurn s f m).pending = s.pending := by
  (unfold State.commitChurn; simp; done)
@[simp] theorem keep_pending_State_commitEnergy (s : State) (f : Flight) (m : Mem) : (State.commitEnergy s f m).pending = s.pending := by
  (unfold State.commitEnergy; simp; done)
@[simp] theorem keep_pending_State_cfgCommit (s : State) (f : Flight) : (State.cfgCommit s f).pending = s.pending := by
  (unfold State.cfgCommit; (try dsimp only); (repeat' split); all_goals (first | rfl | simp; done))
@[simp] theorem keep_pending_State_cfgDiscard (s : State) (f : Flight) : (State.cfgDiscard s f).pending = s.pending := by
  (unfold State.cfgDiscard; (try dsimp only); (repeat' split); all_goals (first | rfl | simp; done))
@[simp] theorem keep_pending_State_commitWritten (s : State) (o : NvmOp) : (State.commitWritten s o).pending = s.pending := by
  (unfold State.commitWritten; (try dsimp only); (repeat' split); all_goals (first | rfl | simp; done))
@[simp] theorem keep_pending_State_selectorDone (s : State) (epoch : Nat) : (State.selectorDone s epoch).pending = s.pending := by
  (unfold State.selectorDone; (try dsimp only); (repeat' split); all_goals (first | rfl | simp; done))
@[simp] theorem keep_pending_State_logWritten (s : State) : (State.logWritten s).pending = s.pending := by
  (unfold State.logWritten; simp; done)
@[simp] theorem keep_pending_State_nvmEffect (s : State) (o : NvmOp) : (s.nvmEffect o).pending = s.pending := by
  unfold State.nvmEffect
  cases o.kind <;> simp

@[simp] theorem keep_pending_State_nvmAnswer (s : State) (f : Flight) (o : NvmOp) : (State.nvmAnswer s f o).pending = s.pending := by
  (unfold State.nvmAnswer; (try dsimp only); (repeat' split); all_goals (first | rfl | simp; done))
@[simp] theorem keep_pending_State_nvmServe (s : State) (o : NvmOp) : (State.nvmServe s o).pending = s.pending := by
  (unfold State.nvmServe; simp; done)
@[simp] theorem keep_pending_State_nvmComplete (s : State) : (State.nvmComplete s).pending = s.pending := by
  (unfold State.nvmComplete; (try dsimp only); (repeat' split); all_goals (first | rfl | simp; done))
@[simp] theorem keep_pending_State_commitFailed (s : State) : (State.commitFailed s).pending = s.pending := by
  (unfold State.commitFailed; (try dsimp only); (repeat' split); all_goals (first | rfl | simp; done))
@[simp] theorem keep_pending_State_nvmIf (s : State) (p : NvmKind → Bool) (go : State → State) (h : ∀ s, (go s).pending = s.pending) : (s.nvmIf p go).pending = s.pending := by
  unfold State.nvmIf; split
  · split
    · exact h _
    · rfl
  · rfl

@[simp] theorem keep_pending_State_refuseOp (s : State) (o : NvmOp) : (State.refuseOp s o).pending = s.pending := by
  (unfold State.refuseOp; (try dsimp only); (repeat' split); all_goals (first | rfl | simp; done))
@[simp] theorem keep_pending_State_energyRefuse (s : State) : (State.energyRefuse s).pending = s.pending := by
  (unfold State.energyRefuse; (try dsimp only); (repeat' split); all_goals (first | rfl | simp; done))
@[simp] theorem keep_pending_State_suspendFlash (s : State) (o : NvmOp) : (State.suspendFlash s o).pending = s.pending := by
  (unfold State.suspendFlash; (try dsimp only); (repeat' split); all_goals (first | rfl | simp; done))
@[simp] theorem keep_pending_State_cutFlash (s : State) : (State.cutFlash s).pending = s.pending := by
  (unfold State.cutFlash; simp; done)
@[simp] theorem keep_pending_State_flush (s : State) : (State.flush s).pending = s.pending := by
  (unfold State.flush; (try dsimp only); (repeat' split); all_goals (first | rfl | simp; done))
@[simp] theorem keep_pending_State_restart (s : State) (cause : Nat) (flushed session : Bool) : (State.restart s cause flushed session).pending = s.pending := by
  rfl
@[simp] theorem keep_pending_State_flushReset (s : State) (code flags : Nat) : (State.flushReset s code flags).pending = s.pending := by
  (unfold State.flushReset; simp; done)
@[simp] theorem keep_pending_State_debugReset (s : State) : (State.debugReset s).pending = s.pending := by
  (unfold State.debugReset; simp; done)
@[simp] theorem keep_pending_State_closeSession (s : State) (cause : Nat) : (State.closeSession s cause).pending = s.pending := by
  (unfold State.closeSession; simp; done)
@[simp] theorem keep_pending_State_coldReset (s : State) (code : Nat) : (s.coldReset code).pending = s.pending := by
  unfold State.coldReset; rw [keep_pending_State_restart, fk (fun s o => by simp)]; simp

@[simp] theorem keep_pending_State_resetDue (s : State) : (State.resetDue s).pending = s.pending := by
  (unfold State.resetDue; simp; done)
@[simp] theorem keep_pending_State_commandedReset (s : State) : (State.commandedReset s).pending = s.pending := by
  (unfold State.commandedReset; simp; done)
@[simp] theorem keep_pending_State_whenRunning (s : State) (go : State → State) (h : ∀ s, (go s).pending = s.pending) : (s.whenRunning go).pending = s.pending := by
  unfold State.whenRunning; split
  · exact h _
  · rfl

@[simp] theorem keep_pending_State_clockLost (s : State) : (State.clockLost s).pending = s.pending := by
  (unfold State.clockLost; (try dsimp only); (repeat' split); all_goals (first | rfl | simp; done))
@[simp] theorem keep_pending_State_returnDone (s : State) : (State.returnDone s).pending = s.pending := by
  (unfold State.returnDone; (try dsimp only); (repeat' split); all_goals (first | rfl | simp; done))
@[simp] theorem keep_pending_State_nvmEnd (s : State) : (State.nvmEnd s).pending = s.pending := by
  (unfold State.nvmEnd; simp; done)
@[simp] theorem keep_pending_State_modPwr (s : State) (f : PowerSt → PowerSt) : (State.modPwr s f).pending = s.pending := by
  rfl
@[simp] theorem keep_pending_State_setState (s : State) (st : NodeState) (cause : Nat) : (s.setState st cause).pending = s.pending := by
  unfold State.setState; dsimp only; split
  · rw [ek (fun s n => by simp)]; simp
  · simp
  · simp

@[simp] theorem keep_pending_State_stateEntered (s : State) : (State.stateEntered s).pending = s.pending := by
  (unfold State.stateEntered; simp; done)
@[simp] theorem keep_pending_State_safeTick (s : State) : (s.safeTick).pending = s.pending := by
  unfold State.safeTick; dsimp only; split
  · exact ite0 (by rw [keep_pending_State_setState, keep_pending_State_modPwr]) (by simp)
  · rfl

@[simp] theorem keep_pending_State_stateLive (s : State) : (s.stateLive).pending = s.pending := by
  unfold State.stateLive
  refine fk (fun s c => ?_) _ _
  dsimp only
  repeat' split
  all_goals simp

@[simp] theorem keep_pending_State_sysArm (f : Flight) (s : State) : (State.sysArm f s).pending = s.pending := by
  (unfold State.sysArm; simp; done)
@[simp] theorem keep_pending_State_sysSafe (f : Flight) (s : State) : (State.sysSafe f s).pending = s.pending := by
  (unfold State.sysSafe; simp; done)
@[simp] theorem keep_pending_State_armTick (s : State) : (State.armTick s).pending = s.pending := by
  (unfold State.armTick; simp; done)
@[simp] theorem keep_pending_State_framesStart (s : State) (t0 : Nat) : (State.framesStart s t0).pending = s.pending := by
  rfl
@[simp] theorem keep_pending_State_framesStop (s : State) : (State.framesStop s).pending = s.pending := by
  rfl
@[simp] theorem keep_pending_State_chainsIdle (s : State) : (State.chainsIdle s).pending = s.pending := by
  rfl
@[simp] theorem keep_pending_State_busesOff (s : State) : (State.busesOff s).pending = s.pending := by
  rfl
@[simp] theorem keep_pending_State_standbyBanks (s : State) : (State.standbyBanks s).pending = s.pending := by
  (unfold State.standbyBanks; simp; done)
@[simp] theorem keep_pending_State_outsOff (s : State) : (s.outsOff).pending = s.pending := by
  unfold State.outsOff; exact ek (fun s n => by simp) _ _

@[simp] theorem keep_pending_State_standbyCharge (s : State) : (State.standbyCharge s).pending = s.pending := by
  rfl
@[simp] theorem keep_pending_State_enterStandby (s : State) : (State.enterStandby s).pending = s.pending := by
  (unfold State.enterStandby; simp; done)
@[simp] theorem keep_pending_State_dispIdle (s : State) : (State.dispIdle s).pending = s.pending := by
  (unfold State.dispIdle; simp; done)
@[simp] theorem keep_pending_State_wake (s : State) : (s.wake).pending = s.pending := by
  unfold State.wake; dsimp only
  refine ite0 ?_ rfl
  rw [keep_pending_State_claimStart, keep_pending_State_framesStart, keep_pending_State_modPwr, keep_pending_State_setState]
  show (if _ then _ else _ : State).pending = _
  split <;> simp

@[simp] theorem keep_pending_State_bootNote (s : State) (code p1 p2 : Nat) : (State.bootNote s code p1 p2).pending = s.pending := by
  rfl
@[simp] theorem keep_pending_State_secureBoot (s : State) : (s.secureBoot).pending = s.pending := by
  have h : ∀ (l : List Nat) (u : State), (u.bootTry l).1.pending = u.pending := by
    intro l; induction l with
    | nil => intro u; rfl
    | cons n r ih =>
      intro u; unfold State.bootTry; dsimp only
      repeat' split
      all_goals first | rfl | simp | (rw [ih]; done) | (rw [ih]; simp)
  unfold State.secureBoot; dsimp only
  split
  · exact (h _ _).trans (keep_pending_State_modSec _ _)
  · exact (keep_pending_State_modPwr _ _).trans ((keep_pending_State_modSec _ _).trans ((h _ _).trans (keep_pending_State_modSec _ _)))

@[simp] theorem keep_pending_State_logScan (s : State) (bad : List Nat) : (s.logScan bad).pending = s.pending := by
  have h : ∀ (n : Nat) (u : State), (clearRest n u).pending = u.pending := by
    intro n; induction n with
    | zero => intro u; rfl
    | succ n ih =>
      intro u; unfold clearRest; split
      · dsimp only; rw [ih]; split <;> simp
      · rfl
  unfold State.logScan; dsimp only; rw [h]; repeat' split
  all_goals simp

@[simp] theorem keep_pending_State_restoreConfig (s : State) : (State.restoreConfig s).pending = s.pending := by
  rfl
@[simp] theorem keep_pending_State_unitsStart (s : State) : (State.unitsStart s).pending = s.pending := by
  (unfold State.unitsStart; simp; done)
@[simp] theorem keep_pending_State_evtDrain (s : State) : (s.evtDrain).pending = s.pending := by
  have h : ∀ (n : Nat) (u : State), (drainStamps n u).pending = u.pending := by
    intro n; induction n with
    | zero => intro u; rfl
    | succ n ih =>
      intro u; unfold drainStamps; split
      · exact ite0 (ih _) rfl
      · rfl
  unfold State.evtDrain
  exact (ek (fun s e => by dsimp only; split <;> simp) _ _).trans (h _ _)

@[simp] theorem keep_pending_State_bootNoted (s : State) : (s.bootNoted).pending = s.pending := by
  unfold State.bootNoted; rw [fk (fun s x => by simp)]; simp

@[simp] theorem keep_pending_State_bkpNotes (s : State) : (s.bkpNotes).pending = s.pending := by
  unfold State.bkpNotes; rw [fk (fun s x => by simp)]

@[simp] theorem keep_pending_State_configRestored (s : State) (bad : List Nat) (holdMv : Nat) : (State.configRestored s bad holdMv).pending = s.pending := by
  (unfold State.configRestored; simp; done)
@[simp] theorem keep_pending_State_abortAll (s : State) (d : Nat) : (State.abortAll s d).pending = s.pending := by
  (unfold State.abortAll; simp; done)
@[simp] theorem keep_pending_State_outsSafe (s : State) : (State.outsSafe s).pending = s.pending := by
  (unfold State.outsSafe; simp; done)
@[simp] theorem keep_pending_State_enginesIdle (s : State) : (State.enginesIdle s).pending = s.pending := by
  rfl
@[simp] theorem keep_pending_State_powerFail (s : State) (mv : Nat) : (State.powerFail s mv).pending = s.pending := by
  (unfold State.powerFail; simp; done)
@[simp] theorem keep_pending_State_railsShed (s : State) : (State.railsShed s).pending = s.pending := by
  (unfold State.railsShed; simp; done)
@[simp] theorem keep_pending_State_goDown (s : State) (vbatOk flushed : Bool) : (State.goDown s vbatOk flushed).pending = s.pending := by
  rfl
@[simp] theorem keep_pending_State_holdupEnd (s : State) (vbatOk : Bool) : (State.holdupEnd s vbatOk).pending = s.pending := by
  (unfold State.holdupEnd; simp; done)
@[simp] theorem keep_pending_State_holdupBroken (s : State) : (s.holdupBroken).pending = s.pending := by
  have h : (s.nvm.running.toList.foldl State.suspendFlash s.cutFlash).pending = s.pending := by
    rw [fk (fun s o => by simp)]; simp
  unfold State.holdupBroken; dsimp only
  repeat' split
  all_goals first
    | (rw [keep_pending_State_restart]; done)
    | (rw [keep_pending_State_goDown]; done)
    | (rw [keep_pending_State_restart]; exact h)
    | (rw [keep_pending_State_goDown]; exact h)

@[simp] theorem keep_pending_State_wdogWarn (s : State) : (State.wdogWarn s).pending = s.pending := by
  (unfold State.wdogWarn; simp; done)
@[simp] theorem keep_pending_State_keyWrite (s : State) (f : Flight) (data : List Byte) (arg : Nat) : (State.keyWrite s f data arg).pending = s.pending := by
  (unfold State.keyWrite; simp; done)
@[simp] theorem keep_pending_State_busKey (s : State) (f : Flight) : (State.busKey s f).pending = s.pending := by
  (unfold State.busKey; (try dsimp only); (repeat' split); all_goals (first | rfl | simp; done))
@[simp] theorem keep_pending_State_toReturned (s : State) : (State.toReturned s).pending = s.pending := by
  (unfold State.toReturned; simp; done)
@[simp] theorem keep_pending_State_fwReq (s : State) (f : Flight) (go : State → State) (h : ∀ s, (go s).pending = s.pending) : (s.fwReq f go).pending = s.pending := by
  unfold State.fwReq; split
  · simp
  · exact h _

@[simp] theorem keep_pending_State_fwBegin (s : State) (f : Flight) : (State.fwBegin s f).pending = s.pending := by
  (unfold State.fwBegin; simp; done)
@[simp] theorem keep_pending_State_fwProgram (s : State) (l : List Nat) : (State.fwProgram s l).pending = s.pending := by
  (unfold State.fwProgram; simp; done)
@[simp] theorem keep_pending_State_fwWrite (s : State) (f : Flight) : (State.fwWrite s f).pending = s.pending := by
  (unfold State.fwWrite; (try dsimp only); (repeat' split); all_goals (first | rfl | simp; done))
@[simp] theorem keep_pending_State_fwFinish (s : State) (f : Flight) : (State.fwFinish s f).pending = s.pending := by
  (unfold State.fwFinish; (try dsimp only); (repeat' split); all_goals (first | rfl | simp; done))
@[simp] theorem keep_pending_State_tapSelect (s : State) (i : TapInstr) (go : State → State) (h : ∀ s, (go s).pending = s.pending) : (s.tapSelect i go).pending = s.pending := by
  unfold State.tapSelect; repeat' split
  all_goals simp [h]

@[simp] theorem keep_pending_State_tapBypass (s : State) : (State.tapBypass s).pending = s.pending := by
  (unfold State.tapBypass; simp; done)
@[simp] theorem keep_pending_State_mboxOut (s : State) (kind : Nat) (body : List Byte) : (State.mboxOut s kind body).pending = s.pending := by
  rfl
@[simp] theorem keep_pending_State_hello (s : State) : (State.hello s).pending = s.pending := by
  (unfold State.hello; (try dsimp only); (repeat' split); all_goals (first | rfl | simp; done))
@[simp] theorem keep_pending_State_authRefuse (s : State) (st serial : Nat) : (State.authRefuse s st serial).pending = s.pending := by
  rfl
@[simp] theorem keep_pending_State_authGrant (s : State) (level : Nat) (c : List Byte) : (State.authGrant s level c).pending = s.pending := by
  (unfold State.authGrant; simp; done)
@[simp] theorem keep_pending_State_tagged (s : State) (m : Session → List Byte) (mac : Nat) (go : Session → State → State) (h : ∀ x s, (go x s).pending = s.pending) : (s.tagged m mac go).pending = s.pending := by
  unfold State.tagged; repeat' split
  all_goals simp [h]

@[simp] theorem keep_pending_State_access (s : State) (op addr data mac : Nat) (go : Session → State → State) (h : ∀ x s, (go x s).pending = s.pending) : (State.access s op addr data mac go).pending = s.pending := by
  unfold State.access
  refine keep_pending_State_tapSelect _ _ _ (fun s => keep_pending_State_tagged _ _ _ _ (fun x s => ?_))
  rw [h]; simp

@[simp] theorem keep_pending_State_setAccess (s : State) (v : Nat) : (State.setAccess s v).pending = s.pending := by
  rfl
@[simp] theorem keep_pending_State_coreRead (s : State) (sp a : Nat) : (State.coreRead s sp a).pending = s.pending := by
  (unfold State.coreRead; (try dsimp only); (repeat' split); all_goals (first | rfl | simp; done))
@[simp] theorem keep_pending_State_accessRead (s : State) (x : Session) (addr : Nat) : (State.accessRead s x addr).pending = s.pending := by
  (unfold State.accessRead; simp; done)
@[simp] theorem keep_pending_State_control (s : State) (c : DbgCtl) : (State.control s c).pending = s.pending := by
  (unfold State.control; (try dsimp only); (repeat' split); all_goals (first | rfl | simp; done))
@[simp] theorem keep_pending_State_accessWrite (s : State) (x : Session) (addr word : Nat) (c : DbgCtl) : (State.accessWrite s x addr word c).pending = s.pending := by
  (unfold State.accessWrite; simp; done)
@[simp] theorem keep_pending_State_sessionTime (s : State) : (State.sessionTime s).pending = s.pending := by
  (unfold State.sessionTime; (try dsimp only); (repeat' split); all_goals (first | rfl | simp; done))
@[simp] theorem keep_pending_State_dateInvalid (s : State) (f : Flight) (k : Nat) : (State.dateInvalid s f k).pending = s.pending := by
  (unfold State.dateInvalid; simp; done)
@[simp] theorem keep_pending_State_timeSet (s : State) (f : Flight) : (State.timeSet s f).pending = s.pending := by
  (unfold State.timeSet; (try dsimp only); (repeat' split); all_goals (first | rfl | simp; done))
@[simp] theorem keep_pending_State_timeDst (s : State) (f : Flight) : (State.timeDst s f).pending = s.pending := by
  (unfold State.timeDst; (try dsimp only); (repeat' split); all_goals (first | rfl | simp; done))
@[simp] theorem keep_pending_State_logBkp (s : State) (code sev p1 p2 : Nat) : (State.logBkp s code sev p1 p2).pending = s.pending := by
  (unfold State.logBkp; simp; done)
@[simp] theorem keep_pending_State_rtcSet (s : State) : (State.rtcSet s).pending = s.pending := by
  (unfold State.rtcSet; (try dsimp only); (repeat' split); all_goals (first | rfl | simp; done))
@[simp] theorem keep_pending_State_rtcDst (s : State) : (State.rtcDst s).pending = s.pending := by
  (unfold State.rtcDst; (try dsimp only); (repeat' split); all_goals (first | rfl | simp; done))
@[simp] theorem keep_pending_State_masterAlign (s : State) (d : Int) : (State.masterAlign s d).pending = s.pending := by
  (unfold State.masterAlign; simp; done)
@[simp] theorem keep_pending_State_rtcAlign (s : State) : (State.rtcAlign s).pending = s.pending := by
  (unfold State.rtcAlign; simp; done)
@[simp] theorem keep_pending_State_trimMeasured (s : State) (err : Int) : (State.trimMeasured s err).pending = s.pending := by
  (unfold State.trimMeasured; (try dsimp only); (repeat' split); all_goals (first | rfl | simp; done))
@[simp] theorem keep_pending_State_takeUtc (s : State) : (State.takeUtc s).pending = s.pending := by
  (unfold State.takeUtc; simp; done)
@[simp] theorem keep_pending_State_wakeExpire (s : State) : (s.wakeExpire).pending = s.pending := by
  unfold State.wakeExpire; split
  · exact ite0 (by rw [keep_pending_State_wake]) rfl
  · rfl

@[simp] theorem keep_pending_State_evtEdge (s : State) (e : Nat) (level : Bool) (first : Nat) : (State.evtEdge s e level first).pending = s.pending := by
  (unfold State.evtEdge; simp; done)
@[simp] theorem keep_pending_State_storePage (s : State) : (State.storePage s).pending = s.pending := by
  rfl
@[simp] theorem keep_pending_State_sealPage (s : State) (e : Nat) : (State.sealPage s e).pending = s.pending := by
  rfl
@[simp] theorem keep_pending_State_pagesTick (s : State) (pub : Bool) (r : TickRead) : (State.pagesTick s pub r).pending = s.pending := by
  (unfold State.pagesTick; simp; done)
@[simp] theorem keep_pending_State_releaseRecs (s : State) : (s.releaseRecs).pending = s.pending := by
  unfold State.releaseRecs; rw [fk (fun s x => by simp)]

@[simp] theorem keep_pending_State_release (s : State) : (s.release).pending = s.pending := by
  have h : ∀ (l : List LiveCmd) (u : State), (answerShown l u).pending = u.pending := by
    intro l; induction l with
    | nil => intro u; rfl
    | cons c r ih =>
      intro u; unfold answerShown; rw [ih]; repeat' split
      all_goals simp
  unfold State.release; dsimp only
  rw [h]; show (State.endWaits _ _).pending = _
  rw [keep_pending_State_endWaits, fk (fun s m => by simp)]

@[simp] theorem keep_pending_State_publish (s : State) (r : TickRead) : (State.publish s r).pending = s.pending := by
  (unfold State.publish; simp; done)
@[simp] theorem keep_pending_State_tickEnd (s : State) (r : TickRead) : (State.tickEnd s r).pending = s.pending := by
  (unfold State.tickEnd; simp; done)
@[simp] theorem keep_pending_State_slipFrame (s : State) : (State.slipFrame s).pending = s.pending := by
  (unfold State.slipFrame; simp; done)
@[simp] theorem keep_pending_State_nextTick (s : State) : (State.nextTick s).pending = s.pending := by
  rfl
@[simp] theorem keep_pending_State_frameOpen (s : State) : (State.frameOpen s).pending = s.pending := by
  rfl
@[simp] theorem keep_pending_State_banksTick (s : State) : (State.banksTick s).pending = s.pending := by
  (unfold State.banksTick; simp; done)
@[simp] theorem keep_pending_State_takeLines (s : State) (x : TickIn) : (State.takeLines s x).pending = s.pending := by
  (unfold State.takeLines; simp; done)
@[simp] theorem keep_pending_State_captureChan (x : TickIn) (seq : Nat) (s : State) (n : Nat) : (State.captureChan x seq s n).pending = s.pending := by
  (unfold State.captureChan; simp; done)
@[simp] theorem keep_pending_State_capture (s : State) (x : TickIn) (seq dt : Nat) : (State.capture s x seq dt).pending = s.pending := by
  (unfold State.capture; simp; done)
@[simp] theorem keep_pending_State_aoLive (s : State) : (s.aoLive).pending = s.pending := by
  unfold State.aoLive
  refine fk (fun s c => ?_) _ _
  repeat' split
  all_goals simp

@[simp] theorem keep_pending_State_aoAnswer (s : State) : (s.aoAnswer).pending = s.pending := by
  unfold State.aoAnswer
  refine fk (fun s c => ?_) _ _
  repeat' split
  all_goals simp

@[simp] theorem keep_pending_State_engines (s : State) : (State.engines s).pending = s.pending := by
  (unfold State.engines; simp; done)
@[simp] theorem keep_pending_State_commands (s : State) : (State.commands s).pending = s.pending := by
  (unfold State.commands; simp; done)
@[simp] theorem keep_pending_State_frameDone (s : State) : (State.frameDone s).pending = s.pending := by
  (unfold State.frameDone; simp; done)
@[simp] theorem keep_pending_State_commitTick (s : State) (pub : Bool) : (State.commitTick s pub).pending = s.pending := by
  (unfold State.commitTick; simp; done)
@[simp] theorem keep_pending_State_stateTick (s : State) : (State.stateTick s).pending = s.pending := by
  (unfold State.stateTick; simp; done)
@[simp] theorem keep_pending_State_tickBegin (s : State) (pub : Bool) (x : TickIn) : (State.tickBegin s pub x).pending = s.pending := by
  (unfold State.tickBegin; simp; done)
@[simp] theorem keep_pending_State_frameTick (s : State) (x : TickIn) : (State.frameTick s x).pending = s.pending := by
  (unfold State.frameTick; simp; done)
@[simp] theorem keep_pending_State_withFetchWord (s : State) (nbits w : Nat) : (State.withFetchWord s nbits w).pending = s.pending := by
  rfl
end Sys2Proof.Laws
end

