-- ==== Sys2Proof/Tests/Slice0.lean ====
section
/-!
SUPPORT. Tests: the commands that Instr.wf refuses, single commands against the tables of the spec, and a witness for
the hypotheses of each statement.
-/

namespace Sys2Proof.Tests

set_option linter.unusedVariables false
set_option maxRecDepth 4000
set_option Elab.async false

open Sys2Proof Sys2Proof.Machine


/-- The image that an edit gives is an image where the edit is done. -/
theorem test_done {r : EditResult} (h : (match r with | .done _ => true | .fault _ => false) = true) :
    r = .done (match r with | .done m => m | _ => []) := by
  cases r with
  | done m => rfl
  | fault f => cases h
/-- A request as the tests send it: opcode, unit, payload bytes, flags, tag. -/
def fl (op unit : Nat) (p : List Nat := []) (flags : Nat := 0) : Flight :=
  { id := 0, origin := .host,
    req := le16 op ++ le8 0 ++ le8 flags ++ le16 0 ++ le16 0 ++ le16 unit ++ le16 p.length ++ zeros 4 ++ p.map (BitVec.ofNat 8) }

/-- The state in which a request executes. -/
def ex (s : State) (f : Flight) : State := { s with host := { s.host with cur := some f } }

/-- The machine after reset. -/
abbrev R : State := State.reset

/-- A configuration image of the given tables: id, entry size, count, and the bytes that are not zero by their place in the table. -/
def im (ts : List (Nat × Nat × Nat × List (Nat × Nat))) : Mem :=
  Mem.fromList 12 (le16 ts.length) ++
    ts.zipIdx.flatMap (fun p => Mem.fromList (64 + 16 * p.2) (le16 p.1.1 ++ le16 p.1.2.1 ++ le16 p.1.2.2.1 ++ le16 0 ++ le32 (4096 * (p.2 + 1)))) ++
    ts.zipIdx.flatMap (fun p => p.1.2.2.2.map (fun c => (4096 * (p.2 + 1) + c.1, BitVec.ofNat 8 c.2)))

/-- The machine with an image in force. -/
def cf (ts : List (Nat × Nat × Nat × List (Nat × Nat))) (s : State) : State := { s with cfg := { s.cfg with img := im ts } }

/-- No follow-up is later than `m` where no entry is. -/
theorem test_lastFu {s : State} {m : Nat} (h : (s.bus.net.lastFu.all (fun x => decide (x.getD s.bus.net.start ≤ m))) = true)
    (h0 : s.bus.net.start ≤ m) (x : Nat) : s.lastFuOf x ≤ m := by
  unfold State.lastFuOf
  rw [List.getD_eq_getElem?_getD]
  cases hx : s.bus.net.lastFu[x]? with
  | none => simpa using h0
  | some y => exact of_decide_eq_true (List.all_eq_true.1 h y (List.mem_of_getElem? hx))

/-! ### Ill-formed commands -/

theorem test_ill_formed_1 : ([.linkWatchdog 0 8,
    .downstreamLinkFrame 0 8 ⟨false, 0, [], 0, false, none, false⟩,
    .upstreamLinkFrame 0 8 ⟨false, 0, [], 0, none⟩,
    .linkDown 0 8,
    .linkUp 0 8,
    .bankPowerUp 0 8,
    .bankSelfTest 0 8,
    .bankFault 0 8 0,
    .miswire 0 8 0 true,
    .miswire 0 0 18 true,
    .landReturnCheck 0 8 0,
    .landReturnCheck 0 0 18,
    .vexSenseFault 0 8,
    .vexSenseReturn 0 8,
    .chargeAmpOverload 0 5 true,
    .chargeAmpOverload 0 70 true,
    .overloadHoldEnd 0 5,
    .overloadHoldEnd 0 70,
    .chargeResetEnd 0 5,
    .chargeResetEnd 0 70,
    .iepeBiasFault 0 5 0,
    .iepeBiasFault 0 70 0,
    .bankPowerLimit 0 8 true,
    .supplyDischargeEnd 0 8,
    .generatorEdge 0 8,
    .insulationPeriodEnd 0 8 ⟨0, 0, 0, 0, [], [], 0, 0, 0, false, none⟩,
    .notchSuspectEnd 0 64,
    .settlingEnd 0 64,
    .wireRestored 0 64,
    .modulatorOverload 0 64 true,
    .modulatorOverloadEnd 0 64,
    .sourceExchange 0 64 ⟨0, 0⟩,
    .complianceTimer 0 64,
    .complianceClear 0 64,
    .loopOpen 0 64,
    .openProbe 0 64,
    .loopOver 0 64,
    .loopRampDownEnd 0 64,
    .fskAttach 0 8,
    .fskSend 0 8] : List Instr).all (fun i => !i.wf) = true := by decide

theorem test_ill_formed_2 : ([.fskCheckSent 0 8,
    .fskResponse 0 8 0 true [],
    .fskResponseTimeout 0 8,
    .fskRetry 0 8,
    .burstFrame 0 8 0 true [],
    .weirDelayElapsed 0 1024,
    .suspectLimit 0 1024,
    .weirUnshelved 0 1024,
    .historyStepClose 0 true 1024,
    .historyStepClose 0 false 256,
    .groupReleased 0 128,
    .ackButtonStuck 0 16,
    .firstOutDecided 0 32,
    .firstOutHomeAbsent 0 32,
    .firstOutReset 0 32,
    .autoReset 0 32,
    .callStage 0 16,
    .acceptPeriodElapsed 0 16,
    .callRepeat 0 16,
    .encoderEdge 0 8 true true,
    .indexEdge 0 8,
    .posLineFault 0 8 0,
    .lineFaultClear 0 8,
    .posRebased 0 8,
    .comparePulse 0 8,
    .cmpOverload 0 8,
    .ssiRead 0 8,
    .ssiReadComplete 0 8 true true true 0,
    .latch 0 8,
    .limitEdge 0 16 true,
    .timeRef 0 4 0 0 [],
    .timeFu 0 4 0 0 0 [],
    .transmitSuccess 0 4 0,
    .claim 0 4 0 0 [],
    .goingDown 0 4 0 0 [],
    .heartbeat 0 4 0 0 [],
    .nodeLost 0 4 0,
    .genFreq 0 4 0 0 [],
    .foCand 0 4 0 0 0 [],
    .foDecide 0 4 0 0 0 []] : List Instr).all (fun i => !i.wf) = true := by decide

theorem test_ill_formed_3 : ([.foResetMessage 0 4 0 0 0 [],
    .panel 0 4 0 0 [],
    .value 0 4 0 0 0 0 [],
    .foreignFrame 0 4 0 0 [],
    .freshnessTimeout 0 128,
    .busObjectDue 0 128,
    .culvertReq 0 4 0 0 0 [],
    .culvertRsp 0 4 0 0 0 [],
    .idClash 0 4 0,
    .busErrorPassive 0 4 0 0 0 0,
    .busOff 0 4 0 0 0,
    .busOffHoldEnd 0 4,
    .busRecovered 0 4,
    .dominantTimeout 0 4,
    .evtEdge 0 4 true 0,
    .waveformStart 0 8,
    .waveformEnd 0 8,
    .blinkToggle 0 4,
    .debounce 0 16 0,
    .diLineBroken 0 16,
    .aoLineFault 0 8 0 0,
    .aoOverload 0 8 0,
    .aoRetry 0 8,
    .aoFaultClear 0 8,
    .cmpOverloadEnd 0 8,
    .comparePulseEnd 0 8,
    .diLineRestored 0 16,
    .callCancelRepeat 0 16,
    .economyBurst 0 8] : List Instr).all (fun i => !i.wf) = true := by decide

/-! ### The tables of the spec -/

/-- Table 11.8. -/
theorem test_identifiers :
    protoId 1 0x08 14 3 = 0x04838003 ∧ protoId 1 0x0D 40 0 = 0x04DA0000 ∧ protoId 5 0x20 12 0x0E18 = 0x16030E18 := by decide

/-- Table 06.13: the high switch at 18.0 with hysteresis 0.2 goes on at 18.750, keeps at 18.125 and goes off at 17.750; the
low switch at 0.5 with 0.1 goes on at 0.375. -/
theorem test_switches :
    swNext 1 0x41900000 0x3E4CCCCD 0x41960000 false = true ∧ swNext 1 0x41900000 0x3E4CCCCD 0x41910000 true = true ∧
      swNext 1 0x41900000 0x3E4CCCCD 0x418E0000 true = false ∧ swNext 2 0x3F000000 0x3DCCCCCD 0x3EC00000 false = true := by
  decide +kernel

/-- R381: the ceiling is 6.0 W up to 70 °C and 3.0 W at 85 °C, and 4.66 W at the 76.7 °C of chapter 14. -/
theorem test_ceiling : ceilingMw 70 = 6000 ∧ ceilingMw 85 = 3000 ∧ ceilingMw (767 / 10) = 4660 := by decide +kernel

/-- The reference tables of IEC 60584-1 in µV: K, J, T, E, N, R, S and B. -/
theorem test_thermocouples :
    ([(16, -200, -5891), (17, 1000, 57953), (18, -200, -5603), (19, 1000, 76373), (20, 1300, 47513), (21, 1700, 20222),
      (22, 1000, 9587), (23, 1000, 4834)] : List (Nat × Int × Int)).all
        (fun p => decide ((tcEmf p.1 p.2.1 * 1000 + 1 / 2).floor = p.2.2)) = true := by decide +kernel

/-- The machine with the host port in use. -/
def up : State := { R with host := { R.host with up := true, ready := true }, pwr := { R.pwr with state := .starting } }

/-- Table 03.27: the bytes of CFG_OPEN on tag 5, their doorbell and the response of the row that executes it. -/
theorem test_worked_exchange :
    (let s : State := { up with
        pwr := { up.pwr with state := .safe }, cfg := { up.cfg with epoch := 0x0123 },
        host := { up.host with req := Mem.fromList 0x500 ([1, 2, 5, 0, 0x23, 1, 0, 0, 0, 0, 4].map (BitVec.ofNat 8)) } }
     match exec (.doorbell 5000000 5) s with
     | .next u =>
       (match exec (.cfgOpen 5610000 5) u with
        | .next v => (v.host.rsp.readList 0x500 20).map (fun b => b.toNat) | _ => [])
     | _ => []) = [1, 2, 5, 0, 0x23, 1, 0, 0, 0, 0, 4, 0, 0, 0, 0, 0, 0x23, 1, 0x40, 0] := by
  decide +kernel

/-- Table 02.9: a hold asked for while none stands is requested, and released at once. -/
theorem test_hold :
    (match exec (.holdReq 5000000) up with | .next u => (u.frame.hold == .requested) | _ => false) = true := by decide +kernel

/-- R65: an opcode row with no request in execution only lets time pass. -/
theorem test_no_request : execCallAccept 9 3 R = .next (R.advance 9) := by rfl

/-- An empty queue idles. -/
theorem test_idle : step R = .next R := by rfl

/-! ### Witnesses: each hypothesis of a statement is met by the state and operands named -/

/-- A log with every slot taken by the same record. -/
def fullLog (x : Rec) : List (Nat × Rec) := (List.range' 0 49152).map (fun k => (k, x))

theorem fullLog_free (x : Rec) (n i : Nat) : freeSlot ((List.range' i n).map (fun k => (k, x))) i = i + n := by
  induction n generalizing i with
  | zero => rfl
  | succ n ih => simp [List.range'_succ, freeSlot, ih]; omega

theorem fullLog_oldest (x : Rec) (m sv : Nat) (l : List Nat) (a : Option (Nat × Nat))
    (h : (x.sev ≤ sv → ∃ j, a = some (j, behind m x.seq)) ∧ (sv < x.sev → a = none)) :
    (l.map (fun k => (k, x))).foldl (fun acc p =>
      if p.2.sev ≤ sv then
        match acc with
        | none => some (p.1, behind m p.2.seq)
        | some (_, b) => if b < behind m p.2.seq then some (p.1, behind m p.2.seq) else acc
      else acc) a = a := by
  induction l with
  | nil => rfl
  | cons k l ih =>
    by_cases c : x.sev ≤ sv
    · obtain ⟨j, rfl⟩ := h.1 c; simpa [c] using ih
    · simpa [c] using ih

theorem fullLog_some (x : Rec) (m sv n : Nat) (h : x.sev ≤ sv) :
    oldestSlot m sv ((List.range' 0 (n + 1)).map (fun k => (k, x))) = some (0, behind m x.seq) := by
  rw [List.range'_succ, List.map_cons, oldestSlot, List.foldl_cons]
  simp only [h, if_true]
  exact fullLog_oldest x m sv _ (some (0, behind m x.seq)) ⟨fun _ => ⟨0, rfl⟩, fun c => absurd h (Nat.not_le_of_lt c)⟩

theorem test_wit_SlotAssignment :
    (([(0, { sev := 7 })] : List (Nat × Rec)).Pairwise (fun x y => x.1 < y.1) ∧ freeSlot [(0, { sev := 7 })] 0 < 49152 ∧
      (0, ({ sev := 7 } : Rec)) ∈ ([(0, { sev := 7 })] : List (Nat × Rec))) ∧
    (fullLog { seq := 5, sev := 3 }).Pairwise (fun x y => x.1 < y.1) ∧ 49152 ≤ freeSlot (fullLog { seq := 5, sev := 3 }) 0 ∧
    oldestSlot 9 3 (fullLog { seq := 5, sev := 3 }) = some (0, 4) ∧ oldestSlot 9 2 (fullLog { seq := 5, sev := 3 }) = none := by
  refine ⟨by decide, ?_, ?_, ?_, ?_⟩
  · exact List.pairwise_map.2 (List.pairwise_lt_range' ..)
  · exact Nat.le_of_eq ((Nat.zero_add _).symm.trans (fullLog_free _ _ _).symm)
  · exact fullLog_some { seq := 5, sev := 3 } 9 3 49151 (by decide)
  · exact fullLog_oldest { seq := 5, sev := 3 } 9 2 _ none ⟨fun h => absurd h (by decide), fun _ => rfl⟩


theorem test_wit_HostPortCommands :
    (let s : State := R; let t : Nat := 5000000; let s1 := s.advance t; s1.portUp = true) ∧
    (let s : State := R; let t : Nat := 5000000; let s1 := s.advance t; let w := 0xFFFFFFFF; s1.portUp = true ∧ w < 4294967296) ∧
    (let s : State := R; let t : Nat := 5000000; let s1 := s.advance t; let a := 0x10000; s1.portUp = true ∧ 0x10000 ≤ a ∧ a < 0x20000) ∧
    (let s : State := R; let t : Nat := 5000000; let s1 := s.advance t; let a := 0x20000; s1.portUp = true ∧ 0x20000 ≤ a) ∧
    (let s : State := { R with host := { R.host with ready := true } }; let t : Nat := 5000000; let s1 := s.advance t; let tag := 239; s1.portUp = true ∧ tag < 240 ∧ s1.host.ready = true ∧ s1.inFlight tag = false ∧ s1.host.done.getLsbD tag = false) ∧
    (let s : State := R; let t : Nat := 5000000; let s1 := s.advance t; let tag := 0; s1.portUp = true ∧ tag < 256 ∧ ((240 ≤ tag ∨ s1.host.ready = false ∨ s1.inFlight tag = true ∨ s1.host.done.getLsbD tag = true))) ∧
    (let s : State := { R with host := { R.host with ready := true } }; let t : Nat := 5000000; let s1 := s.advance t; let tag := 255; s1.portUp = true ∧ tag < 256 ∧ ((240 ≤ tag ∨ s1.host.ready = false ∨ s1.inFlight tag = true ∨ s1.host.done.getLsbD tag = true))) ∧
    (let s : State := R; let t : Nat := 5000000; let s1 := s.advance t; let tag := 255; s1.portUp = true ∧ tag < 256) ∧
    (let s : State := cf [(1, 32, 1, [(4, 1)])] R; let t : Nat := 5000000; let s1 := s.advance t; let v := 0x5A; s1.portUp = true ∧ v < 256 ∧ s1.wdogMs ≠ 0 ∧ v = (if s1.host.wdog.expect then 0xA5 else 0x5A)) := by
  refine ⟨?_, ?_, ?_, ?_, ?_, ?_, ?_, ?_, ?_⟩ <;> decide +kernel

theorem test_wit_HostPortCommands_2 :
    (let s : State := R; let t : Nat := 5000000; let s1 := s.advance t; let v := 0x5B; s1.portUp = true ∧ v < 256 ∧ ((s1.wdogMs = 0 ∨ v ≠ (if s1.host.wdog.expect then 0xA5 else 0x5A)))) ∧
    (let s : State := cf [(1, 32, 1, [(4, 1)])] R; let t : Nat := 5000000; let s1 := s.advance t; let v := 255; s1.portUp = true ∧ v < 256 ∧ ((s1.wdogMs = 0 ∨ v ≠ (if s1.host.wdog.expect then 0xA5 else 0x5A)))) ∧
    (let s : State := R; let t : Nat := 5000000; let s1 := s.advance t; s1.portUp = true ∧ s1.frame.hold = .none) ∧
    (let s : State := R; let t : Nat := 5000000; let s1 := s.advance t; let v := 65535; s1.portUp = true ∧ v < 65536) ∧
    (let s : State := R; let t : Nat := 5000000; let s1 := s.advance t; let w := 2147483647; s1.portUp = true ∧ w < 2147483648) := by
  refine ⟨?_, ?_, ?_, ?_, ?_⟩ <;> decide +kernel


theorem test_wit_HoldCommands :
    (let s : State := R; let t : Nat := 5000000000; let s1 := s.advance t; s1.portUp = true ∧ s1.frame.hold = .none) ∧
    (let s : State := { R with frame := { R.frame with hold := .held } }; let t : Nat := 5000000000; let s1 := s.advance t; s1.portUp = true ∧ s1.frame.hold = .held) ∧
    (let s : State := { R with frame := { R.frame with hold := .heldMove } }; let t : Nat := 5000000000; let s1 := s.advance t; s1.portUp = true ∧ ((s1.frame.hold = .requested ∨ s1.frame.hold = .heldMove))) ∧
    (let s : State := { R with frame := { R.frame with hold := .requested } }; let t : Nat := 5000000000; let s1 := s.advance t; s1.portUp = true ∧ ((s1.frame.hold = .requested ∨ s1.frame.hold = .heldMove))) ∧
    (let s : State := R; let t : Nat := 5000000000; let s1 := s.advance t; s1.portUp = true) ∧
    (let s : State := { R with frame := { R.frame with hold := .requested } }; ((s.frame.hold = .requested ∨ s.frame.hold = .heldMove))) ∧
    (let s : State := { R with frame := { R.frame with hold := .heldMove } }; ((s.frame.hold = .requested ∨ s.frame.hold = .heldMove))) ∧
    (let s : State := { { R with frame := { R.frame with hold := .held } } with clk := { R.clk with now := 1000000000 } }; s.frame.hold = .held ∧ s.frame.holdSince + 1000000000 ≤ s.clk.now) ∧
    (let s : State := { { R with frame := { R.frame with hold := .held } } with clk := { R.clk with now := 999999999 } }; s.frame.hold = .held ∧ s.clk.now < s.frame.holdSince + 1000000000) := by
  refine ⟨?_, ?_, ?_, ?_, ?_, ?_, ?_, ?_, ?_⟩ <;> decide +kernel

theorem test_wit_HoldCommands_2 :
    (let s : State := { R with frame := { R.frame with hold := .held, holdSince := 4000000000, running := true, nextTick := 5000000000 } }; let t : Nat := 5000000000; let s1 := s.advance t; s1.frame.hold = .held ∧ s1.frame.holdSince + 1000000000 ≤ s1.clk.now ∧ s1.frame.running = true ∧ s1.frame.nextTick ≤ s1.clk.now) ∧
    (let s : State := { R with frame := { R.frame with hold := .held, holdSince := 4000000001, running := true, nextTick := 5000000000 } }; let t : Nat := 5000000000; let s1 := s.advance t; ((s1.frame.hold ≠ .held ∨ s1.clk.now < s1.frame.holdSince + 1000000000 ∨ s1.frame.running = false ∨ s1.clk.now < s1.frame.nextTick))) ∧
    (let s : State := R; let t : Nat := 5000000000; let s1 := s.advance t; ((s1.frame.hold ≠ .held ∨ s1.clk.now < s1.frame.holdSince + 1000000000 ∨ s1.frame.running = false ∨ s1.clk.now < s1.frame.nextTick))) ∧
    (let s : State := { R with frame := { R.frame with hold := .held, holdSince := 4000000000, running := true, nextTick := 5000000001 } }; let t : Nat := 5000000000; let s1 := s.advance t; ((s1.frame.hold ≠ .held ∨ s1.clk.now < s1.frame.holdSince + 1000000000 ∨ s1.frame.running = false ∨ s1.clk.now < s1.frame.nextTick))) ∧
    (let s : State := { R with pwr := { R.pwr with dip := true, state := .safe } }; let t : Nat := 5000000000; let s1 := s.advance t; s.pwr.dip = true ∧ s1.running = true) := by
  refine ⟨?_, ?_, ?_, ?_, ?_⟩ <;> decide +kernel


theorem test_wit_CalendarCommands :
    (let s : State := R; let t : Nat := 5000000; (s.advance t).portUp = true) ∧
    (let s : State := R; let t : Nat := 5000000; let s1 := s.advance t; let b := s1.bkp; let u := 0; let z := 0; let d := false; (s.advance t).portUp = true ∧ checkStage b.stage = .inr (u, z, d)) ∧
    (let s : State := { R with bkp := { R.bkp with stage := [0x60] } }; let t : Nat := 5000000; let s1 := s.advance t; let b := s1.bkp; let k := 1; (s.advance t).portUp = true ∧ checkStage b.stage = .inl k) ∧
    (let s : State := R; let t : Nat := 5000000; let s1 := s.advance t; let b := s1.bkp; let l : Int := (b.nextBoundary : Int) + b.offset; (s.advance t).portUp = true ∧ b.pendSet = none ∧ b.pendDst = none ∧ b.dst = false ∧ l + 3600 ≤ calendarEnd) ∧
    (let s : State := { R with bkp := { R.bkp with dst := true, cyc := 32768 * 3599 } }; let t : Nat := 5000000; let s1 := s.advance t; let b := s1.bkp; let l : Int := (b.nextBoundary : Int) + b.offset; (s.advance t).portUp = true ∧ b.pendSet = none ∧ b.pendDst = none ∧ b.dst = true ∧ 3600 ≤ l) ∧
    (let s : State := { R with bkp := { R.bkp with dst := true } }; let t : Nat := 5000000; let s1 := s.advance t; let b := s1.bkp; (s.advance t).portUp = true ∧ b.pendSet = none ∧ b.pendDst = none ∧ b.dst = true) ∧
    (let s : State := R; let t : Nat := 5000000; let s1 := s.advance t; let b := s1.bkp; (s.advance t).portUp = true ∧ b.pendSet = none ∧ b.pendDst = none ∧ b.dst = false) ∧
    (let s : State := { R with bkp := { R.bkp with cyc := 32768 * (calendarEnd - 3600) } }; let t : Nat := 5000000; let s1 := s.advance t; let b := s1.bkp; let l : Int := (b.nextBoundary : Int) + b.offset; (s.advance t).portUp = true ∧ b.pendSet = none ∧ b.pendDst = none ∧ b.dst = false ∧ calendarEnd < l + 3600) ∧
    (let s : State := { R with bkp := { R.bkp with dst := true, zone := -4 } }; let t : Nat := 5000000; let s1 := s.advance t; let b := s1.bkp; let l : Int := (b.nextBoundary : Int) + b.offset; (s.advance t).portUp = true ∧ b.pendSet = none ∧ b.pendDst = none ∧ b.dst = true ∧ l < 3600) := by
  refine ⟨?_, ?_, ?_, ?_, ?_, ?_, ?_, ?_, ?_⟩ <;> decide +kernel

theorem test_wit_CalendarCommands_2 :
    (let s : State := { R with bkp := { R.bkp with pendSet := some { utc := 0, zone := 0, dst := false, due := 9 } } }; let t : Nat := 5000000; let s1 := s.advance t; let b := s1.bkp; (s.advance t).portUp = true ∧ b.pendSet.isSome = true) ∧
    (let s : State := R; let t : Nat := 5000000; let v := 65535; (s.advance t).portUp = true ∧ v < 65536) ∧
    (let s : State := R; let t : Nat := 5000000; let w := 0x80000001; (s.advance t).portUp = true ∧ w < 4294967296) := by
  refine ⟨?_, ?_, ?_⟩ <;> decide +kernel


theorem test_wit_CompletionOfARequest :
    (let s : State := R; let f : Flight := { fl 0x0101 0 with id := 239 }; let i := 255; s.host.rsp.wf = true ∧ f.id < 240 ∧ i < 256) ∧
    (let s : State := R; let f : Flight := fl 0x0101 0; s.host.rsp.wf = true ∧ f.id < 240) ∧
    (let s : State := R; let f : Flight := { fl 0x0101 0 with id := 256 }; s.host.rsp.wf = true ∧ 256 ≤ f.id) ∧
    (let s : State := R; let f : Flight := { fl 0x0101 0 with id := 240 }; s.host.rsp.wf = true ∧ 240 ≤ f.id) ∧
    (let s : State := R; let f : Flight := { fl 0x0101 0 with id := 256 }; s.host.rsp.wf = true ∧ 240 ≤ f.id) ∧
    (let s : State := R; let f : Flight := fl 0x0101 0; let a := 256; s.host.rsp.wf = true ∧ ((a < 256 * f.id ∨ 256 * f.id + 256 ≤ a))) ∧
    (let s : State := R; s.host.rsp.wf = true) := by
  refine ⟨?_, ?_, ?_, ?_, ?_, ?_, ?_⟩ <;> decide +kernel


theorem test_wit_RequestsAreTakenInOrder :
    (let s : State := ex R (fl 0x0101 0); s.host.cur.isSome = true) ∧
    (let s : State := R; s.host.cur = none ∧ s.host.queue = []) ∧
    (let s : State := { R with host := { R.host with queue := [fl 0x0101 0, fl 0x0101 0] } }; let f := fl 0x0101 0; let r := [fl 0x0101 0]; s.host.cur = none ∧ s.host.queue = f :: r ∧ (s.touchDraft f).check f = none) ∧
    (let s : State := { R with host := { R.host with queue := [fl 0x0999 0] } }; let f := fl 0x0999 0; let r := []; let x := (.badOpcode, 0, []); s.host.cur = none ∧ s.host.queue = f :: r ∧ (s.touchDraft f).check f = some x) := by
  refine ⟨?_, ?_, ?_, ?_⟩ <;> decide +kernel


theorem test_wit_DraftCommands :
    (let f : Flight := fl 0x0101 0; let s : State := ex (R) (f); let tag : Nat := 0; Executes s tag 0x0101 f) ∧
    (let f : Flight := fl 0x0201 0 [0,0,0,0]; let s : State := ex (R) (f); let tag : Nat := 0; Executes s tag 0x0201 f ∧ s.cfg.draft = none ∧ byteAt f.req 16 = 0) ∧
    (let f : Flight := fl 0x0201 0 [2,0,0,0]; let s : State := ex (R) (f); let tag : Nat := 0; Executes s tag 0x0201 f ∧ s.cfg.draft = none ∧ byteAt f.req 16 = 2) ∧
    (let f : Flight := fl 0x0201 0 [1,0,0,0]; let s : State := ex (R) (f); let tag : Nat := 0; Executes s tag 0x0201 f ∧ s.cfg.draft = none ∧ byteAt f.req 16 = 1) ∧
    (let f : Flight := fl 0x0201 0 [0,0,0,0]; let d := ({ owner := .host, baseEpoch := 0, lastUse := 0, img := [], top := 0 } : Draft); let s : State := ex ({ R with cfg := { R.cfg with draft := some d } }) (f); let tag : Nat := 0; Executes s tag 0x0201 f ∧ s.cfg.draft = some d) ∧
    (let f : Flight := fl 0x0204 0 [0,0,0,0]; let s : State := ex (R) (f); let t : Nat := 0; let tag : Nat := 0; let a := s.acting t; Executes s tag 0x0204 f ∧ ((byteAt f.req 16 = 1 ∨ a.nvm.running = none))) ∧
    (let f : Flight := fl 0x0204 0 [1,0,0,0]; let s : State := ex ({ R with nvm := { R.nvm with running := some ({ num := 1, kind := .flashRead } : NvmOp) } }) (f); let t : Nat := 0; let tag : Nat := 0; let a := s.acting t; Executes s tag 0x0204 f ∧ ((byteAt f.req 16 = 1 ∨ a.nvm.running = none))) ∧
    (let f : Flight := fl 0x0204 0 [0,0,0,0]; let o := ({ num := 1, kind := .flashRead } : NvmOp); let s : State := ex ({ R with nvm := { R.nvm with running := some o } }) (f); let tag : Nat := 0; Executes s tag 0x0204 f ∧ byteAt f.req 16 = 0 ∧ s.nvm.running = some o) ∧
    (let f : Flight := fl 0x0205 0 [0xFF,0xFF,1,0,7]; let d := ({ owner := .host, baseEpoch := 0, lastUse := 0, img := [], top := 0 } : Draft); let s : State := ex ({ R with cfg := { R.cfg with draft := some d } }) (f); let tag : Nat := 0; Executes s tag 0x0205 f ∧ s.cfg.draft = some d ∧ u32At f.req 16 + (f.payload.drop 4).length ≤ 131072) := by
  refine ⟨?_, ?_, ?_, ?_, ?_, ?_, ?_, ?_, ?_⟩ <;> decide +kernel

theorem test_wit_DraftCommands_2 :
    (let f : Flight := { fl 0x0205 0 [0,0,2,0,7] with req := ((fl 0x0205 0 [0,0,2,0,7]).req.set 4 255).set 5 255 }; f.opcode = 0x0205 ∧ f.cfgEpoch = 0xFFFF ∧ 131072 < u32At f.req 16 + (f.len - 4) ∧ (opDesc 0x0205).isSome = true) ∧
    (let f : Flight := fl 0x0206 0 [0,3,0,0]; let s : State := ex ({ R with pwr := { R.pwr with euUj := 1000000 } }) (f); let t : Nat := 0; let tag : Nat := 0; let a := s.acting t; Executes s tag 0x0206 f ∧ ((a.energyOk 25000 = true ∨ f.noWait = false))) ∧
    (let f : Flight := fl 0x0206 0 [1,3,0,0]; let s : State := ex (R) (f); let t : Nat := 0; let tag : Nat := 0; let a := s.acting t; Executes s tag 0x0206 f ∧ ((a.energyOk 25000 = true ∨ f.noWait = false))) ∧
    (let f : Flight := fl 0x0206 0 [0,3,0,0] 1; let s : State := ex (R) (f); let t : Nat := 0; let tag : Nat := 0; let a := s.acting t; Executes s tag 0x0206 f ∧ a.energyOk 25000 = false ∧ f.noWait = true) ∧
    (let f : Flight := fl 0x0203 0; let s : State := ex (R) (f); let tag : Nat := 0; Executes s tag 0x0203 f ∧ s.cfg.commit = none) ∧
    (let f : Flight := fl 0x0203 0; let c := ({ fl := fl 0x0202 0, phase := .energy 0 } : Commit); let s : State := ex ({ R with cfg := { R.cfg with commit := some c } }) (f); let tag : Nat := 0; Executes s tag 0x0203 f ∧ s.cfg.commit = some c ∧ c.phase = .energy 0) ∧
    (let f : Flight := fl 0x0203 0; let c := ({ fl := fl 0x0202 0, phase := .ready } : Commit); let s : State := ex ({ R with cfg := { R.cfg with commit := some c } }) (f); let tag : Nat := 0; (Executes s tag 0x0203 f) ∧ (s.cfg.commit = some c) ∧ (c.phase = .ready)) ∧
    (let d := ({ owner := .host, baseEpoch := 0, lastUse := 0, img := [], top := 0 } : Draft); let s : State := { R with cfg := { R.cfg with draft := some d } }; let t : Nat := 60000000000; s.cfg.draft = some d ∧ s.cfg.commit = none ∧ d.lastUse + 60000000000 ≤ (s.advance t).clk.now) ∧
    (let s : State := R; s.cfg.draft = none) := by
  refine ⟨?_, ?_, ?_, ?_, ?_, ?_, ?_, ?_, ?_⟩ <;> decide +kernel

theorem test_wit_DraftCommands_3 :
    (let d := ({ owner := .host, baseEpoch := 0, lastUse := 0, img := [], top := 0 } : Draft); let s : State := { R with cfg := { R.cfg with draft := some d } }; let t : Nat := 59999999999; s.cfg.draft = some d ∧ (s.advance t).clk.now < d.lastUse + 60000000000) := by decide +kernel


theorem test_wit_CommitProcedure :
    (let f : Flight := fl 0x0202 0; let d : Draft := ({ owner := .host, baseEpoch := 1, lastUse := 0, img := emptyImage, top := 64 } : Draft); let s : State := ex ({ R with cfg := { R.cfg with draft := some d } }) (f); let tag : Nat := 0; s.cfg.draft = some d ∧ Executes s tag 0x0202 f ∧ d.baseEpoch ≠ s.cfg.epoch) ∧
    (let f : Flight := fl 0x0202 0; let d : Draft := ({ owner := .host, baseEpoch := 0, lastUse := 0, img := [], top := 0 } : Draft); let s : State := ex ({ R with cfg := { R.cfg with draft := some d } }) (f); let t : Nat := 0; let tag : Nat := 0; let a := s.acting t; let x := ((s.acting t).draftRefusal d.img).getD (.ok, 0, []); s.cfg.draft = some d ∧ Executes s tag 0x0202 f ∧ d.baseEpoch = s.cfg.epoch ∧ a.draftRefusal d.img = some x) ∧
    (let f : Flight := fl 0x0202 0 [] 2; let d : Draft := ({ owner := .host, baseEpoch := 0, lastUse := 0, img := emptyImage, top := 64 } : Draft); let s : State := ex ({ R with cfg := { R.cfg with draft := some d } }) (f); let t : Nat := 0; let tag : Nat := 0; let a := s.acting t; s.cfg.draft = some d ∧ Executes s tag 0x0202 f ∧ d.baseEpoch = s.cfg.epoch ∧ a.draftRefusal d.img = none ∧ f.dryRun = true) ∧
    (let f : Flight := fl 0x0202 0; let d : Draft := ({ owner := .host, baseEpoch := 0, lastUse := 0, img := emptyImage, top := 64 } : Draft); let s : State := ex ({ R with cfg := { R.cfg with draft := some d } }) (f); let t : Nat := 0; let tag : Nat := 0; let a := s.acting t; s.cfg.draft = some d ∧ Executes s tag 0x0202 f ∧ d.baseEpoch = s.cfg.epoch ∧ a.draftRefusal d.img = none ∧ f.dryRun = false ∧ a.energyOk a.commitCost = false ∧ f.noWait = false) ∧
    (let f : Flight := fl 0x0202 0 [] 1; let d : Draft := ({ owner := .host, baseEpoch := 0, lastUse := 0, img := emptyImage, top := 64 } : Draft); let s : State := ex ({ R with cfg := { R.cfg with draft := some d } }) (f); let t : Nat := 0; let tag : Nat := 0; let a := s.acting t; s.cfg.draft = some d ∧ Executes s tag 0x0202 f ∧ d.baseEpoch = s.cfg.epoch ∧ a.draftRefusal d.img = none ∧ f.dryRun = false ∧ a.energyOk a.commitCost = false ∧ f.noWait = true) ∧
    (let f : Flight := fl 0x0202 0; let d : Draft := ({ owner := .host, baseEpoch := 0, lastUse := 0, img := emptyImage, top := 64 } : Draft); let s : State := ex ({ { R with cfg := { R.cfg with draft := some d } } with pwr := { R.pwr with euUj := 1000000 } }) (f); let t : Nat := 0; let tag : Nat := 0; let a := s.acting t; s.cfg.draft = some d ∧ Executes s tag 0x0202 f ∧ d.baseEpoch = s.cfg.epoch ∧ a.draftRefusal d.img = none ∧ f.dryRun = false ∧ a.energyOk a.commitCost = true) ∧
    (let d : Draft := ({ owner := .host, baseEpoch := 0, lastUse := 0, img := emptyImage, top := 64 } : Draft); let c := ({ fl := fl 0x0202 0, phase := .energy 0, img := [], roles := {}, epoch := 0 } : Commit); let s : State := { { R with cfg := { R.cfg with draft := some d, commit := some c } } with pwr := { R.pwr with euUj := 1000000 } }; let t : Nat := 0; let x := 0; s.cfg.draft = some d ∧ s.cfg.commit = some c ∧ c.phase = .energy x ∧ (s.advance t).energyOk (s.advance t).commitCost = true) := by
  refine ⟨?_, ?_, ?_, ?_, ?_, ?_, ?_⟩ <;> decide +kernel


theorem test_wit_CommitCompletes :
    (let c : Commit := ({ fl := fl 0x0202 0, phase := .churn 1, epoch := 1 } : Commit); let o := ({ num := 1, kind := .commitChurn } : NvmOp); let s : State := { { R with cfg := { R.cfg with commit := some c, churn := some (c.img, c.roles) } } with nvm := { R.nvm with running := some o } }; s.cfg.commit = some c ∧ s.nvm.running = some o ∧ o.kind = .commitChurn ∧ c.phase = .churn o.num ∧ s.cfg.churn = some (c.img, c.roles) ∧ s.sec.erasure = none ∧ s.rst.clockLoss = none ∧ s.host.waits = []) ∧
    (let c : Commit := ({ fl := fl 0x0202 0, phase := .churn 1, epoch := 1 } : Commit); let o := ({ num := 1, kind := .commitChurn } : NvmOp); let s : State := { { R with cfg := { R.cfg with commit := some c, churn := some (c.img, c.roles) } } with nvm := { R.nvm with running := some o } }; s.cfg.commit = some c ∧ s.nvm.running = some o ∧ o.kind = .commitChurn ∧ s.sec.erasure = none ∧ s.rst.clockLoss = none ∧ s.host.waits = []) ∧
    (let c : Commit := ({ fl := fl 0x0202 0, phase := .ready, epoch := 1 } : Commit); let s : State := { { R with cfg := { R.cfg with commit := some c } } with frame := { R.frame with running := true,  nextTick := 1000000, open_ := true } }; let t : Nat := 1000000; let a := s.advance t; s.cfg.commit = some c ∧ a.tickDue = true ∧ c.phase = .ready ∧ a.commonTick (sysByte c.img 0 1) = true) ∧
    (let c : Commit := ({ fl := fl 0x0202 0, phase := .ready, epoch := 1 } : Commit); let s : State := { { R with cfg := { R.cfg with commit := some c } } with frame := { R.frame with running := true, profile := 2, nextTick := 1000000, open_ := true } }; let t : Nat := 1000000; let a := s.advance t; s.cfg.commit = some c ∧ a.tickDue = true ∧ c.phase = .ready ∧ a.commonTick (sysByte c.img 0 1) = true ∧ sysByte c.img 0 1 ≠ s.frame.profile) ∧
    (let c : Commit := ({ fl := fl 0x0202 0, phase := .ready, epoch := 1 } : Commit); let s : State := { R with cfg := { R.cfg with commit := some c } }; s.cfg.commit = some c ∧ s.nvm.running = none) ∧
    (let c : Commit := ({ fl := fl 0x0202 0, phase := .ready, epoch := 1 } : Commit); let o := ({ num := 1, kind := .commitChurn } : NvmOp); let s : State := { { R with cfg := { R.cfg with commit := some c } } with nvm := { R.nvm with running := some o } }; s.cfg.commit = some c ∧ s.nvm.running = some o) ∧
    (let c : Commit := ({ fl := fl 0x0202 0, phase := .energy 0, img := [], roles := {}, epoch := 0 } : Commit); let s : State := { R with cfg := { R.cfg with commit := some c } }; let t : Nat := 5000000000; let a := s.advance t; let x := 0; s.cfg.commit = some c ∧ c.phase = .energy x ∧ x + 5000000000 ≤ a.clk.now ∧ a.energyOk a.commitCost = false ∧ s.host.waits = [] ∧ s.nvm.waiting = []) := by
  refine ⟨?_, ?_, ?_, ?_, ?_, ?_, ?_⟩ <;> decide +kernel


theorem test_wit_EntryOpcodes :
    (let x := ((.ioAoSet, 0x0E02, 0x81, Flight.unit, 0) : (Nat → Nat → Instr) × Nat × Nat × (Flight → Nat) × Nat); let f : Flight := fl 0x0E02 0 (List.replicate 16 0); let d : Draft := ({ owner := .host, baseEpoch := 0, lastUse := 0, img := emptyImage, top := 64 } : Draft); let s : State := ex ({ R with cfg := { R.cfg with draft := some d } }) (f); let tag : Nat := 0; let m := (match setEntry d.img 0x81 0 (zeros 16) (offEntry 0x81) with | .done m => m | _ => []); x ∈ setRows ∧ Executes s tag x.2.1 f ∧ s.cfg.draft = some d ∧ setEntry d.img x.2.2.1 (x.2.2.2.1 f) (f.payload.drop x.2.2.2.2) (offEntry x.2.2.1) = .done m) ∧
    (let x := ((.ioAoSet, 0x0E02, 0x81, Flight.unit, 0) : (Nat → Nat → Instr) × Nat × Nat × (Flight → Nat) × Nat); let f : Flight := fl 0x0E02 0 (List.replicate 16 0); let d : Draft := ({ owner := .host, baseEpoch := 0, lastUse := 0, img := im [(0x81, 9, 64, [])], top := 0 } : Draft); let s : State := ex ({ R with cfg := { R.cfg with draft := some d } }) (f); let tag : Nat := 0; let e := (match setEntry d.img 0x81 0 (zeros 16) (offEntry 0x81) with | .fault e => e | _ => ⟨9, 9, 9⟩); x ∈ setRows ∧ Executes s tag x.2.1 f ∧ s.cfg.draft = some d ∧ setEntry d.img x.2.2.1 (x.2.2.2.1 f) (f.payload.drop x.2.2.2.2) (offEntry x.2.2.1) = .fault e) ∧
    (let f : Flight := fl 0x0B02 0 (List.replicate 4 1); let d : Draft := ({ owner := .host, baseEpoch := 0, lastUse := 0, img := emptyImage, top := 64 } : Draft); let s : State := ex ({ R with cfg := { R.cfg with draft := some d } }) (f); let tag : Nat := 0; let m : Mem := (match setKeyed d.img 0x61 (fun a => decide (d.img.u8 a = byteAt f.req 16) && decide (d.img.u8 (a + 1) = byteAt f.req 17)) f.payload with | .done m => m | _ => []); Executes s tag 0x0B02 f ∧ s.cfg.draft = some d ∧ setKeyed d.img 0x61 (fun a => decide (d.img.u8 a = byteAt f.req 16) && decide (d.img.u8 (a + 1) = byteAt f.req 17)) f.payload = .done m) ∧
    (let x := ((.chanGet, 0x0303, 0x10, Flight.unit) : (Nat → Nat → Instr) × Nat × Nat × (Flight → Nat)); let f : Flight := fl 0x0303 63 [0,0,0,0]; let s : State := ex (R) (f); let tag : Nat := 0; x ∈ getRows ∧ Executes s tag x.2.1 f) ∧
    (let f : Flight := fl 0x0E03 0 [0,1,7,0]; let s : State := ex (R) (f); let tag : Nat := 0; Executes s tag 0x0E03 f ∧ ((byteAt f.req 17 = 1 → byteAt f.req 18 ≤ 7))) ∧
    (let f : Flight := fl 0x0E03 0 [0,0,15,0]; let s : State := ex (R) (f); let tag : Nat := 0; Executes s tag 0x0E03 f ∧ ((byteAt f.req 17 = 1 → byteAt f.req 18 ≤ 7))) := by
  refine ⟨(⟨List.mem_of_getElem? (i := 13) rfl, by decide +kernel⟩), (⟨List.mem_of_getElem? (i := 13) rfl, by decide +kernel⟩), ?_, (⟨List.mem_cons_self, by decide +kernel⟩), ?_, ?_⟩ <;> decide +kernel


theorem test_wit_LogReading :
    (let f : Flight := fl 0x0901 0 [7, 0, 0, 0, 3, 0, 0, 0]; let s : State := ex (R) (f); let tag : Nat := 0; let n := u32At f.req 16; Executes s tag 0x0901 f ∧ s.nvm.running = none ∧ n ≠ 0 ∧ 0 ≤ seqDiff n s.log.next) ∧
    (let f : Flight := fl 0x0901 0 [5, 0, 0, 0, 3, 0, 0, 0]; let r := ({ seq := 5, sev := 3 } : Rec); let s : State := ex ({ R with log := { R.log with slots := [(0, r)], next := 6 } }) (f); let tag : Nat := 0; let n := u32At f.req 16; let rs := ([] : List Rec); Executes s tag 0x0901 f ∧ s.nvm.running = none ∧ n ≠ 0 ∧ seqDiff n s.log.next < 0 ∧ s.log.from_ n (byteAt f.req 20) = r :: rs ∧ r.seq = n) ∧
    (let f : Flight := fl 0x0901 0 [4, 0, 0, 0, 3, 0, 0, 0]; let r := ({ seq := 5, sev := 3 } : Rec); let s : State := ex ({ R with log := { R.log with slots := [(0, r)], next := 6 } }) (f); let tag : Nat := 0; let n := u32At f.req 16; let rs := ([] : List Rec); Executes s tag 0x0901 f ∧ s.nvm.running = none ∧ n ≠ 0 ∧ seqDiff n s.log.next < 0 ∧ s.log.from_ n (byteAt f.req 20) = r :: rs ∧ r.seq ≠ n) ∧
    (let f : Flight := fl 0x0901 0 [7, 0, 0, 0, 3, 0, 0, 0]; let o := ({ num := 1, kind := .flashRead } : NvmOp); let s : State := ex ({ R with nvm := { R.nvm with running := some o } }) (f); let tag : Nat := 0; Executes s tag 0x0901 f ∧ s.nvm.running = some o) ∧
    (let f : Flight := fl 0x0902 0 [0, 3, 0, 0]; let s : State := ex (R) (f); let tag : Nat := 0; Executes s tag 0x0902 f) := by
  refine ⟨?_, ?_, ?_, ?_, ?_⟩ <;> decide +kernel


theorem test_wit_LogNotesAndClear :
    (let f : Flight := fl 0x0903 0 [3, 0, 0, 0, 7, 0, 0, 0, 9, 0, 0, 0]; let s : State := ex (R) (f); let t : Nat := 0; let r := ({ ts := (s.acting t).evTs, code := 0x0904, sev := byteAt f.req 16, kind := 0, idx := f.origin.code, role := 0xFFFF, p1 := u32At f.req 20, p2 := u32At f.req 24, flags := if tsUs (s.acting t).evTs + 1000000 < (s.acting t).clk.base / 1000 then 2 else 0 } : Rec); let tag : Nat := 0; let a := s.acting t; let note : Rec := { ts := a.evTs, code := 0x0904, sev := byteAt f.req 16, kind := 0, idx := f.origin.code, role := 0xFFFF, p1 := u32At f.req 20, p2 := u32At f.req 24, flags := if tsUs a.evTs + 1000000 < a.clk.base / 1000 then 2 else 0 }; let l := (s.log.record r (s.acting t).clk.now (s.acting t).dropFrom).1; Executes s tag 0x0903 f ∧ s.log.record note a.clk.now a.dropFrom = (l, true)) ∧
    (let f : Flight := fl 0x0903 0 [0, 0, 0, 0, 7, 0, 0, 0, 9, 0, 0, 0]; let s : State := ex ({ R with log := { R.log with pailA := List.replicate 64 { sev := 7 }, pailB := List.replicate 64 { sev := 7 } } }) (f); let t : Nat := 0; let tag : Nat := 0; let a := s.acting t; let note : Rec := { ts := a.evTs, code := 0x0904, sev := byteAt f.req 16, kind := 0, idx := f.origin.code, role := 0xFFFF, p1 := u32At f.req 20, p2 := u32At f.req 24, flags := if tsUs a.evTs + 1000000 < a.clk.base / 1000 then 2 else 0 }; let l := (s.log.record ({ ts := (s.acting t).evTs, code := 0x0904, sev := byteAt f.req 16, kind := 0, idx := f.origin.code, role := 0xFFFF, p1 := u32At f.req 20, p2 := u32At f.req 24, flags := if tsUs (s.acting t).evTs + 1000000 < (s.acting t).clk.base / 1000 then 2 else 0 } : Rec) (s.acting t).clk.now (s.acting t).dropFrom).1; Executes s tag 0x0903 f ∧ s.log.record note a.clk.now a.dropFrom = (l, false)) ∧
    (let f : Flight := fl 0x0904 0 [0, 0, 0, 0]; let s : State := ex ({ R with pwr := { R.pwr with euUj := 900000 } }) (f); let t : Nat := 0; let tag : Nat := 0; let a := s.acting t; Executes s tag 0x0904 f ∧ s.clearing = false ∧ a.energyOk 80000 = true) ∧
    (let f : Flight := fl 0x0904 0 [1, 0, 0, 0]; let s : State := ex ({ { R with log := { R.log with pailB := [({ seq := 5, sev := 3 } : Rec)], churning := true, activeB := false, next := 9 } } with pwr := { R.pwr with euUj := 900000 } }) (f); let t : Nat := 0; let tag : Nat := 0; let a := s.acting t; Executes s tag 0x0904 f ∧ s.clearing = false ∧ a.energyOk 80000 = true) ∧
    (let f : Flight := fl 0x0904 0 [0, 0, 0, 0]; let s : State := ex (R) (f); let t : Nat := 0; let tag : Nat := 0; let a := s.acting t; Executes s tag 0x0904 f ∧ s.clearing = false ∧ a.energyOk 80000 = false ∧ f.noWait = false) ∧
    (let f : Flight := fl 0x0904 0 [0, 0, 0, 0] 1; let s : State := ex (R) (f); let t : Nat := 0; let tag : Nat := 0; let a := s.acting t; Executes s tag 0x0904 f ∧ s.clearing = false ∧ a.energyOk 80000 = false ∧ f.noWait = true) ∧
    (let f : Flight := fl 0x0904 0 [0, 0, 0, 0]; let s : State := ex ({ R with log := { R.log with clear := some (1, 0, 0, 0) } }) (f); let tag : Nat := 0; Executes s tag 0x0904 f ∧ s.clearing = true) ∧
    (let o := ({ num := 1, kind := .clearSegment } : NvmOp); let limit := 9; let opts := 0; let erased := 0; let k := 0; let s : State := { R with nvm := { R.nvm with running := some o }, log := { R.log with clear := some (limit, opts, erased, k), slots := [(0, ({ seq := 5, sev := 3 } : Rec)), (512, ({ seq := 5, sev := 3 } : Rec))] } }; s.nvm.running = some o ∧ o.kind = .clearSegment ∧ s.log.clear = some (limit, opts, erased, k) ∧ s.rst.clockLoss = none ∧ s.sec.erasure = none ∧ ((∀ w ∈ s.host.waits, w.kind ≠ .nvm o.num)) ∧ k < 95) ∧
    (let o := ({ num := 1, kind := .clearSegment } : NvmOp); let limit := 9; let opts := 0; let erased := 0; let k := 94; let s : State := { R with nvm := { R.nvm with running := some o }, log := { R.log with clear := some (limit, opts, erased, k), slots := [(0, ({ seq := 5, sev := 3 } : Rec)), (512, ({ seq := 5, sev := 3 } : Rec))] } }; s.nvm.running = some o ∧ o.kind = .clearSegment ∧ s.log.clear = some (limit, opts, erased, k) ∧ s.rst.clockLoss = none ∧ s.sec.erasure = none ∧ ((∀ w ∈ s.host.waits, w.kind ≠ .nvm o.num)) ∧ k < 95) := by
  refine ⟨?_, ?_, ?_, ?_, ?_, ?_, ?_, ?_, ?_⟩ <;> decide +kernel

theorem test_wit_LogNotesAndClear_2 :
    (let o := ({ num := 1, kind := .clearSegment } : NvmOp); let limit := 9; let opts := 0; let erased := 3; let k := 95; let s : State := { R with nvm := { R.nvm with running := some o }, log := { R.log with clear := some (limit, opts, erased, k), slots := [(0, ({ seq := 5, sev := 3 } : Rec)), (512, ({ seq := 5, sev := 3 } : Rec))] } }; s.nvm.running = some o ∧ o.kind = .clearSegment ∧ s.log.clear = some (limit, opts, erased, k) ∧ s.rst.clockLoss = none ∧ s.sec.erasure = none ∧ ((∀ w ∈ s.host.waits, w.kind ≠ .nvm o.num)) ∧ 95 ≤ k) ∧
    (let o := ({ num := 1, kind := .clearSegment } : NvmOp); let limit := 9; let opts := 1; let erased := 3; let k := 95; let s : State := { R with nvm := { R.nvm with running := some o }, log := { R.log with clear := some (limit, opts, erased, k), slots := [(0, ({ seq := 5, sev := 3 } : Rec)), (512, ({ seq := 5, sev := 3 } : Rec))] } }; s.nvm.running = some o ∧ o.kind = .clearSegment ∧ s.log.clear = some (limit, opts, erased, k) ∧ s.rst.clockLoss = none ∧ s.sec.erasure = none ∧ ((∀ w ∈ s.host.waits, w.kind ≠ .nvm o.num)) ∧ 95 ≤ k) ∧
    (let s : State := R; (∀ o ∈ s.nvm.running.toList, o.kind ≠ .clearSegment ∧ o.kind ≠ .eraseFirst ∧ o.kind ≠ .eraseSegment)) ∧
    (let s : State := { R with nvm := { R.nvm with running := some ({ num := 1, kind := .flashRead } : NvmOp) } }; (∀ o ∈ s.nvm.running.toList, o.kind ≠ .clearSegment ∧ o.kind ≠ .eraseFirst ∧ o.kind ≠ .eraseSegment)) := by
  refine ⟨?_, ?_, ?_, ?_⟩ <;> decide +kernel


theorem test_wit_LogTimersAndChurns :
    (let r := ({ seq := 5, sev := 3 } : Rec); let s : State := { R with log := { R.log with pailA := [r], activeB := false } }; let t : Nat := 1000000000; let a := s.advance t; r ∈ s.log.active ∧ s.log.closed = false ∧ r.entered + 1000000000 ≤ a.clk.now ∧ s.log.other = [] ∧ s.log.churning = false) ∧
    (let r := ({ seq := 5, sev := 3 } : Rec); let s : State := { R with log := { R.log with pailA := [r], pailB := [r] } }; let t : Nat := 1000000000; let a := s.advance t; r ∈ s.log.active ∧ s.log.closed = false ∧ r.entered + 1000000000 ≤ a.clk.now ∧ ((s.log.other ≠ [] ∨ s.log.churning = true))) ∧
    (let r := ({ seq := 5, sev := 3 } : Rec); let s : State := { R with log := { R.log with pailA := [r], churning := true } }; let t : Nat := 1000000000; let a := s.advance t; r ∈ s.log.active ∧ s.log.closed = false ∧ r.entered + 1000000000 ≤ a.clk.now ∧ ((s.log.other ≠ [] ∨ s.log.churning = true))) ∧
    (let r := ({ seq := 5, sev := 3 } : Rec); let s : State := { R with log := { R.log with pailA := [r], activeB := false } }; let t : Nat := 999999999; let a := s.advance t; ((s.log.closed = true ∨ ∀ r ∈ s.log.active, a.clk.now < r.entered + 1000000000))) ∧
    (let c := [0, 0, 0, 0, 1, 2, 3, 4]; let e := 1000000000; let s : State := { R with log := { R.log with minute := some (c, e) } }; let t : Nat := 1000000000; let a := s.advance t; s.log.minute = some (c, e) ∧ e ≤ a.clk.flow ∧ ((s.frame.running = false ∨ a.clk.now = s.frame.captNow ∨ s.frame.nextTick ≤ a.clk.now))) ∧
    (let c := [300]; let e := 1000000000; let s : State := { R with log := { R.log with minute := some (c, e) }, frame := { R.frame with running := true, nextTick := 1000000000 } }; let t : Nat := 1000000000; let a := s.advance t; s.log.minute = some (c, e) ∧ e ≤ a.clk.flow ∧ ((s.frame.running = false ∨ a.clk.now = s.frame.captNow ∨ s.frame.nextTick ≤ a.clk.now))) ∧
    (let s : State := { R with frame := { R.frame with running := true, nextTick := 1000000001 } }; let t : Nat := 1000000000; let a := s.advance t; s.frame.running = true ∧ a.clk.now ≠ s.frame.captNow ∧ a.clk.now < s.frame.nextTick) ∧
    (let s : State := { R with log := { R.log with minute := some ([], 1000000001) } }; let t : Nat := 1000000000; let a := s.advance t; ((∀ x ∈ s.log.minute, a.clk.flow < x.2))) ∧
    (let s : State := R; let t : Nat := 1000000000; let a := s.advance t; ((∀ x ∈ s.log.minute, a.clk.flow < x.2))) := by
  refine ⟨?_, ?_, ?_, ?_, ?_, ?_, ?_, ?_, ?_⟩ <;> decide +kernel

theorem test_wit_LogTimersAndChurns_2 :
    (let r := ({ seq := 5, sev := 3 } : Rec); let s : State := { R with log := { R.log with pailB := [r], queued := true }, nvm := { R.nvm with nextNum := 7 }, pwr := { R.pwr with euUj := 900000 } }; let t : Nat := 1000000000; (s.rst.clockLoss = none) ∧ (s.advance t).logChurnReady = true ∧ s.nvm.running = none ∧ (∀ o ∈ s.nvm.waiting, 4 < o.kind.rank ∧ o.started = false)) ∧
    (let r := ({ seq := 5, sev := 3 } : Rec); let s : State := { R with log := { R.log with pailB := [r], queued := true }, nvm := { R.nvm with nextNum := 7, waiting := [({ num := 1, kind := .storeImage 3 } : NvmOp)] }, pwr := { R.pwr with euUj := 900000 } }; let t : Nat := 1000000000; (s.rst.clockLoss = none) ∧ (s.advance t).logChurnReady = true ∧ s.nvm.running = none ∧ (∀ o ∈ s.nvm.waiting, 4 < o.kind.rank ∧ o.started = false)) ∧
    (let r := ({ seq := 5, sev := 3 } : Rec); let s : State := { R with log := { R.log with pailB := [r], queued := true, urgent := true }, nvm := { R.nvm with nextNum := 7, running := some ({ num := 1, kind := .storeImage 3 } : NvmOp) }, pwr := { R.pwr with euUj := 900000 } }; let t : Nat := 1000000000; (s.rst.clockLoss = none) ∧ (s.advance t).logChurnReady = true ∧ s.log.urgent = true ∧ s.nvm.running.map (fun o => o.kind.rank) = some 6) ∧
    (let r := ({ num := 1, kind := .storeImage 3 } : NvmOp); let s : State := { R with log := { R.log with pailB := [({ seq := 5, sev := 3 } : Rec)], queued := true }, nvm := { R.nvm with nextNum := 7, running := some r }, pwr := { R.pwr with euUj := 900000 } }; let t : Nat := 1000000000; let a := s.advance t; s.rst.clockLoss = none ∧ a.logChurnReady = true ∧ s.nvm.running = some r ∧ ((r.kind.rank ≠ 6 ∨ s.log.urgent = false))) ∧
    (let r := ({ num := 1, kind := .calChurn } : NvmOp); let s : State := { R with log := { R.log with pailB := [({ seq := 5, sev := 3 } : Rec)], queued := true, urgent := true }, nvm := { R.nvm with nextNum := 7, running := some r }, pwr := { R.pwr with euUj := 900000 } }; let t : Nat := 1000000000; let a := s.advance t; s.rst.clockLoss = none ∧ a.logChurnReady = true ∧ s.nvm.running = some r ∧ ((r.kind.rank ≠ 6 ∨ s.log.urgent = false))) ∧
    (let r := ({ seq := 5, sev := 3 } : Rec); let s : State := { R with log := { R.log with pailB := [r], queued := true } }; let t : Nat := 1000000000; let a := s.advance t; s.rst.clockLoss = none ∧ s.log.closed = false ∧ a.logChurnReady = false ∧ ((s.nvm.running.isSome = true ∨ s.nvm.waiting = []))) ∧
    (let r := ({ seq := 5, sev := 3 } : Rec); let s : State := { R with log := { R.log with pailB := [r], queued := true }, nvm := { R.nvm with running := some ({ num := 1, kind := .storeImage 3 } : NvmOp) } }; let t : Nat := 1000000000; let a := s.advance t; s.rst.clockLoss = none ∧ s.log.closed = false ∧ a.logChurnReady = false ∧ ((s.nvm.running.isSome = true ∨ s.nvm.waiting = []))) ∧
    (let s : State := { R with rst := { R.rst with clockLoss := some 3 } }; ((s.rst.clockLoss.isSome = true ∨ s.log.closed = true ∧ s.sec.erasure = none))) ∧
    (let s : State := { R with log := { R.log with closed := true } }; ((s.rst.clockLoss.isSome = true ∨ s.log.closed = true ∧ s.sec.erasure = none))) := by
  refine ⟨?_, ?_, ?_, ?_, ?_, ?_, ?_, ?_, ?_⟩ <;> decide +kernel

theorem test_wit_LogTimersAndChurns_3 :
    (let r := ({ seq := 5, sev := 3 } : Rec); let o := ({ num := 1, kind := .logChurn } : NvmOp); let s : State := { R with nvm := { R.nvm with running := some o }, log := { R.log with churning := true, clear := some (9, 0, 0, 1), plan := [(0, r)], pailB := [r] } }; s.nvm.running = some o ∧ o.kind = .logChurn ∧ s.rst.clockLoss = none ∧ s.log.churning = true ∧ s.sec.erasure = none ∧ ((∀ w ∈ s.host.waits, w.kind ≠ .nvm o.num))) ∧
    (let s : State := R; (∀ o ∈ s.nvm.running.toList, o.kind ≠ .logChurn)) ∧
    (let s : State := { R with nvm := { R.nvm with running := some ({ num := 1, kind := .flashRead } : NvmOp) } }; (∀ o ∈ s.nvm.running.toList, o.kind ≠ .logChurn)) := by
  refine ⟨?_, ?_, ?_⟩ <;> decide +kernel


theorem test_wit_FlushedResets :
    (let s : State := R; let t : Nat := 7; let x := ((.resetN t, 0x202) : Instr × Nat); x ∈ ([(.resetN t, 0x202), (.internalWatchdog t, 0x204), (.lockstepMismatch t, 0x205), (.clockLoss t, 0x304)] : List (Instr × Nat)) ∧ (s.advance t).running = true ∧ s.rst.low = false ∧ (x.2 = 0x304 → ∀ o ∈ s.nvm.running.toList, o.kind.rank = 6)) ∧
    (let s : State := R; let t : Nat := 7; let x := ((.clockLoss t, 0x304) : Instr × Nat); x ∈ ([(.resetN t, 0x202), (.internalWatchdog t, 0x204), (.lockstepMismatch t, 0x205), (.clockLoss t, 0x304)] : List (Instr × Nat)) ∧ (s.advance t).running = true ∧ s.rst.low = false ∧ (x.2 = 0x304 → ∀ o ∈ s.nvm.running.toList, o.kind.rank = 6)) ∧
    (let s : State := { R with pwr := { R.pwr with state := .off } }; let t : Nat := 7; let a := s.advance t; let i := (.clockLoss t : Instr); i ∈ ([.internalWatchdog t, .lockstepMismatch t, .clockLoss t] : List Instr) ∧ a.running = false) ∧
    (let s : State := { R with pwr := { R.pwr with state := .holdup } }; let t : Nat := 7; let a := s.advance t; let i := (.internalWatchdog t : Instr); i ∈ ([.internalWatchdog t, .lockstepMismatch t, .clockLoss t] : List Instr) ∧ a.running = false) ∧
    (let s : State := { R with pwr := { R.pwr with state := .off } }; let t : Nat := 7; let a := s.advance t; a.running = false ∧ s.pwr.state ≠ .holdup) ∧
    (let s : State := { R with rst := { R.rst with held := true } }; let t : Nat := 7; let a := s.advance t; a.running = false ∧ s.pwr.state ≠ .holdup) ∧
    (let s : State := R; let t : Nat := 7; let a := s.advance t; a.running = true) ∧
    (let s : State := { R with log := { R.log with pailB := [({ seq := 5, sev := 3 } : Rec)] } }; let t : Nat := 7; let a := s.advance t; a.running = true) ∧
    (let s : State := { R with pwr := { R.pwr with state := .holdup, holdup := .running } }; s.pwr.state = .holdup) := by
  refine ⟨?_, ?_, ?_, ?_, ?_, ?_, ?_, ?_, ?_⟩ <;> decide +kernel

theorem test_wit_FlushedResets_2 :
    (let s : State := { R with pwr := { R.pwr with state := .holdup, holdup := .shed, vshipOn := false }, log := { R.log with pailB := [({ seq := 5, sev := 3 } : Rec)] } }; s.pwr.state = .holdup) ∧
    (let o := ({ num := 1, kind := .commitChurn } : NvmOp); let s : State := { R with nvm := { R.nvm with running := some o } }; let t : Nat := 7; let a := s.advance t; a.running = true ∧ s.nvm.running = some o ∧ o.kind.rank ≠ 6) ∧
    (let o := ({ num := 1, kind := .flashRead } : NvmOp); let c := 3; let s : State := { R with nvm := { R.nvm with running := some o }, rst := { R.rst with clockLoss := some c } }; s.rst.clockLoss = some c ∧ s.nvm.running = some o) ∧
    (let s : State := { R with rst := { R.rst with low := true, held := true } }; s.rst.low = true) ∧
    (let s : State := { R with rst := { R.rst with low := true, held := true } }; s.rst.held = true) ∧
    (let s : State := { R with rst := { R.rst with low := true } }; s.rst.held = false) ∧
    (let f := fl 0x0104 0 [0x52, 0x53, 0x45, 0x54]; let s : State := ex (cf [(0x50, 16, 5, [(1, 3)])] ({ R with bus := { R.bus with ctl := R.bus.ctl.set 0 { state := .errorActive } } })) (f); let t : Nat := 7; let tag := 0; let w := (((s.acting t).ok f []).sendGoingDown 2).driveCell true; let v : State := { w with rst := { w.rst with dueAt := some w.clk.now } }; Executes s tag 0x0104 f ∧ u32At f.req 16 = 0x54455352 ∧ v.resetReady = false) ∧
    (let f := fl 0x0104 0 [0x52, 0x53, 0x45, 0x54]; let s : State := ex (R) (f); let t : Nat := 7; let tag := 0; let w := (((s.acting t).ok f []).sendGoingDown 2).driveCell true; let v : State := { w with rst := { w.rst with dueAt := some w.clk.now } }; Executes s tag 0x0104 f ∧ u32At f.req 16 = 0x54455352 ∧ v.resetReady = true) ∧
    (let d := 0; let s : State := { R with rst := { R.rst with dueAt := some d } }; s.rst.dueAt = some d ∧ s.cellIdle = true ∧ ((d + 20000000 ≤ s.clk.now ∨ s.goingPending = false))) := by
  refine ⟨?_, ?_, ?_, ?_, ?_, ?_, ?_, ?_, ?_⟩ <;> decide +kernel

theorem test_wit_FlushedResets_3 :
    (let d := 0; let s : State := { R with rst := { R.rst with dueAt := some d }, clk := { R.clk with now := 20000000 }, frame := { R.frame with running := true }, bus := { R.bus with ctl := R.bus.ctl.set 0 { state := .errorActive, proto := [{ ext := true, id := 1, data := [], role := .goingDown }] } } }; s.rst.dueAt = some d ∧ s.cellIdle = true ∧ ((d + 20000000 ≤ s.clk.now ∨ s.goingPending = false))) ∧
    (let s : State := { R with rst := { R.rst with dueAt := some 0 }, frame := { R.frame with running := true, nextTick := 1000000 } }; s.frame.running = true ∧ (s.advance s.frame.nextTick).resetReady = true) ∧
    (let f := fl 0x0104 0 [0, 0, 0, 0]; let s : State := ex (R) (f); let tag := 0; Executes s tag 0x0104 f ∧ u32At f.req 16 ≠ 0x54455352) := by
  refine ⟨?_, ?_, ?_⟩ <;> decide +kernel


theorem test_wit_PowerFailSequence :
    (let s : State := { R with pwr := { R.pwr with dip := true, state := .armed } }; let t : Nat := 7; let a := s.advance t; s.pwr.dip = true ∧ a.running = true) ∧
    (let s : State := { R with pwr := { R.pwr with dip := true }, rst := { R.rst with held := true } }; s.pwr.dip = true ∧ s.rst.held = true) ∧
    (let s : State := R; s.pwr.dip = false) ∧
    (let s : State := { R with pwr := { R.pwr with state := .holdup, holdup := .running } }; s.pwr.state = .holdup ∧ s.pwr.holdup = .running ∧ s.banks.length = 8) ∧
    (let s : State := { R with pwr := { R.pwr with state := .holdup, vshipOn := false } }; s.pwr.state = .holdup ∧ s.pwr.vshipOn = false) ∧
    (let s : State := { R with pwr := { R.pwr with state := .holdup } }; s.pwr.state = .holdup ∧ s.pwr.vshipOn = true) ∧
    (let s : State := { R with pwr := { R.pwr with state := .holdup }, rst := { R.rst with low := true } }; s.pwr.state = .holdup ∧ s.pwr.vshipOn = true) ∧
    (let s : State := { R with pwr := { R.pwr with state := .backup } }; s.pwr.state = .backup) ∧
    (let s : State := { R with pwr := { R.pwr with state := .backup } }; ((s.pwr.state = .off ∨ s.pwr.state = .backup))) := by
  refine ⟨?_, ?_, ?_, ?_, ?_, ?_, ?_, ?_, ?_⟩ <;> decide +kernel

theorem test_wit_PowerFailSequence_2 :
    (let s : State := { R with pwr := { R.pwr with state := .off }, bkp := { R.bkp with down := false, restarted := false } }; ((s.pwr.state = .off ∨ s.pwr.state = .backup))) := by decide +kernel


theorem test_wit_StartUpStages :
    (let s : State := R; let t : Nat := 5; let a := s.advance t; let x := s.sec.dirPick; a.startsAt .rails = true ∧ (x.slot x.preferred).state = .valid ∧ x.bootCheck x.preferred = none) ∧
    (let s : State := { R with sec := { R.sec with dirOld := some { seq := 5, preferred := 0, slots := [(.valid, 0), (.empty, 0)] }, preferred := 1 } }; let t : Nat := 5; let a := s.advance t; let x := s.sec.dirPick; a.startsAt .rails = true ∧ (x.slot x.preferred).state = .valid ∧ x.bootCheck x.preferred = none) ∧
    (let s : State := { R with sec := { R.sec with slots := [{ state := .trial, factory := true }, {}], attempts := 2, giveBack := false }, rst := { R.rst with cause := 0x201 } }; let t : Nat := 5; let a := s.advance t; let x := s.sec.dirPick; a.startsAt .rails = true ∧ (x.slot x.preferred).state = .trial ∧ 0 < x.attempts ∧ x.bootCheck x.preferred = none) ∧
    (let s : State := { R with sec := { R.sec with slots := [{ state := .trial, factory := true }, {}], attempts := 1 }, rst := { R.rst with cause := 4 } }; let t : Nat := 5; let a := s.advance t; let x := s.sec.dirPick; a.startsAt .rails = true ∧ (x.slot x.preferred).state = .trial ∧ 0 < x.attempts ∧ x.bootCheck x.preferred = none) ∧
    (let s : State := { R with sec := { R.sec with slots := [{ state := .empty, factory := true }, {}] } }; let t : Nat := 5; (s.advance t).startsAt .rails = true ∧ (∀ n ∈ List.range 9, (s.sec.dirPick.slot n).state ≠ .valid ∧ (s.sec.dirPick.slot n).state ≠ .trial)) ∧
    (let s : State := { R with pwr := { R.pwr with stage := .booted } }; let t : Nat := 5; let a := s.advance t; a.startsAt .booted = true ∧ s.sec.erasure = none) ∧
    (let s : State := { R with pwr := { R.pwr with stage := .booted }, sec := { R.sec with giveBack := true, attempts := 1 } }; let t : Nat := 5; let a := s.advance t; a.startsAt .booted = true ∧ s.sec.erasure = none) ∧
    (let s : State := { R with pwr := { R.pwr with stage := .tested } }; let t : Nat := 5; let a := s.advance t; a.startsAt .tested = true ∧ s.sec.erasure = none) ∧
    (let s : State := { R with pwr := { R.pwr with stage := .tested }, cfg := { R.cfg with sel0 := { valid := true, epoch := 7, copy := 1 }, copy1 := [(3, 4)] } }; let t : Nat := 5; let a := s.advance t; a.startsAt .tested = true ∧ s.sec.erasure = none) := by
  refine ⟨?_, ?_, ?_, ?_, ?_, ?_, ?_, ?_, ?_⟩ <;> decide +kernel

theorem test_wit_StartUpStages_2 :
    (let s : State := { R with pwr := { R.pwr with state := .safe } }; let t : Nat := 5; let a := s.advance t; a.startsAt .rails = false ∧ a.startsAt .booted = false ∧ a.startsAt .tested = false) := by decide +kernel


theorem test_wit_NodeStates :
    (let f : Flight := fl 0x0102 0; let s : State := ex ({ R with pwr := { R.pwr with state := .armed } }) (f); let tag : Nat := 0; Executes s tag 0x0102 f ∧ s.pwr.state = .armed) ∧
    (let f : Flight := fl 0x0102 0; let s : State := ex ({ R with pwr := { R.pwr with state := .safe, euUj := 500000 } }) (f); let t : Nat := 10; let tag : Nat := 0; let a := s.acting t; Executes s tag 0x0102 f ∧ s.pwr.state ≠ .armed ∧ a.fullSession = false ∧ 16 ≤ s.frame.sinceSlip ∧ a.reserveUj ≤ s.pwr.euUj) ∧
    (let f : Flight := fl 0x0102 0; let s : State := ex ({ R with pwr := { R.pwr with state := .safe }, frame := { R.frame with sinceSlip := 15 } }) (f); let t : Nat := 10; let tag : Nat := 0; let a := s.acting t; Executes s tag 0x0102 f ∧ s.pwr.state ≠ .armed ∧ ((a.fullSession = true ∨ s.frame.sinceSlip < 16))) ∧
    (let f : Flight := fl 0x0103 0; let s : State := ex ({ R with pwr := { R.pwr with state := .safe } }) (f); let tag : Nat := 0; Executes s tag 0x0103 f ∧ s.pwr.state = .safe) ∧
    (let f : Flight := fl 0x0103 0; let s : State := ex (R) (f); let tag : Nat := 0; Executes s tag 0x0103 f ∧ s.pwr.state = .starting) ∧
    (let f : Flight := fl 0x0103 0; let s : State := ex ({ R with pwr := { R.pwr with state := .armed } }) (f); let tag : Nat := 0; Executes s tag 0x0103 f ∧ s.pwr.state = .armed) ∧
    (let c : LiveCmd := ({ kind := .nodeState true, origin := 0x40, fl := none } : LiveCmd); let s : State := { R with pwr := { R.pwr with state := .safe }, live := [c] }; s.live = [c] ∧ c.kind = .nodeState true ∧ c.applied = none ∧ s.pwr.state = .safe) ∧
    (let c : LiveCmd := ({ kind := .nodeState false, origin := 0x40, fl := none } : LiveCmd); let s : State := { R with pwr := { R.pwr with state := .armed }, live := [c] }; s.live = [c] ∧ c.kind = .nodeState false ∧ c.applied = none ∧ s.pwr.state = .armed) ∧
    (let f : Flight := fl 0x0A04 0 [5, 0, 0, 0]; let s : State := ex (R) (f); let tag : Nat := 0; Executes s tag 0x0A04 f) := by
  refine ⟨?_, ?_, ?_, ?_, ?_, ?_, ?_, ?_, ?_⟩ <;> decide +kernel

theorem test_wit_NodeStates_2 :
    (let x := 0; let s : State := { R with pwr := { R.pwr with state := .armed, armedSince := some x, dwell := 2 } }; let t : Nat := 2000000000; let b := s.advance t; s.pwr.armedSince = some x ∧ s.pwr.state = .armed ∧ s.pwr.dwell ≠ 0 ∧ x + s.pwr.dwell * 1000000000 ≤ b.clk.now) ∧
    (let s : State := { R with pwr := { R.pwr with state := .safe, standbyPend := true }, frame := { R.frame with running := true, nextTick := 1000000 } }; let t : Nat := 1000000; let b := s.advance t; s.frame.running = true ∧ s.frame.nextTick ≤ b.clk.now ∧ s.pwr.standbyPend = true ∧ s.banks.length = 8 ∧ s.sec.dbg.extest = false) ∧
    (let s : State := { R with pwr := { R.pwr with stage := .restored, euUj := 500000 }, frame := { R.frame with running := true, nextTick := 1000000, settled := true, pubRun := 15, open_ := true }, banks := List.replicate 8 { power := .up } }; let t : Nat := 1000000; let b := s.advance t; let run := 16; s.frame.running = true ∧ s.frame.nextTick ≤ b.clk.now ∧ run = (if b.published && s.frame.settled then s.frame.pubRun + 1 else s.frame.pubRun) ∧ ({ b with frame := { s.frame with pubRun := run } } : State).armingMet = true) ∧
    (let f : Flight := fl 0x0A05 0; let s : State := ex ({ R with pwr := { R.pwr with state := .standby } }) (f); let tag : Nat := 0; Executes s tag 0x0A05 f ∧ s.pwr.state = .standby) := by
  refine ⟨?_, ?_, ?_, ?_⟩ <;> decide +kernel


theorem test_wit_HostWatchdog :
    (let s : State := cf [(1, 32, 1, [(4, 100)])] ({ R with host := { R.host with wdog := { R.host.wdog with running := true } } }); let t : Nat := 50000000; let a := s.advance t; let w := s.host.wdog; let n := a.wdogMs; w.running = true ∧ w.warned = false ∧ n ≠ 0 ∧ 2 * w.lastKick + n * 1000000 ≤ 2 * a.clk.now) ∧
    (let s : State := cf [(1, 32, 1, [(4, 100)])] ({ R with host := { R.host with wdog := { R.host.wdog with running := true, warned := true } } }); let t : Nat := 100000000; let a := s.advance t; let w := s.host.wdog; let n := a.wdogMs; w.running = true ∧ n ≠ 0 ∧ w.lastKick + n * 1000000 ≤ a.clk.now) ∧
    (let s : State := R; let t : Nat := 100000000; let a := s.advance t; let w := s.host.wdog; let n := a.wdogMs; ((w.running = false ∨ n = 0 ∨ a.clk.now < w.lastKick + n * 1000000))) ∧
    (let s : State := cf [(1, 32, 1, [(4, 100)])] ({ R with host := { R.host with wdog := { R.host.wdog with running := true } } }); let t : Nat := 99999999; let a := s.advance t; let w := s.host.wdog; let n := a.wdogMs; ((w.running = false ∨ n = 0 ∨ a.clk.now < w.lastKick + n * 1000000))) ∧
    (let s : State := { R with host := { R.host with wdog := { R.host.wdog with running := true } } }; let t : Nat := 100000000; let a := s.advance t; let w := s.host.wdog; let n := a.wdogMs; ((w.running = false ∨ n = 0 ∨ a.clk.now < w.lastKick + n * 1000000))) ∧
    (let s : State := R; let t : Nat := 100000000; let a := s.advance t; let w := s.host.wdog; let n := a.wdogMs; ((w.running = false ∨ n = 0 ∨ w.warned = true))) ∧
    (let s : State := cf [(1, 32, 1, [(4, 100)])] ({ R with host := { R.host with wdog := { R.host.wdog with running := true, warned := true } } }); let t : Nat := 100000000; let a := s.advance t; let w := s.host.wdog; let n := a.wdogMs; ((w.running = false ∨ n = 0 ∨ w.warned = true))) ∧
    (let s : State := { R with host := { R.host with wdog := { R.host.wdog with running := true } } }; let t : Nat := 100000000; let a := s.advance t; let w := s.host.wdog; let n := a.wdogMs; ((w.running = false ∨ n = 0 ∨ w.warned = true))) := by
  refine ⟨?_, ?_, ?_, ?_, ?_, ?_, ?_, ?_⟩ <;> decide +kernel


theorem test_wit_TimeOpcodes :
    (let f : Flight := fl 0x0801 0; let s : State := ex (R) (f); let tag : Nat := 0; Executes s tag 0x0801 f) ∧
    (let f : Flight := fl 0x0802 0 [0, 0, 1, 0, 0, 0, 0, 0, 4, 1, 0, 0]; let s : State := ex (R) (f); let tag : Nat := 0; Executes s tag 0x0802 f ∧ checkUtc (u64At f.req 16 : Nat) (signed 8 (byteAt f.req 24)) (byteAt f.req 25 = 1) = none) ∧
    (let f : Flight := fl 0x0802 0 [0, 0, 1, 0, 0, 0, 0, 0, 127, 1, 0, 0]; let s : State := ex (R) (f); let tag : Nat := 0; let k := ((checkUtc (u64At f.req 16 : Nat) (signed 8 (byteAt f.req 24)) (byteAt f.req 25 = 1)).getD 9); Executes s tag 0x0802 f ∧ checkUtc (u64At f.req 16 : Nat) (signed 8 (byteAt f.req 24)) (byteAt f.req 25 = 1) = some k) ∧
    (let f : Flight := fl 0x0802 0 [255, 255, 255, 255, 255, 255, 0, 0, 0, 1, 0, 0]; let s : State := ex (R) (f); let tag : Nat := 0; let k := ((checkUtc (u64At f.req 16 : Nat) (signed 8 (byteAt f.req 24)) (byteAt f.req 25 = 1)).getD 9); Executes s tag 0x0802 f ∧ checkUtc (u64At f.req 16 : Nat) (signed 8 (byteAt f.req 24)) (byteAt f.req 25 = 1) = some k) ∧
    (let f : Flight := fl 0x0803 0 [0, 0, 0, 0]; let s : State := ex (R) (f); let t : Nat := 5000; let tag : Nat := 0; let a := s.acting t; let b := a.bkp; let fwd := true; Executes s tag 0x0803 f ∧ fwd = decide (byteAt f.req 16 = 0) ∧ b.dstFault fwd = none) ∧
    (let f : Flight := fl 0x0803 0 [1, 0, 0, 0]; let s : State := ex ({ R with bkp := { R.bkp with dst := true, cyc := 200000000 } }) (f); let t : Nat := 5000; let tag : Nat := 0; let a := s.acting t; let b := a.bkp; let fwd := false; Executes s tag 0x0803 f ∧ fwd = decide (byteAt f.req 16 = 0) ∧ b.dstFault fwd = none) ∧
    (let f : Flight := fl 0x0803 0 [1, 0, 0, 0]; let s : State := ex (R) (f); let t : Nat := 5000; let tag : Nat := 0; let a := s.acting t; let b := a.bkp; let fwd := false; let k := ((s.acting t).bkp.dstFault fwd).getD 9; Executes s tag 0x0803 f ∧ fwd = decide (byteAt f.req 16 = 0) ∧ b.dstFault fwd = some k) ∧
    (let f : Flight := fl 0x0804 0 [0, 0, 1, 0]; let s : State := ex (R) (f); let tag : Nat := 0; let v := 0; Executes s tag 0x0804 f ∧ v = clampI (-20000) 20000 (signed 16 (u16At f.req 16))) ∧
    (let f : Flight := fl 0x0804 0 [255, 127, 0, 0]; let s : State := ex (R) (f); let tag : Nat := 0; let v := 20000; Executes s tag 0x0804 f ∧ v = clampI (-20000) 20000 (signed 16 (u16At f.req 16))) := by
  refine ⟨?_, ?_, ?_, ?_, ?_, ?_, ?_, ?_, ?_⟩ <;> decide +kernel

theorem test_wit_TimeOpcodes_2 :
    (let f : Flight := fl 0x0805 0 [0, 0, 0, 0]; let s : State := ex (R) (f); let tag : Nat := 0; let n := 0; Executes s tag 0x0805 f ∧ n = u32At f.req 16) ∧
    (let f : Flight := fl 0x0805 0 [1, 0, 64, 0]; let s : State := ex (R) (f); let tag : Nat := 0; let n := 4194305; Executes s tag 0x0805 f ∧ n = u32At f.req 16) ∧
    (let f : Flight := fl 0x0806 0 [3, 0, 255, 255]; let s : State := ex (R) (f); let tag : Nat := 0; Executes s tag 0x0806 f) ∧
    (let f : Flight := fl 0x0806 0 [0, 0, 1, 0]; let s : State := ex (R) (f); let tag : Nat := 0; Executes s tag 0x0806 f) ∧
    (let f : Flight := fl 0x0807 0 [3, 0, 0, 0]; let s : State := ex (R) (f); let tag : Nat := 0; Executes s tag 0x0807 f) := by
  refine ⟨?_, ?_, ?_, ?_, ?_⟩ <;> decide +kernel


theorem test_wit_CalendarBoundaries :
    (let p := ({ utc := 9, zone := 4, dst := true, due := 3 } : PendSet); let s : State := { R with bkp := { R.bkp with pendSet := some p, cyc := 98304 } }; let t : Nat := 5000; let a := s.advance t; let b := a.bkp; b.pendSet = some p ∧ p.due * 32768 ≤ b.clock) ∧
    (let p := ({ utc := 9, zone := 4, dst := true, due := 3 } : PendSet); let s : State := { R with bkp := { R.bkp with pendSet := some p, cyc := 98305 }, pwr := { R.pwr with state := .backup } }; let t : Nat := 5000; let a := s.advance t; let b := a.bkp; b.pendSet = some p ∧ p.due * 32768 ≤ b.clock) ∧
    (let p := ({ utc := 9, zone := 4, dst := true, due := 3 } : PendSet); let s : State := { R with bkp := { R.bkp with pendSet := some p, cyc := 98303 } }; let t : Nat := 5000; let a := s.advance t; let b := a.bkp; b.pendSet = some p ∧ b.clock < p.due * 32768) ∧
    (let s : State := R; let t : Nat := 5000; let a := s.advance t; let b := a.bkp; b.pendSet = none) ∧
    (let p := ({ fwd := true, due := 3, origin := 0x40 } : PendDst); let s : State := { R with bkp := { R.bkp with pendDst := some p, cyc := 98305 } }; let t : Nat := 5000; let a := s.advance t; let b := a.bkp; b.pendDst = some p ∧ p.due * 32768 ≤ b.clock) ∧
    (let p := ({ fwd := true, due := 3, origin := 0x40 } : PendDst); let s : State := { R with bkp := { R.bkp with pendDst := some p, cyc := 98303 } }; let t : Nat := 5000; let a := s.advance t; let b := a.bkp; b.pendDst = some p ∧ b.clock < p.due * 32768) ∧
    (let s : State := R; let t : Nat := 5000; let a := s.advance t; let b := a.bkp; b.pendDst = none) := by
  refine ⟨?_, ?_, ?_, ?_, ?_, ?_, ?_⟩ <;> decide +kernel


theorem test_wit_CalendarAlignment :
    (let s : State := { R with bus := { R.bus with net := { R.bus.net with state := 2 } }, pwr := { R.pwr with state := .safe, stage := .restored }, clk := { R.clk with base := 100005000 } }; let t : Nat := 5000; let a := s.advance t; let d := a.calendarError; a.fwRuns = true ∧ a.lockedToNet = true ∧ 100000 < d.natAbs ∧ d.natAbs ≤ 1000000000) ∧
    (let s : State := { R with bus := { R.bus with net := { R.bus.net with state := 2 } }, pwr := { R.pwr with state := .safe, stage := .restored }, clk := { R.clk with base := 9000000000 } }; let t : Nat := 5000; let a := s.advance t; let d := a.calendarError; a.fwRuns = true ∧ a.lockedToNet = true ∧ 1000000000 < d.natAbs) ∧
    (let s : State := { R with bus := { R.bus with net := { R.bus.net with isMaster := true } }, pwr := { R.pwr with state := .safe, stage := .restored }, clk := { R.clk with base := 505000 } }; let t : Nat := 5000; let a := s.advance t; let b := a.bkp; let d := a.calendarError; a.fwRuns = true ∧ s.bus.net.isMaster = true ∧ b.range = false ∧ 100000 < d.natAbs ∧ d.natAbs ≤ 1000000) ∧
    (let s : State := { R with bus := { R.bus with net := { R.bus.net with isMaster := true } }, pwr := { R.pwr with state := .safe, stage := .restored }, clk := { R.clk with base := 9000000000 } }; let t : Nat := 5000; let a := s.advance t; let b := a.bkp; let d := a.calendarError; a.fwRuns = true ∧ s.bus.net.isMaster = true ∧ b.range = false ∧ 1000000 < d.natAbs) ∧
    (let s : State := R; let t : Nat := 5000; let a := s.advance t; let d := a.calendarError; ((a.fwRuns = false ∨ (s.bus.net.isMaster = false ∧ a.lockedToNet = false) ∨ d.natAbs ≤ 100000))) ∧
    (let s : State := { R with bus := { R.bus with net := { R.bus.net with state := 2 } }, pwr := { R.pwr with state := .safe, stage := .restored } }; let t : Nat := 5000; let a := s.advance t; let d := a.calendarError; ((a.fwRuns = false ∨ (s.bus.net.isMaster = false ∧ a.lockedToNet = false) ∨ d.natAbs ≤ 100000))) ∧
    (let a0 := 0; let s : State := { { R with bus := { R.bus with net := { R.bus.net with trimSince := some a0, state := 2 } }, pwr := { R.pwr with state := .safe, stage := .restored } } with bkp := { R.bkp with autoTrim := true, trim := -20000 } }; let t : Nat := 1024000000000; let a := s.advance t; s.bus.net.trimSince = some a0 ∧ a0 + 1024000000000 ≤ a.clk.flow ∧ a.fwRuns = true ∧ s.bus.net.state = 2) ∧
    (let a0 := 0; let s : State := { R with bus := { R.bus with net := { R.bus.net with trimSince := some a0, state := 2 } }, pwr := { R.pwr with state := .safe, stage := .restored } }; let t : Nat := 1024000000000; let a := s.advance t; s.bus.net.trimSince = some a0 ∧ a0 + 1024000000000 ≤ a.clk.flow ∧ a.fwRuns = true ∧ s.bus.net.state = 2) ∧
    (let s : State := R; let t : Nat := 5000; let a := s.advance t; ((s.bus.net.trimSince = none ∨ a.fwRuns = false ∨ s.bus.net.state ≠ 2))) := by
  refine ⟨?_, ?_, ?_, ?_, ?_, ?_, ?_, ?_, ?_⟩ <;> decide +kernel

theorem test_wit_CalendarAlignment_2 :
    (let s : State := { R with bus := { R.bus with net := { R.bus.net with state := 2 } }, pwr := { R.pwr with state := .safe, stage := .restored } }; let t : Nat := 5000; let a := s.advance t; ((s.bus.net.trimSince = none ∨ a.fwRuns = false ∨ s.bus.net.state ≠ 2))) ∧
    (let a0 := 0; let s : State := { R with bus := { R.bus with net := { R.bus.net with trimSince := some a0, state := 2 } }, pwr := { R.pwr with state := .safe, stage := .restored } }; let t : Nat := 1023999999999; let a := s.advance t; s.bus.net.trimSince = some a0 ∧ a.clk.flow < a0 + 1024000000000) ∧
    (let s : State := { R with bkp := { R.bkp with cyc := R.bkp.endCyc }, pwr := { R.pwr with state := .safe, stage := .restored } }; let t : Nat := 5000; let a := s.advance t; let b := a.bkp; b.range = false ∧ b.endCyc ≤ b.cyc ∧ a.fwRuns = true) ∧
    (let s : State := { R with bkp := { R.bkp with cyc := R.bkp.endCyc }, pwr := { R.pwr with state := .backup } }; let t : Nat := 5000; let a := s.advance t; let b := a.bkp; b.range = false ∧ b.endCyc ≤ b.cyc ∧ a.fwRuns = false) ∧
    (let s : State := R; let t : Nat := 5000; let a := s.advance t; let b := a.bkp; ((b.range = true ∨ b.cyc < b.endCyc))) ∧
    (let s : State := { R with bkp := { R.bkp with range := true, cyc := R.bkp.endCyc } }; let t : Nat := 5000; let a := s.advance t; let b := a.bkp; ((b.range = true ∨ b.cyc < b.endCyc))) ∧
    (let s : State := { R with bkp := { R.bkp with cyc := 98305, timeValid := true } }; let t : Nat := 1000000000; let a := s.advance t; let b := a.bkp; let past := b.clock % 32768 * 1000000000 / 32768; s.running = true ∧ s.clk.fromRtc = false ∧ s.bus.net.taken = false ∧ s.pwr.startAt + past ≤ a.clk.now) ∧
    (let s : State := { R with bkp := { R.bkp with cyc := 98305 } }; let t : Nat := 0; let a := s.advance t; let b := a.bkp; let past := b.clock % 32768 * 1000000000 / 32768; ((s.running = false ∨ s.clk.fromRtc = true ∨ s.bus.net.taken = true ∨ a.clk.now < s.pwr.startAt + past))) ∧
    (let s : State := { R with pwr := { R.pwr with state := .backup } }; let t : Nat := 5000000000; let a := s.advance t; let b := a.bkp; let past := b.clock % 32768 * 1000000000 / 32768; ((s.running = false ∨ s.clk.fromRtc = true ∨ s.bus.net.taken = true ∨ a.clk.now < s.pwr.startAt + past))) := by
  refine ⟨?_, ?_, ?_, ?_, ?_, ?_, ?_, ?_, ?_⟩ <;> decide +kernel

theorem test_wit_CalendarAlignment_3 :
    (let s : State := { R with clk := { R.clk with fromRtc := true } }; let t : Nat := 5000000000; let a := s.advance t; let b := a.bkp; let past := b.clock % 32768 * 1000000000 / 32768; ((s.running = false ∨ s.clk.fromRtc = true ∨ s.bus.net.taken = true ∨ a.clk.now < s.pwr.startAt + past))) := by decide +kernel


theorem test_wit_BackupDomainEvents :
    (let s : State := { R with pwr := { R.pwr with state := .safe, stage := .restored } }; let t : Nat := 5000; let a := s.advance t; let b := a.bkp; b.onRc = false ∧ a.fwRuns = true) ∧
    (let s : State := { R with pwr := { R.pwr with state := .backup } }; let t : Nat := 5000; let a := s.advance t; let b := a.bkp; b.onRc = false ∧ a.fwRuns = false) ∧
    (let s : State := { R with bkp := { R.bkp with onRc := true } }; let t : Nat := 5000; let a := s.advance t; let b := a.bkp; b.onRc = true) ∧
    (let s : State := { R with bkp := { R.bkp with vbatLow := true } }; let t : Nat := 5000; let a := s.advance t; let b := a.bkp; let mv := 2000; ((mv < vbatLowMv → b.vbatLow = true))) ∧
    (let s : State := { R with pwr := { R.pwr with state := .safe, stage := .restored } }; let t : Nat := 5000; let a := s.advance t; let b := a.bkp; let mv := vbatLowMv; ((mv < vbatLowMv → b.vbatLow = true))) ∧
    (let s : State := { R with pwr := { R.pwr with state := .safe, stage := .restored } }; let t : Nat := 5000; let a := s.advance t; let b := a.bkp; let mv := 2000; mv < vbatLowMv ∧ b.vbatLow = false ∧ a.fwRuns = true) ∧
    (let s : State := { R with pwr := { R.pwr with state := .backup } }; let t : Nat := 5000; let a := s.advance t; let b := a.bkp; let mv := 2000; mv < vbatLowMv ∧ b.vbatLow = false ∧ a.fwRuns = false) ∧
    (let s : State := { R with bkp := { R.bkp with down := true } }; s.bkp.down = true) ∧
    (let s : State := { R with pwr := { R.pwr with state := .safe, stage := .restored } }; s.bkp.down = false) := by
  refine ⟨?_, ?_, ?_, (fun _ => rfl), (fun h => absurd h (Nat.lt_irrefl _)), (⟨Nat.lt_of_lt_of_le (by decide) (Nat.le_add_right 2350 _), by decide +kernel, by decide +kernel⟩), (⟨Nat.lt_of_lt_of_le (by decide) (Nat.le_add_right 2350 _), by decide +kernel, by decide +kernel⟩), ?_, ?_⟩ <;> decide +kernel

theorem test_wit_BackupDomainEvents_2 :
    (let d := 5000; let s : State := { R with bkp := { R.bkp with wakeDue := some d, interval := 3 } }; let t : Nat := 5000; let a := s.advance t; let b := a.bkp; b.wakeDue = some d ∧ d ≤ b.age ∧ s.pwr.state ≠ .standby) ∧
    (let d := 5000; let s : State := { R with pwr := { R.pwr with state := .standby }, bkp := { R.bkp with wakeDue := some d, interval := 3 } }; let t : Nat := 200000000; let a := s.advance t; let b := a.bkp; b.wakeDue = some d ∧ d ≤ b.age ∧ s.pwr.state = .standby) ∧
    (let s : State := R; let t : Nat := 5000; (s.advance t).bkp.wakeDue = none) ∧
    (let s : State := { R with bkp := { R.bkp with wakeDue := some 999999999999999999999999 } }; let t : Nat := 5000; (s.advance t).bkp.wakeDue = some 999999999999999999999999 ∧ (s.advance t).bkp.age < 999999999999999999999999) ∧
    (let s : State := { R with bkp := { R.bkp with evts := List.replicate 4 { cfg := 0xFFFFFF8F } } }; let t : Nat := 61000; let a := s.advance t; let b := a.bkp; let e := 3; let first := 0; let level := true; e < 4 ∧ b.evts.length = 4 ∧ s.bkp.down = false ∧ (b.evts.getD e {}).takes level = true ∧ first + (b.evts.getD e {}).filter ≤ a.clk.now) ∧
    (let s : State := { R with bkp := { R.bkp with evts := List.replicate 4 { cfg := 0xFFFFFF8F, stack := List.replicate 8 { ts := 5, rising := true } } } }; let t : Nat := 61000; let a := s.advance t; let b := a.bkp; let e := 0; let first := 0; let level := true; e < 4 ∧ b.evts.length = 4 ∧ s.bkp.down = false ∧ (b.evts.getD e {}).takes level = true ∧ first + (b.evts.getD e {}).filter ≤ a.clk.now) ∧
    (let s : State := { R with bkp := { R.bkp with evts := List.replicate 4 { cfg := 0xFFFFFFBD } } }; let t : Nat := 100000000; let a := s.advance t; let b := a.bkp; let e := 3; let first := 0; let level := false; e < 4 ∧ s.bkp.down = false ∧ (b.evts.getD e {}).takes level = false ∧ first + (b.evts.getD e {}).filter ≤ a.clk.now) ∧
    (let s : State := { R with bkp := { R.bkp with down := true } }; let t : Nat := 5000; let a := s.advance t; let b := a.bkp; let e := 3; let first := 0; e < 4 ∧ ((s.bkp.down = true ∨ a.clk.now < first + (b.evts.getD e {}).filter))) ∧
    (let s : State := { R with bkp := { R.bkp with evts := List.replicate 4 { cfg := 0xFFFFFF8F } } }; let t : Nat := 61000; let a := s.advance t; let b := a.bkp; let e := 3; let first := 1; e < 4 ∧ ((s.bkp.down = true ∨ a.clk.now < first + (b.evts.getD e {}).filter))) := by
  refine ⟨?_, ?_, ?_, ?_, ?_, ?_, ?_, ?_, ?_⟩ <;> decide +kernel

theorem test_wit_BackupDomainEvents_3 :
    (let s : State := { R with pwr := { R.pwr with state := .safe, stage := .restored }, bkp := { R.bkp with evts := [{ stack := [{ ts := 5, rising := true }], lost := 3 }, {}, {}, {}] } }; let t : Nat := 5000; let a := s.advance t; let b := a.bkp; a.fwRuns = true ∧ s.log.closed = false ∧ s.log.active.length + 36 < 48 ∧ b.evts.length = 4 ∧ ((∀ e ∈ b.evts, e.cfg.toNat / 4096 % 8 < 6 ∧ e.stack.length ≤ 8))) ∧
    (let s : State := R; let t : Nat := 5000; (s.advance t).fwRuns = false) := by
  refine ⟨?_, ?_⟩ <;> decide +kernel


theorem test_wit_ChannelEvents :
    (let s : State := { R with chans := R.chans.set 63 (({ settle := 1 }))  }; let ch : Nat := 63; let c := s.chan ch; ch < 64 ∧ c.settle = 1) ∧
    (let s : State := { R with chans := R.chans.set 0 (({ notchSuspect := 1 }))  }; let ch : Nat := 0; let c := s.chan ch; ch < 64 ∧ c.notchSuspect = 1) ∧
    (let s : State := { R with chans := R.chans.set 0 (({ brk := .open_, okSince := some 100000000, brkAt := 7 }))  }; let t : Nat := 200000000; let ch : Nat := 0; let b := s.toFrame t; let c := s.chan ch; let x := 100000000; ch < 64 ∧ c.brk = .open_ ∧ c.okSince = some x ∧ x + 100000000 ≤ b.clk.now) ∧
    (let s : State := R; let ch : Nat := 0; let c := s.chan ch; ch < 64 ∧ ((c.brk ≠ .open_ ∨ c.okSince = none))) ∧
    (let s : State := { R with chans := R.chans.set 0 (({ brk := .open_ }))  }; let ch : Nat := 0; let c := s.chan ch; ch < 64 ∧ ((c.brk ≠ .open_ ∨ c.okSince = none))) ∧
    (let s : State := cf [(0x10, 96, 64, [(1, 3)])] (R); let ch : Nat := 0; ch < 64 ∧ isInput (s.func ch) = true) ∧
    (let s : State := R; let ch : Nat := 0; ch < 64 ∧ isInput (s.func ch) = false) ∧
    (let s : State := R; let ch : Nat := 0; let c := s.chan ch; ch < 64 ∧ c.ovl = none) ∧
    (let s : State := { R with chans := R.chans.set 0 (({ ovl := some (true, 199000000) }))  }; let t : Nat := 200000000; let ch : Nat := 0; let a := s.advance t; let c := s.chan ch; let p := true; let x := 199000000; ch < 64 ∧ c.ovl = some (p, x) ∧ x + 1000000 ≤ a.clk.now) := by
  refine ⟨?_, ?_, ?_, ?_, ?_, ?_, ?_, ?_, ?_⟩ <;> decide +kernel

theorem test_wit_ChannelEvents_2 :
    (let s : State := { R with chans := R.chans.set 0 (({ ovl := some (true, 199000001) }))  }; let t : Nat := 200000000; let ch : Nat := 0; let a := s.advance t; let c := s.chan ch; let p := true; let x := 199000001; ch < 64 ∧ c.ovl = some (p, x) ∧ a.clk.now < x + 1000000) ∧
    (let s : State := cf [(0x10, 96, 64, [(1, 6)])] ({ { R with banks := R.banks.set 0 { power := .up } } with frame := { R.frame with running := true, nextTick := 1000000000 } }); let t : Nat := 1000000000; let ch : Nat := 0; let a := s.advance t; let c := s.chan ch; ch < 64 ∧ s.func ch = 6 ∧ s.bankUp (ch / 8) = true ∧ a.atSecond = true ∧ c.exchAt ≠ some a.clk.now) ∧
    (let s : State := R; let t : Nat := 200000000; let ch : Nat := 0; let a := s.advance t; let c := s.chan ch; ch < 64 ∧ ((s.func ch ≠ 6 ∨ s.bankUp (ch / 8) = false ∨ a.atSecond = false ∨ c.exchAt = some a.clk.now))) ∧
    (let s : State := cf [(0x10, 96, 64, [(1, 6)])] (R); let t : Nat := 1000000000; let ch : Nat := 0; let a := s.advance t; let c := s.chan ch; ch < 64 ∧ ((s.func ch ≠ 6 ∨ s.bankUp (ch / 8) = false ∨ a.atSecond = false ∨ c.exchAt = some a.clk.now))) ∧
    (let s : State := cf [(0x10, 96, 64, [(1, 6)])] ({ R with banks := R.banks.set 0 { power := .up } }); let t : Nat := 200000000; let ch : Nat := 0; let a := s.advance t; let c := s.chan ch; ch < 64 ∧ ((s.func ch ≠ 6 ∨ s.bankUp (ch / 8) = false ∨ a.atSecond = false ∨ c.exchAt = some a.clk.now))) ∧
    (let s : State := cf [(0x10, 96, 64, [(1, 6)])] ({ { R with banks := R.banks.set 0 { power := .up } } with chans := R.chans.set 0 { exchAt := some 1000000000 }, frame := { R.frame with running := true, nextTick := 1000000000 } }); let t : Nat := 1000000000; let ch : Nat := 0; let a := s.advance t; let c := s.chan ch; ch < 64 ∧ ((s.func ch ≠ 6 ∨ s.bankUp (ch / 8) = false ∨ a.atSecond = false ∨ c.exchAt = some a.clk.now))) := by
  refine ⟨?_, ?_, ?_, ?_, ?_, ?_⟩ <;> decide +kernel


theorem test_wit_MainsNotch :
    (let p := 200000000 - 16129032; let s : State := { R with notch := { R.notch with lastCross := some p } }; let t : Nat := 200000000; let a := s.advance t; let n := s.notch; let m : MainsIn := ({ before := 1, after := 0, step := 31250, rms := 3000 } : MainsIn); let x := a.clk.now - m.step * m.after / max 1 (m.before + m.after); let fc := (1000000000000 + (x - p) / 2) / (x - p); x = a.clk.now - m.step * m.after / max 1 (m.before + m.after) ∧ 700 ≤ m.rms ∧ m.rms ≤ 14000 ∧ n.lastCross = some p ∧ p < x ∧ fc = (1000000000000 + (x - p) / 2) / (x - p) ∧ 40000 ≤ fc ∧ fc ≤ 70000 ∧ near fc n.ft 2000 = true ∧ n.src = .local_) ∧
    (let p := 200000000 - 16666667; let s : State := { R with notch := { R.notch with lastCross := some p } }; let t : Nat := 200000000; let a := s.advance t; let n := s.notch; let m : MainsIn := ({ before := 1, after := 3, step := 31250, rms := 700 } : MainsIn); let x := a.clk.now - m.step * m.after / max 1 (m.before + m.after); let fc := (1000000000000 + (x - p) / 2) / (x - p); x = a.clk.now - m.step * m.after / max 1 (m.before + m.after) ∧ 700 ≤ m.rms ∧ m.rms ≤ 14000 ∧ n.lastCross = some p ∧ p < x ∧ fc = (1000000000000 + (x - p) / 2) / (x - p) ∧ 40000 ≤ fc ∧ fc ≤ 70000 ∧ near fc n.ft 2000 = true ∧ n.src = .local_) ∧
    (let p := 200000000 - 16666667; let s : State := { R with notch := { R.notch with lastCross := some p } }; let t : Nat := 200000000; let a := s.advance t; let n := s.notch; let m : MainsIn := ({ before := 1, after := 1, step := 31250, rms := 14000 } : MainsIn); let x := a.clk.now - m.step * m.after / max 1 (m.before + m.after); let fc := (1000000000000 + (x - p) / 2) / (x - p); x = a.clk.now - m.step * m.after / max 1 (m.before + m.after) ∧ 700 ≤ m.rms ∧ m.rms ≤ 14000 ∧ n.lastCross = some p ∧ p < x ∧ fc = (1000000000000 + (x - p) / 2) / (x - p) ∧ 40000 ≤ fc ∧ fc ≤ 70000 ∧ near fc n.ft 2000 = true ∧ n.src = .local_) ∧
    (let p := 200000000 - 25000400; let s : State := { R with notch := { R.notch with lastCross := some p } }; let t : Nat := 200000000; let a := s.advance t; let n := s.notch; let m : MainsIn := ({ before := 1, after := 0, step := 31250, rms := 3000 } : MainsIn); let x := a.clk.now - m.step * m.after / max 1 (m.before + m.after); let fc := (1000000000000 + (x - p) / 2) / (x - p); x = a.clk.now - m.step * m.after / max 1 (m.before + m.after) ∧ 700 ≤ m.rms ∧ m.rms ≤ 14000 ∧ n.lastCross = some p ∧ p < x ∧ fc = (1000000000000 + (x - p) / 2) / (x - p) ∧ ((fc < 40000 ∨ 70000 < fc)) ∧ n.excursion = false) ∧
    (let p := 200000000 - 14285600; let s : State := { R with notch := { R.notch with lastCross := some p } }; let t : Nat := 200000000; let a := s.advance t; let n := s.notch; let m : MainsIn := ({ before := 1, after := 0, step := 31250, rms := 3000 } : MainsIn); let x := a.clk.now - m.step * m.after / max 1 (m.before + m.after); let fc := (1000000000000 + (x - p) / 2) / (x - p); x = a.clk.now - m.step * m.after / max 1 (m.before + m.after) ∧ 700 ≤ m.rms ∧ m.rms ≤ 14000 ∧ n.lastCross = some p ∧ p < x ∧ fc = (1000000000000 + (x - p) / 2) / (x - p) ∧ ((fc < 40000 ∨ 70000 < fc)) ∧ n.excursion = false) ∧
    (let p := 200000000 - 16129032; let s : State := { R with notch := { R.notch with lastCross := some p, src := .held } }; let t : Nat := 200000000; let a := s.advance t; let n := s.notch; let m : MainsIn := ({ before := 1, after := 0, step := 31250, rms := 3000 } : MainsIn); let x := a.clk.now - m.step * m.after / max 1 (m.before + m.after); let fc := (1000000000000 + (x - p) / 2) / (x - p); x = a.clk.now - m.step * m.after / max 1 (m.before + m.after) ∧ 700 ≤ m.rms ∧ m.rms ≤ 14000 ∧ n.lastCross = some p ∧ p < x ∧ fc = (1000000000000 + (x - p) / 2) / (x - p) ∧ 40000 ≤ fc ∧ fc ≤ 70000 ∧ near fc n.ft 2000 = true ∧ n.src ≠ .local_) ∧
    (let p := 200000000 - 16666667; let s : State := { R with notch := { R.notch with lastCross := some p, src := .bus } }; let t : Nat := 200000000; let a := s.advance t; let n := s.notch; let m : MainsIn := ({ before := 1, after := 0, step := 31250, rms := 3000 } : MainsIn); let x := a.clk.now - m.step * m.after / max 1 (m.before + m.after); let fc := (1000000000000 + (x - p) / 2) / (x - p); x = a.clk.now - m.step * m.after / max 1 (m.before + m.after) ∧ 700 ≤ m.rms ∧ m.rms ≤ 14000 ∧ n.lastCross = some p ∧ p < x ∧ fc = (1000000000000 + (x - p) / 2) / (x - p) ∧ 40000 ≤ fc ∧ fc ≤ 70000 ∧ near fc n.ft 2000 = true ∧ n.src ≠ .local_) ∧
    (let p := 200000000 - 19980020; let v := 50000; let w := 50100; let s : State := { R with notch := { R.notch with lastCross := some p, rejected := [v, w] } }; let t : Nat := 200000000; let a := s.advance t; let n := s.notch; let m : MainsIn := ({ before := 1, after := 0, step := 31250, rms := 3000 } : MainsIn); let x := a.clk.now - m.step * m.after / max 1 (m.before + m.after); let fc := (1000000000000 + (x - p) / 2) / (x - p); x = a.clk.now - m.step * m.after / max 1 (m.before + m.after) ∧ 700 ≤ m.rms ∧ m.rms ≤ 14000 ∧ n.lastCross = some p ∧ p < x ∧ fc = (1000000000000 + (x - p) / 2) / (x - p) ∧ 40000 ≤ fc ∧ fc ≤ 70000 ∧ near fc n.ft 2000 = false ∧ n.rejected = [v, w] ∧ n.src = .local_ ∧ near v w 100 = true ∧ near w fc 100 = true ∧ near v fc 100 = true) ∧
    (let m : MainsIn := ({ before := 1, after := 0, step := 31250, rms := 699 } : MainsIn); ((m.rms < 700 ∨ 14000 < m.rms))) := by
  refine ⟨?_, ?_, ?_, ?_, ?_, ?_, ?_, ?_, ?_⟩ <;> decide +kernel

theorem test_wit_MainsNotch_2 :
    (let m : MainsIn := ({ before := 1, after := 0, step := 31250, rms := 14001 } : MainsIn); ((m.rms < 700 ∨ 14000 < m.rms))) ∧
    (let s : State := { R with bus := { R.bus with net := { R.bus.net with genFreq := [(3, 59900, 0)] } }, notch := { R.notch with lastOk := 0 } }; let t : Nat := 200000000; let a := s.advance t; let n := s.notch; let fm := 59900; n.src = .local_ ∧ a.genFresh = some fm ∧ ((n.lastOk + 75000000 ≤ a.clk.now ∨ n.valid = false))) ∧
    (let s : State := { R with bus := { R.bus with net := { R.bus.net with genFreq := [(3, 71000, 0)] } }, notch := { R.notch with valid := false } }; let t : Nat := 5; let a := s.advance t; let n := s.notch; let fm := 71000; n.src = .local_ ∧ a.genFresh = some fm ∧ ((n.lastOk + 75000000 ≤ a.clk.now ∨ n.valid = false))) ∧
    (let s : State := { R with bus := { R.bus with net := { R.bus.net with genFreq := [(3, 59900, 0)] } }, notch := { R.notch with lastOk := 0 } }; let t : Nat := 200000000; let a := s.advance t; let n := s.notch; let fm := 59900; n.src = .local_ ∧ a.genFresh = some fm ∧ ((n.lastOk + 75000000 ≤ a.clk.now ∨ n.valid = false)) ∧ 40000 ≤ fm ∧ fm ≤ 70000 ∧ near fm n.ft 2000 = true) ∧
    (let s : State := R; let t : Nat := 200000000; let a := s.advance t; let n := s.notch; ((n.src = .local_ ∧ (n.lastOk + 75000000 ≤ a.clk.now ∨ n.valid = false) ∨ n.src = .bus)) ∧ a.genFresh = none) ∧
    (let s : State := { R with notch := { R.notch with valid := false } }; let t : Nat := 5; let a := s.advance t; let n := s.notch; ((n.src = .local_ ∧ (n.lastOk + 75000000 ≤ a.clk.now ∨ n.valid = false) ∨ n.src = .bus)) ∧ a.genFresh = none) ∧
    (let s : State := { R with notch := { R.notch with src := .bus } }; let t : Nat := 5; let a := s.advance t; let n := s.notch; ((n.src = .local_ ∧ (n.lastOk + 75000000 ≤ a.clk.now ∨ n.valid = false) ∨ n.src = .bus)) ∧ a.genFresh = none) ∧
    (let s : State := { R with notch := { R.notch with valid := true } }; let t : Nat := 74999999; let a := s.advance t; let n := s.notch; n.src = .local_ ∧ a.clk.now < n.lastOk + 75000000 ∧ n.valid = true) ∧
    (let s : State := { R with bus := { R.bus with net := { R.bus.net with genFreq := [(3, 59900, 0)] } }, notch := { R.notch with src := .bus } }; let t : Nat := 200000000; let a := s.advance t; let n := s.notch; let fm := 59900; n.src = .bus ∧ a.genFresh = some fm) := by
  refine ⟨?_, ?_, ?_, ?_, ?_, ?_, ?_, ?_, ?_⟩ <;> decide +kernel

theorem test_wit_MainsNotch_3 :
    (let s : State := { R with notch := { R.notch with src := .held } }; let n := s.notch; n.src = .held) := by decide +kernel


theorem test_wit_CalibrationSteps :
    (let f : Flight := fl 0x0302 3 [0, 0, 0, 0, 0, 0, 0, 64]; let s : State := ex (R) (f); let tag : Nat := 0; Executes s tag 0x0302 f ∧ ((byteAt f.req 16 = 0 ∨ byteAt f.req 16 = 3)) ∧ (f32At f.req 20).finite = true) ∧
    (let f : Flight := fl 0x0302 3 [3, 0, 0, 0, 0, 0, 0, 64]; let s : State := ex (R) (f); let tag : Nat := 0; Executes s tag 0x0302 f ∧ ((byteAt f.req 16 = 0 ∨ byteAt f.req 16 = 3)) ∧ (f32At f.req 20).finite = true) ∧
    (let f : Flight := fl 0x0302 3 [1, 0, 0, 0, 0, 0, 0, 64]; let s : State := ex (R) (f); let tag : Nat := 0; Executes s tag 0x0302 f ∧ byteAt f.req 16 = 1 ∧ ((∀ l ∈ s.cal.lows, l.chan ≠ f.unit)) ∧ (f32At f.req 20).finite = true) ∧
    (let r : CalRun := ({ num := 0, chan := 3, step := 0, ref := 0x40000000, since := some 1000000000, sum := 7, n := 2, clean := true } : CalRun); let s : State := { R with cal := { R.cal with runs := [r] } }; let t : Nat := 2000000000; let b := s.advance t; let x := 1000000000; s.cal.runs = [r] ∧ r.churn = none ∧ r.since = some x ∧ x + 1000000000 ≤ b.clk.now ∧ r.step = 0 ∧ r.clean = true ∧ r.n ≠ 0) ∧
    (let r : CalRun := ({ num := 0, chan := 3, step := 0, ref := 0x40000000, since := some 1000000000, sum := 7, n := 2, clean := false } : CalRun); let s : State := { R with cal := { R.cal with runs := [r] } }; let t : Nat := 2000000000; let b := s.advance t; let x := 1000000000; s.cal.runs = [r] ∧ r.churn = none ∧ r.since = some x ∧ x + 1000000000 ≤ b.clk.now ∧ ((r.clean = false ∨ r.n = 0))) ∧
    (let r : CalRun := ({ num := 0, chan := 3, step := 0, ref := 0x40000000, since := some 1000000000, sum := 7, n := 0, clean := true } : CalRun); let s : State := { R with cal := { R.cal with runs := [r] } }; let t : Nat := 2000000000; let b := s.advance t; let x := 1000000000; s.cal.runs = [r] ∧ r.churn = none ∧ r.since = some x ∧ x + 1000000000 ≤ b.clk.now ∧ ((r.clean = false ∨ r.n = 0))) ∧
    (let o := ({ num := 1, kind := .calChurn, data := [(0, 9), (31, 4)], arg := 256 } : NvmOp); let s : State := { R with nvm := { R.nvm with running := some o } }; s.nvm.running = some o ∧ o.kind = .calChurn ∧ s.rst.clockLoss = none ∧ s.sec.erasure = none ∧ ((∀ w ∈ s.host.waits, w.kind ≠ .nvm o.num))) ∧
    (let s : State := R; s.nvm.running = none) ∧
    (let s : State := { R with nvm := { R.nvm with running := some ({ num := 1, kind := .flashRead } : NvmOp) } }; ∃ o ∈ s.nvm.running, s.nvm.running = some o ∧ o.kind ≠ .calChurn) := by
  refine ⟨?_, ?_, ?_, ?_, ?_, ?_, ?_, ?_, (⟨_, rfl, rfl, by decide⟩)⟩ <;> decide +kernel


theorem test_wit_ChannelOpcodes :
    (let f : Flight := fl 0x0306 3; let s : State := ex (R) (f); let tag : Nat := 0; Executes s tag 0x0306 f ∧ s.nvm.running = none) ∧
    (let f : Flight := fl 0x0306 3; let o := ({ num := 1, kind := .flashRead } : NvmOp); let s : State := ex ({ R with nvm := { R.nvm with running := some o } }) (f); let tag : Nat := 0; Executes s tag 0x0306 f ∧ s.nvm.running = some o) ∧
    (let f : Flight := fl 0x0305 3 [7, 0, 0, 0]; let s : State := ex (R) (f); let tag : Nat := 0; Executes s tag 0x0305 f) ∧
    (let f : Flight := fl 0x0304 0; let s : State := ex (cf [(0x10, 96, 64, [(1, 10)])] (R)) (f); let tag : Nat := 0; Executes s tag 0x0304 f ∧ s.func f.unit = 10) ∧
    (let f : Flight := fl 0x0304 0; let s : State := ex (cf [(0x10, 96, 64, [(1, 9)])] (R)) (f); let tag : Nat := 0; Executes s tag 0x0304 f ∧ s.func f.unit ≠ 10) ∧
    (let f : Flight := fl 0x0307 0 [0, 0, 33, 0]; let d := ({ owner := .host, baseEpoch := 0, lastUse := 0, img := emptyImage, top := 64 } : Draft); let s : State := ex ({ R with cfg := { R.cfg with draft := some d, curves := [(0, 1), (4, 2)] } }) (f); let t : Nat := 5; let tag : Nat := 0; let a := s.acting t; let m := 0; Executes s tag 0x0307 f ∧ s.cfg.draft = some d ∧ byteAt (a.curveSlot (u16At f.req 16)) 0 ≠ 255 ∧ ∃ m, setKeyed d.img 0x11 (fun x => decide (d.img.u8 x = byteAt f.req 18)) (le8 (byteAt f.req 18) ++ (a.curveSlot (u16At f.req 16)).drop 1) = .done m) ∧
    (let f : Flight := fl 0x0307 0 [0, 0, 33, 0]; let s : State := ex (R) (f); let t : Nat := 5; let tag : Nat := 0; let a := s.acting t; Executes s tag 0x0307 f ∧ byteAt (a.curveSlot (u16At f.req 16)) 0 = 255) ∧
    (let f : Flight := fl 0x0308 0 [0, 33, 2, 0]; let s : State := ex (cf [(0x11, 528, 1, [(0, 33)])] R) (f); let t : Nat := 5; let tag : Nat := 0; let a := s.acting t; let x := 4096; Executes s tag 0x0308 f ∧ ((a.energyOk 25000 = true ∨ f.noWait = false)) ∧ (imgEntries (a.image (byteAt f.req 16 = 1)) 0x11).find? (fun x => decide ((a.image (byteAt f.req 16 = 1)).u8 x = byteAt f.req 17)) = some x) ∧
    (let f : Flight := fl 0x0308 0 [0, 33, 2, 0] 1; let s : State := ex (cf [(0x11, 528, 1, [(0, 33)])] R) (f); let t : Nat := 5; let tag : Nat := 0; let a := s.acting t; let x := 4096; Executes s tag 0x0308 f ∧ a.energyOk 25000 = false ∧ f.noWait = true ∧ (imgEntries (a.image (byteAt f.req 16 = 1)) 0x11).find? (fun x => decide ((a.image (byteAt f.req 16 = 1)).u8 x = byteAt f.req 17)) = some x) := by
  refine ⟨?_, ?_, ?_, ?_, ?_, (⟨by decide +kernel, by decide +kernel, by decide +kernel, ⟨_, test_done (by decide +kernel)⟩⟩), ?_, ?_, ?_⟩ <;> decide +kernel


theorem test_wit_VibrationCapture :
    (let w := ({ fl := fl 0x0309 0, kind := .vibCapture } : Wait); let f : Flight := fl 0x0309 0 [0, 0, 0, 0]; let s : State := ex (cf [(0x10, 96, 64, [(1, 11)])] (R)) (f); let tag : Nat := 0; Executes s tag 0x0309 f ∧ isVib (s.func f.unit) = true ∧ byteAt f.req 16 ≠ 1 ∧ ((∀ w ∈ s.host.waits, w.kind ≠ .vibCapture))) ∧
    (let f : Flight := fl 0x0309 0 [0, 0, 0, 0]; let w := ({ fl := fl 0x0309 0, kind := .vibCapture } : Wait); let s : State := ex (cf [(0x10, 96, 64, [(1, 11)])] ({ R with host := { R.host with waits := [w] } })) (f); let tag : Nat := 0; w ∈ s.host.waits ∧ w.kind = .vibCapture ∧ Executes s tag 0x0309 f ∧ isVib (s.func f.unit) = true ∧ byteAt f.req 16 ≠ 1) ∧
    (let w := ({ fl := fl 0x0309 0, kind := .vibCapture } : Wait); let n := 3; let s : State := { R with vib := { R.vib with running := true, chan := some n, samples := List.replicate 4094 0 }, host := { R.host with waits := [w] } }; let l := [5, 6, 7]; s.vib.running = true ∧ s.vib.chan = some n ∧ 4096 ≤ s.vib.samples.length + l.length) ∧
    (let s : State := R; s.vib.running = false) ∧
    (let f : Flight := fl 0x030A 3 [0, 0, 0, 16]; let s : State := ex ({ R with vib := { R.vib with chan := some 3, samples := [7] } }) (f); let tag : Nat := 0; Executes s tag 0x030A f ∧ s.vib.chan = some f.unit ∧ s.vib.running = false ∧ u16At f.req 16 + u16At f.req 18 ≤ 4096) ∧
    (let f : Flight := fl 0x030A 3 [255, 15, 1, 0]; let s : State := ex ({ R with vib := { R.vib with chan := some 3 } }) (f); let tag : Nat := 0; Executes s tag 0x030A f ∧ s.vib.chan = some f.unit ∧ s.vib.running = false ∧ u16At f.req 16 + u16At f.req 18 ≤ 4096) := by
  refine ⟨?_, ?_, ?_, ?_, ?_, ?_⟩ <;> decide +kernel


theorem test_wit_OutputEvents :
    (let s : State := { R with outs := R.outs.set 63 (({ lowSince := some 168000000 }))  }; let t : Nat := 200000000; let ch : Nat := 63; let b := s.toFrame t; let o := s.out ch; let x := 168000000; ch < 64 ∧ o.compl = false ∧ o.lowSince = some x ∧ x + 32000000 ≤ b.clk.now ∧ o.leftAt = none) ∧
    (let s : State := R; let ch : Nat := 63; let o := s.out ch; ch < 64 ∧ o.lowSince = none) ∧
    (let s : State := { R with outs := R.outs.set 63 (({ compl := true, goodSince := some 190000000 }))  }; let t : Nat := 200000000; let ch : Nat := 63; let b := s.toFrame t; let o := s.out ch; let x := 190000000; ch < 64 ∧ o.compl = true ∧ o.goodSince = some x ∧ x + 10000000 ≤ b.clk.now) ∧
    (let s : State := R; let ch : Nat := 63; let o := s.out ch; ch < 64 ∧ ((o.compl = false ∨ o.goodSince = none))) ∧
    (let s : State := { R with outs := R.outs.set 63 (({ compl := true }))  }; let ch : Nat := 63; let o := s.out ch; ch < 64 ∧ ((o.compl = false ∨ o.goodSince = none))) ∧
    (let s : State := { R with outs := R.outs.set 63 (({ openSince := some 168000000 }))  }; let t : Nat := 200000000; let ch : Nat := 63; let b := s.toFrame t; let o := s.out ch; let x := 168000000; ch < 64 ∧ o.isOpen = false ∧ o.openSince = some x ∧ x + 32000000 ≤ b.clk.now) ∧
    (let s : State := R; let ch : Nat := 63; let o := s.out ch; ch < 64 ∧ ((o.isOpen = true ∨ o.openSince = none))) ∧
    (let s : State := { R with outs := R.outs.set 63 (({ isOpen := true }))  }; let ch : Nat := 63; let o := s.out ch; ch < 64 ∧ ((o.isOpen = true ∨ o.openSince = none))) ∧
    (let s : State := { R with outs := R.outs.set 63 (({ isOpen := true, y := 0x3F800000, func := 17 }))  }; let ch : Nat := 63; let o := s.out ch; ch < 64 ∧ o.isOpen = true ∧ 1 ≤ o.y.toRat ∧ ((o.func = 17 ∨ o.probing = true))) := by
  refine ⟨?_, ?_, ?_, ?_, ?_, ?_, ?_, ?_, ?_⟩ <;> decide +kernel

theorem test_wit_OutputEvents_2 :
    (let s : State := { R with outs := R.outs.set 63 (({ isOpen := true, y := 0x3F800000, probing := true }))  }; let ch : Nat := 63; let o := s.out ch; ch < 64 ∧ o.isOpen = true ∧ 1 ≤ o.y.toRat ∧ ((o.func = 17 ∨ o.probing = true))) ∧
    (let s : State := { R with outs := R.outs.set 63 (({ isOpen := true, y := 0x3F7FFFFF, probeAt := 200000000 }))  }; let t : Nat := 200000000; let ch : Nat := 63; let b := s.toFrame t; let o := s.out ch; ch < 64 ∧ o.isOpen = true ∧ o.y.toRat < 1 ∧ b.clk.now < o.probeAt + 50000000) ∧
    (let s : State := { R with outs := R.outs.set 63 (({ isOpen := true, y := 0x3F7FFFFF, probeAt := 200000001, probing := true }))  }; let t : Nat := 200000000; let ch : Nat := 63; let b := s.toFrame t; let o := s.out ch; ch < 64 ∧ o.isOpen = true ∧ o.y.toRat < 1 ∧ b.clk.now < o.probeAt + 50000000) ∧
    (let s : State := { R with outs := R.outs.set 63 (({ isOpen := true, y := 0x3F7FFFFF, probeAt := 150000000 }))  }; let t : Nat := 200000000; let ch : Nat := 63; let b := s.toFrame t; let o := s.out ch; ch < 64 ∧ o.isOpen = true ∧ o.y.toRat < 1 ∧ o.probeAt + 50000000 ≤ b.clk.now) ∧
    (let ch : Nat := 63; ch < 64) ∧
    (let s : State := { R with outs := R.outs.set 63 (({ drive := .rampDown 195000000 7 }))  }; let t : Nat := 200000000; let ch : Nat := 63; let a := s.advance t; let o := s.out ch; let x := 195000000; let v := 7; ch < 64 ∧ o.drive = .rampDown x v ∧ x + 5000000 ≤ a.clk.now) := by
  refine ⟨?_, ?_, ?_, ?_, ?_, ?_⟩ <;> decide +kernel


theorem test_wit_OutputOpcodes :
    (let f : Flight := fl 0x030B 0 [0, 0, 0, 64]; let s : State := ex (cf [(0x10, 96, 64, [(1, 16)])] (R)) (f); let tag : Nat := 0; Executes s tag 0x030B f ∧ isOut (s.func f.unit) = true ∧ s.chField f.unit 64 1 = 0 ∧ (f32At f.req 16).finite = true) ∧
    (let f : Flight := fl 0x030B 0 [0, 0, 0, 64]; let s : State := ex (R) (f); let tag : Nat := 0; Executes s tag 0x030B f ∧ ((isOut (s.func f.unit) = false ∨ s.chField f.unit 64 1 ≠ 0))) ∧
    (let f : Flight := fl 0x030B 0 [0, 0, 0, 64]; let s : State := ex (cf [(0x10, 96, 64, [(1, 16), (64, 1)])] (R)) (f); let tag : Nat := 0; Executes s tag 0x030B f ∧ ((isOut (s.func f.unit) = false ∨ s.chField f.unit 64 1 ≠ 0))) ∧
    (let f : Flight := fl 0x030B 0 [0, 0, 128, 127]; let s : State := ex (cf [(0x10, 96, 64, [(1, 18)])] (R)) (f); let tag : Nat := 0; Executes s tag 0x030B f ∧ isOut (s.func f.unit) = true ∧ s.chField f.unit 64 1 = 0 ∧ (f32At f.req 16).finite = false) ∧
    (let f : Flight := fl 0x030B 0 [0, 0, 0, 64]; let s : State := ex (R) (f); let c : LiveCmd := ({ kind := .outSet 3 7, origin := 0x40, fl := none } : LiveCmd); let n := 3; let v := 7; c.kind = .outSet n v ∧ c.applied = none ∧ c.role = s.cfg.roles.get .chan n ∧ n < s.outs.length) ∧
    (let f : Flight := fl 0x030B 0 [0, 0, 0, 64]; let s : State := ex (R) (f); let c : LiveCmd := ({ kind := .outSet 3 7, origin := 0x40, fl := none } : LiveCmd); let n := 3; let v := 7; let m := 2; c.kind = .outSet n v ∧ c.applied = none ∧ c.role = s.cfg.roles.get .chan n ∧ n < s.outs.length ∧ m ≠ n) ∧
    (let f : Flight := fl 0x030B 0 [0, 0, 0, 64]; let s : State := ex (R) (f); let c : LiveCmd := ({ kind := .outSet 3 7, origin := 0x40, fl := none } : LiveCmd); let n := 3; let v := 7; let m := 99; c.kind = .outSet n v ∧ c.applied = none ∧ c.role = s.cfg.roles.get .chan n ∧ n < s.outs.length ∧ m ≠ n) ∧
    (let f : Flight := fl 0x030C 0; let s : State := ex (cf [(0x10, 96, 64, [(1, 17)])] (R)) (f); let tag : Nat := 0; Executes s tag 0x030C f ∧ isOut (s.func f.unit) = true) := by
  refine ⟨?_, ?_, ?_, ?_, ?_, ?_, ?_, ?_⟩ <;> decide +kernel


theorem test_wit_FskTransactions :
    (let x := ({ fl := fl 0x030D 3 (List.replicate 12 0), chan := 3, role := 0  } : FskTx); let s : State := { R with modems := R.modems.set 0 (({ queue := [x] }))  }; let t : Nat := 302500000; let b : Nat := 0; let a := s.advance t; let m := s.modem b; b < 8 ∧ m.head = some x ∧ x.state = .queued ∧ m.carrier.getD (x.chan % 8) 0 + m.silence x ≤ a.clk.now ∧ s.cfg.roles.get .chan x.chan = x.role) ∧
    (let x := ({ fl := fl 0x030D 3 (List.replicate 12 0), chan := 3, role := 0 , state := .attach, since := 298000000 } : FskTx); let s : State := { R with modems := R.modems.set 0 (({ queue := [x] }))  }; let t : Nat := 300000000; let b : Nat := 0; let a := s.advance t; let m := s.modem b; b < 8 ∧ m.head = some x ∧ x.state = .attach ∧ x.since + 2000000 ≤ a.clk.now ∧ (s.bank b).tripped = false) ∧
    (let x := ({ fl := fl 0x030D 3 (List.replicate 12 0), chan := 3, role := 0 , state := .attach, since := 298000000 } : FskTx); let s : State := { { R with modems := R.modems.set 0 (({ queue := [x] }))  } with banks := R.banks.set 0 { tripped := true } }; let b : Nat := 0; let m := s.modem b; b < 8 ∧ m.head = some x ∧ x.state = .attach ∧ (s.bank b).tripped = true) ∧
    (let b : Nat := 0; b < 8) ∧
    (let x := ({ fl := fl 0x030D 3 (List.replicate 12 0), chan := 3, role := 0 , state := .wait_ } : FskTx); let s : State := { R with modems := R.modems.set 0 (({ queue := [x] }))  }; let b : Nat := 0; let m := s.modem b; let p := 2; let r := true; let d := [6, 128, 0, 2, 0, 0, 132]; let f := ({ delim := 6, addr := [0x80], cmd := 0, count := 2, data := [0, 0] } : FskFrame); b < 8 ∧ m.head = some x ∧ x.state = .wait_ ∧ fskParse 0x06 0x86 p r d = some f ∧ x.accepts f = true) ∧
    (let x := ({ fl := fl 0x030D 3 (List.replicate 12 0), chan := 3, role := 0 , state := .wait_, since := 43333333 } : FskTx); let s : State := { R with modems := R.modems.set 0 (({ queue := [x] }))  }; let t : Nat := 300000000; let b : Nat := 0; let a := s.advance t; let m := s.modem b; b < 8 ∧ m.head = some x ∧ x.state = .wait_ ∧ x.since + 256666667 ≤ a.clk.now ∧ x.retries = 0) ∧
    (let x := ({ fl := fl 0x030D 3 (List.replicate 12 0), chan := 3, role := 0 , state := .wait_, since := 43333333, retries := 2 } : FskTx); let s : State := { R with modems := R.modems.set 0 (({ queue := [x] }))  }; let t : Nat := 300000000; let b : Nat := 0; let a := s.advance t; let m := s.modem b; b < 8 ∧ m.head = some x ∧ x.state = .wait_ ∧ x.since + 256666667 ≤ a.clk.now ∧ 0 < x.retries) ∧
    (let x := ({ fl := fl 0x030D 3 (List.replicate 12 0), chan := 3, role := 0 , state := .retry, since := 226666666 } : FskTx); let s : State := { R with modems := R.modems.set 0 (({ queue := [x] }))  }; let t : Nat := 300000000; let b : Nat := 0; let a := s.advance t; let m := s.modem b; b < 8 ∧ m.head = some x ∧ x.state = .retry ∧ x.since + 73333334 ≤ a.clk.now ∧ (s.bank b).tripped = false) ∧
    (let n := 3; let o := 64; let r := 0; let s : State := { R with modems := R.modems.set 0 (({ burst := some (n, o, r), attached := some n, attachAt := 300000000 }))  }; let t : Nat := 300000000; let b : Nat := 0; let a := s.advance t; let m := s.modem b; let p := 2; let q := true; let d := [1, 128, 0, 2, 0, 0, 131]; let f := ({ delim := 1, addr := [0x80], cmd := 0, count := 2, data := [0, 0] } : FskFrame); b < 8 ∧ m.burst = some (n, o, r) ∧ m.attached = some n ∧ m.attachAt ≤ a.clk.now ∧ m.queue = [] ∧ fskParse 0x01 0x81 p q d = some f) := by
  refine ⟨?_, ?_, ?_, ?_, ?_, ?_, ?_, ?_, ?_⟩ <;> decide +kernel

theorem test_wit_FskTransactions_2 :
    (let n := 3; let o := 64; let r := 0; let s : State := { R with modems := R.modems.set 0 (({ burst := some (n, o, r), attached := some n, accepted := 4 }))  }; let t : Nat := 300000000; let b : Nat := 0; let a := s.advance t; let m := s.modem b; let p := 2; let q := true; let d := []; b < 8 ∧ m.burst = some (n, o, r) ∧ ((fskParse 0x01 0x81 p q d = none ∨ m.attached ≠ some n ∨ a.clk.now < m.attachAt))) ∧
    (let n := 3; let o := 64; let r := 0; let s : State := { R with modems := R.modems.set 0 (({ burst := some (n, o, r), attached := some 5 }))  }; let t : Nat := 300000000; let b : Nat := 0; let a := s.advance t; let m := s.modem b; let p := 2; let q := true; let d := [1, 128, 0, 2, 0, 0, 131]; b < 8 ∧ m.burst = some (n, o, r) ∧ ((fskParse 0x01 0x81 p q d = none ∨ m.attached ≠ some n ∨ a.clk.now < m.attachAt))) ∧
    (let n := 3; let o := 64; let r := 0; let s : State := { R with modems := R.modems.set 0 (({ burst := some (n, o, r), attached := some n, attachAt := 300000001 }))  }; let t : Nat := 300000000; let b : Nat := 0; let a := s.advance t; let m := s.modem b; let p := 2; let q := true; let d := [1, 128, 0, 2, 0, 0, 131]; b < 8 ∧ m.burst = some (n, o, r) ∧ ((fskParse 0x01 0x81 p q d = none ∨ m.attached ≠ some n ∨ a.clk.now < m.attachAt))) ∧
    (let s : State := R; let b : Nat := 7; let m := s.modem b; b < 8 ∧ m.head = none) := by
  refine ⟨?_, ?_, ?_, ?_⟩ <;> decide +kernel


theorem test_wit_FskOpcodes :
    (let f : Flight := fl 0x030D 0 (List.replicate 12 0); let s : State := ex (cf [(0x10, 96, 64, [(1, 16)])] (R)) (f); let tag : Nat := 0; let b := f.unit / 8; let m := s.modem b; Executes s tag 0x030D f ∧ fskBad (s.func f.unit) f = none ∧ m.queue.length < 8) ∧
    (let f : Flight := fl 0x030D 0 (List.replicate 12 0); let s : State := ex (cf [(0x10, 96, 64, [(1, 16)])] ({ R with modems := R.modems.set 0 (({ queue := List.replicate 8 ({ fl := fl 0x030D 3 (List.replicate 12 0), chan := 3, role := 0  } : FskTx) }))  })) (f); let tag : Nat := 0; let b := f.unit / 8; let m := s.modem b; Executes s tag 0x030D f ∧ fskBad (s.func f.unit) f = none ∧ 8 ≤ m.queue.length) ∧
    (let f : Flight := fl 0x030E 0 [1, 0, 0, 0]; let s : State := ex (cf [(0x10, 96, 64, [(1, 16)])] (R)) (f); let tag : Nat := 0; let b := f.unit / 8; let m := s.modem b; Executes s tag 0x030E f ∧ fskFunc (s.func f.unit) = true ∧ byteAt f.req 16 = 1 ∧ m.burst = none ∧ m.queue = []) ∧
    (let f : Flight := fl 0x030E 0 [1, 0, 0, 0]; let s : State := ex (cf [(0x10, 96, 64, [(1, 16)])] ({ R with modems := R.modems.set 0 (({ burst := some (3, 64, 0) }))  })) (f); let tag : Nat := 0; let b := f.unit / 8; let m := s.modem b; let n := 3; let o := 64; let r := 0; Executes s tag 0x030E f ∧ fskFunc (s.func f.unit) = true ∧ byteAt f.req 16 = 1 ∧ m.burst = some (n, o, r) ∧ n ≠ f.unit) ∧
    (let f : Flight := fl 0x030E 0 [0, 0, 0, 0]; let s : State := ex (cf [(0x10, 96, 64, [(1, 16)])] ({ R with modems := R.modems.set 0 (({ burst := some (0, 64, 0) }))  })) (f); let tag : Nat := 0; let b := f.unit / 8; let m := s.modem b; let o := 64; let r := 0; Executes s tag 0x030E f ∧ fskFunc (s.func f.unit) = true ∧ byteAt f.req 16 = 0 ∧ m.burst = some (f.unit, o, r) ∧ m.queue = []) ∧
    (let f : Flight := fl 0x030E 0 [2, 0, 0, 0]; let s : State := ex (cf [(0x10, 96, 64, [(1, 16)])] (R)) (f); let tag : Nat := 0; Executes s tag 0x030E f ∧ fskFunc (s.func f.unit) = true ∧ 2 ≤ byteAt f.req 16) := by
  refine ⟨?_, ?_, ?_, ?_, ?_, ?_⟩ <;> decide +kernel


theorem test_wit_BankLinks :
    (let s : State := { R with pwr := { R.pwr with stage := .restored } }; let b : Nat := 7; let k := s.bank b; b < 8 ∧ b < s.banks.length ∧ k.power = .off ∧ s.pwr.state = .starting ∧ s.pwr.stage = .restored) ∧
    (let s : State := { R with banks := R.banks.set 0 { power := .up, aligned := true }  }; let b : Nat := 0; let k := s.bank b; b < 8 ∧ b < s.banks.length ∧ ((k.power ≠ .off ∨ s.pwr.state ≠ .starting ∨ s.pwr.stage ≠ .restored))) ∧
    (let s : State := R; let b : Nat := 0; let k := s.bank b; b < 8 ∧ b < s.banks.length ∧ ((k.power ≠ .off ∨ s.pwr.state ≠ .starting ∨ s.pwr.stage ≠ .restored))) ∧
    (let s : State := { R with banks := R.banks.set 0 { power := .starting }  }; let b : Nat := 0; let k := s.bank b; b < 8 ∧ b < s.banks.length ∧ k.power = .starting) ∧
    (let s : State := { R with banks := R.banks.set 0 { power := .up, aligned := true, downSince := some 0 }  }; let t : Nat := 10000000; let b : Nat := 0; let a := s.advance t; let k := s.bank b; let c := 3; b < 8 ∧ b < s.banks.length ∧ k.powered = true ∧ a.faultDue b c = true) ∧
    (let s : State := { R with banks := R.banks.set 0 { power := .starting }  }; let t : Nat := 2000000; let b : Nat := 0; let a := s.advance t; let k := s.bank b; let c := 1; b < 8 ∧ b < s.banks.length ∧ k.powered = true ∧ a.faultDue b c = true) ∧
    (let s : State := { R with banks := R.banks.set 0 { power := .up, aligned := true }  }; let t : Nat := 2000000; let b : Nat := 0; let a := s.advance t; let k := s.bank b; let c := 3; b < 8 ∧ b < s.banks.length ∧ ((k.powered = false ∨ a.faultDue b c = false))) ∧
    (let s : State := R; let t : Nat := 2000000; let b : Nat := 0; let a := s.advance t; let k := s.bank b; let c := 3; b < 8 ∧ b < s.banks.length ∧ ((k.powered = false ∨ a.faultDue b c = false))) ∧
    (let s : State := { R with banks := R.banks.set 0 { power := .up, aligned := true }  }; let b : Nat := 0; b < 8 ∧ b < s.banks.length) := by
  refine ⟨?_, ?_, ?_, ?_, ?_, ?_, ?_, ?_, ?_⟩ <;> decide +kernel

theorem test_wit_BankLinks_2 :
    (let s : State := { R with banks := R.banks.set 0 { power := .starting }  }; let b : Nat := 0; b < 8 ∧ b < s.banks.length) ∧
    (let d := 0; let s : State := { R with banks := R.banks.set 0 { power := .up, aligned := true, downSince := some d }  }; let b : Nat := 0; let k := s.bank b; b < 8 ∧ b < s.banks.length ∧ k.downSince = some d) ∧
    (let s : State := { R with banks := R.banks.set 0 { power := .off }  }; let b : Nat := 0; let k := s.bank b; b < 8 ∧ b < s.banks.length ∧ ((k.powered = false ∨ s.rst.clockLoss ≠ none))) ∧
    (let s : State := { { R with banks := R.banks.set 0 { power := .up, aligned := true }  } with rst := { R.rst with clockLoss := some 3 } }; let b : Nat := 0; let k := s.bank b; b < 8 ∧ b < s.banks.length ∧ ((k.powered = false ∨ s.rst.clockLoss ≠ none))) ∧
    (let s : State := { R with banks := R.banks.set 0 { power := .up, aligned := true }  }; let b : Nat := 0; let k := s.bank b; let f : DownFrame := ({ err := false, seq := 1, body := [1, 2], crc := linkCrc 1 [1, 2], begins := true, block := none, reconfig := true } : DownFrame); b < 8 ∧ b < s.banks.length ∧ k.powered = true ∧ s.rst.clockLoss = none ∧ f.err = false ∧ f.seq = (k.downSeq + 1) % 256 ∧ f.crc = linkCrc f.seq f.body ∧ f.block = none) ∧
    (let s : State := { R with banks := R.banks.set 0 { power := .up, aligned := true }  }; let b : Nat := 0; let k := s.bank b; let q := 7; let f : DownFrame := ({ err := false, seq := 1, body := [1, 2], crc := linkCrc 1 [1, 2], begins := true, block := some q, reconfig := true } : DownFrame); b < 8 ∧ b < s.banks.length ∧ k.powered = true ∧ s.rst.clockLoss = none ∧ s.frameHalted = false ∧ f.err = false ∧ f.seq = (k.downSeq + 1) % 256 ∧ f.crc = linkCrc f.seq f.body ∧ f.block = some q ∧ ((k.blockOpen = true ∨ f.begins = true)) ∧ q % 65536 ≠ k.blockSeq) ∧
    (let s : State := { R with banks := R.banks.set 0 { power := .up, aligned := true, blockOpen := true }  }; let b : Nat := 0; let k := s.bank b; let q := 7; let f : DownFrame := ({ err := false, seq := 1, body := [1, 2], crc := linkCrc 1 [1, 2], begins := false, block := some q, reconfig := true } : DownFrame); b < 8 ∧ b < s.banks.length ∧ k.powered = true ∧ s.rst.clockLoss = none ∧ s.frameHalted = false ∧ f.err = false ∧ f.seq = (k.downSeq + 1) % 256 ∧ f.crc = linkCrc f.seq f.body ∧ f.block = some q ∧ ((k.blockOpen = true ∨ f.begins = true)) ∧ q % 65536 ≠ k.blockSeq) ∧
    (let s : State := { R with banks := R.banks.set 0 { power := .up, aligned := true }  }; let b : Nat := 0; let k := s.bank b; let q := 7; let f : DownFrame := ({ err := false, seq := 1, body := [1, 2], crc := linkCrc 1 [1, 2], begins := false, block := some q, reconfig := true } : DownFrame); b < 8 ∧ b < s.banks.length ∧ k.powered = true ∧ s.rst.clockLoss = none ∧ f.err = false ∧ f.seq = (k.downSeq + 1) % 256 ∧ f.crc = linkCrc f.seq f.body ∧ f.block = some q ∧ ((s.frameHalted = true ∨ k.blockOpen = false ∧ f.begins = false ∨ q % 65536 = k.blockSeq))) ∧
    (let s : State := { R with banks := R.banks.set 0 { power := .up, aligned := true, blockSeq := 0 }  }; let b : Nat := 0; let k := s.bank b; let q := 0; let f : DownFrame := ({ err := false, seq := 1, body := [1, 2], crc := linkCrc 1 [1, 2], begins := true, block := some q, reconfig := true } : DownFrame); b < 8 ∧ b < s.banks.length ∧ k.powered = true ∧ s.rst.clockLoss = none ∧ f.err = false ∧ f.seq = (k.downSeq + 1) % 256 ∧ f.crc = linkCrc f.seq f.body ∧ f.block = some q ∧ ((s.frameHalted = true ∨ k.blockOpen = false ∧ f.begins = false ∨ q % 65536 = k.blockSeq))) := by
  refine ⟨?_, ?_, ?_, ?_, ?_, ?_, ?_, ?_, ?_⟩ <;> decide +kernel

theorem test_wit_BankLinks_3 :
    (let s : State := { { R with banks := R.banks.set 0 { power := .up, aligned := true }  } with sec := { R.sec with dbg := { R.sec.dbg with halted := 2 } } }; let b : Nat := 0; let k := s.bank b; let q := 7; let f : DownFrame := ({ err := false, seq := 1, body := [1, 2], crc := linkCrc 1 [1, 2], begins := true, block := some q, reconfig := true } : DownFrame); b < 8 ∧ b < s.banks.length ∧ k.powered = true ∧ s.rst.clockLoss = none ∧ f.err = false ∧ f.seq = (k.downSeq + 1) % 256 ∧ f.crc = linkCrc f.seq f.body ∧ f.block = some q ∧ ((s.frameHalted = true ∨ k.blockOpen = false ∧ f.begins = false ∨ q % 65536 = k.blockSeq))) ∧
    (let s : State := { R with banks := R.banks.set 0 { power := .up, aligned := true }  }; let b : Nat := 0; let k := s.bank b; let f : DownFrame := ({ err := true, seq := 1, body := [1, 2], crc := linkCrc 1 [1, 2], begins := true, block := none, reconfig := true } : DownFrame); b < 8 ∧ b < s.banks.length ∧ k.powered = true ∧ s.rst.clockLoss = none ∧ ((f.err = true ∨ f.seq ≠ (k.downSeq + 1) % 256 ∨ f.crc ≠ linkCrc f.seq f.body))) ∧
    (let s : State := { R with banks := R.banks.set 0 { power := .up, aligned := true }  }; let b : Nat := 0; let k := s.bank b; let f : DownFrame := ({ err := false, seq := 2, body := [1, 2], crc := linkCrc 2 [1, 2], begins := true, block := none, reconfig := true } : DownFrame); b < 8 ∧ b < s.banks.length ∧ k.powered = true ∧ s.rst.clockLoss = none ∧ ((f.err = true ∨ f.seq ≠ (k.downSeq + 1) % 256 ∨ f.crc ≠ linkCrc f.seq f.body))) ∧
    (let s : State := { R with banks := R.banks.set 0 { power := .up, aligned := true }  }; let b : Nat := 0; let k := s.bank b; let f : DownFrame := ({ err := false, seq := 1, body := [1, 2], crc := linkCrc 1 [1, 2] + 1, begins := true, block := none, reconfig := true } : DownFrame); b < 8 ∧ b < s.banks.length ∧ k.powered = true ∧ s.rst.clockLoss = none ∧ ((f.err = true ∨ f.seq ≠ (k.downSeq + 1) % 256 ∨ f.crc ≠ linkCrc f.seq f.body))) ∧
    (let s : State := { R with banks := R.banks.set 0 { power := .up, aligned := true }  }; let b : Nat := 0; let k := s.bank b; let f : UpFrame := ({ err := false, seq := 1, body := [1, 2], crc := linkCrc 1 [1, 2], house := none } : UpFrame); b < 8 ∧ b < s.banks.length ∧ k.powered = true ∧ s.rst.clockLoss = none ∧ f.err = false ∧ f.seq = (k.upSeq + 1) % 256 ∧ f.crc = linkCrc f.seq f.body) ∧
    (let s : State := { R with banks := R.banks.set 0 { power := .up, aligned := true }  }; let b : Nat := 0; let k := s.bank b; let f : UpFrame := ({ err := false, seq := 0, body := [1, 2], crc := linkCrc 0 [1, 2], house := none } : UpFrame); b < 8 ∧ b < s.banks.length ∧ k.powered = true ∧ s.rst.clockLoss = none ∧ f.err = false ∧ f.crc = linkCrc f.seq f.body ∧ f.seq < 256 ∧ f.seq ≠ (k.upSeq + 1) % 256) ∧
    (let s : State := { R with banks := R.banks.set 0 { power := .up, aligned := true }  }; let b : Nat := 0; let k := s.bank b; let f : UpFrame := ({ err := false, seq := 3, body := [1, 2], crc := linkCrc 3 [1, 2], house := none } : UpFrame); b < 8 ∧ b < s.banks.length ∧ k.powered = true ∧ s.rst.clockLoss = none ∧ f.err = false ∧ f.crc = linkCrc f.seq f.body ∧ f.seq < 256 ∧ f.seq ≠ (k.upSeq + 1) % 256) ∧
    (let s : State := { R with banks := R.banks.set 0 { power := .up, aligned := true }  }; let b : Nat := 0; let k := s.bank b; let f : UpFrame := ({ err := true, seq := 1, body := [1, 2], crc := linkCrc 1 [1, 2], house := none } : UpFrame); b < 8 ∧ b < s.banks.length ∧ k.powered = true ∧ s.rst.clockLoss = none ∧ ((f.err = true ∨ f.crc ≠ linkCrc f.seq f.body))) ∧
    (let s : State := { R with banks := R.banks.set 0 { power := .up, aligned := true }  }; let b : Nat := 0; let k := s.bank b; let f : UpFrame := ({ err := false, seq := 1, body := [1, 2], crc := linkCrc 1 [1, 2] + 1, house := none } : UpFrame); b < 8 ∧ b < s.banks.length ∧ k.powered = true ∧ s.rst.clockLoss = none ∧ ((f.err = true ∨ f.crc ≠ linkCrc f.seq f.body))) := by
  refine ⟨?_, ?_, ?_, ?_, ?_, ?_, ?_, ?_, ?_⟩ <;> decide +kernel

theorem test_wit_BankLinks_4 :
    (let s : State := { R with banks := R.banks.set 0 { power := .up, aligned := true }  }; let t : Nat := 100000; let b : Nat := 0; let a := s.advance t; let k := s.bank b; b < 8 ∧ b < s.banks.length ∧ k.power = .up ∧ k.aligned = true ∧ k.lastUp + 100000 ≤ a.clk.now) ∧
    (let d := 5; let s : State := { R with banks := R.banks.set 0 { downSince := some d }  }; let t : Nat := 10000006; let b : Nat := 0; let a := s.advance t; let k := s.bank b; b < 8 ∧ b < s.banks.length ∧ k.downSince = some d ∧ d + 10000000 < a.clk.now) ∧
    (let d := 5; let s : State := { R with banks := R.banks.set 0 { downSince := some d }  }; let t : Nat := 10000005; let b : Nat := 0; let a := s.advance t; let k := s.bank b; b < 8 ∧ b < s.banks.length ∧ k.downSince = some d ∧ a.clk.now ≤ d + 10000000) ∧
    (let s : State := { R with banks := R.banks.set 0 { power := .up, aligned := true }  }; let t : Nat := 2000000; let b : Nat := 0; let a := s.advance t; let k := s.bank b; b < 8 ∧ b < s.banks.length ∧ k.powered = true ∧ ((k.lastDown + 2000000 ≤ a.clk.now ∨ k.lastBlock + 2 * periodOf s.frame.profile + 2000000 ≤ a.clk.now))) ∧
    (let s : State := { R with banks := R.banks.set 0 { power := .up, aligned := true, lastDown := 1999999 }  }; let t : Nat := 3000000; let b : Nat := 0; let a := s.advance t; let k := s.bank b; b < 8 ∧ b < s.banks.length ∧ k.powered = true ∧ ((k.lastDown + 2000000 ≤ a.clk.now ∨ k.lastBlock + 2 * periodOf s.frame.profile + 2000000 ≤ a.clk.now))) ∧
    (let s : State := { R with banks := R.banks.set 0 { power := .up, aligned := true }  }; let t : Nat := 1999999; let b : Nat := 0; let a := s.advance t; let k := s.bank b; b < 8 ∧ b < s.banks.length ∧ k.powered = true ∧ a.clk.now < k.lastDown + 2000000 ∧ a.clk.now < k.lastBlock + 2 * periodOf s.frame.profile + 2000000) := by
  refine ⟨?_, ?_, ?_, ?_, ?_, ?_⟩ <;> decide +kernel


theorem test_wit_BankFrontEnds :
    (let s : State := { R with banks := R.banks.set 0 { lands := List.replicate 18 { beyond := true } }  }; let b : Nat := 0; let k := s.bank b; let l := 17; b < 8 ∧ l < 18 ∧ (k.lands.getD l {}).beyond = true) ∧
    (let s : State := R; let b : Nat := 0; let k := s.bank b; let l := 15; b < 8 ∧ l < 16 ∧ b < s.banks.length ∧ l < k.lands.length ∧ (k.lands.getD l {}).beyond = false ∧ isOut (s.func (8 * b + l / 2)) = false) ∧
    (let s : State := R; let b : Nat := 0; let k := s.bank b; let l := 0; b < 8 ∧ l < 16 ∧ b < s.banks.length ∧ l < k.lands.length ∧ (k.lands.getD l {}).beyond = false ∧ isOut (s.func (8 * b + l / 2)) = false) ∧
    (let s : State := cf [(0x10, 96, 64, [(1, 16)])] ({ R with outs := R.outs.set 0 { drive := .run } }); let b : Nat := 0; let k := s.bank b; let l := 1; b < 8 ∧ l < 16 ∧ b < s.banks.length ∧ l < k.lands.length ∧ (k.lands.getD l {}).beyond = false ∧ isOut (s.func (8 * b + l / 2)) = true ∧ (s.out (8 * b + l / 2)).drive.working = true ∧ (s.out (8 * b + l / 2)).drive.ramping = false ∧ 8 * b + l / 2 < s.outs.length) ∧
    (let s : State := R; let b : Nat := 0; let k := s.bank b; let l := 17; b < 8 ∧ l < 18 ∧ (k.lands.getD l {}).beyond = false) ∧
    (let s : State := { R with banks := R.banks.set 0 { lands := List.replicate 18 { beyond := true } }  }; let b : Nat := 0; let k := s.bank b; let l := 17; b < 8 ∧ l < 18 ∧ b < s.banks.length ∧ (k.lands.getD l {}).beyond = true) ∧
    (let b : Nat := 0; b < 8) ∧
    (let n := 3; let v := 0; let s : State := { R with banks := R.banks.set 0 { vexFault := true, vex := some (n, v) }  }; let b : Nat := 0; let k := s.bank b; b < 8 ∧ k.vexFault = true ∧ k.vex = some (n, v)) ∧
    (let s : State := { R with banks := R.banks.set 0 { amps := List.replicate 2 { state := .measuring , resets := [1, 2, 3] } }  }; let t : Nat := 2000000; let b : Nat := 0; let a := s.advance t; let ch := 7; b < 8 ∧ ch < 64 ∧ 6 ≤ ch % 8 ∧ (s.amp (ch / 8) (ch % 8 - 6)).state = .measuring ∧ ((s.amp (ch / 8) (ch % 8 - 6)).recent a.clk.now).length = 3) := by
  refine ⟨?_, ?_, ?_, ?_, ?_, ?_, ?_, ?_, ?_⟩ <;> decide +kernel

theorem test_wit_BankFrontEnds_2 :
    (let s : State := { R with banks := R.banks.set 0 { amps := List.replicate 2 { state := .measuring  } }  }; let t : Nat := 2000000; let b : Nat := 0; let a := s.advance t; let ch := 7; b < 8 ∧ ch < 64 ∧ 6 ≤ ch % 8 ∧ ch / 8 < s.banks.length ∧ ch % 8 - 6 < (s.bank (ch / 8)).amps.length ∧ (s.amp (ch / 8) (ch % 8 - 6)).state = .measuring ∧ ((s.amp (ch / 8) (ch % 8 - 6)).recent a.clk.now).length < 3) ∧
    (let s : State := { R with banks := R.banks.set 0 { amps := List.replicate 2 { state := .measuring , resets := [1, 2] } }  }; let t : Nat := 2000000; let b : Nat := 0; let a := s.advance t; let ch := 7; b < 8 ∧ ch < 64 ∧ 6 ≤ ch % 8 ∧ ch / 8 < s.banks.length ∧ ch % 8 - 6 < (s.bank (ch / 8)).amps.length ∧ (s.amp (ch / 8) (ch % 8 - 6)).state = .measuring ∧ ((s.amp (ch / 8) (ch % 8 - 6)).recent a.clk.now).length < 3) ∧
    (let s : State := { R with banks := R.banks.set 0 { amps := List.replicate 2 { state := .holding 2000000  } }  }; let t : Nat := 2000000; let b : Nat := 0; let a := s.advance t; let ch := 7; let x := 2000000; b < 8 ∧ ch < 64 ∧ 6 ≤ ch % 8 ∧ (s.amp (ch / 8) (ch % 8 - 6)).state = .holding x ∧ x ≤ a.clk.now) ∧
    (let s : State := { R with banks := R.banks.set 0 { amps := List.replicate 2 { state := .resetting 2000000  } }  }; let t : Nat := 2000000; let b : Nat := 0; let a := s.advance t; let ch := 7; let x := 2000000; b < 8 ∧ ch < 64 ∧ 6 ≤ ch % 8 ∧ (s.amp (ch / 8) (ch % 8 - 6)).state = .resetting x ∧ x ≤ a.clk.now) ∧
    (let s : State := cf [(0x10, 96, 64, [(1, 11), (7 * 96 + 1, 11)])] (R); let b : Nat := 0; let ch := 7; b < 8 ∧ ch < 64 ∧ 6 ≤ ch % 8 ∧ s.func ch = 11 ∧ (s.chan ch).biasOpen = false) ∧
    (let s : State := { { R with banks := R.banks.set 0 { power := .up, aligned := true }  } with frame := { R.frame with profile := 3, running := true, seq := 8, nextTick := 27000000 } }; let t : Nat := 5000000; let b : Nat := 0; let a := s.advance t; let k := s.bank b; b < 8 ∧ s.frame.profile = 3 ∧ k.power = .up ∧ a.burstDue b = true) ∧
    (let s : State := R; let t : Nat := 2000000; let b : Nat := 0; let a := s.advance t; let k := s.bank b; b < 8 ∧ ((s.frame.profile ≠ 3 ∨ k.power ≠ .up ∨ a.burstDue b = false))) ∧
    (let s : State := { { R with banks := R.banks.set 0 { power := .up, aligned := true }  } with frame := { R.frame with profile := 3, running := true, seq := 8, nextTick := 999000000 } }; let t : Nat := 2000000; let b : Nat := 0; let a := s.advance t; let k := s.bank b; b < 8 ∧ ((s.frame.profile ≠ 3 ∨ k.power ≠ .up ∨ a.burstDue b = false))) := by
  refine ⟨?_, ?_, ?_, ?_, ?_, ?_, ?_, ?_⟩ <;> decide +kernel


theorem test_wit_InsulationMonitor :
    (let s : State := { { R with banks := R.banks.set 0 { power := .up, aligned := true, insul := { gen := 0 } }  } with pwr := { R.pwr with state := .safe } }; let t : Nat := 0; let b : Nat := 0; let a := s.advance t; let i := (s.bank b).insul; b < 8 ∧ b < s.banks.length ∧ s.bankUp b = true ∧ i.hullRef = false ∧ s.pwr.state ≠ .standby ∧ s.pwr.state ≠ .holdup ∧ i.gen = 0 ∧ a.insulPhase b < 2000000000) ∧
    (let s : State := { { R with banks := R.banks.set 0 { power := .up, aligned := true, insul := { gen := 0 } }  } with pwr := { R.pwr with state := .safe } }; let t : Nat := 2000000000; let b : Nat := 0; let a := s.advance t; let i := (s.bank b).insul; b < 8 ∧ b < s.banks.length ∧ s.bankUp b = true ∧ i.hullRef = false ∧ s.pwr.state ≠ .standby ∧ s.pwr.state ≠ .holdup ∧ i.gen = 0 ∧ 2000000000 ≤ a.insulPhase b) ∧
    (let s : State := { { R with banks := R.banks.set 0 { power := .up, aligned := true, insul := { gen := 1 } }  } with pwr := { R.pwr with state := .safe } }; let b : Nat := 0; let i := (s.bank b).insul; b < 8 ∧ b < s.banks.length ∧ s.bankUp b = true ∧ i.hullRef = false ∧ s.pwr.state ≠ .standby ∧ s.pwr.state ≠ .holdup ∧ i.gen ≠ 0) ∧
    (let s : State := R; let b : Nat := 0; let i := (s.bank b).insul; b < 8 ∧ b < s.banks.length ∧ ((s.bankUp b = false ∨ i.hullRef = true ∨ s.pwr.state = .standby ∨ s.pwr.state = .holdup))) ∧
    (let s : State := { R with banks := R.banks.set 0 { power := .up, aligned := true, insul := { hullRef := true } }  }; let b : Nat := 0; let i := (s.bank b).insul; b < 8 ∧ b < s.banks.length ∧ ((s.bankUp b = false ∨ i.hullRef = true ∨ s.pwr.state = .standby ∨ s.pwr.state = .holdup))) ∧
    (let s : State := { { R with banks := R.banks.set 0 { power := .up, aligned := true, insul := { gen := 1 } }  } with pwr := { R.pwr with state := .standby } }; let b : Nat := 0; let i := (s.bank b).insul; b < 8 ∧ b < s.banks.length ∧ ((s.bankUp b = false ∨ i.hullRef = true ∨ s.pwr.state = .standby ∨ s.pwr.state = .holdup))) ∧
    (let s : State := R; let b : Nat := 0; let i := (s.bank b).insul; b < 8 ∧ b < s.banks.length ∧ ((i.gen = 0 ∨ i.hullRef = true))) ∧
    (let s : State := { R with banks := R.banks.set 0 { power := .up, aligned := true, insul := { gen := 1, hullRef := true } }  }; let b : Nat := 0; let i := (s.bank b).insul; b < 8 ∧ b < s.banks.length ∧ ((i.gen = 0 ∨ i.hullRef = true))) ∧
    (let s : State := { { R with banks := R.banks.set 0 { power := .up, aligned := true, insul := { gen := 2 } }  } with pwr := { R.pwr with state := .safe } }; let b : Nat := 0; let i := (s.bank b).insul; b < 8 ∧ b < s.banks.length ∧ i.gen ≠ 0 ∧ i.hullRef = false ∧ i.ran = false) := by
  refine ⟨?_, ?_, ?_, ?_, ?_, ?_, ?_, ?_, ?_⟩ <;> decide +kernel

theorem test_wit_InsulationMonitor_2 :
    (let s : State := { { R with banks := R.banks.set 0 { power := .up, aligned := true, insul := { gen := 2, ran := true, periods := 255 } }  } with pwr := { R.pwr with state := .safe } }; let b : Nat := 0; let i := (s.bank b).insul; let m := ({ v1 := 0x40A00000, v2 := 0xC0A00000, i1 := 0x3727C5AC, i2 := 0xB727C5AC, ich1 := [], ich2 := [], qEdge := 0x33D6BF95, half := 0, depart := 0, regLost := false, stepSlot := none } : InsulIn); b < 8 ∧ b < s.banks.length ∧ i.gen ≠ 0 ∧ i.hullRef = false ∧ i.ran = true ∧ i.spans = false ∧ m.regLost = false ∧ m.stepSlot = none ∧ m.half = 0 ∧ m.depart = 0) := by decide +kernel


theorem test_wit_AlarmOpcodes :
    (let f : Flight := fl 0x0403 0 []; let s : State := ex (cf [(0x21, 48, 8, [(3, 1), (36, 9)])] (R)) (f); let tag : Nat := 0; let c := s.weirCfgOf f.unit; Executes s tag 0x0403 f ∧ c.enable = true) ∧
    (let f : Flight := fl 0x0404 0 [9, 0, 0, 0]; let s : State := ex (cf [(0x21, 48, 8, [(3, 1), (36, 9)])] (R)) (f); let tag : Nat := 0; let c := s.weirCfgOf f.unit; Executes s tag 0x0404 f ∧ c.enable = true ∧ u32At f.req 16 ≤ c.shelfLimit) ∧
    (let f : Flight := fl 0x0404 0 [10, 0, 0, 0]; let s : State := ex (cf [(0x21, 48, 8, [(3, 1), (36, 9)])] (R)) (f); let tag : Nat := 0; let c := s.weirCfgOf f.unit; Executes s tag 0x0404 f ∧ c.enable = true ∧ c.shelfLimit < u32At f.req 16) ∧
    (let f : Flight := fl 0x0405 0 [1, 0, 0, 0]; let s : State := ex (cf [(0x21, 48, 8, [(3, 1), (36, 9)])] (R)) (f); let tag : Nat := 0; let c := s.weirCfgOf f.unit; Executes s tag 0x0405 f ∧ c.enable = true) ∧
    (let f : Flight := fl 0x0405 0 [0, 0, 0, 0]; let s : State := ex (cf [(0x21, 48, 8, [(3, 1), (36, 9)])] (R)) (f); let tag : Nat := 0; let c := s.weirCfgOf f.unit; Executes s tag 0x0405 f ∧ c.enable = true) ∧
    (let f : Flight := fl 0x0403 1 []; let s : State := ex (cf [(0x21, 48, 8, [(3, 1), (36, 9)])] (R)) (f); let tag : Nat := 0; let c := s.weirCfgOf f.unit; c.enable = false ∧ Executes s tag 0x0403 f) ∧
    (let f : Flight := fl 0x0404 1 [1, 0, 0, 0]; let s : State := ex (cf [(0x21, 48, 8, [(3, 1), (36, 9)])] (R)) (f); let tag : Nat := 0; let c := s.weirCfgOf f.unit; c.enable = false ∧ Executes s tag 0x0404 f) ∧
    (let f : Flight := fl 0x0405 1023 [1, 0, 0, 0]; let s : State := ex (cf [(0x21, 48, 8, [(3, 1), (36, 9)])] (R)) (f); let tag : Nat := 0; let c := s.weirCfgOf f.unit; c.enable = false ∧ Executes s tag 0x0405 f) ∧
    (let f : Flight := fl 0x0408 0 []; let s : State := ex (cf [(0x21, 48, 8, [(3, 1), (36, 9)])] (R)) (f); let tag : Nat := 0; Executes s tag 0x0408 f) := by
  refine ⟨?_, ?_, ?_, ?_, ?_, ?_, ?_, ?_, ?_⟩ <;> decide +kernel

theorem test_wit_AlarmOpcodes_2 :
    (let f : Flight := fl 0x0408 0 []; let s : State := ex ({ R with prev := { R.prev with weirs := R.prev.weirs.set 0 { shelf := some 2000000000, raw := true, cross := 77 } } }) (f); let tag : Nat := 0; Executes s tag 0x0408 f) ∧
    (let f : Flight := fl 0x0409 0 []; let s : State := ex (cf [(0x20, 64, 1, [(1, 15)])] R) (f); let tag : Nat := 0; Executes s tag 0x0409 f ∧ (s.blendCfgOf f.unit).op = 15) ∧
    (let f : Flight := fl 0x0409 0 []; let s : State := ex (cf [(0x21, 48, 8, [(3, 1), (36, 9)])] (R)) (f); let tag : Nat := 0; Executes s tag 0x0409 f ∧ (s.blendCfgOf f.unit).op ≠ 15) ∧
    (let f : Flight := fl 0x0502 127 []; let s : State := ex (cf [(0x21, 48, 8, [(3, 1), (36, 9)])] (R)) (f); let tag : Nat := 0; Executes s tag 0x0502 f) ∧
    (let f : Flight := fl 0x0505 0 [0, 0, 0, 0]; let s : State := ex (cf [(0x31, 16, 4, [(1, 1)])] (R)) (f); let tag : Nat := 0; let b := byteAt f.req 16; Executes s tag 0x0505 f ∧ (s.foCfgOf b).enable = true ∧ (s.fo b).state = .idle) ∧
    (let f : Flight := fl 0x0505 0 [0, 0, 0, 0]; let s : State := ex (cf [(0x31, 16, 4, [(1, 1), (2, 12)])] ({ R with eng := { R.eng with fo := R.eng.fo.set 0 { state := .open_ } }, frame := { R.frame with captNow := 100000000000, captBase := 100000000000 } })) (f); let tag : Nat := 0; let b := byteAt f.req 16; Executes s tag 0x0505 f ∧ (s.foCfgOf b).enable = true ∧ (s.fo b).state = .open_) ∧
    (let f : Flight := fl 0x0505 0 [0, 0, 0, 0]; let s : State := ex (cf [(0x31, 16, 4, [(1, 1)])] ({ R with eng := { R.eng with fo := R.eng.fo.set 0 { state := .decided } }, frame := { R.frame with captNow := 100000000000, captBase := 100000000000 } })) (f); let tag : Nat := 0; let b := byteAt f.req 16; Executes s tag 0x0505 f ∧ (s.foCfgOf b).enable = true ∧ (s.fo b).state = .decided ∧ s.foHome (s.foCfgOf b) = true) ∧
    (let f : Flight := fl 0x0506 0 [31, 0, 0, 0]; let s : State := ex (cf [(0x21, 48, 8, [(3, 1), (36, 9)])] (R)) (f); let tag : Nat := 0; let b := byteAt f.req 16; Executes s tag 0x0506 f ∧ (s.prev.fo.getD b {}).state ≠ .open_) ∧
    (let f : Flight := fl 0x0509 0 [0, 0, 0, 0]; let s : State := ex (cf [(0x32, 64, 4, [(1, 1), (2, 3), (4, 60), (8, 60)])] ({ R with eng := { R.eng with chains := R.eng.chains.set 0 { state := .calling } }, frame := { R.frame with captNow := 100000000000, captBase := 100000000000 } })) (f); let tag : Nat := 0; let b := byteAt f.req 16; Executes s tag 0x0509 f ∧ (s.chain b).state ≠ .idle ∧ (s.chainCfgOf b).acceptS ≠ 0) := by
  refine ⟨?_, ?_, ?_, ?_, ?_, ?_, ?_, ?_, ?_⟩ <;> decide +kernel

theorem test_wit_AlarmOpcodes_3 :
    (let f : Flight := fl 0x0509 0 [0, 0, 0, 0]; let s : State := ex (cf [(0x21, 48, 8, [(3, 1), (36, 9)])] (R)) (f); let tag : Nat := 0; let b := byteAt f.req 16; Executes s tag 0x0509 f ∧ (((s.chain b).state = .idle ∨ (s.chainCfgOf b).acceptS = 0))) ∧
    (let f : Flight := fl 0x0509 0 [1, 0, 0, 0]; let s : State := ex (cf [(0x32, 64, 4, [(1, 1), (2, 3), (4, 60), (8, 60)])] ({ R with eng := { R.eng with chains := R.eng.chains.set 1 { state := .calling } }, frame := { R.frame with captNow := 100000000000, captBase := 100000000000 } })) (f); let tag : Nat := 0; let b := byteAt f.req 16; Executes s tag 0x0509 f ∧ (((s.chain b).state = .idle ∨ (s.chainCfgOf b).acceptS = 0))) ∧
    (let f : Flight := fl 0x050A 0 [0, 0, 0, 0]; let s : State := ex (cf [(0x21, 48, 8, [(3, 1), (36, 9)])] (R)) (f); let tag : Nat := 0; let b := byteAt f.req 16; Executes s tag 0x050A f ∧ (s.prev.chains.getD b {}).state = .idle ∧ s.prev.dead.state = .disarmed) ∧
    (let f : Flight := fl 0x050B 0 [0, 0, 0, 0]; let s : State := ex (cf [(0x33, 16, 17, [(1, 1)])] (R)) (f); let tag : Nat := 0; let b := byteAt f.req 16; Executes s tag 0x050B f ∧ ((∃ m ∈ List.range 16, eligible s.cfg.img m = true)) ∧ ((b = 2 ∨ (b = 0 ∧ eligible s.cfg.img (byteAt f.req 17) = true)))) ∧
    (let f : Flight := fl 0x050B 0 [2, 0, 0, 0]; let s : State := ex (cf [(0x33, 16, 17, [(1, 1)])] (R)) (f); let tag : Nat := 0; let b := byteAt f.req 16; Executes s tag 0x050B f ∧ ((∃ m ∈ List.range 16, eligible s.cfg.img m = true)) ∧ ((b = 2 ∨ (b = 0 ∧ eligible s.cfg.img (byteAt f.req 17) = true)))) ∧
    (let f : Flight := fl 0x050B 0 [0, 0, 0, 0]; let s : State := ex (cf [(0x21, 48, 8, [(3, 1), (36, 9)])] (R)) (f); let tag : Nat := 0; Executes s tag 0x050B f ∧ ((∀ m ∈ List.range 16, eligible s.cfg.img m = false))) ∧
    (let f : Flight := fl 0x050C 0 [2, 0, 0, 0]; let s : State := ex (cf [(0x21, 48, 8, [(3, 1), (36, 9)])] (R)) (f); let tag : Nat := 0; let b := byteAt f.req 16; Executes s tag 0x050C f ∧ ¬ (b = 2 ∧ s.eng.dead.state = .alarm)) ∧
    (let f : Flight := fl 0x050C 0 [1, 0, 0, 0]; let s : State := ex ({ R with eng := { R.eng with dead := { state := .alarm } }, frame := { R.frame with captNow := 100000000000, captBase := 100000000000 } }) (f); let tag : Nat := 0; let b := byteAt f.req 16; Executes s tag 0x050C f ∧ ¬ (b = 2 ∧ s.eng.dead.state = .alarm)) ∧
    (let f : Flight := fl 0x050C 0 [2, 0, 0, 0]; let s : State := ex ({ R with eng := { R.eng with dead := { state := .alarm } }, frame := { R.frame with captNow := 100000000000, captBase := 100000000000 } }) (f); let tag : Nat := 0; let b := byteAt f.req 16; Executes s tag 0x050C f ∧ b = 2 ∧ s.eng.dead.state = .alarm) := by
  refine ⟨?_, ?_, ?_, ?_, ?_, ?_, ?_, ?_, ?_⟩ <;> decide +kernel


theorem test_wit_AlarmEvents :
    (let s : State := cf [(0x21, 48, 8, [(3, 1), (36, 9), (24, 4)])] ({ R with eng := { R.eng with weirs := R.eng.weirs.set 0 { running := true, raw := true, elapsed := 3 } }, frame := { R.frame with captNow := 100000000000, captBase := 100000000000 } }); let t : Nat := 100000000000; let b := s.toFrame t; let w := 0; w < 1024 ∧ b.frame.nextTick ≤ b.clk.now ∧ (s.weirCfgOf w).enable = true ∧ (b.weir w).running = true ∧ (b.weir w).raw = true ∧ (s.weirCfgOf w).nOn ≤ (b.weir w).elapsed + 1) ∧
    (let s : State := cf [(0x21, 48, 8, [(3, 1), (36, 9)])] ({ R with eng := { R.eng with weirs := R.eng.weirs.set 0 { suspects := 256, raw := true, cond := true } }, frame := { R.frame with captNow := 100000000000, captBase := 100000000000 } }); let w := 0; w < 1024 ∧ w < s.eng.weirs.length ∧ (s.weirCfgOf w).enable = true ∧ 256 ≤ (s.weir w).suspects ∧ (s.weir w).failed = false) ∧
    (let s : State := { R with eng := { R.eng with weirs := R.eng.weirs.set 1023 { shelf := some 5, state := .shelved } }, frame := { R.frame with captNow := 100000000000, captBase := 100000000000 } }; let t : Nat := 100000000000; let b := s.toFrame t; let w := 1023; let e := 5; w < 1024 ∧ w < s.eng.weirs.length ∧ (s.weir w).shelf = some e ∧ e ≤ b.frame.captFlow) ∧
    (let s : State := R; let w := 1023; w < 1024 ∧ (s.weir w).shelf = none) ∧
    (let w := 1023; w < 1024) ∧
    (let k := 255; k < 256) ∧
    (let s : State := { R with eng := { R.eng with groups := R.eng.groups.set 127 { supp := .releasing 5 } }, frame := { R.frame with captNow := 100000000000, captBase := 100000000000 } }; let t : Nat := 100000000000; let b := s.toFrame t; let g := 127; let e := 5; g < 128 ∧ g < s.eng.groups.length ∧ (s.group g).supp = .releasing e ∧ e ≤ b.frame.captFlow) ∧
    (let s : State := cf [(0x30, 32, 1, [(13, 0)])] ({ R with eng := { R.eng with buttons := R.eng.buttons.set 0 { high := some 39999999999 } }, frame := { R.frame with captNow := 100000000000, captBase := 100000000000 } }); let t : Nat := 100000000000; let b := s.toFrame t; let i := 0; let since := 39999999999; i < 16 ∧ i < s.eng.buttons.length ∧ (s.eng.buttons.getD i {}).high = some since ∧ (s.eng.buttons.getD i {}).stuck = false ∧ since + 60000000000 < b.frame.captFlow ∧ s.buttonGroups i ≠ []) ∧
    (let x := ({ node := 0, weir := 5, role := 0, ts := 7, res := 1 } : FoCand); let s : State := cf [(0x31, 16, 4, [(1, 1)])] ({ R with eng := { R.eng with fo := R.eng.fo.set 0 { state := .open_, first := some x, windowEnd := 100000000000 } }, frame := { R.frame with captNow := 100000000000, captBase := 100000000000 } }); let t : Nat := 100000000000; let b := s.toFrame t; let k := 0; k < 32 ∧ k < s.eng.fo.length ∧ (b.fo k).state = .open_ ∧ (b.fo k).first = some x ∧ s.foHome (s.foCfgOf k) = true ∧ (b.fo k).windowEnd ≤ b.frame.captBase) := by
  refine ⟨?_, ?_, ?_, ?_, ?_, ?_, ?_, ?_, ?_⟩ <;> decide +kernel

theorem test_wit_AlarmEvents_2 :
    (let x := ({ node := 0, weir := 5, role := 0, ts := 7, res := 1 } : FoCand); let s : State := cf [(0x31, 16, 4, [(1, 3), (2, 12)])] ({ R with eng := { R.eng with fo := R.eng.fo.set 0 { state := .open_, first := some x, windowEnd := 99750000000 } }, frame := { R.frame with captNow := 100000000000, captBase := 100000000000 } }); let t : Nat := 100000000000; let b := s.toFrame t; let k := 0; k < 32 ∧ k < s.eng.fo.length ∧ (b.fo k).state = .open_ ∧ (b.fo k).first = some x ∧ s.foHome (s.foCfgOf k) = false ∧ (b.fo k).windowEnd + 250000000 ≤ b.frame.captBase) ∧
    (let at_ := 100000000000; let o := 64; let s : State := { R with eng := { R.eng with fo := R.eng.fo.set 31 { state := .decided, resetAt := some (at_, o), mismatch := true } }, frame := { R.frame with captNow := 100000000000, captBase := 100000000000 } }; let t : Nat := 100000000000; let b := s.toFrame t; let k := 31; k < 32 ∧ k < s.eng.fo.length ∧ (b.fo k).resetAt = some (at_, o) ∧ at_ ≤ b.captGrid ∧ (b.fo k).state = .decided) ∧
    (let x := 95000000000; let s : State := cf [(0x31, 16, 4, [(1, 5), (10, 5)])] ({ R with eng := { R.eng with fo := R.eng.fo.set 0 { state := .decided, quiet := some x } }, frame := { R.frame with captNow := 100000000000, captBase := 100000000000 } }); let t : Nat := 100000000000; let b := s.toFrame t; let k := 0; k < 32 ∧ k < s.eng.fo.length ∧ (s.foCfgOf k).autoReset = true ∧ (b.fo k).state = .decided ∧ b.foQuiet k = true ∧ (b.fo k).quiet = some x ∧ x + 1000000000 * (s.foCfgOf k).autoS ≤ b.frame.captFlow) ∧
    (let s : State := cf [(0x31, 16, 1, [(1, 5), (10, 5)]), (0x21, 48, 1, [(3, 1), (33, 0)])] ({ R with eng := { R.eng with fo := R.eng.fo.set 0 { state := .decided, quiet := some 7 }, weirs := R.eng.weirs.set 0 { state := .activeAck } }, frame := { R.frame with captNow := 100000000000, captBase := 100000000000 } }); let t : Nat := 100000000000; let b := s.toFrame t; let k := 0; k < 32 ∧ k < s.eng.fo.length ∧ (s.foCfgOf k).autoReset = true ∧ (b.fo k).state = .decided ∧ b.foQuiet k = false) := by
  refine ⟨?_, ?_, ?_, ?_⟩ <;> decide +kernel


theorem test_wit_CallEvents :
    (let s : State := cf [(0x32, 64, 4, [(1, 1), (2, 3), (4, 60), (8, 60)])] ({ R with eng := { R.eng with chains := R.eng.chains.set 0 { state := .calling, since := 40000000000, silenced := [(1, 2)], cat := 1 } }, frame := { R.frame with captNow := 100000000000, captBase := 100000000000 } }); let t : Nat := 100000000000; let c : Nat := 0; let b := s.toFrame t; let x := b.chain c; c < 16 ∧ c < s.eng.chains.length ∧ x.state = .calling ∧ x.stage + 1 < (s.chainCfgOf c).stages ∧ x.since + 1000000000 * s.dwell c x.stage ≤ b.frame.captFlow ∧ x.forced = false) ∧
    (let s : State := R; let t : Nat := 100000000000; let c : Nat := 15; let b := s.toFrame t; let x := b.chain c; c < 16 ∧ c < s.eng.chains.length ∧ ((x.state ≠ .calling ∨ x.forced = true ∨ b.frame.captFlow < x.since + 1000000000 * s.dwell c x.stage))) ∧
    (let s : State := cf [(0x32, 64, 4, [(1, 1), (2, 3), (4, 60), (8, 60)])] ({ R with eng := { R.eng with chains := R.eng.chains.set 0 { state := .calling, since := 40000000001 } }, frame := { R.frame with captNow := 100000000000, captBase := 100000000000 } }); let t : Nat := 100000000000; let c : Nat := 0; let b := s.toFrame t; let x := b.chain c; c < 16 ∧ c < s.eng.chains.length ∧ ((x.state ≠ .calling ∨ x.forced = true ∨ b.frame.captFlow < x.since + 1000000000 * s.dwell c x.stage))) ∧
    (let s : State := cf [(0x32, 64, 4, [(1, 1), (2, 3), (4, 60), (8, 60)])] ({ R with eng := { R.eng with chains := R.eng.chains.set 0 { state := .calling, forced := true } }, frame := { R.frame with captNow := 100000000000, captBase := 100000000000 } }); let t : Nat := 100000000000; let c : Nat := 0; let b := s.toFrame t; let x := b.chain c; c < 16 ∧ c < s.eng.chains.length ∧ ((x.state ≠ .calling ∨ x.forced = true ∨ b.frame.captFlow < x.since + 1000000000 * s.dwell c x.stage))) ∧
    (let s : State := cf [(0x32, 64, 4, [(1, 1), (2, 3), (4, 60), (8, 60)])] ({ R with eng := { R.eng with chains := R.eng.chains.set 0 { state := .accepted, since := 40000000000 } }, frame := { R.frame with captNow := 100000000000, captBase := 100000000000 } }); let t : Nat := 100000000000; let c : Nat := 0; let b := s.toFrame t; let x := b.chain c; c < 16 ∧ c < s.eng.chains.length ∧ x.state = .accepted ∧ x.since + 1000000000 * (s.chainCfgOf c).acceptS ≤ b.frame.captFlow) ∧
    (let s : State := cf [(0x32, 64, 4, [(1, 1), (2, 3), (4, 60), (8, 60)])] ({ R with eng := { R.eng with chains := R.eng.chains.set 0 { state := .accepted, stage := 2, since := 40000000000 } }, frame := { R.frame with captNow := 100000000000, captBase := 100000000000 } }); let t : Nat := 100000000000; let c : Nat := 0; let b := s.toFrame t; let x := b.chain c; c < 16 ∧ c < s.eng.chains.length ∧ x.state = .accepted ∧ x.since + 1000000000 * (s.chainCfgOf c).acceptS ≤ b.frame.captFlow) ∧
    (let s : State := R; let t : Nat := 100000000000; let c : Nat := 0; let b := s.toFrame t; let x := b.chain c; c < 16 ∧ c < s.eng.chains.length ∧ x.state ≠ .accepted) ∧
    (let n := 100000000000; let s : State := cf [(0x32, 64, 4, [(1, 1), (2, 3), (4, 60), (8, 60)])] ({ R with eng := { R.eng with chains := R.eng.chains.set 0 { state := .calling, nextCall := some n } }, frame := { R.frame with captNow := 100000000000, captBase := 100000000000 } }); let t : Nat := 100000000000; let c : Nat := 0; let b := s.toFrame t; let x := b.chain c; c < 16 ∧ c < s.eng.chains.length ∧ x.nextCall = some n ∧ n ≤ b.frame.captFlow ∧ x.state ≠ .idle) ∧
    (let s : State := cf [(0x32, 64, 4, [(1, 1), (2, 3), (4, 60), (8, 60)])] ({ R with eng := { R.eng with chains := R.eng.chains.set 0 { cancels := 2, nextCancel := 100000000000 } }, frame := { R.frame with captNow := 100000000000, captBase := 100000000000 } }); let t : Nat := 100000000000; let c : Nat := 0; let b := s.toFrame t; let x := b.chain c; c < 16 ∧ c < s.eng.chains.length ∧ x.state = .idle ∧ x.cancels ≠ 0 ∧ x.nextCancel ≤ b.frame.captFlow) := by
  refine ⟨?_, ?_, ?_, ?_, ?_, ?_, ?_, ?_, ?_⟩ <;> decide +kernel

theorem test_wit_CallEvents_2 :
    (let s : State := R; let t : Nat := 100000000000; let c : Nat := 0; let b := s.toFrame t; let x := b.chain c; c < 16 ∧ c < s.eng.chains.length ∧ ((x.state ≠ .idle ∨ x.cancels = 0))) ∧
    (let s : State := cf [(0x32, 64, 4, [(1, 1), (2, 3), (4, 60), (8, 60)])] ({ R with eng := { R.eng with chains := R.eng.chains.set 0 { state := .calling, cancels := 2 } }, frame := { R.frame with captNow := 100000000000, captBase := 100000000000 } }); let t : Nat := 100000000000; let c : Nat := 0; let b := s.toFrame t; let x := b.chain c; c < 16 ∧ c < s.eng.chains.length ∧ ((x.state ≠ .idle ∨ x.cancels = 0))) ∧
    (let h := ({ member := 0, since := 40000000000, confirmed := true } : Handover); let s : State := { R with eng := { R.eng with duty := { pending := some h } }, frame := { R.frame with captNow := 100000000000, captBase := 100000000000 } }; let t : Nat := 100000000000; let c : Nat := 0; let b := s.toFrame t; c < 16 ∧ c < s.eng.chains.length ∧ b.eng.duty.pending = some h ∧ h.confirmed = true ∧ ((∀ y ∈ b.eng.chains, y.state = .idle ∨ y.stage = 0))) ∧
    (let h := ({ member := 0, since := 40000000000, confirmed := false } : Handover); let s : State := { R with eng := { R.eng with duty := { pending := some h } }, frame := { R.frame with captNow := 100000000000, captBase := 100000000000 } }; let t : Nat := 100000000000; let c : Nat := 0; let b := s.toFrame t; c < 16 ∧ c < s.eng.chains.length ∧ b.eng.duty.pending = some h ∧ h.confirmed = false) ∧
    (let h := ({ member := 0, since := 40000000000, confirmed := false } : Handover); let s : State := cf [(0x33, 16, 17, [(16 * 16 + 1, 1), (16 * 16 + 10, 60)])] ({ R with eng := { R.eng with duty := { pending := some h } }, frame := { R.frame with captNow := 100000000000, captBase := 100000000000 } }); let t : Nat := 100000000000; let c : Nat := 0; let b := s.toFrame t; c < 16 ∧ c < s.eng.chains.length ∧ b.eng.duty.pending = some h ∧ tst (s.deadField 1 1) 0 = true ∧ h.since + 1000000000 * s.deadField 10 2 ≤ b.frame.captFlow) ∧
    (let s : State := cf [(0x33, 16, 17, [(1, 1), (16 * 16 + 4, 60)])] ({ R with eng := { R.eng with dead := { state := .running, since := 40000000000 } }, frame := { R.frame with captNow := 100000000000, captBase := 100000000000 } }); let t : Nat := 100000000000; let c : Nat := 0; let b := s.toFrame t; let d := b.eng.dead; c < 16 ∧ c < s.eng.chains.length ∧ d.state = .running ∧ d.since + 1000000000 * s.deadField 4 2 ≤ b.frame.captFlow) ∧
    (let s : State := { R with eng := { R.eng with dead := { state := .prewarn } }, frame := { R.frame with captNow := 100000000000, captBase := 100000000000 } }; let t : Nat := 100000000000; let c : Nat := 0; let b := s.toFrame t; let d := b.eng.dead; c < 16 ∧ c < s.eng.chains.length ∧ d.state ≠ .running) ∧
    (let s : State := cf [(0x33, 16, 17, [(16 * 16 + 6, 60)]), (0x32, 64, 1, [(1, 1), (2, 3)])] ({ R with eng := { R.eng with dead := { state := .prewarn, since := 40000000000 } }, frame := { R.frame with captNow := 100000000000, captBase := 100000000000 } }); let t : Nat := 100000000000; let c : Nat := 0; let b := s.toFrame t; let d := b.eng.dead; c < 16 ∧ c < s.eng.chains.length ∧ d.state = .prewarn ∧ d.since + 1000000000 * s.deadField 6 2 ≤ b.frame.captFlow) ∧
    (let s : State := { R with eng := { R.eng with dead := { state := .running } }, frame := { R.frame with captNow := 100000000000, captBase := 100000000000 } }; let t : Nat := 100000000000; let c : Nat := 0; let b := s.toFrame t; let d := b.eng.dead; c < 16 ∧ c < s.eng.chains.length ∧ d.state ≠ .prewarn) := by
  refine ⟨?_, ?_, ?_, ?_, ?_, ?_, ?_, ?_, ?_⟩ <;> decide +kernel


theorem test_wit_EncoderEvents :
    (let s : State := cf [(0x40, 64, 1, [(1, 1), (37, 255)])] (R); let t : Nat := 100000000; let k : Nat := 0; let a := s.advance t; let b := a.settleEnc k; let e := b.enc k; let x := true; k < 8 ∧ k < s.encs.length ∧ s.encMode k = 1 ∧ s.encUnit k = 0xFF ∧ x ≠ e.a) ∧
    (let s : State := cf [(0x40, 64, 1, [(1, 1), (37, 255), (3, 4)])] ({ R with encs := R.encs.set 0 (({ counter := 5, c := 7, b := true }))  }); let t : Nat := 100000000; let k : Nat := 0; let a := s.advance t; let b := a.settleEnc k; let e := b.enc k; let x := true; k < 8 ∧ k < s.encs.length ∧ s.encMode k = 1 ∧ s.encUnit k = 0xFF ∧ x ≠ e.a) ∧
    (let s : State := cf [(0x40, 64, 1, [(1, 1), (37, 255)])] (R); let t : Nat := 100000000; let k : Nat := 0; let a := s.advance t; let b := a.settleEnc k; let e := b.enc k; let x := true; let y := true; k < 8 ∧ k < s.encs.length ∧ s.encMode k = 1 ∧ x ≠ e.a ∧ y ≠ e.b) ∧
    (let s : State := cf [(0x40, 64, 1, [(1, 1), (37, 255)])] ({ R with encs := R.encs.set 0 (({ errors := 65535 }))  }); let t : Nat := 100000000; let k : Nat := 0; let a := s.advance t; let b := a.settleEnc k; let e := b.enc k; let x := true; let y := true; k < 8 ∧ k < s.encs.length ∧ s.encMode k = 1 ∧ x ≠ e.a ∧ y ≠ e.b) ∧
    (let s : State := cf [(0x40, 64, 1, [(1, 2), (37, 255)])] (R); let t : Nat := 100000000; let k : Nat := 0; let a := s.advance t; let b := a.settleEnc k; let e := b.enc k; k < 8 ∧ k < s.encs.length ∧ s.encMode k = 2 ∧ s.encUnit k = 0xFF ∧ e.a = false) ∧
    (let s : State := cf [(0x40, 64, 1, [(1, 2)])] ({ R with encs := R.encs.set 0 (({ a := true }))  }); let k : Nat := 0; k < 8 ∧ k < s.encs.length ∧ s.encMode k = 2) ∧
    (let s : State := cf [(0x40, 64, 1, [(1, 1), (4, 5), (8, 4)])] ({ R with encs := R.encs.set 0 (({ counter := 9 }))  }); let t : Nat := 100000000; let k : Nat := 0; let a := s.advance t; let b := a.settleEnc k; let e := b.enc k; k < 8 ∧ k < s.encs.length ∧ s.encMode k = 1 ∧ s.encOpt k 1 = false ∧ s.encField k 4 4 ≠ 0 ∧ e.referenced = false ∧ e.refPending = none) ∧
    (let s : State := cf [(0x40, 64, 1, [(1, 1), (8, 4)])] ({ R with encs := R.encs.set 0 (({ counter := 9 }))  }); let k : Nat := 0; k < 8 ∧ k < s.encs.length ∧ s.encMode k = 1 ∧ s.encOpt k 1 = false ∧ s.encField k 4 4 = 0) ∧
    (let s : State := cf [(0x40, 64, 1, [(1, 1), (37, 255)])] (R); let k : Nat := 7; k < 8 ∧ k < s.encs.length ∧ ((s.encMode k = 0 ∨ s.encMode k = 3))) := by
  refine ⟨?_, ?_, ?_, ?_, ?_, ?_, ?_, ?_, ?_⟩ <;> decide +kernel

theorem test_wit_EncoderEvents_2 :
    (let s : State := cf [(0x40, 64, 1, [(1, 3)])] (R); let k : Nat := 0; k < 8 ∧ k < s.encs.length ∧ ((s.encMode k = 0 ∨ s.encMode k = 3))) ∧
    (let s : State := cf [(0x40, 64, 1, [(1, 1), (37, 255)])] (R); let k : Nat := 7; k < 8 ∧ k < s.encs.length ∧ ((s.encMode k = 0 ∨ s.encOpt k 3 = false))) ∧
    (let s : State := cf [(0x40, 64, 1, [(1, 1), (37, 255)])] (R); let k : Nat := 0; k < 8 ∧ k < s.encs.length ∧ ((s.encMode k = 0 ∨ s.encOpt k 3 = false))) ∧
    (let s : State := cf [(0x40, 64, 1, [(1, 1), (3, 8)])] ({ R with encs := R.encs.set 0 (({ counter := 9 }))  }); let k : Nat := 0; let i := 1; k < 8 ∧ k < s.encs.length ∧ s.encMode k ≠ 0 ∧ s.encOpt k 3 = true ∧ s.encField k 2 1 = 0 ∧ i ≠ 2) ∧
    (let s : State := R; let k : Nat := 7; k < 8 ∧ k < s.encs.length) ∧
    (let s : State := cf [(0x40, 64, 1, [(1, 1), (37, 255)])] (R); let k : Nat := 7; k < 8 ∧ k < s.encs.length ∧ (s.enc k).cmp.hit = none) ∧
    (let s : State := cf [(0x40, 64, 1, [(1, 1), (50, 100)])] ({ R with encs := R.encs.set 0 (({ cmp := { hit := some (50, 45), armed := true, spacing := 3, point := 8 } }))  }); let k : Nat := 0; let x := 50; let y := 45; k < 8 ∧ k < s.encs.length ∧ (s.enc k).cmp.hit = some (x, y) ∧ (s.enc k).cmp.armed = true ∧ (s.enc k).cmp.pulseEnd = none ∧ (s.enc k).cmp.guardEnd ≤ x ∧ (s.enc k).cmp.left = none) ∧
    (let s : State := cf [(0x40, 64, 1, [(1, 1), (50, 100)])] ({ R with encs := R.encs.set 0 (({ cmp := { hit := some (50, 45), armed := true, spacing := 3, point := 1, rev := true, fired := 65535 } }))  }); let k : Nat := 0; let x := 50; let y := 45; k < 8 ∧ k < s.encs.length ∧ (s.enc k).cmp.hit = some (x, y) ∧ (s.enc k).cmp.armed = true ∧ (s.enc k).cmp.pulseEnd = none ∧ (s.enc k).cmp.guardEnd ≤ x ∧ (s.enc k).cmp.left = none) ∧
    (let s : State := { R with encs := R.encs.set 0 (({ cmp := { pulseEnd := some 100000000, level := true } }))  }; let t : Nat := 100000000; let k : Nat := 0; let a := s.advance t; let x := 100000000; k < 8 ∧ k < s.encs.length ∧ (s.enc k).cmp.pulseEnd = some x ∧ x ≤ a.clk.now) := by
  refine ⟨?_, ?_, ?_, ?_, ?_, ?_, ?_, ?_, ?_⟩ <;> decide +kernel

theorem test_wit_EncoderEvents_3 :
    (let s : State := cf [(0x40, 64, 1, [(1, 1), (37, 1)])] (R); let k : Nat := 0; k < 8 ∧ k < s.encs.length ∧ s.encUnit k ≠ 0xFF ∧ (s.enc k).cmp.overload = none) ∧
    (let s : State := { R with encs := R.encs.set 0 (({ cmp := { overload := some 100000000, pulseEnd := some 7 } }))  }; let t : Nat := 100000000; let k : Nat := 0; let a := s.advance t; let x := 100000000; k < 8 ∧ k < s.encs.length ∧ (s.enc k).cmp.overload = some x ∧ x ≤ a.clk.now) ∧
    (let s : State := cf [(0x40, 64, 1, [(1, 3), (34, 4)])] ({ R with frame := { R.frame with seq := 8, running := true, nextTick := 100000000 } }); let t : Nat := 100000000; let k : Nat := 0; let a := s.advance t; k < 8 ∧ k < s.encs.length ∧ a.atTick = true ∧ s.encMode k = 3 ∧ s.encField k 34 1 ≠ 0 ∧ s.frame.seq % s.encField k 34 1 = 0 ∧ (s.enc k).ssi.reading = none) ∧
    (let s : State := cf [(0x40, 64, 1, [(1, 1), (37, 255)])] (R); let t : Nat := 100000000; let k : Nat := 7; let a := s.advance t; k < 8 ∧ k < s.encs.length ∧ ((a.atTick = false ∨ s.encMode k ≠ 3 ∨ s.encField k 34 1 = 0))) ∧
    (let s : State := cf [(0x40, 64, 1, [(1, 3)])] (R); let t : Nat := 100000000; let k : Nat := 0; let a := s.advance t; k < 8 ∧ k < s.encs.length ∧ ((a.atTick = false ∨ s.encMode k ≠ 3 ∨ s.encField k 34 1 = 0))) ∧
    (let s : State := cf [(0x40, 64, 1, [(1, 3), (34, 4)])] ({ R with frame := { R.frame with seq := 8, running := true, nextTick := 100000000 } }); let t : Nat := 99999999; let k : Nat := 0; let a := s.advance t; k < 8 ∧ k < s.encs.length ∧ ((a.atTick = false ∨ s.encMode k ≠ 3 ∨ s.encField k 34 1 = 0))) ∧
    (let s : State := cf [(0x40, 64, 1, [(1, 3), (28, 24), (29, 1)])] ({ R with encs := R.encs.set 0 (({ ssi := { reading := some (5, 6, 7) } }))  }); let k : Nat := 0; let x := 5; let y := 6; let q := 7; let i := true; let p := true; let r := 0xABCDEF; k < 8 ∧ k < s.encs.length ∧ (s.enc k).ssi.reading = some (x, y, q) ∧ s.ssiFault k i true p r = none) ∧
    (let s : State := cf [(0x40, 64, 1, [(1, 3), (3, 32), (28, 24)])] ({ R with encs := R.encs.set 0 (({ ssi := { reading := some (5, 6, 7) } }))  }); let k : Nat := 0; let x := 5; let y := 6; let q := 7; let i := true; let p := true; let r := 0xABCDEF; k < 8 ∧ k < s.encs.length ∧ (s.enc k).ssi.reading = some (x, y, q) ∧ s.ssiFault k i true p r = none) ∧
    (let s : State := cf [(0x40, 64, 1, [(1, 3), (3, 1), (28, 24), (29, 1), (36, 1)])] ({ R with encs := R.encs.set 0 (({ ssi := { reading := some (5, 6, 7) } }))  }); let k : Nat := 0; let x := 5; let y := 6; let q := 7; let i := false; let o := true; let p := true; let r := 1; let f := 1; k < 8 ∧ k < s.encs.length ∧ (s.enc k).ssi.reading = some (x, y, q) ∧ s.ssiFault k i o p r = some f) := by
  refine ⟨?_, ?_, ?_, ?_, ?_, ?_, ?_, ?_, ?_⟩ <;> decide +kernel

theorem test_wit_EncoderEvents_4 :
    (let s : State := cf [(0x40, 64, 1, [(1, 3), (3, 1), (28, 24), (29, 1), (36, 1)])] ({ R with encs := R.encs.set 0 (({ ssi := { reading := some (5, 6, 7) } }))  }); let k : Nat := 0; let x := 5; let y := 6; let q := 7; let i := true; let o := false; let p := true; let r := 1; let f := 2; k < 8 ∧ k < s.encs.length ∧ (s.enc k).ssi.reading = some (x, y, q) ∧ s.ssiFault k i o p r = some f) ∧
    (let s : State := cf [(0x40, 64, 1, [(1, 3), (3, 128), (28, 24), (29, 1), (36, 1)])] ({ R with encs := R.encs.set 0 (({ ssi := { reading := some (5, 6, 7) } }))  }); let k : Nat := 0; let x := 5; let y := 6; let q := 7; let i := true; let o := true; let p := true; let r := 1; let f := 3; k < 8 ∧ k < s.encs.length ∧ (s.enc k).ssi.reading = some (x, y, q) ∧ s.ssiFault k i o p r = some f) ∧
    (let s : State := cf [(0x40, 64, 1, [(1, 3), (3, 64), (28, 24), (29, 1), (36, 1)])] ({ R with encs := R.encs.set 0 (({ ssi := { reading := some (5, 6, 7) } }))  }); let k : Nat := 0; let x := 5; let y := 6; let q := 7; let i := true; let o := true; let p := true; let r := 1; let f := 4; k < 8 ∧ k < s.encs.length ∧ (s.enc k).ssi.reading = some (x, y, q) ∧ s.ssiFault k i o p r = some f) ∧
    (let s : State := cf [(0x40, 64, 1, [(1, 1), (37, 255)])] (R); let k : Nat := 7; k < 8 ∧ k < s.encs.length ∧ (s.enc k).trigs = []) ∧
    (let s : State := cf [(0x40, 64, 1, [(1, 1), (11, 1)])] ({ R with encs := R.encs.set 0 (({ trigs := [(0, 7, 59)], gen := 3, fifo := List.replicate 15 { p := 1, net := 2, trigger := 3, gen := 4 } }))  }); let k : Nat := 0; let g := 0; let p := 7; let n := 59; let r := ([] : List (Nat × BitVec 32 × Nat)); k < 8 ∧ k < s.encs.length ∧ (s.enc k).trigs = (g, p, n) :: r ∧ tst (s.encField k 11 1) g = true ∧ (s.enc k).fifo.length < 16) ∧
    (let s : State := cf [(0x40, 64, 1, [(1, 1), (14, 15), (15, 255)])] ({ R with encs := R.encs.set 0 (({ counter := 5 }))  }); let k : Nat := 0; let d := 15; let l := true; k < 8 ∧ k < s.encs.length ∧ d < 16 ∧ d < s.dis.length ∧ (s.dis.getD d {}).limit ≠ l ∧ s.encMode k ≠ 0 ∧ s.encField k 14 1 = d ∧ s.encField k 15 1 ≠ d) ∧
    (let s : State := cf [(0x40, 64, 1, [(1, 1), (15, 255)])] ({ R with dis := R.dis.set 0 (({ limit := true }))  }); let k : Nat := 0; let d := 0; let l := false; k < 8 ∧ k < s.encs.length ∧ d < 16 ∧ d < s.dis.length ∧ (s.dis.getD d {}).limit ≠ l ∧ s.encMode k ≠ 0 ∧ s.encField k 14 1 = d ∧ s.encField k 15 1 ≠ d) ∧
    (let s : State := cf [(0x40, 64, 1, [(1, 1), (37, 255)])] (R); let k : Nat := 0; let d := 15; let l := false; k < 8 ∧ k < s.encs.length ∧ d < 16 ∧ (s.dis.getD d {}).limit = l) := by
  refine ⟨?_, ?_, ?_, ?_, ?_, ?_, ?_, ?_⟩ <;> decide +kernel


theorem test_wit_EncoderOpcodes :
    (let f : Flight := fl 0x0603 0 [0, 0, 0, 0, 7, 0, 0, 0]; let s : State := ex (cf [(0x40, 64, 1, [(1, 1), (37, 255)])] (R)) (f); let tag : Nat := 0; let k := f.unit; let m := byteAt f.req 16; Executes s tag 0x0603 f ∧ ((s.encMode k = 1 ∨ s.encMode k = 2)) ∧ ((m = 0 ∨ m = 2 ∨ m = 3))) ∧
    (let f : Flight := fl 0x0603 0 [3, 0, 0, 0, 7, 0, 0, 0]; let s : State := ex (cf [(0x40, 64, 1, [(1, 2)])] (R)) (f); let tag : Nat := 0; let k := f.unit; let m := byteAt f.req 16; Executes s tag 0x0603 f ∧ ((s.encMode k = 1 ∨ s.encMode k = 2)) ∧ ((m = 0 ∨ m = 2 ∨ m = 3))) ∧
    (let f : Flight := fl 0x0603 0 [2, 0, 0, 0, 7, 0, 0, 0]; let s : State := ex (cf [(0x40, 64, 1, [(1, 1), (37, 255)])] (R)) (f); let tag : Nat := 0; let k := f.unit; let m := byteAt f.req 16; Executes s tag 0x0603 f ∧ ((s.encMode k = 1 ∨ s.encMode k = 2)) ∧ ((m = 0 ∨ m = 2 ∨ m = 3))) ∧
    (let f : Flight := fl 0x0603 7 [0, 0, 0, 0, 7, 0, 0, 0]; let s : State := ex (cf [(0x40, 64, 1, [(1, 1), (37, 255)])] (R)) (f); let tag : Nat := 0; let k := f.unit; Executes s tag 0x0603 f ∧ s.encMode k = 0) ∧
    (let f : Flight := fl 0x0603 0 [3, 0, 0, 0, 7, 0, 0, 0]; let s : State := ex (cf [(0x40, 64, 1, [(1, 3)])] (R)) (f); let tag : Nat := 0; let k := f.unit; let m := byteAt f.req 16; Executes s tag 0x0603 f ∧ s.encMode k = 3 ∧ ((m = 1 ∨ m = 3))) ∧
    (let f : Flight := fl 0x0604 0 [0, 1, 2, 3, 4, 5, 6, 7, 8, 9, 10, 11]; let s : State := ex (cf [(0x40, 64, 1, [(1, 1)])] (R)) (f); let tag : Nat := 0; let k := f.unit; Executes s tag 0x0604 f ∧ s.encPulse k = true) ∧
    (let f : Flight := fl 0x0605 0 []; let s : State := ex (cf [(0x40, 64, 1, [(1, 1)])] (R)) (f); let tag : Nat := 0; let k := f.unit; Executes s tag 0x0605 f ∧ s.encPulse k = true) ∧
    (let f : Flight := fl 0x0604 0 [0, 1, 2, 3, 4, 5, 6, 7, 8, 9, 10, 11]; let s : State := ex (cf [(0x40, 64, 1, [(1, 1), (37, 255)])] (R)) (f); let tag : Nat := 0; let k := f.unit; s.encPulse k = false ∧ Executes s tag 0x0604 f) ∧
    (let f : Flight := fl 0x0605 0 []; let s : State := ex (cf [(0x40, 64, 1, [(1, 1), (37, 255)])] (R)) (f); let tag : Nat := 0; let k := f.unit; s.encPulse k = false ∧ Executes s tag 0x0605 f) := by
  refine ⟨?_, ?_, ?_, ?_, ?_, ?_, ?_, ?_, ?_⟩ <;> decide +kernel

theorem test_wit_EncoderOpcodes_2 :
    (let f : Flight := fl 0x0606 0 [2, 0, 0, 0]; let s : State := ex (cf [(0x40, 64, 1, [(1, 1), (37, 255)])] ({ R with encs := R.encs.set 0 (({ fifo := List.replicate 3 { p := 1, net := 2, trigger := 3, gen := 4 }, dropped := 5 }))  })) (f); let tag : Nat := 0; Executes s tag 0x0606 f ∧ byteAt f.req 17 ≠ 1) ∧
    (let f : Flight := fl 0x0606 0 [2, 1, 0, 0]; let s : State := ex (cf [(0x40, 64, 1, [(1, 1), (37, 255)])] ({ R with encs := R.encs.set 0 (({ fifo := List.replicate 3 { p := 1, net := 2, trigger := 3, gen := 4 }, dropped := 5 }))  })) (f); let tag : Nat := 0; Executes s tag 0x0606 f ∧ byteAt f.req 17 = 1) ∧
    (let f : Flight := fl 0x0603 0 [0, 0, 0, 0, 7, 0, 0, 0]; let v : BitVec 32 := 9; let c : LiveCmd := ({ kind := .rebase f.unit 0 v, origin := 0x40, fl := none } : LiveCmd); let s : State := cf [(0x40, 64, 1, [(1, 1), (37, 255)])] ({ { R with encs := R.encs.set 0 (({ counter := 5, c := 1, gen := 255 }))  } with live := [c], frame := { R.frame with running := true, nextTick := 100000000 } }); let t : Nat := 100000000; let k := f.unit; s.live = [c] ∧ c.kind = .rebase k 0 v ∧ c.applied = none ∧ c.role = s.cfg.roles.get .enc k ∧ k < 8 ∧ k < s.encs.length ∧ (s.advance t).atTick = true) ∧
    (let f : Flight := fl 0x0603 0 [0, 0, 0, 0, 7, 0, 0, 0]; let s : State := ex (cf [(0x40, 64, 1, [(1, 1), (37, 255)])] (R)) (f); let t : Nat := 100000000; let k := f.unit; k < 8 ∧ (s.advance t).atTick = false) := by
  refine ⟨?_, ?_, ?_, ?_⟩ <;> decide +kernel


theorem test_wit_EdgeEvents :
    (let s : State := R; let t : Nat := 100000000; let a := s.advance t; let i := 15; i < 16 ∧ i < s.dis.length ∧ a.landsUp = true) ∧
    (let s : State := cf [(0x80, 16, 1, [(1, 1), (2, 1)])] ({ R with dis := R.dis.set 0 ({ lowAt := some 90000000, level := true, deb := true, levelAt := 5 }) }); let t : Nat := 100000000; let a := s.advance t; let i := 0; i < 16 ∧ i < s.dis.length ∧ a.landsUp = true) ∧
    (let s : State := cf [(0x80, 16, 1, [(1, 1), (2, 1), (4, 20)])] ({ R with dis := R.dis.set 0 ({ level := true, levelAt := 80000000, broken := true }) }); let t : Nat := 100000000; let a := s.advance t; let i := 0; i < 16 ∧ i < s.dis.length ∧ a.landsUp = true) ∧
    (let s : State := cf [(0x80, 16, 1, [(1, 1), (2, 1)])] ({ R with dis := R.dis.set 0 ({ lowAt := some 90000000 }) }); let t : Nat := 100000000; let a := s.advance t; let now := a.clk.now; let i := 0; let x := 90000000; i < 16 ∧ a.landsUp = true ∧ tst (s.diField i 2 1) 0 = true ∧ s.diField i 1 1 ≠ 0 ∧ (s.di i).broken = false ∧ (s.di i).lowAt = some x ∧ x + 10000000 ≤ now ∧ i < s.dis.length) ∧
    (let s : State := cf [(0x80, 16, 1, [(1, 1), (2, 1)])] ({ R with dis := R.dis.set 0 (({ broken := true }))  }); let t : Nat := 100000000; let a := s.advance t; let i := 0; i < 16 ∧ a.landsUp = true ∧ tst (s.diField i 2 1) 0 = true ∧ s.diField i 1 1 ≠ 0 ∧ (s.di i).broken = true ∧ i < s.dis.length) ∧
    (let s : State := R; let t : Nat := 100000000; let a := s.advance t; let i := 15; i < 16 ∧ a.landsUp = true ∧ ((tst (s.diField i 2 1) 0 = false ∨ s.diField i 1 1 = 0))) ∧
    (let s : State := { R with rst := { R.rst with held := true } }; let t : Nat := 100000000; let a := s.advance t; let i := 0; i < 16 ∧ a.landsUp = false) ∧
    (let s : State := cf [(0x81, 16, 8, [(1, 3), (6, 5)])] ({ R with aos := R.aos.set 0 ({ appliedOn := true, cond := 1, condOn := true, condAt := 0 }) }); let t : Nat := 100000000; let a := s.advance t; let now := a.clk.now; let k := 0; let mv := 0; let ma := 4; let c := if a.aoLand k then (if ma < s.aoField k 6 2 then 1 else 0) else if s.pwr.vshipMv ≤ mv + 3000 then 3 else if 6000 < mv then 1 else 0; k < 8 ∧ k < s.aos.length ∧ s.aoOn k = true ∧ tst (s.aoField k 1 1) 1 = true ∧ ((a.aoLand k = false ∨ ma ≤ 550)) ∧ c ≠ 0 ∧ (((s.ao k).fault = 0 ∨ (s.ao k).fault = 1 ∨ (s.ao k).fault = 3)) ∧ c ≠ (s.ao k).fault ∧ (s.ao k).cond = c ∧ (s.ao k).condOn = a.aoLand k ∧ (s.ao k).condAt + 100000000 ≤ now) ∧
    (let s : State := cf [(0x81, 16, 8, [(1, 3), (6, 5)])] ({ { R with aos := R.aos.set 0 ({ cond := 3, condAt := 0 }) } with pwr := { R.pwr with vshipMv := 27000 } }); let t : Nat := 100000000; let a := s.advance t; let now := a.clk.now; let k := 0; let mv := 24000; let ma := 0; let c := if a.aoLand k then (if ma < s.aoField k 6 2 then 1 else 0) else if s.pwr.vshipMv ≤ mv + 3000 then 3 else if 6000 < mv then 1 else 0; k < 8 ∧ k < s.aos.length ∧ s.aoOn k = true ∧ tst (s.aoField k 1 1) 1 = true ∧ ((a.aoLand k = false ∨ ma ≤ 550)) ∧ c ≠ 0 ∧ (((s.ao k).fault = 0 ∨ (s.ao k).fault = 1 ∨ (s.ao k).fault = 3)) ∧ c ≠ (s.ao k).fault ∧ (s.ao k).cond = c ∧ (s.ao k).condOn = a.aoLand k ∧ (s.ao k).condAt + 100000000 ≤ now) := by
  refine ⟨?_, ?_, ?_, ?_, ?_, ?_, ?_, ?_, ?_⟩ <;> decide +kernel

theorem test_wit_EdgeEvents_2 :
    (let s : State := cf [(0x81, 16, 8, [(1, 3), (6, 5)])] ({ { R with aos := R.aos.set 0 ({ fault := 3, cond := 1, condAt := 0 }) } with pwr := { R.pwr with vshipMv := 27000 } }); let t : Nat := 100000000; let a := s.advance t; let now := a.clk.now; let k := 0; let mv := 6001; let ma := 0; let c := if a.aoLand k then (if ma < s.aoField k 6 2 then 1 else 0) else if s.pwr.vshipMv ≤ mv + 3000 then 3 else if 6000 < mv then 1 else 0; k < 8 ∧ k < s.aos.length ∧ s.aoOn k = true ∧ tst (s.aoField k 1 1) 1 = true ∧ ((a.aoLand k = false ∨ ma ≤ 550)) ∧ c ≠ 0 ∧ (((s.ao k).fault = 0 ∨ (s.ao k).fault = 1 ∨ (s.ao k).fault = 3)) ∧ c ≠ (s.ao k).fault ∧ (s.ao k).cond = c ∧ (s.ao k).condOn = a.aoLand k ∧ (s.ao k).condAt + 100000000 ≤ now) ∧
    (let s : State := R; let t : Nat := 100000000; let a := s.advance t; let k := 7; let ma := 7; k < 8 ∧ k < s.aos.length ∧ ((s.aoOn k = false ∨ tst (s.aoField k 1 1) 1 = false)) ∧ ((s.aoOn k = false ∨ a.aoLand k = false ∨ ma ≤ 550))) ∧
    (let s : State := cf [(0x81, 16, 8, [(1, 1)])] ({ R with aos := R.aos.set 0 ({ fault := 2, faultAt := 1 }) }); let t : Nat := 100000000; let a := s.advance t; let k := 0; let ma := 7; k < 8 ∧ k < s.aos.length ∧ ((s.aoOn k = false ∨ tst (s.aoField k 1 1) 1 = false)) ∧ ((s.aoOn k = false ∨ a.aoLand k = false ∨ ma ≤ 550))) ∧
    (let s : State := cf [(0x81, 16, 8, [(1, 1)])] ({ R with aos := R.aos.set 0 ({ appliedOn := true }) }); let t : Nat := 100000000; let a := s.advance t; let now := a.clk.now; let k := 0; let m := 551; k < 8 ∧ k < s.aos.length ∧ s.aoOn k = true ∧ a.aoLand k = true ∧ 550 < m ∧ ((s.ao k).overloads.filter (fun x => decide (now < x + 10000000000))).length < 2) ∧
    (let s : State := cf [(0x81, 16, 8, [(1, 1)])] ({ R with aos := R.aos.set 0 ({ appliedOn := true, overloads := [90000000] }) }); let t : Nat := 100000000; let a := s.advance t; let now := a.clk.now; let k := 0; let m := 551; k < 8 ∧ k < s.aos.length ∧ s.aoOn k = true ∧ a.aoLand k = true ∧ 550 < m ∧ ((s.ao k).overloads.filter (fun x => decide (now < x + 10000000000))).length < 2) ∧
    (let s : State := cf [(0x81, 16, 8, [(1, 1)])] ({ R with aos := R.aos.set 0 ({ appliedOn := true, overloads := [90000000, 95000000] }) }); let t : Nat := 100000000; let a := s.advance t; let now := a.clk.now; let k := 0; let m := 551; k < 8 ∧ k < s.aos.length ∧ s.aoOn k = true ∧ a.aoLand k = true ∧ 550 < m ∧ ((s.ao k).overloads.filter (fun x => decide (now < x + 10000000000))).length = 2) ∧
    (let s : State := R; let t : Nat := 100000000; let a := s.advance t; let k := 7; let m := 9; k < 8 ∧ ((s.aoOn k = false ∨ a.aoLand k = false ∨ m ≤ 550))) ∧
    (let s : State := { R with aos := R.aos.set 0 (({ offUntil := some 100000000, fault := 2 }))  }; let t : Nat := 100000000; let a := s.advance t; let now := a.clk.now; let k := 0; let x := 100000000; k < 8 ∧ k < s.aos.length ∧ (s.ao k).offUntil = some x ∧ x ≤ now ∧ (s.ao k).fault ≠ 5) ∧
    (let s : State := { R with aos := R.aos.set 0 ({ fault := 2, faultAt := 0 }) }; let t : Nat := 100000000; let a := s.advance t; let now := a.clk.now; let k := 0; k < 8 ∧ k < s.aos.length ∧ (s.ao k).latched = false ∧ (s.ao k).cond ≠ (s.ao k).fault ∧ (s.ao k).faultAt + 100000000 ≤ now) := by
  refine ⟨?_, ?_, ?_, ?_, ?_, ?_, ?_, ?_, ?_⟩ <;> decide +kernel

theorem test_wit_EdgeEvents_3 :
    (let s : State := { R with aos := R.aos.set 7 ({ fault := 2, cond := 2 }) }; let k := 7; k < 8 ∧ k < s.aos.length ∧ (s.ao k).cond = (s.ao k).fault) ∧
    (let s : State := { R with aos := R.aos.set 0 ({ fault := 4, latched := true }) }; let t : Nat := 100000000; let a := s.advance t; let now := a.clk.now; let k := 0; k < 8 ∧ k < s.aos.length ∧ (s.ao k).cond ≠ (s.ao k).fault ∧ (((s.ao k).latched = true ∨ now < (s.ao k).faultAt + 100000000))) ∧
    (let s : State := { R with aos := R.aos.set 0 ({ fault := 1, faultAt := 1 }) }; let t : Nat := 100000000; let a := s.advance t; let now := a.clk.now; let k := 0; k < 8 ∧ k < s.aos.length ∧ (s.ao k).cond ≠ (s.ao k).fault ∧ (((s.ao k).latched = true ∨ now < (s.ao k).faultAt + 100000000))) ∧
    (let k := 0; let m := [2100]; ((List.range 8).map (fun k => m.getD k 0)).sum ≤ 2100) ∧
    (let k := 0; let s : State := R; let m := [2101]; 2100 < ((List.range 8).map (fun k => m.getD k 0)).sum ∧ s.pwr.aoOver = none) ∧
    (let k := 0; let s : State := { R with pwr := { R.pwr with aoOver := some 99000001 } }; let t : Nat := 100000000; let a := s.advance t; let now := a.clk.now; let m := [2101]; let x := 99000001; 2100 < ((List.range 8).map (fun k => m.getD k 0)).sum ∧ s.pwr.aoOver = some x ∧ now < x + 1000000) ∧
    (let k := 0; let s : State := { { R with aos := R.aos.set 7 ({ appliedOn := true }) } with pwr := { R.pwr with aoOver := some 99000000 }, frame := { R.frame with nextTick := 77 } }; let t : Nat := 100000000; let a := s.advance t; let now := a.clk.now; let m := [250, 250, 250, 250, 250, 250, 250, 450]; let x := 99000000; ((List.range 8).map (fun k => m.getD k 0)).sum = 2200 ∧ s.pwr.aoOver = some x ∧ x + 1000000 ≤ now ∧ a.aoLand 7 = true ∧ 200 < m.getD 7 0 ∧ 7 < s.aos.length ∧ ((∀ k ∈ List.range 8, (s.ao k).fault ≠ 5))) ∧
    (let s : State := { R with nok := { on := true, lowAt := some 0 } }; let t : Nat := 100000000; let m := 4; s.nok.on = true ∧ (150 < m ∨ m < 5 ∧ ∃ x ∈ s.nok.lowAt, x + 100000000 ≤ (s.advance t).clk.now)) ∧
    (let s : State := { R with nok := { on := true } }; let m := 151; s.nok.on = true ∧ 150 < m) := by
  refine ⟨?_, ?_, ?_, ?_, ?_, ?_, ?_, ?_, ?_⟩ <;> decide +kernel

theorem test_wit_EdgeEvents_4 :
    (let s : State := { R with nok := { on := true, lowAt := some 1 } }; let t : Nat := 100000000; let m := 4; s.nok.on = true ∧ m < 5 ∧ (∀ x ∈ s.nok.lowAt, (s.advance t).clk.now < x + 100000000)) ∧
    (let s : State := { R with nok := { on := true } }; let t : Nat := 100000000; let m := 0; s.nok.on = true ∧ m < 5 ∧ (∀ x ∈ s.nok.lowAt, (s.advance t).clk.now < x + 100000000)) ∧
    (let s : State := R; let m := 9; ((s.nok.on = false ∨ 5 ≤ m ∧ m ≤ 150))) ∧
    (let s : State := { R with nok := { on := true } }; let m := 5; ((s.nok.on = false ∨ 5 ≤ m ∧ m ≤ 150))) ∧
    (let s : State := { R with nok := { on := true } }; let m := 150; ((s.nok.on = false ∨ 5 ≤ m ∧ m ≤ 150))) := by
  refine ⟨?_, ?_, ?_, ?_, ?_⟩ <;> decide +kernel


theorem test_wit_BusFaultConfinement :
    (let f := ({ ext := true, id := 77, data := [1], role := .other  } : TxFrame); let s : State := { R with bus := { R.bus with ctl := R.bus.ctl.set 0 { state := .errorActive, proto := [f], tec := 5 }  }  }; let t : Nat := 100000000000; let b : Nat := 0; let m := 9; b < 4 ∧ b < s.bus.ctl.length ∧ ((s.advance t).stateAt b m).sends = true ∧ (s.advance t).offer b m = some f ∧ f.roleAt m = .other ∧ f.asks = []) ∧
    (let f := ({ ext := true, id := 77, data := [1], role := .other , put := 12 } : TxFrame); let s : State := { R with bus := { R.bus with ctl := R.bus.ctl.set 0 { state := .errorActive, objs := [f] }  }  }; let t : Nat := 100000000000; let b : Nat := 0; let m := 9; b < 4 ∧ b < s.bus.ctl.length ∧ ((s.advance t).stateAt b m).sends = true ∧ (s.advance t).offer b m = some f ∧ f.roleAt m = .other ∧ f.asks = []) ∧
    (let f := ({ ext := true, id := 77, data := [1], role := .timeRef 2 } : TxFrame); let s : State := { R with bus := { R.bus with ctl := R.bus.ctl.set 0 { state := .errorActive, proto := [f] }, net := { R.bus.net with isMaster := true } } }; let t : Nat := 100000000000; let b : Nat := 0; let a := s.advance t; let m := 9; let q := 2; b < 4 ∧ b < s.bus.ctl.length ∧ (a.stateAt b m).sends = true ∧ a.offer b m = some f ∧ f.roleAt m = .timeRef q ∧ f.asks = [] ∧ s.bus.net.isMaster = true ∧ s.rst.dueAt = none) ∧
    (let s : State := { R with bus := { R.bus with ctl := R.bus.ctl.set 0 { state := .errorActive }  }  }; let t : Nat := 100000000000; let b : Nat := 0; let a := s.advance t; let m := 9; b < 4 ∧ b < s.bus.ctl.length ∧ (a.stateAt b m).sends = true ∧ a.offer b m = none) ∧
    (let s : State := R; let b : Nat := 0; b < 4 ∧ b < s.bus.ctl.length ∧ ((s.busOpt b 5 = false ∨ s.busOpt b 1 = false))) ∧
    (let s : State := cf [(0x50, 64, 5, [(1, 32), (261, 255)])] ({ R with bus := { R.bus with ctl := R.bus.ctl.set 0 { state := .errorActive }  }  }); let b : Nat := 0; b < 4 ∧ b < s.bus.ctl.length ∧ ((s.busOpt b 5 = false ∨ s.busOpt b 1 = false))) ∧
    (let s : State := { R with bus := { R.bus with ctl := R.bus.ctl.set 0 { state := .errorActive }  }  }; let b : Nat := 0; let c := s.ctl b; b < 4 ∧ b < s.bus.ctl.length ∧ c.cut = none) ∧
    (let s : State := { R with bus := { R.bus with ctl := R.bus.ctl.set 0 { state := .errorActive, proto := [({ ext := true, id := 77, data := [1],  } : TxFrame)] } } }; let b : Nat := 0; let c := s.ctl b; b < 4 ∧ b < s.bus.ctl.length ∧ c.cut = none) ∧
    (let x := (10, .errorActive, true); let s : State := { R with bus := { R.bus with ctl := R.bus.ctl.set 0 { state := .off, cut := some x } } }; let b : Nat := 0; let c := s.ctl b; let m := 9; b < 4 ∧ b < s.bus.ctl.length ∧ c.cut = some x ∧ m < x.1) := by
  refine ⟨?_, ?_, ?_, ?_, ?_, ?_, ?_, ?_, ?_⟩ <;> decide +kernel

theorem test_wit_BusFaultConfinement_2 :
    (let x := (10, .errorActive, true); let s : State := { R with bus := { R.bus with ctl := R.bus.ctl.set 0 { state := .off, cut := some x, proto := [({ ext := true, id := 77, data := [1],  } : TxFrame)] } } }; let b : Nat := 0; let c := s.ctl b; let m := 9; b < 4 ∧ b < s.bus.ctl.length ∧ c.cut = some x ∧ m < x.1) ∧
    (let s : State := R; let t : Nat := 100000000000; let b : Nat := 3; let a := s.advance t; let m := 9; b < 4 ∧ b < s.bus.ctl.length ∧ (a.stateAt b m).sends = false) ∧
    (let s : State := { R with bus := { R.bus with ctl := R.bus.ctl.set 0 { state := .listenOnly }  }  }; let t : Nat := 100000000000; let b : Nat := 0; let a := s.advance t; let m := 9; b < 4 ∧ b < s.bus.ctl.length ∧ (a.stateAt b m).sends = false) ∧
    (let s : State := { R with bus := { R.bus with ctl := R.bus.ctl.set 0 { state := .busOff }  }  }; let t : Nat := 100000000000; let b : Nat := 0; let a := s.advance t; let m := 9; b < 4 ∧ b < s.bus.ctl.length ∧ (a.stateAt b m).sends = false) ∧
    (let s : State := { R with bus := { R.bus with ctl := R.bus.ctl.set 0 { state := .recovering }  }  }; let t : Nat := 100000000000; let b : Nat := 0; let a := s.advance t; let m := 9; b < 4 ∧ b < s.bus.ctl.length ∧ (a.stateAt b m).sends = false) ∧
    (let f := ({ ext := true, id := 77, data := [1], role := .other , clashes := 1 } : TxFrame); let s : State := { R with bus := { R.bus with ctl := R.bus.ctl.set 0 { state := .errorActive, proto := [f] }  }  }; let t : Nat := 100000000000; let b : Nat := 0; let a := s.advance t; let c := s.ctl b; let m := 9; b < 4 ∧ b < s.bus.ctl.length ∧ c.state = .errorActive ∧ (a.stateAt b m).sends = true ∧ a.offer b m = some f ∧ f.clashes < 2 ∧ c.tec < 120 ∧ c.rec_ < 128 ∧ s.rst.dueAt = none) ∧
    (let f := ({ ext := true, id := 77, data := [1], role := .other , clashes := 2 } : TxFrame); let s : State := { R with bus := { R.bus with ctl := R.bus.ctl.set 0 { state := .errorPassive, proto := [f] }  }  }; let t : Nat := 100000000000; let b : Nat := 0; let m := 9; b < 4 ∧ b < s.bus.ctl.length ∧ ((s.advance t).stateAt b m).sends = true ∧ (s.advance t).offer b m = some f ∧ 2 ≤ f.clashes ∧ f.asks = [] ∧ f.role = .other) ∧
    (let d := false; let f := ({ ext := true, id := 77, data := [1], role := .claim d, clashes := 2 } : TxFrame); let s : State := { R with bus := { R.bus with ctl := R.bus.ctl.set 0 { state := .errorActive, proto := [f] } } }; let t : Nat := 100000000000; let b : Nat := 0; let a := s.advance t; let m := 9; b < 4 ∧ b < s.bus.ctl.length ∧ (a.stateAt b m).sends = true ∧ a.offer b m = some f ∧ 2 ≤ f.clashes ∧ f.role = .claim d ∧ s.bus.duplicate = false ∧ s.rst.dueAt = none) ∧
    (let s : State := { R with bus := { R.bus with ctl := R.bus.ctl.set 0 { state := .errorActive }  }  }; let b : Nat := 0; let c := s.ctl b; let x := 128; let r := 3; b < 4 ∧ b < s.bus.ctl.length ∧ c.state = .errorActive ∧ ((128 ≤ x ∨ 128 ≤ r))) := by
  refine ⟨?_, ?_, ?_, ?_, ?_, ?_, ?_, ?_, ?_⟩ <;> decide +kernel

theorem test_wit_BusFaultConfinement_3 :
    (let s : State := { R with bus := { R.bus with ctl := R.bus.ctl.set 0 { state := .errorActive }  }  }; let b : Nat := 0; let c := s.ctl b; let x := 127; let r := 128; b < 4 ∧ b < s.bus.ctl.length ∧ c.state = .errorActive ∧ ((128 ≤ x ∨ 128 ≤ r))) ∧
    (let s : State := { R with bus := { R.bus with ctl := R.bus.ctl.set 0 { state := .errorActive }  }  }; let b : Nat := 0; let c := s.ctl b; let x := 127; let r := 127; b < 4 ∧ b < s.bus.ctl.length ∧ ((c.state ≠ .errorActive ∨ (x < 128 ∧ r < 128)))) ∧
    (let s : State := R; let b : Nat := 0; let c := s.ctl b; let x := 255; let r := 3; b < 4 ∧ b < s.bus.ctl.length ∧ ((c.state ≠ .errorActive ∨ (x < 128 ∧ r < 128)))) ∧
    (let s : State := { R with bus := { R.bus with ctl := R.bus.ctl.set 0 { state := .errorActive }  }  }; let t : Nat := 100000000000; let b : Nat := 0; let a := s.advance t; let c := s.ctl b; let x := 256; b < 4 ∧ b < s.bus.ctl.length ∧ ((c.state = .errorActive ∨ c.state = .errorPassive)) ∧ 255 < x ∧ (c.offTimes.filter (fun y => decide (a.clk.now < y + 60000000000))).length < 2) ∧
    (let s : State := { R with bus := { R.bus with ctl := R.bus.ctl.set 0 { state := .errorPassive, offTimes := [40000000000, 90000000000] }  }  }; let t : Nat := 100000000000; let b : Nat := 0; let a := s.advance t; let c := s.ctl b; let x := 256; b < 4 ∧ b < s.bus.ctl.length ∧ ((c.state = .errorActive ∨ c.state = .errorPassive)) ∧ 255 < x ∧ (c.offTimes.filter (fun y => decide (a.clk.now < y + 60000000000))).length < 2) ∧
    (let s : State := { R with bus := { R.bus with ctl := R.bus.ctl.set 0 { state := .errorPassive, offTimes := [40000000001, 90000000000] }  }  }; let t : Nat := 100000000000; let b : Nat := 0; let a := s.advance t; let c := s.ctl b; let x := 256; b < 4 ∧ b < s.bus.ctl.length ∧ ((c.state = .errorActive ∨ c.state = .errorPassive)) ∧ 255 < x ∧ 2 ≤ (c.offTimes.filter (fun y => decide (a.clk.now < y + 60000000000))).length) ∧
    (let x := 100000000000; let s : State := { R with bus := { R.bus with ctl := R.bus.ctl.set 0 { state := .busOff, holdEnd := some x }  }  }; let t : Nat := 100000000000; let b : Nat := 0; let a := s.advance t; let c := s.ctl b; b < 4 ∧ b < s.bus.ctl.length ∧ c.state = .busOff ∧ c.holdEnd = some x ∧ x ≤ a.clk.now) ∧
    (let x := 100000000001; let s : State := { R with bus := { R.bus with ctl := R.bus.ctl.set 0 { state := .busOff, holdEnd := some x }  }  }; let t : Nat := 100000000000; let b : Nat := 0; let a := s.advance t; let c := s.ctl b; b < 4 ∧ b < s.bus.ctl.length ∧ c.holdEnd = some x ∧ a.clk.now < x) ∧
    (let s : State := { R with bus := { R.bus with ctl := R.bus.ctl.set 0 { state := .recovering }  }  }; let b : Nat := 0; let c := s.ctl b; b < 4 ∧ b < s.bus.ctl.length ∧ c.state = .recovering) := by
  refine ⟨?_, ?_, ?_, ?_, ?_, ?_, ?_, ?_, ?_⟩ <;> decide +kernel

theorem test_wit_BusFaultConfinement_4 :
    (let s : State := { R with bus := { R.bus with ctl := R.bus.ctl.set 0 { state := .errorActive }  }  }; let b : Nat := 0; let c := s.ctl b; b < 4 ∧ b < s.bus.ctl.length ∧ c.state ≠ .recovering) ∧
    (let s : State := { R with bus := { R.bus with ctl := R.bus.ctl.set 3 { state := .errorActive, dominants := 7 } } }; let b : Nat := 3; let c := s.ctl b; b < 4 ∧ b < s.bus.ctl.length ∧ c.state.works = true) ∧
    (let s : State := R; let b : Nat := 3; let c := s.ctl b; b < 4 ∧ b < s.bus.ctl.length ∧ c.state.works = false) ∧
    (let f := fl 0x0705 0 [0, 0, 0, 0]; let s : State := ex ({ R with bus := { R.bus with ctl := R.bus.ctl.set 0 { state := .busOff }  }  }) (f); let b : Nat := 0; let tag := 0; b < 4 ∧ b < s.bus.ctl.length ∧ Executes s tag 0x0705 f ∧ (s.ctl (byteAt f.req 16)).state = .busOff) ∧
    (let f := fl 0x0705 0 [0, 0, 0, 0]; let s : State := ex ({ R with bus := { R.bus with ctl := R.bus.ctl.set 0 { state := .errorActive }  }  }) (f); let b : Nat := 0; let tag := 0; b < 4 ∧ b < s.bus.ctl.length ∧ Executes s tag 0x0705 f ∧ (s.ctl (byteAt f.req 16)).state ≠ .busOff) ∧
    (let f := fl 0x0705 0 [9, 0, 0, 0]; let s : State := ex ({ R with bus := { R.bus with ctl := R.bus.ctl.set 0 { state := .errorActive }  }  }) (f); let b : Nat := 0; let tag := 0; b < 4 ∧ b < s.bus.ctl.length ∧ Executes s tag 0x0705 f ∧ (s.ctl (byteAt f.req 16)).state ≠ .busOff) := by
  refine ⟨?_, ?_, ?_, ?_, ?_, ?_⟩ <;> decide +kernel


theorem test_wit_NetworkTime :
    (let s : State := cf [(0x50, 64, 5, [(1, 3), (261, 255)])] ({ R with bus := { R.bus with ctl := R.bus.ctl.set 0 { state := .errorActive }  }  }); let b : Nat := 0; let d : List Byte := [5, 0, 0, 0, 0, 0, 0, 0]; b < 4 ∧ Hears s b 0 d) ∧
    (let s : State := cf [(0x50, 64, 5, [(1, 3), (261, 255)])] ({ R with bus := { R.bus with ctl := R.bus.ctl.set 0 { state := .errorActive }  }  }); let b : Nat := 0; let d : List Byte := [5, 0, 2, 0] ++ leBytes 8 (tsOf 0 3) ++ [0, 0, 0, 0] ++ zeros 4; b < 4 ∧ Hears s b 1 d) ∧
    (let b : Nat := 0; b < 4) ∧
    (let b : Nat := 0; let g : RxFrame := ({ bus := 0, cls := 0, node := 7, index := 0, data := [5, 0, 0, 0, 0, 0, 0, 0], mark := 9, base := 11, flow := 13  } : RxFrame); b < 4 ∧ g.cls = 0) ∧
    (let r : RefMark := ({ node := 7, seq := 5, mark := 1000000 } : RefMark); let s : State := cf [(0x50, 64, 5, [(1, 3), (16, 1), (261, 255)])] ({ R with bus := { R.bus with ctl := R.bus.ctl.set 0 { state := .errorActive } , net := { R.bus.net with refs := R.bus.net.refs.set 0 (some r), good := 3 } }  }); let b : Nat := 0; let n := s.bus.net; let g : RxFrame := ({ bus := 0, cls := 1, node := 7, index := 0, data := [5, 0, 2, 0] ++ leBytes 8 (tsOf 0 3) ++ [0, 0, 0, 0] ++ zeros 4, mark := 9, base := 11, flow := 13  } : RxFrame); let θ : Int := (tsUs (u64At g.data 4) * 1000 + u16At g.data 12 % 1000 : Nat) + (s.busField g.bus 14 2 : Nat) - (r.mark : Nat); b < 4 ∧ g.cls = 1 ∧ g.auth = false ∧ s.timeRole g.bus ≠ 0 ∧ n.isMaster = false ∧ n.refs.getD g.bus none = some r ∧ s.timeBus = g.bus ∧ n.onSecondary = false ∧ r.node = g.node ∧ r.seq = byteAt g.data 0 ∧ θ.natAbs ≤ 1000000) ∧
    (let r : RefMark := ({ node := 7, seq := 5, mark := 1000000 } : RefMark); let s : State := cf [(0x50, 64, 5, [(1, 3), (16, 1), (261, 255)])] ({ R with bus := { R.bus with ctl := R.bus.ctl.set 0 { state := .errorActive } , net := { R.bus.net with refs := R.bus.net.refs.set 0 (some r), good := 3 } }  }); let b : Nat := 0; let n := s.bus.net; let g : RxFrame := ({ bus := 0, cls := 1, node := 7, index := 0, data := [5, 0, 2, 0] ++ leBytes 8 (tsOf 1001000 3) ++ [0, 0, 0, 0] ++ zeros 4, mark := 9, base := 11, flow := 13  } : RxFrame); let θ : Int := (tsUs (u64At g.data 4) * 1000 + u16At g.data 12 % 1000 : Nat) + (s.busField g.bus 14 2 : Nat) - (r.mark : Nat); b < 4 ∧ g.cls = 1 ∧ g.auth = false ∧ s.timeRole g.bus ≠ 0 ∧ n.isMaster = false ∧ n.refs.getD g.bus none = some r ∧ s.timeBus = g.bus ∧ n.onSecondary = false ∧ r.node = g.node ∧ r.seq = byteAt g.data 0 ∧ θ.natAbs ≤ 1000000) ∧
    (let r : RefMark := ({ node := 7, seq := 5, mark := 1000000 } : RefMark); let s : State := cf [(0x50, 64, 5, [(1, 3), (16, 1), (261, 255)])] ({ R with bus := { R.bus with ctl := R.bus.ctl.set 0 { state := .errorActive } , net := { R.bus.net with refs := R.bus.net.refs.set 0 (some r), good := 3 } }  }); let b : Nat := 0; let n := s.bus.net; let g : RxFrame := ({ bus := 0, cls := 1, node := 7, index := 0, data := [5, 0, 2, 0] ++ leBytes 8 (tsOf 2000000 3) ++ [0, 0, 0, 0] ++ zeros 4, mark := 9, base := 11, flow := 13  } : RxFrame); let θ : Int := (tsUs (u64At g.data 4) * 1000 + u16At g.data 12 % 1000 : Nat) + (s.busField g.bus 14 2 : Nat) - (r.mark : Nat); b < 4 ∧ g.cls = 1 ∧ g.auth = false ∧ s.timeRole g.bus ≠ 0 ∧ n.isMaster = false ∧ n.refs.getD g.bus none = some r ∧ s.timeBus = g.bus ∧ n.onSecondary = false ∧ r.node = g.node ∧ r.seq = byteAt g.data 0 ∧ θ.natAbs ≤ 1000000 ∧ 2000 < θ.natAbs) ∧
    (let r : RefMark := ({ node := 7, seq := 5, mark := 1000000 } : RefMark); let s : State := cf [(0x50, 64, 5, [(1, 3), (16, 1), (261, 255)])] ({ R with bus := { R.bus with ctl := R.bus.ctl.set 0 { state := .errorActive } , net := { R.bus.net with refs := R.bus.net.refs.set 0 (some r), good := 3 } }  }); let b : Nat := 0; let n := s.bus.net; let g : RxFrame := ({ bus := 0, cls := 1, node := 7, index := 0, data := [5, 0, 2, 0] ++ leBytes 8 (tsOf 1001000 3) ++ [0, 0, 0, 0] ++ zeros 4, mark := 9, base := 11, flow := 13  } : RxFrame); let θ : Int := (tsUs (u64At g.data 4) * 1000 + u16At g.data 12 % 1000 : Nat) + (s.busField g.bus 14 2 : Nat) - (r.mark : Nat); b < 4 ∧ g.cls = 1 ∧ g.auth = false ∧ s.timeRole g.bus ≠ 0 ∧ n.isMaster = false ∧ n.refs.getD g.bus none = some r ∧ s.timeBus = g.bus ∧ n.onSecondary = false ∧ r.node = g.node ∧ r.seq = byteAt g.data 0 ∧ θ.natAbs ≤ 1000000 ∧ θ.natAbs ≤ 1000 ∧ 3 ≤ n.good) ∧
    (let r : RefMark := ({ node := 7, seq := 5, mark := 1000000 } : RefMark); let s : State := cf [(0x50, 64, 5, [(1, 3), (16, 1), (261, 255)])] ({ R with bus := { R.bus with ctl := R.bus.ctl.set 0 { state := .errorActive } , net := { R.bus.net with refs := R.bus.net.refs.set 0 (some r), good := 3 } }  }); let b : Nat := 0; let n := s.bus.net; let g : RxFrame := ({ bus := 0, cls := 1, node := 7, index := 0, data := [5, 0, 2, 0] ++ leBytes 8 (tsOf 2001000 3) ++ [0, 0, 0, 0] ++ zeros 4, mark := 9, base := 11, flow := 13  } : RxFrame); let θ : Int := (tsUs (u64At g.data 4) * 1000 + u16At g.data 12 % 1000 : Nat) + (s.busField g.bus 14 2 : Nat) - (r.mark : Nat); b < 4 ∧ g.cls = 1 ∧ g.auth = false ∧ s.timeRole g.bus ≠ 0 ∧ n.isMaster = false ∧ n.refs.getD g.bus none = some r ∧ s.timeBus = g.bus ∧ n.onSecondary = false ∧ r.node = g.node ∧ r.seq = byteAt g.data 0 ∧ 1000000 < θ.natAbs) := by
  refine ⟨?_, ?_, ?_, ?_, ?_, ?_, ?_, ?_, ?_⟩ <;> decide +kernel

theorem test_wit_NetworkTime_2 :
    (let s : State := cf [(0x50, 64, 5, [(1, 3), (261, 255)])] ({ R with bus := { R.bus with ctl := R.bus.ctl.set 0 { state := .errorActive }  }  }); let b : Nat := 0; let n := s.bus.net; let g : RxFrame := ({ bus := 0, cls := 1, node := 7, index := 0, data := [5, 0, 2, 0] ++ leBytes 8 (tsOf 0 3) ++ [0, 0, 0, 0] ++ zeros 4, mark := 9, base := 11, flow := 13  } : RxFrame); b < 4 ∧ g.cls = 1 ∧ g.auth = false ∧ s.timeRole g.bus = 0 ∧ n.isMaster = false) ∧
    (let s : State := cf [(0x50, 64, 5, [(1, 3), (261, 255)])] ({ R with bus := { R.bus with ctl := R.bus.ctl.set 0 { state := .errorActive } , net := { R.bus.net with lastAuth := 100 } }  }); let b : Nat := 0; let n := s.bus.net; let g : RxFrame := ({ bus := 0, cls := 1, node := 7, index := 0, data := [5, 0, 2, 0] ++ leBytes 8 (tsOf 0 3) ++ [0, 0, 0, 0] ++ zeros 4, mark := 9, base := 11, flow := 13 , auth := true } : RxFrame); b < 4 ∧ g.cls = 1 ∧ g.auth = true ∧ n.isMaster = false ∧ tsUs (u64At g.data 4) * 1000 + u16At g.data 12 % 1000 ≤ n.lastAuth) ∧
    (let s : State := cf [(0x50, 64, 5, [(1, 3), (16, 1), (261, 255)])] ({ R with bus := { R.bus with ctl := R.bus.ctl.set 0 { state := .errorActive } , net := { R.bus.net with isMaster := true } }  }); let b : Nat := 0; let n := s.bus.net; let g : RxFrame := ({ bus := 0, cls := 1, node := 63, index := 0, data := [5, 0, 2, 0] ++ leBytes 8 (tsOf 0 3) ++ [0, 0, 0, 0] ++ zeros 4, mark := 9, base := 11, flow := 13  } : RxFrame); b < 4 ∧ g.cls = 1 ∧ n.isMaster = true ∧ s.betterMaster g.node (byteAt g.data 1) = false) ∧
    (let s : State := { R with bus := { R.bus with ctl := R.bus.ctl.set 0 { state := .errorActive } , net := { R.bus.net with isMaster := true, nextRef := 255, lastRef := some 99 } }  }; let t : Nat := 10000000000; let b : Nat := 0; let a := s.advance t; let n := s.bus.net; b < 4 ∧ n.isMaster = true ∧ s.joined = true ∧ n.lastRef ≠ some (a.clk.base / 100000000)) ∧
    (let s : State := cf [(0x50, 64, 5, [(1, 3), (261, 255)])] ({ R with bus := { R.bus with ctl := R.bus.ctl.set 0 { state := .errorActive }  }  }); let t : Nat := 10000000000; let b : Nat := 0; let a := s.advance t; let n := s.bus.net; b < 4 ∧ ((n.isMaster = false ∨ s.joined = false ∨ n.lastRef = some (a.clk.base / 100000000)))) ∧
    (let s : State := { R with bus := { R.bus with ctl := R.bus.ctl.set 0 { state := .errorActive } , net := { R.bus.net with isMaster := true, lastRef := some 100 } }  }; let t : Nat := 10000000000; let b : Nat := 0; let a := s.advance t; let n := s.bus.net; b < 4 ∧ ((n.isMaster = false ∨ s.joined = false ∨ n.lastRef = some (a.clk.base / 100000000)))) ∧
    (let s : State := { R with bus := { R.bus with ctl := R.bus.ctl.set 0 { state := .errorActive } , net := { R.bus.net with isMaster := true }, duplicate := true }  }; let t : Nat := 10000000000; let b : Nat := 0; let a := s.advance t; let n := s.bus.net; b < 4 ∧ ((n.isMaster = false ∨ s.joined = false ∨ n.lastRef = some (a.clk.base / 100000000)))) ∧
    (let s : State := cf [(0x50, 64, 5, [(1, 3), (16, 2), (259, 5), (261, 255)])] ({ R with bus := { R.bus with ctl := R.bus.ctl.set 0 { state := .errorActive } , net := { R.bus.net with silentSince := 9200000000 } }  }); let t : Nat := 10000000000; let b : Nat := 0; let a := s.advance t; let n := s.bus.net; b < 4 ∧ s.isCandidate = true ∧ s.joined = true ∧ n.isMaster = false ∧ n.silentSince + (3 + s.rank) * 100000000 ≤ a.clk.now) ∧
    (let s : State := cf [(0x50, 64, 5, [(1, 3), (261, 255)])] ({ R with bus := { R.bus with ctl := R.bus.ctl.set 0 { state := .errorActive }  }  }); let b : Nat := 0; let n := s.bus.net; b < 4 ∧ ((s.isCandidate = false ∨ s.joined = false ∨ n.isMaster = true))) := by
  refine ⟨?_, ?_, ?_, ?_, ?_, ?_, ?_, ?_, ?_⟩ <;> decide +kernel

theorem test_wit_NetworkTime_3 :
    (let s : State := cf [(0x50, 64, 5, [(1, 3), (16, 2), (261, 255)])] ({ R with bus := { R.bus with ctl := R.bus.ctl.set 0 { state := .errorActive } , duplicate := true }  }); let b : Nat := 0; let n := s.bus.net; b < 4 ∧ ((s.isCandidate = false ∨ s.joined = false ∨ n.isMaster = true))) ∧
    (let s : State := cf [(0x50, 64, 5, [(1, 3), (16, 2), (261, 255)])] ({ R with bus := { R.bus with ctl := R.bus.ctl.set 0 { state := .errorActive } , net := { R.bus.net with isMaster := true } }  }); let b : Nat := 0; let n := s.bus.net; b < 4 ∧ ((s.isCandidate = false ∨ s.joined = false ∨ n.isMaster = true))) ∧
    (let x := 0; let s : State := { R with bus := { R.bus with ctl := R.bus.ctl.set 0 { state := .errorActive } , net := { R.bus.net with state := 2, lastFu := [some 9700000000, none, none, none] } }  }; let t : Nat := 10000000000; let b : Nat := 0; let a := s.advance t; let n := s.bus.net; b < 4 ∧ n.isMaster = false ∧ ((n.state = 1 ∨ n.state = 2)) ∧ ((∀ x, s.lastFuOf x + 300000000 ≤ a.clk.now)) ∧ 300000000 ≤ a.clk.now) ∧
    (let s : State := { R with bus := { R.bus with ctl := R.bus.ctl.set 0 { state := .errorActive } , net := { R.bus.net with isMaster := true, state := 2 } }  }; let b : Nat := 0; let n := s.bus.net; b < 4 ∧ n.isMaster = true) ∧
    (let s : State := { R with bus := { R.bus with ctl := R.bus.ctl.set 0 { state := .errorActive } , net := { R.bus.net with state := 3, holdoverSince := some 0 } }  }; let t : Nat := 10000000000; let b : Nat := 0; let a := s.advance t; let n := s.bus.net; let x := 0; b < 4 ∧ n.state = 3 ∧ n.holdoverSince = some x ∧ x + 10000000000 ≤ a.clk.now) ∧
    (let s : State := cf [(0x50, 64, 5, [(1, 3), (261, 255)])] ({ R with bus := { R.bus with ctl := R.bus.ctl.set 0 { state := .errorActive }  }  }); let b : Nat := 0; let n := s.bus.net; b < 4 ∧ n.state ≠ 3) ∧
    (let s : State := cf [(0x50, 64, 5, [(1, 3), (261, 255), (263, 1)])] ({ R with bus := { R.bus with ctl := R.bus.ctl.set 0 { state := .errorActive } , net := { R.bus.net with taken := true } }  }); let t : Nat := 10000000000; let b : Nat := 0; let a := s.advance t; let n := s.bus.net; b < 4 ∧ s.busField 4 7 1 < 4 ∧ n.onSecondary = false ∧ s.lastFuOf (s.busField 4 6 1) + 300000000 ≤ a.clk.now) ∧
    (let s : State := cf [(0x50, 64, 5, [(1, 3), (261, 255), (263, 1)])] ({ R with bus := { R.bus with ctl := R.bus.ctl.set 0 { state := .errorActive }  }  }); let t : Nat := 10000000000; let b : Nat := 0; let a := s.advance t; let n := s.bus.net; b < 4 ∧ s.busField 4 7 1 < 4 ∧ n.onSecondary = false ∧ s.lastFuOf (s.busField 4 6 1) + 300000000 ≤ a.clk.now) ∧
    (let s : State := cf [(0x50, 64, 5, [(1, 3), (261, 255), (263, 4)])] ({ R with bus := { R.bus with ctl := R.bus.ctl.set 0 { state := .errorActive }  }  }); let b : Nat := 0; b < 4 ∧ 4 ≤ s.busField 4 7 1) := by
  refine ⟨?_, ?_, (⟨by decide +kernel, by decide +kernel, by decide +kernel, fun x => Nat.le_trans (Nat.add_le_add_right (test_lastFu (m := 9700000000) (by decide +kernel) (by decide +kernel) x) _) (by decide +kernel), by decide +kernel⟩), ?_, ?_, ?_, ?_, ?_, ?_⟩ <;> decide +kernel

theorem test_wit_NetworkTime_4 :
    (let s : State := cf [(0x50, 64, 5, [(1, 3), (261, 255)])] ({ R with bus := { R.bus with ctl := R.bus.ctl.set 0 { state := .errorActive }  }  }); let b : Nat := 0; let d : List Byte := [1, 2, 3, 4, 0, 0, 0, 0]; b < 4 ∧ Hears s b 5 d) ∧
    (let s : State := cf [(0x50, 64, 5, [(1, 3), (261, 255)])] ({ R with bus := { R.bus with ctl := R.bus.ctl.set 0 { state := .errorActive }  }  }); let b : Nat := 0; let n := s.bus.net; let g : RxFrame := ({ bus := 0, cls := 5, node := 7, index := 0, data := [5, 0, 0, 0, 0, 0, 0, 0], mark := 9, base := 11, flow := 13  } : RxFrame); b < 4 ∧ g.cls = 5 ∧ n.genFreq = []) ∧
    (let s : State := cf [(0x50, 64, 5, [(1, 3), (257, 2), (261, 255)])] ({ R with bus := { R.bus with ctl := R.bus.ctl.set 0 { state := .errorActive }  }  }); let b : Nat := 0; let n := s.bus.net; b < 4 ∧ tst (s.busField 4 1 1) 1 = true ∧ s.notch.src = .local_ ∧ s.joined = true ∧ n.lastGen = none) ∧
    (let s : State := R; let b : Nat := 0; b < 4 ∧ ((tst (s.busField 4 1 1) 1 = false ∨ s.notch.src ≠ .local_))) ∧
    (let s : State := cf [(0x50, 64, 5, [(1, 3), (257, 2), (261, 255)])] ({ R with bus := { R.bus with ctl := R.bus.ctl.set 0 { state := .errorActive }  } , notch := { R.notch with src := .held } }); let b : Nat := 0; b < 4 ∧ ((tst (s.busField 4 1 1) 1 = false ∨ s.notch.src ≠ .local_))) := by
  refine ⟨?_, ?_, ?_, ?_, ?_⟩ <;> decide +kernel


theorem test_wit_BusMessages :
    (let s : State := cf [(0x50, 64, 5, [(1, 3), (261, 255)])] ({ R with bus := { R.bus with ctl := R.bus.ctl.set 0 { state := .errorActive }  }  }); let b : Nat := 0; let d : List Byte := (List.replicate 16 0 ++ [4, 1, 0, 0, 0, 0, 0, 0]); b < 4 ∧ Hears s b 2 d) ∧
    (let s : State := cf [(0x50, 64, 5, [(1, 3), (261, 255)])] ({ R with bus := { R.bus with ctl := R.bus.ctl.set 0 { state := .errorActive }  }  }); let b : Nat := 0; let d : List Byte := (List.replicate 8 4); b < 4 ∧ Hears s b 3 d) ∧
    (let s : State := cf [(0x50, 64, 5, [(1, 3), (261, 255)])] ({ R with bus := { R.bus with ctl := R.bus.ctl.set 0 { state := .errorActive }  }  }); let b : Nat := 0; let d : List Byte := (List.replicate 16 4); b < 4 ∧ Hears s b 4 d) ∧
    (let s : State := cf [(0x50, 64, 5, [(1, 3), (261, 255)])] ({ R with bus := { R.bus with ctl := R.bus.ctl.set 0 { state := .errorActive }  }  }); let b : Nat := 0; let d : List Byte := (List.replicate 20 4); b < 4 ∧ Hears s b 8 d) ∧
    (let s : State := cf [(0x50, 64, 5, [(1, 3), (261, 255)])] ({ R with bus := { R.bus with ctl := R.bus.ctl.set 0 { state := .errorActive }  }  }); let b : Nat := 0; let d : List Byte := (List.replicate 20 4); b < 4 ∧ Hears s b 9 d) ∧
    (let s : State := cf [(0x50, 64, 5, [(1, 3), (261, 255)])] ({ R with bus := { R.bus with ctl := R.bus.ctl.set 0 { state := .errorActive }  }  }); let b : Nat := 0; let d : List Byte := (List.replicate 16 4); b < 4 ∧ Hears s b 10 d) ∧
    (let s : State := cf [(0x50, 64, 5, [(1, 3), (261, 255)])] ({ R with bus := { R.bus with ctl := R.bus.ctl.set 0 { state := .errorActive }  }  }); let b : Nat := 0; let d : List Byte := (List.replicate 16 4); b < 4 ∧ Hears s b 13 d) ∧
    (let g : RxFrame := ({ bus := 0, cls := 3, node := 7, index := 0, data := (List.replicate 8 4), mark := 9, base := 11, flow := 13  } : RxFrame); let s : State := cf [(0x50, 64, 5, [(1, 3), (261, 255)])] ({ R with bus := { R.bus with ctl := R.bus.ctl.set 0 { state := .errorActive } , presence := R.bus.presence.set 0 ((R.bus.presence.getD 0 []).set 7 { present := true, last := some 9700000000, since := 9000000000 }), slots := R.bus.slots.set 3 [g] }  }); let b : Nat := 0; b < 4 ∧ s.bus.slots.flatten = [g] ∧ s.bus.spill = []) ∧
    (let s : State := cf [(0x50, 64, 5, [(1, 3), (261, 255)])] ({ R with bus := { R.bus with ctl := R.bus.ctl.set 0 { state := .errorActive }  }  }); let b : Nat := 0; let g : RxFrame := ({ bus := 0, cls := 2, node := 63, index := 0, data := (List.replicate 16 0 ++ [4, 1, 0, 0, 0, 0, 0, 0]), mark := 9, base := 11, flow := 13  } : RxFrame); b < 4 ∧ g.cls = 2 ∧ g.node ≠ s.bus.nodeId ∧ g.node < 64) := by
  refine ⟨?_, ?_, ?_, ?_, ?_, ?_, ?_, ?_, ?_⟩ <;> decide +kernel

theorem test_wit_BusMessages_2 :
    (let s : State := cf [(0x50, 64, 5, [(1, 3), (261, 255)])] ({ R with bus := { R.bus with ctl := R.bus.ctl.set 0 { state := .errorActive }  }  }); let b : Nat := 0; let g : RxFrame := ({ bus := 0, cls := 2, node := 64, index := 0, data := (List.replicate 16 0 ++ [4, 1, 0, 0, 0, 0, 0, 0]), mark := 9, base := 11, flow := 13  } : RxFrame); b < 4 ∧ g.cls = 2 ∧ ((g.node = s.bus.nodeId ∧ g.data.take 16 = uniqueBytes ∨ g.node ≠ s.bus.nodeId ∧ 64 ≤ g.node))) ∧
    (let s : State := cf [(0x50, 64, 5, [(1, 3), (261, 255)])] ({ R with bus := { R.bus with ctl := R.bus.ctl.set 0 { state := .errorActive }  }  }); let b : Nat := 0; let g : RxFrame := ({ bus := 0, cls := 2, node := 0, index := 0, data := (if uniqueBytes = List.replicate 16 0 then List.replicate 16 1 else List.replicate 16 0) ++ [4, 1, 0, 0, 0, 0, 0, 0], mark := 9, base := 11, flow := 13  } : RxFrame); b < 4 ∧ g.cls = 2 ∧ g.node = s.bus.nodeId ∧ s.bus.claimEnd = none ∧ s.bus.duplicate = false ∧ g.data.take 16 ≠ uniqueBytes ∧ tst (byteAt g.data 17) 0 = true) ∧
    (let s : State := cf [(0x50, 64, 5, [(1, 3), (261, 255)])] ({ R with bus := { R.bus with ctl := R.bus.ctl.set 0 { state := .errorActive }  }  }); let b : Nat := 0; let g : RxFrame := ({ bus := 0, cls := 2, node := 0, index := 0, data := (if uniqueBytes = List.replicate 16 0 then List.replicate 16 1 else List.replicate 16 0) ++ [4, 0, 0, 0, 0, 0, 0, 0], mark := 9, base := 11, flow := 13  } : RxFrame); b < 4 ∧ g.cls = 2 ∧ g.node = s.bus.nodeId ∧ s.bus.claimEnd = none ∧ s.bus.duplicate = false ∧ g.data.take 16 ≠ uniqueBytes ∧ tst (byteAt g.data 17) 0 = false) ∧
    (let e := 10000000000; let s : State := cf [(0x50, 64, 5, [(1, 3), (261, 255)])] ({ R with bus := { R.bus with ctl := R.bus.ctl.set 0 { state := .errorActive } , claimEnd := some e }  }); let t : Nat := 10000000000; let b : Nat := 0; let a := s.advance t; b < 4 ∧ s.bus.claimEnd = some e ∧ e ≤ a.clk.now) ∧
    (let s : State := cf [(0x50, 64, 5, [(1, 3), (261, 255)])] ({ R with bus := { R.bus with ctl := R.bus.ctl.set 0 { state := .errorActive }  }  }); let b : Nat := 0; b < 4 ∧ s.bus.claimEnd = none) ∧
    (let s : State := cf [(0x50, 64, 5, [(1, 3), (261, 255)])] ({ R with bus := { R.bus with ctl := R.bus.ctl.set 0 { state := .errorActive }  }  }); let b : Nat := 0; let g : RxFrame := ({ bus := 0, cls := 4, node := 63, index := 0, data := (List.replicate 16 4), mark := 9, base := 11, flow := 13  } : RxFrame); b < 4 ∧ g.cls = 4 ∧ g.bus < s.bus.presence.length ∧ g.node < 64 ∧ g.node < (s.bus.presence.getD g.bus []).length) ∧
    (let s : State := cf [(0x50, 64, 5, [(1, 3), (261, 255)])] ({ R with bus := { R.bus with ctl := R.bus.ctl.set 0 { state := .errorActive }  }  }); let b : Nat := 0; b < 4 ∧ s.joined = true ∧ s.bus.lastHeartbeat = none) ∧
    (let s : State := { R with bus := { R.bus with ctl := R.bus.ctl.set 0 { state := .errorActive } , duplicate := true }  }; let b : Nat := 0; b < 4 ∧ s.joined = false) ∧
    (let s : State := cf [(0x50, 64, 5, [(1, 3), (261, 255)])] ({ R with bus := { R.bus with ctl := R.bus.ctl.set 0 { state := .errorActive } , presence := R.bus.presence.set 0 ((R.bus.presence.getD 0 []).set 7 { present := true, last := some 9700000000, since := 9000000000 }) }  }); let b : Nat := 0; let g : RxFrame := ({ bus := 0, cls := 3, node := 7, index := 0, data := (List.replicate 8 2), mark := 9, base := 11, flow := 13  } : RxFrame); b < 4 ∧ g.cls = 3 ∧ (s.presence g.bus g.node).present = true) := by
  refine ⟨?_, (by
    by_cases h : uniqueBytes = List.replicate 16 0
    · simp only [h, if_true]; decide +kernel
    · simp only [if_neg h]; exact ⟨by decide, by decide +kernel, by decide, by decide, by decide, fun e => h e.symm, by decide⟩), (by
    by_cases h : uniqueBytes = List.replicate 16 0
    · simp only [h, if_true]; decide +kernel
    · simp only [if_neg h]; exact ⟨by decide, by decide +kernel, by decide, by decide, by decide, fun e => h e.symm, by decide⟩), ?_, ?_, ?_, ?_, ?_, ?_⟩ <;> decide +kernel

theorem test_wit_BusMessages_3 :
    (let s : State := cf [(0x50, 64, 5, [(1, 3), (261, 255)])] ({ R with bus := { R.bus with ctl := R.bus.ctl.set 0 { state := .errorActive }  }  }); let b : Nat := 0; let g : RxFrame := ({ bus := 0, cls := 3, node := 7, index := 0, data := (List.replicate 8 2), mark := 9, base := 11, flow := 13  } : RxFrame); b < 4 ∧ g.cls = 3 ∧ (s.presence g.bus g.node).present = false) ∧
    (let s : State := { R with bus := { R.bus with ctl := R.bus.ctl.set 0 { state := .errorActive } , presence := R.bus.presence.set 0 ((R.bus.presence.getD 0 []).set 7 { present := true, last := some 9700000000, since := 9000000000 }) }  }; let t : Nat := 10000000000; let b : Nat := 0; let node : Nat := 7; let a := s.advance t; let x := 9700000000; b < 4 ∧ (s.presence b node).last = some x ∧ x + 300000000 ≤ a.clk.flow ∧ (s.presence b node).present = true) ∧
    (let s : State := { R with bus := { R.bus with ctl := R.bus.ctl.set 0 { state := .errorActive } , presence := R.bus.presence.set 0 ((R.bus.presence.getD 0 []).set 7 { present := true, last := some 9700000000, since := 9000000000 }) }  }; let t : Nat := 9999999999; let b : Nat := 0; let node : Nat := 7; let a := s.advance t; let x := 9700000000; b < 4 ∧ (s.presence b node).last = some x ∧ a.clk.flow < x + 300000000) ∧
    (let s : State := cf [(0x50, 64, 5, [(1, 3), (257, 1), (261, 255)])] ({ R with bus := { R.bus with ctl := R.bus.ctl.set 0 { state := .errorActive } , presence := R.bus.presence.set 0 ((R.bus.presence.getD 0 []).set 7 { present := true, last := some 9700000000, since := 9000000000 }) }  }); let t : Nat := 10000000000; let b : Nat := 0; let node : Nat := 7; let a := s.advance t; let g := 1; b < 4 ∧ g < 2 ∧ s.pairAB = true ∧ a.steady (1 - g) node = true ∧ (s.presence g node).last = none ∧ node ∉ (s.ctl g).legNodes) ∧
    (let s : State := cf [(0x50, 64, 5, [(1, 3), (261, 255)])] ({ R with bus := { R.bus with ctl := R.bus.ctl.set 0 { state := .errorActive }  }  }); let b : Nat := 0; b < 4 ∧ s.pairAB = false) ∧
    (let s : State := cf [(0x31, 16, 1, [(1, 3), (2, 7), (4, 3)]), (0x50, 64, 5, [(1, 3), (261, 255)])] ({ R with bus := { R.bus with ctl := R.bus.ctl.set 0 { state := .errorActive }  }  }); let b : Nat := 0; let g : RxFrame := ({ bus := 0, cls := 8, node := 7, index := 3, data := (List.replicate 20 4), mark := 9, base := 11, flow := 13  } : RxFrame); let k := 0; b < 4 ∧ g.cls = 8 ∧ s.netSet g.index = some k) ∧
    (let s : State := cf [(0x31, 16, 1, [(1, 3), (2, 7), (4, 3)]), (0x50, 64, 5, [(1, 3), (261, 255)])] ({ R with bus := { R.bus with ctl := R.bus.ctl.set 0 { state := .errorActive }  }  }); let b : Nat := 0; let g : RxFrame := ({ bus := 0, cls := 9, node := 7, index := 3, data := (List.replicate 20 4), mark := 9, base := 11, flow := 13  } : RxFrame); let k := 0; b < 4 ∧ g.cls = 9 ∧ s.netSet g.index = some k ∧ g.node = (s.foCfgOf k).home ∧ k < s.eng.fo.length) ∧
    (let s : State := cf [(0x31, 16, 1, [(1, 3), (2, 7), (4, 3)]), (0x50, 64, 5, [(1, 3), (261, 255)])] ({ R with bus := { R.bus with ctl := R.bus.ctl.set 0 { state := .errorActive }  }  }); let b : Nat := 0; let g : RxFrame := ({ bus := 0, cls := 10, node := 7, index := 3, data := (List.replicate 16 4), mark := 9, base := 11, flow := 13  } : RxFrame); let k := 0; b < 4 ∧ g.cls = 10 ∧ s.netSet g.index = some k ∧ byteAt g.data 9 ≠ 0 ∧ g.node = (s.foCfgOf k).home ∧ k < s.eng.fo.length) ∧
    (let s : State := cf [(0x31, 16, 1, [(1, 3), (2, 0), (4, 3)]), (0x50, 64, 5, [(1, 3), (261, 255)])] ({ R with bus := { R.bus with ctl := R.bus.ctl.set 0 { state := .errorActive }  }  }); let b : Nat := 0; let g : RxFrame := ({ bus := 0, cls := 10, node := 7, index := 3, data := (List.replicate 8 4 ++ [1, 0] ++ List.replicate 6 0), mark := 9, base := 11, flow := 13  } : RxFrame); let k := 0; b < 4 ∧ g.cls = 10 ∧ s.netSet g.index = some k ∧ byteAt g.data 9 = 0 ∧ s.foHome (s.foCfgOf k) = true ∧ (s.fo k).resetAt = none ∧ k < s.eng.fo.length) := by
  refine ⟨?_, ?_, ?_, ?_, ?_, ?_, ?_, ?_, ?_⟩ <;> decide +kernel

theorem test_wit_BusMessages_4 :
    (let s : State := cf [(0x31, 16, 1, [(1, 3), (2, 7), (4, 3)]), (0x50, 64, 5, [(1, 3), (261, 255)])] ({ R with bus := { R.bus with ctl := R.bus.ctl.set 0 { state := .errorActive }  }  }); let b : Nat := 0; let g : RxFrame := ({ bus := 0, cls := 10, node := 7, index := 3, data := (List.replicate 8 4 ++ [1, 0] ++ List.replicate 6 0), mark := 9, base := 11, flow := 13  } : RxFrame); let k := 0; b < 4 ∧ g.cls = 10 ∧ s.netSet g.index = some k ∧ byteAt g.data 9 = 0 ∧ ((s.foHome (s.foCfgOf k) = false ∨ (s.fo k).resetAt ≠ none))) ∧
    (let s : State := cf [(0x31, 16, 1, [(1, 3), (2, 0), (4, 3)]), (0x50, 64, 5, [(1, 3), (261, 255)])] ({ R with bus := { R.bus with ctl := R.bus.ctl.set 0 { state := .errorActive }  } , eng := { R.eng with fo := R.eng.fo.set 0 { resetAt := some (8, 9) } } }); let b : Nat := 0; let g : RxFrame := ({ bus := 0, cls := 10, node := 7, index := 3, data := (List.replicate 8 4 ++ [1, 0] ++ List.replicate 6 0), mark := 9, base := 11, flow := 13  } : RxFrame); let k := 0; b < 4 ∧ g.cls = 10 ∧ s.netSet g.index = some k ∧ byteAt g.data 9 = 0 ∧ ((s.foHome (s.foCfgOf k) = false ∨ (s.fo k).resetAt ≠ none))) ∧
    (let s : State := cf [(0x50, 64, 5, [(1, 3), (261, 255)])] ({ R with bus := { R.bus with ctl := R.bus.ctl.set 0 { state := .errorActive }  }  }); let b : Nat := 0; let g : RxFrame := ({ bus := 0, cls := 8, node := 7, index := 3, data := (List.replicate 20 4), mark := 9, base := 11, flow := 13  } : RxFrame); b < 4 ∧ ((g.cls = 8 ∨ g.cls = 9 ∨ g.cls = 10)) ∧ s.netSet g.index = none) ∧
    (let s : State := cf [(0x50, 64, 5, [(1, 3), (261, 255)])] ({ R with bus := { R.bus with ctl := R.bus.ctl.set 0 { state := .errorActive }  }  }); let b : Nat := 0; let g : RxFrame := ({ bus := 0, cls := 9, node := 7, index := 3, data := (List.replicate 20 4), mark := 9, base := 11, flow := 13  } : RxFrame); b < 4 ∧ ((g.cls = 8 ∨ g.cls = 9 ∨ g.cls = 10)) ∧ s.netSet g.index = none) ∧
    (let s : State := cf [(0x50, 64, 5, [(1, 3), (261, 255)])] ({ R with bus := { R.bus with ctl := R.bus.ctl.set 0 { state := .errorActive }  }  }); let b : Nat := 0; let g : RxFrame := ({ bus := 0, cls := 10, node := 7, index := 3, data := (List.replicate 20 4), mark := 9, base := 11, flow := 13  } : RxFrame); b < 4 ∧ ((g.cls = 8 ∨ g.cls = 9 ∨ g.cls = 10)) ∧ s.netSet g.index = none) ∧
    (let s : State := cf [(1, 32, 1, [(1, 3)]), (0x50, 64, 5, [(1, 3), (261, 255)])] ({ R with bus := { R.bus with ctl := R.bus.ctl.set 0 { state := .errorActive }  } , pwr := { R.pwr with state := .armed }, host := { R.host with ready := true } }); let b : Nat := 0; let g : RxFrame := ({ bus := 0, cls := 13, node := 7, index := 0, data := ([0, 2, 127, 0] ++ List.replicate 12 0), mark := 9, base := 11, flow := 13  } : RxFrame); b < 4 ∧ g.cls = 13 ∧ byteAt g.data 0 = s.bus.nodeId ∧ s.panelAck g = true ∧ byteAt g.data 1 = 2 ∧ u16At g.data 2 < 128 ∧ u16At g.data 4 = s.cfg.roles.get .group (u16At g.data 2)) ∧
    (let s : State := cf [(1, 32, 1, [(1, 2)]), (0x50, 64, 5, [(1, 3), (261, 255)])] ({ R with bus := { R.bus with ctl := R.bus.ctl.set 0 { state := .errorActive }  } , pwr := { R.pwr with state := .armed }, host := { R.host with ready := true } }); let b : Nat := 0; let g : RxFrame := ({ bus := 0, cls := 13, node := 7, index := 0, data := ([0, 2, 127, 0] ++ List.replicate 12 0), mark := 9, base := 11, flow := 13 , auth := true } : RxFrame); b < 4 ∧ g.cls = 13 ∧ byteAt g.data 0 = s.bus.nodeId ∧ s.panelAck g = true ∧ byteAt g.data 1 = 2 ∧ u16At g.data 2 < 128 ∧ u16At g.data 4 = s.cfg.roles.get .group (u16At g.data 2)) ∧
    (let s : State := cf [(1, 32, 1, [(1, 3)]), (0x50, 64, 5, [(1, 3), (261, 255)])] ({ R with bus := { R.bus with ctl := R.bus.ctl.set 0 { state := .errorActive }  } , pwr := { R.pwr with state := .armed }, host := { R.host with ready := true } }); let b : Nat := 0; let g : RxFrame := ({ bus := 0, cls := 13, node := 7, index := 0, data := ([0, 1, 3, 0, 9, 9] ++ List.replicate 10 0), mark := 9, base := 11, flow := 13  } : RxFrame); b < 4 ∧ g.cls = 13 ∧ byteAt g.data 0 = s.bus.nodeId ∧ s.panelAck g = true ∧ byteAt g.data 1 = 1 ∧ u16At g.data 2 < 1024 ∧ u16At g.data 4 ≠ s.cfg.roles.get .weir (u16At g.data 2)) ∧
    (let s : State := cf [(1, 32, 1, [(1, 3)]), (0x50, 64, 5, [(1, 3), (261, 255)])] ({ R with bus := { R.bus with ctl := R.bus.ctl.set 0 { state := .errorActive }  } , pwr := { R.pwr with state := .armed }, host := { R.host with ready := true } }); let b : Nat := 0; let g : RxFrame := ({ bus := 0, cls := 13, node := 7, index := 0, data := ([1, 2, 127, 0] ++ List.replicate 12 0), mark := 9, base := 11, flow := 13  } : RxFrame); b < 4 ∧ g.cls = 13 ∧ ((byteAt g.data 0 ≠ s.bus.nodeId ∨ (byteAt g.data 1 < 3 ∧ s.panelAck g = false)))) := by
  refine ⟨?_, ?_, ?_, ?_, ?_, ?_, ?_, ?_, ?_⟩ <;> decide +kernel

theorem test_wit_BusMessages_5 :
    (let s : State := cf [(1, 32, 1, [(1, 2)]), (0x50, 64, 5, [(1, 3), (261, 255)])] ({ R with bus := { R.bus with ctl := R.bus.ctl.set 0 { state := .errorActive }  } , pwr := { R.pwr with state := .armed }, host := { R.host with ready := true } }); let b : Nat := 0; let g : RxFrame := ({ bus := 0, cls := 13, node := 7, index := 0, data := ([0, 2, 127, 0] ++ List.replicate 12 0), mark := 9, base := 11, flow := 13  } : RxFrame); b < 4 ∧ g.cls = 13 ∧ ((byteAt g.data 0 ≠ s.bus.nodeId ∨ (byteAt g.data 1 < 3 ∧ s.panelAck g = false)))) ∧
    (let s : State := cf [(1, 32, 1, [(1, 1)]), (0x50, 64, 5, [(1, 3), (261, 255)])] ({ R with bus := { R.bus with ctl := R.bus.ctl.set 0 { state := .errorActive }  } , pwr := { R.pwr with state := .armed }, host := { R.host with ready := true } }); let b : Nat := 0; b < 4 ∧ s.remoteMode = 1) ∧
    (let s : State := cf [(0x50, 64, 5, [(1, 3), (261, 255)])] ({ R with bus := { R.bus with ctl := R.bus.ctl.set 0 { state := .errorActive }  }  }); let b : Nat := 0; let d : List Byte := ([2, 0, 100, 0] ++ List.replicate 60 9); let i := 256; b < 4 ∧ Hears s b 0x20 d ∧ i / 256 ≠ s.bus.nodeId) ∧
    (let s : State := cf [(0x50, 64, 5, [(1, 3), (261, 255)])] ({ R with bus := { R.bus with ctl := R.bus.ctl.set 0 { state := .errorActive }  }  }); let b : Nat := 0; let d : List Byte := ([2, 0, 100, 0] ++ List.replicate 60 9); let i := 248; b < 4 ∧ Hears s b 0x20 d ∧ i / 256 = s.bus.nodeId ∧ i % 8 = 0 ∧ byteAt d 0 = 2 ∧ u16At d 2 = 100 ∧ s.bus.ring = []) ∧
    (let s : State := cf [(0x50, 64, 5, [(1, 3), (261, 255)])] ({ R with bus := { R.bus with ctl := R.bus.ctl.set 0 { state := .errorActive }  }  }); let b : Nat := 0; let d : List Byte := ([2, 0, 100, 0] ++ List.replicate 60 9); let i := 248; b < 4 ∧ Hears s b 0x21 d ∧ i / 256 = s.bus.nodeId ∧ i % 8 = 0 ∧ byteAt d 0 = 2 ∧ u16At d 2 = 100 ∧ s.bus.ring = []) ∧
    (let s : State := cf [(0x50, 64, 5, [(1, 3), (261, 255)])] ({ R with bus := { R.bus with ctl := R.bus.ctl.set 0 { state := .errorActive }  }  }); let b : Nat := 0; let node : Nat := 7; let tr := 3; let rsp := true; b < 4 ∧ ((∀ r ∈ s.bus.ring, r.is node tr rsp = false))) ∧
    (let s : State := { R with bus := { R.bus with ctl := R.bus.ctl.set 0 { state := .errorActive } , ring := [({ src := 7, transfer := 3, rsp := true, bus := 0, count := 2, len := 100, segs := [(0, [1])], first := 0, auth := false } : Reassembly)] }  }; let b : Nat := 0; let node : Nat := 8; let tr := 3; let rsp := true; b < 4 ∧ ((∀ r ∈ s.bus.ring, r.is node tr rsp = false))) ∧
    (let r := ({ src := 7, transfer := 3, rsp := true, bus := 0, count := 2, len := 100, segs := [(0, [1])], first := 0, auth := false } : Reassembly); let s : State := { R with bus := { R.bus with ctl := R.bus.ctl.set 0 { state := .errorActive } , ring := [r] }  }; let t : Nat := 10000000000; let b : Nat := 0; let node : Nat := 7; let a := s.advance t; let tr := 3; let rsp := true; b < 4 ∧ s.bus.ring = [r] ∧ r.is node tr rsp = true ∧ r.first + 100000000 ≤ a.clk.now) ∧
    (let f := fl 0x0105 0 [0, 0, 0, 0]; let s : State := ex (R) (f); let b : Nat := 0; let tag := 0; b < 4 ∧ Executes s tag 0x0105 f ∧ byteAt f.req 16 = s.bus.nodeId) := by
  refine ⟨?_, ?_, ?_, ?_, ?_, ?_, ?_, ?_, ?_⟩ <;> decide +kernel

theorem test_wit_BusMessages_6 :
    (let f := fl 0x0105 0 [63, 0, 100, 0]; let s : State := ex (R) (f); let b : Nat := 0; let tag := 0; b < 4 ∧ Executes s tag 0x0105 f ∧ byteAt f.req 16 ≠ s.bus.nodeId ∧ s.host.queue = []) ∧
    (let w := ({ fl := fl 0x0105 0, kind := .forward 3 4 100000000 } : Wait); let s : State := { R with host := { R.host with waits := [w] } }; let t : Nat := 10000000000; let b : Nat := 0; let a := s.advance t; let x := 3; let y := 4; let z := 100000000; b < 4 ∧ s.host.waits = [w] ∧ w.kind = .forward x y z ∧ z ≤ a.clk.now) ∧
    (let s : State := { R with host := { R.host with waits := [({ fl := fl 0x0309 0, kind := .vibCapture } : Wait)] } }; ∀ w ∈ s.host.waits, w.kind = .vibCapture) := by
  refine ⟨?_, ?_, ?_⟩ <;> decide +kernel


theorem test_wit_BusObjects :
    (let s : State := cf [(0x50, 64, 5, [(1, 3), (261, 255)])] ({ R with bus := { R.bus with ctl := R.bus.ctl.set 0 { state := .errorActive }  }  }); let b : Nat := 0; let d : List Byte := [1, 2, 3, 4]; let n := 7; let i := 5; b < 4 ∧ (s.ctl b).hears = true ∧ s.busOpt b 1 = true ∧ s.bus.claimEnd = none ∧ s.matching b false n i d.length = []) ∧
    (let s : State := cf [(0x50, 64, 5, [(1, 3), (261, 255)]), (0x51, 64, 1, [(1, 3), (4, 5), (6, 7), (12, 4)])] ({ R with bus := { R.bus with ctl := R.bus.ctl.set 0 { state := .errorActive }  }  }); let b : Nat := 0; let d : List Byte := [1, 2, 3, 4]; let n := 7; let i := 5; let j := 0; b < 4 ∧ (s.ctl b).hears = true ∧ s.busOpt b 1 = true ∧ s.bus.claimEnd = none ∧ s.matching b false n i d.length = [j] ∧ s.objOpt j 5 = false ∧ s.objField j 2 1 ≠ 4 ∧ j < s.bus.shadows.length) ∧
    (let s : State := cf [(0x50, 64, 5, [(1, 3), (261, 255)]), (0x51, 64, 1, [(1, 7), (4, 5), (12, 4)])] ({ R with bus := { R.bus with ctl := R.bus.ctl.set 0 { state := .errorActive }  }  }); let b : Nat := 0; let d : List Byte := [1, 2, 3, 4]; let i := 5; let j := 0; b < 4 ∧ (s.ctl b).hears = true ∧ s.matching b true 0 i d.length = [j] ∧ s.objOpt j 5 = false ∧ j < s.bus.shadows.length) ∧
    (let s : State := cf [(0x50, 64, 5, [(1, 3), (261, 255)])] ({ R with bus := { R.bus with ctl := R.bus.ctl.set 0 { state := .errorActive }  }  }); let b : Nat := 3; b < 4 ∧ (s.ctl b).hears = false) ∧
    (let s : State := cf [(0x50, 64, 5, [(1, 3), (261, 255)]), (0x51, 64, 1, [(8, 1)])] ({ R with bus := { R.bus with shadows := R.bus.shadows.set 0 { rx := some 999999999 } } }); let t : Nat := 999999999; let b : Nat := 0; let j := 0; let x := 999999999; b < 4 ∧ j < 128 ∧ (s.shadow j).rx = some x ∧ (s.toFrame t).clk.flow < x + 1000000 * s.objField j 8 2) ∧
    (let s : State := cf [(0x50, 64, 5, [(1, 3), (261, 255)]), (0x51, 64, 1, [(1, 3), (8, 100), (14, 1), (16, 2), (17, 1), (18, 255), (19, 255), (20, 255), (21, 1)])] ({ R with bus := { R.bus with shadows := R.bus.shadows.set 0 { rx := some 0 }, values := R.bus.values.set 511 { val := 5, last := 6, q := .good } } }); let t : Nat := 1000000000; let b : Nat := 0; let j := 0; let x := 0; let o := 1; let w := 0xFFFF; let v := 511; b < 4 ∧ j < 128 ∧ s.objRx j = true ∧ s.objFields j = [(2, o, w, v)] ∧ v < s.bus.values.length ∧ (s.shadow j).rx = some x ∧ x + 1000000 * s.objField j 8 2 ≤ (s.toFrame t).clk.flow ∧ (s.shadow j).enabled + 1000000 * s.objField j 8 2 ≤ (s.toFrame t).clk.flow ∧ rxStale 2 w ((s.shadow j).data.drop o) = false) ∧
    (let i := 5; let s : State := cf [(0x50, 64, 5, [(1, 3), (261, 255)])] ({ R with bus := { R.bus with ctl := R.bus.ctl.set 0 { state := .errorActive }  }  }); let b : Nat := 0; let j := 127; b < 4 ∧ j < 128 ∧ ((∀ i, i ≤ j → (s.shadow i).due = none))) ∧
    (let i := 5; let x := true; let s : State := cf [(0x50, 64, 5, [(1, 3), (261, 255)]), (0x51, 64, 1, [(1, 1), (12, 4)])] ({ R with bus := { R.bus with ctl := R.bus.ctl.set 0 { state := .errorActive } , shadows := R.bus.shadows.set 0 { due := some x } }  }); let b : Nat := 0; let j := 0; b < 4 ∧ j < 128 ∧ j < s.bus.shadows.length ∧ (s.shadow j).due = some x ∧ ((∀ i, i < j → (s.shadow i).due = none)) ∧ s.objOpt j 5 = false ∧ s.objField j 2 1 = b ∧ (s.ctl b).state ≠ .off ∧ b < s.bus.ctl.length ∧ (s.ctl b).objs = []) ∧
    (let f := fl 0x0704 0 []; let s : State := ex (cf [(0x50, 64, 5, [(1, 3), (261, 255)]), (0x51, 64, 1, [(1, 1), (12, 4)])] ({ R with bus := { R.bus with ctl := R.bus.ctl.set 0 { state := .errorActive }  }  })) (f); let b : Nat := 0; let tag := 0; b < 4 ∧ Executes s tag 0x0704 f ∧ s.objTx f.unit = true) := by
  refine ⟨?_, ?_, ?_, ?_, ?_, ?_, ?_, ?_, ?_⟩ <;> decide +kernel

theorem test_wit_BusObjects_2 :
    (let f := fl 0x0704 0 []; let s : State := ex (cf [(0x50, 64, 5, [(1, 3), (261, 255)]), (0x51, 64, 1, [(1, 3), (12, 4)])] ({ R with bus := { R.bus with ctl := R.bus.ctl.set 0 { state := .errorActive }  }  })) (f); let b : Nat := 0; let tag := 0; b < 4 ∧ Executes s tag 0x0704 f ∧ s.objTx f.unit = false) ∧
    (let s : State := { R with host := { R.host with waits := [({ fl := fl 0x0704 0, kind := .busSend 0 1000000000 } : Wait)] } }; let t : Nat := 999999999; ∀ w ∈ s.host.waits, w.kind = .busSend 0 1000000000 ∧ (s.advance t).clk.now < 1000000000) ∧
    (let w := ({ fl := fl 0x0704 0, kind := .busSend 0 1000000000 } : Wait); let s : State := { R with host := { R.host with waits := [w] } }; let t : Nat := 1000000000; let b : Nat := 0; let a := s.advance t; let o := 0; let z := 1000000000; b < 4 ∧ s.host.waits = [w] ∧ w.kind = .busSend o z ∧ z ≤ a.clk.now ∧ w.fl.id < 240) ∧
    (let f := fl 0x0706 0 [0, 0, 0, 0]; let s : State := ex (cf [(0x50, 64, 5, [(1, 3), (261, 255)])] ({ R with bus := { R.bus with ctl := R.bus.ctl.set 0 { state := .errorActive } , presence := R.bus.presence.set 0 ((R.bus.presence.getD 0 []).set 7 { present := true, last := some 9700000000, since := 9000000000 }) }  })) (f); let b : Nat := 0; let tag := 0; b < 4 ∧ Executes s tag 0x0706 f) ∧
    (let f := fl 0x0707 0 [0, 2, 0, 0]; let s : State := ex (R) (f); let b : Nat := 0; let tag := 0; b < 4 ∧ Executes s tag 0x0707 f ∧ u16At f.req 16 + u16At f.req 18 ≤ 512) ∧
    (let f := fl 0x0707 0 [254, 1, 2, 0]; let s : State := ex (R) (f); let b : Nat := 0; let tag := 0; b < 4 ∧ Executes s tag 0x0707 f ∧ u16At f.req 16 + u16At f.req 18 ≤ 512) := by
  refine ⟨?_, ?_, ?_, ?_, ?_, ?_⟩ <;> decide +kernel


theorem test_wit_HoldAndHeadgate :
    (let f : Flight := fl 0x0A03 0 []; let s : State := ex ({ R with pwr := { R.pwr with holdMv := 8000 }  }) (f); let tag : Nat := 0; let p := s.pwr; Executes s tag 0x0A03 f ∧ p.testRun = false ∧ 8000 ≤ p.holdMv) ∧
    (let f : Flight := fl 0x0A03 0 []; let s : State := ex ({ R with pwr := { R.pwr with holdMv := 7999 }  }) (f); let tag : Nat := 0; let p := s.pwr; Executes s tag 0x0A03 f ∧ p.testRun = false ∧ p.holdMv < 8000) ∧
    (let s : State := { R with pwr := { R.pwr with state := .armed, testDue := true, testOk := true, holdMv := 8000 } , frame := { R.frame with running := true, nextTick := 40000000000 } }; let t : Nat := 40000000000; let a := s.advance t; let p := s.pwr; ((s.frame.running = true ∧ p.testDue = true ∧ p.testOk = true ∨ s.frame.running = false ∧ a.testDue p.holdMv = true)) ∧ s.churnRuns = false ∧ p.state ≠ .holdup ∧ 8000 ≤ p.holdMv ∧ p.testRun = false) ∧
    (let s : State := { R with pwr := { R.pwr with state := .armed, testDue := true, holdMv := 8000 }  }; let t : Nat := 40000000000; let a := s.advance t; let p := s.pwr; ((s.frame.running = true ∧ p.testDue = true ∧ p.testOk = true ∨ s.frame.running = false ∧ a.testDue p.holdMv = true)) ∧ s.churnRuns = false ∧ p.state ≠ .holdup ∧ 8000 ≤ p.holdMv ∧ p.testRun = false) ∧
    (let s : State := R; let t : Nat := 40000000000; let a := s.advance t; let p := s.pwr; ((s.frame.running = true ∧ (p.testDue = false ∨ p.testOk = false) ∨ s.frame.running = false ∧ a.testDue p.holdMv = false ∨ s.churnRuns = true ∨ p.state = .holdup ∨ p.holdMv < 8000 ∨ p.testRun = true))) ∧
    (let s : State := { R with pwr := { R.pwr with testDue := true, holdMv := 8000 } , frame := { R.frame with running := true, nextTick := 40000000000 } }; let t : Nat := 40000000000; let a := s.advance t; let p := s.pwr; ((s.frame.running = true ∧ (p.testDue = false ∨ p.testOk = false) ∨ s.frame.running = false ∧ a.testDue p.holdMv = false ∨ s.churnRuns = true ∨ p.state = .holdup ∨ p.holdMv < 8000 ∨ p.testRun = true))) ∧
    (let s : State := { R with pwr := { R.pwr with testDue := true, testOk := true, state := .holdup, holdMv := 8000 } , frame := { R.frame with running := true, nextTick := 40000000000 } }; let t : Nat := 40000000000; let a := s.advance t; let p := s.pwr; ((s.frame.running = true ∧ (p.testDue = false ∨ p.testOk = false) ∨ s.frame.running = false ∧ a.testDue p.holdMv = false ∨ s.churnRuns = true ∨ p.state = .holdup ∨ p.holdMv < 8000 ∨ p.testRun = true))) ∧
    (let s : State := { R with pwr := { R.pwr with testDue := true, testOk := true, holdMv := 7999 } , frame := { R.frame with running := true, nextTick := 40000000000 } }; let t : Nat := 40000000000; let a := s.advance t; let p := s.pwr; ((s.frame.running = true ∧ (p.testDue = false ∨ p.testOk = false) ∨ s.frame.running = false ∧ a.testDue p.holdMv = false ∨ s.churnRuns = true ∨ p.state = .holdup ∨ p.holdMv < 8000 ∨ p.testRun = true))) ∧
    (let s : State := { R with pwr := { R.pwr with testDue := true, testOk := true, holdMv := 8000, testRun := true } , frame := { R.frame with running := true, nextTick := 40000000000 } }; let t : Nat := 40000000000; let a := s.advance t; let p := s.pwr; ((s.frame.running = true ∧ (p.testDue = false ∨ p.testOk = false) ∨ s.frame.running = false ∧ a.testDue p.holdMv = false ∨ s.churnRuns = true ∨ p.state = .holdup ∨ p.holdMv < 8000 ∨ p.testRun = true))) := by
  refine ⟨?_, ?_, ?_, ?_, ?_, ?_, ?_, ?_, ?_⟩ <;> decide +kernel

theorem test_wit_HoldAndHeadgate_2 :
    (let s : State := { R with pwr := { R.pwr with testDue := true, testOk := true, holdMv := 8000 } , frame := { R.frame with running := true, nextTick := 40000000000 }, nvm := { running := some ({ num := 1, kind := .logChurn } : NvmOp) } }; let t : Nat := 40000000000; let a := s.advance t; let p := s.pwr; ((s.frame.running = true ∧ (p.testDue = false ∨ p.testOk = false) ∨ s.frame.running = false ∧ a.testDue p.holdMv = false ∨ s.churnRuns = true ∨ p.state = .holdup ∨ p.holdMv < 8000 ∨ p.testRun = true))) ∧
    (let s : State := { R with pwr := { R.pwr with testRun := true }  }; let p := s.pwr; p.testRun = true) ∧
    (let s : State := { R with pwr := { R.pwr with testRun := true }  }; let p := s.pwr; let v1 := 11900; let v2 := 11800; p.testRun = true ∧ v2 < v1) ∧
    (let s : State := { R with pwr := { R.pwr with testRun := true, euUj := 77 } , host := { R.host with waits := [{ fl := fl 0x0A03 0, kind := .holdTest }] } }; let p := s.pwr; let v1 := 11900; let v2 := 10900; p.testRun = true ∧ v2 < v1) ∧
    (let s : State := R; let p := s.pwr; p.testRun = false) ∧
    (let s : State := { R with pwr := { R.pwr with ledgerOn := true, ledgerMv := 7000, holdMv := 8000, ledgerNj := 1000 }  }; let p := s.pwr; p.ledgerOn = true ∧ p.ledgerMv + 1000 ≤ p.holdMv) ∧
    (let s : State := { R with pwr := { R.pwr with ledgerOn := true, ledgerMv := 7000, holdMv := 8000, ledgerNj := 1000, measured := true, cTest := 9000 }  }; let p := s.pwr; p.ledgerOn = true ∧ p.ledgerMv + 1000 ≤ p.holdMv) ∧
    (let s : State := R; let p := s.pwr; ((p.ledgerOn = false ∨ p.holdMv < p.ledgerMv + 1000))) ∧
    (let s : State := { R with pwr := { R.pwr with ledgerOn := true, ledgerMv := 7000, holdMv := 7999 }  }; let p := s.pwr; ((p.ledgerOn = false ∨ p.holdMv < p.ledgerMv + 1000))) := by
  refine ⟨?_, ?_, ?_, ?_, ?_, ?_, ?_, ?_, ?_⟩ <;> decide +kernel

theorem test_wit_HoldAndHeadgate_3 :
    (let s : State := { R with pwr := { R.pwr with chargeFrom := some 10000000000, holdMv := 7999 }  }; let t : Nat := 40000000000; let a := s.advance t; let p := s.pwr; let x := 10000000000; p.chargeFrom = some x ∧ x + 30000000000 ≤ a.clk.now ∧ p.holdMv < 8000 ∧ p.absent = false) ∧
    (let s : State := R; let p := s.pwr; ((p.chargeFrom = none ∨ 8000 ≤ p.holdMv))) ∧
    (let s : State := { R with pwr := { R.pwr with chargeFrom := some 7, holdMv := 8000 }  }; let p := s.pwr; ((p.chargeFrom = none ∨ 8000 ≤ p.holdMv))) ∧
    (let s : State := R; let m := 799; m < budget16 s.cfg.img 4 800) ∧
    (let x := 10000000000; let s : State := R; let t : Nat := 40000000000; let a := s.advance t; let p := s.pwr; let m := 800; budget16 s.cfg.img 4 800 ≤ m ∧ ((∀ x, p.lastPeak = some x → x + 60000000000 ≤ a.clk.now))) ∧
    (let s : State := { R with pwr := { R.pwr with lastPeak := some 10000000000 }  }; let t : Nat := 40000000000; let a := s.advance t; let p := s.pwr; let m := 800; let x := 10000000000; budget16 s.cfg.img 4 800 ≤ m ∧ p.lastPeak = some x ∧ a.clk.now < x + 60000000000) ∧
    (let x := 10000000000; let s : State := cf [(0x10, 96, 1, [(1, 16)])] ({ R with pwr := { R.pwr with dissF := 6001 } , outs := R.outs.set 0 { drive := .run, next := 5 }, banks := R.banks.set 0 { power := .up } }); let t : Nat := 40000000000; let a := s.advance t; let p := s.pwr; let n := 0; ((s.dissTop < p.dissF ∨ (s.inputTop : Rat) < p.inF ∨ p.headgateOver = true)) ∧ ((∀ x, p.lastShed = some x → x + 100000000 ≤ a.clk.now)) ∧ s.shedNext = some n ∧ n < s.outs.length) ∧
    (let s : State := R; let p := s.pwr; p.dissF ≤ s.dissTop ∧ p.inF ≤ s.inputTop ∧ p.headgateOver = false) ∧
    (let x := 39950000000; let s : State := { R with pwr := { R.pwr with lastShed := some x, dissF := 7000 }  }; let t : Nat := 40000000000; let a := s.advance t; let p := s.pwr; p.lastShed = some x ∧ a.clk.now < x + 100000000) := by
  refine ⟨?_, ?_, ?_, ?_, ?_, ?_, ?_, ?_, ?_⟩ <;> decide +kernel

theorem test_wit_HoldAndHeadgate_4 :
    (let f : Flight := fl 0x0E05 0 [0, 1, 60, 0, 4, 0, 0, 0]; let s : State := ex (R) (f); let tag : Nat := 0; Executes s tag 0x0E05 f ∧ u16At f.req 18 + byteAt f.req 20 ≤ resourceCount (byteAt f.req 17)) ∧
    (let f : Flight := fl 0x0E05 0 [0, 1, 60, 0, 5, 0, 0, 0]; let s : State := ex (R) (f); let tag : Nat := 0; Executes s tag 0x0E05 f ∧ resourceCount (byteAt f.req 17) < u16At f.req 18 + byteAt f.req 20) ∧
    (let f : Flight := fl 0x0E05 0 [0, 9, 0, 0, 1, 0, 0, 0]; let s : State := ex (R) (f); let tag : Nat := 0; Executes s tag 0x0E05 f ∧ resourceCount (byteAt f.req 17) < u16At f.req 18 + byteAt f.req 20) ∧
    (let f : Flight := fl 0x0E04 0 [1, 0, 0, 0]; let s : State := ex (cf [(0x81, 16, 8, [(1, 1)])] (R)) (f); let tag : Nat := 0; Executes s tag 0x0E04 f ∧ s.aoOn f.unit = true ∧ s.aoField f.unit 2 1 = 0) ∧
    (let f : Flight := fl 0x0E04 7 [1, 0, 0, 0]; let s : State := ex (R) (f); let tag : Nat := 0; Executes s tag 0x0E04 f ∧ ((s.aoOn f.unit = false ∨ s.aoField f.unit 2 1 ≠ 0))) ∧
    (let f : Flight := fl 0x0E04 0 [1, 0, 0, 0]; let s : State := ex (cf [(0x81, 16, 8, [(1, 1), (2, 1)])] (R)) (f); let tag : Nat := 0; Executes s tag 0x0E04 f ∧ ((s.aoOn f.unit = false ∨ s.aoField f.unit 2 1 ≠ 0))) := by
  refine ⟨?_, ?_, ?_, ?_, ?_, ?_⟩ <;> decide +kernel


theorem test_wit_DisplayEngine :
    (let f : Flight := fl 0x0B04 0 []; let s : State := ex (cf [(0x60, 32, 9, [(1, 1), (8, 255)])] (R)) (f); let tag : Nat := 0; let d := s.disp; Executes s tag 0x0B04 f ∧ s.regionOn f.unit = true ∧ s.dispField f.unit 4 1 = 0 ∧ d.tempOut = false ∧ ((∀ w, (s.region f.unit).run = some w → w.toggle = true)) ∧ (s.region f.unit).toggle = none) ∧
    (let f : Flight := fl 0x0B04 0 []; let s : State := ex (cf [(0x60, 32, 9, [(1, 1), (8, 255)])] ({ R with disp := { R.disp with unknown := 0xF0, dark := 0xFF, blink := 1 }  })) (f); let tag : Nat := 0; let d := s.disp; Executes s tag 0x0B04 f ∧ s.regionOn f.unit = true ∧ s.dispField f.unit 4 1 = 0 ∧ d.tempOut = false ∧ ((∀ w, (s.region f.unit).run = some w → w.toggle = true)) ∧ (s.region f.unit).toggle = none) ∧
    (let f : Flight := fl 0x0B03 0 ([255] ++ List.replicate 23 0 ++ [3] ++ List.replicate 23 0 ++ [4] ++ List.replicate 23 0); let s : State := ex (cf [(0x60, 32, 9, [(1, 1), (8, 255)])] (R)) (f); let tag : Nat := 0; let d := s.disp; let m := s.regionMask f.unit; let x := 255; let y := 3; let z := 4; Executes s tag 0x0B03 f ∧ s.regionOn f.unit = true ∧ s.dispField f.unit 4 1 = 0 ∧ d.tempOut = false ∧ (f.req.drop 16).take 72 = cellBytes x ++ cellBytes y ++ cellBytes z ∧ x &&& ~~~m = 0 ∧ y &&& ~~~x = 0 ∧ z &&& ~~~x = 0 ∧ z &&& y = 0 ∧ ((∀ w, (s.region f.unit).run = some w → w.toggle = true)) ∧ (s.region f.unit).toggle = none) ∧
    (let q := ({ region := 0, cells := 7, dark := 3, blink := 4, waiting := false } : DispReq); let f : Flight := fl 0x0B03 0 ([255] ++ List.replicate 23 0 ++ [3] ++ List.replicate 23 0 ++ [4] ++ List.replicate 23 0); let s : State := ex (cf [(0x60, 32, 9, [(1, 1), (8, 255)])] ({ R with disp := { R.disp with regions := R.disp.regions.set 0 { toggle := some (9, true) } }  })) (f); let tag : Nat := 0; let x := 255; let y := 3; let z := 4; Executes s tag 0x0B03 f ∧ s.regionOn f.unit = true ∧ s.dispField f.unit 4 1 = 0 ∧ s.disp.tempOut = false ∧ (f.req.drop 16).take 72 = cellBytes x ++ cellBytes y ++ cellBytes z ∧ x &&& ~~~s.regionMask f.unit = 0 ∧ y &&& ~~~x = 0 ∧ z &&& ~~~x = 0 ∧ z &&& y = 0 ∧ (s.region f.unit).toggle ≠ none ∧ (∀ q ∈ s.disp.queue, q.waiting = true → q.region = f.unit → q.cells &&& x = 0) ∧ (s.disp.queue.filter (fun q => q.waiting)).length < 8) ∧
    (let q := ({ region := 0, cells := 7, dark := 3, blink := 4, waiting := false } : DispReq); let f : Flight := fl 0x0B03 0 ([255] ++ List.replicate 23 0 ++ [3] ++ List.replicate 23 0 ++ [4] ++ List.replicate 23 0); let s : State := ex (cf [(0x60, 32, 9, [(1, 1), (8, 255)])] ({ R with disp := { R.disp with queue := [({ region := 1, cells := 7, dark := 3, blink := 4, waiting := true } : DispReq), ({ region := 1, cells := 7, dark := 3, blink := 4, waiting := true } : DispReq)], regions := R.disp.regions.set 0 { run := some ({ toggle := false, cells := 7, dark := 3, blink := 0, band := 2, ends := 50000000000, start := 0 } : DispRun) } }  })) (f); let tag : Nat := 0; let x := 255; let y := 3; let z := 4; Executes s tag 0x0B03 f ∧ (f.req.drop 16).take 72 = cellBytes x ++ cellBytes y ++ cellBytes z ∧ x &&& ~~~s.regionMask f.unit = 0 ∧ y &&& ~~~x = 0 ∧ z &&& ~~~x = 0 ∧ z &&& y = 0 ∧ ((s.region f.unit).run.map (fun w => w.toggle)) = some false ∧ (∀ q ∈ s.disp.queue, q.waiting = true → q.region = f.unit → q.cells &&& x = 0)) ∧
    (let q := ({ region := 0, cells := 7, dark := 3, blink := 4, waiting := false } : DispReq); let f : Flight := fl 0x0B03 0 ([255] ++ List.replicate 23 0 ++ [3] ++ List.replicate 23 0 ++ [4] ++ List.replicate 23 0); let s : State := ex (cf [(0x60, 32, 9, [(1, 1), (8, 255)])] ({ R with disp := { R.disp with regions := R.disp.regions.set 0 { toggle := some (9, true) }, queue := List.replicate 8 ({ region := 1, cells := 7, dark := 3, blink := 4, waiting := true } : DispReq) }  })) (f); let tag : Nat := 0; let x := 255; let y := 3; let z := 4; Executes s tag 0x0B03 f ∧ s.regionOn f.unit = true ∧ s.dispField f.unit 4 1 = 0 ∧ s.disp.tempOut = false ∧ (f.req.drop 16).take 72 = cellBytes x ++ cellBytes y ++ cellBytes z ∧ x &&& ~~~s.regionMask f.unit = 0 ∧ y &&& ~~~x = 0 ∧ z &&& ~~~x = 0 ∧ z &&& y = 0 ∧ (s.region f.unit).toggle ≠ none ∧ (∀ q ∈ s.disp.queue, q.waiting = true → q.region = f.unit → q.cells &&& x = 0) ∧ 8 ≤ (s.disp.queue.filter (fun q => q.waiting)).length) ∧
    (let f : Flight := fl 0x0B03 1 (List.replicate 72 0); let s : State := ex (cf [(0x60, 32, 9, [(1, 1), (8, 255)])] (R)) (f); let tag : Nat := 0; ((s.regionOn f.unit = false ∨ s.dispField f.unit 4 1 ≠ 0)) ∧ Executes s tag 0x0B03 f) ∧
    (let f : Flight := fl 0x0B03 0 (List.replicate 72 0); let s : State := ex (cf [(0x60, 32, 9, [(1, 1), (4, 1)])] (R)) (f); let tag : Nat := 0; ((s.regionOn f.unit = false ∨ s.dispField f.unit 4 1 ≠ 0)) ∧ Executes s tag 0x0B03 f) ∧
    (let f : Flight := fl 0x0B04 7 []; let s : State := ex (cf [(0x60, 32, 9, [(1, 1), (8, 255)])] (R)) (f); let tag : Nat := 0; ((s.regionOn f.unit = false ∨ s.dispField f.unit 4 1 ≠ 0)) ∧ Executes s tag 0x0B04 f) := by
  refine ⟨?_, ?_, ?_, ?_, ?_, ?_, ?_, ?_, ?_⟩ <;> decide +kernel

theorem test_wit_DisplayEngine_2 :
    (let f : Flight := fl 0x0B04 0 []; let s : State := ex (cf [(0x60, 32, 9, [(1, 1), (8, 255)])] ({ R with disp := { R.disp with tempOut := true }  })) (f); let tag : Nat := 0; let d := s.disp; Executes s tag 0x0B04 f ∧ s.regionOn f.unit = true ∧ s.dispField f.unit 4 1 = 0 ∧ d.tempOut = true) ∧
    (let f : Flight := fl 0x0B05 0 []; let s : State := ex (cf [(0x60, 32, 9, [(1, 1), (8, 255)])] (R)) (f); let tag : Nat := 0; Executes s tag 0x0B05 f) ∧
    (let q := ({ region := 0, cells := 7, dark := 3, blink := 4, waiting := false } : DispReq); let s : State := { R with disp := { R.disp with queue := [q], noStartUntil := 40000000000 }  }; let t : Nat := 40000000000; let a := s.advance t; let d := s.disp; d.queue ≠ [] ∧ d.tempOut = false ∧ d.pump = .off ∧ d.noStartUntil ≤ a.clk.now) ∧
    (let q := ({ region := 0, cells := 7, dark := 3, blink := 4, waiting := false } : DispReq); let x := 40000000000; let s : State := { R with disp := { R.disp with queue := [q], pump := .discharging x }  }; let t : Nat := 40000000000; let a := s.advance t; let d := s.disp; d.queue ≠ [] ∧ d.tempOut = false ∧ d.pump = .discharging x ∧ d.noStartUntil ≤ a.clk.now) ∧
    (let q := ({ region := 0, cells := 7, dark := 3, blink := 4, waiting := false } : DispReq); let s : State := { R with disp := { R.disp with queue := [q], noStartUntil := 40000000001 }  }; let t : Nat := 40000000000; let a := s.advance t; let d := s.disp; a.clk.now < d.noStartUntil) ∧
    (let s : State := R; let d := s.disp; ((d.queue = [] ∨ d.tempOut = true)) ∧ d.busy = false) ∧
    (let x := 39980000000; let s : State := { R with disp := { R.disp with pump := .starting x }  }; let t : Nat := 40000000000; let a := s.advance t; let d := s.disp; let vp := 17000; let vn := -17000; d.pump = .starting x ∧ x + 20000000 ≤ a.clk.now ∧ ((s.railOk vp = false ∨ 0 < vn ∨ s.railOk vn.natAbs = false))) ∧
    (let x := 39980000001; let s : State := { R with disp := { R.disp with pump := .starting x }  }; let t : Nat := 40000000000; let a := s.advance t; let d := s.disp; let vp := 17000; let vn := -17000; d.pump = .starting x ∧ ((a.clk.now < x + 20000000 ∨ (s.railOk vp = true ∧ vn ≤ 0 ∧ s.railOk vn.natAbs = true)))) ∧
    (let s : State := R; let d := s.disp; ((d.pump = .off ∨ d.pump = .on))) := by
  refine ⟨?_, ?_, ?_, ?_, ?_, ?_, ?_, ?_, ?_⟩ <;> decide +kernel

theorem test_wit_DisplayEngine_3 :
    (let s : State := { R with disp := { R.disp with pump := .on }  }; let d := s.disp; ((d.pump = .off ∨ d.pump = .on))) ∧
    (let s : State := cf [(0x60, 32, 9, [(1, 1), (8, 255), (257, 1)])] ({ R with disp := { R.disp with pump := .on, idleSince := some 35000000000 } , frame := { R.frame with running := true, nextTick := 40000000000 } }); let t : Nat := 40000000000; let a := s.advance t; let d := s.disp; let x := 35000000000; s.frame.running = true ∧ d.pump = .on ∧ d.busy = false ∧ d.idleSince = some x ∧ x + 5000000000 ≤ a.clk.now) ∧
    (let x := 35000000001; let s : State := cf [(0x60, 32, 9, [(1, 1), (8, 255), (257, 1)])] ({ R with disp := { R.disp with pump := .on, idleSince := some x } , frame := { R.frame with running := true, nextTick := 40000000000 } }); let t : Nat := 40000000000; let a := s.advance t; let d := s.disp; s.frame.running = true ∧ d.pump = .on ∧ ((d.busy = true ∨ (d.idleSince = some x ∧ a.clk.now < x + 5000000000)))) ∧
    (let s : State := cf [(0x60, 32, 9, [(1, 1), (8, 255), (257, 1)])] ({ R with disp := { R.disp with pump := .on, regions := R.disp.regions.set 0 { toggle := some (9, true) } } , frame := { R.frame with running := true, nextTick := 40000000000 } }); let t : Nat := 40000000000; let a := s.advance t; let d := s.disp; let x := 0; s.frame.running = true ∧ d.pump = .on ∧ ((d.busy = true ∨ (d.idleSince = some x ∧ a.clk.now < x + 5000000000)))) ∧
    (let x := 40000000000; let s : State := cf [(0x60, 32, 9, [(1, 1), (8, 255), (257, 1)])] ({ R with disp := { R.disp with pump := .discharging x } , frame := { R.frame with running := true, nextTick := 40000000000 } }); let t : Nat := 40000000000; let a := s.advance t; let d := s.disp; s.frame.running = true ∧ d.pump = .discharging x ∧ x ≤ a.clk.now) ∧
    (let s : State := cf [(0x60, 32, 9, [(1, 1), (8, 255), (257, 1)])] ({ R with disp := { R.disp with seg := [] } , frame := { R.frame with running := true, nextTick := 40000000000 } }); let d := s.disp; s.frame.running = true ∧ d.pump = .off) ∧
    (let s : State := cf [(0x60, 32, 9, [(1, 1), (8, 255), (257, 1)])] ({ R with disp := { R.disp with tpl := 1 } , frame := { R.frame with running := true, nextTick := 40000000000 } }); let d := s.disp; s.frame.running = true ∧ d.pump = .off) ∧
    (let k := ({ dark := true, band := 1, start := 7, ends := 39999000000 } : CellRun); let s : State := { R with disp := { R.disp with pump := .on, cellRun := some k } , pwr := { R.pwr with banksPend := true } }; let t : Nat := 40000000000; let a := s.advance t; let d := s.disp; s.frame.running = false ∧ s.rst.dueAt = none ∧ d.pump = .on ∧ d.cellRun = some k ∧ k.ends ≤ a.clk.now ∧ a.clk.now < k.ends + 30000000) ∧
    (let x := 39990000000; let s : State := { R with disp := { R.disp with pump := .discharging x, reenable := true }  }; let t : Nat := 40000000000; let a := s.advance t; let d := s.disp; s.frame.running = false ∧ s.rst.dueAt = none ∧ d.pump = .discharging x ∧ x ≤ a.clk.now ∧ a.clk.now ≤ x + 20000000 ∧ d.cellRun = none) := by
  refine ⟨?_, ?_, ?_, ?_, ?_, ?_, ?_, ?_, ?_⟩ <;> decide +kernel

theorem test_wit_DisplayEngine_4 :
    (let x := 39990000000; let s : State := { R with disp := { R.disp with pump := .discharging x }  }; let t : Nat := 40000000000; let a := s.advance t; let d := s.disp; s.frame.running = false ∧ s.rst.dueAt = none ∧ d.pump = .discharging x ∧ x ≤ a.clk.now ∧ a.clk.now ≤ x + 20000000 ∧ d.cellRun = none) ∧
    (let q := ({ region := 0, cells := 7, dark := 3, blink := 4, waiting := false } : DispReq); let s : State := cf [(0x60, 32, 9, [(1, 1), (8, 255), (257, 1)])] ({ R with disp := { R.disp with queue := [q], pump := .on, regions := R.disp.regions.set 0 { granted := some false } } , frame := { R.frame with running := true, nextTick := 40000000000 } }); let t : Nat := 40000000000; let a := s.advance t; let d := s.disp; let r := 0; r < 8 ∧ r < d.regions.length ∧ s.frame.running = true ∧ s.frame.nextTick ≤ a.clk.now ∧ s.regionFree r = true ∧ (s.region r).endedAt < a.clk.now ∧ (s.region r).toggle = none ∧ d.tempOut = false ∧ d.oldest r = some q ∧ (s.region r).granted = some false ∧ d.pump = .on) ∧
    (let q := ({ region := 0, cells := 7, dark := 3, blink := 4, waiting := false } : DispReq); let s : State := cf [(0x60, 32, 9, [(1, 1), (8, 255), (257, 1)])] ({ R with disp := { R.disp with queue := [q], regions := R.disp.regions.set 0 { granted := some false } } , frame := { R.frame with running := true, nextTick := 40000000000 } }); let t : Nat := 40000000000; let a := s.advance t; let d := s.disp; let r := 0; r < 8 ∧ r < d.regions.length ∧ s.frame.running = true ∧ s.frame.nextTick ≤ a.clk.now ∧ s.regionFree r = true ∧ (s.region r).endedAt < a.clk.now ∧ (s.region r).toggle = none ∧ d.tempOut = false ∧ d.oldest r = some q ∧ (s.region r).granted = some false ∧ d.pump = .off ∧ d.noStartUntil ≤ a.clk.now) ∧
    (let x := (9 : Cells); let k := true; let s : State := cf [(0x60, 32, 9, [(1, 1), (8, 255), (257, 1)])] ({ R with disp := { R.disp with pump := .on, regions := R.disp.regions.set 0 { granted := some true, toggle := some (x, k) } } , frame := { R.frame with running := true, nextTick := 40000000000 } }); let t : Nat := 40000000000; let a := s.advance t; let d := s.disp; let r := 0; r < 8 ∧ r < d.regions.length ∧ s.frame.running = true ∧ s.frame.nextTick ≤ a.clk.now ∧ s.regionFree r = true ∧ (s.region r).endedAt < a.clk.now ∧ (s.region r).toggle = some (x, k) ∧ ((s.blinkClass0 r = true ∨ (s.region r).granted = some true)) ∧ d.pump = .on) ∧
    (let x := (9 : Cells); let k := false; let s : State := cf [(0x60, 32, 9, [(1, 1), (8, 255), (257, 1)])] ({ R with disp := { R.disp with pump := .on, regions := R.disp.regions.set 0 { toggle := some (x, k) } } , frame := { R.frame with running := true, nextTick := 40000000000 } }); let t : Nat := 40000000000; let a := s.advance t; let d := s.disp; let r := 0; r < 8 ∧ r < d.regions.length ∧ s.frame.running = true ∧ s.frame.nextTick ≤ a.clk.now ∧ s.regionFree r = true ∧ (s.region r).endedAt < a.clk.now ∧ (s.region r).toggle = some (x, k) ∧ ((s.blinkClass0 r = true ∨ (s.region r).granted = some true)) ∧ d.pump = .on) ∧
    (let q := ({ region := 0, cells := 7, dark := 3, blink := 4, waiting := false } : DispReq); let s : State := cf [(0x60, 32, 9, [(1, 1), (8, 255), (257, 1)])] ({ R with disp := { R.disp with pump := .on, queue := [q] } , frame := { R.frame with running := true, nextTick := 40000000000 } }); let t : Nat := 40000000000; let a := s.advance t; let d := s.disp; let r := 0; r < 8 ∧ r < d.regions.length ∧ s.frame.running = true ∧ s.frame.nextTick ≤ a.clk.now ∧ s.regionFree r = true ∧ (s.region r).endedAt < a.clk.now ∧ (s.region r).toggle = none ∧ ((d.tempOut = true ∨ d.oldest r = none ∨ (s.region r).granted ≠ some false))) ∧
    (let s : State := cf [(0x60, 32, 9, [(1, 1), (8, 255), (257, 1)])] ({ R with disp := { R.disp with pump := .on } , frame := { R.frame with running := true, nextTick := 40000000000 } }); let t : Nat := 40000000000; let a := s.advance t; let d := s.disp; let r := 0; r < 8 ∧ r < d.regions.length ∧ s.frame.running = true ∧ s.frame.nextTick ≤ a.clk.now ∧ s.regionFree r = true ∧ (s.region r).endedAt < a.clk.now ∧ (s.region r).toggle = none ∧ ((d.tempOut = true ∨ d.oldest r = none ∨ (s.region r).granted ≠ some false))) ∧
    (let q := ({ region := 0, cells := 7, dark := 3, blink := 4, waiting := false } : DispReq); let s : State := cf [(0x60, 32, 9, [(1, 1), (8, 255), (257, 1)])] ({ R with disp := { R.disp with pump := .on, tempOut := true, queue := [q], regions := R.disp.regions.set 0 { granted := some false } } , frame := { R.frame with running := true, nextTick := 40000000000 } }); let t : Nat := 40000000000; let a := s.advance t; let d := s.disp; let r := 0; r < 8 ∧ r < d.regions.length ∧ s.frame.running = true ∧ s.frame.nextTick ≤ a.clk.now ∧ s.regionFree r = true ∧ (s.region r).endedAt < a.clk.now ∧ (s.region r).toggle = none ∧ ((d.tempOut = true ∨ d.oldest r = none ∨ (s.region r).granted ≠ some false))) ∧
    (let x := ({ toggle := false, cells := 7, dark := 3, blink := 0, band := 2, ends := 7, start := 0 } : DispRun); let s : State := { R with disp := { R.disp with regions := R.disp.regions.set 0 { run := some x } }  }; let r := 0; r < 8 ∧ (s.region r).run = some x) := by
  refine ⟨?_, ?_, ?_, ?_, ?_, ?_, ?_, ?_, ?_⟩ <;> decide +kernel

theorem test_wit_DisplayEngine_5 :
    (let s : State := R; let t : Nat := 40000000000; let a := s.advance t; let r := 0; r < 8 ∧ ((s.frame.running = false ∨ a.clk.now < s.frame.nextTick))) ∧
    (let s : State := cf [(0x60, 32, 9, [(1, 1), (8, 255), (257, 1)])] ({ R with disp := { R.disp with pump := .on } , frame := { R.frame with running := true, nextTick := 40000000001 } }); let t : Nat := 40000000000; let a := s.advance t; let r := 0; r < 8 ∧ ((s.frame.running = false ∨ a.clk.now < s.frame.nextTick))) ∧
    (let w := ({ toggle := false, cells := 7, dark := 3, blink := 0, band := 2, ends := 40000000000, start := 0 } : DispRun); let s : State := { R with disp := { R.disp with dark := 0xF4, regions := R.disp.regions.set 0 { run := some w } }  }; let t : Nat := 40000000000; let a := s.advance t; let d := s.disp; let r := 0; r < 8 ∧ r < d.regions.length ∧ (s.region r).run = some w ∧ w.ends ≤ a.clk.now ∧ w.reband = false) ∧
    (let w := ({ toggle := false, cells := 7, dark := 3, blink := 0, band := 2, ends := 40000000001, start := 0 } : DispRun); let s : State := { R with disp := { R.disp with regions := R.disp.regions.set 0 { run := some w } }  }; let t : Nat := 40000000000; let a := s.advance t; let r := 0; r < 8 ∧ (s.region r).run = some w ∧ a.clk.now < w.ends) ∧
    (let s : State := R; let g := 3; g < 4 ∧ blinkPeriod s.cfg.img g = 0) ∧
    (let s : State := cf [(0x60, 32, 9, [(1, 1), (8, 255), (257, 1), (265, 4)])] (R); let t : Nat := 0; let a := s.advance t; let d := s.disp; let g := 0; g < 4 ∧ g < d.halves.length ∧ blinkPeriod s.cfg.img g ≠ 0 ∧ s.panelOn = true ∧ s.pwr.state ≠ .standby ∧ darkHalf (blinkPeriod s.cfg.img g) a.clk.base ≠ d.halves.getD g false) := by
  refine ⟨?_, ?_, ?_, ?_, ?_, ?_⟩ <;> decide +kernel


theorem test_wit_SecurityOpcodes :
    (let f : Flight := fl 0x0C01 0 []; let s : State := ex (R) (f); let tag : Nat := 0; Executes s tag 0x0C01 f) ∧
    (let f : Flight := fl 0x0C02 0 []; let s : State := ex (R) (f); let tag : Nat := 0; Executes s tag 0x0C02 f) ∧
    (let f : Flight := fl 0x0C03 0 (List.range 32); let s : State := ex (R) (f); let tag : Nat := 0; Executes s tag 0x0C03 f) ∧
    (let f : Flight := fl 0x0C04 0 ([0, 0, 0, 0] ++ List.replicate 64 3); let s : State := ex (R) (f); let t : Nat := 5; let tag : Nat := 0; let a := s.acting t; let x := s.sec; let n := byteAt f.req 16; Executes s tag 0x0C04 f ∧ x.life = .provisioned ∧ ((f.origin = .host ∨ f.origin = .mailbox)) ∧ byteAt f.req 17 = 0 ∧ x.ownerKey n = none ∧ leNat (sigAt f 68) = 0 ∧ ((f.noWait = false ∨ a.energyOk 2000 = true))) ∧
    (let f : Flight := fl 0x0C04 0 ([0, 0, 0, 0] ++ List.replicate 64 3 ++ List.replicate 64 0); let s : State := ex ({ R with sec := { R.sec with life := .fielded }  }) (f); let t : Nat := 5; let tag : Nat := 0; let a := s.acting t; let x := s.sec; let n := byteAt f.req 16; let act := byteAt f.req 17; Executes s tag 0x0C04 f ∧ x.life = .fielded ∧ ((act = 0 → x.ownerKey n = none)) ∧ ((act = 2 → leNat ((f.payload.drop 4).take 64) = 0)) ∧ ((f.noWait = false ∨ a.energyOk 2000 = true))) ∧
    (let f : Flight := fl 0x0C04 0 ([1, 2, 0, 0] ++ List.replicate 64 0 ++ List.replicate 64 0); let s : State := ex ({ R with sec := { R.sec with life := .fielded, owner := [some 5, some 6] }  }) (f); let t : Nat := 5; let tag : Nat := 0; let a := s.acting t; let x := s.sec; let n := byteAt f.req 16; let act := byteAt f.req 17; Executes s tag 0x0C04 f ∧ x.life = .fielded ∧ ((act = 0 → x.ownerKey n = none)) ∧ ((act = 2 → leNat ((f.payload.drop 4).take 64) = 0)) ∧ ((f.noWait = false ∨ a.energyOk 2000 = true))) ∧
    (let f : Flight := fl 0x0C04 0 ([0, 0, 0, 0] ++ List.replicate 64 3 ++ List.replicate 64 0); let s : State := ex ({ R with sec := { R.sec with life := .fielded, owner := [some 5, none] }  }) (f); let tag : Nat := 0; let x := s.sec; let n := byteAt f.req 16; Executes s tag 0x0C04 f ∧ x.life = .fielded ∧ byteAt f.req 17 = 0 ∧ x.ownerKey n ≠ none) ∧
    (let f : Flight := fl 0x0C04 0 ([0, 2, 0, 0] ++ List.replicate 64 3 ++ List.replicate 64 0); let s : State := ex (R) (f); let tag : Nat := 0; Executes s tag 0x0C04 f ∧ byteAt f.req 17 = 2 ∧ leNat ((f.payload.drop 4).take 64) ≠ 0) ∧
    (let f : Flight := fl 0x0C04 0 ([0, 0, 0, 0] ++ List.replicate 64 3 ++ List.replicate 64 1); let s : State := ex (R) (f); let tag : Nat := 0; let x := s.sec; Executes s tag 0x0C04 f ∧ byteAt f.req 17 ≠ 2 ∧ x.life = .provisioned ∧ leNat (sigAt f 68) ≠ 0) := by
  refine ⟨?_, ?_, ?_, ?_, ?_, ?_, ?_, ?_, ?_⟩ <;> decide +kernel

theorem test_wit_SecurityOpcodes_2 :
    (let f : Flight := fl 0x0C04 0 ([0, 0, 0, 0] ++ List.replicate 64 3); let s : State := ex ({ R with sec := { R.sec with life := .blank }  }) (f); let tag : Nat := 0; let x := s.sec; Executes s tag 0x0C04 f ∧ byteAt f.req 17 ≠ 2 ∧ ((x.life = .blank ∨ x.life = .returned))) ∧
    (let f : Flight := fl 0x0C04 0 ([0, 0, 0, 0] ++ List.replicate 64 3); let s : State := ex ({ R with sec := { R.sec with life := .returned }  }) (f); let tag : Nat := 0; let x := s.sec; Executes s tag 0x0C04 f ∧ byteAt f.req 17 ≠ 2 ∧ ((x.life = .blank ∨ x.life = .returned))) ∧
    (let f : Flight := fl 0x0C05 0 (List.replicate 192 5); let s : State := ex (R) (f); let t : Nat := 5; let tag : Nat := 0; let a := s.acting t; Executes s tag 0x0C05 f ∧ ((f.noWait = false ∨ a.energyOk 2000 = true))) ∧
    (let f : Flight := fl 0x0C06 0 [0, 0, 0, 0, 1, 2, 3, 4]; let s : State := ex (R) (f); let tag : Nat := 0; Executes s tag 0x0C06 f ∧ u32At f.req 20 ≠ 0x4649454C) ∧
    (let f : Flight := fl 0x0C06 0 [1, 0, 0, 0, 76, 69, 73, 70]; let s : State := ex (R) (f); let tag : Nat := 0; let x := s.sec; Executes s tag 0x0C06 f ∧ u32At f.req 20 = 0x4649454C ∧ x.ownerKey 0 = none) ∧
    (let f : Flight := fl 0x0C06 0 [1, 0, 0, 0, 76, 69, 73, 70]; let s : State := ex ({ R with sec := { R.sec with owner := [some 5, none] }  }) (f); let tag : Nat := 0; let x := s.sec; let k := leBytes 64 5; Executes s tag 0x0C06 f ∧ u32At f.req 20 = 0x4649454C ∧ x.ownerKey 0 = some k) ∧
    (let f : Flight := fl 0x0C07 0 (List.replicate 68 5); let s : State := ex (R) (f); let tag : Nat := 0; Executes s tag 0x0C07 f) ∧
    (let f : Flight := fl 0x0C08 0 []; let u := 6; let y := ({ level := .full, signer := 0, serial := 5, flags := 1, notAfter := 0, key := 7, lastOp := 0 , pendingUntil := some u } : Session); let s : State := ex ({ R with sec := { R.sec with dbg := { R.sec.dbg with session := some y } }  }) (f); let t : Nat := 5; let tag : Nat := 0; let a := s.acting t; let x := s.sec; Executes s tag 0x0C08 f ∧ x.dbg.session = some y ∧ y.pendingUntil = some u ∧ a.clk.now < u) ∧
    (let f : Flight := fl 0x0C08 0 []; let s : State := ex (R) (f); let tag : Nat := 0; let x := s.sec; Executes s tag 0x0C08 f ∧ x.dbg.session = none) := by
  refine ⟨?_, ?_, ?_, ?_, ?_, ?_, ?_, ?_, ?_⟩ <;> decide +kernel

theorem test_wit_SecurityOpcodes_3 :
    (let u := 6; let f : Flight := fl 0x0C09 0 []; let y := ({ level := .full, signer := 0, serial := 5, flags := 1, notAfter := 0, key := 7, lastOp := 0 , pendingUntil := some u } : Session); let s : State := ex ({ R with sec := { R.sec with dbg := { R.sec.dbg with session := some y } }  }) (f); let tag : Nat := 0; let x := s.sec; Executes s tag 0x0C09 f ∧ x.dbg.session = some y) ∧
    (let f : Flight := fl 0x0C01 0 []; let s : State := ex (R) (f); let x := s.sec; x.erasure = none) ∧
    (let o := ({ num := 1, kind := .keyChurn } : NvmOp); let s : State := { R with sec := { R.sec with erasure := some (1, 0) } , nvm := { R.nvm with running := some o } }; let x := s.sec; x.erasure = some (1, 0) ∧ s.nvm.running = some o ∧ o.kind = .keyChurn ∧ o.arg = 0 ∧ s.rst.clockLoss = none ∧ ((∀ w ∈ s.host.waits, w.kind ≠ .nvm o.num))) ∧
    (let o := ({ num := 1, kind := .keyChurn, arg := 65792 } : NvmOp); let s : State := { R with nvm := { R.nvm with running := some o } }; let x := s.sec; let m := 1; let v := 0; s.nvm.running = some o ∧ o.kind = .keyChurn ∧ s.rst.clockLoss = none ∧ ((∀ w ∈ s.host.waits, w.kind ≠ .nvm o.num)) ∧ ((∀ k, x.erasure ≠ some (4, k))) ∧ x.dbg.extest = false ∧ o.arg = 65536 + m * 256 + v ∧ m < 2 ∧ v < 3 ∧ s.lastOwner o = false) ∧
    (let o := ({ num := 1, kind := .keyChurn, arg := 65538 } : NvmOp); let s : State := { R with sec := { R.sec with life := .fielded, owner := [some 5, some 6] } , nvm := { R.nvm with running := some o } }; let x := s.sec; let m := 0; let v := 2; s.nvm.running = some o ∧ o.kind = .keyChurn ∧ s.rst.clockLoss = none ∧ ((∀ w ∈ s.host.waits, w.kind ≠ .nvm o.num)) ∧ ((∀ k, x.erasure ≠ some (4, k))) ∧ x.dbg.extest = false ∧ o.arg = 65536 + m * 256 + v ∧ m < 2 ∧ v < 3 ∧ s.lastOwner o = false) ∧
    (let o := ({ num := 1, kind := .keyChurn, arg := 131842 } : NvmOp); let s : State := { R with nvm := { R.nvm with running := some o } }; let x := s.sec; let m := 3; let v := 2; s.nvm.running = some o ∧ o.kind = .keyChurn ∧ s.rst.clockLoss = none ∧ ((∀ w ∈ s.host.waits, w.kind ≠ .nvm o.num)) ∧ ((∀ k, x.erasure ≠ some (4, k))) ∧ x.dbg.extest = false ∧ o.arg = 131072 + m * 256 + v ∧ m < 4 ∧ v < 3) ∧
    (let o := ({ num := 1, kind := .keyChurn, arg := 131073 } : NvmOp); let s : State := { R with nvm := { R.nvm with running := some o } }; let x := s.sec; let m := 0; let v := 1; s.nvm.running = some o ∧ o.kind = .keyChurn ∧ s.rst.clockLoss = none ∧ ((∀ w ∈ s.host.waits, w.kind ≠ .nvm o.num)) ∧ ((∀ k, x.erasure ≠ some (4, k))) ∧ x.dbg.extest = false ∧ o.arg = 131072 + m * 256 + v ∧ m < 4 ∧ v < 3) ∧
    (let o := ({ num := 1, kind := .keyChurn, arg := 196608 } : NvmOp); let s : State := { R with nvm := { R.nvm with running := some o } }; let x := s.sec; s.nvm.running = some o ∧ o.kind = .keyChurn ∧ s.rst.clockLoss = none ∧ ((∀ w ∈ s.host.waits, w.kind ≠ .nvm o.num)) ∧ ((∀ k, x.erasure ≠ some (4, k))) ∧ x.dbg.extest = false ∧ o.arg = 196608 ∧ x.life ≠ .blank) ∧
    (let o := ({ num := 1, kind := .keyChurn, arg := 196608 } : NvmOp); let s : State := { R with sec := { R.sec with life := .blank } , nvm := { R.nvm with running := some o } }; let x := s.sec; s.nvm.running = some o ∧ o.kind = .keyChurn ∧ s.rst.clockLoss = none ∧ ((∀ w ∈ s.host.waits, w.kind ≠ .nvm o.num)) ∧ ((∀ k, x.erasure ≠ some (4, k))) ∧ x.dbg.extest = false ∧ o.arg = 196608 ∧ x.life = .blank) := by
  refine ⟨?_, ?_, ?_, (⟨by decide +kernel, by decide +kernel, by decide +kernel, by decide +kernel, (by intro k h; cases h), by decide +kernel, by decide +kernel, by decide +kernel, by decide +kernel, by decide +kernel⟩), (⟨by decide +kernel, by decide +kernel, by decide +kernel, by decide +kernel, (by intro k h; cases h), by decide +kernel, by decide +kernel, by decide +kernel, by decide +kernel, by decide +kernel⟩), (⟨by decide +kernel, by decide +kernel, by decide +kernel, by decide +kernel, (by intro k h; cases h), by decide +kernel, by decide +kernel, by decide +kernel, by decide +kernel⟩), (⟨by decide +kernel, by decide +kernel, by decide +kernel, by decide +kernel, (by intro k h; cases h), by decide +kernel, by decide +kernel, by decide +kernel, by decide +kernel⟩), (⟨by decide +kernel, by decide +kernel, by decide +kernel, by decide +kernel, (by intro k h; cases h), by decide +kernel, by decide +kernel, by decide +kernel⟩), (⟨by decide +kernel, by decide +kernel, by decide +kernel, by decide +kernel, (by intro k h; cases h), by decide +kernel, by decide +kernel, by decide +kernel⟩)⟩ <;> decide +kernel

theorem test_wit_SecurityOpcodes_4 :
    (let o := ({ num := 1, kind := .keyChurn, arg := 65538 } : NvmOp); let s : State := { R with sec := { R.sec with life := .fielded, owner := [some 5, none] } , nvm := { R.nvm with running := some o } }; let x := s.sec; s.nvm.running = some o ∧ o.kind = .keyChurn ∧ s.rst.clockLoss = none ∧ ((∀ w ∈ s.host.waits, w.kind ≠ .nvm o.num)) ∧ ((∀ k, x.erasure ≠ some (4, k))) ∧ x.dbg.extest = false ∧ s.lastOwner o = true) := ⟨by decide +kernel, by decide +kernel, by decide +kernel, by decide +kernel, (by intro k h; cases h), by decide +kernel, by decide +kernel⟩


theorem test_wit_FirmwareOpcodes :
    (let f : Flight := fl 0x0D01 0 []; let s : State := ex ({ R with sec := { R.sec with update := some ({ slot := 1, len := 1024, eraseLeft := 3 } : FwUpdate) }  }) (f); let tag : Nat := 0; s.fwErasing = true ∧ Executes s tag 0x0D01 f) ∧
    (let f : Flight := fl 0x0D02 0 [0, 1, 0, 0]; let s : State := ex ({ R with sec := { R.sec with update := some ({ slot := 1, len := 1024, eraseLeft := 3 } : FwUpdate) }  }) (f); let tag : Nat := 0; s.fwErasing = true ∧ Executes s tag 0x0D02 f) ∧
    (let f : Flight := fl 0x0D03 0 [0, 0, 0, 0, 1]; let s : State := ex ({ R with sec := { R.sec with update := some ({ slot := 1, len := 1024, eraseLeft := 3 } : FwUpdate) }  }) (f); let tag : Nat := 0; s.fwErasing = true ∧ Executes s tag 0x0D03 f) ∧
    (let f : Flight := fl 0x0D04 0 []; let s : State := ex ({ R with sec := { R.sec with update := some ({ slot := 1, len := 1024, eraseLeft := 3 } : FwUpdate) }  }) (f); let tag : Nat := 0; s.fwErasing = true ∧ Executes s tag 0x0D04 f) ∧
    (let f : Flight := fl 0x0D05 0 []; let s : State := ex ({ R with sec := { R.sec with update := some ({ slot := 1, len := 1024, eraseLeft := 3 } : FwUpdate) }  }) (f); let tag : Nat := 0; s.fwErasing = true ∧ Executes s tag 0x0D05 f) ∧
    (let f : Flight := fl 0x0D06 0 []; let s : State := ex ({ R with sec := { R.sec with update := some ({ slot := 1, len := 1024, eraseLeft := 3 } : FwUpdate) }  }) (f); let tag : Nat := 0; s.fwErasing = true ∧ Executes s tag 0x0D06 f) ∧
    (let f : Flight := fl 0x0D01 0 []; let s : State := ex (R) (f); let tag : Nat := 0; Executes s tag 0x0D01 f ∧ s.fwErasing = false ∧ s.nvm.running = none) ∧
    (let f : Flight := fl 0x0D01 0 []; let o := ({ num := 1, kind := .logChurn } : NvmOp); let s : State := ex ({ R with nvm := { R.nvm with running := some o } }) (f); let tag : Nat := 0; Executes s tag 0x0D01 f ∧ s.fwErasing = false ∧ s.nvm.running = some o) ∧
    (let f : Flight := fl 0x0D02 0 [0, 1, 0, 0]; let s : State := ex (R) (f); let tag : Nat := 0; Executes s tag 0x0D02 f ∧ s.fwErasing = false ∧ 256 ≤ u32At f.req 16 ∧ u32At f.req 16 ≤ 2097152) := by
  refine ⟨?_, ?_, ?_, ?_, ?_, ?_, ?_, ?_, ?_⟩ <;> decide +kernel

theorem test_wit_FirmwareOpcodes_2 :
    (let f : Flight := fl 0x0D02 0 [0, 0, 32, 0]; let s : State := ex (R) (f); let tag : Nat := 0; Executes s tag 0x0D02 f ∧ s.fwErasing = false ∧ 256 ≤ u32At f.req 16 ∧ u32At f.req 16 ≤ 2097152) ∧
    (let f : Flight := fl 0x0D02 0 [255, 0, 0, 0]; let s : State := ex (R) (f); let tag : Nat := 0; Executes s tag 0x0D02 f ∧ s.fwErasing = false ∧ ((u32At f.req 16 < 256 ∨ 2097152 < u32At f.req 16))) ∧
    (let f : Flight := fl 0x0D02 0 [1, 0, 32, 0]; let s : State := ex (R) (f); let tag : Nat := 0; Executes s tag 0x0D02 f ∧ s.fwErasing = false ∧ ((u32At f.req 16 < 256 ∨ 2097152 < u32At f.req 16))) ∧
    (let f : Flight := fl 0x0D03 0 [253, 3, 0, 0, 1, 2, 3, 4]; let v := ({ slot := 1, len := 1024, eraseLeft := 0 } : FwUpdate); let s : State := ex ({ R with sec := { R.sec with update := some v }  }) (f); let tag : Nat := 0; let x := s.sec; Executes s tag 0x0D03 f ∧ x.update = some v ∧ v.eraseLeft = 0 ∧ v.len < u32At f.req 16 + (f.payload.drop 4).length) ∧
    (let f : Flight := fl 0x0D03 0 [252, 3, 0, 0, 1, 2, 3, 4]; let v := ({ slot := 1, len := 1024, eraseLeft := 0 } : FwUpdate); let s : State := ex ({ R with sec := { R.sec with update := some v }  }) (f); let tag : Nat := 0; let x := s.sec; Executes s tag 0x0D03 f ∧ x.update = some v ∧ v.eraseLeft = 0 ∧ u32At f.req 16 + (f.payload.drop 4).length ≤ v.len) ∧
    (let f : Flight := fl 0x0D03 0 [0, 0, 0, 0, 1]; let s : State := ex (R) (f); let tag : Nat := 0; let x := s.sec; Executes s tag 0x0D03 f ∧ x.update = none) ∧
    (let f : Flight := fl 0x0D04 0 []; let v := ({ slot := 1, len := 1024, eraseLeft := 0 } : FwUpdate); let s : State := ex ({ R with sec := { R.sec with update := some v }  }) (f); let tag : Nat := 0; let x := s.sec; Executes s tag 0x0D04 f ∧ x.update = some v ∧ v.eraseLeft = 0) ∧
    (let f : Flight := fl 0x0D04 0 []; let s : State := ex ({ R with sec := { R.sec with slots := [{ state := .valid }, { state := .incomplete }] }  }) (f); let tag : Nat := 0; let x := s.sec; Executes s tag 0x0D04 f ∧ x.update = none ∧ (x.slot (1 - x.running)).state = .incomplete) ∧
    (let f : Flight := fl 0x0D04 0 []; let s : State := ex (R) (f); let tag : Nat := 0; let x := s.sec; Executes s tag 0x0D04 f ∧ x.update = none ∧ (x.slot (1 - x.running)).state ≠ .incomplete) := by
  refine ⟨?_, ?_, ?_, ?_, ?_, ?_, ?_, ?_, ?_⟩ <;> decide +kernel

theorem test_wit_FirmwareOpcodes_3 :
    (let f : Flight := fl 0x0D05 0 []; let s : State := ex ({ R with sec := { R.sec with slots := [{ state := .valid }, { state := .trial }] }  }) (f); let tag : Nat := 0; let x := s.sec; let n := 1; Executes s tag 0x0D05 f ∧ s.fwErasing = false ∧ x.trialSlot = some n) ∧
    (let f : Flight := fl 0x0D05 0 []; let s : State := ex (R) (f); let tag : Nat := 0; let x := s.sec; Executes s tag 0x0D05 f ∧ s.fwErasing = false ∧ x.trialSlot = none) ∧
    (let f : Flight := fl 0x0D06 0 []; let s : State := ex ({ R with sec := { R.sec with slots := [{ state := .trial, version := 4, factory := true }, {}], onTrial := true }  }) (f); let tag : Nat := 0; Executes s tag 0x0D06 f ∧ s.fwErasing = false ∧ s.onTrial = true) ∧
    (let f : Flight := fl 0x0D06 0 []; let s : State := ex (R) (f); let tag : Nat := 0; Executes s tag 0x0D06 f ∧ s.fwErasing = false ∧ s.onTrial = false) ∧
    (let y := 100000000000; let s : State := { R with sec := { R.sec with slots := [{ state := .trial, version := 4, factory := true }, {}], onTrial := true } , pwr := { R.pwr with armedSince := some y } }; let t : Nat := 700000000000; let b := s.advance t; s.pwr.armedSince = some y ∧ s.onTrial = true ∧ y + 600000000000 ≤ b.clk.now ∧ s.acceptPending = false) ∧
    (let s : State := { R with sec := { R.sec with slots := [{ state := .trial, version := 4, factory := true }, {}], onTrial := true } , nvm := { R.nvm with running := some ({ num := 1, kind := .directory .accept } : NvmOp) } }; ((s.acceptPending = true ∨ s.onTrial = false ∨ s.pwr.armedSince = none))) ∧
    (let s : State := { R with sec := { R.sec with slots := [{ state := .trial, version := 4, factory := true }, {}], onTrial := true } , nvm := { R.nvm with running := some ({ num := 1, kind := .logChurn } : NvmOp), waiting := [({ num := 1, kind := .directory .accept } : NvmOp)] } }; ((s.acceptPending = true ∨ s.onTrial = false ∨ s.pwr.armedSince = none))) ∧
    (let y := 100000000001; let s : State := { R with sec := { R.sec with slots := [{ state := .trial, version := 4, factory := true }, {}], onTrial := true } , pwr := { R.pwr with armedSince := some y } }; let t : Nat := 700000000000; let b := s.advance t; s.pwr.armedSince = some y ∧ b.clk.now < y + 600000000000) ∧
    (let f : Flight := fl 0x0D01 0 []; let s : State := ex (R) (f); let x := s.sec; s.nvm.running = none ∧ ((∀ k, x.erasure ≠ some (4, k)))) := by
  refine ⟨?_, ?_, ?_, ?_, ?_, ?_, ?_, ?_, (⟨by decide +kernel, (by intro k h; cases h)⟩)⟩ <;> decide +kernel

theorem test_wit_FirmwareOpcodes_4 :
    (let o := ({ num := 1, kind := .commitChurn } : NvmOp); let s : State := { R with nvm := { R.nvm with running := some o } }; let t : Nat := 700000000000; let e : ChurnIn := ({ t := t, failed := false } : ChurnIn); s.nvm.running = some o ∧ o.kind = .commitChurn ∧ e.t = t ∧ e.failed = false) ∧
    (let o := ({ num := 1, kind := .calChurn } : NvmOp); let s : State := { R with nvm := { R.nvm with running := some o } }; s.nvm.running = some o ∧ o.kind = .calChurn) ∧
    (let o := ({ num := 1, kind := .logChurn } : NvmOp); let s : State := { R with nvm := { R.nvm with running := some o } }; s.nvm.running = some o ∧ o.kind = .logChurn) ∧
    (let o := ({ num := 1, kind := .clearSegment } : NvmOp); let s : State := { R with nvm := { R.nvm with running := some o } }; s.nvm.running = some o ∧ ((o.kind = .clearSegment ∨ o.kind = .eraseFirst ∨ o.kind = .eraseSegment))) ∧
    (let o := ({ num := 1, kind := .eraseFirst } : NvmOp); let s : State := { R with nvm := { R.nvm with running := some o } }; s.nvm.running = some o ∧ ((o.kind = .clearSegment ∨ o.kind = .eraseFirst ∨ o.kind = .eraseSegment))) ∧
    (let o := ({ num := 1, kind := .eraseSegment } : NvmOp); let s : State := { R with nvm := { R.nvm with running := some o } }; s.nvm.running = some o ∧ ((o.kind = .clearSegment ∨ o.kind = .eraseFirst ∨ o.kind = .eraseSegment))) ∧
    (let o := ({ num := 1, kind := .eraseSector } : NvmOp); let s : State := { R with sec := { R.sec with erasure := some (4, 9) } , frame := { R.frame with running := true, nextTick := 700000000000 }, nvm := { R.nvm with running := some o } }; let x := s.sec; s.nvm.running = some o ∧ o.kind = .eraseSector ∧ s.frame.running = true ∧ x.erasure ≠ none) ∧
    (let o := ({ num := 1, kind := .directory (.begin_ 1) } : NvmOp); let s : State := { R with nvm := { R.nvm with running := some o } }; let x := s.sec; let n := 1; s.nvm.running = some o ∧ s.rst.clockLoss = none ∧ x.erasure = none ∧ x.dbg.extest = false ∧ ((∀ w ∈ s.host.waits, w.kind ≠ .nvm o.num)) ∧ n < x.slots.length ∧ o.kind = .directory (.begin_ n)) ∧
    (let o := ({ num := 1, kind := .directory (.trial 1) } : NvmOp); let s : State := { R with nvm := { R.nvm with running := some o } }; let x := s.sec; let n := 1; s.nvm.running = some o ∧ s.rst.clockLoss = none ∧ x.erasure = none ∧ x.dbg.extest = false ∧ ((∀ w ∈ s.host.waits, w.kind ≠ .nvm o.num)) ∧ n < x.slots.length ∧ o.kind = .directory (.trial n)) := by
  refine ⟨?_, ?_, ?_, ?_, ?_, ?_, ?_, ?_, ?_⟩ <;> decide +kernel

theorem test_wit_FirmwareOpcodes_5 :
    (let o := ({ num := 1, kind := .directory (.failed 1 6) } : NvmOp); let s : State := { R with nvm := { R.nvm with running := some o } }; let x := s.sec; let n := 1; let k := 6; s.nvm.running = some o ∧ s.rst.clockLoss = none ∧ x.erasure = none ∧ x.dbg.extest = false ∧ ((∀ w ∈ s.host.waits, w.kind ≠ .nvm o.num)) ∧ n < x.slots.length ∧ o.kind = .directory (.failed n k)) ∧
    (let o := ({ num := 1, kind := .directory (.prefer 1) } : NvmOp); let s : State := { R with nvm := { R.nvm with running := some o } }; let x := s.sec; let n := 1; s.nvm.running = some o ∧ s.rst.clockLoss = none ∧ x.erasure = none ∧ x.dbg.extest = false ∧ ((∀ w ∈ s.host.waits, w.kind ≠ .nvm o.num)) ∧ o.kind = .directory (.prefer n)) ∧
    (let o := ({ num := 1, kind := .directory .accept } : NvmOp); let s : State := { R with sec := { R.sec with slots := [{ state := .trial, version := 4, factory := true }, {}], onTrial := true } , nvm := { R.nvm with running := some o } }; let x := s.sec; s.nvm.running = some o ∧ s.rst.clockLoss = none ∧ x.erasure = none ∧ x.dbg.extest = false ∧ ((∀ w ∈ s.host.waits, w.kind ≠ .nvm o.num)) ∧ o.kind = .directory .accept ∧ s.onTrial = true ∧ x.running < x.slots.length) ∧
    (let o := ({ num := 1, kind := .firmware } : NvmOp); let v := ({ slot := 1, len := 1024, eraseLeft := 3 } : FwUpdate); let s : State := { R with sec := { R.sec with update := some v } , nvm := { R.nvm with running := some o } }; let x := s.sec; s.nvm.running = some o ∧ s.rst.clockLoss = none ∧ x.erasure = none ∧ x.dbg.extest = false ∧ ((∀ w ∈ s.host.waits, w.kind ≠ .nvm o.num)) ∧ o.kind = .firmware ∧ x.update = some v ∧ o.arg = 0) ∧
    (let o := ({ num := 1, kind := .firmware, arg := 512 } : NvmOp); let v := ({ slot := 1, len := 1024, eraseLeft := 0 } : FwUpdate); let s : State := { R with sec := { R.sec with update := some v } , nvm := { R.nvm with running := some o } }; let x := s.sec; s.nvm.running = some o ∧ s.rst.clockLoss = none ∧ x.erasure = none ∧ x.dbg.extest = false ∧ ((∀ w ∈ s.host.waits, w.kind ≠ .nvm o.num)) ∧ o.kind = .firmware ∧ x.update = some v ∧ 1 ≤ o.arg ∧ o.arg ≤ 512 ∧ v.slot < x.slots.length) ∧
    (let o := ({ num := 1, kind := .storeImage 1, left := 1, data := [(3, 4)] } : NvmOp); let s : State := { R with nvm := { R.nvm with running := some o } }; let x := s.sec; let n := 1; s.nvm.running = some o ∧ s.rst.clockLoss = none ∧ x.erasure = none ∧ x.dbg.extest = false ∧ ((∀ w ∈ s.host.waits, w.kind ≠ .nvm o.num)) ∧ o.kind = .storeImage n ∧ o.left ≤ 1 ∧ n < s.cfg.slots.length) ∧
    (let o := ({ num := 1, kind := .storeImage 1, left := 2 } : NvmOp); let s : State := { R with nvm := { R.nvm with running := some o } }; let x := s.sec; s.nvm.running = some o ∧ s.rst.clockLoss = none ∧ x.erasure = none ∧ x.dbg.extest = false ∧ ((∀ w ∈ s.host.waits, w.kind ≠ .nvm o.num)) ∧ o.more = true) ∧
    (let o := ({ num := 1, kind := .flashRead } : NvmOp); let s : State := { R with nvm := { R.nvm with running := some o } }; let x := s.sec; s.nvm.running = some o ∧ s.rst.clockLoss = none ∧ x.erasure = none ∧ x.dbg.extest = false ∧ ((∀ w ∈ s.host.waits, w.kind ≠ .nvm o.num)) ∧ o.kind = .flashRead) ∧
    (let o := ({ num := 1, kind := .flashRead } : NvmOp); let w := ({ fl := fl 0x0307 0, kind := .nvm 1 } : Wait); let s : State := { R with nvm := { R.nvm with running := some o }, host := { R.host with waits := [w] } }; s.nvm.running = some o ∧ o.kind = .flashRead ∧ s.sec.erasure = none ∧ s.sec.dbg.extest = false ∧ s.rst.clockLoss = none ∧ s.host.waits = [w] ∧ w.kind = .nvm o.num ∧ w.fl.opcode = 0x0307 ∧ w.fl.id < 240) := by
  refine ⟨?_, ?_, ?_, ?_, ?_, ?_, ?_, ?_, ?_⟩ <;> decide +kernel


theorem test_wit_DebugPort :
    (let s : State := R; let t : Nat := 700000000000; let a := s.advance t; let d := s.sec.dbg; a.tapUp = true ∧ d.extest = false) ∧
    (let s : State := { R with sec := { R.sec with dbg := { R.sec.dbg with session := some ({ level := .full, signer := 0, serial := 5, flags := 1, notAfter := 0, key := 7, lastOp := 0  } : Session) } }  }; let t : Nat := 700000000000; let a := s.advance t; let d := s.sec.dbg; a.tapUp = true ∧ d.extest = false ∧ s.boundaryOpen = true) ∧
    (let s : State := R; let t : Nat := 700000000000; let a := s.advance t; let d := s.sec.dbg; a.tapUp = true ∧ d.extest = false ∧ s.boundaryOpen = false) ∧
    (let s : State := { R with pwr := { R.pwr with state := .off } }; let t : Nat := 700000000000; let a := s.advance t; a.tapUp = false) ∧
    (let s : State := { R with sec := { R.sec with dbg := { R.sec.dbg with extest := true } }  }; let t : Nat := 700000000000; let a := s.advance t; let d := s.sec.dbg; a.tapUp = true ∧ d.extest = true) ∧
    (let s : State := { R with sec := { R.sec with dbg := { R.sec.dbg with ignoreUntil := 700000000000 } }  }; let t : Nat := 700000000000; let a := s.advance t; let d := s.sec.dbg; a.tapUp = true ∧ d.extest = false ∧ d.ignoreUntil ≤ a.clk.now) ∧
    (let s : State := { R with sec := { R.sec with dbg := { R.sec.dbg with ignoreUntil := 700000000001 } }  }; let t : Nat := 700000000000; let a := s.advance t; let d := s.sec.dbg; a.tapUp = true ∧ d.extest = false ∧ a.clk.now < d.ignoreUntil) ∧
    (let s : State := { R with pwr := { R.pwr with state := .safe } }; let t : Nat := 700000000000; let a := s.advance t; let d := s.sec.dbg; a.tapUp = true ∧ d.extest = false ∧ d.session = none ∧ ((s.sec.life = .blank ∨ s.sec.life = .provisioned)) ∧ s.pwr.state = .safe) ∧
    (let y := ({ level := .full, signer := 0, serial := 5, flags := 1, notAfter := 0, key := 7, lastOp := 0  } : Session); let s : State := { R with sec := { R.sec with dbg := { R.sec.dbg with session := some y } }  }; let t : Nat := 700000000000; let a := s.advance t; let d := s.sec.dbg; a.tapUp = true ∧ d.extest = false ∧ d.session = some y) := by
  refine ⟨?_, ?_, ?_, ?_, ?_, ?_, ?_, ?_, ?_⟩ <;> decide +kernel

theorem test_wit_DebugPort_2 :
    (let y := ({ level := .full, signer := 0, serial := 5, flags := 1, notAfter := 0, key := 7, lastOp := 0  } : Session); let s : State := { R with sec := { R.sec with dbg := { R.sec.dbg with session := some y } }  }; let t : Nat := 700000000000; let a := s.advance t; let d := s.sec.dbg; let q := 0; let r := [1, 2]; let c := y.mac (mboxMsg 5 r); a.tapUp = true ∧ d.extest = false ∧ d.session = some y ∧ y.mac (mboxMsg 5 r) = c ∧ s.inFlight (256 + q % 256) = false) ∧
    (let y := ({ level := .full, signer := 0, serial := 5, flags := 1, notAfter := 0, key := 7, lastOp := 0  } : Session); let s : State := { R with sec := { R.sec with dbg := { R.sec.dbg with session := some y } }  }; let t : Nat := 700000000000; let a := s.advance t; let d := s.sec.dbg; let r := [1, 2]; let c := y.mac (mboxMsg 5 r) + 1; a.tapUp = true ∧ d.extest = false ∧ d.session = some y ∧ y.mac (mboxMsg 5 r) ≠ c ∧ y.wrongTags < 2) ∧
    (let y := ({ level := .full, signer := 0, serial := 5, flags := 1, notAfter := 0, key := 7, lastOp := 0  } : Session); let s : State := { R with sec := { R.sec with dbg := { R.sec.dbg with session := some y } }  }; let t : Nat := 700000000000; let a := s.advance t; let d := s.sec.dbg; let c := y.mac (mboxMsg 6 []); a.tapUp = true ∧ d.extest = false ∧ d.session = some y ∧ y.mac (mboxMsg 6 []) = c) ∧
    (let y := ({ level := .observe, signer := 0, serial := 5, flags := 1, notAfter := 0, key := 7, lastOp := 0  } : Session); let s : State := { R with sec := { R.sec with dbg := { R.sec.dbg with session := some y } }  }; let t : Nat := 700000000000; let a := s.advance t; let d := s.sec.dbg; let ad := 0x10000000; let c := y.mac (accessMsg 1 ad 0 y); a.tapUp = true ∧ d.extest = false ∧ d.session = some y ∧ y.mac (accessMsg 1 ad 0 y) = c ∧ y.level = .observe ∧ 0 < ad / 268435456 % 16) ∧
    (let y := ({ level := .full, signer := 0, serial := 5, flags := 1, notAfter := 0, key := 7, lastOp := 0  } : Session); let s : State := { R with sec := { R.sec with dbg := { R.sec.dbg with session := some y } }  }; let t : Nat := 700000000000; let a := s.advance t; let d := s.sec.dbg; let ad := 0x10000000; let w := 5; let c := y.mac (accessMsg 2 ad w y); a.tapUp = true ∧ d.extest = false ∧ d.session = some y ∧ y.mac (accessMsg 2 ad w y) = c ∧ y.level = .full ∧ ad / 268435456 % 16 = 1) ∧
    (let y := ({ level := .full, signer := 0, serial := 5, flags := 1, notAfter := 0, key := 7, lastOp := 0  } : Session); let s : State := { R with sec := { R.sec with dbg := { R.sec.dbg with session := some y } }  }; let t : Nat := 700000000000; let a := s.advance t; let d := s.sec.dbg; let ad := 0x30000000; let w := 5; let k := 2; let c := y.mac (accessMsg 2 ad w y); a.tapUp = true ∧ d.extest = false ∧ d.session = some y ∧ y.mac (accessMsg 2 ad w y) = c ∧ y.level = .full ∧ ad / 268435456 % 16 = 3 ∧ k < 3 ∧ tst d.halted k = false ∧ tst d.haltPend k = false) ∧
    (let y := ({ level := .full, signer := 0, serial := 5, flags := 1, notAfter := 0, key := 7, lastOp := 0  } : Session); let s : State := { R with sec := { R.sec with dbg := { R.sec.dbg with session := some y } } , pwr := { R.pwr with state := .armed } }; let t : Nat := 700000000000; let a := s.advance t; let d := s.sec.dbg; let ad := 0x30000000; let w := 5; let k := 0; let c := y.mac (accessMsg 2 ad w y); a.tapUp = true ∧ d.extest = false ∧ d.session = some y ∧ y.mac (accessMsg 2 ad w y) = c ∧ y.level = .full ∧ ad / 268435456 % 16 = 3 ∧ k < 3 ∧ tst d.halted k = false ∧ tst d.haltPend k = false) ∧
    (let y := ({ level := .full, signer := 0, serial := 5, flags := 1, notAfter := 0, key := 7, lastOp := 0  } : Session); let s : State := { R with sec := { R.sec with life := .blank, dbg := { R.sec.dbg with session := some y } } }; let t : Nat := 700000000000; let a := s.advance t; let d := s.sec.dbg; let ad := 0x30000000; let w := 5; let c := y.mac (accessMsg 2 ad w y); a.tapUp = true ∧ d.extest = false ∧ d.session = some y ∧ y.mac (accessMsg 2 ad w y) = c ∧ y.level = .full ∧ ad / 268435456 % 16 = 3 ∧ s.sec.life = .blank) ∧
    (let y := ({ level := .observe, signer := 0, serial := 5, flags := 1, notAfter := 0, key := 7, lastOp := 0  } : Session); let s : State := { R with sec := { R.sec with dbg := { R.sec.dbg with session := some y } }  }; let t : Nat := 700000000000; let a := s.advance t; let d := s.sec.dbg; let ad := 0x10000000; let w := 5; let c := y.mac (accessMsg 2 ad w y); a.tapUp = true ∧ d.extest = false ∧ d.session = some y ∧ y.mac (accessMsg 2 ad w y) = c ∧ y.level ≠ .full) := ⟨⟨by decide +kernel, by decide +kernel, by decide +kernel, rfl, by decide +kernel⟩,
    ⟨by decide +kernel, by decide +kernel, by decide +kernel, Nat.ne_of_lt (Nat.lt_succ_self _), by decide +kernel⟩,
    ⟨by decide +kernel, by decide +kernel, by decide +kernel, rfl⟩,
    ⟨by decide +kernel, by decide +kernel, by decide +kernel, rfl, by decide +kernel, by decide +kernel⟩,
    ⟨by decide +kernel, by decide +kernel, by decide +kernel, rfl, by decide +kernel, by decide +kernel⟩,
    ⟨by decide +kernel, by decide +kernel, by decide +kernel, rfl, by decide +kernel, by decide +kernel, by decide +kernel, by decide +kernel, by decide +kernel⟩,
    ⟨by decide +kernel, by decide +kernel, by decide +kernel, rfl, by decide +kernel, by decide +kernel, by decide +kernel, by decide +kernel, by decide +kernel⟩,
    ⟨by decide +kernel, by decide +kernel, by decide +kernel, rfl, by decide +kernel, by decide +kernel, by decide +kernel⟩,
    ⟨by decide +kernel, by decide +kernel, by decide +kernel, rfl, by decide +kernel⟩⟩

theorem test_wit_DebugPort_3 :
    (let y := ({ level := .full, signer := 0, serial := 5, flags := 1, notAfter := 0, key := 7, lastOp := 0 , pendingUntil := some 800000000000, counter := 4294967295 } : Session); let s : State := { R with sec := { R.sec with dbg := { R.sec.dbg with session := some y } }  }; let t : Nat := 700000000000; let a := s.advance t; let d := s.sec.dbg; let ad := 0x10000000; let c := y.mac (accessMsg 3 ad 0 y); a.tapUp = true ∧ d.extest = false ∧ d.session = some y ∧ y.mac (accessMsg 3 ad 0 y) = c) ∧
    (let y := ({ level := .full, signer := 0, serial := 5, flags := 1, notAfter := 0, key := 7, lastOp := 100000000000  } : Session); let s : State := { R with sec := { R.sec with dbg := { R.sec.dbg with session := some y } }  }; let t : Nat := 700000000000; let a := s.advance t; let d := s.sec.dbg; d.session = some y ∧ y.lastOp + 600000000000 ≤ a.clk.now) ∧
    (let s : State := R; let d := s.sec.dbg; d.session = none) ∧
    (let u := 700000000000; let y := ({ level := .full, signer := 0, serial := 5, flags := 1, notAfter := 0, key := 7, lastOp := 0 , pendingUntil := some u } : Session); let s : State := { R with sec := { R.sec with dbg := { R.sec.dbg with session := some y } }  }; let t : Nat := 700000000000; let a := s.advance t; let d := s.sec.dbg; d.session = some y ∧ y.pendingUntil = some u ∧ u ≤ a.clk.now) ∧
    (let u := 700000000001; let y := ({ level := .full, signer := 0, serial := 5, flags := 1, notAfter := 0, key := 7, lastOp := 0 , pendingUntil := some u } : Session); let s : State := { R with sec := { R.sec with dbg := { R.sec.dbg with session := some y } }  }; let t : Nat := 700000000000; let a := s.advance t; let d := s.sec.dbg; d.session = some y ∧ y.pendingUntil = some u ∧ a.clk.now < u) := by
  refine ⟨(⟨by decide +kernel, by decide +kernel, by decide +kernel, rfl⟩), ?_, ?_, ?_, ?_⟩ <;> decide +kernel


theorem test_wit_FrameTicks :
    (let s : State := R; s.frame.running = false) ∧
    (let s : State := { R with frame := { R.frame with running := true, nextTick := 1000000, pages := [{ role := .write, epoch := 3 }, { role := .live, epoch := 5, trailer := 5 }, { role := .rest, epoch := 4, trailer := 4 }], pageEpoch := 5, open_ := true }  }; s.frame.running = true ∧ PagesOk s.frame.pages ∧ s.pwr.standbyPend = false ∧ s.rst.dueAt = none ∧ s.sec.dbg.halted < 2 ∧ s.frame.open_ = true ∧ s.frame.slipped = false) ∧
    (let s : State := { R with frame := { R.frame with running := true, nextTick := 1000000, pages := [{ role := .write, epoch := 3 }, { role := .live, epoch := 5, trailer := 5 }, { role := .rest, epoch := 4, trailer := 4 }], pageEpoch := 0xFFFFFFFF, open_ := true, consec := 3, slips := 9, seq := 4294967295, hold := .requested, profile := 3 }  }; s.frame.running = true ∧ PagesOk s.frame.pages ∧ s.pwr.standbyPend = false ∧ s.rst.dueAt = none ∧ s.sec.dbg.halted < 2 ∧ s.frame.open_ = true ∧ s.frame.slipped = false) ∧
    (let s : State := { R with frame := { R.frame with running := true, nextTick := 1000000, pages := [{ role := .write, epoch := 3 }, { role := .live, epoch := 5, trailer := 5 }, { role := .rest, epoch := 4, trailer := 4, held := true }], pageEpoch := 5, open_ := true, hold := .held }  }; s.frame.running = true ∧ PagesOk s.frame.pages ∧ s.pwr.standbyPend = false ∧ s.rst.dueAt = none ∧ s.sec.dbg.halted < 2 ∧ s.frame.open_ = true ∧ s.frame.slipped = false) ∧
    (let s : State := { R with frame := { R.frame with running := true, nextTick := 1000000, pages := [{ role := .write, epoch := 3 }, { role := .live, epoch := 5, trailer := 5 }, { role := .rest, epoch := 4, trailer := 4 }], pageEpoch := 5, open_ := true, slipped := true, consec := 1, slips := 7 }  }; s.frame.running = true ∧ PagesOk s.frame.pages ∧ s.pwr.standbyPend = false ∧ s.rst.dueAt = none ∧ s.sec.dbg.halted < 2 ∧ s.frame.slipped = true) ∧
    (let s : State := { R with frame := { R.frame with running := true, nextTick := 1000000, pages := [{ role := .write, epoch := 3 }, { role := .live, epoch := 5, trailer := 5 }, { role := .rest, epoch := 4, trailer := 4 }], pageEpoch := 5, slipped := true }  }; s.frame.running = true ∧ PagesOk s.frame.pages ∧ s.pwr.standbyPend = false ∧ s.rst.dueAt = none ∧ s.sec.dbg.halted < 2 ∧ s.frame.slipped = true) ∧
    (let c := 2; let s : State := { R with frame := { R.frame with running := true, nextTick := 1000000, pages := [{ role := .write, epoch := 3 }, { role := .live, epoch := 5, trailer := 5 }, { role := .rest, epoch := 4, trailer := 4 }], pageEpoch := 5, open_ := true } , pwr := { R.pwr with state := .armed, safePend := some c } }; s.frame.running = true ∧ s.pwr.standbyPend = false ∧ s.rst.dueAt = none ∧ s.sec.dbg.halted < 2 ∧ s.pwr.safePend = some c ∧ s.live = [] ∧ s.pwr.state = .armed) := by
  refine ⟨?_, ?_, ?_, ?_, ?_, ?_, ?_⟩ <;> decide +kernel


theorem test_wit_FrameSlips :
    (let s : State := { R with frame := { R.frame with running := true, nextTick := 1000000, pages := [{ role := .write, epoch := 3 }, { role := .live, epoch := 5, trailer := 5 }, { role := .rest, epoch := 4, trailer := 4 }], pageEpoch := 5, open_ := true }  }; s.frame.open_ = true ∧ s.frame.slipped = false) ∧
    (let s : State := { R with frame := { R.frame with running := true, nextTick := 1000000, pages := [{ role := .write, epoch := 3 }, { role := .live, epoch := 5, trailer := 5 }, { role := .rest, epoch := 4, trailer := 4 }], pageEpoch := 5, open_ := true, consec := 1 } , frameRecs := [{}], live := [({ kind := .groupAck 3, origin := 0x40, fl := none } : LiveCmd)], eng := { R.eng with foIn := [(1, { node := 0, weir := 1, role := 2, ts := 3, res := 4 })] } }; s.frame.open_ = true ∧ s.frame.slipped = false) ∧
    (let s : State := R; ((s.frame.open_ = false ∨ s.frame.slipped = true))) ∧
    (let s : State := { R with frame := { R.frame with running := true, nextTick := 1000000, pages := [{ role := .write, epoch := 3 }, { role := .live, epoch := 5, trailer := 5 }, { role := .rest, epoch := 4, trailer := 4 }], pageEpoch := 5, open_ := true, slipped := true }  }; ((s.frame.open_ = false ∨ s.frame.slipped = true))) := by
  refine ⟨?_, ?_, ?_, ?_⟩ <;> decide +kernel


theorem test_wit_PageRoles :
    (let j := 2; let ps : List Page := [{ role := .write }, { role := .live, epoch := 5, trailer := 5, held := true }, { role := .rest, epoch := 4, trailer := 4 }]; let i : Nat := 0; ps.length = 3 ∧ i < 3 ∧ (∀ j ∈ List.range 3, (ps.getD j {}).role = .write ↔ j = i) ∧ (ps.getD i {}).held = false ∧ (ps.filter (fun p => p.held)).length ≤ 1) ∧
    (let ps : List Page := [{ role := .write }, { role := .live, epoch := 5, trailer := 5, held := true }, { role := .rest, epoch := 4, trailer := 4 }]; let i : Nat := 0; let j := 2; ps.length = 3 ∧ i < 3 ∧ (∀ j ∈ List.range 3, (ps.getD j {}).role = .write ↔ j = i) ∧ (ps.getD i {}).held = false ∧ (ps.filter (fun p => p.held)).length ≤ 1) ∧
    (let take : Bool := false; let ps : List Page := [{ role := .write, epoch := 6 }, { role := .live, epoch := 5, trailer := 5, held := true }, { role := .rest, epoch := 4, trailer := 4 }]; let b : Nat := 2; let j := 0; ps.length = 3 ∧ b < 3 ∧ ((rotate take (some b) ps).getD b {}).role = .write ∧ j < 3 ∧ j ≠ b) ∧
    (let s : State := { R with frame := { R.frame with running := true, nextTick := 1000000, pages := [{ role := .write, epoch := 3 }, { role := .live, epoch := 5, trailer := 5, held := true }, { role := .rest, epoch := 4, trailer := 4 }], pageEpoch := 5, open_ := true, hold := .held }  }; let a : Nat := 0x40000; let p := ({ role := .live, epoch := 5, trailer := 5, held := true } : Page); PagesOk s.frame.pages ∧ s.heldPage = some p ∧ 0x40000 ≤ a ∧ a < 0x44000) ∧
    (let s : State := { R with frame := { R.frame with running := true, nextTick := 1000000, pages := [{ role := .write, epoch := 3 }, { role := .live, epoch := 5, trailer := 5, held := true }, { role := .rest, epoch := 4, trailer := 4 }], pageEpoch := 5, open_ := true, hold := .held }  }; let a : Nat := 0x43FFF; let p := ({ role := .live, epoch := 5, trailer := 5, held := true } : Page); PagesOk s.frame.pages ∧ s.heldPage = some p ∧ 0x40000 ≤ a ∧ a < 0x44000) ∧
    (let s : State := { R with frame := { R.frame with running := true, nextTick := 1000000, pages := [{ role := .write, epoch := 3 }, { role := .live, epoch := 5, trailer := 5 }, { role := .rest, epoch := 4, trailer := 4 }], pageEpoch := 5, open_ := true, left := some (2, 9) }  }; let y : Nat := 9; let a : Nat := 0x40000; let i := 2; let z := 9; PagesOk s.frame.pages ∧ 0x40000 ≤ a ∧ a < 0x44000 ∧ s.heldPage = none ∧ s.frame.left = some (i, z) ∧ y ≤ z ∧ i < 3 ∧ (s.frame.pages.getD i {}).role ≠ .write) ∧
    (let s : State := { R with frame := { R.frame with running := true, nextTick := 1000000, pages := [{ role := .write, epoch := 3 }, { role := .live, epoch := 5, trailer := 5 }, { role := .rest, epoch := 4, trailer := 4 }], pageEpoch := 5, open_ := true, left := some (1, 9) }  }; let y : Nat := 9; let a : Nat := 0x43FC0; let i := 1; let z := 9; PagesOk s.frame.pages ∧ 0x40000 ≤ a ∧ a < 0x44000 ∧ s.heldPage = none ∧ s.frame.left = some (i, z) ∧ y ≤ z ∧ i < 3 ∧ (s.frame.pages.getD i {}).role ≠ .write) ∧
    (let s : State := { R with frame := { R.frame with running := true, nextTick := 1000000, pages := [{ role := .write, epoch := 3 }, { role := .live, epoch := 5, trailer := 5 }, { role := .rest, epoch := 4, trailer := 4 }], pageEpoch := 5, open_ := true, left := some (2, 9) }  }; let y : Nat := 9; let a : Nat := 0x43FFF; let i := 2; let z := 9; PagesOk s.frame.pages ∧ 0x40000 ≤ a ∧ a < 0x44000 ∧ s.heldPage = none ∧ s.frame.left = some (i, z) ∧ y ≤ z ∧ i < 3 ∧ (s.frame.pages.getD i {}).role ≠ .write) ∧
    (let s : State := { R with frame := { R.frame with running := true, nextTick := 1000000, pages := [{ role := .write, epoch := 3 }, { role := .live, epoch := 5, trailer := 5 }, { role := .rest, epoch := 4, trailer := 4 }], pageEpoch := 5, open_ := true, left := some (2, 8) }  }; let y : Nat := 9; let a : Nat := 0x40000; let i := 2; let z := 8; PagesOk s.frame.pages ∧ 0x40000 ≤ a ∧ a < 0x44000 ∧ s.heldPage = none ∧ s.frame.left = some (i, z) ∧ z < y) := by
  refine ⟨?_, ?_, ?_, ?_, ?_, ?_, ?_, ?_, ?_⟩ <;> decide +kernel

theorem test_wit_PageRoles_2 :
    (let s : State := { R with frame := { R.frame with running := true, nextTick := 1000000, pages := [{ role := .write, epoch := 3 }, { role := .live, epoch := 5, trailer := 5 }, { role := .rest, epoch := 4, trailer := 4 }], pageEpoch := 5, open_ := true, hold := .requested }  }; let r : TickRead := .none; let u := s.pagesTick false r; let p := ({ role := .live, epoch := 5, trailer := 5, held := true } : Page); s.frame.hold = .requested ∧ u.frame.hold = .held ∧ p ∈ u.frame.pages) ∧
    (True) := by
  refine ⟨?_, (trivial)⟩ <;> decide +kernel


theorem test_wit_WeirTransitions :
    (let c : WeirCfg := { weirOff with enable := true  }; let sup : Bool := false; let w : WeirSt := ({ state := .normal, oos := true } : WeirSt); let m := .outOfService; ((w.shelf = none)) ∧ w.mask c sup = some m) ∧
    (let c : WeirCfg := { weirOff with enable := true  }; let sup : Bool := false; let w : WeirSt := ({ state := .normal, cond := true } : WeirSt); ((w.shelf = none)) ∧ w.mask c sup = none ∧ w.failed = false ∧ (w.state = .normal ∨ w.state = .rtnUnack) ∧ w.cond = true) ∧
    (let c : WeirCfg := { weirOff with enable := true  }; let sup : Bool := false; let w : WeirSt := ({ state := .activeUnack } : WeirSt); ((w.shelf = none)) ∧ w.mask c sup = none ∧ w.failed = false ∧ (w.state = .activeUnack ∨ w.state = .activeAck) ∧ w.cond = false) ∧
    (let c : WeirCfg := { weirOff with enable := true  }; let sup : Bool := false; let w : WeirSt := ({ state := .rtnUnack } : WeirSt); ((w.shelf = none)) ∧ w.mask c sup = none ∧ w.failed = false ∧ (w.state = .normal ∨ w.state = .rtnUnack) ∧ w.cond = false) ∧
    (let c : WeirCfg := { weirOff with enable := true  }; let sup : Bool := false; let w : WeirSt := ({ state := .activeAck, cond := true } : WeirSt); ((w.shelf = none)) ∧ w.mask c sup = none ∧ w.failed = false ∧ (w.state = .activeUnack ∨ w.state = .activeAck) ∧ w.cond = true) ∧
    (let c : WeirCfg := { weirOff with enable := true  }; let sup : Bool := false; let w : WeirSt := ({ state := .sourceFault, faultUnack := true } : WeirSt); ((w.shelf = none)) ∧ w.mask c sup = none ∧ w.failed = false ∧ w.state = .sourceFault ∧ w.cond = false) ∧
    (let c : WeirCfg := { weirOff with enable := true  }; let sup : Bool := false; let w : WeirSt := ({ state := .shelved, cond := true } : WeirSt); ((w.shelf = none)) ∧ w.mask c sup = none ∧ w.failed = false ∧ (w.state = .outOfService ∨ w.state = .shelved ∨ w.state = .suppressed)) ∧
    (let c : WeirCfg := { weirOff with enable := true  }; let sup : Bool := false; let w : WeirSt := ({ state := .normal, failed := true } : WeirSt); ((w.shelf = none)) ∧ w.mask c sup = none ∧ w.failed = true) ∧
    (let c : WeirCfg := { weirOff with enable := true , noAck := true }; let w : WeirSt := ({ state := .normal, cond := true } : WeirSt); ((w.shelf = none)) ∧ c.noAck = true ∧ w.state ≠ .activeUnack ∧ w.state ≠ .rtnUnack) := by
  refine ⟨?_, ?_, ?_, ?_, ?_, ?_, ?_, ?_, ?_⟩ <;> decide +kernel

theorem test_wit_WeirTransitions_2 :
    (let c : WeirCfg := { weirOff with enable := true , noAck := true }; let w : WeirSt := ({ state := .activeUnack } : WeirSt); ((w.shelf = none)) ∧ c.noAck = true ∧ w.state ≠ .rtnUnack) ∧
    (let c : WeirCfg := { weirOff with enable := true  }; let sup : Bool := false; let w : WeirSt := ({ state := .activeUnack, cond := true } : WeirSt); ((w.shelf = none)) ∧ w.mask c sup = none ∧ w.failed = false ∧ w.state = .activeUnack ∧ w.cond = true) ∧
    (let c : WeirCfg := { weirOff with enable := true  }; let sup : Bool := false; let w : WeirSt := ({ state := .rtnUnack } : WeirSt); ((w.shelf = none)) ∧ w.mask c sup = none ∧ w.failed = false ∧ w.state = .rtnUnack ∧ w.cond = false) ∧
    (let c : WeirCfg := { weirOff with enable := true  }; let sup : Bool := false; let w : WeirSt := ({ state := .normal, faultUnack := true } : WeirSt); ((w.shelf = none)) ∧ w.mask c sup = none ∧ w.failed = false ∧ w.state = .normal ∧ w.cond = false) ∧
    (let c : WeirCfg := { weirOff with enable := true  }; let sup : Bool := false; let w : WeirSt := ({ state := .activeAck, cond := true } : WeirSt); ((w.shelf = none)) ∧ w.mask c sup = none ∧ w.failed = false ∧ w.state = .activeAck ∧ w.cond = true) ∧
    (let c : WeirCfg := { weirOff with enable := true  }; let sup : Bool := false; let w : WeirSt := ({ state := .sourceFault, failed := true, faultUnack := true } : WeirSt); ((w.shelf = none)) ∧ w.mask c sup = none ∧ w.failed = true ∧ w.state = .sourceFault) ∧
    (let c : WeirCfg := { weirOff with enable := true  }; let sup : Bool := false; let w : WeirSt := ({ state := .normal, oos := true, faultUnack := true } : WeirSt); let m := .outOfService; ((w.shelf = none)) ∧ w.mask c sup = some m) ∧
    (let w : WeirSt := ({ state := .normal } : WeirSt); w.shelf = none) := by
  refine ⟨?_, ?_, ?_, ?_, ?_, ?_, ?_, ?_⟩ <;> decide +kernel


theorem test_wit_StepRunsTheFront : State.reset.pending = [] := rfl

/-- One queue that holds a command of an existing bank, one that holds a command of a bank that does not exist. -/
theorem test_wit_CommandsComplete :
    Instr.wf (.linkDown 0 7) = true ∧ Instr.wf (.linkDown 0 8) = false ∧
      step { R with pending := [.linkDown 0 8] } = .fault .noSuchUnit := ⟨by decide, by decide, rfl⟩

theorem test_wit_QueueRunsOut :
    exec (.vioLoss 0) R = .next { R.advance 0 with host := { (R.advance 0).host with up := false } } ∧
      (∀ i ∈ [Instr.vioLoss 0, .linkDown 0 7], i.wf = true) ∧ (∃ u, steps 1 { R with pending := [.vioLoss 0, .linkDown 0 7] } = .next u) :=
  ⟨rfl, by decide, ⟨_, rfl⟩⟩

theorem test_wit_PagesStayInOrder : PagesOk R.frame.pages ∧ ∃ u, step { R with pending := [.vioLoss 0] } = .next u :=
  ⟨by decide, ⟨_, rfl⟩⟩

theorem test_wit_LifecycleNeverGoesBack :
    LifeOk (ex R (fl 0x0C06 0)) ∧ ∃ u, step { ex R (fl 0x0C06 0) with pending := [.secField 0 0] } = .next u :=
  ⟨fun _ _ _ => rfl, ⟨_, rfl⟩⟩


end Sys2Proof.Tests
end

section
/-!
PROOFS. Where a command stops: only at a unit that the node does not have (R10, Table 01.2).
-/

namespace Sys2Proof.Machine

open Sys2Proof

/-- A test of the unit written out is the guard that the other commands call. -/
theorem ite_noSuchUnit_eq_guardUnit {p : Prop} [Decidable p] (u : State) :
    (if p then .next u else .fault .noSuchUnit) = guardUnit (decide p) u := by
  by_cases h : p <;> simp [guardUnit, h]

/-- Every command is guarded by the existence of the units it names, and by nothing else. -/
theorem exec_eq_guardUnit_wf (i : Instr) (s : State) : ∃ u, exec i s = guardUnit i.wf u := by
  cases i
  case waveformStart => exact ⟨_, ite_noSuchUnit_eq_guardUnit _⟩
  case waveformEnd => exact ⟨_, ite_noSuchUnit_eq_guardUnit _⟩
  case blinkToggle => exact ⟨_, ite_noSuchUnit_eq_guardUnit _⟩
  all_goals exact ⟨_, rfl⟩

/-- A command for units of the node completes in every state. -/
theorem exec_next_of_wf {i : Instr} (h : i.wf = true) (s : State) : ∃ u, exec i s = .next u := by
  obtain ⟨u, hu⟩ := exec_eq_guardUnit_wf i s
  exact ⟨u, hu.trans (guardUnit_next h)⟩

/-- A command for a unit beyond the node's counts stops with `noSuchUnit` in every state. -/
theorem exec_fault_of_not_wf {i : Instr} (h : i.wf = false) (s : State) : exec i s = .fault .noSuchUnit := by
  obtain ⟨u, hu⟩ := exec_eq_guardUnit_wf i s
  exact hu.trans (guardUnit_fault h)

/-- A step goes on, or it stops with `noSuchUnit` at a command at the front of the queue that names another unit. -/
theorem step_next_or_fault (s : State) : (∃ u, step s = .next u) ∨
    (step s = .fault .noSuchUnit ∧ ∃ i r, s.pending = i :: r ∧ i.wf = false) := by
  cases hp : s.pending with
  | nil => exact .inl ⟨s, by simp only [step, hp]⟩
  | cons i r =>
    have hs : step s = exec i { s with pending := r } := by simp only [step, hp]
    rw [hs]
    cases hw : i.wf with
    | true => exact .inl (exec_next_of_wf hw _)
    | false => exact .inr ⟨exec_fault_of_not_wf hw _, i, r, rfl, hw⟩

/-- Settles O2: one guard per command, split over the commands; a step adds none. That an event of a unit that the node does not
have stops with `noSuchUnit` is the model's choice (log 7). -/
theorem commandsComplete : Obligations.CommandsComplete := by
  unfold Obligations.CommandsComplete
  refine ⟨fun i s h => exec_next_of_wf h s, fun i s h => exec_fault_of_not_wf h s, fun s f h => ?_, fun s r h => ?_⟩
  · obtain ⟨u, hu⟩ | ⟨-, stopped⟩ := step_next_or_fault s
    · simp [hu] at h
    · exact stopped
  · obtain ⟨u, hu⟩ | ⟨hf, -⟩ := step_next_or_fault s
    · simp [hu] at h
    · simp [hf] at h

end Sys2Proof.Machine
end

section
/-!
PROOFS. What of the state a reset with its flush reads (R362, R457 to R459, R474), and that nothing on the way to it changes that.
-/

namespace Sys2Proof.Machine

open Sys2Proof

/-! ## What a reset reads -/

/-- What a reset passes on, or waits for, beside the configuration and the records: no NVM operation, answer or record changes it. -/
structure ResetView where
  clk : ClkSt
  up : Bool
  bkp : BkpSt
  clockLoss : Option Nat
  unflushed : Option Nat
  pending : List Instr

/-- The view of a state that a reset takes. -/
def State.resetView (s : State) : ResetView :=
  { clk := s.clk, up := s.host.up, bkp := s.bkp, clockLoss := s.rst.clockLoss, unflushed := s.log.unflushed, pending := s.pending }

/-- Steps that keep the view keep it one after another. -/
theorem State.resetView_foldl {α : Type} {f : State → α → State} (h : ∀ s x, (f s x).resetView = s.resetView) (l : List α)
    (s : State) : (l.foldl f s).resetView = s.resetView := by
  induction l generalizing s with
  | nil => rfl
  | cons x r ih => exact (ih _).trans (h s x)

/-! ## The count of an incomplete flush -/

@[simp] theorem LogSt.setActive_unflushed (l : LogSt) (p : List Rec) : (l.setActive p).unflushed = l.unflushed := by
  unfold LogSt.setActive; split <;> rfl

@[simp] theorem LogSt.setOther_unflushed (l : LogSt) (p : List Rec) : (l.setOther p).unflushed = l.unflushed := by
  unfold LogSt.setOther; split <;> rfl

@[simp] theorem LogSt.countDrop_unflushed (l : LogSt) (sv now from_ : Nat) : (l.countDrop sv now from_).unflushed = l.unflushed := rfl

theorem LogSt.countDrops_unflushed (ds : List Nat) (l : LogSt) (now from_ : Nat) :
    (ds.foldl (fun x sv => x.countDrop sv now from_) l).unflushed = l.unflushed := by
  induction ds generalizing l with
  | nil => rfl
  | cons d r ih => exact (ih _).trans (l.countDrop_unflushed d now from_)

@[simp] theorem LogSt.swapPails_unflushed (l : LogSt) : l.swapPails.unflushed = l.unflushed := by
  unfold LogSt.swapPails; repeat' split
  all_goals rfl

@[simp] theorem LogSt.enter_unflushed (l : LogSt) (r : Rec) (now from_ : Nat) : (l.enter r now from_).1.unflushed = l.unflushed := by
  unfold LogSt.enter; repeat' split
  all_goals simp

@[simp] theorem LogSt.record_unflushed (l : LogSt) (r : Rec) (now from_ : Nat) : (l.record r now from_).1.unflushed = l.unflushed := by
  unfold LogSt.record; dsimp only
  repeat' split
  all_goals simp

@[simp] theorem LogSt.beginChurn_unflushed (l : LogSt) (now from_ : Nat) : (l.beginChurn now from_).unflushed = l.unflushed :=
  LogSt.countDrops_unflushed _ _ now from_

@[simp] theorem LogSt.endChurn_unflushed (l : LogSt) (ts : Nat) : (l.endChurn ts).unflushed = l.unflushed := by
  unfold LogSt.endChurn; dsimp only
  repeat' split
  all_goals simp

@[simp] theorem LogSt.flush_unflushed (l : LogSt) (ts now from_ : Nat) : (l.flush ts now from_).unflushed = l.unflushed :=
  (LogSt.countDrops_unflushed _ _ now from_).trans (l.endChurn_unflushed ts)

/-! ## Operations that keep the view -/

@[simp] theorem State.resetView_enterRec (s : State) (r : Rec) : (s.enterRec r).resetView = s.resetView := by
  simp [State.resetView, State.enterRec]

@[simp] theorem State.resetView_logEv (s : State) (code sev kind idx role p1 p2 : Nat) :
    (s.logEv code sev kind idx role p1 p2).resetView = s.resetView := s.resetView_enterRec _

@[simp] theorem State.resetView_logNode (s : State) (code sev p1 p2 : Nat) : (s.logNode code sev p1 p2).resetView = s.resetView :=
  s.resetView_enterRec _

@[simp] theorem State.resetView_setCfg (s : State) (c : CfgSt) : ({ s with cfg := c } : State).resetView = s.resetView := rfl

@[simp] theorem State.resetView_setCal (s : State) (c : CalSt) : ({ s with cal := c } : State).resetView = s.resetView := rfl

@[simp] theorem State.resetView_modSec (s : State) (f : SecSt → SecSt) : (s.modSec f).resetView = s.resetView := rfl

@[simp] theorem State.resetView_modDisp (s : State) (f : DispSt → DispSt) : (s.modDisp f).resetView = s.resetView := rfl

@[simp] theorem State.resetView_wait (s : State) (f : Flight) (k : WaitKind) : (s.wait f k).resetView = s.resetView := rfl

@[simp] theorem State.resetView_complete (s : State) (f : Flight) (st : Status) (d : Nat) (p : List Byte) :
    (s.complete f st d p).resetView = s.resetView := by
  obtain ⟨_, _, _, _, h⟩ := s.complete_changes f st d p
  rw [h]; rfl

@[simp] theorem State.resetView_ok (s : State) (f : Flight) (p : List Byte) : (s.ok f p).resetView = s.resetView :=
  s.resetView_complete f .ok 0 p

theorem resetView_completeList (sel : WaitKind → Option (Status × Nat × List Byte)) (l : List Wait) (s : State) :
    (completeList sel l s).resetView = s.resetView := by
  induction l generalizing s with
  | nil => rfl
  | cons w r ih =>
    refine (ih _).trans ?_
    split
    · exact s.resetView_complete _ _ _ _
    · rfl

@[simp] theorem State.resetView_endWaits (s : State) (sel : WaitKind → Option (Status × Nat × List Byte)) :
    (s.endWaits sel).resetView = s.resetView := resetView_completeList sel _ _

@[simp] theorem State.resetView_refuse (s : State) (f : Flight) (x : Refused) : (s.refuse f x).resetView = s.resetView := by
  have stale : (s.logStale f).resetView = s.resetView := by
    unfold State.logStale; split
    · exact s.resetView_logEv _ _ _ _ _ _ _
    · rfl
  unfold State.refuse; dsimp only
  rw [State.resetView_complete]
  split
  · exact stale
  · rfl

theorem State.nvmGo_unflushed (s : State) (o : NvmOp) : (s.nvmGo o).log.unflushed = s.log.unflushed := by
  unfold State.nvmGo; dsimp only
  split
  · exact LogSt.beginChurn_unflushed _ _ _
  · rfl

theorem State.startLogChurn_unflushed (s : State) : s.startLogChurn.log.unflushed = s.log.unflushed :=
  s.log.beginChurn_unflushed _ _

theorem State.nvmPick_unflushed (s : State) : s.nvmPick.log.unflushed = s.log.unflushed := by
  unfold State.nvmPick
  repeat' split
  all_goals simp [State.nvmGo_unflushed, State.startLogChurn_unflushed]

theorem State.nvmStart_unflushed (s : State) : s.nvmStart.log.unflushed = s.log.unflushed := by
  unfold State.nvmStart
  repeat' split
  · rfl
  · exact State.startLogChurn_unflushed _
  · rfl
  · exact s.nvmPick_unflushed

@[simp] theorem State.resetView_nvmStart (s : State) : s.nvmStart.resetView = s.resetView := by
  simp [State.resetView, State.nvmStart_unflushed]

@[simp] theorem State.resetView_nvmRequest (s : State) (k : NvmKind) (m : Mem) (a : Nat) :
    (s.nvmRequest k m a).1.resetView = s.resetView := State.resetView_nvmStart _

@[simp] theorem State.resetView_endSession (s : State) (cause : Nat) : (s.endSession cause).resetView = s.resetView := by
  unfold State.endSession; split
  · exact State.resetView_logNode _ _ _ _ _
  · rfl

/-! ## NVM operations keep the view -/

theorem State.resetView_logClearEnd (s : State) (opts erased : Nat) : (s.logClearEnd opts erased).resetView = s.resetView := by
  unfold State.logClearEnd; dsimp only
  split <;> exact State.resetView_logNode _ _ _ _ _

theorem State.resetView_clearSegment (s : State) : s.clearSegment.resetView = s.resetView := by
  unfold State.clearSegment; split
  · dsimp only [LogSt.eraseSegment]
    split
    · exact State.resetView_nvmRequest _ _ _ _
    · exact State.resetView_logClearEnd _ _ _
  · rfl

theorem State.resetView_clearAnswer (s : State) : s.clearAnswer.resetView = s.resetView := by
  unfold State.clearAnswer
  repeat' split
  all_goals simp

@[simp] theorem State.resetView_logWritten (s : State) : s.logWritten.resetView = s.resetView := by
  refine (State.resetView_clearAnswer _).trans ?_
  simp only [State.resetView, LogSt.endChurn_unflushed]
  split <;> rfl

theorem State.resetView_commitWritten (s : State) (o : NvmOp) : (s.commitWritten o).resetView = s.resetView := by
  unfold State.commitWritten; dsimp only
  repeat' split
  all_goals rfl

theorem State.resetView_selectorDone (s : State) (epoch : Nat) : (s.selectorDone epoch).resetView = s.resetView := by
  unfold State.selectorDone; dsimp only
  repeat' split
  · exact State.resetView_ok _ _ _
  all_goals rfl

theorem State.resetView_eraseStep (s : State) : s.eraseStep.resetView = s.resetView := by
  unfold State.eraseStep
  repeat' split
  any_goals exact State.resetView_nvmRequest _ _ _ _
  all_goals rfl

theorem State.resetView_firmwareDone (s : State) (o : NvmOp) : (s.firmwareDone o).resetView = s.resetView := by
  unfold State.firmwareDone; dsimp only
  repeat' split
  any_goals exact State.resetView_nvmRequest _ _ _ _
  all_goals rfl

theorem State.resetView_fwAccept (s : State) : s.fwAccept.resetView = s.resetView := State.resetView_logNode _ _ _ _ _

theorem State.resetView_dirDone (s : State) (c : DirChange) : (s.dirDone c).resetView = s.resetView := by
  cases c with
  | begin_ n => exact State.resetView_nvmRequest _ _ _ _
  | trial n => exact State.resetView_logNode _ _ _ _ _
  | failed n k => rfl
  | prefer n => rfl
  | accept =>
    simp only [State.dirDone]
    split
    · exact s.resetView_fwAccept
    · rfl

theorem State.resetView_provisioned (s : State) (cert : List Byte) : (s.provisioned cert).resetView = s.resetView :=
  (State.resetView_endSession _ 8).trans (State.resetView_logNode _ _ _ _ _)

theorem State.resetView_keyDone (s : State) (o : NvmOp) : (s.keyDone o).resetView = s.resetView := by
  unfold State.keyDone; dsimp only
  split
  · exact State.resetView_nvmRequest _ _ _ _
  · split
    · split
      · exact s.resetView_provisioned _
      · rfl
    · split
      · rfl
      · split <;> exact State.resetView_logNode _ _ _ _ _

/-- What an NVM operation leaves does not concern a reset. -/
@[simp] theorem State.resetView_nvmEffect (s : State) (o : NvmOp) : (s.nvmEffect o).resetView = s.resetView := by
  unfold State.nvmEffect
  cases o.kind <;> dsimp only
  case commitChurn => exact (State.resetView_commitWritten _ o).trans s.resetView_logWritten
  case selector e => exact s.resetView_selectorDone e
  case calChurn => exact s.resetView_setCal _
  case logChurn => exact s.resetView_logWritten
  case clearSegment => exact s.resetView_clearSegment
  case eraseFirst => exact s.resetView_eraseStep
  case eraseSegment => exact s.resetView_eraseStep
  case eraseSector => exact s.resetView_eraseStep
  case storeImage => exact s.resetView_setCfg _
  case storeCurve => exact s.resetView_setCfg _
  case firmware => exact s.resetView_firmwareDone o
  case directory c => exact s.resetView_dirDone c
  case keyChurn => exact s.resetView_keyDone o

theorem State.resetView_logRead (s : State) (f : Flight) : (State.logRead f s).resetView = s.resetView := by
  unfold State.logRead; dsimp only
  repeat' split
  all_goals simp

theorem State.resetView_dirWrite (s : State) (f : Flight) (c : DirChange) : (s.dirWrite f c).resetView = s.resetView :=
  s.resetView_nvmRequest _ _ _

theorem State.resetView_fwAnswer (s : State) (f : Flight) (k : NvmKind) : (s.fwAnswer f k).resetView = s.resetView := by
  unfold State.fwAnswer State.fwJudge
  repeat' split
  all_goals simp [State.resetView_dirWrite]

theorem State.resetView_nvmAnswer (s : State) (f : Flight) (o : NvmOp) : (s.nvmAnswer f o).resetView = s.resetView := by
  unfold State.nvmAnswer
  repeat' split
  all_goals simp [State.resetView_logRead, State.resetView_fwAnswer]

theorem State.resetView_nvmServe (s : State) (o : NvmOp) : (s.nvmServe o).resetView = s.resetView :=
  State.resetView_foldl (fun s (w : Wait) => s.resetView_nvmAnswer w.fl o) _ _

/-- The end of an NVM operation, its answers and the start of the next do not concern a reset. -/
theorem State.resetView_nvmComplete (s : State) : s.nvmComplete.resetView = s.resetView := by
  unfold State.nvmComplete
  split
  · split
    · exact State.resetView_nvmStart _
    · exact (State.resetView_nvmStart _).trans ((State.resetView_nvmServe _ _).trans (State.resetView_nvmEffect _ _))
  · rfl

/-! ## The flush -/

theorem State.resetView_suspendFlash (s : State) (o : NvmOp) : (s.suspendFlash o).resetView = s.resetView := by
  unfold State.suspendFlash; split <;> rfl

theorem State.resetView_cutFlash (s : State) : s.cutFlash.resetView = s.resetView :=
  State.resetView_foldl State.resetView_suspendFlash _ s

/-- The flush completes or suspends what is under way and writes both pails; what the reset passes on stays. -/
theorem State.resetView_flush (s : State) : s.flush.resetView = s.resetView := by
  have written : ∀ u : State, u.resetView = s.resetView →
      ({ u with nvm := { u.nvm with running := none, waiting := [] },
                log := u.log.flush u.nowTs u.clk.now u.dropFrom } : State).resetView = s.resetView := by
    intro u h
    refine Eq.trans ?_ h
    simp only [State.resetView, LogSt.flush_unflushed]
  refine written _ ?_
  have cut := s.resetView_cutFlash
  split
  · split
    · exact (State.resetView_suspendFlash _ _).trans cut
    · exact (State.resetView_nvmEffect _ _).trans cut
  · exact cut

/-! ## The node after a reset with its flush -/

/-- The node `u` after a reset with its flush that found the node as `s`: start-up begins under the cause given, the outside
lines, the backup domain and local time run on, no record is left in a pail, and none was lost (R362, R457, R458, Table 17.7). -/
structure Restarted (s u : State) (cause : Nat) : Prop where
  cause : u.rst.cause = cause
  state : u.pwr.state = .starting
  stage : u.pwr.stage = .rails
  frame : u.frame = State.reset.frame
  host : u.host = { State.reset.host with up := s.host.up }
  pails : u.log.pails = []
  unflushed : u.log.unflushed = s.log.unflushed
  draft : u.cfg.draft = none
  commit : u.cfg.commit = none
  bkp : u.bkp = s.bkp
  clk : u.clk = { now := s.clk.now }
  held : u.rst.held = u.rst.low
  pending : u.pending = s.pending

/-- A restart after a complete flush. -/
theorem State.restart_restarted (s : State) (cause : Nat) (session : Bool) : Restarted s (s.restart cause true session) cause :=
  ⟨rfl, rfl, rfl, rfl, rfl, rfl, rfl, rfl, rfl, rfl, rfl, rfl, rfl⟩

/-- Only the view of the state before a reset shows in the node after it. -/
theorem Restarted.of_resetView {s w u : State} {cause : Nat} (h : Restarted w u cause) (e : w.resetView = s.resetView) :
    Restarted s u cause := by
  simp only [State.resetView, ResetView.mk.injEq] at e
  obtain ⟨clk, up, bkp, -, unflushed, pending⟩ := e
  exact { h with host := up ▸ h.host, unflushed := unflushed ▸ h.unflushed, bkp := bkp ▸ h.bkp, clk := clk ▸ h.clk
                 pending := pending ▸ h.pending }

/-- A reset with its flush restarts the node, its cause marked with the completed flush (R362, R458). -/
theorem State.flushReset_restarted {s w : State} (e : w.resetView = s.resetView) (code flags : Nat) :
    Restarted s (w.flushReset code flags) (code + flags + causeFlushDone) :=
  (State.restart_restarted _ _ _).of_resetView ((State.resetView_flush _).trans ((w.resetView_endSession 5).trans e))

/-- The request queue is empty after a reset, so none is taken. -/
theorem State.flushReset_takeNext (s : State) (code flags : Nat) : (s.flushReset code flags).takeNext = s.flushReset code flags := rfl

theorem State.whenRunning_of_running {s : State} (h : s.running = true) (go : State → State) : s.whenRunning go = go s := by
  simp [State.whenRunning, h]

theorem State.whenRunning_of_not_running {s : State} (h : s.running = false) (go : State → State) : s.whenRunning go = s := by
  simp [State.whenRunning, h]

/-! ## A reset without flush -/

/-- Suspending a flash operation marks its image slot, or drops the older boot directory. -/
theorem State.suspendFlash_changes (s : State) (o : NvmOp) :
    ∃ b x, s.suspendFlash o = { s with cfg := { s.cfg with slotBad := b }, sec := x } := by
  unfold State.suspendFlash
  split
  · exact ⟨_, s.sec, rfl⟩
  · exact ⟨s.cfg.slotBad, _, rfl⟩
  · exact ⟨s.cfg.slotBad, s.sec, rfl⟩

theorem State.suspendFlashes_changes (l : List NvmOp) (s : State) :
    ∃ b x, l.foldl State.suspendFlash s = { s with cfg := { s.cfg with slotBad := b }, sec := x } := by
  induction l generalizing s with
  | nil => exact ⟨s.cfg.slotBad, s.sec, rfl⟩
  | cons o r ih =>
    obtain ⟨b, x, h⟩ := s.suspendFlash_changes o
    obtain ⟨b', x', h'⟩ := ih { s with cfg := { s.cfg with slotBad := b }, sec := x }
    exact ⟨b', x', by rw [List.foldl_cons, h, h']⟩

/-- Every flash operation cut short, the one under way among them. -/
theorem State.cutRunning_changes (s : State) : ∃ b x, s.nvm.running.toList.foldl State.suspendFlash s.cutFlash =
    { s with cfg := { s.cfg with slotBad := b }, sec := x } := by
  obtain ⟨b, x, h⟩ := State.suspendFlashes_changes (s.nvm.waiting.filter (fun o => o.started || o.begun)) s
  obtain ⟨b', x', h'⟩ := State.suspendFlashes_changes s.nvm.running.toList { s with cfg := { s.cfg with slotBad := b }, sec := x }
  exact ⟨b', x', by rw [State.cutFlash, h, h']⟩

theorem LogSt.length_pails (l : LogSt) : l.pails.length = l.pailA.length + l.pailB.length := by
  unfold LogSt.pails LogSt.active LogSt.other
  split <;> simp [Nat.add_comm]

/-- A reset without a complete flush counts the records that stood in the pails (R363). -/
theorem LogSt.kept_unflushed (l : LogSt) :
    (l.kept false).unflushed = if l.pails = [] then l.unflushed else some (l.unflushed.getD 0 + l.pails.length) := by
  simp only [LogSt.kept, ← LogSt.length_pails, Bool.false_or, decide_eq_true_eq, List.length_eq_zero_iff]

/-- Power is lost before the end of `HOLDUP`: a new start under the cause given where VSHIP is back, else down to `BACKUP`. -/
def State.startOrGoDown (s : State) (cause : Nat) (flushed : Bool) : State :=
  if s.pwr.vshipOn then s.restart cause flushed false else s.goDown true flushed

theorem State.startOrGoDown_state (s : State) (cause : Nat) (flushed : Bool) :
    (s.startOrGoDown cause flushed).pwr.state = if s.pwr.vshipOn then .starting else .backup := by
  unfold State.startOrGoDown; split <;> rfl

theorem State.startOrGoDown_log (s : State) (cause : Nat) (flushed : Bool) :
    (s.startOrGoDown cause flushed).log = s.log.kept flushed := by
  unfold State.startOrGoDown; split <;> rfl

theorem State.startOrGoDown_slots (s : State) (cause : Nat) (flushed : Bool) :
    (s.startOrGoDown cause flushed).log.slots = s.log.slots := by rw [State.startOrGoDown_log]; rfl

theorem State.startOrGoDown_pails (s : State) (cause : Nat) (flushed : Bool) :
    (s.startOrGoDown cause flushed).log.pails = [] := by rw [State.startOrGoDown_log]; rfl

theorem State.startOrGoDown_unflushed (s : State) (cause : Nat) : (s.startOrGoDown cause false).log.unflushed =
    if s.log.pails = [] then s.log.unflushed else some (s.log.unflushed.getD 0 + s.log.pails.length) := by
  rw [State.startOrGoDown_log, LogSt.kept_unflushed]

theorem State.startOrGoDown_cause (s : State) (cause : Nat) (flushed : Bool) (h : s.pwr.vshipOn = true) :
    (s.startOrGoDown cause flushed).rst.cause = cause := by
  unfold State.startOrGoDown; rw [if_pos h]; rfl

/-- The flush was complete: nothing is lost (R391). -/
theorem State.holdupBroken_of_flushed {s : State} (h : s.pwr.holdup ≠ .running) : s.holdupBroken = s.startOrGoDown 0x603 true := by
  simp [State.holdupBroken, h, State.startOrGoDown, causeAfterHoldup, causeFlushDone]

/-- The flush was not complete: flash operations are cut short, and the pails are lost (R363, R391). -/
theorem State.holdupBroken_of_running {s : State} (h : s.pwr.holdup = .running) : ∃ c x,
    s.holdupBroken = ({ s with cfg := c, sec := x } : State).startOrGoDown 0x403 false := by
  obtain ⟨b, x, cut⟩ := s.cutRunning_changes
  exact ⟨{ s.cfg with slotBad := b }, x, by simp [State.holdupBroken, h, cut, State.startOrGoDown, causeAfterHoldup]⟩

/-! ## Commanded resets -/

theorem State.resetView_sendGoingDown (s : State) (reason : Nat) : (s.sendGoingDown reason).resetView = s.resetView := by
  refine State.resetView_foldl (fun s b => ?_) _ s
  split
  · rfl
  · obtain ⟨x, h⟩ := s.sendProto_changes b 0 0x03 0 (le8 reason ++ le8 0 ++ le16 s.cfg.epoch) .goingDown
    rw [h]; rfl

theorem State.resetView_driveCell (s : State) (dark : Bool) : (s.driveCell dark).resetView = s.resetView := by
  unfold State.driveCell; dsimp only
  repeat' split
  all_goals rfl

/-- A commanded reset that can be taken at once restarts the node (R459). -/
theorem State.resetDue_of_ready {s : State} (h : s.resetReady = true) : s.resetDue = s.flushReset 6 0 := by
  simp [State.resetDue, h]

theorem State.resetDue_of_not_ready {s : State} (h : s.resetReady = false) : s.resetDue = s := by simp [State.resetDue, h]

/-- A commanded reset waits for its `GOING_DOWN`, 20 ms at most, and for the cell (R301, R459). -/
theorem State.resetReady_of_due {s : State} {d : Nat} (hd : s.rst.dueAt = some d) (cell : s.cellIdle = true)
    (sent : d + 20000000 ≤ s.clk.now ∨ s.goingPending = false) : s.resetReady = true := by
  have sent' : (!s.goingPending || decide (d + ms 20 ≤ s.clk.now)) = true := by
    obtain late | gone := sent
    · simp [ms, late]
    · simp [gone]
  simp only [State.resetReady, hd, cell, sent', Bool.and_self]

/-! ## The rows -/

section

variable {s : State} {t : Nat}

/-- `RESET_N` low at a node that runs (R474). -/
theorem exec_resetN_restarted (run : (s.advance t).running = true) (high : s.rst.low = false) :
    ∃ u, exec (.resetN t) s = .next u ∧ Restarted (s.advance t) u 0x202 := by
  let w : State := { s.advance t with rst := { s.rst with low := true } }
  have pressed : exec (.resetN t) s = .next (w.whenRunning (fun s => s.flushReset 2 0)) :=
    congrArg Host.Outcome.next (if_neg (by simp [high]))
  exact ⟨w.flushReset 2 0, pressed.trans (congrArg Host.Outcome.next (State.whenRunning_of_running (s := w) run _)),
    State.flushReset_restarted (s := s.advance t) (w := w) rfl 2 0⟩

/-- The internal watchdog of a node that runs (R457). -/
theorem exec_internalWatchdog_restarted (run : (s.advance t).running = true) :
    ∃ u, exec (.internalWatchdog t) s = .next u ∧ Restarted (s.advance t) u 0x204 :=
  ⟨_, congrArg Host.Outcome.next (State.whenRunning_of_running run _), State.flushReset_restarted rfl 4 0⟩

/-- A lockstep mismatch of a node that runs (R18). -/
theorem exec_lockstepMismatch_restarted (run : (s.advance t).running = true) :
    ∃ u, exec (.lockstepMismatch t) s = .next u ∧ Restarted (s.advance t) u 0x205 :=
  ⟨_, congrArg Host.Outcome.next (State.whenRunning_of_running run _), State.flushReset_restarted rfl 5 0⟩

/-- The clock of a node that runs is lost while no operation but a flash access is under way (R17). -/
theorem exec_clockLoss_restarted (run : (s.advance t).running = true)
    (free : ∀ o, s.nvm.running = some o → o.kind.rank = 6) :
    ∃ u, exec (.clockLoss t) s = .next u ∧ Restarted (s.advance t) u 0x304 := by
  have lost : (s.advance t).clockLost = (s.advance t).flushReset 4 causeClockLoss := by
    unfold State.clockLost
    rw [State.advance_nvm]
    split
    · rename_i o ho; rw [if_pos (free o ho)]
    · rfl
  exact ⟨_, congrArg Host.Outcome.next ((State.whenRunning_of_running run _).trans lost), State.flushReset_restarted rfl 4 causeClockLoss⟩

/-- A node that does not run has no reset (R457). -/
theorem exec_reset_of_not_running {i : Instr}
    (hi : i ∈ ([.internalWatchdog t, .lockstepMismatch t, .clockLoss t] : List Instr)) (off : (s.advance t).running = false) :
    exec i s = .next (s.advance t) := by
  simp only [List.mem_cons, List.not_mem_nil, or_false] at hi
  obtain rfl | rfl | rfl := hi <;> exact congrArg _ (State.whenRunning_of_not_running off _)

/-- The clock is lost while an operation other than a flash access is under way: the reset waits for its end (R17). -/
theorem exec_clockLoss_waits {o : NvmOp} (run : (s.advance t).running = true) (ho : s.nvm.running = some o)
    (hr : o.kind.rank ≠ 6) : exec (.clockLoss t) s = .next { s.advance t with
      frame := { s.frame with running := false, open_ := false }, rst := { s.rst with clockLoss := some (s.advance t).clk.now } } := by
  refine congrArg _ ((State.whenRunning_of_running run _).trans ?_)
  simp only [State.clockLost, State.advance_nvm, ho, if_neg hr, State.advance_frame, State.advance_rst]

/-- The operation that a lost clock waited for ends, and the reset follows (R17). -/
theorem exec_nvmOperationComplete_clockLoss {o : NvmOp} {c : Nat} (hc : s.rst.clockLoss = some c) (ho : s.nvm.running = some o) :
    ∃ u, exec (.nvmOperationComplete t) s = .next u ∧ Restarted (s.advance t) u 0x304 := by
  have e := (s.advance t).resetView_nvmComplete
  have lost : (s.advance t).nvmComplete.rst.clockLoss = some c := (congrArg ResetView.clockLoss e).trans hc
  refine ⟨_, congrArg Host.Outcome.next ?_, State.flushReset_restarted e 4 causeClockLoss⟩
  simp [State.nvmEnd, lost, ho]

/-- Brown-out of a node that runs: a reset without flush (R371). -/
theorem exec_brownOut_running (run : (s.advance t).running = true) : ∃ u, exec (.brownOut t) s = .next u ∧ u.rst.cause = 3 ∧
    u.pwr.state = .starting ∧ u.log.slots = s.log.slots ∧ u.log.pails = [] ∧
    u.log.unflushed = (if s.log.pails = [] then s.log.unflushed else some (s.log.unflushed.getD 0 + s.log.pails.length)) ∧
    u.cfg.copy0 = s.cfg.copy0 ∧ u.cfg.copy1 = s.cfg.copy1 ∧ u.bkp = (s.advance t).bkp := by
  have awake : s.pwr.state ≠ .holdup := by
    intro h; simp [State.running, h] at run
  obtain ⟨b, x, cut⟩ := (s.advance t).cutRunning_changes
  refine ⟨(s.advance t).coldReset 3, ?_, ?_⟩
  · exact congrArg Host.Outcome.next ((if_neg awake).trans (State.whenRunning_of_running run _))
  · rw [State.coldReset, cut]
    exact ⟨rfl, rfl, rfl, rfl, s.log.kept_unflushed, rfl, rfl, rfl⟩

/-- Brown-out of a node without power or held in reset. -/
theorem exec_brownOut_of_not_running (off : (s.advance t).running = false) (h : s.pwr.state ≠ .holdup) :
    exec (.brownOut t) s = .next (s.advance t) :=
  congrArg Host.Outcome.next ((if_neg h).trans (State.whenRunning_of_not_running off _))

/-- HOLD below 6.0 V in `HOLDUP`: the node starts anew where VSHIP is back, else it goes down; pails that were not flushed are
lost and counted (R363, R391). -/
theorem exec_brownOut_holdup (h : s.pwr.state = .holdup) : ∃ u, exec (.brownOut t) s = .next u ∧
    u.pwr.state = (if s.pwr.vshipOn then .starting else .backup) ∧ u.log.slots = s.log.slots ∧ u.log.pails = [] ∧
    (s.pwr.vshipOn = true → u.rst.cause = if s.pwr.holdup = .running then 0x403 else 0x603) ∧
    (s.pwr.holdup = .running → s.log.pails ≠ [] → u.log.unflushed = some (s.log.unflushed.getD 0 + s.log.pails.length)) := by
  have broken : exec (.brownOut t) s = .next (s.advance t).holdupBroken := congrArg Host.Outcome.next (if_pos h)
  refine ⟨_, broken, ?_⟩
  by_cases run : s.pwr.holdup = .running
  · obtain ⟨c, x, e⟩ := State.holdupBroken_of_running (s := s.advance t) run
    rw [e, if_pos run]
    exact ⟨State.startOrGoDown_state _ _ _, State.startOrGoDown_slots _ _ _, State.startOrGoDown_pails _ _ _,
      fun on => State.startOrGoDown_cause _ _ _ on, fun _ full => (State.startOrGoDown_unflushed _ _).trans (if_neg full)⟩
  · rw [State.holdupBroken_of_flushed (s := s.advance t) run, if_neg run]
    exact ⟨State.startOrGoDown_state _ _ _, State.startOrGoDown_slots _ _ _, State.startOrGoDown_pails _ _ _,
      fun on => State.startOrGoDown_cause _ _ _ on, fun h => absurd h run⟩

/-- `RESET_N` already low. -/
theorem exec_resetN_low (h : s.rst.low = true) : exec (.resetN t) s = .next (s.advance t) :=
  congrArg Host.Outcome.next (if_pos h)

/-- `RESET_N` released at a node that it holds: the start-up timeline runs from now (R474). -/
theorem exec_resetNRelease_held (h : s.rst.held = true) : exec (.resetNRelease t) s = .next { s.advance t with
    rst := { s.rst with low := false, held := false, endAt := (s.advance t).clk.now }
    pwr := { s.pwr with startAt := (s.advance t).clk.now } } :=
  congrArg Host.Outcome.next (if_pos h)

/-- `RESET_N` released at a node that it does not hold. -/
theorem exec_resetNRelease_free (h : s.rst.held = false) :
    exec (.resetNRelease t) s = .next { s.advance t with rst := { s.rst with low := false } } :=
  congrArg Host.Outcome.next (if_neg (by simp [h]))

/-- `SYS_RESET` with its word answers and commands the reset (R459). -/
theorem exec_sysReset_word {tag : Nat} {f : Flight} (he : Executes s tag 0x0104 f) (word : u32At f.req 16 = 0x54455352) :
    exec (.sysReset t tag) s = .next ((s.acting t).ok f []).commandedReset.takeNext := by
  refine congrArg Host.Outcome.next ((State.withCur_executes he).trans ?_)
  rw [if_neg (not_not_intro word)]

/-- `SYS_RESET` with another word is refused. -/
theorem exec_sysReset_refused {tag : Nat} {f : Flight} (he : Executes s tag 0x0104 f) (word : u32At f.req 16 ≠ 0x54455352) :
    exec (.sysReset t tag) s = .next ((s.acting t).complete f .badField 16 []).takeNext := by
  refine congrArg Host.Outcome.next ((State.withCur_executes he).trans ?_)
  rw [if_pos word, State.refuse_eq (by decide)]

/-- The tick takes a commanded reset that is ready (R459). -/
theorem exec_frameTick_resetReady (x : TickIn) (run : s.frame.running = true)
    (ready : (s.advance s.frame.nextTick).resetReady = true) :
    exec (.frameTick x) s = .next ((s.advance s.frame.nextTick).flushReset 6 0) :=
  congrArg Host.Outcome.next ((if_pos run).trans (if_pos ready))

end

/-- The state in which a commanded reset waits (R459). -/
def State.resetAsked (s : State) : State :=
  let w := (s.sendGoingDown 2).driveCell true
  { w with rst := { w.rst with dueAt := some w.clk.now } }

theorem State.commandedReset_eq (s : State) : s.commandedReset = s.resetAsked.resetDue := rfl

theorem State.resetView_resetAsked (s : State) : s.resetAsked.resetView = s.resetView :=
  (State.resetView_driveCell _ true).trans (s.resetView_sendGoingDown 2)

/-- Settles O25: each row is one of the two resets on a state that keeps the view of the one it found. A flush that takes no time
(log 18), the clock loss that waits (log 93) and the waits of a commanded reset (log 109) are the model's choices. -/
theorem flushedResets : Obligations.FlushedResets := by
  intro s t
  dsimp only
  refine ⟨?_, fun i hi off => exec_reset_of_not_running hi off, fun off h => exec_brownOut_of_not_running off h,
    fun run => exec_brownOut_running run, fun h => exec_brownOut_holdup h, fun o run ho hr => exec_clockLoss_waits run ho hr, ?_,
    fun h => exec_resetN_low h, fun h => exec_resetNRelease_held h, fun h => exec_resetNRelease_free h, ?_,
    fun d hd cell sent => State.resetReady_of_due hd cell sent, fun x run ready => exec_frameTick_resetReady x run ready,
    fun tag f he word => exec_sysReset_refused he word⟩
  · intro x hx run high free
    have restarted : ∃ u, exec x.1 s = .next u ∧ Restarted (s.advance t) u x.2 := by
      simp only [List.mem_cons, List.not_mem_nil, or_false] at hx
      obtain rfl | rfl | rfl | rfl := hx
      · exact exec_resetN_restarted run high
      · exact exec_internalWatchdog_restarted run
      · exact exec_lockstepMismatch_restarted run
      · exact exec_clockLoss_restarted run (free rfl)
    obtain ⟨u, hu, r⟩ := restarted
    exact ⟨u, hu, r.cause, r.state, r.stage, r.frame, r.host, r.pails, r.unflushed, r.draft, r.commit, r.bkp, r.clk, r.held, r.pending⟩
  · intro o c hc ho
    obtain ⟨u, hu, r⟩ := exec_nvmOperationComplete_clockLoss (t := t) hc ho
    exact ⟨u, hu, r.cause, r.state, r.pails, r.unflushed⟩
  · intro tag f he word
    have asked : exec (.sysReset t tag) s = .next ((s.acting t).ok f []).resetAsked.resetDue.takeNext := exec_sysReset_word he word
    refine ⟨fun waits => ?_, fun ready => ?_⟩
    · exact asked.trans (congrArg (fun u : State => Host.Outcome.next u.takeNext) (State.resetDue_of_not_ready waits))
    · have e : ((s.acting t).ok f []).resetAsked.resetView = (s.advance t).resetView :=
        (State.resetView_resetAsked _).trans ((s.acting t).resetView_ok f [])
      have r := State.flushReset_restarted e 6 0
      refine ⟨_, asked.trans (congrArg (fun u : State => Host.Outcome.next u.takeNext) (State.resetDue_of_ready ready)), ?_⟩
      rw [State.flushReset_takeNext]
      exact ⟨r.cause, r.state, r.pails, r.host, r.bkp⟩

end Sys2Proof.Machine
end

section
/-!
PROOFS. The power of a bank, its links and its watchdog (R13, R105, R122, R123, Tables 04.12 and 05.4).
-/

namespace Sys2Proof.Machine

open Sys2Proof

/-! ## A step on every unit of a group -/

/-- A property that each step carries on to the next count holds after all of them. -/
theorem State.each_induction {f : State → Nat → State} (p : Nat → State → Prop) {s : State} (n : Nat) (base : p 0 s)
    (next : ∀ k u, p k u → p (k + 1) (f u k)) : p n (s.each n f) := by
  induction n with
  | zero => exact base
  | succ n ih =>
    have e : s.each (n + 1) f = f (s.each n f) n := by
      simp only [State.each, List.range_succ, List.foldl_append, List.foldl_cons, List.foldl_nil]
    rw [e]
    exact next n _ ih

/-- What each step leaves is left by all of them. -/
theorem State.each_keeps {β : Type} {f : State → Nat → State} (p : State → β) (h : ∀ u k, p (f u k) = p u) (s : State) (n : Nat) :
    p (s.each n f) = p s :=
  State.each_induction (fun _ u => p u = p s) n rfl (fun k u hu => (h u k).trans hu)

/-! ## What the operations on a bank leave -/

/-- The bits of a link frame reach channels only. -/
theorem State.frameIn_banks (s : State) (b : Nat) (body : List Byte) : (s.frameIn b body).banks = s.banks := by
  unfold State.frameIn
  split
  · rfl
  · exact State.each_keeps State.banks (fun u k => u.modChan_banks (8 * b + k) _) s 8

@[simp] theorem State.out_modChan (s : State) (n m : Nat) (f : ChanSt → ChanSt) : (s.modChan n f).out m = s.out m := rfl

@[simp] theorem State.out_modBank (s : State) (b m : Nat) (f : BankSt → BankSt) : (s.modBank b f).out m = s.out m := rfl

/-- A transaction of the modem cut off changes neither banks nor outputs. -/
theorem State.fskAbort_banks (s : State) (b : Nat) (sel : Nat → Bool) : (s.fskAbort b sel).banks = s.banks := by
  unfold State.fskAbort
  repeat' split
  · exact State.complete_banks _ _ _ _ _
  all_goals rfl

theorem State.fskAbort_outs (s : State) (b : Nat) (sel : Nat → Bool) : (s.fskAbort b sel).outs = s.outs := by
  unfold State.fskAbort
  repeat' split
  · exact State.complete_outs _ _ _ _ _
  all_goals rfl

/-- Two changes of a bank that agree on what it is are the same change. -/
theorem State.modBank_congr {s : State} {b : Nat} {f g : BankSt → BankSt} (h : f (s.bank b) = g (s.bank b)) :
    s.modBank b f = s.modBank b g := by
  unfold State.modBank
  rw [modAt_congr {} (fun _ => h)]

/-- A bank that goes down takes the state given, its supply and its generator off; the banks change in nothing else (R105). -/
theorem State.bankDown_banks (s : State) (b : Nat) (p : BankPower) :
    ∃ f : BankSt → BankSt, (s.bankDown b p).banks = (s.modBank b f).banks ∧
      ∀ k, (f k).power = p ∧ (f k).supplyOn = false ∧ (f k).insul.gen = 0 :=
  ⟨_, (State.fskAbort_banks _ _ _).trans
      (State.each_keeps State.banks (fun _ _ => (State.modChan_banks _ _ _).trans (State.modOut_banks _ _ _)) _ 8),
    fun _ => ⟨rfl, rfl, rfl⟩⟩

/-- A step that switches off one output of a bank after another switches them all off. -/
theorem State.out_each_off {f : State → Nat → State} {b : Nat} (length : ∀ u k, (f u k).outs.length = u.outs.length)
    (self : ∀ u k, 8 * b + k < u.outs.length → ((f u k).out (8 * b + k)).drive = .off)
    (others : ∀ u k n, 8 * b + k ≠ n → (f u k).out n = u.out n) (s : State) (m : Nat) :
    (s.each m f).outs.length = s.outs.length ∧
      ∀ j < m, 8 * b + j < s.outs.length → ((s.each m f).out (8 * b + j)).drive = .off := by
  refine State.each_induction
    (fun k u => u.outs.length = s.outs.length ∧ ∀ j < k, 8 * b + j < s.outs.length → (u.out (8 * b + j)).drive = .off)
    m ⟨rfl, fun j hj => absurd hj (Nat.not_lt_zero j)⟩ ?_
  rintro k u ⟨len, off⟩
  refine ⟨(length u k).trans len, fun i hi hn => ?_⟩
  obtain rfl | hne := Decidable.em (i = k)
  · exact self u i (len ▸ hn)
  · rw [others u k _ (by omega)]
    exact off i (by omega) hn

/-- The drivers of a bank that goes down are off (R105). -/
theorem State.out_bankDown (s : State) (b : Nat) (p : BankPower) {j : Nat} (hj : j < 8) (hn : 8 * b + j < s.outs.length) :
    ((s.bankDown b p).out (8 * b + j)).drive = .off := by
  have aborted : ∀ u : State, (u.fskAbort b (fun _ => true)).out (8 * b + j) = u.out (8 * b + j) := fun u => by
    simp only [State.out, State.fskAbort_outs]
  unfold State.bankDown; dsimp only
  rw [aborted]
  refine (State.out_each_off ?_ (fun u k h => ?_) (fun u k n h => ?_) (s.modBank b _) 8).2 j hj (by rwa [State.modBank_outs])
  · intro u k; simp only [State.modChan_outs, State.modOut_length]
  · rw [State.out_modChan, State.out_modOut_self _ h]
  · rw [State.out_modChan, State.out_modOut_ne _ h]

/-- `n` lost link frames of a bank replaced by the bits of the last valid one, and counted (R123). -/
def State.lostFrames (s : State) (b n : Nat) : State :=
  (s.each n (fun u _ => u.frameIn b (u.bank b).lastBits)).modBank b (fun k =>
    { k with lost := k.lost + n, lostAt := (List.replicate n s.clk.now ++ k.lostAt).take 2 })

/-- `LINK_ERR` follows the count, or is not due yet (Table 05.4). -/
theorem State.linkLost_cases (s : State) (b n : Nat) : s.linkLost b n = s.lostFrames b n ∨
    s.linkLost b n = ((s.lostFrames b n).modBank b (fun k => { k with lost := 0, errLogged := some s.clk.now })).logBank b 0x0302 4
      ((s.lostFrames b n).bank b).lost 0 :=
  (Classical.em _).imp (fun quiet => if_pos quiet) (fun due => if_neg due)

theorem State.lostFrames_length (s : State) (b n : Nat) : (s.lostFrames b n).banks.length = s.banks.length :=
  (State.modBank_length _ _ _).trans
    (congrArg List.length (State.each_keeps State.banks (fun u _ => u.frameIn_banks b _) s n))

theorem State.bank_lostFrames {s : State} {b : Nat} (n : Nat) (h : b < s.banks.length) : (s.lostFrames b n).bank b =
    { s.bank b with lost := (s.bank b).lost + n, lostAt := (List.replicate n s.clk.now ++ (s.bank b).lostAt).take 2 } := by
  have banks : (s.each n (fun u _ => u.frameIn b (u.bank b).lastBits)).banks = s.banks :=
    State.each_keeps State.banks (fun u _ => u.frameIn_banks b _) s n
  rw [State.lostFrames, State.bank_modBank_self _ (by rw [banks]; exact h), State.bank, banks]; rfl

/-- Lost link frames change of their bank the counts and when they were lost (R123). -/
theorem State.bank_linkLost {s : State} {b : Nat} (n : Nat) (h : b < s.banks.length) : ∃ l e, (s.linkLost b n).bank b =
    { s.bank b with lost := l, errLogged := e, lostAt := (List.replicate n s.clk.now ++ (s.bank b).lostAt).take 2 } := by
  obtain e | e := s.linkLost_cases b n
  · exact ⟨_, (s.bank b).errLogged, by rw [e, State.bank_lostFrames n h]⟩
  · refine ⟨0, some s.clk.now, ?_⟩
    have logged : (s.linkLost b n).bank b =
        ((s.lostFrames b n).modBank b (fun k => { k with lost := 0, errLogged := some s.clk.now })).bank b := by rw [e]; rfl
    rw [logged, State.bank_modBank_self _ (by rw [State.lostFrames_length]; exact h), State.bank_lostFrames n h]

/-! ## Causes -/

/-- The fault of the self-test is one of a bank that starts (R105). -/
theorem State.faultDue_selfTest (s : State) (b : Nat) : s.faultDue b 1 = true ↔ (s.bank b).power = .starting := by
  simp [State.faultDue]

/-- A lane that is down for 10 ms is a fault (R123). -/
theorem State.faultDue_link {s : State} {b d : Nat} (h : (s.bank b).downSince = some d) :
    s.faultDue b 3 = true ↔ d + 10000000 ≤ s.clk.now := by
  simp only [State.faultDue, h, Machine.held, decide_eq_true_eq]
  exact Iff.rfl

/-- The watchdog of a powered bank is due 2 ms after its last valid frame, and 2 ms after two frame periods without a new command
block (R13). -/
theorem State.watchdogDue_iff {s : State} {b : Nat} (h : (s.bank b).powered = true) : s.watchdogDue b = true ↔
    (s.bank b).lastDown + 2000000 ≤ s.clk.now ∨ (s.bank b).lastBlock + 2 * periodOf s.frame.profile + 2000000 ≤ s.clk.now := by
  simp only [State.watchdogDue, h, Bool.true_and, Bool.or_eq_true, decide_eq_true_eq]
  exact Iff.rfl

/-! ## The watchdog -/

/-- The watchdog trips its bank (R13). -/
theorem State.bank_watchdogTrip {s : State} {b : Nat} (h : b < s.banks.length) : ((s.watchdogTrip b).bank b).tripped = true := by
  have banks : (s.watchdogTrip b).banks = (s.modBank b (fun k => { k with tripped := true })).banks := by
    unfold State.watchdogTrip; dsimp only
    rw [State.fskAbort_banks]
    refine State.each_keeps State.banks (fun u k => ?_) _ 8
    split
    · exact u.modOut_banks _ _
    · rfl
  rw [State.bank, banks]
  exact congrArg BankSt.tripped (State.bank_modBank_self _ h)

/-- It touches the outputs of its own bank only (R13). -/
theorem State.out_watchdogTrip {s : State} {b n : Nat} (h : n / 8 ≠ b) : (s.watchdogTrip b).out n = s.out n := by
  have aborted : ∀ u : State, (u.fskAbort b (fun _ => true)).out n = u.out n := fun u => by
    simp only [State.out, State.fskAbort_outs]
  unfold State.watchdogTrip; dsimp only
  rw [aborted]
  refine (State.each_induction (fun k u => k ≤ 8 → u.out n = s.out n) 8 (fun _ => s.out_modBank b n _) ?_) (Nat.le_refl 8)
  intro k u hu hk
  split
  · exact (State.out_modOut_ne _ (by omega)).trans (hu (by omega))
  · exact hu (by omega)

/-! ## Link frames -/

section

variable {s : State} {b : Nat}

/-- A bank without power, or a lost line clock, has no link frames (R17, R105). -/
theorem State.downFrame_of_off (f : DownFrame) (h : (s.bank b).powered = false ∨ s.rst.clockLoss ≠ none) : s.downFrame b f = s := by
  refine if_pos ?_
  obtain h | h := h <;> simp [h, Option.isSome_iff_ne_none]

theorem State.upFrame_of_off (f : UpFrame) (h : (s.bank b).powered = false ∨ s.rst.clockLoss ≠ none) : s.upFrame b f = s := by
  refine if_pos ?_
  obtain h | h := h <;> simp [h, Option.isSome_iff_ne_none]

variable (on : (s.bank b).powered = true) (clock : s.rst.clockLoss = none)

include on clock

/-- A valid frame that ends no command block (R122). -/
theorem State.downFrame_without_block {f : DownFrame} (err : f.err = false) (seq : f.seq = ((s.bank b).downSeq + 1) % 256)
    (crc : f.crc = linkCrc f.seq f.body) (open_ : f.block = none) : s.downFrame b f = s.modBank b (fun k =>
      { k with downSeq := f.seq, lastDown := s.clk.now, tripped := k.tripped && !f.reconfig, blockOpen := k.blockOpen || f.begins }) := by
  have low : f.seq % 256 = f.seq := by rw [seq, Nat.mod_mod]
  simp [State.downFrame, on, clock, err, ← seq, crc, open_, low]

/-- A valid frame that ends a new command block (R122). -/
theorem State.downFrame_new_block {f : DownFrame} {q : Nat} (run : s.frameHalted = false) (err : f.err = false)
    (seq : f.seq = ((s.bank b).downSeq + 1) % 256) (crc : f.crc = linkCrc f.seq f.body) (ends : f.block = some q)
    (begun : (s.bank b).blockOpen = true ∨ f.begins = true) (new : q % 65536 ≠ (s.bank b).blockSeq) :
    s.downFrame b f = s.modBank b (fun k =>
      { k with downSeq := f.seq, lastDown := s.clk.now, tripped := k.tripped && !f.reconfig, blockOpen := false,
               lastBlock := s.clk.now, blockSeq := q % 65536 }) := by
  have low : f.seq % 256 = f.seq := by rw [seq, Nat.mod_mod]
  simp only [State.downFrame, on, clock, err, ← seq, crc, ends, low, run]
  exact State.modBank_congr (by simp [begun, new])

/-- A valid frame that ends a block which does not count: halted frame processors, a block with a lost part, the last sequence
again (R122, R441). -/
theorem State.downFrame_old_block {f : DownFrame} {q : Nat} (err : f.err = false)
    (seq : f.seq = ((s.bank b).downSeq + 1) % 256) (crc : f.crc = linkCrc f.seq f.body) (ends : f.block = some q)
    (old : s.frameHalted = true ∨ (s.bank b).blockOpen = false ∧ f.begins = false ∨ q % 65536 = (s.bank b).blockSeq) :
    s.downFrame b f = s.modBank b (fun k =>
      { k with downSeq := f.seq, lastDown := s.clk.now, tripped := k.tripped && !f.reconfig, blockOpen := false }) := by
  have low : f.seq % 256 = f.seq := by rw [seq, Nat.mod_mod]
  simp only [State.downFrame, on, clock, err, ← seq, crc, ends, low]
  refine State.modBank_congr ?_
  obtain halted | ⟨closed, notBegun⟩ | same := old
  · simp [halted]
  · simp [closed, notBegun]
  · simp [same]

/-- A frame that is not valid is discarded; the next sequence is taken from it (R122, log 151). -/
theorem State.downFrame_invalid {f : DownFrame}
    (bad : f.err = true ∨ f.seq ≠ ((s.bank b).downSeq + 1) % 256 ∨ f.crc ≠ linkCrc f.seq f.body) :
    s.downFrame b f = s.modBank b (fun k => { k with downSeq := f.seq % 256, blockOpen := false }) := by
  have invalid : (!f.err && decide (f.seq = ((s.bank b).downSeq + 1) % 256) && decide (f.crc = linkCrc f.seq f.body)) = false := by
    obtain bad | bad | bad := bad <;> simp [bad]
  simp [State.downFrame, on, clock, invalid]

/-- A valid frame in sequence: its bits and its housekeeping are taken (R123). -/
theorem State.upFrame_valid {f : UpFrame} (err : f.err = false) (seq : f.seq = ((s.bank b).upSeq + 1) % 256)
    (crc : f.crc = linkCrc f.seq f.body) : s.upFrame b f = (s.modBank b (fun k =>
      { k with upSeq := f.seq, lastUp := s.clk.now, lastBits := f.body, house := f.house.getD k.house })).frameIn b f.body := by
  have low : f.seq % 256 = f.seq := by rw [seq, Nat.mod_mod]
  simp [State.upFrame, on, clock, err, ← seq, crc, low]

/-- A valid frame behind a gap: it is lost with the frames that the gap leaves out (R123). -/
theorem State.upFrame_gap {f : UpFrame} (err : f.err = false) (crc : f.crc = linkCrc f.seq f.body) (lt : f.seq < 256)
    (gap : f.seq ≠ ((s.bank b).upSeq + 1) % 256) : s.upFrame b f =
      (s.modBank b (fun k => { k with upSeq := f.seq })).linkLost b ((f.seq + 256 - ((s.bank b).upSeq + 1) % 256) % 256 + 1) := by
  simp [State.upFrame, on, clock, err, crc, Nat.mod_eq_of_lt lt, gap]

/-- A frame with an error or a wrong CRC is lost (R123). -/
theorem State.upFrame_bad {f : UpFrame} (bad : f.err = true ∨ f.crc ≠ linkCrc f.seq f.body) : s.upFrame b f =
    (s.modBank b (fun k => { k with upSeq := ((s.bank b).upSeq + 1) % 256 })).linkLost b 1 := by
  have invalid : (f.err || decide (f.crc ≠ linkCrc f.seq f.body)) = true := by simpa using bad
  simp only [State.upFrame, on, clock, invalid]; rfl

end

/-- Frames lost behind a change of the sequence: their bank keeps its bits, its housekeeping and the instant of its last valid
frame, and notes when they were lost (R123). -/
theorem State.bank_linkLost_upSeq {s : State} {b : Nat} (n q : Nat) (h : b < s.banks.length) :
    let k := s.bank b; let x := ((s.modBank b (fun k => { k with upSeq := q })).linkLost b n).bank b
    x.upSeq = q ∧ x.lastBits = k.lastBits ∧ x.lastUp = k.lastUp ∧ x.house = k.house ∧
      x.lostAt = (List.replicate n s.clk.now ++ k.lostAt).take 2 := by
  obtain ⟨l, e, hx⟩ := State.bank_linkLost (s := s.modBank b (fun k => { k with upSeq := q })) n
    (by rwa [State.modBank_length])
  rw [State.bank_modBank_self _ h] at hx
  dsimp only
  rw [hx]
  exact ⟨rfl, rfl, rfl, rfl, rfl⟩

/-! ## The rows -/

section

variable {s : State} {t b : Nat} (hb : b < 8)

include hb

theorem exec_bankPowerUp : exec (.bankPowerUp t b) s = .next ((s.advance t).bankPowerUp b) := guardUnit_next (decide_eq_true hb)

theorem exec_bankFault (c : Nat) : exec (.bankFault t b c) s = .next ((s.advance t).bankFault b c) :=
  guardUnit_next (decide_eq_true hb)

theorem exec_downstreamLinkFrame (f : DownFrame) : exec (.downstreamLinkFrame t b f) s = .next ((s.advance t).downFrame b f) :=
  guardUnit_next (decide_eq_true hb)

theorem exec_upstreamLinkFrame (f : UpFrame) : exec (.upstreamLinkFrame t b f) s = .next ((s.advance t).upFrame b f) :=
  guardUnit_next (decide_eq_true hb)

theorem exec_linkWatchdog : exec (.linkWatchdog t b) s =
    .next (if (s.advance t).watchdogDue b then (s.advance t).watchdogTrip b else s.advance t) :=
  guardUnit_next (decide_eq_true hb)

/-- The transformer of a bank that is off is enabled at its place of start-up (R105, Table 04.12). -/
theorem exec_bankPowerUp_off (len : b < s.banks.length) (off : (s.bank b).power = .off) (start : s.pwr.state = .starting)
    (stage : s.pwr.stage = .restored) : ∃ u, exec (.bankPowerUp t b) s = .next u ∧ (u.bank b).power = .starting ∧
      (u.bank b).since = (s.advance t).clk.now ∧ (u.bank b).lands = (s.bank b).lands ∧ (u.bank b).supplyOn = false ∧
      ∀ c, c ≠ b → u.bank c = s.bank c := by
  refine ⟨_, (exec_bankPowerUp hb).trans (congrArg Host.Outcome.next (if_neg ?_)), ?_⟩
  · rintro (h | h | h)
    · exact h off
    · exact h start
    · exact h stage
  · rw [State.bank_modBank_self _ (by exact len)]
    exact ⟨rfl, rfl, rfl, rfl, fun c hc => State.bank_modBank_ne _ hc.symm⟩

/-- Elsewhere nothing happens. -/
theorem exec_bankPowerUp_refused
    (h : (s.bank b).power ≠ .off ∨ s.pwr.state ≠ .starting ∨ s.pwr.stage ≠ .restored) :
    exec (.bankPowerUp t b) s = .next (s.advance t) :=
  (exec_bankPowerUp hb).trans (congrArg Host.Outcome.next (if_pos h))

/-- The self-test of a bank that starts passes (R105). -/
theorem exec_bankSelfTest_starting (start : (s.bank b).power = .starting) : exec (.bankSelfTest t b) s = .next
    ((s.advance t).modBank b (fun k => { k with power := .tested, aligned := true, lastUp := (s.advance t).clk.now })) :=
  (guardUnit_next (decide_eq_true hb)).trans (congrArg Host.Outcome.next (State.modBank_congr (if_pos start)))

/-- A powered bank with a cause of failure fails: its supply, its generator and its drivers go off (R105, R123). -/
theorem exec_bankFault_due {c : Nat} (len : b < s.banks.length) (on : (s.bank b).powered = true)
    (due : (s.advance t).faultDue b c = true) : ∃ u, exec (.bankFault t b c) s = .next u ∧ (u.bank b).power = .failed ∧
      (u.bank b).supplyOn = false ∧ (u.bank b).insul.gen = 0 ∧
      (∀ j < 8, 8 * b + j < s.outs.length → (u.out (8 * b + j)).drive = .off) ∧ ∀ c, c ≠ b → u.bank c = s.bank c := by
  have fails : exec (.bankFault t b c) s = .next (((s.advance t).bankDown b .failed).logBank b 0x0301 6 c 0) := by
    refine (exec_bankFault hb c).trans (congrArg Host.Outcome.next (if_neg ?_))
    simp only [due, Bool.not_true, Bool.or_false, Bool.not_eq_true, Bool.not_eq_false']
    exact on
  obtain ⟨g, banks, down⟩ := (s.advance t).bankDown_banks b .failed
  have bank : ∀ n, (((s.advance t).bankDown b .failed).logBank b 0x0301 6 c 0).bank n = ((s.advance t).modBank b g).bank n :=
    fun n => congrArg (fun l : List BankSt => l.getD n {}) banks
  obtain ⟨power, supply, generator⟩ := down (s.bank b)
  refine ⟨_, fails, ?_⟩
  rw [bank, State.bank_modBank_self g (by exact len)]
  exact ⟨power, supply, generator, fun j hj hn => (s.advance t).out_bankDown b .failed hj hn,
    fun n hn => (bank n).trans (State.bank_modBank_ne g hn.symm)⟩

/-- A bank without power, or without the cause, does not fail. -/
theorem exec_bankFault_refused {c : Nat} (h : (s.bank b).powered = false ∨ (s.advance t).faultDue b c = false) :
    exec (.bankFault t b c) s = .next (s.advance t) := by
  refine (exec_bankFault hb c).trans (congrArg Host.Outcome.next (if_pos ?_))
  simp only [Bool.or_eq_true, Bool.not_eq_true']
  exact h

/-- The lane of a bank without a valid frame for 100 µs is down (Table 05.4). -/
theorem exec_linkDown_due (up : (s.bank b).power = .up) (aligned : (s.bank b).aligned = true)
    (quiet : (s.bank b).lastUp + 100000 ≤ (s.advance t).clk.now) : exec (.linkDown t b) s = .next
      (((s.advance t).modBank b (fun k => { k with aligned := false, downSince := some (s.advance t).clk.now })).logBank
        b 0x0303 6 0 0) := by
  refine (guardUnit_next (decide_eq_true hb)).trans (congrArg Host.Outcome.next (if_pos ?_))
  simp only [Bool.and_eq_true, decide_eq_true_eq]
  exact ⟨⟨up, aligned⟩, quiet⟩

/-- A lane down for longer than 10 ms does not come back (R123). -/
theorem exec_linkUp_late {d : Nat} (down : (s.bank b).downSince = some d) (late : d + 10000000 < (s.advance t).clk.now) :
    exec (.linkUp t b) s = .next (s.advance t) := by
  refine (guardUnit_next (decide_eq_true hb)).trans (congrArg Host.Outcome.next ?_)
  have down' : ((s.advance t).bank b).downSince = some d := down
  rw [down']
  exact if_pos late

/-- A lane that realigns within 10 ms: the filters of its bank restart, and the outage is logged (Table 05.4). -/
theorem exec_linkUp_back {d : Nat} (down : (s.bank b).downSince = some d) (soon : (s.advance t).clk.now ≤ d + 10000000) :
    exec (.linkUp t b) s = .next ((((s.advance t).modBank b (fun k =>
      { k with aligned := true, downSince := none, lastUp := (s.advance t).clk.now, lostAt := [] })).restartBank b).logBank
        b 0x0304 4 (((s.advance t).clk.now - d) / 1000) 0) := by
  refine (guardUnit_next (decide_eq_true hb)).trans (congrArg Host.Outcome.next ?_)
  have down' : ((s.advance t).bank b).downSince = some d := down
  rw [down']
  exact if_neg (Nat.not_lt.2 soon)

/-- The link watchdog of a powered bank acts when it is due (R13). -/
theorem exec_linkWatchdog_due (len : b < s.banks.length) (due : (s.advance t).watchdogDue b = true) :
    ∃ u, exec (.linkWatchdog t b) s = .next u ∧ (u.bank b).tripped = true ∧ ∀ n, n / 8 ≠ b → u.out n = s.out n :=
  ⟨_, (exec_linkWatchdog hb).trans (congrArg Host.Outcome.next (if_pos due)), State.bank_watchdogTrip (by exact len),
    fun _ hn => State.out_watchdogTrip hn⟩

/-- It waits while it is not due (R13). -/
theorem exec_linkWatchdog_early (early : (s.advance t).watchdogDue b = false) :
    exec (.linkWatchdog t b) s = .next (s.advance t) :=
  (exec_linkWatchdog hb).trans (congrArg Host.Outcome.next (if_neg (by simp [early])))

end

/-- Settles O43: each row by what its operation does to the bank, in the state that time has run on to. That the next sequence is
taken from a frame that is not valid is the model's choice (log 151). -/
theorem bankLinks : Obligations.BankLinks := by
  intro s t b hb len
  dsimp only
  have down : ∀ {f u}, (s.advance t).downFrame b f = u → exec (.downstreamLinkFrame t b f) s = .next u :=
    fun h => (exec_downstreamLinkFrame hb _).trans (congrArg Host.Outcome.next h)
  have up : ∀ {f u}, (s.advance t).upFrame b f = u → exec (.upstreamLinkFrame t b f) s = .next u :=
    fun h => (exec_upstreamLinkFrame hb _).trans (congrArg Host.Outcome.next h)
  refine ⟨fun off start stage => exec_bankPowerUp_off hb len off start stage, fun h => exec_bankPowerUp_refused hb h,
    fun start => exec_bankSelfTest_starting hb start, fun c on due => exec_bankFault_due hb len on due,
    fun c h => exec_bankFault_refused hb h, (s.advance t).faultDue_selfTest b, fun d h => State.faultDue_link (s := s.advance t) h,
    fun f h => down (State.downFrame_of_off (s := s.advance t) f h), fun f h => up (State.upFrame_of_off (s := s.advance t) f h),
    fun f on clock err seq crc open_ => down (State.downFrame_without_block (s := s.advance t) on clock err seq crc open_),
    fun f q on clock run err seq crc ends begun new =>
      down (State.downFrame_new_block (s := s.advance t) on clock run err seq crc ends begun new),
    fun f q on clock err seq crc ends old => down (State.downFrame_old_block (s := s.advance t) on clock err seq crc ends old),
    fun f on clock bad => down (State.downFrame_invalid (s := s.advance t) on clock bad),
    fun f on clock err seq crc => up (State.upFrame_valid (s := s.advance t) on clock err seq crc),
    fun f on clock err crc lt gap => ⟨_, up (State.upFrame_gap (s := s.advance t) on clock err crc lt gap), ?_⟩,
    fun f on clock bad => ⟨_, up (State.upFrame_bad (s := s.advance t) on clock bad), ?_⟩,
    fun on aligned quiet => exec_linkDown_due hb on aligned quiet, fun d h late => exec_linkUp_late hb h late,
    fun d h soon => exec_linkUp_back hb h soon,
    fun on due => exec_linkWatchdog_due hb len ((State.watchdogDue_iff (s := s.advance t) on).2 due),
    fun on frames blocks => exec_linkWatchdog_early hb ?_⟩
  · exact State.bank_linkLost_upSeq (s := s.advance t) _ _ len
  · exact (State.bank_linkLost_upSeq (s := s.advance t) 1 _ len).2
  · rw [Bool.eq_false_iff, Ne, State.watchdogDue_iff (s := s.advance t) on]
    exact fun h => h.elim (Nat.not_le.2 frames) (Nat.not_le.2 blocks)

end Sys2Proof.Machine
end

section
/-!
PROOFS. Requests of the culvert engine: the response and the completion bit (R62 to R64), the order in which they are taken (R65, R66).
-/

namespace Sys2Proof.Machine

open Sys2Proof

/-! ## The response slot (Table 03.12) -/

@[simp] theorem length_padTo (n : Nat) (b : List Byte) : (padTo n b).length = n := by
  simp only [padTo, zeros, List.length_append, List.length_take, List.length_replicate]; omega

/-- A response fills its slot (R62). -/
@[simp] theorem length_respBytes (req : List Byte) (st : Status) (d : Nat) (p : List Byte) : (respBytes req st d p).length = 256 :=
  length_padTo 256 _

/-! ## Completion (R63, R64) -/

/-- The response slots with the response of request `f` in its slot (R62). -/
def State.respond (s : State) (f : Flight) (st : Status) (d : Nat) (p : List Byte) : Mem :=
  s.host.rsp.writeList (256 * f.id) (respBytes f.req st d p)

section

variable (s : State) {f : Flight} (st : Status) (d : Nat) (p : List Byte)

/-- A host tag: its slot and its completion bit. -/
theorem State.complete_host (h : f.id < 240) : s.complete f st d p =
    { s with host := { s.host with rsp := s.respond f st d p, done := s.host.done ||| (1#256 <<< f.id) } } := by
  have slot : ¬ 256 ≤ f.id := by omega
  simp only [State.complete, slot, h, if_false, if_true, State.respond]

/-- A remote request: its slot, and what the bus sends. -/
theorem State.complete_remote (h : 240 ≤ f.id) (slot : f.id < 256) :
    ∃ x, s.complete f st d p = { s with host := { s.host with rsp := s.respond f st d p }, bus := x } := by
  simp only [State.complete, Nat.not_le.2 slot, Nat.not_lt.2 h, if_false]
  split
  · exact State.sendCulvert_changes { s with host := { s.host with rsp := s.respond f st d p } } _ _ _ _ _ _ _
  · exact ⟨s.bus, rfl⟩

/-- A mailbox culvert: the mailbox (R436). -/
theorem State.complete_mailbox (h : 256 ≤ f.id) : s.complete f st d p =
    { s with host := { s.host with mbox := s.host.mbox ++ [(f.id - 256, respBytes f.req st d p)] } } := if_pos h

/-- The response slots after a completion (R62). -/
theorem State.complete_rsp : (s.complete f st d p).host.rsp = if f.id < 256 then s.respond f st d p else s.host.rsp := by
  by_cases mailbox : 256 ≤ f.id
  · rw [if_neg (Nat.not_lt.2 mailbox), s.complete_mailbox st d p mailbox]
  · rw [if_pos (Nat.not_le.1 mailbox)]
    by_cases host : f.id < 240
    · rw [s.complete_host st d p host]
    · obtain ⟨x, h⟩ := s.complete_remote st d p (Nat.not_lt.1 host) (Nat.not_le.1 mailbox)
      rw [h]

/-- The completion bits after a completion (R63). -/
theorem State.complete_done : (s.complete f st d p).host.done = if f.id < 240 then s.host.done ||| (1#256 <<< f.id) else s.host.done := by
  by_cases host : f.id < 240
  · rw [if_pos host, s.complete_host st d p host]
  · rw [if_neg host]
    by_cases mailbox : 256 ≤ f.id
    · rw [s.complete_mailbox st d p mailbox]
    · obtain ⟨x, h⟩ := s.complete_remote st d p (Nat.not_lt.1 host) (Nat.not_le.1 mailbox)
      rw [h]

variable {s}

/-- The slot of a completed request holds its response; every other byte stays (R62). -/
theorem State.read_respond (wf : s.host.rsp.wf = true) (a : Nat) : (s.respond f st d p).read a =
    if 256 * f.id ≤ a ∧ a < 256 * f.id + 256 then (respBytes f.req st d p).getD (a - 256 * f.id) 0 else s.host.rsp.read a := by
  rw [State.respond, Mem.read_writeList _ _ _ wf, length_respBytes]

theorem State.complete_rsp_wf (wf : s.host.rsp.wf = true) : (s.complete f st d p).host.rsp.wf = true := by
  rw [State.complete_rsp]
  split
  · exact Mem.wf_writeList _ _ wf
  · exact wf

/-- The 256 bytes of the response as the host reads them (R62). -/
theorem State.complete_slot (wf : s.host.rsp.wf = true) (h : f.id < 256) {i : Nat} (hi : i < 256) :
    (s.complete f st d p).host.rsp.read (256 * f.id + i) = (respBytes f.req st d p).getD i 0 := by
  rw [State.complete_rsp, if_pos h, State.read_respond st d p wf, if_pos (by omega), Nat.add_sub_cancel_left]

/-- Every other slot stays. -/
theorem State.complete_other_slots (wf : s.host.rsp.wf = true) {a : Nat} (h : a < 256 * f.id ∨ 256 * f.id + 256 ≤ a) :
    (s.complete f st d p).host.rsp.read a = s.host.rsp.read a := by
  rw [State.complete_rsp]
  split
  · rw [State.read_respond st d p wf, if_neg (by omega)]
  · rfl

end

/-- Settles O15: what a completion writes, by who sent the request: the host, another node, or the mailbox. -/
theorem completionOfARequest : Obligations.CompletionOfARequest := by
  intro s f st d p wf
  dsimp only
  refine ⟨fun host => ⟨fun i hi => State.complete_slot st d p wf (by omega) hi, ?_, ?_⟩, s.complete_mailbox st d p, fun h => ?_,
    fun a h => State.complete_other_slots st d p wf h, State.complete_rsp_wf st d p wf, s.complete_cfg f st d p,
    s.complete_pwr f st d p, ?_⟩
  · rw [s.complete_host st d p host]
  · rw [s.complete_host st d p host]
  · rw [s.complete_done, if_neg (Nat.not_lt.2 h)]
  · obtain ⟨_, _, _, _, h⟩ := s.complete_changes f st d p
    rw [h]; exact ⟨rfl, rfl⟩

/-! ## Taking requests (R65, R66) -/

/-- A request of the owner touches the draft only (R71). -/
@[simp] theorem State.touchDraft_host (s : State) (f : Flight) : (s.touchDraft f).host = s.host := by
  unfold State.touchDraft
  repeat' split
  all_goals rfl

/-- While a request executes none is taken. -/
theorem State.takeNext_of_executing {s : State} (h : s.host.cur.isSome = true) : s.takeNext = s := by
  obtain ⟨f, hf⟩ := Option.isSome_iff_exists.1 h
  simp only [State.takeNext, hf]

/-- Else they are taken from the queue on. -/
theorem State.takeNext_of_idle {s : State} (h : s.host.cur = none) : s.takeNext = takeFrom s.host.queue s := by
  simp only [State.takeNext, h]

/-- The first request of the queue that passes its checks executes. -/
theorem takeFrom_passed {s : State} {f : Flight} (r : List Flight) (h : (s.touchDraft f).check f = none) :
    takeFrom (f :: r) s = { s.touchDraft f with host := { s.host with queue := r, cur := some f } } := by
  simp only [takeFrom, h, State.touchDraft_host]

/-- One that fails a check completes with its refusal, and the next is looked at. -/
theorem takeFrom_refused {s : State} {f : Flight} (r : List Flight) {x : Refused} (h : (s.touchDraft f).check f = some x) :
    takeFrom (f :: r) s = takeFrom r ((s.touchDraft f).refuse f x) := by
  simp only [takeFrom, h]

/-- Settles O16: the queue is followed from its first request on, each taken or refused by its checks. -/
theorem requestsAreTakenInOrder : Obligations.RequestsAreTakenInOrder := by
  refine ⟨fun s h => State.takeNext_of_executing h, fun s idle empty => ?_, fun s f r idle first pass => ?_,
    fun s f r x idle first fail => ?_⟩
  · rw [State.takeNext_of_idle idle, empty]; rfl
  · rw [State.takeNext_of_idle idle, first, takeFrom_passed r pass]
  · rw [State.takeNext_of_idle idle, first, takeFrom_refused r fail]

/-! ## Rows of opcodes (R65) -/

/-- The row of an opcode runs on the request that executes, then the next request is taken (R65). -/
theorem exec_row {i : Instr} {s : State} {t tag op : Nat} {f : Flight} {g : Flight → State → State}
    (row : exec i s = .next (s.withCur t tag op g)) (h : Executes s tag op f) : exec i s = .next (g f (s.acting t)).takeNext :=
  row.trans (congrArg Host.Outcome.next (State.withCur_executes h))

/-- The row of an opcode by what its operation comes to for the request that executes. -/
theorem exec_row_eq {i : Instr} {s : State} {t tag op : Nat} {f : Flight} {g : Flight → State → State} {u : State}
    (row : exec i s = .next (s.withCur t tag op g)) (h : Executes s tag op f) (e : g f (s.acting t) = u) : exec i s = .next u.takeNext :=
  e ▸ exec_row row h

end Sys2Proof.Machine
end

section
/-!
PROOFS. The opcodes that edit or read one entry of an image (R71, R488, Table 17.11).
-/

namespace Sys2Proof.Machine

open Sys2Proof

/-- Every SET row edits one entry of its table. -/
theorem exec_of_mem_setRows {x : (Nat → Nat → Instr) × Nat × Nat × (Flight → Nat) × Nat} (h : x ∈ setRows) (t tag : Nat) (s : State) :
    exec (x.1 t tag) s =
      .next (s.withCur t tag x.2.1 (fun f s => s.setRow f x.2.2.1 (x.2.2.2.1 f) x.2.2.2.2)) := by
  simp only [setRows, List.mem_cons, List.not_mem_nil, or_false] at h
  obtain rfl | rfl | rfl | rfl | rfl | rfl | rfl | rfl | rfl | rfl | rfl | rfl | rfl | rfl := h <;> rfl

/-- Every GET row reads one entry of its table. -/
theorem exec_of_mem_getRows {x : (Nat → Nat → Instr) × Nat × Nat × (Flight → Nat)} (h : x ∈ getRows) (t tag : Nat) (s : State) :
    exec (x.1 t tag) s = .next (s.withCur t tag x.2.1 (fun f s => s.getRow f x.2.2.1 (x.2.2.2 f))) := by
  simp only [getRows, List.mem_cons, List.not_mem_nil, or_false] at h
  obtain rfl | rfl | rfl | rfl | rfl | rfl | rfl := h <;> rfl

section

variable {s : State} {d : Draft} (draft : s.cfg.draft = some d)
include draft

theorem State.image_draft : s.image true = d.img := by simp only [State.image, draft]

/-- An edit that is done changes the image of the draft and answers `OK` (R488). -/
theorem State.edited_done (f : Flight) (m : Mem) : s.edited f (.done m) =
    ({ s with cfg := { s.cfg with draft := some { d with img := m } } } : State).ok f [] := by
  simp only [State.edited, State.setDraft, draft]

end

/-- An edit that finds a fault in the image changes nothing and names the place (R487, R488). -/
theorem State.edited_fault (s : State) (f : Flight) (e : ImgFault) : s.edited f (.fault e) =
    s.complete f .badField 255 (le16 e.table ++ le16 e.entry ++ le16 e.off) := State.refuse_eq (by decide)

/-- Settles O20: one row for all SET opcodes, one for all GET opcodes; `DISP_WAVE_SET` and `IO_GET` apart. -/
theorem entryOpcodes : Obligations.EntryOpcodes := by
  refine ⟨fun x hx s t tag f d he draft => ?_, fun s t tag f d m he draft done => ?_, fun x hx s t tag f he => ?_,
    fun s t tag f he unit => ?_⟩
  · have draft' : (s.acting t).cfg.draft = some d := draft
    have row : exec (x.1 t tag) s = .next ((s.acting t).edited f
        (setEntry d.img x.2.2.1 (x.2.2.2.1 f) (f.payload.drop x.2.2.2.2) (offEntry x.2.2.1))).takeNext := by
      rw [exec_row (exec_of_mem_setRows hx t tag s) he, State.setRow, State.image_draft draft']
    refine ⟨fun m done => ?_, fun e fault => ?_⟩
    · rw [row, done, State.edited_done draft']
    · rw [row, fault, State.edited_fault]
  · have draft' : (s.acting t).cfg.draft = some d := draft
    rw [exec_row rfl he]
    dsimp only
    rw [State.image_draft draft', done, State.edited_done draft']
    rfl
  · exact exec_row (exec_of_mem_getRows hx t tag s) he
  · have known : ¬ (byteAt f.req 17 = 1 ∧ 7 < byteAt f.req 18) := fun h => Nat.not_lt.2 (unit h.1) h.2
    rw [exec_row rfl he, if_neg known]
    rfl

end Sys2Proof.Machine
end

section
/-!
PROOFS. The host port while it answers: registers, slots, doorbells, completion bits (R56 to R64), and the host watchdog (R82).
-/

namespace Sys2Proof.Machine

open Sys2Proof

/-! ## Words and bytes written (R56, R57) -/

/-- A word in four bytes reads as itself (R3). -/
theorem u32At_le32 {w : Nat} (h : w < 4294967296) : u32At (le32 w) 0 = w := by
  simp only [u32At, u16At, byteAt, le32, le16, List.cons_append, List.nil_append, List.getD_cons_zero, List.getD_cons_succ,
    Nat.zero_add, BitVec.toNat_ofNat, Nat.reducePow]
  omega

/-- A whole word written from the start of a host port register on is written to the register (R57). -/
theorem writeBytes_word {a w : Nat} (align : a % 4 = 0) (reg : a < 0x1000) (word : w < 4294967296) (s : State) :
    writeBytes (le32 w) a none s = s.writeReg a w := by
  have whole : s.writeReg a (u32At (le32 w) 0) = s.writeReg a w := by rw [u32At_le32 word]
  rw [← whole]
  have r1 : a + 1 < 0x1000 := by omega
  have r2 : a + 1 + 1 < 0x1000 := by omega
  have r3 : a + 1 + 1 + 1 < 0x1000 := by omega
  have a1 : (a + 1) % 4 = 1 := by omega
  have a2 : (a + 1 + 1) % 4 = 2 := by omega
  have a3 : (a + 1 + 1 + 1) % 4 = 3 := by omega
  simp [writeBytes, le32, le16, reg, align, r1, r2, r3, a1, a2, a3]

/-- A byte written to a request slot (R62). -/
theorem writeBytes_request {a : Nat} (lo : 0x10000 ≤ a) (hi : a < 0x20000) (b : Byte) (acc : Option (List Byte)) (s : State) :
    writeBytes [b] a acc s = { s with host := { s.host with req := s.host.req.write (a - 0x10000) b } } := by
  simp only [writeBytes, Nat.not_lt.2 (Nat.le_trans (by decide) lo : 0x1000 ≤ a),
    Nat.not_lt.2 (Nat.le_trans (by decide) lo : 0x1100 ≤ a), lo, hi, and_self, if_true, if_false]

/-- A byte written beyond the request slots is an irregular transaction (R56). -/
theorem writeBytes_readOnly {a : Nat} (lo : 0x20000 ≤ a) (b : Byte) (acc : Option (List Byte)) (s : State) :
    writeBytes [b] a acc s = s.cause 9 := by
  simp only [writeBytes, Nat.not_lt.2 (Nat.le_trans (by decide) lo : 0x1000 ≤ a),
    Nat.not_lt.2 (Nat.le_trans (by decide) lo : 0x1100 ≤ a), Nat.not_lt.2 lo, and_false, if_false, State.spiErr]

/-! ## Doorbells and completion bits (R63, Tables 03.9 and 03.14) -/

section

variable {s : State} {tag : Nat}

/-- The doorbell of a FREE tag: its slot is copied into a request, its response shows PENDING. -/
theorem State.doorbell_free (host : tag < 240) (ready : s.host.ready = true) (idle : s.inFlight tag = false)
    (free : s.host.done.getLsbD tag = false) : s.doorbell tag =
      ({ s with host := { s.host with rsp := s.host.rsp.write (256 * tag + 12) 1 } } : State).submit (s.slotRequest tag) := by
  have taken : ¬ (240 ≤ tag ∨ s.host.ready = false ∨ s.inFlight tag = true ∨ s.host.done.getLsbD tag = true) := by
    simp [host, ready, idle, free]
  exact if_neg taken

/-- The doorbell of any other tag is refused. -/
theorem State.doorbell_refused
    (h : 240 ≤ tag ∨ s.host.ready = false ∨ s.inFlight tag = true ∨ s.host.done.getLsbD tag = true) :
    s.doorbell tag = s.cause 8 := if_pos h

/-- A 1 written to the completion bit of a tag clears that bit and no other. -/
theorem State.getLsbD_clearDone (h : tag < 256) {i : Nat} (hi : i < 256) :
    (s.clearDone (tag % 256 / 32) (2 ^ (tag % 32))).host.done.getLsbD i = (s.host.done.getLsbD i && decide (i ≠ tag)) := by
  have place : tag % 32 + 32 * (tag % 256 / 32) = tag := by omega
  simp only [State.clearDone, ← Nat.pow_add, place, BitVec.getLsbD_and, BitVec.getLsbD_not, BitVec.getLsbD_ofNat,
    Nat.testBit_two_pow, hi, decide_true, Bool.true_and, ne_comm (a := i), decide_not]

end

/-! ## The watchdog (R82, Table 03.26) -/

section

variable {s : State} {v : Nat}

/-- A valid kick restarts the timeout and toggles EXPECT. -/
theorem State.kick_valid (on : s.wdogMs ≠ 0) (valid : v = if s.host.wdog.expect then 0xA5 else 0x5A) : s.kick v =
    { s with host := { s.host with wdog := { running := true, expect := !s.host.wdog.expect, lastKick := s.clk.now } } } := by
  simp only [State.kick, on, ← valid, if_false, if_true]

/-- Any other value, or a timeout of 0, does nothing. -/
theorem State.kick_ignored (h : s.wdogMs = 0 ∨ v ≠ if s.host.wdog.expect then 0xA5 else 0x5A) : s.kick v = s := by
  obtain off | other := h
  · exact if_pos off
  · simp only [State.kick, other, if_false, ite_self]

/-- Half the timeout has passed: the warning and its cause. -/
theorem State.wdogWarn_due (run : s.host.wdog.running = true) (first : s.host.wdog.warned = false) (on : s.wdogMs ≠ 0)
    (half : 2 * s.host.wdog.lastKick + s.wdogMs * 1000000 ≤ 2 * s.clk.now) : s.wdogWarn =
      { s with host := { s.host with
          wdog := { s.host.wdog with warned := true }, irqStat := s.host.irqStat ||| 64#32 } } := by
  simp only [State.wdogWarn, run, first, on, ms, half, ne_eq, not_false_eq_true, decide_true, Bool.not_false, Bool.and_self, if_true]
  rfl

/-- The warning comes once, and only while the watchdog counts. -/
theorem State.wdogWarn_quiet (h : s.host.wdog.running = false ∨ s.wdogMs = 0 ∨ s.host.wdog.warned = true) : s.wdogWarn = s := by
  unfold State.wdogWarn
  obtain h | h | h := h <;> simp [h]

/-- The whole timeout has passed: the count stops, the expiry sets its cause and is logged, and with action 1 an ARMED node goes to
SAFE at the next tick. -/
theorem State.wdogExpire_due (run : s.host.wdog.running = true) (on : s.wdogMs ≠ 0)
    (late : s.host.wdog.lastKick + s.wdogMs * 1000000 ≤ s.clk.now) :
    s.wdogExpire.host = { s.host with wdog := { s.host.wdog with running := false }, irqStat := s.host.irqStat ||| 128#32 } ∧
    s.wdogExpire.pwr = { s.pwr with safePend := if s.wdogAction = 1 ∧ s.pwr.state = .armed then some 4 else s.pwr.safePend } := by
  have due : (s.host.wdog.running && s.wdogMs ≠ 0 && decide (s.host.wdog.lastKick + ms s.wdogMs ≤ s.clk.now)) = true := by
    simp [run, on, ms, late]
  unfold State.wdogExpire
  rw [if_pos due]
  by_cases act : s.wdogAction = 1 ∧ s.pwr.state = .armed
  · rw [if_pos (by simpa using act), if_pos act]; exact ⟨rfl, rfl⟩
  · rw [if_neg (by simpa using act), if_neg act]; exact ⟨rfl, rfl⟩

/-- It does not expire before, nor while it does not count. -/
theorem State.wdogExpire_early
    (h : s.host.wdog.running = false ∨ s.wdogMs = 0 ∨ s.clk.now < s.host.wdog.lastKick + s.wdogMs * 1000000) :
    s.wdogExpire = s := by
  unfold State.wdogExpire
  obtain h | h | h := h
  · simp [h]
  · simp [h]
  · simp [ms, Nat.not_le.2 h]

end

/-- Settles O29: each row by what the watchdog does in the state that time has run on to. -/
theorem hostWatchdog : Obligations.HostWatchdog := by
  intro s t
  dsimp only
  refine ⟨fun run first on half => congrArg Host.Outcome.next (State.wdogWarn_due (s := s.advance t) run first on half),
    fun run on late => ?_, fun h => congrArg Host.Outcome.next (State.wdogExpire_early (s := s.advance t) h),
    fun h => congrArg Host.Outcome.next (State.wdogWarn_quiet (s := s.advance t) h)⟩
  obtain ⟨host, pwr⟩ := State.wdogExpire_due (s := s.advance t) run on late
  exact ⟨_, rfl, host, pwr⟩

/-! ## The rows of the host port -/

/-- A row of the host port takes its effect while the port answers (R59, R467). -/
theorem exec_of_portUp {i : Instr} {s : State} {t : Nat} {u v : State} (up : (s.advance t).portUp = true)
    (row : exec i s = .next (if (s.advance t).portUp then u else s.advance t)) (h : u = v) : exec i s = .next v := by
  rw [row, if_pos up, h]

/-- Settles O12: each row by what its operation does in the state that time has run on to. -/
theorem hostPortCommands : Obligations.HostPortCommands := by
  intro s t
  dsimp only
  refine ⟨rfl, rfl, fun up => ⟨fun k => exec_of_portUp up rfl rfl,
    fun w hw => exec_of_portUp up rfl (writeBytes_word (by decide) (by decide) hw _),
    fun w hw => exec_of_portUp up rfl (writeBytes_word (by decide) (by decide) hw _),
    fun a b lo hi => exec_of_portUp up rfl (writeBytes_request lo hi b none _),
    fun a b lo => exec_of_portUp up rfl (writeBytes_readOnly lo b none _),
    fun tag host ready idle free => exec_of_portUp up rfl ?_, fun tag valid h => exec_of_portUp up rfl ?_,
    fun tag h => ⟨_, exec_of_portUp up rfl rfl, fun i hi => State.getLsbD_clearDone (s := s.advance t) h hi⟩,
    fun v hv on valid => exec_of_portUp up rfl ?_, fun v hv h => exec_of_portUp up rfl ?_,
    fun free => exec_of_portUp up rfl ?_, exec_of_portUp up rfl rfl, exec_of_portUp up rfl rfl, exec_of_portUp up rfl rfl,
    exec_of_portUp up rfl rfl, exec_of_portUp up rfl rfl, exec_of_portUp up rfl rfl, fun v _ => exec_of_portUp up rfl rfl,
    fun w hw => exec_of_portUp up rfl ?_⟩⟩
  · rw [Nat.mod_eq_of_lt (Nat.lt_trans host (by decide))]
    exact State.doorbell_free host ready idle free
  · rw [Nat.mod_eq_of_lt valid]
    exact State.doorbell_refused h
  · rw [Nat.mod_eq_of_lt hv]
    exact State.kick_valid on valid
  · rw [Nat.mod_eq_of_lt hv]
    exact State.kick_ignored h
  · have none' : (s.advance t).frame.hold = .none := free
    simp only [State.holdReq, none']
  · have off : tst w 31 = false := Nat.testBit_lt_two_pow hw
    simp only [off, BkpSt.setWake, BkpSt.restartWake, Bool.false_and, Bool.false_eq_true, if_false]

end Sys2Proof.Machine
end

section
/-!
PROOFS. The draft of a configuration: opening, reading, loading, storing, discarding, and its timeout (R70, R71, R75, R492).
-/

namespace Sys2Proof.Machine

open Sys2Proof

section

variable {s : State} {f : Flight}

/-! ## Opening (R71) -/

/-- With source 0 the draft is a copy of the committed image. -/
theorem State.cfgOpen_committed (closed : s.cfg.draft = none) (source : byteAt f.req 16 = 0) :
    s.cfgOpen f = (s.openDraft f s.cfg.img).ok f (s.openRsp f) := by
  simp only [State.cfgOpen, closed, source]

/-- With source 2 it is empty. -/
theorem State.cfgOpen_empty (closed : s.cfg.draft = none) (source : byteAt f.req 16 = 2) :
    s.cfgOpen f = (s.openDraft f emptyImage).ok f (s.openRsp f) := by
  simp only [State.cfgOpen, closed, source]

/-- With source 1 it is a copy of an image slot, which the NVM controller reads. -/
theorem State.cfgOpen_slot (closed : s.cfg.draft = none) (source : byteAt f.req 16 = 1) : s.cfgOpen f =
    (((s.openDraft f (s.imageSlot (byteAt f.req 17))).nvmRequest .flashRead [] (byteAt f.req 17)).1).wait f (.nvm s.nvm.nextNum) := by
  simp only [State.cfgOpen, closed, source]
  rfl

/-- One draft at a time: the owner of the open one is named. -/
theorem State.cfgOpen_busy {d : Draft} (draft : s.cfg.draft = some d) : s.cfgOpen f = s.complete f .busy d.owner.code [] := by
  simp only [State.cfgOpen, draft]
  exact State.refuse_eq (by decide)

/-! ## Reading from the NVM controller (R65) -/

/-- A read is served while no operation is under way. -/
theorem State.nvmRead_free (free : s.nvm.running = none) (serve : Flight → State → State) : s.nvmRead f serve = serve f s := by
  simp only [State.nvmRead, free]

/-- Else it waits for the end of the operation. -/
theorem State.nvmRead_busy {o : NvmOp} (busy : s.nvm.running = some o) (serve : Flight → State → State) :
    s.nvmRead f serve = s.wait f (.nvm o.num) := by
  simp only [State.nvmRead, busy]

/-! ## Loading (R492) -/

/-- A byte beyond the image is refused at check step 10 of Table 03.16. -/
theorem State.lateChecks_load_beyond {d : OpDesc} (op : f.opcode = 0x0205) (epoch : f.cfgEpoch = 0xFFFF)
    (beyond : 131072 < u32At f.req 16 + (f.len - 4)) (hd : opDesc 0x0205 = some d) : s.lateChecks d f = some (.badField, 16, []) := by
  obtain rfl : { lenMin := 5, lenMax := 240, states := runStates, draft := .owner } = d := Option.some.inj hd
  simp [State.lateChecks, op, epoch, beyond, badField]

/-! ## Storing (Table 03.18) -/

/-- A request that need not wait for energy, or may, goes on. -/
theorem State.unlessNoWait_go {cost : Nat} (h : s.energyOk cost = true ∨ f.noWait = false) (go : State → State) :
    s.unlessNoWait f cost go = go s := by
  unfold State.unlessNoWait
  obtain h | h := h <;> simp [h]

/-- With NO_WAIT it is refused when the energy is not there. -/
theorem State.unlessNoWait_refused {cost : Nat} (poor : s.energyOk cost = false) (h : f.noWait = true) (go : State → State) :
    s.unlessNoWait f cost go = s.complete f .energyRefused 0 (s.energyPayload cost) := by
  simp [State.unlessNoWait, poor, h]

/-! ## Discarding (R75) -/

theorem State.cfgDiscard_draft (idle : s.cfg.commit = none) :
    s.cfgDiscard f = ({ s with cfg := { s.cfg with draft := none } } : State).ok f [] := by
  simp only [State.cfgDiscard, idle]

/-- A commit that waits for energy is aborted with its draft. -/
theorem State.cfgDiscard_waiting {c : Commit} {x : Nat} (commit : s.cfg.commit = some c) (waits : c.phase = .energy x) :
    s.cfgDiscard f = (({ s with cfg := { s.cfg with commit := none, draft := none } } : State).complete c.fl .aborted 3 []).ok f [] := by
  obtain ⟨fl, phase, img, roles, epoch⟩ := c
  obtain rfl : phase = .energy x := waits
  simp only [State.cfgDiscard, commit]

/-- A commit that has gone on cannot be discarded. -/
theorem State.cfgDiscard_busy {c : Commit} (commit : s.cfg.commit = some c) (gone : ∀ x, c.phase ≠ .energy x) :
    s.cfgDiscard f = s.complete f .busy c.fl.origin.code [] := by
  obtain ⟨fl, phase, img, roles, epoch⟩ := c
  have refused : s.refuse f (.busy, fl.origin.code, []) = s.complete f .busy fl.origin.code [] := State.refuse_eq (by decide)
  cases phase with
  | energy x => exact absurd rfl (gone x)
  | churn _ => simp only [State.cfgDiscard, commit, refused]
  | ready => simp only [State.cfgDiscard, commit, refused]
  | selector _ _ => simp only [State.cfgDiscard, commit, refused]

end

/-! ## The timeout (R71) -/

section

variable {s : State} {t : Nat}

theorem exec_draftTimeout_late {d : Draft} (draft : s.cfg.draft = some d) (idle : s.cfg.commit = none)
    (late : d.lastUse + 60000000000 ≤ (s.advance t).clk.now) : exec (.draftTimeout t) s =
      .next (({ s.advance t with cfg := { s.cfg with draft := none } } : State).logNode 0x0201 3 d.owner.code d.baseEpoch) := by
  have row : execDraftTimeout t s = .next (({ s.advance t with cfg := { s.cfg with draft := none } } : State).logNode 0x0201 3
      d.owner.code d.baseEpoch) := by
    simp only [execDraftTimeout, State.advance_cfg, draft, idle, secs, late, if_true]
  exact row

theorem exec_draftTimeout_quiet (h : s.cfg.draft = none ∨ s.cfg.commit.isSome = true ∨
    ∃ d, s.cfg.draft = some d ∧ (s.advance t).clk.now < d.lastUse + 60000000000) :
    exec (.draftTimeout t) s = .next (s.advance t) := by
  have row : execDraftTimeout t s = .next (s.advance t) := by
    obtain closed | commit | ⟨d, draft, soon⟩ := h
    · simp only [execDraftTimeout, State.advance_cfg, closed]
    · obtain ⟨c, hc⟩ := Option.isSome_iff_exists.1 commit
      cases draft : s.cfg.draft <;> simp only [execDraftTimeout, State.advance_cfg, hc, draft]
    · cases commit : s.cfg.commit with
      | none => simp only [execDraftTimeout, State.advance_cfg, draft, commit, secs, Nat.not_le.2 soon, if_false]
      | some c => simp only [execDraftTimeout, State.advance_cfg, draft, commit]
  exact row

end

/-- Settles O17: each row by what its operation comes to in the state in which the request acts. -/
theorem draftCommands : Obligations.DraftCommands := by
  intro s t tag f
  dsimp only
  refine ⟨fun he => exec_row_eq rfl he rfl,
    fun he closed source => exec_row_eq rfl he (State.cfgOpen_committed (s := s.acting t) closed source),
    fun he closed source => exec_row_eq rfl he (State.cfgOpen_empty (s := s.acting t) closed source),
    fun he closed source => ⟨_, _, exec_row_eq rfl he (State.cfgOpen_slot (s := s.acting t) closed source), ?_, ?_⟩,
    fun d he draft => exec_row_eq rfl he (State.cfgOpen_busy (s := s.acting t) draft),
    fun he free => exec_row_eq rfl he ?_, fun o he source busy => exec_row_eq rfl he ?_,
    fun d he draft _ => exec_row_eq rfl he ?_, fun op epoch beyond d hd => State.lateChecks_load_beyond op epoch beyond hd,
    fun he energy => ⟨((s.acting t).nvmRequest (.storeImage (byteAt f.req 17)) _ _).1,
      exec_row_eq rfl he (State.unlessNoWait_go energy _), (s.acting t).nvmRequest_cfg _ _ _, ?_⟩,
    fun he poor noWait => exec_row_eq rfl he (State.unlessNoWait_refused poor noWait _),
    fun he idle => exec_row_eq rfl he (State.cfgDiscard_draft (s := s.acting t) idle),
    fun c he commit ⟨_, waits⟩ => exec_row_eq rfl he (State.cfgDiscard_waiting (s := s.acting t) commit waits),
    fun c he commit gone => exec_row_eq rfl he (State.cfgDiscard_busy (s := s.acting t) commit gone),
    fun d draft idle late => exec_draftTimeout_late draft idle late, exec_draftTimeout_quiet⟩
  · rw [State.nvmRequest_cfg]; rfl
  · rw [State.nvmRequest_cfg]; rfl
  · split
    · rfl
    · next committed => exact State.nvmRead_free (free.resolve_left committed) _
  · have committed : ¬ byteAt f.req 16 = 1 := by omega
    exact (if_neg committed).trans (State.nvmRead_busy (s := s.acting t) busy _)
  · have draft' : (s.acting t).cfg.draft = some d := draft
    simp only [draft', Option.map_some]
    rfl
  · obtain ⟨o, has, num, kind, data, arg⟩ := (s.acting t).nvmRequest_has _ _ _
    exact ⟨o, has, num, kind, arg, data⟩

end Sys2Proof.Machine
end

section
/-!
PROOFS. The commit up to its churn (R72 to R74, Table 03.21, steps 1 to 6).
-/

namespace Sys2Proof.Machine

open Sys2Proof

section

variable {s : State} {f : Flight} {d : Draft}

/-! ## Steps 1 to 4 -/

/-- Step 1: a draft of another base epoch is discarded. -/
theorem State.cfgCommit_stale (draft : s.cfg.draft = some d) (stale : d.baseEpoch ≠ s.cfg.epoch) : s.cfgCommit f =
    ({ s with cfg := { s.cfg with draft := none } } : State).complete f .epochStale 0 (le16 s.cfg.epoch) := by
  simp only [State.cfgCommit, draft, ne_eq, stale, not_false_eq_true, if_true]
  exact State.refuse_eq (by decide)

/-- Steps 2 to 4: the first failure is the answer. -/
theorem State.cfgCommit_refused {x : Refused} (draft : s.cfg.draft = some d) (base : d.baseEpoch = s.cfg.epoch)
    (fails : s.draftRefusal d.img = some x) : s.cfgCommit f = s.refuse f x := by
  simp only [State.cfgCommit, draft, base, ne_eq, not_true_eq_false, if_false, fails]

/-- A dry run ends there (R74). -/
theorem State.cfgCommit_dryRun (draft : s.cfg.draft = some d) (base : d.baseEpoch = s.cfg.epoch)
    (passes : s.draftRefusal d.img = none) (dry : f.dryRun = true) : s.cfgCommit f = s.ok f (s.dryRunPayload d.img) := by
  simp only [State.cfgCommit, draft, base, ne_eq, not_true_eq_false, if_false, passes, dry, if_true]

/-- A commit that passes goes on to its energy. -/
theorem State.cfgCommit_passed (draft : s.cfg.draft = some d) (base : d.baseEpoch = s.cfg.epoch)
    (passes : s.draftRefusal d.img = none) (wet : f.dryRun = false) : s.cfgCommit f = s.commitEnergy f d.img := by
  simp only [State.cfgCommit, draft, base, ne_eq, not_true_eq_false, if_false, passes, wet, Bool.false_eq_true]

/-! ## Step 5 -/

theorem State.commitEnergy_waits (m : Mem) (poor : s.energyOk s.commitCost = false) (wait : f.noWait = false) :
    s.commitEnergy f m = { s with cfg := { s.cfg with commit := some { fl := f, phase := .energy s.clk.now } } } := by
  simp only [State.commitEnergy, poor, wait, Bool.false_eq_true, if_false, State.setCommit]

theorem State.commitEnergy_refused (m : Mem) (poor : s.energyOk s.commitCost = false) (noWait : f.noWait = true) :
    s.commitEnergy f m = s.complete f .energyRefused 0 (s.energyPayload s.commitCost) := by
  simp only [State.commitEnergy, poor, noWait, Bool.false_eq_true, if_false, if_true]

theorem State.commitEnergy_met (m : Mem) (rich : s.energyOk s.commitCost = true) : s.commitEnergy f m = s.commitChurn f m := if_pos rich

/-! ## Step 6 -/

/-- Epochs are assigned, table 0x00F0 is rebuilt with them (R78), and the churn is asked for. -/
theorem State.commitChurn_cfg (s : State) (f : Flight) (m : Mem) :
    let roles := newRoles s.cfg.roles s.cfg.img m
    let img := rebuildTable m 0xF0 roles.bytes
    (s.commitChurn f m).cfg = { s.cfg with churn := some (img, roles), commit := some {
      fl := f, phase := .churn s.nvm.nextNum, img, roles, epoch := nextEpoch s.cfg.epoch } } := by
  intro roles img
  have kept := ({ s with cfg := { s.cfg with churn := some (img, roles) } } : State).nvmRequest_cfg .commitChurn [] 0
  exact congrArg (fun c : CfgSt => { c with commit := some {
    fl := f, phase := .churn s.nvm.nextNum, img, roles, epoch := nextEpoch s.cfg.epoch } }) kept

end

/-! ## The rows -/

/-- `DRY_RUN` is the row of a `CFG_COMMIT` with its flag set (R74). -/
theorem exec_dryRun {s : State} {tag op : Nat} {f : Flight} (t : Nat) (h : Executes s tag op f) (dry : f.dryRun = true) :
    exec (.dryRun t tag) s = .next (s.withCur t tag 0x0202 (fun f s => s.cfgCommit f)) := by
  have row : execDryRun t tag s = .next (s.withCur t tag 0x0202 (fun f s => s.cfgCommit f)) := by
    simp only [execDryRun, h.1, dry, if_true]
  exact row

/-- A commit that waits for its energy goes on once it finds it (R72, step 5). -/
theorem exec_commitEnergyMet {s : State} {t x : Nat} {c : Commit} {d : Draft} (draft : s.cfg.draft = some d)
    (commit : s.cfg.commit = some c) (waits : c.phase = .energy x) (rich : (s.advance t).energyOk (s.advance t).commitCost = true) :
    exec (.commitEnergyMet t) s = .next ((s.advance t).commitChurn c.fl d.img) := by
  obtain ⟨fl, phase, img, roles, epoch⟩ := c
  obtain rfl : phase = .energy x := waits
  have row : execCommitEnergyMet t s = .next ((s.advance t).commitChurn fl d.img) := by
    simp only [execCommitEnergyMet, State.advance_cfg, commit, draft, rich, if_true]
  exact row

/-- Settles O18: each row by the steps of the procedure in the state in which the request acts. That the rebuilt directory stands at
0x00F0, and its layout, is the model's choice (log 23). -/
theorem commitProcedure : Obligations.CommitProcedure := by
  intro s t tag f d draft
  dsimp only
  have draft' : (s.acting t).cfg.draft = some d := draft
  refine ⟨fun he stale => exec_row_eq rfl he (State.cfgCommit_stale draft' stale),
    fun x he base fails => exec_row_eq rfl he (State.cfgCommit_refused draft' base fails),
    fun he base passes dry => exec_row_eq (exec_dryRun t he dry) he (State.cfgCommit_dryRun draft' base passes dry),
    fun he base passes wet poor wait => exec_row_eq rfl he
      ((State.cfgCommit_passed draft' base passes wet).trans (State.commitEnergy_waits _ poor wait)),
    fun he base passes wet poor noWait => exec_row_eq rfl he
      ((State.cfgCommit_passed draft' base passes wet).trans (State.commitEnergy_refused _ poor noWait)),
    fun he base passes wet rich => ⟨_, _, exec_row_eq rfl he
      ((State.cfgCommit_passed draft' base passes wet).trans (State.commitEnergy_met _ rich)), (s.acting t).commitChurn_cfg f d.img⟩,
    fun c x commit waits rich => ⟨_, _, exec_commitEnergyMet draft commit waits rich, (s.advance t).commitChurn_cfg c.fl d.img⟩⟩

end Sys2Proof.Machine
end

section
/-!
PROOFS. What the application of a configuration leaves to the NVM controller, and the configuration itself (R44, R72, R73).
-/

namespace Sys2Proof.Machine

open Sys2Proof

/-- The parts of the state that hold the configuration: its own record and the NVM controller. -/
def State.stored (s : State) : CfgSt × NvmSt := (s.cfg, s.nvm)

theorem State.stored_modBus (s : State) (f : BusSt → BusSt) : (s.modBus f).stored = s.stored := rfl

theorem State.stored_modDisp (s : State) (f : DispSt → DispSt) : (s.modDisp f).stored = s.stored := rfl

theorem State.stored_modNet (s : State) (f : NetTime → NetTime) : (s.modNet f).stored = s.stored := rfl

theorem State.stored_modEnc (s : State) (k : Nat) (f : EncSt → EncSt) : (s.modEnc k f).stored = s.stored := rfl

theorem State.stored_withEng (s : State) (e : Eng) : ({ s with eng := e } : State).stored = s.stored := rfl

theorem State.stored_withPrev (s : State) (e : Eng) : ({ s with prev := e } : State).stored = s.stored := rfl

/-! ## Channels, outputs, banks -/

theorem State.stored_applyOutput (s : State) (old : Mem) (n : Nat) : (s.applyOutput old n).stored = s.stored := by
  unfold State.applyOutput; dsimp only
  repeat' split
  all_goals rfl

theorem State.stored_burstCheck (s : State) (b : Nat) : (s.burstCheck b).stored = s.stored := by
  unfold State.burstCheck
  repeat' split
  all_goals rfl

theorem State.stored_ampSetup (s : State) (b i : Nat) : (s.ampSetup b i).stored = s.stored := by
  unfold State.ampSetup; dsimp only
  repeat' split
  all_goals rfl

theorem State.stored_applyBank (s : State) (b : Nat) : (s.applyBank b).stored = s.stored := by
  unfold State.applyBank; dsimp only
  split
  · exact (State.stored_ampSetup _ b 1).trans ((State.stored_ampSetup _ b 0).trans (s.stored_burstCheck b))
  · exact s.stored_burstCheck b

/-! ## Encoders -/

theorem State.stored_latchOne (s : State) (k : Nat) : (s.latchOne k).stored = s.stored := by
  unfold State.latchOne; dsimp only
  repeat' split
  all_goals rfl

theorem stored_latchAll (k n : Nat) (s : State) : (latchAll k n s).stored = s.stored := by
  induction n generalizing s with
  | zero => rfl
  | succ n ih => exact (ih _).trans (s.stored_latchOne k)

theorem State.stored_fireCmp (s : State) (k te net : Nat) : (s.fireCmp k te net).stored = s.stored := by
  unfold State.fireCmp; dsimp only
  repeat' split
  all_goals rfl

theorem State.stored_cmpRevert (s : State) (k : Nat) : (s.cmpRevert k).stored = s.stored := by
  unfold State.cmpRevert; dsimp only
  split <;> rfl

theorem State.stored_pulseOne (s : State) (k : Nat) : (s.pulseOne k).stored = s.stored := by
  unfold State.pulseOne
  split
  · rfl
  · exact (State.stored_cmpRevert _ k).trans (s.stored_fireCmp k _ _)

theorem State.stored_settleEnc (s : State) (k : Nat) : (s.settleEnc k).stored = s.stored :=
  (stored_latchAll k _ _).trans (s.stored_pulseOne k)

theorem State.stored_cmpWindow (s : State) (k : Nat) : (s.cmpWindow k).stored = s.stored := by
  unfold State.cmpWindow; dsimp only
  split <;> rfl

theorem State.stored_cmpFromTable (s : State) (k : Nat) : (s.cmpFromTable k).stored = s.stored := by
  unfold State.cmpFromTable; dsimp only
  split
  · exact s.stored_settleEnc k
  · exact (State.stored_cmpWindow _ k).trans (s.stored_settleEnc k)

theorem State.stored_applyEnc (s : State) (old : Mem) (k : Nat) : (s.applyEnc old k).stored = s.stored := by
  unfold State.applyEnc
  extract_lets new s1 s2
  have role : s1.stored = s.stored := by
    unfold s1; split
    · exact (State.stored_modEnc _ k _).trans (s.stored_settleEnc k)
    · rfl
  have unit : s2.stored = s.stored := by
    unfold s2; split
    · exact (State.stored_modEnc _ k _).trans role
    · exact role
  split
  · exact (s2.stored_cmpFromTable k).trans unit
  · exact (s2.stored_cmpWindow k).trans unit

/-! ## The vibration capture, buses, regions, the duty roster -/

theorem State.stored_endWaits (s : State) (sel : WaitKind → Option (Status × Nat × List Byte)) : (s.endWaits sel).stored = s.stored := by
  simp only [State.stored, State.endWaits_cfg, State.endWaits_nvm]

theorem State.stored_applyEdge (s : State) (old : Mem) : (s.applyEdge old).stored = s.stored := rfl

theorem State.stored_applyCal (s : State) (old : Mem) : (s.applyCal old).stored = s.stored := rfl

theorem State.stored_applyVib (s : State) (old : Mem) : (s.applyVib old).stored = s.stored := by
  unfold State.applyVib; dsimp only
  split
  · split
    · exact State.stored_endWaits _ _
    · rfl
  · split
    · exact State.stored_endWaits _ _
    · rfl
  · rfl

theorem State.stored_timeState (s : State) (k : Nat) : (s.timeState k).stored = s.stored := by
  unfold State.timeState; dsimp only
  repeat' split
  all_goals rfl

theorem State.stored_busApply (s : State) (old : Mem) : (s.busApply old).stored = s.stored := by
  unfold State.busApply
  extract_lets entry s1 s2 gone s3
  have controllers : s1.stored = s.stored := by
    refine State.each_keeps State.stored (fun u b => ?_) s 4
    split <;> rfl
  have objects : s3.stored = s.stored := (s2.stored_modBus _).trans ((s1.stored_modBus _).trans controllers)
  split
  · exact (State.stored_timeState _ 3).trans ((s3.stored_modNet _).trans objects)
  · exact objects

theorem State.stored_applyRegion (s : State) (old : Mem) (r : Nat) : (s.applyRegion old r).stored = s.stored := by
  unfold State.applyRegion; dsimp only
  split <;> rfl

theorem State.stored_dutySettle (s : State) (named : Option Nat) : (s.dutySettle named).stored = s.stored := by
  unfold State.dutySettle State.dutyDefault; dsimp only
  repeat' split
  all_goals rfl

/-! ## Every unit -/

/-- No unit that takes a new configuration changes it, nor asks the NVM controller for anything. -/
theorem State.stored_applyUnits (s : State) (old : Mem) : (s.applyUnits old).stored = s.stored := by
  unfold State.applyUnits
  extract_lets s1 s2 s3 s4 s5
  have banks : s1.stored = s.stored := (State.each_keeps State.stored State.stored_applyBank _ 8).trans
    (State.each_keeps State.stored (fun u n => (u.applyInput old n).stored_applyOutput old n) s 64)
  have engines : s2.stored = s.stored := (s1.stored_withEng _).trans banks
  have edge : s3.stored = s.stored := by
    rw [State.stored_applyEdge, State.each_keeps State.stored (fun u k => u.stored_applyEnc old k), engines]
  have regions : s4.stored = s.stored := by
    rw [State.each_keeps State.stored (fun u r => u.stored_applyRegion old r), State.stored_busApply, State.stored_applyCal,
      State.stored_applyVib, edge]
  have roster : s5.stored = s.stored := (State.stored_modDisp _ _).trans ((s4.stored_dutySettle _).trans regions)
  exact (s5.stored_withPrev _).trans roster

theorem State.stored_applyProfile (s : State) : s.applyProfile.stored = s.stored := by
  unfold State.applyProfile; dsimp only
  split
  · rfl
  · refine State.each_keeps State.stored (fun u n => ?_) _ 64
    split <;> rfl

theorem State.stored_wdogExpire (s : State) : s.wdogExpire.stored = s.stored := by
  unfold State.wdogExpire; dsimp only
  repeat' split
  all_goals rfl

theorem State.stored_wdogApply (s : State) : s.wdogApply.stored = s.stored := by
  unfold State.wdogApply; dsimp only
  split
  · rfl
  · exact State.stored_wdogExpire _

/-- The configuration of commit `c` is in force (R72, step 7). -/
def State.inForce (s : State) (c : Commit) : State :=
  { s with cfg := { s.cfg with img := c.img, epoch := c.epoch, roles := c.roles }, frame := { s.frame with cfgApplied := true } }

/-- The state in which the selector of commit `c` is written: the units have taken its configuration. -/
def State.applied (s : State) (c : Commit) : State := ((((s.inForce c).applyUnits s.cfg.img).applyProfile).wdogApply).cause 4

theorem State.applyCommit_eq (s : State) (c : Commit) : s.applyCommit c = (s.applied c).selectorWrite c s.frame.seq := rfl

theorem State.stored_applied (s : State) (c : Commit) : (s.applied c).stored = (s.inForce c).stored := by
  have cause : ∀ u : State, (u.cause 4).stored = u.stored := fun _ => rfl
  rw [State.applied, cause, State.stored_wdogApply, State.stored_applyProfile, State.stored_applyUnits]

theorem State.applied_cfg (s : State) (c : Commit) :
    (s.applied c).cfg = { s.cfg with img := c.img, epoch := c.epoch, roles := c.roles } :=
  (Prod.mk.inj (s.stored_applied c)).1

theorem State.applied_nvm (s : State) (c : Commit) : (s.applied c).nvm = s.nvm := (Prod.mk.inj (s.stored_applied c)).2

/-! ## The selector (R73) -/

/-- The selector goes by the two slots and the copies, not by the configuration in force. -/
theorem CfgSt.select_inForce (x : CfgSt) (img : Mem) (epoch : Nat) (roles : Roles) :
    ({ x with img := img, epoch := epoch, roles := roles } : CfgSt).select epoch =
      { x.select epoch with img := img, epoch := epoch, roles := roles } := by
  have slots : ({ x with img := img, epoch := epoch, roles := roles } : CfgSt).selector = x.selector := rfl
  simp only [CfgSt.select, CfgSt.inactive, slots]
  split <;> rfl

/-- With the controller free the selector is written at once, and the commit is complete (step 8). -/
theorem State.selectorWrite_free {s : State} (free : s.nvm.running = none) (c : Commit) (seq : Nat) :
    (s.selectorWrite c seq).cfg = { s.cfg.select c.epoch with draft := none, commit := none } := by
  simp only [State.selectorWrite, free, State.commitDone, State.ok, State.complete_cfg]

/-- Else it is an operation of its own, which the commit waits for. -/
theorem State.selectorWrite_busy {s : State} {o : NvmOp} (busy : s.nvm.running = some o) (c : Commit) (seq : Nat) :
    (s.selectorWrite c seq).cfg = { s.cfg with commit := some { c with phase := .selector s.nvm.nextNum seq } } := by
  simp only [State.selectorWrite, busy, State.nvmRequest_cfg]
  rfl

end Sys2Proof.Machine
end

section
/-!
PROOFS. The end of a commit: its churn, its application at a tick, its refusal (R28, R44, R45, R72, R73).
-/

namespace Sys2Proof.Machine

open Sys2Proof

/-! ## Requests that wait (R65) -/

/-- `u` is `s` with some of its waits ended: they are answered in the slots and on the bus, no other wait begins. -/
structure WaitsEnded (s u : State) : Prop where
  changes : ∃ h x, u = { s with host := h, bus := x }
  waits : ∀ w ∈ u.host.waits, w ∈ s.host.waits
  wf : s.host.rsp.wf = true → u.host.rsp.wf = true

theorem WaitsEnded.refl (s : State) : WaitsEnded s s := ⟨⟨s.host, s.bus, rfl⟩, fun _ h => h, id⟩

theorem WaitsEnded.trans {s u v : State} (h : WaitsEnded s u) (k : WaitsEnded u v) : WaitsEnded s v := by
  obtain ⟨a, x, rfl⟩ := h.changes
  obtain ⟨b, y, hv⟩ := k.changes
  exact ⟨⟨b, y, hv⟩, fun w hw => h.waits w (k.waits w hw), fun wf => k.wf (h.wf wf)⟩

/-- A completion ends no wait by itself. -/
theorem State.waitsEnded_complete (s : State) (f : Flight) (st : Status) (d : Nat) (p : List Byte) :
    WaitsEnded s (s.complete f st d p) := by
  obtain ⟨r, dn, m, x, h⟩ := s.complete_changes f st d p
  refine ⟨⟨_, x, h⟩, fun w hw => ?_, fun wf => State.complete_rsp_wf st d p wf⟩
  rw [h] at hw
  exact hw

theorem waitsEnded_completeList (sel : WaitKind → Option (Status × Nat × List Byte)) (l : List Wait) (s : State) :
    WaitsEnded s (completeList sel l s) := by
  induction l generalizing s with
  | nil => exact .refl s
  | cons w r ih =>
    simp only [completeList]
    split
    · exact (s.waitsEnded_complete _ _ _ _).trans (ih _)
    · exact ih s

theorem State.waitsEnded_endWaits (s : State) (sel : WaitKind → Option (Status × Nat × List Byte)) : WaitsEnded s (s.endWaits sel) := by
  have chosen : WaitsEnded s { s with host := { s.host with waits := s.host.waits.filter (fun w => (sel w.kind).isNone) } } :=
    ⟨⟨_, s.bus, rfl⟩, fun _ h => (List.mem_filter.1 h).1, id⟩
  exact chosen.trans (waitsEnded_completeList sel _ _)

theorem State.waitsEnded_clearAnswer (s : State) : WaitsEnded s s.clearAnswer := by
  unfold State.clearAnswer
  split
  · exact .refl s
  · split
    · split
      · exact .refl s
      · exact s.waitsEnded_endWaits _
    · exact .refl s

/-- The log churn under way is durable, and a clear that waited for it is answered; nothing else changes. -/
theorem State.logWritten_changes (s : State) : ∃ l, WaitsEnded { s with log := l } s.logWritten :=
  ⟨_, State.waitsEnded_clearAnswer _⟩

/-- No request waits for an operation: its end answers none. -/
theorem State.nvmServe_none {s : State} {o : NvmOp} (h : ∀ w ∈ s.host.waits, w.kind ≠ .nvm o.num) : s.nvmServe o = s := by
  have mine : s.host.waits.filter (fun w => decide (w.kind = .nvm o.num)) = [] :=
    List.filter_eq_nil_iff.2 fun w hw => by simpa using h w hw
  have others : s.host.waits.filter (fun w => !decide (w.kind = .nvm o.num)) = s.host.waits :=
    List.filter_eq_self.2 fun w hw => by simpa using h w hw
  simp only [State.nvmServe, mine, others, List.foldl_nil]

/-! ## The churn (R72, step 6) -/

/-- The state after the churn of a commit: its log churn is durable, the controller is free. -/
def State.churnEnded (s : State) : State := ({ s with nvm := { s.nvm with running := none } } : State).logWritten

theorem State.churnEnded_changes (s : State) : ∃ l, WaitsEnded { s with nvm := { s.nvm with running := none }, log := l } s.churnEnded :=
  State.logWritten_changes { s with nvm := { s.nvm with running := none } }

theorem State.churnEnded_cfg (s : State) : s.churnEnded.cfg = s.cfg := by
  obtain ⟨l, ⟨h, x, e⟩, -, -⟩ := s.churnEnded_changes
  rw [e]

theorem State.churnEnded_rst (s : State) : s.churnEnded.rst = s.rst := by
  obtain ⟨l, ⟨h, x, e⟩, -, -⟩ := s.churnEnded_changes
  rw [e]

theorem State.churnEnded_sec (s : State) : s.churnEnded.sec = s.sec := by
  obtain ⟨l, ⟨h, x, e⟩, -, -⟩ := s.churnEnded_changes
  rw [e]

theorem State.churnEnded_rsp_wf {s : State} (wf : s.host.rsp.wf = true) : s.churnEnded.host.rsp.wf = true := by
  obtain ⟨l, ended⟩ := s.churnEnded_changes
  exact ended.wf wf

/-- A churn that is written changes the configuration record only. -/
theorem State.commitWritten_changes (s : State) (o : NvmOp) : ∃ c, s.commitWritten o = { s with cfg := c } := by
  unfold State.commitWritten; dsimp only
  repeat' split
  all_goals exact ⟨_, rfl⟩

/-- The commit whose churn it was is ready for its tick. -/
theorem State.commitWritten_ready {s : State} {o : NvmOp} {c : Commit} (commit : s.cfg.commit = some c)
    (phase : c.phase = .churn o.num) (churn : s.cfg.churn = some (c.img, c.roles)) : s.commitWritten o =
      { s with cfg := { s.cfg.churned c.img c.roles with churn := none, commit := some { c with phase := .ready } } } := by
  have kept : (s.cfg.churned c.img c.roles).commit = some c := by
    unfold CfgSt.churned
    split <;> exact commit
  simp only [State.commitWritten, churn, kept, phase, if_true, State.setCommit]

section

variable {s : State} {o : NvmOp} (busy : s.nvm.running = some o) (kind : o.kind = .commitChurn)
include busy kind

theorem State.nvmKind_commitChurn : s.nvmKind = some .commitChurn := by simp only [State.nvmKind, busy, Option.map_some, kind]

/-- The churn completes: nobody is answered, and the next operation starts. -/
theorem State.nvmComplete_commitChurn (unasked : ∀ w ∈ s.host.waits, w.kind ≠ .nvm o.num) :
    s.nvmComplete = (s.churnEnded.commitWritten o).nvmStart := by
  have one : o.more = false := by simp only [NvmOp.more, kind]
  have effect : ({ s with nvm := { s.nvm with running := none } } : State).nvmEffect o = s.churnEnded.commitWritten o := by
    simp only [State.nvmEffect, kind, State.churnEnded]
  have answered : (s.churnEnded.commitWritten o).nvmServe o = s.churnEnded.commitWritten o := by
    obtain ⟨l, ended⟩ := s.churnEnded_changes
    obtain ⟨c, written⟩ := s.churnEnded.commitWritten_changes o
    rw [written]
    exact State.nvmServe_none fun w hw => unasked w (ended.waits w hw)
  simp only [State.nvmComplete, busy, one, Bool.false_eq_true, if_false, effect, answered]

/-- It brings no reset while the clock runs and nothing is erased (R17, R425). -/
theorem State.nvmEnd_commitChurn (unasked : ∀ w ∈ s.host.waits, w.kind ≠ .nvm o.num) (erasure : s.sec.erasure = none)
    (clock : s.rst.clockLoss = none) : s.nvmEnd = (s.churnEnded.commitWritten o).nvmStart := by
  have done := State.nvmComplete_commitChurn busy kind unasked
  obtain ⟨c, written⟩ := s.churnEnded.commitWritten_changes o
  have rst : s.nvmComplete.rst = s.rst := by rw [done, State.nvmStart_rst, written]; exact s.churnEnded_rst
  have sec : s.nvmComplete.sec = s.sec := by rw [done, State.nvmStart_sec, written]; exact s.churnEnded_sec
  have ret : s.nvmComplete.returnDone = s.nvmComplete := by simp only [State.returnDone, sec, erasure]
  have end_ : s.nvmEnd = s.nvmComplete := by
    simp only [State.nvmEnd, State.nvmKind_commitChurn busy kind, rst, clock, Option.isSome_none, Bool.false_eq_true, if_false, sec,
      Bool.and_not_self, ret]
  exact end_.trans done

/-- The rows of a commit churn act on the operation under way. -/
theorem State.nvmIf_commitChurn (go : State → State) : s.nvmIf (fun k => decide (k = .commitChurn)) go = go s := by
  simp only [State.nvmIf, State.nvmKind_commitChurn busy kind, decide_true, if_true]

end

section

variable {s : State} {c : Commit} (commit : s.cfg.commit = some c)
include commit

/-- A churn that the hardware fails ends its commit with `HW_FAULT` (Table 03.21, step 6). -/
theorem State.commitFailed_eq : s.commitFailed =
    ((({ s with cfg := { s.cfg with churn := none } } : State).churnEnded.setCommit none).complete c.fl .hwFault 0 []).nvmStart := by
  have kept : ({ s with cfg := { s.cfg with churn := none }, nvm := { s.nvm with running := none } } : State).logWritten.cfg.commit =
      some c := (congrArg CfgSt.commit (State.churnEnded_cfg { s with cfg := { s.cfg with churn := none } })).trans commit
  simp only [State.commitFailed, kept]
  rfl

theorem State.commitFailed_cfg : s.commitFailed.cfg = { s.cfg with churn := none, commit := none } := by
  rw [State.commitFailed_eq commit, State.nvmStart_cfg, State.complete_cfg, State.setCommit_cfg, State.churnEnded_cfg]

theorem State.commitFailed_slot (wf : s.host.rsp.wf = true) (h : c.fl.id < 256) {i : Nat} (hi : i < 256) :
    s.commitFailed.host.rsp.read (256 * c.fl.id + i) = (respBytes c.fl.req .hwFault 0 []).getD i 0 := by
  have wf' : (({ s with cfg := { s.cfg with churn := none } } : State).churnEnded.setCommit none).host.rsp.wf = true :=
    State.churnEnded_rsp_wf wf
  rw [State.commitFailed_eq commit, State.nvmStart_host]
  exact State.complete_slot _ _ _ wf' h hi

end

section

variable {s : State} {t : Nat} {o : NvmOp} (busy : s.nvm.running = some o) (kind : o.kind = .commitChurn)
  (clock : s.rst.clockLoss = none)
include busy kind clock

theorem exec_commitChurn_written {c : Commit} (commit : s.cfg.commit = some c) (phase : c.phase = .churn o.num)
    (churn : s.cfg.churn = some (c.img, c.roles)) (erasure : s.sec.erasure = none)
    (unasked : ∀ w ∈ s.host.waits, w.kind ≠ .nvm o.num) : ∃ u, exec (.commitChurn { t := t, failed := false }) s = .next u ∧
      u.cfg = { s.cfg.churned c.img c.roles with churn := none, commit := some { c with phase := .ready } } := by
  refine ⟨_, congrArg Host.Outcome.next ((State.nvmIf_commitChurn (s := s.advance t) busy kind _).trans
    (State.nvmEnd_commitChurn (s := s.advance t) busy kind unasked erasure clock)), ?_⟩
  have cfg : (s.advance t).churnEnded.cfg = s.cfg := State.churnEnded_cfg _
  rw [State.nvmStart_cfg, State.commitWritten_ready (c := c) (cfg ▸ commit) phase (cfg ▸ churn), cfg]

theorem exec_commitChurn_failed : exec (.commitChurn { t := t, failed := true }) s = .next (s.advance t).commitFailed := by
  have row : exec (.commitChurn { t := t, failed := true }) s =
      .next (if (s.advance t).rst.clockLoss.isSome then (s.advance t).commitFailed.flushReset 4 causeClockLoss
        else (s.advance t).commitFailed) :=
    congrArg Host.Outcome.next (State.nvmIf_commitChurn (s := s.advance t) busy kind _)
  rw [row, State.advance_rst, clock]
  rfl

end

/-! ## The application (R28, R44, R45) -/

section

variable {s : State} {c : Commit} (commit : s.cfg.commit = some c)
include commit

/-- A ready commit applies at a tick on both grids; the outputs act and due objects go out under the old configuration first. -/
theorem State.configTick_ready (ready : c.phase = .ready) (grid : s.commonTick (sysByte c.img 0 1) = true) :
    s.configTick = ((s.outputsAct true []).objFlush).applyCommit c := by
  have applies : s.applyReady = some c := by
    simp only [State.applyReady, commit, ready, decide_true, grid, Bool.and_self, if_true]
  simp only [State.configTick, applies]

/-- After 5 s without energy a commit that waits is refused; no other request waits for energy here (R72). -/
theorem State.energyRefuse_commit {x : Nat} (waits : c.phase = .energy x) (late : x + 5000000000 ≤ s.clk.now)
    (poor : s.energyOk s.commitCost = false) (unasked : s.host.waits = []) (idle : s.nvm.waiting = []) : s.energyRefuse =
      ({ s with cfg := { s.cfg with commit := none } } : State).complete c.fl .energyRefused 0 (s.energyPayload s.commitCost) := by
  obtain ⟨fl, phase, img, roles, epoch⟩ := c
  obtain rfl : phase = .energy x := waits
  have still : ∀ u : State, u.host.waits = [] → ∀ sel, u.endWaits sel = u := by
    intro u hu sel
    simp only [State.endWaits, hu, List.filter_nil, completeList]
    rw [← hu]
  have refused : ((s.setCommit none).complete fl .energyRefused 0 (s.energyPayload s.commitCost)).host.waits = [] := by
    obtain ⟨_, _, _, _, h⟩ := (s.setCommit none).complete_changes fl .energyRefused 0 (s.energyPayload s.commitCost)
    rw [h]
    exact unasked
  have waiting : (s.setCommit none).nvm.waiting = [] := idle
  simp only [State.energyRefuse, commit, secs, late, poor, decide_true, Bool.not_false, Bool.and_self, if_true, still _ refused,
    State.complete_nvm, waiting, List.filter_nil, List.foldl_nil]
  rfl

end

theorem exec_configApplied {s : State} {t : Nat} (due : (s.advance t).tickDue = true) :
    exec (.configApplied t) s = .next (s.advance t).configTick := congrArg Host.Outcome.next (if_pos due)

/-- `PROFILE_CHANGE` is the row of a commit that changes the profile (R29). -/
theorem exec_profileChange {s : State} {t : Nat} {c : Commit} (commit : s.cfg.commit = some c) (due : (s.advance t).tickDue = true)
    (other : sysByte c.img 0 1 ≠ s.frame.profile) : exec (.profileChange t) s = .next (s.advance t).configTick := by
  have row : execProfileChange t s = .next (s.advance t).configTick := by
    simp only [execProfileChange, State.advance_cfg, State.advance_frame, commit, due, ne_eq, other, not_false_eq_true,
      decide_true, Bool.and_self, if_true]
  exact row

/-- Settles O19: the churn by what its end leaves of the configuration, the application by what the units leave to the selector. That
after `HW_FAULT` the pail part stands and the draft stays open is log 90; the selector as an operation of its own when the controller
is busy is the model's choice (log 91). -/
theorem commitCompletes : Obligations.CommitCompletes := by
  intro s t c commit
  dsimp only
  refine ⟨fun o busy kind phase churn erasure clock unasked =>
      exec_commitChurn_written busy kind clock commit phase churn erasure unasked,
    fun o busy kind _ clock _ => ⟨_, exec_commitChurn_failed busy kind clock, State.commitFailed_cfg (s := s.advance t) commit,
      fun i hi host wf => State.commitFailed_slot (s := s.advance t) commit wf (by omega) hi⟩,
    fun due ready grid => (exec_configApplied due).trans
      (congrArg Host.Outcome.next (State.configTick_ready (s := s.advance t) commit ready grid)),
    fun due ready grid other => (exec_profileChange commit due other).trans
      (congrArg Host.Outcome.next (State.configTick_ready (s := s.advance t) commit ready grid)),
    fun free => ⟨_, rfl, ?_⟩, fun o busy => ⟨_, s.nvm.nextNum, rfl, ?_⟩,
    fun x waits late poor unasked idle => congrArg Host.Outcome.next
      (State.energyRefuse_commit (s := s.advance t) commit waits late poor unasked idle)⟩
  · have free' : ((s.advance t).applied c).nvm.running = none := by rw [State.applied_nvm]; exact free
    rw [State.applyCommit_eq, State.selectorWrite_free free', State.applied_cfg, State.advance_cfg, CfgSt.select_inForce]
    exact ⟨rfl, rfl, rfl, rfl, rfl, rfl, rfl⟩
  · have busy' : ((s.advance t).applied c).nvm.running = some o := by rw [State.applied_nvm]; exact busy
    rw [State.applyCommit_eq, State.selectorWrite_busy busy', State.applied_cfg, State.applied_nvm]
    exact ⟨rfl, rfl, rfl, rfl, rfl, rfl, rfl⟩

end Sys2Proof.Machine
end

section
/-!
PROOFS. The calibration, curve, insulation and amplifier opcodes of a channel (R181, R183, Table 06.11).
-/

namespace Sys2Proof.Machine

open Sys2Proof

/-! ## The curve library (R181) -/

section

variable {s : State} {t tag : Nat} {f : Flight}

/-- An edit of the draft replaces its image. -/
theorem State.setDraft_draft {d : Draft} (draft : s.cfg.draft = some d) (m : Mem) :
    s.setDraft m = { s with cfg := { s.cfg with draft := some { d with img := m } } } := by
  simp only [State.setDraft, draft]

/-- A slot that holds a curve: the draft is edited, and the read of the flash completes the request. -/
theorem exec_chanCurveLoad_done {d : Draft} {m : Mem} (he : Executes s tag 0x0307 f) (draft : s.cfg.draft = some d)
    (full : byteAt ((s.acting t).curveSlot (u16At f.req 16)) 0 ≠ 255)
    (done : setKeyed d.img 0x11 (fun x => decide (d.img.u8 x = byteAt f.req 18))
      (le8 (byteAt f.req 18) ++ ((s.acting t).curveSlot (u16At f.req 16)).drop 1) = .done m) :
    exec (.chanCurveLoad t tag) s = .next (((((s.acting t).setDraft m).nvmRequest .flashRead [] (u16At f.req 16)).1).wait f
      (.nvm ((s.acting t).setDraft m).nvm.nextNum)).takeNext := by
  refine exec_row_eq rfl he ((if_neg full).trans ?_)
  rw [State.image_draft (s := s.acting t) draft, done]
  rfl

/-- An empty slot is refused. -/
theorem exec_chanCurveLoad_empty (he : Executes s tag 0x0307 f)
    (empty : byteAt ((s.acting t).curveSlot (u16At f.req 16)) 0 = 255) :
    exec (.chanCurveLoad t tag) s = .next ((s.acting t).complete f .badField 16 []).takeNext :=
  exec_row_eq rfl he ((if_pos empty).trans (State.refuse_eq (by decide)))

/-- A curve that the image has goes to flash, its energy asked for first (R72). -/
theorem exec_chanCurveStore_found {x : Nat} (he : Executes s tag 0x0308 f)
    (found : (imgEntries ((s.acting t).image (byteAt f.req 16 = 1)) 0x11).find?
      (fun x => decide (((s.acting t).image (byteAt f.req 16 = 1)).u8 x = byteAt f.req 17)) = some x) :
    exec (.chanCurveStore t tag) s = .next ((s.acting t).unlessNoWait f 25000 (fun s =>
      ((s.nvmRequest .storeCurve (((s.acting t).image (byteAt f.req 16 = 1)).window x (x + 528)) (u16At f.req 18)).1).wait f
        (.nvm s.nvm.nextNum))).takeNext := by
  refine exec_row_eq rfl he ?_
  dsimp only
  rw [found]
  rfl

end

/-- Settles O37: each row by what its operation comes to in the state in which the request acts. -/
theorem channelOpcodes : Obligations.ChannelOpcodes := by
  intro s t tag f
  dsimp only
  refine ⟨fun he free => exec_row_eq rfl he (State.nvmRead_free (s := s.acting t) free _),
    fun o he busy => exec_row_eq rfl he (State.nvmRead_busy (s := s.acting t) busy _),
    fun he => exec_row_eq rfl he rfl,
    fun he charge => exec_row_eq rfl he (if_neg (not_not_intro charge)),
    fun he other => exec_row_eq rfl he ((if_pos other).trans (State.refuse_eq (by decide))),
    fun d m he draft full done => ?_, fun he empty => exec_chanCurveLoad_empty he empty,
    fun x he energy found => ?_,
    fun x he poor noWait found => (exec_chanCurveStore_found he found).trans
      (congrArg (fun u : State => Host.Outcome.next u.takeNext) (State.unlessNoWait_refused poor noWait _))⟩
  · have row := exec_chanCurveLoad_done he draft full done
    rw [State.setDraft_draft (s := s.acting t) draft] at row
    obtain ⟨o, has, num, kind, -, -⟩ := State.nvmRequest_has _ .flashRead [] (u16At f.req 16)
    exact ⟨_, row, State.nvmRequest_cfg _ _ _ _, o, has, num, kind⟩
  · obtain ⟨o, has, num, kind, data, arg⟩ := (s.acting t).nvmRequest_has .storeCurve
      (((s.acting t).image (byteAt f.req 16 = 1)).window x (x + 528)) (u16At f.req 18)
    exact ⟨_, (exec_chanCurveStore_found he found).trans
        (congrArg (fun u : State => Host.Outcome.next u.takeNext) (State.unlessNoWait_go energy _)),
      State.nvmRequest_cfg _ _ _ _, o, has, num, kind, arg, data⟩

end Sys2Proof.Machine
end

section
/-!
PROOFS. The insulation monitor (R111 to R119, Tables 04.21 and 04.22).
-/

namespace Sys2Proof.Machine

open Sys2Proof

/-! ## The generator (R111, R112) -/

section

variable {s : State} {b : Nat}

theorem State.generatorEdge_idle
    (h : s.bankUp b = false ∨ (s.insul b).hullRef = true ∨ s.pwr.state = .standby ∨ s.pwr.state = .holdup) :
    s.generatorEdge b = s := by
  refine if_pos ?_
  obtain h | h | h | h := h <;> simp [h]

variable (up : s.bankUp b = true) (free : (s.insul b).hullRef = false) (awake : s.pwr.state ≠ .standby)
  (fed : s.pwr.state ≠ .holdup)

include up free awake fed

/-- The generator of a fed bank that is up and has no hull-referenced channel starts in a first half only, and then follows the
halves. -/
theorem State.generatorEdge_of_measuring : s.generatorEdge b =
    if (s.insul b).gen = 0 then
      (if decide (s.insulPhase b < secs 2) then s.modInsul b (fun i =>
        { i with gen := 1, ran := false, published := false, spans := false, periods := 0, streak := 0, lowCap := none,
                 stepRun := 0, stepSlot := 0 }) else s)
    else s.modInsul b (fun i => { i with gen := if decide (s.insulPhase b < secs 2) then 1 else 2 }) :=
  if_neg (by simp [up, free, awake, fed])

theorem State.generatorEdge_start (off : (s.insul b).gen = 0) (first : s.insulPhase b < 2000000000) :
    s.generatorEdge b = s.modBank b (fun k =>
      { k with insul := { s.insul b with gen := 1, ran := false, published := false, spans := false, periods := 0, streak := 0,
                                         lowCap := none, stepRun := 0, stepSlot := 0 } }) := by
  rw [State.generatorEdge_of_measuring up free awake fed, if_pos off]
  exact (if_pos (decide_eq_true first)).trans (State.modBank_congr rfl)

theorem State.generatorEdge_wait (off : (s.insul b).gen = 0) (second : 2000000000 ≤ s.insulPhase b) :
    s.generatorEdge b = s := by
  rw [State.generatorEdge_of_measuring up free awake fed, if_pos off]
  exact if_neg (fun first => Nat.not_lt.2 second (of_decide_eq_true first))

theorem State.generatorEdge_alternate (on : (s.insul b).gen ≠ 0) : s.generatorEdge b = s.modBank b (fun k =>
    { k with insul := { s.insul b with gen := if s.insulPhase b < 2000000000 then 1 else 2 } }) := by
  rw [State.generatorEdge_of_measuring up free awake fed, if_neg on]
  simp only [decide_eq_true_eq]
  exact State.modBank_congr rfl

end

/-! ## A period (R113, R114) -/

theorem F32.toRat_zero : (0 : F32).toRat = 0 := by
  have neg : (0 : F32).neg? = false := by decide
  have expo : (0 : F32).expo = 0 := by decide
  have frac : (0 : F32).frac = 0 := by decide
  rw [F32.toRat, neg, expo, frac]
  simp

/-- A maximum with a value that is not negative is not negative. -/
theorem max_not_neg {a : Rat} (pos : 0 ≤ a) (x : Rat) : ¬ max a x < 0 := by
  have branch : max a x = if a ≤ x then x else a := rfl
  rw [branch]
  split
  · next above => exact Rat.not_lt.2 (Rat.le_trans pos above)
  · exact Rat.not_lt.2 pos

section

variable {i : InsulSt} {m : InsulIn}

/-- A period that the generator has not run whole is disturbed. -/
theorem insulDisturbed_of_not_ran (m : InsulIn) (part : i.ran = false) : insulDisturbed i m = true := by
  simp [insulDisturbed, part]

/-- A whole period without a time step, a lost register, a difference between halves or a departure is not disturbed. -/
theorem insulDisturbed_of_quiet (whole : i.ran = true) (steady : i.spans = false) (kept : m.regLost = false) (half : m.half = 0)
    (depart : m.depart = 0) : insulDisturbed i m = false := by
  have zero : ((0 : F32).abs).toRat = 0 := F32.toRat_zero
  have thr : ¬ max ((5 : Rat) / 10000000) ((m.i1.sub m.i2).abs.toRat / 2 * 5 / 100) < 0 :=
    max_not_neg (by decide +kernel) _
  simp only [insulDisturbed, whole, steady, kept, half, depart, zero, thr, decide_false, Bool.not_true, Bool.or_self]

/-- A disturbed period keeps the results that stand (R114). -/
theorem insulPeriod_disturbed (m : InsulIn) (part : i.ran = false) : let p := insulPeriod i m
    p.ran = true ∧ p.disturbed = true ∧ p.count = i.count ∧ p.rBank = i.rBank ∧ p.rCh = i.rCh ∧ p.published = i.published := by
  unfold insulPeriod
  simp only [insulDisturbed_of_not_ran _ part, if_true, Bool.not_true, Bool.or_false, and_self]

/-- The results of a period that is not disturbed replace those that stand (R113, R115). -/
theorem insulPeriod_undisturbed (whole : i.ran = true) (steady : i.spans = false) (kept : m.regLost = false) (half : m.half = 0)
    (depart : m.depart = 0) : let p := insulPeriod i m
    p.disturbed = false ∧ p.published = true ∧ p.count = (i.periods + 1) % 256 ∧
      p.rBank = (capRes ((m.v1.sub m.v2).div (m.i1.sub m.i2))).1 := by
  simp only [insulPeriod, insulDisturbed_of_quiet whole steady, kept, half, depart, ite_self, Bool.false_eq_true, if_false,
    Bool.not_false, Bool.or_true, true_and]
  exact ⟨rfl, rfl⟩

end

/-! ## The monitor at the end of a period -/

section

variable {s : State} {b : Nat}

/-- The events of located channels change no bank (Table 04.21). -/
theorem State.logEarth_banks (s : State) (b : Nat) (old new : InsulSt) : (s.logEarth b old new).banks = s.banks := by
  refine State.each_keeps State.banks (fun u k => ?_) s 8
  dsimp only
  repeat' split
  all_goals rfl

/-- The hull check judges every bank, and changes of its monitor only the judgement and the validity (Table 04.22). -/
theorem State.insul_hullCheck (len : b < s.banks.length) :
    ∃ o v, s.hullCheck.insul b = { s.insul b with hullOpen := o, valid := v } := by
  obtain ⟨now, hnow⟩ : ∃ now : Bool, s.hullCheck.banks = s.banks.map (fun k =>
      { k with insul := { k.insul with hullOpen := now, valid := k.insul.valid && !now } }) := by
    unfold State.hullCheck; dsimp only
    split <;> exact ⟨_, rfl⟩
  refine ⟨now, (s.insul b).valid && !now, ?_⟩
  simp only [State.insul, State.bank, hnow, List.getD_eq_getElem?_getD, List.getElem?_map, List.getElem?_eq_getElem len,
    Option.map_some, Option.getD_some]

/-- A generator that is off, or a hull-referenced bank, has no periods. -/
theorem State.insulEnd_idle (m : InsulIn) (h : (s.insul b).gen = 0 ∨ (s.insul b).hullRef = true) : s.insulEnd b m = s := if_pos h

/-- The end of a period leaves the monitor as the period has it, but for the hull check (R113, R118). -/
theorem State.insul_insulEnd (m : InsulIn) (len : b < s.banks.length) (on : (s.insul b).gen ≠ 0)
    (free : (s.insul b).hullRef = false) :
    ∃ o v, (s.insulEnd b m).insul b = { insulPeriod (s.insul b) m with hullOpen := o, valid := v } := by
  obtain ⟨w, ends, banks⟩ : ∃ w : State, s.insulEnd b m = w.hullCheck ∧
      w.banks = (s.modInsul b (fun _ => insulPeriod (s.insul b) m)).banks := by
    refine ⟨_, if_neg (by simp [on, free]), ?_⟩
    refine Eq.trans ?_ (State.logEarth_banks _ b (s.insul b) (insulPeriod (s.insul b) m))
    repeat' split
    all_goals rfl
  have period : w.insul b = insulPeriod (s.insul b) m := by
    have self := State.bank_modBank_self (fun k => { k with insul := insulPeriod (s.insul b) m }) len
    rw [State.insul, State.bank, banks]
    exact congrArg BankSt.insul self
  rw [ends, ← period]
  refine State.insul_hullCheck ?_
  rw [banks]
  exact (State.modBank_length _ _ _).symm ▸ len

/-- The end of a disturbed period: the results stand (R114). -/
theorem State.insulEnd_disturbed (m : InsulIn) (len : b < s.banks.length) (on : (s.insul b).gen ≠ 0)
    (free : (s.insul b).hullRef = false) (part : (s.insul b).ran = false) :
    let i := s.insul b; let p := (s.insulEnd b m).insul b
    p.ran = true ∧ p.disturbed = true ∧ p.count = i.count ∧ p.rBank = i.rBank ∧ p.rCh = i.rCh ∧ p.published = i.published := by
  obtain ⟨o, v, ends⟩ := State.insul_insulEnd m len on free
  dsimp only
  rw [ends]
  exact insulPeriod_disturbed m part

/-- The end of a period that is not disturbed: its results replace them (R113, R115). -/
theorem State.insulEnd_undisturbed {m : InsulIn} (len : b < s.banks.length) (on : (s.insul b).gen ≠ 0)
    (free : (s.insul b).hullRef = false) (whole : (s.insul b).ran = true) (steady : (s.insul b).spans = false)
    (kept : m.regLost = false) (half : m.half = 0) (depart : m.depart = 0) :
    let p := (s.insulEnd b m).insul b
    p.disturbed = false ∧ p.published = true ∧ p.count = ((s.insul b).periods + 1) % 256 ∧
      p.rBank = (capRes ((m.v1.sub m.v2).div (m.i1.sub m.i2))).1 := by
  obtain ⟨o, v, ends⟩ := State.insul_insulEnd m len on free
  dsimp only
  rw [ends]
  exact insulPeriod_undisturbed whole steady kept half depart

end

/-! ## The rows -/

section

variable {s : State} {t b : Nat} (hb : b < 8)

include hb

theorem exec_generatorEdge : exec (.generatorEdge t b) s = .next ((s.advance t).generatorEdge b) :=
  guardUnit_next (decide_eq_true hb)

theorem exec_insulationPeriodEnd (m : InsulIn) :
    exec (.insulationPeriodEnd t b m) s = .next ((s.advance t).insulEnd b m) := guardUnit_next (decide_eq_true hb)

end

/-- Settles O45: the generator by its edges, the period by what its end leaves of the monitor. What `capRes` reports of a
resistance that is negative or not finite is the model's choice (log 149). -/
theorem insulationMonitor : Obligations.InsulationMonitor := by
  intro s t b hb len
  dsimp only
  have edge : ∀ {u}, (s.advance t).generatorEdge b = u → exec (.generatorEdge t b) s = .next u :=
    fun h => (exec_generatorEdge hb).trans (congrArg Host.Outcome.next h)
  refine ⟨fun up free awake fed off first => edge (State.generatorEdge_start (s := s.advance t) up free awake fed off first),
    fun up free awake fed off second => edge (State.generatorEdge_wait (s := s.advance t) up free awake fed off second),
    fun up free awake fed on => edge (State.generatorEdge_alternate (s := s.advance t) up free awake fed on),
    fun h => edge (State.generatorEdge_idle (s := s.advance t) h),
    fun m h => (exec_insulationPeriodEnd hb m).trans (congrArg Host.Outcome.next (State.insulEnd_idle (s := s.advance t) m h)),
    fun m on free part => ⟨_, exec_insulationPeriodEnd hb m, State.insulEnd_disturbed (s := s.advance t) m len on free part⟩,
    fun m on free whole steady kept _ half depart => ⟨_, exec_insulationPeriodEnd hb m,
      State.insulEnd_undisturbed (s := s.advance t) len on free whole steady kept half depart⟩⟩

end Sys2Proof.Machine
end

section
/-!
PROOFS. The field side of a bank: lands, the bridge's sense lands, charge amplifiers, IEPE bias, the adaptive supply, bursts
(R90, R91, R97, R100 to R102, R107, R126).
-/

namespace Sys2Proof.Machine

open Sys2Proof

/-! ## Lands (R107) -/

/-- A transaction of the modem cut off leaves the log. -/
theorem State.fskAbort_log (s : State) (b : Nat) (sel : Nat → Bool) : (s.fskAbort b sel).log = s.log := by
  unfold State.fskAbort
  repeat' split
  · exact State.complete_log _ _ _ _ _
  all_goals rfl

/-- Land `l` of bank `b` noted beyond its range; the sources of a bank that is up are connected anew (R94, R107). -/
def State.landNoted (s : State) (b l : Nat) (above : Bool) : State :=
  let s1 := s.modBank b (fun k => { k with lands := modAt k.lands l (fun _ => { beyond := true, above }) })
  if s1.bankUp b then s1.bankSetup b else s1

section

variable {s : State} {b l : Nat} (above : Bool)

/-- To connect the sources changes the banks only. -/
theorem State.landNoted_changes (s : State) (b l : Nat) (above : Bool) : ∃ x, s.landNoted b l above = { s with banks := x } := by
  unfold State.landNoted; dsimp only
  split <;> exact ⟨_, rfl⟩

/-- A bank whose sources are connected anew keeps its lands, and its sources are those that its lands let through. -/
theorem State.bank_bankSetup (len : b < s.banks.length) :
    ((s.bankSetup b).bank b).lands = (s.bank b).lands ∧ ((s.bankSetup b).bank b).iex = (List.range 4).map (s.iexOf b) := by
  rw [State.bankSetup, State.bank_modBank_self _ len]
  exact ⟨rfl, rfl⟩

/-- A source drives only a land that stands within its range (Table 04.13). -/
theorem State.landOk_of_iexOf {i : Nat} {y : Nat × Nat} (h : s.iexOf b i = some y) : s.landOk b y.2 = true :=
  (Option.filter_eq_some_iff.1 h).2

variable (len : b < s.banks.length)

include len

theorem State.landNoted_lands : ((s.landNoted b l above).bank b).lands =
    modAt (s.bank b).lands l (fun _ => { beyond := true, above }) := by
  unfold State.landNoted; dsimp only
  have noted := State.bank_modBank_self (fun k => { k with lands := modAt k.lands l (fun _ => { beyond := true, above }) }) len
  split
  · rw [(State.bank_bankSetup (by rwa [State.modBank_length])).1, noted]
  · rw [noted]

/-- No source of a bank that is up drives the land. -/
theorem State.landNoted_iex (land : l < (s.bank b).lands.length) (up : s.bankUp b = true) :
    ∀ x ∈ ((s.landNoted b l above).bank b).iex, ∀ y, x = some y → y.2 ≠ l := by
  rintro x hx y rfl same
  let s1 := s.modBank b (fun k => { k with lands := modAt k.lands l (fun _ => { beyond := true, above }) })
  have noted : s1.bank b = { s.bank b with lands := modAt (s.bank b).lands l (fun _ => { beyond := true, above }) } :=
    State.bank_modBank_self _ len
  have up1 : s1.bankUp b = true := by rw [State.bankUp, noted]; exact up
  rw [show s.landNoted b l above = s1.bankSetup b from if_pos up1,
    (State.bank_bankSetup (by rwa [State.modBank_length])).2, List.mem_map] at hx
  obtain ⟨i, -, hi⟩ := hx
  have ok := State.landOk_of_iexOf hi
  rw [State.landOk, noted, same, getD_modAt_self _ _ land] at ok
  cases ok

end

section

variable {s : State} {b l : Nat} {above : Bool} (within : ((s.bank b).lands.getD l {}).beyond = false) (own : l < 16)

include within own

/-- A land of a channel that is no output goes beyond its range: the event, and the transaction of the channel cut off. -/
theorem State.landBeyond_input (fn : isOut (s.func (8 * b + l / 2)) = false) : s.landBeyond b l above =
    ((s.landNoted b l above).logChan (8 * b + l / 2) 0x0305 5 (l % 2) (bit above)).fskAbort b
      (fun c => decide (c = 8 * b + l / 2)) := by
  simp only [State.landBeyond, within, own, fn, Bool.false_eq_true, if_false, if_true, decide_true, Bool.and_false]
  rfl

/-- A land of an output goes beyond its range: its driver goes off as well. -/
theorem State.landBeyond_output (fn : isOut (s.func (8 * b + l / 2)) = true) : s.landBeyond b l above =
    (((s.landNoted b l above).logChan (8 * b + l / 2) 0x0305 5 (l % 2) (bit above)).modOut (8 * b + l / 2) (fun o =>
      if o.drive.working && !o.drive.ramping then { o with drive := .landOff } else o)).fskAbort b
        (fun c => decide (c = 8 * b + l / 2)) := by
  simp only [State.landBeyond, within, own, fn, Bool.false_eq_true, if_false, if_true, decide_true, Bool.and_true]
  rfl

end

/-- A land beyond its range already goes nowhere. -/
theorem State.landBeyond_again {s : State} {b l : Nat} (above : Bool) (beyond : ((s.bank b).lands.getD l {}).beyond = true) :
    s.landBeyond b l above = s := if_pos beyond

/-- A land within its range does not come back. -/
theorem State.landBack_within {s : State} {b l : Nat} (within : ((s.bank b).lands.getD l {}).beyond = false) :
    s.landBack b l = s := if_pos (by rw [within]; rfl)

/-- Filters that restart change the channels only. -/
theorem State.restartChans_changes (l : List Nat) (s : State) :
    ∃ x, l.foldl (fun s n => if isInput (s.func n) then s.restartChan n else s) s = { s with chans := x } := by
  induction l generalizing s with
  | nil => exact ⟨s.chans, rfl⟩
  | cons n r ih =>
    rw [List.foldl_cons]
    split
    · obtain ⟨x, h⟩ := ih (s.restartChan n)
      exact ⟨x, h⟩
    · exact ih s

/-- A land that comes back changes its bank and the channels only. -/
theorem State.landBack_changes {s : State} {b l : Nat} (beyond : ((s.bank b).lands.getD l {}).beyond = true) : ∃ x,
    s.landBack b l = { s.modBank b (fun k => { k with lands := modAt k.lands l (fun _ => {}) }) with chans := x } := by
  obtain ⟨x, h⟩ := State.restartChans_changes (s.landUsers b l)
    (s.modBank b (fun k => { k with lands := modAt k.lands l (fun _ => {}) }))
  exact ⟨x, (if_neg (by rw [beyond]; decide)).trans h⟩

/-- A land beyond its range is one of the lands that the bank has. -/
theorem lt_length_of_beyond {lands : List LandSt} {l : Nat} (beyond : (lands.getD l {}).beyond = true) : l < lands.length := by
  refine Nat.lt_of_not_le (fun outside => ?_)
  have empty : lands.getD l {} = {} := by
    rw [List.getD_eq_getElem?_getD, List.getElem?_eq_none outside, Option.getD_none]
  rw [empty] at beyond
  cases beyond

/-- A land that comes back stands within its range. -/
theorem State.landBack_land {s : State} {b l : Nat} (len : b < s.banks.length)
    (beyond : ((s.bank b).lands.getD l {}).beyond = true) : (((s.landBack b l).bank b).lands.getD l {}).beyond = false := by
  obtain ⟨x, h⟩ := State.landBack_changes beyond
  have back := State.bank_modBank_self (fun k => { k with lands := modAt k.lands l (fun _ => {}) }) len
  rw [h]
  change (((s.modBank b _).bank b).lands.getD l {}).beyond = false
  rw [back, getD_modAt_self _ _ (lt_length_of_beyond beyond)]

/-! ## Charge amplifiers (R100, R101) -/

section

variable {s : State} {b i : Nat}

theorem State.amp_modAmp_self (f : AmpSt → AmpSt) (len : b < s.banks.length) (has : i < (s.bank b).amps.length) :
    (s.modAmp b i f).amp b i = f (s.amp b i) := by
  rw [State.amp, State.modAmp, State.bank_modBank_self _ len]
  exact getD_modAt_self f _ has

/-- The reset of an amplifier changes of it the state only. -/
theorem State.amp_ampReset (len : b < s.banks.length) (has : i < (s.bank b).amps.length) :
    (s.ampReset b i).amp b i = { s.amp b i with state := .resetting (s.clk.now + 2000000) } :=
  State.amp_modAmp_self _ len has

end

section

variable {s : State} {ch : Nat}

/-- The fourth reset within a second: the amplifier is held (R101). -/
theorem State.ampOverload_hold (p : Bool) (busy : (s.amp (ch / 8) (ch % 8 - 6)).state = .measuring)
    (three : ((s.amp (ch / 8) (ch % 8 - 6)).recent s.clk.now).length = 3) : s.ampOverload ch p =
      (s.modAmp (ch / 8) (ch % 8 - 6) (fun x =>
        { x with resets := [], positive := p, state := .holding (s.clk.now + 1000000000) })).logChan ch 0x0306 5 (bit p) 0 := by
  have four : 4 ≤ ((s.amp (ch / 8) (ch % 8 - 6)).recent s.clk.now ++ [s.clk.now]).length := by
    simp [three]
  exact (if_neg (not_not_intro busy)).trans (if_pos four)

/-- Before that it is reset (R100). -/
theorem State.ampOverload_reset (p : Bool) (busy : (s.amp (ch / 8) (ch % 8 - 6)).state = .measuring)
    (few : ((s.amp (ch / 8) (ch % 8 - 6)).recent s.clk.now).length < 3) : s.ampOverload ch p =
      (s.modAmp (ch / 8) (ch % 8 - 6) (fun x =>
        { x with resets := (s.amp (ch / 8) (ch % 8 - 6)).recent s.clk.now ++ [s.clk.now], positive := p })).ampReset
          (ch / 8) (ch % 8 - 6) := by
  have less : ¬ 4 ≤ ((s.amp (ch / 8) (ch % 8 - 6)).recent s.clk.now ++ [s.clk.now]).length := by
    rw [List.length_append, List.length_singleton]; omega
  exact (if_neg (not_not_intro busy)).trans (if_neg less)

/-- A hold that has run ends with a reset (R101). -/
theorem State.holdEnd_due {x : Nat} (hold : (s.amp (ch / 8) (ch % 8 - 6)).state = .holding x) (due : x ≤ s.clk.now) :
    s.holdEnd ch = (s.modAmp (ch / 8) (ch % 8 - 6) (fun x => { x with resets := [] })).ampReset (ch / 8) (ch % 8 - 6) := by
  simp only [State.holdEnd, State.ampEnd, ampOf, hold, due, if_true]

/-- A reset that has run ends with the amplifier at work, or off where it was asked to stop (R100). -/
theorem State.resetEnd_due {x : Nat} (reset : (s.amp (ch / 8) (ch % 8 - 6)).state = .resetting x) (due : x ≤ s.clk.now) :
    s.resetEnd ch = s.modAmp (ch / 8) (ch % 8 - 6) (fun x =>
      if x.stop then { x with state := .off, stop := false } else { x with state := .measuring }) := by
  simp only [State.resetEnd, State.ampEnd, ampOf, reset, due, if_true]

end

/-! ## The rows -/

section

variable {s : State} {t b : Nat}

theorem exec_miswire (hb : b < 8) {l : Nat} (hl : l < 18) (above : Bool) :
    exec (.miswire t b l above) s = .next ((s.advance t).landBeyond b l above) :=
  guardUnit_next (by rw [decide_eq_true hb, decide_eq_true hl]; rfl)

theorem exec_landReturnCheck (hb : b < 8) {l : Nat} (hl : l < 18) :
    exec (.landReturnCheck t b l) s = .next ((s.advance t).landBack b l) :=
  guardUnit_next (by rw [decide_eq_true hb, decide_eq_true hl]; rfl)

/-- A land of a channel that is no output goes beyond its range (R107). -/
theorem exec_miswire_input (hb : b < 8) {l : Nat} (hl : l < 16) (above : Bool) (len : b < s.banks.length)
    (land : l < (s.bank b).lands.length) (within : ((s.bank b).lands.getD l {}).beyond = false)
    (fn : isOut (s.func (8 * b + l / 2)) = false) : ∃ u, exec (.miswire t b l above) s = .next u ∧
      (u.bank b).lands = modAt (s.bank b).lands l (fun _ => { beyond := true, above }) ∧ u.outs = s.outs ∧
      u.log = ((s.advance t).logChan (8 * b + l / 2) 0x0305 5 (l % 2) (if above then 1 else 0)).log ∧
      (s.bankUp b = true → ∀ x ∈ (u.bank b).iex, ∀ y, x = some y → y.2 ≠ l) := by
  let a := s.advance t
  let w := a.landNoted b l above
  obtain ⟨x, hx⟩ : ∃ x, w = { a with banks := x } := a.landNoted_changes b l above
  have moved := State.landBeyond_input (s := a) (above := above) within hl fn
  have bank : ∀ sel, ((w.logChan (8 * b + l / 2) 0x0305 5 (l % 2) (bit above)).fskAbort b sel).bank b = w.bank b := fun sel => by
    rw [State.bank, State.fskAbort_banks]; rfl
  refine ⟨_, exec_miswire hb (by omega) above, ?_⟩
  rw [moved, bank, State.fskAbort_outs, State.fskAbort_log]
  refine ⟨State.landNoted_lands (s := a) above len, ?_, ?_, State.landNoted_iex (s := a) above len land⟩
  · change w.outs = s.outs
    rw [hx]; rfl
  · change (w.logChan _ _ _ _ _).log = _
    rw [hx]; rfl

/-- A land of a working output goes beyond its range (R107). -/
theorem exec_miswire_output (hb : b < 8) {l : Nat} (hl : l < 16) (above : Bool) (len : b < s.banks.length)
    (within : ((s.bank b).lands.getD l {}).beyond = false) (fn : isOut (s.func (8 * b + l / 2)) = true)
    (working : (s.out (8 * b + l / 2)).drive.working = true) (steady : (s.out (8 * b + l / 2)).drive.ramping = false)
    (has : 8 * b + l / 2 < s.outs.length) : ∃ u, exec (.miswire t b l above) s = .next u ∧
      (u.bank b).lands = modAt (s.bank b).lands l (fun _ => { beyond := true, above }) ∧
      (u.out (8 * b + l / 2)).drive = .landOff ∧ ∀ n, n ≠ 8 * b + l / 2 → u.out n = s.out n := by
  let a := s.advance t
  let w := (a.landNoted b l above).logChan (8 * b + l / 2) 0x0305 5 (l % 2) (bit above)
  obtain ⟨x, hx⟩ := a.landNoted_changes b l above
  have outs : w.outs = s.outs := by
    change (a.landNoted b l above).outs = s.outs
    rw [hx]; rfl
  have out : ∀ n, w.out n = s.out n := fun n => by rw [State.out, outs]; rfl
  have bank : ∀ f sel, ((w.modOut (8 * b + l / 2) f).fskAbort b sel).bank b = (a.landNoted b l above).bank b := fun f sel => by
    rw [State.bank, State.fskAbort_banks]; rfl
  have drive : ∀ (f : OutSt → OutSt) sel n,
      ((w.modOut (8 * b + l / 2) f).fskAbort b sel).out n = (w.modOut (8 * b + l / 2) f).out n := fun f sel n => by
    rw [State.out, State.fskAbort_outs]; rfl
  refine ⟨_, (exec_miswire hb (by omega) above).trans
    (congrArg Host.Outcome.next (State.landBeyond_output (s := a) within hl fn)), ?_, ?_, fun n hn => ?_⟩
  · exact (congrArg BankSt.lands (bank _ _)).trans (State.landNoted_lands (s := a) above len)
  · rw [drive, State.out_modOut_self _ (by rw [outs]; exact has), out, working, steady]
    rfl
  · rw [drive, State.out_modOut_ne _ hn.symm, out]

/-- A land that is found back within its range (R107). -/
theorem exec_landReturnCheck_back (hb : b < 8) {l : Nat} (hl : l < 18) (len : b < s.banks.length)
    (beyond : ((s.bank b).lands.getD l {}).beyond = true) : ∃ u, exec (.landReturnCheck t b l) s = .next u ∧
      ((u.bank b).lands.getD l {}).beyond = false ∧ u.outs = s.outs ∧ u.log = s.log := by
  obtain ⟨x, h⟩ := State.landBack_changes (s := s.advance t) beyond
  refine ⟨_, exec_landReturnCheck hb hl, State.landBack_land (s := s.advance t) len beyond, ?_, ?_⟩ <;> rw [h] <;> rfl

/-- The bridge's sense lands are found back: its filter restarts (R97). -/
theorem exec_vexSenseReturn_back (hb : b < 8) {n v : Nat} (fault : (s.bank b).vexFault = true)
    (vex : (s.bank b).vex = some (n, v)) :
    exec (.vexSenseReturn t b) s = .next (((s.advance t).modBank b (fun k => { k with vexFault := false })).modChan n
      (fun c => { c with restart := true })) := by
  have row : exec (.vexSenseReturn t b) s = .next (match (s.bank b).vexFault, (s.bank b).vex with
      | true, some (n, _) => ((s.advance t).modBank b (fun k => { k with vexFault := false })).restartChan n
      | _, _ => s.advance t) := guardUnit_next (decide_eq_true hb)
  rw [row, fault, vex]
  rfl

/-- The front ends of an `ECONOMY` bank that is due are powered for its burst (R126). -/
theorem exec_economyBurst_due (hb : b < 8) (economy : s.frame.profile = 3) (up : (s.bank b).power = .up)
    (due : (s.advance t).burstDue b = true) : exec (.economyBurst t b) s =
      .next (((s.advance t).modBank b (fun k => { k with burstAt := some (s.advance t).clk.now })).each 8 (fun s j =>
        s.modChan (8 * b + j) (fun c => { c with filt := { c.filt with xs := [], fresh := 0 } }))) := by
  refine (guardUnit_next (decide_eq_true hb)).trans (congrArg Host.Outcome.next (if_pos ?_))
  rw [due, decide_eq_true (show (s.advance t).frame.profile = 3 from economy),
    decide_eq_true (show ((s.advance t).bank b).power = .up from up)]
  rfl

theorem exec_economyBurst_refused (hb : b < 8)
    (h : s.frame.profile ≠ 3 ∨ (s.bank b).power ≠ .up ∨ (s.advance t).burstDue b = false) :
    exec (.economyBurst t b) s = .next (s.advance t) := by
  refine (guardUnit_next (decide_eq_true hb)).trans (congrArg Host.Outcome.next (if_neg ?_))
  simp only [Bool.and_eq_true, decide_eq_true_eq, not_and]
  rintro ⟨economy, up⟩ due
  obtain h | h | h := h
  · exact h economy
  · exact h up
  · exact Bool.false_ne_true (h.symm.trans due)

end

section

variable {s : State} {t ch : Nat} (hch : ch < 64) (amp : 6 ≤ ch % 8)

include hch amp

/-- A channel with a charge amplifier exists for each of its commands. -/
theorem hasAmp_of_amp : hasAmp ch = true := by rw [hasAmp, decide_eq_true hch, decide_eq_true amp]; rfl

/-- An overload of an amplifier with few resets in the last second starts a reset (R100). -/
theorem exec_chargeAmpOverload_reset (p : Bool) (len : ch / 8 < s.banks.length) (has : ch % 8 - 6 < (s.bank (ch / 8)).amps.length)
    (busy : (s.amp (ch / 8) (ch % 8 - 6)).state = .measuring)
    (few : ((s.amp (ch / 8) (ch % 8 - 6)).recent (s.advance t).clk.now).length < 3) :
    ∃ u, exec (.chargeAmpOverload t ch p) s = .next u ∧
      (u.amp (ch / 8) (ch % 8 - 6)).state = .resetting ((s.advance t).clk.now + 2000000) ∧
      (u.amp (ch / 8) (ch % 8 - 6)).resets =
        (s.amp (ch / 8) (ch % 8 - 6)).recent (s.advance t).clk.now ++ [(s.advance t).clk.now] ∧ u.log = s.log := by
  refine ⟨_, (guardUnit_next (hasAmp_of_amp hch amp)).trans
    (congrArg Host.Outcome.next (State.ampOverload_reset (s := s.advance t) p busy few)), ?_⟩
  have has' : ∀ f, ch % 8 - 6 < (((s.advance t).modAmp (ch / 8) (ch % 8 - 6) f).bank (ch / 8)).amps.length := fun f => by
    rw [State.modAmp, State.bank_modBank_self _ (by exact len), modAt_length]; exact has
  rw [State.amp_ampReset (by rw [State.modAmp, State.modBank_length]; exact len) (has' _),
    State.amp_modAmp_self _ (by exact len) (by exact has)]
  exact ⟨rfl, rfl, rfl⟩

/-- An IEPE channel whose bias was not open takes the bias found (R102). -/
theorem exec_iepeBiasFault_found (x : Nat) (iepe : s.func ch = 11) (closed : (s.chan ch).biasOpen = false) :
    exec (.iepeBiasFault t ch x) s = .next ((s.advance t).modChan ch (fun c =>
      { c with biasOpen := decide (x = 1), biasShort := decide (x = 2) })) := by
  refine (guardUnit_next (hasAmp_of_amp hch amp)).trans
    (congrArg Host.Outcome.next ((if_neg (not_not_intro iepe)).trans (if_neg ?_)))
  have closed' : ((s.advance t).chan ch).biasOpen = false := closed
  rw [closed']
  exact Bool.false_ne_true

end

/-- Settles O44: each row by what its operation does in the state that time has run on to. -/
theorem bankFrontEnds : Obligations.BankFrontEnds := by
  intro s t b hb
  dsimp only
  have overload : ∀ {ch p u}, ch < 64 → 6 ≤ ch % 8 → (s.advance t).ampOverload ch p = u →
      exec (.chargeAmpOverload t ch p) s = .next u :=
    fun hch amp h => (guardUnit_next (hasAmp_of_amp hch amp)).trans (congrArg Host.Outcome.next h)
  have hold : ∀ {ch u}, ch < 64 → 6 ≤ ch % 8 → (s.advance t).holdEnd ch = u → exec (.overloadHoldEnd t ch) s = .next u :=
    fun hch amp h => (guardUnit_next (hasAmp_of_amp hch amp)).trans (congrArg Host.Outcome.next h)
  have reset : ∀ {ch u}, ch < 64 → 6 ≤ ch % 8 → (s.advance t).resetEnd ch = u → exec (.chargeResetEnd t ch) s = .next u :=
    fun hch amp h => (guardUnit_next (hasAmp_of_amp hch amp)).trans (congrArg Host.Outcome.next h)
  exact ⟨fun l above hl beyond => (exec_miswire hb hl above).trans
      (congrArg Host.Outcome.next (State.landBeyond_again (s := s.advance t) above beyond)),
    fun l above hl len land within fn => exec_miswire_input hb hl above len land within fn,
    fun l above hl len _ within fn working steady has => exec_miswire_output hb hl above len within fn working steady has,
    fun l hl within => (exec_landReturnCheck hb hl).trans
      (congrArg Host.Outcome.next (State.landBack_within (s := s.advance t) within)),
    fun l hl len beyond => exec_landReturnCheck_back hb hl len beyond,
    guardUnit_next (decide_eq_true hb),
    fun n v fault vex => exec_vexSenseReturn_back hb fault vex,
    fun ch p hch amp busy three => overload hch amp (State.ampOverload_hold (s := s.advance t) p busy three),
    fun ch p hch amp len has busy few => exec_chargeAmpOverload_reset hch amp p len has busy few,
    fun ch x hch amp holding due => hold hch amp (State.holdEnd_due (s := s.advance t) holding due),
    fun ch x hch amp resetting due => reset hch amp (State.resetEnd_due (s := s.advance t) resetting due),
    fun ch x hch amp iepe closed => exec_iepeBiasFault_found hch amp x iepe closed,
    fun on => guardUnit_next (decide_eq_true hb),
    guardUnit_next (decide_eq_true hb),
    fun economy up due => exec_economyBurst_due hb economy up due,
    fun h => exec_economyBurst_refused hb h⟩

end Sys2Proof.Machine
end

section
/-!
PROOFS. What time and the circuit bring to an input channel (R131, R134, R138, R140, R156, Table 05.13).
-/

namespace Sys2Proof.Machine

open Sys2Proof

/-! ## The channels of a frame that opens -/

/-- Changes that agree on the channel as it stands are the same change. -/
theorem State.modChan_congr {s : State} {n : Nat} {f g : ChanSt → ChanSt} (h : f (s.chan n) = g (s.chan n)) :
    s.modChan n f = s.modChan n g := congrArg (fun l => { s with chans := l }) (modAt_congr {} fun _ => h)

/-- A frame that opens leaves the channels. -/
@[simp] theorem State.chan_toFrame (s : State) (t n : Nat) : (s.toFrame t).chan n = s.chan n := by
  unfold State.toFrame; dsimp only
  split <;> rfl

/-! ## Breaks and overloads (R138, R140, Table 05.13) -/

section

variable {s : State} {n x : Nat}

/-- 100 ms of windows under the threshold end an open circuit. -/
theorem State.wireRestore_due (brk : (s.chan n).brk = .open_) (ok : (s.chan n).okSince = some x)
    (due : x + 100000000 ≤ s.clk.now) : s.wireRestore n =
      (s.modChan n (fun c => { c with brk := .none, okSince := none, restart := true })).logChan n 0x0310 3
        (min 0xFFFFFFFF ((x - (s.chan n).brkAt) / 1000000)) 0 := by
  simp only [State.wireRestore, brk, ok, Machine.held, ms, due, decide_true, Bool.and_self, if_true, Option.getD_some]

/-- No open circuit, or no window under the threshold yet: nothing is restored. -/
theorem State.wireRestore_kept (h : (s.chan n).brk ≠ .open_ ∨ (s.chan n).okSince = none) : s.wireRestore n = s := by
  refine if_neg fun restored => ?_
  obtain ⟨brk, ok⟩ := Bool.and_eq_true_iff.1 restored
  obtain closed | quiet := h
  · exact closed (of_decide_eq_true brk)
  · rw [quiet] at ok
    exact Bool.false_ne_true ok

theorem State.overloadEnd_none (quiet : (s.chan n).ovl = none) : s.overloadEnd n = s := by
  simp only [State.overloadEnd, quiet]

variable {p : Bool} (ovl : (s.chan n).ovl = some (p, x))
include ovl

theorem State.overloadEnd_due (due : x + 1000000 ≤ s.clk.now) :
    s.overloadEnd n = s.modChan n (fun c => { c with ovl := none, restart := true }) := by
  simp only [State.overloadEnd, ovl]
  exact if_pos due

theorem State.overloadEnd_early (early : s.clk.now < x + 1000000) : s.overloadEnd n = s := by
  simp only [State.overloadEnd, ovl]
  exact if_neg (Nat.not_le.2 early)

end

/-! ## The exchange of sources (R156) -/

section

variable {s : State} {n : Nat} (m : ExchIn)

theorem State.exchange_again (again : (s.chan n).exchAt = some s.clk.now) : s.exchange n m = s := if_pos again

/-- The first exchange at a tick: the stream holds, and without link frames the readings give the step (log entry 144). -/
theorem State.exchange_first (first : (s.chan n).exchAt ≠ some s.clk.now) : s.exchange n m =
    (s.modChan n (fun c =>
      { c with exchanged := !c.exchanged, exchAt := some s.clk.now, filt := { c.filt with hold := 8, step := none },
               mismatch := if c.filt.xs.isEmpty then
                   ((c.mismatch ++ [divRound (if c.exchanged then m.after - m.before else m.before - m.after) 2]).reverse.take 16
                     |>.reverse)
                 else c.mismatch })).bankSetup (n / 8) := by
  refine (if_neg first).trans (congrArg (fun u : State => u.bankSetup (n / 8)) (State.modChan_congr ?_))
  cases (s.chan n).filt.xs.isEmpty <;> rfl

end

/-! ## The rows of a channel that exists -/

section

variable {s : State} {t ch : Nat} (hch : ch < 64)
include hch

theorem exec_settlingEnd (last : (s.chan ch).settle = 1) :
    exec (.settlingEnd t ch) s = .next ((s.toFrame t).modChan ch (fun c => { c with settle := 0 })) :=
  (guardUnit_next (decide_eq_true hch)).trans (congrArg Host.Outcome.next
    (State.modChan_congr (if_pos ((congrArg ChanSt.settle (s.chan_toFrame t ch)).trans last))))

theorem exec_notchSuspectEnd (last : (s.chan ch).notchSuspect = 1) :
    exec (.notchSuspectEnd t ch) s = .next ((s.toFrame t).modChan ch (fun c => { c with notchSuspect := 0 })) :=
  (guardUnit_next (decide_eq_true hch)).trans (congrArg Host.Outcome.next
    (State.modChan_congr (if_pos ((congrArg ChanSt.notchSuspect (s.chan_toFrame t ch)).trans last))))

theorem exec_wireRestored : exec (.wireRestored t ch) s = .next ((s.toFrame t).wireRestore ch) :=
  guardUnit_next (decide_eq_true hch)

/-- An overload clears the integrators of a measuring channel (Table 05.1). -/
theorem exec_modulatorOverload_input (p : Bool) (input : isInput (s.func ch) = true) :
    exec (.modulatorOverload t ch p) s = .next ((s.advance t).modChan ch (fun c =>
      { c with ovl := some (p, (s.advance t).clk.now), ovlNew := some p,
               filt := { c.filt with run := 0, clear := resetBits (isVib (s.func ch)) } })) :=
  (guardUnit_next (decide_eq_true hch)).trans (congrArg Host.Outcome.next (if_pos input))

theorem exec_modulatorOverload_other (p : Bool) (other : isInput (s.func ch) = false) :
    exec (.modulatorOverload t ch p) s = .next (s.advance t) :=
  (guardUnit_next (decide_eq_true hch)).trans (congrArg Host.Outcome.next (if_neg (Bool.eq_false_iff.1 other)))

theorem exec_modulatorOverloadEnd : exec (.modulatorOverloadEnd t ch) s = .next ((s.advance t).overloadEnd ch) :=
  guardUnit_next (decide_eq_true hch)

theorem exec_sourceExchange (m : ExchIn) (three : s.func ch = 6) (up : s.bankUp (ch / 8) = true)
    (second : (s.advance t).atSecond = true) : exec (.sourceExchange t ch m) s = .next ((s.advance t).exchange ch m) := by
  have exchanges : (decide (s.func ch = 6) && s.bankUp (ch / 8) && (s.advance t).atSecond) = true := by simp [three, up, second]
  exact (guardUnit_next (decide_eq_true hch)).trans (congrArg Host.Outcome.next (if_pos exchanges))

/-- Another function, a bank that is off, an instant that is no whole second, or an exchange already made: the sources stay. -/
theorem exec_sourceExchange_kept (m : ExchIn) (h : s.func ch ≠ 6 ∨ s.bankUp (ch / 8) = false ∨ (s.advance t).atSecond = false ∨
    (s.chan ch).exchAt = some (s.advance t).clk.now) : exec (.sourceExchange t ch m) s = .next (s.advance t) := by
  refine (guardUnit_next (decide_eq_true hch)).trans (congrArg Host.Outcome.next ?_)
  change (if (decide (s.func ch = 6) && s.bankUp (ch / 8) && (s.advance t).atSecond) = true then _ else _) = _
  obtain other | off | between | again := h
  · simp [other]
  · simp [off]
  · simp [between]
  · rw [State.exchange_again (s := s.advance t) m again, ite_self]

end

/-- Settles O34: each row by what its operation does to the channel. That the duration in `WIRE_RESTORED` runs to the first good
window is log 46. -/
theorem channelEvents : Obligations.ChannelEvents := by
  intro s t ch hch
  dsimp only
  have channel := s.chan_toFrame t ch
  refine ⟨exec_settlingEnd hch, exec_notchSuspectEnd hch, fun x brk ok due => ?_, fun h => ?_,
    exec_modulatorOverload_input hch, exec_modulatorOverload_other hch,
    fun quiet => (exec_modulatorOverloadEnd hch).trans
      (congrArg Host.Outcome.next (State.overloadEnd_none (s := s.advance t) quiet)),
    fun p x ovl due => (exec_modulatorOverloadEnd hch).trans
      (congrArg Host.Outcome.next (State.overloadEnd_due (s := s.advance t) ovl due)),
    fun p x ovl early => (exec_modulatorOverloadEnd hch).trans
      (congrArg Host.Outcome.next (State.overloadEnd_early (s := s.advance t) ovl early)),
    fun m three up second first => (exec_sourceExchange hch m three up second).trans
      (congrArg Host.Outcome.next (State.exchange_first (s := s.advance t) m first)),
    exec_sourceExchange_kept hch⟩
  · rw [exec_wireRestored hch, State.wireRestore_due (by rw [channel]; exact brk) (by rw [channel]; exact ok) due, channel]
  · rw [exec_wireRestored hch, State.wireRestore_kept (by rw [channel]; exact h)]

end Sys2Proof.Machine
end

section
/-!
PROOFS. The notch follows the mains (R129 to R132, Tables 05.9 and 05.10).
-/

namespace Sys2Proof.Machine

open Sys2Proof

/-! ## Steps of the tracked frequency (R131) -/

/-- A `LATENCY` channel that passes the output filter bears the mark of a notch step. -/
def State.notchMark (s : State) (n : Nat) : State :=
  if isFiltered (s.func n) then s.modChan n (fun c => { c with notchSuspect := 33 }) else s

/-- The notch takes the frequency that three rejected cycles agreed on, and the step is logged. -/
def State.notchTake (s : State) (ft : Nat) : State :=
  (s.modNotch (fun n => { n with ft, rejected := [], busRejected := [],
                                 lastOk := if n.src = .local_ then s.clk.now else n.lastOk })).logNode 0x030D 4 s.notch.ft ft

/-- A step takes the frequency, then marks the channels in `LATENCY`. -/
theorem State.notchStep_eq (s : State) (ft : Nat) :
    s.notchStep ft = if s.frame.profile = 0 then (s.notchTake ft).each 64 State.notchMark else s.notchTake ft := rfl

theorem State.notchMark_notch (s : State) (n : Nat) : (s.notchMark n).notch = s.notch := by
  unfold State.notchMark; split <;> rfl

theorem State.notchMark_cfg (s : State) (n : Nat) : (s.notchMark n).cfg = s.cfg := by
  unfold State.notchMark; split <;> rfl

theorem State.notchMark_length (s : State) (n : Nat) : (s.notchMark n).chans.length = s.chans.length := by
  unfold State.notchMark; split
  · exact s.modChan_length n _
  · rfl

theorem State.notchMark_ne (s : State) {n k : Nat} (h : n ≠ k) : (s.notchMark n).chan k = s.chan k := by
  unfold State.notchMark; split
  · exact State.chan_modChan_ne _ h
  · rfl

theorem State.notchMark_self {s : State} {n : Nat} (filtered : isFiltered (s.func n) = true) (len : n < s.chans.length) :
    ((s.notchMark n).chan n).notchSuspect = 33 := by
  rw [State.notchMark, if_pos filtered, State.chan_modChan_self _ len]

/-- The function of a channel is a field of the configuration. -/
theorem State.func_of_cfg {s u : State} (h : u.cfg = s.cfg) (n : Nat) : u.func n = s.func n := by
  simp only [State.func, State.chField, h]

/-- Every filtered channel that there is bears the mark afterwards. -/
theorem State.notchMark_each (s : State) {k n : Nat} (hk : k < n) (filtered : isFiltered (s.func k) = true)
    (len : k < s.chans.length) : ((s.each n State.notchMark).chan k).notchSuspect = 33 := by
  refine (State.each_induction (fun i u => u.cfg = s.cfg ∧ u.chans.length = s.chans.length ∧
    (k < i → (u.chan k).notchSuspect = 33)) n ⟨rfl, rfl, fun h => absurd h (Nat.not_lt_zero k)⟩ ?_).2.2 hk
  rintro i u ⟨cfg, length, marked⟩
  refine ⟨(u.notchMark_cfg i).trans cfg, (u.notchMark_length i).trans length, fun h => ?_⟩
  by_cases same : i = k
  · subst same
    exact State.notchMark_self ((State.func_of_cfg cfg i).symm ▸ filtered) (length.symm ▸ len)
  · rw [u.notchMark_ne same]
    exact marked (by omega)

theorem State.notchStep_notch (s : State) (ft : Nat) : (s.notchStep ft).notch =
    { s.notch with ft, rejected := [], busRejected := [],
                   lastOk := if s.notch.src = .local_ then s.clk.now else s.notch.lastOk } := by
  rw [State.notchStep_eq]
  split
  · exact State.each_keeps State.notch State.notchMark_notch (s.notchTake ft) 64
  · rfl

/-- Outside `LATENCY` a step leaves the channels. -/
theorem State.notchStep_chans {s : State} (ft : Nat) (other : s.frame.profile ≠ 0) : (s.notchStep ft).chans = s.chans := by
  rw [State.notchStep_eq, if_neg other]
  rfl

/-- In `LATENCY` a step marks every filtered channel for 32 frames. -/
theorem State.notchStep_marks {s : State} (ft : Nat) (latency : s.frame.profile = 0) {k : Nat} (hk : k < 64)
    (filtered : isFiltered (s.func k) = true) (len : k < s.chans.length) : ((s.notchStep ft).chan k).notchSuspect = 33 := by
  rw [State.notchStep_eq, if_pos latency]
  exact (s.notchTake ft).notchMark_each hk filtered len

/-- Changes that agree on the notch as it stands are the same change. -/
theorem State.modNotch_congr {s : State} {f g : NotchSt → NotchSt} (h : f s.notch = g s.notch) : s.modNotch f = s.modNotch g :=
  congrArg (fun n => { s with notch := n }) h

/-! ## A local cycle under the tracking law (Tables 05.9, 05.10) -/

/-- Three frequencies of which each two lie within 0.1 Hz agree on their mean. -/
theorem agree_three {a b c : Nat} (ab : near a b 100 = true) (bc : near b c 100 = true) (ac : near a c 100 = true) :
    agree [a, b, c] = some ((a + b + c + 1) / 3) := by
  simp only [agree, ab, bc, ac, Bool.and_self, if_true]

/-- A frequency is near itself. -/
theorem near_self (a d : Nat) : near a a d = true := by simp [near]

section

variable {s : State} {fc : Nat}

/-- The first cycle outside 40 to 70 Hz is logged. -/
theorem State.mainsCycle_excursion (out : fc < 40000 ∨ 70000 < fc) (first : s.notch.excursion = false) : s.mainsCycle fc =
    (s.modNotch (fun n => { n with excursion := true, run := 0, rejected := [] })).logNode 0x030C 4 fc 0 := by
  simp only [State.mainsCycle, if_pos out, first, Bool.false_eq_true, if_false]

variable (low : 40000 ≤ fc) (high : fc ≤ 70000)
include low high

/-- A cycle of the range that lies within 2 Hz is accepted; the eighth in a row brings the local source back. -/
theorem State.mainsCycle_near (close : near fc s.notch.ft 2000 = true) : s.mainsCycle fc =
    (let s1 := s.modNotch (fun n => { n with excursion := false, rejected := [], run := n.run + 1, lastOk := s.clk.now,
                                             ft := if n.src = .local_ then fc else n.ft })
     if s.notch.src ≠ .local_ ∧ 8 ≤ s.notch.run + 1 then s1.notchTo .local_ fc else s1) :=
  (if_neg (by omega)).trans (if_pos close)

/-- On the local source the notch follows the cycle. -/
theorem State.mainsCycle_follow (close : near fc s.notch.ft 2000 = true) (src : s.notch.src = .local_) : s.mainsCycle fc =
    s.modNotch (fun n => { n with excursion := false, rejected := [], run := n.run + 1, lastOk := s.clk.now, ft := fc }) := by
  rw [State.mainsCycle_near low high close, if_neg (fun h => h.1 src)]
  exact State.modNotch_congr (by rw [if_pos src])

/-- On another source the cycles accepted in a row decide whether the notch comes back. -/
theorem State.mainsCycle_return (close : near fc s.notch.ft 2000 = true) (away : s.notch.src ≠ .local_) :
    (s.mainsCycle fc).chans = s.chans ∧ (s.mainsCycle fc).notch.valid = s.notch.valid ∧
      (s.mainsCycle fc).notch.lastCross = s.notch.lastCross ∧ (s.mainsCycle fc).notch.lastOk = s.clk.now ∧
      (s.mainsCycle fc).notch.src = (if 8 ≤ s.notch.run + 1 then .local_ else s.notch.src) ∧
      (s.mainsCycle fc).notch.ft = (if 8 ≤ s.notch.run + 1 then fc else s.notch.ft) := by
  rw [State.mainsCycle_near low high close]
  by_cases eighth : 8 ≤ s.notch.run + 1
  · rw [if_pos ⟨away, eighth⟩, if_pos eighth, if_pos eighth]
    exact ⟨rfl, rfl, rfl, rfl, rfl, rfl⟩
  · rw [if_neg (fun h => eighth h.2), if_neg eighth, if_neg eighth]
    exact ⟨rfl, rfl, rfl, rfl, rfl, if_neg away⟩

/-- The third rejected cycle that agrees with the two before it steps the local source. -/
theorem State.mainsCycle_agreed {v w : Nat} (apart : near fc s.notch.ft 2000 = false) (two : s.notch.rejected = [v, w])
    (src : s.notch.src = .local_) (vw : near v w 100 = true) (wf : near w fc 100 = true) (vf : near v fc 100 = true) :
    (s.mainsCycle fc).notch.ft = (v + w + fc + 1) / 3 ∧ (s.mainsCycle fc).notch.rejected = [] ∧
      (s.mainsCycle fc).notch.src = .local_ ∧ (s.frame.profile ≠ 0 → (s.mainsCycle fc).chans = s.chans) ∧
      (s.frame.profile = 0 → s.chans.length = 64 → ∀ ch < 64, isFiltered (s.func ch) = true →
        ((s.mainsCycle fc).chan ch).notchSuspect = 33) := by
  have inside : ¬ (fc < 40000 ∨ 70000 < fc) := by omega
  have last : (([v, w] ++ [fc]).reverse.take 3).reverse = [v, w, fc] := rfl
  have step : s.mainsCycle fc = (s.modNotch (fun n => { n with excursion := false, rejected := [v, w, fc], run := 0 })).notchStep
      ((v + w + fc + 1) / 3) := by
    simp only [State.mainsCycle, if_neg inside, apart, Bool.false_eq_true, if_false, two, last, agree_three vw wf vf, src, if_true]
  rw [step, State.notchStep_notch]
  refine ⟨rfl, rfl, src, fun other => State.notchStep_chans _ other, fun latency all ch hch filtered => ?_⟩
  refine State.notchStep_marks _ ?_ hch ?_ ?_
  · exact latency
  · exact filtered
  · exact Nat.lt_of_lt_of_eq hch all.symm

end

/-! ## Crossings (R129) -/

section

variable {s : State} {m : MainsIn}

/-- An amplitude outside 0.7 V to 14 V makes the input invalid. -/
theorem State.mainsCross_invalid (h : m.rms < 700 ∨ 14000 < m.rms) : s.mainsCross m =
    s.modNotch (fun n => { n with valid := false, lastCross := none, run := 0, rejected := [] }) := if_pos h

/-- A crossing of a valid input closes a cycle with the crossing before it. -/
theorem State.mainsCross_cycle {p : Nat} (low : 700 ≤ m.rms) (high : m.rms ≤ 14000) (before : s.notch.lastCross = some p)
    (later : p < crossAt m s.clk.now) : s.mainsCross m =
      (s.modNotch (fun n => { n with valid := true, lastCross := some (crossAt m s.clk.now) })).mainsCycle
        ((1000000000000 + (crossAt m s.clk.now - p) / 2) / (crossAt m s.clk.now - p)) := by
  have valid : ¬ (m.rms < 700 ∨ 14000 < m.rms) := by omega
  simp only [State.mainsCross, if_neg valid, before, if_pos later]

end

/-! ## The bus source (Tables 05.9, 05.10) -/

theorem busFt_near {ft fm : Nat} (low : 40000 ≤ fm) (high : fm ≤ 70000) (close : near fm ft 2000 = true) : busFt ft fm = fm :=
  if_pos ⟨low, high, close⟩

theorem busFt_far {ft fm : Nat} (far : fm < 40000 ∨ 70000 < fm ∨ near fm ft 2000 = false) : busFt ft fm = ft := by
  refine if_neg fun ⟨low, high, close⟩ => ?_
  obtain below | above | apart := far
  · omega
  · omega
  · exact Bool.eq_false_iff.1 apart close

section

variable {s : State} {fm : Nat} (bus : s.notch.src = .bus)
include bus

/-- The first message outside 40 to 70 Hz is logged. -/
theorem State.mainsBus_out (out : fm < 40000 ∨ 70000 < fm) (first : s.notch.busOut = false) : s.mainsBus fm =
    (s.modNotch (fun n => { n with busOut := true, busRejected := [] })).logNode 0x030C 4 fm 0 := by
  simp only [State.mainsBus, bus, ne_eq, not_true_eq_false, if_false, if_pos out, first, Bool.false_eq_true]

variable (low : 40000 ≤ fm) (high : fm ≤ 70000)
include low high

theorem State.mainsBus_near (close : near fm s.notch.ft 2000 = true) :
    s.mainsBus fm = s.modNotch (fun n => { n with ft := fm, busRejected := [], busOut := false }) :=
  (if_neg (not_not_intro bus)).trans ((if_neg (by omega)).trans (if_pos close))

/-- A message more than 2 Hz away is the first of those rejected. -/
theorem State.mainsBus_reject (apart : near fm s.notch.ft 2000 = false) (quiet : s.notch.busRejected = []) :
    s.mainsBus fm = s.modNotch (fun n => { n with busRejected := [fm], busOut := false }) := by
  refine (if_neg (not_not_intro bus)).trans ((if_neg (by omega)).trans ((if_neg (Bool.eq_false_iff.1 apart)).trans ?_))
  simp only [quiet]
  rfl

end

section

variable (s : State) {fm : Nat}

/-- The notch enters the bus source at a message of the range within 2 Hz. -/
theorem State.enterBus_near (low : 40000 ≤ fm) (high : fm ≤ 70000) (close : near fm s.notch.ft 2000 = true) :
    (s.notchTo .bus (busFt s.notch.ft fm)).mainsBus fm =
      ({ s with notch := { s.notch with src := .bus, ft := fm, run := 0, busRejected := [], busOut := false } }).logNode
        0x030E 3 1 fm := by
  rw [busFt_near low high close, State.mainsBus_near rfl low high (near_self fm 2000)]
  rfl

/-- What the notch keeps of the message at which it enters the bus source. -/
theorem State.enterBus_notch (fm : Nat) : let u := (s.notchTo .bus (busFt s.notch.ft fm)).mainsBus fm
    u.chans = s.chans ∧ u.cfg = s.cfg ∧
      u.notch = { s.notch with
        src := .bus, ft := busFt s.notch.ft fm, run := 0, busOut := decide (fm < 40000 ∨ 70000 < fm),
        busRejected := if 40000 ≤ fm ∧ fm ≤ 70000 ∧ near fm s.notch.ft 2000 = false then [fm] else [] } := by
  dsimp only
  by_cases out : fm < 40000 ∨ 70000 < fm
  · rw [State.mainsBus_out rfl out rfl, decide_eq_true out, if_neg (by omega)]
    exact ⟨rfl, rfl, rfl⟩
  have low : 40000 ≤ fm := by omega
  have high : fm ≤ 70000 := by omega
  rw [decide_eq_false out]
  cases close : near fm s.notch.ft 2000 with
  | true =>
    rw [State.enterBus_near s low high close, busFt_near low high close, if_neg (by simp)]
    exact ⟨rfl, rfl, rfl⟩
  | false =>
    rw [busFt_far (.inr (.inr close)), State.mainsBus_reject (s := s.notchTo .bus s.notch.ft) rfl low high close rfl,
      if_pos ⟨low, high, rfl⟩]
    exact ⟨rfl, rfl, rfl⟩

end

/-! ## The source falls away (R132, Table 05.10) -/

section

variable {s : State}

/-- A local source that has been silent for 75 ms, or whose input is invalid, gives way to a fresh message. -/
theorem State.mainsSource_bus {fm : Nat} (src : s.notch.src = .local_) (fresh : s.genFresh = some fm)
    (silent : s.notch.lastOk + 75000000 ≤ s.clk.now ∨ s.notch.valid = false) :
    s.mainsSource = (s.notchTo .bus (busFt s.notch.ft fm)).mainsBus fm := by
  simp only [State.mainsSource, src, fresh]
  exact if_pos silent

/-- With no fresh message the notch holds its frequency. -/
theorem State.mainsSource_hold (stale : s.genFresh = none)
    (h : s.notch.src = .local_ ∧ (s.notch.lastOk + 75000000 ≤ s.clk.now ∨ s.notch.valid = false) ∨ s.notch.src = .bus) :
    s.mainsSource = s.notchTo .held s.notch.ft := by
  obtain ⟨src, silent⟩ | src := h
  · simp only [State.mainsSource, src, stale]
    exact if_pos silent
  · simp only [State.mainsSource, src, stale]

/-- A local source that is heard stays. -/
theorem State.mainsSource_heard (src : s.notch.src = .local_) (recent : s.clk.now < s.notch.lastOk + 75000000)
    (valid : s.notch.valid = true) : s.mainsSource = s := by
  have heard : ¬ (s.notch.lastOk + ms 75 ≤ s.clk.now ∨ s.notch.valid = false) := by
    rw [valid]
    exact not_or.2 ⟨Nat.not_le.2 recent, Bool.true_eq_false.mp⟩
  cases fresh : s.genFresh <;> simp only [State.mainsSource, src, fresh, if_neg heard]

/-- A bus source with a fresh message stays. -/
theorem State.mainsSource_fed {fm : Nat} (src : s.notch.src = .bus) (fresh : s.genFresh = some fm) : s.mainsSource = s := by
  simp only [State.mainsSource, src, fresh]

/-- A held frequency stays. -/
theorem State.mainsSource_held (src : s.notch.src = .held) : s.mainsSource = s := by
  simp only [State.mainsSource, src]

end

/-! ## The rows -/

section

variable {s : State} {t : Nat} {m : MainsIn} {x p fc : Nat}
  (at_ : x = (s.advance t).clk.now - m.step * m.after / max 1 (m.before + m.after))
  (weak : 700 ≤ m.rms) (strong : m.rms ≤ 14000) (before : s.notch.lastCross = some p) (later : p < x)
  (cycle : fc = (1000000000000 + (x - p) / 2) / (x - p))
include at_ weak strong before later cycle

/-- A crossing of a valid input is a cycle with the crossing before it. -/
theorem exec_mainsCycle : exec (.mainsCycle t m) s =
    .next (((s.advance t).modNotch (fun n => { n with valid := true, lastCross := some x })).mainsCycle fc) := by
  subst at_ cycle
  exact congrArg Host.Outcome.next (State.mainsCross_cycle (s := s.advance t) weak strong before later)

end

/-- Settles O35: each crossing by what its cycle does to the notch, each silence by the source that takes over. -/
theorem mainsNotch : Obligations.MainsNotch := by
  intro s t
  dsimp only
  refine ⟨fun m x p fc at_ weak strong before later cycle => ?_,
    fun m invalid => congrArg Host.Outcome.next (State.mainsCross_invalid (s := s.advance t) invalid),
    fun fm src fresh silent => ⟨_, congrArg Host.Outcome.next (State.mainsSource_bus (s := s.advance t) src fresh silent),
      (s.advance t).enterBus_notch fm⟩,
    fun fm src fresh silent low high close => congrArg Host.Outcome.next
      ((State.mainsSource_bus (s := s.advance t) src fresh silent).trans ((s.advance t).enterBus_near low high close)),
    fun h stale => congrArg Host.Outcome.next (State.mainsSource_hold (s := s.advance t) stale h),
    fun src recent valid => congrArg Host.Outcome.next (State.mainsSource_heard (s := s.advance t) src recent valid),
    fun fm src fresh => congrArg Host.Outcome.next (State.mainsSource_fed (s := s.advance t) src fresh),
    fun src => congrArg Host.Outcome.next (State.mainsSource_held (s := s.advance t) src)⟩
  rw [exec_mainsCycle at_ weak strong before later cycle]
  refine ⟨fun low high close src => congrArg Host.Outcome.next (State.mainsCycle_follow low high close src),
    fun out first => congrArg Host.Outcome.next (State.mainsCycle_excursion out first),
    fun low high close away => ⟨_, rfl, State.mainsCycle_return low high close away⟩,
    fun v w low high apart two src vw wf vf => ⟨_, rfl, State.mainsCycle_agreed low high apart two src vw wf vf⟩⟩

end Sys2Proof.Machine
end

section
/-!
PROOFS. Calibration steps and their churn (R146, R148, R182).
-/

namespace Sys2Proof.Machine

open Sys2Proof

/-! ## A step is asked for (R182) -/

section

variable {s : State} {t tag : Nat} {f : Flight} (he : Executes s tag 0x0302 f)
include he

/-- A step that measures begins, and its request waits for its end. -/
theorem exec_chanCal_begin (other : byteAt f.req 16 ≠ 2) (finite : (f32At f.req 20).finite = true)
    (low : byteAt f.req 16 ≠ 1) : exec (.chanCal t tag) s = .next ((s.acting t).calBegin f).takeNext :=
  exec_row_eq rfl he ((if_neg other).trans ((if_neg (by simp [finite])).trans (if_neg (by simp [low]))))

/-- The high point of a channel that has no low point is refused (log 57). -/
theorem exec_chanCal_noLow (high : byteAt f.req 16 = 1) (absent : ∀ l ∈ s.cal.lows, l.chan ≠ f.unit)
    (finite : (f32At f.req 20).finite = true) :
    exec (.chanCal t tag) s = .next ((s.acting t).complete f .badField 16 []).takeNext := by
  have lows : (s.acting t).cal.lows.any (fun l => decide (l.chan = f.unit)) = false :=
    List.any_eq_false.2 fun l hl => by simpa using absent l hl
  exact exec_row_eq rfl he ((if_neg (by omega)).trans ((if_neg (by simp [finite])).trans
    ((if_pos (by rw [lows]; simp [high])).trans (State.refuse_eq (by decide)))))

end

/-! ## A step is judged (R182) -/

/-- The end of a step forgets it and keeps the rest of the calibration. -/
theorem State.calAnswer_cal (s : State) (k : Nat) (st : Status) (d : Nat) (p : List Byte) :
    (s.calAnswer k st d p).cal = { s.cal with runs := s.cal.runs.filter (fun r => r.num != k) } := State.endWaits_cal _ _

/-- The low point that a step leaves. -/
def State.lowPoint (s : State) (r : CalRun) : CalLow :=
  { chan := r.chan, x := F32.ofRat (r.sum / (r.n : Rat)), ref := r.ref, tb := (s.bank (r.chan / 8)).house.temp, time := s.clk.now }

section

variable {s : State} {r : CalRun}

/-- A step without a clean average fails. -/
theorem State.calJudge_unclean (h : r.clean = false ∨ r.n = 0) : s.calJudge r = s.calAnswer r.num .hwFault 1 [] := by
  refine if_pos ?_
  obtain h | h := h <;> simp [h]

/-- Step 0 keeps the low point of its channel. -/
theorem State.calJudge_low (low : r.step = 0) (clean : r.clean = true) (sampled : r.n ≠ 0) : ∃ rsp, s.calJudge r =
    ({ s with cal := { s.cal with lows := s.cal.lows.filter (fun (l : CalLow) => l.chan != r.chan) ++ [s.lowPoint r] } } :
      State).calAnswer r.num .ok 0 rsp :=
  ⟨_, (if_neg (by simp [clean, sampled])).trans (if_pos low)⟩

variable {x : Nat} (one : s.cal.runs = [r]) (measures : r.churn = none) (since : r.since = some x)
  (due : x + 1000000000 ≤ s.clk.now)
include one measures since due

/-- A step that has averaged for 1 s is judged. -/
theorem State.calEnds_one : s.calEnds = s.calJudge r := by
  have ended : r.over_ s.clk.now = true := by
    simp only [CalRun.over_, measures, since, Machine.held, Option.isNone_none, Bool.true_and]
    exact decide_eq_true due
  simp only [State.calEnds, one, List.filter_cons, ended, if_true, List.filter_nil, List.foldl_cons, List.foldl_nil]

/-- The low point stands, the step is over, the partition is as it was. -/
theorem State.calEnds_low (low : r.step = 0) (clean : r.clean = true) (sampled : r.n ≠ 0) :
    s.calEnds.cal.runs = [] ∧ s.calEnds.cal.part = s.cal.part ∧ s.lowPoint r ∈ s.calEnds.cal.lows := by
  obtain ⟨rsp, judged⟩ := State.calJudge_low (s := s) low clean sampled
  rw [State.calEnds_one one measures since due, judged, State.calAnswer_cal]
  refine ⟨?_, rfl, List.mem_append_right _ (List.mem_singleton.2 rfl)⟩
  simp [one]

end

/-! ## The churn of a record (R148) -/

/-- A row of the NVM controller acts while the operation under way is of its kind. -/
theorem State.nvmIf_running {s : State} {o : NvmOp} {p : NvmKind → Bool} {go : State → State} (busy : s.nvm.running = some o)
    (kind : p o.kind = true) : s.nvmIf p go = go s := by
  simp only [State.nvmIf, State.nvmKind, busy, Option.map_some, kind, if_true]

/-- With no operation under way, or one of another kind, the row changes nothing. -/
theorem State.nvmIf_other {s : State} {p : NvmKind → Bool} {go : State → State}
    (h : s.nvm.running = none ∨ ∃ o, s.nvm.running = some o ∧ p o.kind = false) : s.nvmIf p go = s := by
  obtain idle | ⟨o, busy, kind⟩ := h
  · simp only [State.nvmIf, State.nvmKind, idle, Option.map_none]
  · simp only [State.nvmIf, State.nvmKind, busy, Option.map_some, kind, Bool.false_eq_true, if_false]

/-- The end of an operation that leaves reset and security as they are brings no reset (R17, R425, R433, R440). -/
theorem State.nvmEnd_eq_nvmComplete {s : State} {o : NvmOp} (busy : s.nvm.running = some o)
    (plain : ∀ n, o.kind ≠ .directory (.prefer n)) (rst : s.nvmComplete.rst = s.rst) (sec : s.nvmComplete.sec = s.sec)
    (clock : s.rst.clockLoss = none) (erasure : s.sec.erasure = none) : s.nvmEnd = s.nvmComplete := by
  simp only [State.nvmEnd, rst, clock, sec, Option.isSome_none, Bool.false_eq_true, if_false, Bool.and_not_self]
  rw [if_neg]
  · simp only [State.returnDone, sec, erasure]
  · split
    · next n prefer =>
      rw [State.nvmKind, busy, Option.map_some] at prefer
      exact absurd (Option.some.inj prefer) (plain n)
    · exact Bool.false_ne_true

/-- An idle controller with nothing waiting and no log churn queued stays idle. -/
theorem State.nvmStart_idle {s : State} (free : s.nvm.running = none) (empty : s.nvm.waiting = []) (quiet : s.log.queued = false) :
    s.nvmStart.nvm.running = none := by
  have ready : s.logChurnReady = false := by simp only [State.logChurnReady, quiet, Bool.false_and]
  have pick : s.nvmPick = s := by
    simp only [State.nvmPick, empty, List.find?_nil, nvmBest, ready, Bool.false_eq_true, if_false]
  unfold State.nvmStart
  split
  · exact free
  · rw [free, pick]
    exact free

/-- A churned record stands in the partition. -/
theorem State.calChurned_part (s : State) (o : NvmOp) :
    (s.calChurned o).cal.part = s.cal.part.writeList o.arg (o.data.readList 0 32) := by
  simp only [State.calChurned]

/-- It is not yet in force. -/
theorem State.calChurned_inForce (s : State) (o : NvmOp) : (s.calChurned o).cal.inForce = s.cal.inForce := by
  simp only [State.calChurned]

section

variable {s : State} {o : NvmOp} (busy : s.nvm.running = some o) (kind : o.kind = .calChurn)
include busy kind

theorem exec_calibrationChurn (t : Nat) : exec (.calibrationChurn t) s = .next (s.advance t).nvmEnd :=
  congrArg Host.Outcome.next (State.nvmIf_running (s := s.advance t) busy (decide_eq_true kind))

variable (unasked : ∀ w ∈ s.host.waits, w.kind ≠ .nvm o.num)
include unasked

/-- The churn of a record writes it and answers nobody; the next operation starts. -/
theorem State.nvmComplete_calChurn :
    s.nvmComplete = (({ s with nvm := { s.nvm with running := none } } : State).calChurned o).nvmStart := by
  have one : o.more = false := by simp only [NvmOp.more, kind]
  have effect : ({ s with nvm := { s.nvm with running := none } } : State).nvmEffect o =
      ({ s with nvm := { s.nvm with running := none } } : State).calChurned o := by simp only [State.nvmEffect, kind]
  have answered : (({ s with nvm := { s.nvm with running := none } } : State).calChurned o).nvmServe o =
      ({ s with nvm := { s.nvm with running := none } } : State).calChurned o := State.nvmServe_none unasked
  simp only [State.nvmComplete, busy, one, Bool.false_eq_true, if_false, effect, answered]

theorem State.nvmEnd_calChurn (clock : s.rst.clockLoss = none) (erasure : s.sec.erasure = none) :
    s.nvmEnd = (({ s with nvm := { s.nvm with running := none } } : State).calChurned o).nvmStart := by
  have done := State.nvmComplete_calChurn busy kind unasked
  rw [State.nvmEnd_eq_nvmComplete busy (by simp [kind]) (by rw [done, State.nvmStart_rst]; rfl)
    (by rw [done, State.nvmStart_sec]; rfl) clock erasure, done]

/-- The 32 bytes of the record stand in the partition at its place, and nothing else of it changes. -/
theorem State.nvmEnd_calChurn_cal (clock : s.rst.clockLoss = none) (erasure : s.sec.erasure = none) :
    s.nvmEnd.cal.part = s.cal.part.writeList o.arg (o.data.readList 0 32) ∧ s.nvmEnd.cal.inForce = s.cal.inForce ∧
      (s.nvm.waiting = [] → s.log.queued = false → s.nvmEnd.nvm.running = none) := by
  rw [State.nvmEnd_calChurn busy kind unasked clock erasure, State.nvmStart_cal]
  exact ⟨State.calChurned_part _ o, State.calChurned_inForce _ o, fun empty quiet => State.nvmStart_idle rfl empty quiet⟩

end

/-- Settles O36: each row by what its operation does to the calibration. That step 1 without a low point answers `BAD_FIELD` 16 is
log 57. -/
theorem calibrationSteps : Obligations.CalibrationSteps := by
  intro s t tag f
  dsimp only
  refine ⟨fun he step finite => exec_chanCal_begin he (by omega) finite (by omega),
    fun he high absent finite => exec_chanCal_noLow he high absent finite,
    fun r x one measures since due low clean sampled => ?_,
    fun r x one measures since due unclean => congrArg Host.Outcome.next
      ((State.calEnds_one (s := s.advance t) one measures since due).trans (State.calJudge_unclean unclean)),
    fun o busy kind clock erasure unasked => ⟨_, exec_calibrationChurn busy kind t,
      State.nvmEnd_calChurn_cal (s := s.advance t) busy kind unasked clock erasure⟩,
    fun h => congrArg Host.Outcome.next (State.nvmIf_other (s := s.advance t) ?_)⟩
  · obtain ⟨runs, part, point⟩ := State.calEnds_low (s := s.advance t) one measures since due low clean sampled
    exact ⟨_, rfl, runs, part, _, point, rfl, rfl, rfl, rfl⟩
  · exact h.imp_right fun ⟨o, busy, other⟩ => ⟨o, busy, decide_eq_false other⟩

end Sys2Proof.Machine
end

section
/-!
PROOFS. The vibration capture from its request to its reading (R184).
-/

namespace Sys2Proof.Machine

open Sys2Proof

/-! ## Waits that end -/

@[simp] theorem completeList_waits (sel : WaitKind → Option (Status × Nat × List Byte)) (l : List Wait) (s : State) :
    (completeList sel l s).host.waits = s.host.waits := by
  induction l generalizing s with
  | nil => rfl
  | cons w r ih =>
    rw [completeList, ih]
    split
    · exact State.complete_waits _ _ _ _ _
    · rfl

/-- The waits that are not chosen go on. -/
@[simp] theorem State.endWaits_waits (s : State) (sel : WaitKind → Option (Status × Nat × List Byte)) :
    (s.endWaits sel).host.waits = s.host.waits.filter (fun w => (sel w.kind).isNone) := completeList_waits _ _ _

/-! ## A capture is asked for -/

section

variable {s : State} {t tag : Nat} {f : Flight} (he : Executes s tag 0x0309 f) (vibrates : isVib (s.func f.unit) = true)
  (now : byteAt f.req 16 ≠ 1)
include he vibrates now

/-- A capture that names no start tick starts at the next one: never in the past, it is refused only while another is in flight. -/
theorem exec_chanVibCapture_now : exec (.chanVibCapture t tag) s =
    .next (if s.host.waits.any (fun w => decide (w.kind = .vibCapture)) then (s.acting t).refuse f (.busy, s.vib.origin, [])
      else ({ s.acting t with vib := { s.vib with next := some (f.unit, s.frame.seq), origin := f.origin.code } }).wait f
        .vibCapture).takeNext := by
  have vibrates : isVib ((s.acting t).func f.unit) = true := vibrates
  have input : (!isVib ((s.acting t).func f.unit)) ≠ true := by simp [vibrates]
  refine exec_row_eq rfl he ?_
  dsimp only
  rw [if_neg input, if_neg now, if_neg (Nat.lt_irrefl _)]
  rfl

/-- The buffer is free: the request waits for its last sample. -/
theorem exec_chanVibCapture_free (free : ∀ w ∈ s.host.waits, w.kind ≠ .vibCapture) : exec (.chanVibCapture t tag) s =
    .next (({ s.acting t with vib := { s.vib with next := some (f.unit, s.frame.seq), origin := f.origin.code } }).wait f
      .vibCapture).takeNext := by
  have unheld : s.host.waits.any (fun w => decide (w.kind = .vibCapture)) ≠ true := by simpa using free
  rw [exec_chanVibCapture_now he vibrates now, if_neg unheld]

/-- Another capture is in flight: the refusal names its holder. -/
theorem exec_chanVibCapture_busy {w : Wait} (waits : w ∈ s.host.waits) (kind : w.kind = .vibCapture) :
    exec (.chanVibCapture t tag) s = .next ((s.acting t).complete f .busy s.vib.origin []).takeNext := by
  have one : s.host.waits.any (fun w => decide (w.kind = .vibCapture)) = true :=
    List.any_eq_true.2 ⟨w, waits, decide_eq_true kind⟩
  rw [exec_chanVibCapture_now he vibrates now, if_pos one, State.refuse_eq (by decide)]

end

/-! ## The last samples -/

section

variable {s : State} {l : List F32} (full : 4096 ≤ s.vib.samples.length + l.length)
include full

/-- The samples that fill the buffer end the capture and answer its request. -/
theorem State.vibTake_full : ∃ sel : WaitKind → Option (Status × Nat × List Byte), (sel .vibCapture).isNone = false ∧ s.vibTake l =
    ({ s with vib := { s.vib with samples := (s.vib.samples ++ l).take 4096, running := false } }).endWaits sel := by
  have last : 4096 ≤ ((s.vib.samples ++ l).take 4096).length := by
    rw [List.length_take, List.length_append]
    omega
  exact ⟨_, rfl, if_pos last⟩

/-- The capture is over, its buffer full, and no request waits for it. -/
theorem State.vibTake_ends : (s.vibTake l).vib.running = false ∧ (s.vibTake l).vib.samples = (s.vib.samples ++ l).take 4096 ∧
    ∀ w ∈ (s.vibTake l).host.waits, w.kind ≠ .vibCapture := by
  obtain ⟨sel, chosen, taken⟩ := State.vibTake_full full
  rw [taken, State.endWaits_vib, State.endWaits_waits]
  refine ⟨rfl, rfl, fun w left kind => ?_⟩
  have unchosen := (List.mem_filter.1 left).2
  rw [kind, chosen] at unchosen
  exact Bool.false_ne_true unchosen

end

section

variable {s : State} (t : Nat) {l : List Int}

theorem exec_vibCaptureDone_full {n : Nat} (running : s.vib.running = true) (chan : s.vib.chan = some n)
    (full : 4096 ≤ s.vib.samples.length + l.length) :
    exec (.vibCaptureDone t l) s = .next ((s.advance t).vibTake (l.map ((s.advance t).stage1 n))) := by
  change execVibCaptureDone t l s = _
  simp only [execVibCaptureDone, State.advance_vib, running, chan]
  exact congrArg Host.Outcome.next (if_pos full)

theorem exec_vibCaptureDone_idle (idle : s.vib.running = false) : exec (.vibCaptureDone t l) s = .next (s.advance t) := by
  change execVibCaptureDone t l s = _
  simp only [execVibCaptureDone, State.advance_vib, idle]

end

/-! ## The buffer is read -/

/-- A capture of this channel that is over: the samples asked for, as far as the buffer has them. -/
theorem exec_chanVibRead_done {s : State} {t tag : Nat} {f : Flight} (he : Executes s tag 0x030A f) (mine : s.vib.chan = some f.unit)
    (ended : s.vib.running = false) (inside : u16At f.req 16 + u16At f.req 18 ≤ 4096) : exec (.chanVibRead t tag) s =
    .next ((s.acting t).ok f (le16 (u16At f.req 16) ++ le16 (u16At f.req 18) ++
      ((s.vib.samples.drop (u16At f.req 16)).take (u16At f.req 18)).flatMap leF32)).takeNext := by
  have readable : ¬ (s.vib.chan ≠ some f.unit ∨ s.vib.running = true) := by simp [mine, ended]
  exact exec_row_eq rfl he ((if_neg readable).trans (if_neg (by omega)))

/-- Settles O38: each row by what its operation does to the buffer and to the request that waits for it. -/
theorem vibrationCapture : Obligations.VibrationCapture := by
  intro s t tag f
  dsimp only
  refine ⟨exec_chanVibCapture_free,
    fun w waits kind he vibrates now => exec_chanVibCapture_busy he vibrates now waits kind,
    fun n l running chan full => ⟨_, exec_vibCaptureDone_full t running chan full, State.vibTake_ends ?_⟩,
    fun l idle => exec_vibCaptureDone_idle t idle,
    exec_chanVibRead_done⟩
  rwa [List.length_map]

end Sys2Proof.Machine
end

section
/-!
PROOFS. What an output judges at its captures, the end of its ramp-down, its set point and its status (R193 to R195, R200, R210,
R211).
-/

namespace Sys2Proof.Machine

open Sys2Proof

/-- A frame that opens leaves the outputs. -/
@[simp] theorem State.out_toFrame (s : State) (t n : Nat) : (s.toFrame t).out n = s.out n := by
  unfold State.toFrame; dsimp only
  split
  all_goals rfl

/-- A condition that does not hold has held for no time. -/
theorem held_none (now d : Nat) : held none now d = false := rfl

/-- A condition has held from the instant on at which its time has run. -/
theorem held_of_some {p : Option Nat} {x now d : Nat} (began : p = some x) (due : x + d ≤ now) : held p now d = true := by
  rw [began]
  exact decide_eq_true due

section

variable {s : State} {n : Nat}

/-! ## Compliance (R193) -/

/-- An output that has not been in `COMPLIANCE` since it started enters it with a record. -/
theorem State.complEnter_first (clear : (s.out n).compl = false) (never : (s.out n).leftAt = none) : s.complEnter n =
    (s.modOut n (fun o => { o with compl := true, goodSince := none })).logChan n 0x0314 5 (twos 32 (s.out n).h)
      (twos 32 (s.out n).rb) := by
  simp only [State.complEnter, clear, never, Bool.false_eq_true, if_false]

theorem State.complTimer_due {x : Nat} (low : (s.out n).lowSince = some x) (due : x + 32000000 ≤ s.clk.now) :
    s.complTimer n = s.complEnter n := if_pos (held_of_some low due)

theorem State.complTimer_idle (high : (s.out n).lowSince = none) : s.complTimer n = s := by
  simp only [State.complTimer, high, held_none, Bool.false_eq_true, if_false]

theorem State.complLeave_due {x : Nat} (limited : (s.out n).compl = true) (good : (s.out n).goodSince = some x)
    (due : x + 10000000 ≤ s.clk.now) : s.complLeave n =
    s.modOut n (fun o => { o with compl := false, goodSince := none, openSince := none, leftAt := some s.clk.now }) :=
  if_pos (by rw [limited, held_of_some (d := ms 10) good due]; rfl)

theorem State.complLeave_idle (h : (s.out n).compl = false ∨ (s.out n).goodSince = none) : s.complLeave n = s := by
  refine if_neg ?_
  obtain clear | bad := h
  · simp [clear]
  · simp [bad, held_none]

/-! ## The open load and its probes (R194) -/

theorem State.openDeclare_due {x : Nat} (closed : (s.out n).isOpen = false) (below : (s.out n).openSince = some x)
    (due : x + 32000000 ≤ s.clk.now) : s.openDeclare n =
    (s.modOut n (fun o => { o with isOpen := true, openSince := none, probeAt := s.clk.now + 1000000000,
                                   probing := false })).logChan n 0x0315 5 (twos 32 (s.out n).rb)
      (twos 32 (milli (s.out n).applied)) :=
  if_pos (by rw [closed, held_of_some (d := ms 32) below due]; rfl)

theorem State.openDeclare_idle (h : (s.out n).isOpen = true ∨ (s.out n).openSince = none) : s.openDeclare n = s := by
  refine if_neg ?_
  obtain declared | above := h
  · simp [declared]
  · simp [above, held_none]

section

variable (declared : (s.out n).isOpen = true)
include declared

/-- A read-back of 1 mA ends the declaration: any of a sink, one of a probe of a source. -/
theorem State.probeStep_closed (flows : 1 ≤ (s.out n).y.toRat) (probed : (s.out n).func = 17 ∨ (s.out n).probing = true) :
    s.probeStep n = (s.modOut n (fun o => { o with isOpen := false, probing := false })).logChan n 0x0316 3
      (twos 32 (s.out n).rb) 0 := by
  have ends : (decide (1 ≤ (s.out n).y.toRat) && (decide ((s.out n).func = 17) || (s.out n).probing)) = true := by
    simp [flows, probed]
  exact (if_neg (by simp [declared])).trans (if_pos ends)

/-- Without a read-back the probe runs its 50 ms and the next one is set. -/
theorem State.probeStep_open (dry : (s.out n).y.toRat < 1) : s.probeStep n =
    if (s.out n).probeAt + 50000000 ≤ s.clk.now then
      s.modOut n (fun o => { o with probing := false, probeAt := o.probeAt + 1000000000 })
    else s.modOut n (fun o => { o with probing := decide (o.probeAt ≤ s.clk.now) }) := by
  have lasts : ¬ (decide (1 ≤ (s.out n).y.toRat) && (decide ((s.out n).func = 17) || (s.out n).probing)) = true := by
    simp [Rat.not_le.2 dry]
  exact (if_neg (by simp [declared])).trans (if_neg lasts)

end

/-! ## The ramp-down (R200) -/

/-- After 5 ms the driver is off; the set point stays. -/
theorem State.outRampStep_end {x : Nat} {v : F32} (ramps : (s.out n).drive = .rampDown x v) (due : x + 5000000 ≤ s.clk.now) :
    s.outRampStep n = s.modOut n (fun o => { ({} : OutSt) with setPoint := o.setPoint }) := by
  simp only [State.outRampStep, ramps]
  exact if_pos due

end

/-! ## The rows of an output that exists -/

section

variable {s : State} {t ch : Nat} (hch : ch < 64)
include hch

theorem exec_complianceTimer : exec (.complianceTimer t ch) s = .next ((s.toFrame t).complTimer ch) :=
  guardUnit_next (decide_eq_true hch)

theorem exec_complianceClear : exec (.complianceClear t ch) s = .next ((s.toFrame t).complLeave ch) :=
  guardUnit_next (decide_eq_true hch)

theorem exec_loopOpen : exec (.loopOpen t ch) s = .next ((s.toFrame t).openDeclare ch) := guardUnit_next (decide_eq_true hch)

theorem exec_openProbe : exec (.openProbe t ch) s = .next ((s.toFrame t).probeStep ch) := guardUnit_next (decide_eq_true hch)

theorem exec_loopOver : exec (.loopOver t ch) s = .next ((s.toFrame t).overStep ch) := guardUnit_next (decide_eq_true hch)

theorem exec_loopRampDownEnd : exec (.loopRampDownEnd t ch) s = .next ((s.advance t).outRampStep ch) :=
  guardUnit_next (decide_eq_true hch)

end

/-- Settles O39: each row by what the output judges in the frame at hand, which finds the output as it stood. That the first probe
of an open output begins 1 s after the declaration and is judged at captures is the model's choice (log 47). -/
theorem outputEvents : Obligations.OutputEvents := by
  intro s t ch hch
  dsimp only
  rw [← s.out_toFrame t ch]
  refine ⟨fun x clear low due never => ?_, fun high => ?_, fun x limited good due => ?_, fun h => ?_,
    fun x closed below due => ?_, fun h => ?_, fun declared flows probed => ?_, fun declared dry running => ?_,
    fun declared dry ended => ?_, exec_loopOver hch, fun x v ramps due => ?_⟩
  · rw [exec_complianceTimer hch, State.complTimer_due low due, State.complEnter_first clear never]
  · rw [exec_complianceTimer hch, State.complTimer_idle high]
  · rw [exec_complianceClear hch, State.complLeave_due limited good due]
  · rw [exec_complianceClear hch, State.complLeave_idle h]
  · rw [exec_loopOpen hch, State.openDeclare_due closed below due]
  · rw [exec_loopOpen hch, State.openDeclare_idle h]
  · rw [exec_openProbe hch, State.probeStep_closed declared flows probed]
  · rw [exec_openProbe hch, State.probeStep_open declared dry, if_neg (Nat.not_le.2 running)]
  · rw [exec_openProbe hch, State.probeStep_open declared dry, if_pos ended]
  · rw [State.out_toFrame] at ramps
    rw [exec_loopRampDownEnd hch, State.outRampStep_end (s := s.advance t) ramps due]

/-! ## Set points (R211) -/

section

variable {s : State} {t tag : Nat} {f : Flight} (he : Executes s tag 0x030B f)
include he

/-- A channel that is no output, or one with another source, takes no set point. -/
theorem exec_chanOutSet_other (h : isOut (s.func f.unit) = false ∨ s.chField f.unit 64 1 ≠ 0) :
    exec (.chanOutSet t tag) s = .next ((s.acting t).complete f .badField 8 []).takeNext := by
  have refused : (!isOut (s.func f.unit) || s.chField f.unit 64 1 != 0) = true := by
    obtain other | sourced := h
    · simp [other]
    · simp [sourced]
  exact exec_row_eq rfl he ((if_pos refused).trans (State.refuse_eq (by decide)))

/-- An output that follows its set point takes a finite one as a live command. -/
theorem exec_chanOutSet_output (output : isOut (s.func f.unit) = true) (follows : s.chField f.unit 64 1 = 0) :
    exec (.chanOutSet t tag) s = .next (if (f32At f.req 16).finite then (s.acting t).addLive (.outSet f.unit (f32At f.req 16)) f
      else (s.acting t).complete f .badField 16 []).takeNext := by
  have passes : ¬ (!isOut (s.func f.unit) || s.chField f.unit 64 1 != 0) = true := by simp [output, follows]
  refine exec_row_eq rfl he ((if_neg passes).trans ?_)
  cases (f32At f.req 16).finite with
  | true => rfl
  | false => exact State.refuse_eq (by decide)

end

/-- The answer of a live command leaves the outputs. -/
@[simp] theorem State.out_answerLive (s : State) (c : LiveCmd) (d : Nat) (p : List Byte) (n : Nat) :
    (s.answerLive c d p).out n = s.out n := by
  unfold State.answerLive
  split
  all_goals rfl

/-- A live set point whose role still stands is stored. -/
theorem State.applyOutLive_current {s : State} {c : LiveCmd} {n : Nat} {v : F32} (kind : c.kind = .outSet n v) (fresh : c.applied = none)
    (current : c.role = s.cfg.roles.get .chan n) : s.applyOutLive c =
    (s.modOut n (fun o => { o with setPoint := some v })).answerLive c 0 (leF32 (s.outCommand n v)) := by
  simp only [State.applyOutLive, kind, fresh, current, bne_self_eq_false, Bool.false_eq_true, if_false]

/-! ## Status (R210) -/

theorem exec_chanOutStatus_output {s : State} {t tag : Nat} {f : Flight} (he : Executes s tag 0x030C f)
    (output : isOut (s.func f.unit) = true) : let o := s.out f.unit; let k := s.bank (f.unit / 8)
    exec (.chanOutStatus t tag) s = .next ((s.acting t).ok f (leF32 o.applied ++ leF32 o.y ++ leF32 (f32q o.h 1000) ++
      leF32 (f32q o.diss 1000000) ++ leF32 (f32q (if k.supplyOn then k.setPt else 0) 10) ++ le8 (s.chan f.unit).q.code ++
      zeros 3)).takeNext := by
  have passes : ¬ (!isOut (s.func f.unit)) = true := by simp [output]
  exact exec_row_eq rfl he (if_neg passes)

/-- Settles O40: the request by what it asks of the output, the live command by what it leaves of the outputs. That a set point
that is not finite is `BAD_FIELD` 16 is log 42. -/
theorem outputOpcodes : Obligations.OutputOpcodes := by
  intro s t tag f
  dsimp only
  refine ⟨fun he output follows finite => ?_, exec_chanOutSet_other, fun he output follows notFinite => ?_,
    fun c n v kind fresh current has => ?_, exec_chanOutStatus_output⟩
  · rw [exec_chanOutSet_output he output follows, if_pos finite]
  · rw [exec_chanOutSet_output he output follows, if_neg (Bool.eq_false_iff.1 notFinite)]
  · rw [State.applyOutLive_current kind fresh current]
    refine ⟨?_, fun m other => ?_⟩
    · rw [State.out_answerLive, State.out_modOut_self _ has]
    · rw [State.out_answerLive, State.out_modOut_ne _ other.symm]

end Sys2Proof.Machine
end

section
/-!
PROOFS. A transaction of a modem from its queue to its answer, and the frames of burst listening (R13, R206 to R209, Tables 07.10
to 07.15).
-/

namespace Sys2Proof.Machine

open Sys2Proof

/-- Two changes of a modem that agree on what it is are the same change. -/
theorem State.modModem_congr {s : State} {b : Nat} {f g : ModemSt → ModemSt} (h : f (s.modem b) = g (s.modem b)) :
    s.modModem b f = s.modModem b g := by
  unfold State.modModem
  rw [modAt_congr {} (fun _ => h)]

/-- 28 characters of 1,200 bit/s, the response timeout (R206). -/
theorem chars_28 : chars 28 = 256666667 := by decide

/-- 8 characters, the wait between attempts (R206). -/
theorem chars_8 : chars 8 = 73333334 := by decide

/-- A modem without a transaction attaches and sends nothing. -/
theorem State.fskAttach_empty {s : State} {b : Nat} (empty : (s.modem b).head = none) : s.fskAttach b = s := by
  simp only [State.fskAttach, empty]

theorem State.fskSend_empty {s : State} {b : Nat} (empty : (s.modem b).head = none) : s.fskSend b = s := by
  simp only [State.fskSend, empty]

section

variable {s : State} {b : Nat} {x : FskTx}

/-! ## Leaving the queue (Table 07.10) -/

/-- A transaction whose role epoch still stands leaves the queue. -/
theorem State.fskLeave_current (go : State → State) (current : s.cfg.roles.get .chan x.chan = x.role) :
    s.fskLeave b x go = go s := if_pos current

/-- The link watchdog holds the bank: nothing is sent (R13). -/
theorem State.fskStart_tripped (tripped : (s.bank b).tripped = true) : s.fskStart b = s := if_pos tripped

section

variable (head : (s.modem b).head = some x)
include head

/-- A line that has been silent long enough is attached to. -/
theorem State.fskAttach_silent (queued : x.state = .queued)
    (silent : (s.modem b).carrier.getD (x.chan % 8) 0 + (s.modem b).silence x ≤ s.clk.now)
    (current : s.cfg.roles.get .chan x.chan = x.role) : s.fskAttach b = s.modModem b (fun m =>
      (m.modHead (fun x => { x with state := .attach, since := s.clk.now })).attachTo (some x.chan) s.clk.now) := by
  simp only [State.fskAttach, head, queued, silent, decide_true, Bool.and_self, if_true, State.fskLeave_current _ current]

/-! ## Sending (R13, R207) -/

/-- The request of the head goes out, as one more attempt. -/
theorem State.fskStart_sends (free : (s.bank b).tripped = false) : s.fskStart b = s.modModem b (fun m =>
    { m.modHead (fun x => { x with state := .send, attempts := x.attempts + 1, since := s.clk.now }) with sent := x.request }) := by
  refine (if_neg (by simp [free])).trans (State.modModem_congr ?_)
  simp only [head]

/-- A transaction that attaches sends 2 ms later. -/
theorem State.fskSend_attaching (attaching : x.state = .attach) :
    s.fskSend b = if x.since + 2000000 ≤ s.clk.now then s.fskStart b else s := by
  simp only [State.fskSend, head, attaching, decide_true, Bool.true_and, reduceCtorEq, decide_false, Bool.false_and,
    Bool.false_eq_true, if_false, decide_eq_true_eq]
  rfl

/-! ## The answer (Table 07.10) -/

/-- A well-formed response to the request ends the transaction, which is answered when the next frame is published (R65). -/
theorem State.fskRespond_accepted {pre : Nat} {parity : Bool} {data : List Byte} {f : FskFrame} (waits : x.state = .wait_)
    (parsed : fskParse 0x06 0x86 pre parity data = some f) (accepted : x.accepts f = true) : s.fskRespond b pre parity data =
    (s.modModem b (fun m => m.endHead x s.clk.now true)).wait x.fl (.publish (fskResponse x.attempts f)) := by
  simp only [State.fskRespond, head, waits, parsed, accepted, if_true]

end

/-- A failed attempt without retries gives the transaction up. -/
theorem State.fskFail_last (spent : x.retries = 0) : s.fskFail b x =
    (s.modModem b (fun m => m.endHead x s.clk.now true)).complete x.fl .aborted 1 [] := if_neg (by rw [spent]; decide)

/-- One with retries waits for the next attempt. -/
theorem State.fskFail_retries (more : 0 < x.retries) : s.fskFail b x = s.modModem b (fun m => m.modHead (fun x =>
    { x with state := .retry, retries := x.retries - 1, since := s.clk.now })) := if_pos more

end

/-! ## Burst frames (R209) -/

section

variable {s : State} {b n o r pre : Nat} {parity : Bool} {data : List Byte} (listens : (s.modem b).burst = some (n, o, r))
include listens

/-- A well-formed frame that ends while the modem listens is stored. -/
theorem State.burstFrame_accepted {f : FskFrame} (attached : (s.modem b).attached = some n)
    (complete : (s.modem b).attachAt ≤ s.clk.now) (idle : (s.modem b).queue = [])
    (parsed : fskParse 0x01 0x81 pre parity data = some f) : s.burstFrame b pre parity data = s.modModem b (fun m =>
      { m with carrier := modAt m.carrier (n % 8) (fun _ => s.clk.now), accepted := satAdd 65535 m.accepted 1, lastFrame := data,
               lastTime := s.nowTs, burstEnd := some s.clk.now }) := by
  have empty : (s.modem b).head = none := by rw [ModemSt.head, idle]; rfl
  simp only [State.burstFrame, listens]
  refine State.modModem_congr ?_
  simp only [listens, attached, complete, empty, parsed, decide_true, Bool.not_false, Bool.and_self]

/-- A garbled frame, or one that the modem does not listen to, is counted. -/
theorem State.burstFrame_missed (h : fskParse 0x01 0x81 pre parity data = none ∨ (s.modem b).attached ≠ some n ∨
    s.clk.now < (s.modem b).attachAt) : s.burstFrame b pre parity data = s.modModem b (fun m =>
      { m with carrier := modAt m.carrier (n % 8) (fun _ => s.clk.now), missed := satAdd 65535 m.missed 1 }) := by
  simp only [State.burstFrame, listens]
  refine State.modModem_congr ?_
  obtain garbled | elsewhere | early := h
  · simp only [listens, garbled]
    split
    · contradiction
    · rfl
  · simp only [listens, elsewhere, decide_false, Bool.false_and]
  · simp only [listens, Nat.not_le.2 early, decide_false, Bool.and_false, Bool.false_and]

end

/-! ## The rows of a bank that exists -/

section

variable {s : State} {t b : Nat} (hb : b < 8)
include hb

theorem exec_fskAttach : exec (.fskAttach t b) s = .next ((s.advance t).fskAttach b) := guardUnit_next (decide_eq_true hb)

theorem exec_fskSend : exec (.fskSend t b) s = .next ((s.advance t).fskSend b) := guardUnit_next (decide_eq_true hb)

theorem exec_fskCheckSent : exec (.fskCheckSent t b) s = .next ((s.advance t).modModem b (fun m => m.modHead (fun x =>
    if x.state = .send then { x with state := .wait_, since := (s.advance t).clk.now } else x))) :=
  guardUnit_next (decide_eq_true hb)

theorem exec_fskResponse (pre : Nat) (parity : Bool) (data : List Byte) :
    exec (.fskResponse t b pre parity data) s = .next ((s.advance t).fskRespond b pre parity data) :=
  guardUnit_next (decide_eq_true hb)

theorem exec_burstFrame (pre : Nat) (parity : Bool) (data : List Byte) :
    exec (.burstFrame t b pre parity data) s = .next ((s.advance t).burstFrame b pre parity data) :=
  guardUnit_next (decide_eq_true hb)

theorem exec_fskRetry_empty (empty : (s.modem b).head = none) : exec (.fskRetry t b) s = .next (s.advance t) := by
  have empty' : ((s.advance t).modem b).head = none := empty
  refine (guardUnit_next (decide_eq_true hb)).trans (congrArg Host.Outcome.next ?_)
  simp only [empty']

section

variable {x : FskTx} (head : (s.modem b).head = some x)
include head

/-- 28 characters without carrier are a failed attempt. -/
theorem exec_fskResponseTimeout_due (waits : x.state = .wait_) (due : x.since + 256666667 ≤ (s.advance t).clk.now) :
    exec (.fskResponseTimeout t b) s = .next ((s.advance t).fskFail b x) := by
  have head' : ((s.advance t).modem b).head = some x := head
  refine (guardUnit_next (decide_eq_true hb)).trans (congrArg Host.Outcome.next ?_)
  simp only [head']
  exact if_pos (by simp only [waits, chars_28, due, decide_true, Bool.and_self])

/-- The next attempt follows 8 characters after the failed one. -/
theorem exec_fskRetry_due (failed : x.state = .retry) (due : x.since + 73333334 ≤ (s.advance t).clk.now) :
    exec (.fskRetry t b) s = .next ((s.advance t).fskStart b) := by
  have head' : ((s.advance t).modem b).head = some x := head
  refine (guardUnit_next (decide_eq_true hb)).trans (congrArg Host.Outcome.next ?_)
  simp only [head']
  exact if_pos (by simp only [failed, chars_8, due, decide_true, Bool.and_self])

end

end

/-- Settles O41: each row by what its operation does to the modem, in the state that time has run on to. That carrier is
judged per channel is log 60; that the address of a burst frame is not checked (log 96) and that the attachment is judged by the end of
a frame (log 100) are the model's choices. -/
theorem fskTransactions : Obligations.FskTransactions := by
  intro s t b hb
  dsimp only
  refine ⟨fun x head queued silent current => ?_, fun x head attaching due free => ?_, fun x head attaching tripped => ?_,
    exec_fskCheckSent hb, fun x p r d f head waits parsed accepted => ?_, fun x head waits due last => ?_,
    fun x head waits due more => ?_, fun x head failed due free => ?_,
    fun n o r p q d f listens attached complete idle parsed => ?_, fun n o r p q d listens h => ?_,
    fun empty => ⟨?_, ?_, exec_fskRetry_empty hb empty⟩⟩
  · rw [exec_fskAttach hb, State.fskAttach_silent (s := s.advance t) head queued silent current]
  · rw [exec_fskSend hb, State.fskSend_attaching (s := s.advance t) head attaching, if_pos due,
      State.fskStart_sends (s := s.advance t) head free]
  · rw [exec_fskSend hb, State.fskSend_attaching (s := s.advance t) head attaching,
      State.fskStart_tripped (s := s.advance t) tripped, ite_self]
  · rw [exec_fskResponse hb, State.fskRespond_accepted (s := s.advance t) head waits parsed accepted]
  · rw [exec_fskResponseTimeout_due hb head waits due, State.fskFail_last last]
  · rw [exec_fskResponseTimeout_due hb head waits due, State.fskFail_retries more]
  · rw [exec_fskRetry_due hb head failed due, State.fskStart_sends (s := s.advance t) head free]
  · rw [exec_burstFrame hb, State.burstFrame_accepted (s := s.advance t) listens attached complete idle parsed]
  · rw [exec_burstFrame hb, State.burstFrame_missed (s := s.advance t) listens h]
  · rw [exec_fskAttach hb, State.fskAttach_empty (s := s.advance t) empty]
  · rw [exec_fskSend hb, State.fskSend_empty (s := s.advance t) empty]

end Sys2Proof.Machine
end

section
/-!
PROOFS. The FSK opcodes: a transaction is queued, burst listening starts, stops and is read (R208, R209, R211).
-/

namespace Sys2Proof.Machine

open Sys2Proof

/-! ## A transaction is asked for (R208) -/

/-- A request that Tables 07.12 and 07.13 let pass joins the queue of its modem, of at most eight. -/
theorem exec_chanFskXfer_passed {s : State} {t tag : Nat} {f : Flight} (he : Executes s tag 0x030D f)
    (passes : fskBad (s.func f.unit) f = none) : exec (.chanFskXfer t tag) s =
    .next (if 8 ≤ (s.modem (f.unit / 8)).queue.length then (s.acting t).complete f .queueFull 0 []
      else (s.acting t).modModem (f.unit / 8) (fun m => { m with queue := m.queue ++
        [{ fl := f, chan := f.unit, role := f.roleEpoch, retries := byteAt f.req 18, since := (s.acting t).clk.now }] })).takeNext := by
  have passes' : fskBad ((s.acting t).func f.unit) f = none := passes
  refine exec_row_eq rfl he ?_
  simp only [passes', State.refuse_eq (st := .queueFull) (by decide)]
  rfl

/-! ## Burst listening (R209) -/

/-- A channel that carries FSK passes its check in the state in which the request acts. -/
theorem State.acting_carries {s : State} {n : Nat} (t : Nat) (carries : fskFunc (s.func n) = true) :
    ¬ (!fskFunc ((s.acting t).func n)) = true := by
  change ¬ (!fskFunc (s.func n)) = true
  simp [carries]

section

variable {s : State} {t tag : Nat} {f : Flight} (he : Executes s tag 0x030E f) (carries : fskFunc (s.func f.unit) = true)
include he carries

/-- Action 1 while the modem is free: it attaches and listens from then on. -/
theorem exec_chanFskBurst_start (start : byteAt f.req 16 = 1) (deaf : (s.modem (f.unit / 8)).burst = none)
    (idle : (s.modem (f.unit / 8)).queue = []) : exec (.chanFskBurst t tag) s =
    .next (((s.acting t).modModem (f.unit / 8) (fun m =>
      { m.attachTo (some f.unit) (s.acting t).clk.now with
        burst := some (f.unit, f.origin.code, s.cfg.roles.get .chan f.unit), accepted := 0, missed := 0, lastFrame := [],
        lastTime := 0, burstEnd := none })).ok f []).takeNext := by
  have deaf' : ((s.acting t).modem (f.unit / 8)).burst = none := deaf
  have idle' : ((s.acting t).modem (f.unit / 8)).queue = [] := idle
  refine exec_row_eq rfl he ((if_neg (State.acting_carries t carries)).trans ?_)
  simp only [start, deaf']
  refine congrArg (fun u : State => u.ok f []) (State.modModem_congr ?_)
  simp only [idle', List.any_nil, Bool.false_eq_true, if_false]
  rfl

/-- Action 1 while the modem listens to another channel: the refusal names who asked for that. -/
theorem exec_chanFskBurst_busy {n o r : Nat} (start : byteAt f.req 16 = 1)
    (listens : (s.modem (f.unit / 8)).burst = some (n, o, r)) (other : n ≠ f.unit) :
    exec (.chanFskBurst t tag) s = .next ((s.acting t).complete f .busy o []).takeNext := by
  have listens' : ((s.acting t).modem (f.unit / 8)).burst = some (n, o, r) := listens
  refine exec_row_eq rfl he ((if_neg (State.acting_carries t carries)).trans ?_)
  simp only [start, listens', other, if_false]
  exact State.refuse_eq (by decide)

/-- Action 0 ends listening on this channel; a modem without a transaction detaches. -/
theorem exec_chanFskBurst_stop {o r : Nat} (stop : byteAt f.req 16 = 0)
    (listens : (s.modem (f.unit / 8)).burst = some (f.unit, o, r)) (idle : (s.modem (f.unit / 8)).queue = []) :
    exec (.chanFskBurst t tag) s = .next (((s.acting t).modModem (f.unit / 8) (fun m =>
      { m with burst := none, burstEnd := none, attached := none })).ok f []).takeNext := by
  have listens' : ((s.acting t).modem (f.unit / 8)).burst = some (f.unit, o, r) := listens
  have idle' : ((s.acting t).modem (f.unit / 8)).queue = [] := idle
  refine exec_row_eq rfl he ((if_neg (State.acting_carries t carries)).trans ?_)
  simp only [stop, listens', Option.map_some, if_true]
  refine congrArg (fun u : State => u.ok f []) (State.modModem_congr ?_)
  simp only [idle', List.any_nil, Bool.false_eq_true, if_false]

/-- Every other action reads. -/
theorem exec_chanFskBurst_read (read : 2 ≤ byteAt f.req 16) : exec (.chanFskBurst t tag) s =
    .next ((s.acting t).ok f ((s.modem (f.unit / 8)).burstRead f.unit)).takeNext := by
  refine exec_row_eq rfl he ((if_neg (State.acting_carries t carries)).trans ?_)
  split
  · next stop => omega
  · next start => omega
  · rfl

end

/-- Settles O42: each opcode by what it asks of the modem. That the modem attaches from the instant on at which listening begins is the
model's choice (log 100). -/
theorem fskOpcodes : Obligations.FskOpcodes := by
  intro s t tag f
  dsimp only
  refine ⟨fun he passes room => ?_, fun he passes full => ?_, exec_chanFskBurst_start,
    fun n o r he carries start listens other => exec_chanFskBurst_busy he carries start listens other,
    fun o r he carries stop listens idle => exec_chanFskBurst_stop he carries stop listens idle, exec_chanFskBurst_read⟩
  · rw [exec_chanFskXfer_passed he passes, if_neg (Nat.not_le.2 room)]
  · rw [exec_chanFskXfer_passed he passes, if_pos full]

end Sys2Proof.Machine
end

section
/-!
PROOFS. Step 5 for one weir in a frame without a shelve or a service command: Table 08.11 (R227 to R230).
-/

namespace Sys2Proof.Machine

open Sys2Proof

/-! ## An unmasked weir -/

/-- An unmasked weir at the end of step 5: where a mask has ended, what stands is shown again, else the weir moves on. -/
def resurface (c : WeirCfg) (w : WeirSt) : WeirSt × List WeirLog :=
  if w.state.masked then
    if w.failed then toFault c w else if w.cond then activate c w else (w.toNormal, [])
  else unmasked c w

section

variable {c : WeirCfg} {w : WeirSt}

/-- A failed source shows, and is logged once. -/
theorem resurface_failed (failed : w.failed = true) :
    resurface c w = if w.state = .sourceFault then (w, []) else toFault c w := by
  by_cases masked : w.state.masked = true
  · have other : w.state ≠ .sourceFault := fun h => by simp [h, WState.masked] at masked
    simp [resurface, masked, failed, other]
  · simp [resurface, masked, unmasked, failed]

section

variable (sound : w.failed = false)
include sound

/-- A mask has ended: CONDITION alone decides. -/
theorem resurface_masked (masked : w.state.masked = true) :
    resurface c w = if w.cond then activate c w else (w.toNormal, []) := by
  simp [resurface, masked, sound]

/-- CONDITION sets. -/
theorem resurface_raised (quiet : w.state = .normal ∨ w.state = .rtnUnack) (cond : w.cond = true) :
    resurface c w = activate c w := by
  obtain state | state := quiet <;> simp [resurface, WState.masked, unmasked, state, sound, cond]

/-- CONDITION clears. -/
theorem resurface_returned (active : w.state = .activeUnack ∨ w.state = .activeAck) (cond : w.cond = false) :
    (resurface c w).1.state = (if w.state = .activeUnack ∧ c.noAck = false then .rtnUnack else .normal) ∧
      (resurface c w).2.map (fun l => l.code) = [0x0402] := by
  obtain state | state := active <;> simp [resurface, WState.masked, unmasked, state, sound, cond]

/-- Nothing moves while the state agrees with CONDITION. -/
theorem resurface_still (h : (w.state = .normal ∨ w.state = .rtnUnack) ∧ w.cond = false ∨
    (w.state = .activeUnack ∨ w.state = .activeAck) ∧ w.cond = true) : resurface c w = (w, []) := by
  obtain ⟨state | state, cond⟩ | ⟨state | state, cond⟩ := h <;> simp [resurface, WState.masked, unmasked, state, sound, cond]

/-- The source has come back; CONDITION is clear. -/
theorem resurface_recovered (state : w.state = .sourceFault) (cond : w.cond = false) :
    (resurface c w).1 = w.toNormal ∧ (resurface c w).2.map (fun l => l.code) = [0x0404] := by
  simp [resurface, WState.masked, unmasked, WeirSt.toNormal, state, sound, cond]

end

/-- With `NO_ACK` a weir does not come to wait for an acknowledgement. -/
theorem resurface_noAck (noAck : c.noAck = true) (h : w.state ≠ .rtnUnack) :
    (resurface c w).1.state ≠ .rtnUnack ∧ (w.state ≠ .activeUnack → (resurface c w).1.state ≠ .activeUnack) := by
  cases failed : w.failed with
  | true =>
    rw [resurface_failed failed]
    split
    · next state => simp [state]
    · simp [toFault]
  | false =>
    cases state : w.state with
    | rtnUnack => exact absurd state h
    | _ => cases cond : w.cond <;> simp [resurface, WState.masked, unmasked, activate, WeirSt.toNormal, state, cond, failed, noAck]

end

/-! ## Acknowledgements (R230) -/

/-- A masked state has no alarm to acknowledge. -/
theorem WState.ne_of_masked {x : WState} (h : x.masked = true) : x ≠ .activeUnack ∧ x ≠ .rtnUnack := by
  cases x <;> simp [WState.masked] at h ⊢

section

variable {w : WeirSt} (o : Nat)

/-- An alarm that waits for its acknowledgement. -/
theorem ackOne_waiting (waits : w.state = .activeUnack ∨ w.state = .rtnUnack) :
    (ackOne (w, []) o).1 = { w with
      faultUnack := false, state := if w.state = .activeUnack then .activeAck else .normal } ∧
    (ackOne (w, []) o).2.map (fun l => l.code) = [0x0405] := by
  obtain state | state := waits <;> simp [ackOne, WeirSt.ackable, state]

/-- Else only a failed source can be acknowledged. -/
theorem ackOne_flag (h : w.state ≠ .activeUnack ∧ w.state ≠ .rtnUnack) :
    (ackOne (w, []) o).1 = { w with faultUnack := false } ∧
    (ackOne (w, []) o).2.map (fun l => l.code) = (if w.faultUnack then [0x0405] else []) ∧ w.ackable = w.faultUnack := by
  obtain ⟨active, rtn⟩ := h
  cases fault : w.faultUnack with
  | true => simp [ackOne, WeirSt.ackable, active, rtn, fault]
  | false =>
    have clear : w = { w with faultUnack := false } := by rw [← fault]
    simp [ackOne, WeirSt.ackable, active, rtn, fault, ← clear]

end

/-- An acknowledgement neither begins nor ends a mask. -/
theorem ackOne_masked (p : WeirSt × List WeirLog) (o : Nat) : (ackOne p o).1.state.masked = p.1.state.masked := by
  unfold ackOne
  dsimp only
  split
  · dsimp only
    split
    · next active => rw [active]; rfl
    · split
      · next rtn => rw [rtn]; rfl
      · rfl
  · rfl

theorem ackAll_masked (acks : List Nat) (p : WeirSt × List WeirLog) : (ackAll acks p).1.1.state.masked = p.1.state.masked := by
  induction acks generalizing p with
  | nil => rfl
  | cons o r ih => exact (ih _).trans (ackOne_masked p o)

/-! ## The step -/

/-- The masked states as step 5 tests for them. -/
theorem WState.masked_eq (x : WState) :
    x.masked = (decide (x = .outOfService) || decide (x = .shelved) || decide (x = .suppressed)) := by
  cases x <;> rfl

/-- The weir with what the record shows of a change. -/
def WeirSt.shownAfter (shown : WState) (w : WeirSt) : WeirSt := { w with changed := decide (w.state ≠ shown) }

/-- A mask shows one of its three states (R227). -/
theorem WeirSt.masked_of_mask {c : WeirCfg} {sup : Bool} {w : WeirSt} {m : WState} (h : w.mask c sup = some m) : m.masked = true := by
  unfold WeirSt.mask at h
  split at h
  · cases h; rfl
  · split at h
    · cases h; rfl
    · split at h
      · cases h; rfl
      · cases h

section

variable {c : WeirCfg} {sup : Bool} {now : Nat} {w : WeirSt} (kept : ∀ e, w.shelf = some e → now < e)
include kept

/-- A shelve that has not ended stays. -/
theorem expireShelf_early (l : List WeirLog) : expireShelf now (w, l) = (w, l) := by
  unfold expireShelf
  split
  · next e shelf => exact if_neg (Nat.not_le.2 (kept e shelf))
  · rfl

/-- A mask discards the alarm state before the acknowledgements. -/
theorem weirStep5_masked {m : WState} (mask : w.mask c sup = some m) (shown : WState) (acks : List Nat) :
    weirStep5 c { acks } sup now shown w =
      let a := ackAll acks ({ w with state := m }, [])
      ((a.1.1.shownAfter shown, a.1.2), a.2) := by
  simp only [weirStep5, List.foldl_nil, expireShelf_early kept, mask, List.append_nil]
  rfl

/-- Without a mask the weir resurfaces after the acknowledgements. -/
theorem weirStep5_unmasked (mask : w.mask c sup = none) (shown : WState) (acks : List Nat) :
    weirStep5 c { acks } sup now shown w =
      let a := ackAll acks (w, [])
      (((resurface c a.1.1).1.shownAfter shown, a.1.2 ++ (resurface c a.1.1).2), a.2) := by
  simp only [weirStep5, List.foldl_nil, expireShelf_early kept, mask, resurface, ← WState.masked_eq, ← ackAll_masked acks (w, [])]
  rfl

/-- Without an acknowledgement. -/
theorem weirStep5_idle (mask : w.mask c sup = none) (shown : WState) :
    weirStep5 c {} sup now shown w = (((resurface c w).1.shownAfter shown, (resurface c w).2), []) :=
  weirStep5_unmasked kept mask shown []

/-- An acknowledgement that finds no alarm, of a weir that does not move, clears the flag of its source and nothing else. -/
theorem weirStep5_ack_still (mask : w.mask c sup = none) (shown : WState) (o : Nat)
    (quiet : w.state ≠ .activeUnack ∧ w.state ≠ .rtnUnack)
    (still : ∀ x, resurface c { w with faultUnack := x } = ({ w with faultUnack := x }, [])) :
    (weirStep5 c { acks := [o] } sup now shown w).1.1 = { (weirStep5 c {} sup now shown w).1.1 with faultUnack := false } ∧
    (weirStep5 c { acks := [o] } sup now shown w).1.2.map (fun l => l.code) = if w.faultUnack then [0x0405] else [] := by
  obtain ⟨cleared, codes, -⟩ := ackOne_flag o quiet
  rw [weirStep5_idle kept mask, weirStep5_unmasked kept mask]
  simp only [ackAll, cleared, still, List.append_nil, codes, and_true]
  rfl

/-- Under a mask an acknowledgement does the same. -/
theorem weirStep5_ack_masked {m : WState} (mask : w.mask c sup = some m) (shown : WState) (o : Nat) :
    (weirStep5 c { acks := [o] } sup now shown w).1.1 = { (weirStep5 c {} sup now shown w).1.1 with faultUnack := false } ∧
    (weirStep5 c { acks := [o] } sup now shown w).1.2.map (fun l => l.code) = (if w.faultUnack then [0x0405] else []) ∧
    (weirStep5 c { acks := [o] } sup now shown w).2 = [w.faultUnack] := by
  obtain ⟨cleared, codes, found⟩ := ackOne_flag (w := { w with state := m }) o (WState.ne_of_masked (WeirSt.masked_of_mask mask))
  rw [weirStep5_masked kept mask, weirStep5_masked kept mask]
  simp only [ackAll, cleared, codes, found, and_true]
  rfl

/-- An acknowledgement of an alarm that waits for it, after which the weir does not move. -/
theorem weirStep5_ack_waiting (mask : w.mask c sup = none) (shown : WState) (o : Nat)
    (waits : w.state = .activeUnack ∨ w.state = .rtnUnack) {x : WState}
    (acked : x = if w.state = .activeUnack then .activeAck else .normal)
    (still : resurface c { w with faultUnack := false, state := x } = ({ w with faultUnack := false, state := x }, [])) :
    (weirStep5 c { acks := [o] } sup now shown w).1.1.state = x ∧
    (weirStep5 c { acks := [o] } sup now shown w).1.2.map (fun l => l.code) = [0x0405] := by
  obtain ⟨weir, codes⟩ := ackOne_waiting o waits
  rw [← acked] at weir
  rw [weirStep5_unmasked kept mask]
  simp only [ackAll, weir, still, List.append_nil, codes, and_true]
  rfl

end

/-- Settles O11: under a mask by the mask, else by the rows of Table 08.11, after the acknowledgement if there is one. -/
theorem weirTransitions : Obligations.WeirTransitions := by
  intro c sup now shown w kept
  dsimp only
  refine ⟨fun m mask => ?_, fun mask sound => ?_, fun mask failed => ?_, fun noAck rtn => ?_, fun o => ?_, fun e => rfl⟩
  · rw [weirStep5_masked kept mask]
    exact ⟨rfl, rfl⟩
  · rw [weirStep5_idle kept mask]
    refine ⟨fun quiet cond => ?_, fun active cond => resurface_returned sound active cond,
      fun quiet cond => ?_, fun active cond => ?_, fun state cond => ?_, fun state => ?_⟩
    · rw [resurface_raised sound quiet cond]
      exact ⟨rfl, rfl⟩
    · rw [resurface_still sound (.inl ⟨quiet, cond⟩)]
      exact ⟨rfl, rfl⟩
    · rw [resurface_still sound (.inr ⟨active, cond⟩)]
      exact ⟨rfl, rfl⟩
    · obtain ⟨weir, codes⟩ := resurface_recovered (c := c) sound state cond
      rw [weir]
      exact ⟨rfl, rfl, codes⟩
    · rw [resurface_masked sound (by obtain h | h | h := state <;> rw [h] <;> rfl)]
      cases w.cond <;> exact ⟨rfl, rfl⟩
  · rw [weirStep5_idle kept mask, resurface_failed failed]
    split
    · next state => simp [WeirSt.shownAfter, state]
    · next state => simp [WeirSt.shownAfter, toFault, state]
  · cases mask : w.mask c sup with
    | some m =>
      rw [weirStep5_masked kept mask]
      obtain ⟨active, rtn⟩ := WState.ne_of_masked (WeirSt.masked_of_mask mask)
      exact ⟨rtn, fun _ => active⟩
    | none =>
      rw [weirStep5_idle kept mask]
      exact resurface_noAck noAck rtn
  · refine ⟨fun mask sound state cond => ?_, fun mask sound state cond => ?_,
      fun mask sound state cond => ?_, fun mask sound state cond => ?_, fun mask failed state => ?_, fun m mask => ?_⟩
    · exact weirStep5_ack_waiting kept mask shown o (.inl state) (by rw [if_pos state])
        (resurface_still sound (.inr ⟨.inr rfl, cond⟩))
    · exact weirStep5_ack_waiting kept mask shown o (.inr state) (by rw [state]; rfl)
        (resurface_still sound (.inl ⟨.inl rfl, cond⟩))
    · exact weirStep5_ack_still kept mask shown o (by simp [state]) fun _ => resurface_still sound (.inl ⟨.inl state, cond⟩)
    · exact weirStep5_ack_still kept mask shown o (by simp [state]) fun _ => resurface_still sound (.inr ⟨.inr state, cond⟩)
    · exact weirStep5_ack_still kept mask shown o (by simp [state]) fun x =>
        (resurface_failed (w := { w with faultUnack := x }) failed).trans (if_pos state)
    · exact weirStep5_ack_masked kept mask shown o

end Sys2Proof.Machine
end

section
/-!
PROOFS. The opcodes of weirs, blends, groups, first-out sets, calls, the roster and the dead-man timer (Tables 08.17 and 09.17).
-/

namespace Sys2Proof.Machine

open Sys2Proof

/-! ## Weirs and blends (R238, R239) -/

section

variable {s : State} {f : Flight} (k : LiveKind)

/-- A command of an enabled weir joins the live commands. -/
theorem State.weirLive_enabled (enabled : (s.weirCfgOf f.unit).enable = true) : s.weirLive f k = s.addLive k f :=
  if_neg (by simp [enabled])

/-- One of a weir that is not enabled is refused. -/
theorem State.weirLive_disabled (disabled : (s.weirCfgOf f.unit).enable = false) : s.weirLive f k = s.complete f .badField 8 [] :=
  (if_pos (by simp [disabled])).trans (State.refuse_eq (by decide))

end

section

variable {s : State} {t tag : Nat} {f : Flight}

theorem exec_weirAck (he : Executes s tag 0x0403 f) :
    exec (.weirAck t tag) s = .next ((s.acting t).weirLive f (.weirAck f.unit)).takeNext := exec_row_eq rfl he rfl

theorem exec_weirService (he : Executes s tag 0x0405 f) : exec (.weirService t tag) s =
    .next ((s.acting t).weirLive f (.weirService f.unit (decide (byteAt f.req 16 = 1)))).takeNext := exec_row_eq rfl he rfl

section

variable (he : Executes s tag 0x0404 f)
include he

/-- The time asked for lies above the limit of an enabled weir. -/
theorem exec_weirShelve_above (enabled : (s.weirCfgOf f.unit).enable = true)
    (above : (s.weirCfgOf f.unit).shelfLimit < u32At f.req 16) :
    exec (.weirShelve t tag) s = .next ((s.acting t).complete f .badField 16 []).takeNext :=
  have refused : ((s.weirCfgOf f.unit).enable && decide ((s.weirCfgOf f.unit).shelfLimit < u32At f.req 16)) = true := by
    simp [enabled, above]
  exec_row_eq rfl he ((if_pos refused).trans (State.refuse_eq (by decide)))

/-- Else the weir is judged as for every other command. -/
theorem exec_weirShelve_within (within : (s.weirCfgOf f.unit).enable = true → u32At f.req 16 ≤ (s.weirCfgOf f.unit).shelfLimit) :
    exec (.weirShelve t tag) s = .next ((s.acting t).weirLive f (.weirShelve f.unit (u32At f.req 16))).takeNext :=
  have passes : ¬ ((s.weirCfgOf f.unit).enable && decide ((s.weirCfgOf f.unit).shelfLimit < u32At f.req 16)) = true := by
    simpa using within
  exec_row_eq rfl he (if_neg passes)

end

section

variable (he : Executes s tag 0x0409 f)
include he

/-- Only a `TOTAL` is reset. -/
theorem exec_blendTotalReset_total (total : (s.blendCfgOf f.unit).op = 15) :
    exec (.blendTotalReset t tag) s = .next ((s.acting t).addLive (.totalReset f.unit) f).takeNext :=
  exec_row_eq rfl he (if_neg (not_not_intro total))

theorem exec_blendTotalReset_other (other : (s.blendCfgOf f.unit).op ≠ 15) :
    exec (.blendTotalReset t tag) s = .next ((s.acting t).complete f .badField 8 []).takeNext :=
  exec_row_eq rfl he ((if_pos other).trans (State.refuse_eq (by decide)))

end

end

/-! ## First-out sets (R251, R263) -/

section

variable {s : State} {f : Flight} (enabled : (s.foCfgOf (byteAt f.req 16)).enable = true)
include enabled

/-- An idle set has nothing to reset. -/
theorem State.foResetReq_idle (idle : (s.fo (byteAt f.req 16)).state = .idle) : s.foResetReq f = s.complete f .ok 1 [] := by
  simp [State.foResetReq, enabled, idle]

/-- An open set is not reset; the refusal names its home. -/
theorem State.foResetReq_open (opened : (s.fo (byteAt f.req 16)).state = .open_) :
    s.foResetReq f = s.complete f .busy (s.foCfgOf (byteAt f.req 16)).home [] := by
  simp [State.foResetReq, enabled, opened, State.refuse_eq]

/-- The home of a decided set takes the command itself. -/
theorem State.foResetReq_home (decided : (s.fo (byteAt f.req 16)).state = .decided)
    (home : s.foHome (s.foCfgOf (byteAt f.req 16)) = true) : s.foResetReq f = s.addLive (.foReset (byteAt f.req 16)) f := by
  simp [State.foResetReq, enabled, decided, home]

end

/-- The record of a set that is not open shows no end of a window. -/
theorem State.foStatus_closed {s : State} {f : Flight} (closed : (s.prev.fo.getD (byteAt f.req 16) {}).state ≠ .open_) :
    s.foStatus f = s.complete f .ok 0 ((s.prev.fo.getD (byteAt f.req 16) {}).bytes s.bus.nodeId ++ le64 0) := by
  simp only [State.foStatus, State.ok, closed, if_false]

/-! ## Calls, the roster and the dead-man timer (R257 to R261, R264) -/

section

variable {s : State} {t tag : Nat} {f : Flight}

section

variable (he : Executes s tag 0x0509 f)
include he

/-- A chain that calls can be accepted, if its entry gives a time to accept. -/
theorem exec_callAccept_calling (called : (s.chain (byteAt f.req 16)).state ≠ .idle)
    (accepts : (s.chainCfgOf (byteAt f.req 16)).acceptS ≠ 0) :
    exec (.callAccept t tag) s = .next ((s.acting t).addLive (.callAccept (byteAt f.req 16) 0xFF 0) f).takeNext :=
  exec_row_eq rfl he (if_neg (not_or.2 ⟨called, accepts⟩))

theorem exec_callAccept_refused (h : (s.chain (byteAt f.req 16)).state = .idle ∨ (s.chainCfgOf (byteAt f.req 16)).acceptS = 0) :
    exec (.callAccept t tag) s = .next ((s.acting t).complete f .notPermitted 1 []).takeNext :=
  exec_row_eq rfl he ((if_pos h).trans (State.refuse_eq (by decide)))

end

/-- The status of an idle chain while the dead-man timer is disarmed: nothing escalates. -/
theorem State.callStatus_idle (idle : (s.prev.chains.getD (byteAt f.req 16) {}).state = .idle)
    (disarmed : s.prev.dead.state = .disarmed) : s.callStatus f = s.complete f .ok 0 (le8 0 ++ le8 0 ++ le16 0 ++ le32 0xFFFFFFFF ++
      le8 (s.prev.duty.duty.getD 0xFF) ++ le8 (match s.prev.duty.pending with | some h => h.member | none => 0xFF) ++
      le8 0 ++ le8 0 ++ le32 0xFFFFFFFF) := by
  simp only [State.callStatus, State.ok, idle, disarmed] <;> rfl

/-- The roster as `DUTY_HANDOVER` tests it: some member is eligible for duty (R258). -/
theorem any_eligible {m : Mem} : (List.range 16).any (eligible m) = true ↔ ∃ k < 16, eligible m k = true := by
  simp

/-- A handover to an eligible member, or its cancellation, joins the live commands. -/
theorem State.dutyReq_eligible (anyone : ∃ k < 16, eligible s.cfg.img k = true)
    (h : byteAt f.req 16 = 2 ∨ byteAt f.req 16 = 0 ∧ eligible s.cfg.img (byteAt f.req 17) = true) :
    s.dutyReq f = s.addLive (.duty (byteAt f.req 16) (byteAt f.req 17)) f := by
  have any := any_eligible.2 anyone
  obtain cancel | ⟨offer, member⟩ := h
  · simp only [State.dutyReq, any, cancel]; rfl
  · simp only [State.dutyReq, any, offer, member]; rfl

/-- Without an eligible member there is no duty (R258). -/
theorem State.dutyReq_none (nobody : ∀ k < 16, eligible s.cfg.img k = false) :
    s.dutyReq f = s.complete f .badField 17 [] := by
  have noneEligible : (List.range 16).any (eligible s.cfg.img) = false :=
    Bool.eq_false_iff.2 fun any => by
      obtain ⟨k, member, found⟩ := any_eligible.1 any
      exact Bool.false_ne_true ((nobody k member).symm.trans found)
  simp only [State.dutyReq, noneEligible, Bool.not_false, Bool.true_or, if_true]
  exact State.refuse_eq (by decide)

section

variable (he : Executes s tag 0x050C f)
include he

theorem exec_deadman_passed (h : ¬ (byteAt f.req 16 = 2 ∧ s.eng.dead.state = .alarm)) :
    exec (.deadman t tag) s = .next ((s.acting t).addLive (.deadman (byteAt f.req 16)) f).takeNext :=
  exec_row_eq rfl he (if_neg h)

/-- The alarm is not disarmed. -/
theorem exec_deadman_alarm (disarm : byteAt f.req 16 = 2) (alarm : s.eng.dead.state = .alarm) :
    exec (.deadman t tag) s = .next ((s.acting t).complete f .notPermitted 1 []).takeNext :=
  exec_row_eq rfl he ((if_pos ⟨disarm, alarm⟩).trans (State.refuse_eq (by decide)))

end

end

/-- Settles O46: each opcode by what its operation comes to, refused or joining the live commands. That the time left of a shelve is
given in whole seconds rounded up is the model's choice (log 36). -/
theorem alarmOpcodes : Obligations.AlarmOpcodes := by
  intro s t tag f
  dsimp only
  refine ⟨fun he enabled => ?_, fun he enabled within => ?_, exec_weirShelve_above, fun he enabled => ?_, fun disabled => ⟨fun he => ?_,
    fun he => ?_, fun he => ?_⟩, fun he => exec_row_eq rfl he rfl, exec_blendTotalReset_total, exec_blendTotalReset_other,
    fun he => exec_row_eq rfl he rfl,
    fun he enabled idle => exec_row_eq rfl he (State.foResetReq_idle (s := s.acting t) enabled idle),
    fun he enabled opened => exec_row_eq rfl he (State.foResetReq_open (s := s.acting t) enabled opened),
    fun he enabled decided home => exec_row_eq rfl he (State.foResetReq_home (s := s.acting t) enabled decided home),
    fun he closed => exec_row_eq rfl he (State.foStatus_closed (s := s.acting t) closed),
    exec_callAccept_calling, exec_callAccept_refused,
    fun he idle disarmed => exec_row_eq rfl he (State.callStatus_idle (s := s.acting t) idle disarmed),
    fun he anyone h => exec_row_eq rfl he (State.dutyReq_eligible (s := s.acting t) anyone h),
    fun he nobody => exec_row_eq rfl he (State.dutyReq_none (s := s.acting t) nobody),
    exec_deadman_passed, exec_deadman_alarm⟩
  · rw [exec_weirAck he, State.weirLive_enabled (s := s.acting t) _ enabled]
  · rw [exec_weirShelve_within he fun _ => within, State.weirLive_enabled (s := s.acting t) _ enabled]
  · rw [exec_weirService he, State.weirLive_enabled (s := s.acting t) _ enabled]
  · rw [exec_weirAck he, State.weirLive_disabled (s := s.acting t) _ disabled]
  · rw [exec_weirShelve_within he fun enabled => absurd (disabled.symm.trans enabled) Bool.false_ne_true,
      State.weirLive_disabled (s := s.acting t) _ disabled]
  · rw [exec_weirService he, State.weirLive_disabled (s := s.acting t) _ disabled]

end Sys2Proof.Machine
end

section
/-!
PROOFS. What elapses at a capture in weirs, groups, acknowledge buttons and first-out sets (R218, R221 to R223, R231, R243, R247,
R250, R251).
-/

namespace Sys2Proof.Machine

open Sys2Proof

/-! ## A frame that opens -/

/-- A frame that opens at an instant changes the time and the frame only. -/
theorem State.toFrame_changes (s : State) (t : Nat) : ∃ x, s.toFrame t = { s.advance t with frame := x } := by
  unfold State.toFrame; dsimp only
  split
  · exact ⟨_, rfl⟩
  · exact ⟨(s.advance t).frame, rfl⟩

@[simp] theorem State.eng_toFrame (s : State) (t : Nat) : (s.toFrame t).eng = s.eng := by
  obtain ⟨x, h⟩ := s.toFrame_changes t
  rw [h]; rfl

@[simp] theorem State.cfg_toFrame (s : State) (t : Nat) : (s.toFrame t).cfg = s.cfg := by
  obtain ⟨x, h⟩ := s.toFrame_changes t
  rw [h]; rfl

@[simp] theorem State.bus_toFrame (s : State) (t : Nat) : (s.toFrame t).bus = s.bus := by
  obtain ⟨x, h⟩ := s.toFrame_changes t
  rw [h]; rfl

section

variable (s : State) (t n : Nat)

/-- So the engines and their entries stand in it as they stood. -/
@[simp] theorem State.weir_toFrame : (s.toFrame t).weir n = s.weir n := congrArg (fun e : Eng => e.weirs.getD n {}) (s.eng_toFrame t)

@[simp] theorem State.weirCfgOf_toFrame : (s.toFrame t).weirCfgOf n = s.weirCfgOf n := by
  simp only [State.weirCfgOf, State.cfg_toFrame]

@[simp] theorem State.group_toFrame : (s.toFrame t).group n = s.group n := congrArg (fun e : Eng => e.groups.getD n {}) (s.eng_toFrame t)

@[simp] theorem State.fo_toFrame : (s.toFrame t).fo n = s.fo n := congrArg (fun e : Eng => e.fo.getD n {}) (s.eng_toFrame t)

@[simp] theorem State.foCfgOf_toFrame : (s.toFrame t).foCfgOf n = s.foCfgOf n := by
  simp only [State.foCfgOf, State.cfg_toFrame]

@[simp] theorem State.buttonGroups_toFrame : (s.toFrame t).buttonGroups n = s.buttonGroups n := by
  obtain ⟨x, h⟩ := s.toFrame_changes t
  rw [h]; rfl

@[simp] theorem State.foHome_toFrame (c : FoCfg) : (s.toFrame t).foHome c = s.foHome c := by
  simp only [State.foHome, State.bus_toFrame]

end

/-! ## Weirs (R221, R223, R231) -/

/-- A place put back as it stands changes nothing. -/
theorem modAt_getD {α : Type} (l : List α) (i : Nat) (d : α) : modAt l i (fun _ => l.getD i d) = l := by
  induction l generalizing i with
  | nil => rfl
  | cons x r ih =>
    cases i with
    | zero => rfl
    | succ i => exact congrArg (x :: ·) (ih i)

section

variable {s : State} {w : Nat}

/-- A weir put back as it stands changes nothing. -/
theorem State.modWeir_same (s : State) (w : Nat) : s.modWeir w (fun _ => s.weir w) = s :=
  congrArg (fun l => { s with eng := { s.eng with weirs := l } }) (modAt_getD s.eng.weirs w {})

/-- More than 256 `SUSPECT` frames are a failed source. -/
theorem State.weirSuspect_limit (has : w < s.eng.weirs.length) (enabled : (s.weirCfgOf w).enable = true)
    (limit : 256 ≤ (s.weir w).suspects) (sound : (s.weir w).failed = false) : (s.weirSuspect w).weir w =
      { s.weir w with raw := false, cond := false, running := false, elapsed := 0, ring := [], count := 0, usable := false,
                      failed := true, frozen := false, suspects := 257 } := by
  rw [State.weirSuspect, State.weir_modWeir_self _ has]
  exact if_pos (by simp [enabled, limit, sound])

/-- A record of a weir leaves the weirs. -/
@[simp] theorem State.weir_weirLog (s : State) (v : Nat) (l : WeirLog) (w : Nat) : (s.weirLog v l).weir w = s.weir w := rfl

/-- A shelve that has ended is taken away, with a record. -/
theorem State.weirUnshelve_due {e : Nat} (shelf : (s.weir w).shelf = some e) (due : e ≤ s.frame.captFlow) :
    s.weirUnshelve w = (s.modWeir w (fun _ => { s.weir w with shelf := none })).weirLog w
      { code := 0x0407, sev := 3, p1 := 0, p2 := 0x41 } := by
  simp only [State.weirUnshelve, expireShelf, shelf, due, if_true, List.nil_append, List.foldl_cons, List.foldl_nil]

/-- A weir that is not shelved has no shelve to end. -/
theorem State.weirUnshelve_none (shelf : (s.weir w).shelf = none) : s.weirUnshelve w = s := by
  simp only [State.weirUnshelve, expireShelf, shelf, List.foldl_nil, State.modWeir_same]

end

/-! ## Groups and their buttons (R243, R247) -/

section

variable {s : State}

/-- The release delay of a group has run. -/
theorem State.groupRelease_due {g e : Nat} (releasing : (s.group g).supp = .releasing e) (due : e ≤ s.frame.captFlow) :
    s.groupRelease g = (s.modGroup g (fun _ => { s.group g with supp := .running })).groupEvs g
      (s.source (s.groupCfgOf g).kind (s.groupCfgOf g).index) [0x0502] := by
  simp only [State.groupRelease, releaseStep, releasing, due, if_true]

/-- A button that stands at 1.0 for more than 60 s is stuck. -/
theorem State.buttonStuck_due {i since : Nat} (high : (s.eng.buttons.getD i {}).high = some since)
    (free : (s.eng.buttons.getD i {}).stuck = false) (due : since + 60000000000 < s.frame.captFlow) (named : s.buttonGroups i ≠ []) :
    s.buttonStuck i = ({ s with eng := { s.eng with buttons := modAt s.eng.buttons i (fun b => { b with stuck := true }) } }).frameEv
      0x0504 5 13 i (s.cfg.roles.get .di i) 0 0 := by
  simp only [State.buttonStuck, high, free, secs]
  exact if_pos (by simp [due, named])

end

/-! ## First-out sets (R250, R251) -/

section

variable {s : State} {k : Nat}

/-- A broadcast adds a message and nothing else. -/
theorem State.foBroadcast_changes (s : State) (k : Nat) : ∃ x, s.foBroadcast k = { s with frameMsgs := x } := by
  unfold State.foBroadcast; dsimp only
  split
  · exact ⟨_, rfl⟩
  · exact ⟨s.frameMsgs, rfl⟩

section

variable {x : FoCand} (opened : (s.fo k).state = .open_) (first : (s.fo k).first = some x)
include opened first

/-- The home decides at the end of the window. -/
theorem State.foDecide_home (home : s.foHome (s.foCfgOf k) = true) (due : (s.fo k).windowEnd ≤ s.frame.captBase) :
    s.foDecide k = ((s.modFo k FoSt.decide_).foEv k 0x0506 6 x.node x.weir (s.fo k).count).foBroadcast k := by
  simp only [State.foDecide, opened, first, home, due, decide_true, Bool.and_self, if_true]

/-- Another node decides 250 ms later, and shows that the home was absent. -/
theorem State.foAbsent_due (away : s.foHome (s.foCfgOf k) = false) (due : (s.fo k).windowEnd + 250000000 ≤ s.frame.captBase) :
    s.foAbsent k = (s.modFo k (fun g => { g.decide_ with homeAbsent := true })).foEv k 0x0508 5 x.node x.weir (s.fo k).count := by
  simp only [State.foAbsent, opened, first, away, ms, due, decide_true, Bool.not_false, Bool.and_self, if_true]

end

section

variable (decided : (s.fo k).state = .decided)
include decided

/-- A reset applies at its grid instant. -/
theorem State.foResetDue_decided {at_ o : Nat} (reset : (s.fo k).resetAt = some (at_, o)) (due : at_ ≤ s.captGrid) :
    s.foResetDue k = s.foClear k o := by
  simp only [State.foResetDue, reset, due, if_true, decided]

section

variable (auto : (s.foCfgOf k).autoReset = true)
include auto

/-- The auto-reset delay has run while every member was quiet. -/
theorem State.foAuto_due {x : Nat} (quiet : s.foQuiet k = true) (since : (s.fo k).quiet = some x)
    (due : x + 1000000000 * (s.foCfgOf k).autoS ≤ s.frame.captFlow) : s.foAuto k = s.foClear k 0x41 := by
  have ran : x + secs (s.foCfgOf k).autoS ≤ s.frame.captFlow := by rwa [secs, Nat.mul_comm]
  simp only [State.foAuto, auto, decided, quiet, since, Option.getD_some, ran, decide_true, Bool.and_self, if_true]

/-- A member that is not quiet stops the delay. -/
theorem State.foAuto_stops (quiet : s.foQuiet k = false) : s.foAuto k = s.modFo k (fun g => { g with quiet := none }) := by
  simp only [State.foAuto, auto, decided, quiet, decide_true, Bool.and_self, if_true, Bool.false_eq_true, if_false]

end

end

/-- A reset clears the record of a set and is logged. -/
theorem State.fo_foClear (has : k < s.eng.fo.length) (o : Nat) : (s.foClear k o).fo k = { mismatch := (s.fo k).mismatch } :=
  State.fo_modFo_self _ has

end

/-! ## The rows -/

section

variable {s : State} {t : Nat}

section

variable {w : Nat} (hw : w < 1024)
include hw

/-- The delay of a weir runs out at the capture of the tick that is due. -/
theorem exec_weirDelayElapsed_due (due : (s.toFrame t).frame.nextTick ≤ (s.toFrame t).clk.now) :
    exec (.weirDelayElapsed t w) s = .next ((s.toFrame t).weirElapse w) :=
  (guardUnit_next (decide_eq_true hw)).trans (congrArg Host.Outcome.next (if_pos due))

theorem exec_suspectLimit : exec (.suspectLimit t w) s = .next ((s.toFrame t).weirSuspect w) := guardUnit_next (decide_eq_true hw)

theorem exec_weirUnshelved : exec (.weirUnshelved t w) s = .next ((s.toFrame t).weirUnshelve w) := guardUnit_next (decide_eq_true hw)

end

section

variable {k : Nat} (hk : k < 32)
include hk

theorem exec_firstOutDecided : exec (.firstOutDecided t k) s = .next ((s.toFrame t).foDecide k) := guardUnit_next (decide_eq_true hk)

theorem exec_firstOutHomeAbsent : exec (.firstOutHomeAbsent t k) s = .next ((s.toFrame t).foAbsent k) :=
  guardUnit_next (decide_eq_true hk)

theorem exec_firstOutReset : exec (.firstOutReset t k) s = .next ((s.toFrame t).foResetDue k) := guardUnit_next (decide_eq_true hk)

theorem exec_autoReset : exec (.autoReset t k) s = .next ((s.toFrame t).foAuto k) := guardUnit_next (decide_eq_true hk)

end

theorem exec_groupReleased {g : Nat} (hg : g < 128) : exec (.groupReleased t g) s = .next ((s.toFrame t).groupRelease g) :=
  guardUnit_next (decide_eq_true hg)

theorem exec_ackButtonStuck {i : Nat} (hi : i < 16) : exec (.ackButtonStuck t i) s = .next ((s.toFrame t).buttonStuck i) :=
  guardUnit_next (decide_eq_true hi)

end

/-- Settles O47: each row by what its operation does in the frame at hand, which finds the engines as they stood. -/
theorem alarmEvents : Obligations.AlarmEvents := by
  intro s t
  dsimp only
  rw [← s.eng_toFrame t]
  refine ⟨fun w hw due enabled running raw elapsed => ?_, fun w hw has enabled limit sound => ?_,
    fun w e hw has shelf due => ?_, fun w hw shelf => ?_, fun w hw => guardUnit_next (decide_eq_true hw),
    fun k hk => guardUnit_next (decide_eq_true hk), fun g e hg has releasing due => ?_,
    fun i since hi has high free due named => ?_, fun k x hk has opened first home due => ?_,
    fun k x hk has opened first away due => ?_, fun k at_ o hk has reset due decided => ?_,
    fun k x hk has auto decided quiet since due => ?_, fun k hk has auto decided quiet => ?_⟩
  · rw [exec_weirDelayElapsed_due hw due, State.weirElapse, State.weirCfgOf_toFrame]
    rfl
  · rw [← s.weirCfgOf_toFrame t] at enabled
    rw [← s.weir_toFrame t] at limit sound ⊢
    have failed := State.weirSuspect_limit has enabled limit sound
    exact ⟨_, exec_suspectLimit hw, by rw [failed], by rw [failed], by rw [failed], by rw [failed], rfl,
      fun v other => State.weir_modWeir_ne _ other.symm⟩
  · rw [← s.weir_toFrame t] at shelf ⊢
    have weir := State.weir_modWeir_self (fun _ => { (s.toFrame t).weir w with shelf := none }) has
    rw [exec_weirUnshelved hw, State.weirUnshelve_due shelf due]
    exact ⟨_, rfl, by rw [State.weir_weirLog, weir], by rw [State.weir_weirLog, weir], _, rfl, rfl, rfl, rfl, rfl⟩
  · rw [← s.weir_toFrame t] at shelf
    rw [exec_weirUnshelved hw, State.weirUnshelve_none shelf]
  · rw [← s.group_toFrame t] at releasing
    rw [exec_groupReleased hg, State.groupRelease_due releasing due]
    exact ⟨_, rfl, congrArg GroupSt.supp (State.group_modGroup_self _ has), _, rfl, rfl, rfl, rfl⟩
  · rw [← s.buttonGroups_toFrame t] at named
    rw [exec_ackButtonStuck hi, State.buttonStuck_due high free due named]
    exact ⟨_, rfl, congrArg ButtonSt.stuck (getD_modAt_self _ _ has), _, rfl, rfl, rfl, rfl⟩
  · rw [← s.foCfgOf_toFrame t, ← s.foHome_toFrame t] at home
    rw [exec_firstOutDecided hk, State.foDecide_home opened first home due]
    obtain ⟨m, sent⟩ := State.foBroadcast_changes
      (((s.toFrame t).modFo k FoSt.decide_).foEv k 0x0506 6 x.node x.weir ((s.toFrame t).fo k).count) k
    rw [sent]
    exact ⟨_, rfl, State.fo_modFo_self _ has, _, rfl, rfl, rfl⟩
  · rw [← s.foCfgOf_toFrame t, ← s.foHome_toFrame t] at away
    rw [exec_firstOutHomeAbsent hk, State.foAbsent_due opened first away due]
    exact ⟨_, rfl, State.fo_modFo_self _ has⟩
  · rw [exec_firstOutReset hk, State.foResetDue_decided decided reset due]
    exact ⟨_, rfl, State.fo_foClear has o, _, rfl, rfl, rfl⟩
  · rw [← s.foCfgOf_toFrame t] at auto due
    rw [exec_autoReset hk, State.foAuto_due decided auto quiet since due]
    exact ⟨_, rfl, congrArg FoSt.state (State.fo_foClear has 0x41)⟩
  · rw [← s.foCfgOf_toFrame t] at auto
    rw [exec_autoReset hk, State.foAuto_stops decided auto quiet]
    have stopped := State.fo_modFo_self (s := s.toFrame t) (fun g => { g with quiet := none }) has
    exact ⟨_, rfl, (congrArg FoSt.state stopped).trans decided, congrArg FoSt.quiet stopped⟩

end Sys2Proof.Machine
end

section
/-!
PROOFS. What elapses at a capture in call chains, the duty roster and the dead-man timer (R254 to R261, R301).
-/

namespace Sys2Proof.Machine

open Sys2Proof

/-! ## The entries in a frame that opens -/

section

variable (s : State) (t : Nat)

@[simp] theorem State.chainCfgOf_toFrame : (s.toFrame t).chainCfgOf = s.chainCfgOf := by
  funext c
  simp only [State.chainCfgOf, State.cfg_toFrame]

@[simp] theorem State.dwell_toFrame : (s.toFrame t).dwell = s.dwell := by
  funext c k
  simp only [State.dwell, State.stageField, State.cfg_toFrame]

@[simp] theorem State.deadField_toFrame : (s.toFrame t).deadField = s.deadField := by
  funext o n
  simp only [State.deadField, State.cfg_toFrame]

end

/-- The seconds of an entry in ns, as the statements write them. -/
theorem secs_eq (n : Nat) : secs n = 1000000000 * n := Nat.mul_comm n _

/-! ## Call messages (R255, R257, R301) -/

/-- A CALL message adds messages of the frame and nothing else. -/
theorem State.sendCall_changes (s : State) (c : Nat) (members : List Nat) (cancel : Bool) :
    ∃ x, s.sendCall c members cancel = { s with frameMsgs := x } := by
  unfold State.sendCall; dsimp only
  split
  · exact ⟨s.frameMsgs, rfl⟩
  · exact ⟨_, rfl⟩

/-- So does the call of a stage to its targets. -/
theorem State.callOut_changes (s : State) (c : Nat) : ∃ x, s.callOut c = { s with frameMsgs := x } := s.sendCall_changes c _ false

@[simp] theorem State.eng_sendCall (s : State) (c : Nat) (members : List Nat) (cancel : Bool) :
    (s.sendCall c members cancel).eng = s.eng := by
  obtain ⟨x, h⟩ := s.sendCall_changes c members cancel
  rw [h]

@[simp] theorem State.chain_sendCall (s : State) (c : Nat) (members : List Nat) (cancel : Bool) (n : Nat) :
    (s.sendCall c members cancel).chain n = s.chain n :=
  congrArg (fun e : Eng => e.chains.getD n {}) (s.eng_sendCall c members cancel)

@[simp] theorem State.eng_callOut (s : State) (c : Nat) : (s.callOut c).eng = s.eng := s.eng_sendCall c _ false

@[simp] theorem State.chain_callOut (s : State) (c n : Nat) : (s.callOut c).chain n = s.chain n := s.chain_sendCall c _ false n

@[simp] theorem State.frameRecs_callOut (s : State) (c : Nat) : (s.callOut c).frameRecs = s.frameRecs := by
  obtain ⟨x, h⟩ := s.callOut_changes c
  rw [h]

/-! ## Call chains (Table 09.12) -/

section

variable {s : State} {c : Nat}

section

variable (has : c < s.eng.chains.length)
include has

/-- A chain that enters a stage calls in it from now on, with no panel silenced. -/
theorem State.chain_enterStage (k : Nat) : (s.enterStage c k).chain c =
    { s.chain c with state := .calling, stage := k, since := s.frame.captFlow, silenced := [],
                     nextCall := some (s.frame.captFlow + secs 1), cancels := 0 } :=
  (State.chain_callOut _ c c).trans (State.chain_modChain_self _ has)

/-- The stage entered is logged, with the severity of the chain's category. -/
theorem State.frameRecs_enterStage (k : Nat) : ∃ r : Rec, (s.enterStage c k).frameRecs = s.frameRecs ++ [r] ∧
    r.code = 0x050B ∧ r.sev = 7 - (s.chain c).cat % 4 ∧ r.idx = c :=
  ⟨_, State.frameRecs_callOut _ c, rfl,
    (congrArg (fun x : ChainSt => 7 - x.cat % 4) (State.chain_modChain_self _ has)).trans rfl, rfl⟩

end

/-- The dwell of a stage that is not the last has run. -/
theorem State.chainDwell_due (calling : (s.chain c).state = .calling) (more : (s.chain c).stage + 1 < (s.chainCfgOf c).stages)
    (due : (s.chain c).since + 1000000000 * s.dwell c (s.chain c).stage ≤ s.frame.captFlow) (free : (s.chain c).forced = false) :
    s.chainDwell c = s.enterStage c ((s.chain c).stage + 1) :=
  if_pos ⟨calling, more, by rwa [secs_eq], free⟩

/-- A chain that does not call, that the dead-man alarm forces, or whose dwell still runs stays in its stage. -/
theorem State.chainDwell_stays (h : (s.chain c).state ≠ .calling ∨ (s.chain c).forced = true ∨
    s.frame.captFlow < (s.chain c).since + 1000000000 * s.dwell c (s.chain c).stage) : s.chainDwell c = s := by
  refine if_neg fun ⟨calling, _, due, free⟩ => ?_
  rw [secs_eq] at due
  obtain other | forced | running := h
  · exact other calling
  · exact Bool.false_ne_true (free.symm.trans forced)
  · exact Nat.not_le_of_lt running due

/-- The accept period has run: the next stage, or the last one again. -/
theorem State.chainAcceptEnd_due (accepted : (s.chain c).state = .accepted)
    (due : (s.chain c).since + 1000000000 * (s.chainCfgOf c).acceptS ≤ s.frame.captFlow) : s.chainAcceptEnd c =
      s.enterStage c (if (s.chain c).stage + 1 < (s.chainCfgOf c).stages then (s.chain c).stage + 1 else (s.chain c).stage) :=
  if_pos ⟨accepted, by rwa [secs_eq]⟩

/-- Only an accepted chain has an accept period. -/
theorem State.chainAcceptEnd_other (other : (s.chain c).state ≠ .accepted) : s.chainAcceptEnd c = s :=
  if_neg fun h => other h.1

/-- A call is repeated when its second has run. -/
theorem State.chainRepeat_due {n : Nat} (next : (s.chain c).nextCall = some n) (due : n ≤ s.frame.captFlow)
    (called : (s.chain c).state ≠ .idle) :
    s.chainRepeat c = (s.callOut c).modChain c (fun x => { x with nextCall := some (n + 1000000000) }) := by
  simp only [State.chainRepeat, next]
  exact if_pos ⟨due, called⟩

/-- A cancel message still to send goes out when its 100 ms have run. -/
theorem State.chainCancel_due (idle : (s.chain c).state = .idle) (left : (s.chain c).cancels ≠ 0)
    (due : (s.chain c).nextCancel ≤ s.frame.captFlow) : s.chainCancel c =
      (s.sendCall c (s.stageTargets c (s.chain c).stage) true).modChain c (fun x =>
        { x with cancels := x.cancels - 1, nextCancel := x.nextCancel + 100000000 }) :=
  if_pos ⟨idle, left, due⟩

/-- A chain that calls, or with no cancel message left, sends none. -/
theorem State.chainCancel_none (h : (s.chain c).state ≠ .idle ∨ (s.chain c).cancels = 0) : s.chainCancel c = s :=
  if_neg fun ⟨idle, left, _⟩ => h.elim (fun called => called idle) left

end

/-! ## Duty roster (R260) -/

section

variable {s : State} {h : Handover} (pending : s.eng.duty.pending = some h)
include pending

/-- A confirmed handover takes effect while no chain is beyond stage 0. -/
theorem State.dutyChange_confirmed (confirmed : h.confirmed = true)
    (calm : ∀ y ∈ s.eng.chains, y.state = .idle ∨ y.stage = 0) : s.dutyChange =
      (s.modDuty (fun _ => { duty := some h.member, pending := none })).rosterEv 0x050E 4 h.member (s.eng.duty.duty.getD 0xFF) := by
  simp only [State.dutyChange, pending]
  exact if_pos (by simpa [confirmed] using calm)

/-- One that is not confirmed waits. -/
theorem State.dutyChange_waits (open_ : h.confirmed = false) : s.dutyChange = s := by
  simp only [State.dutyChange, pending, open_, Bool.false_and, Bool.false_eq_true, if_false]

/-- A handover whose timeout has run is cancelled. -/
theorem State.dutyTimeout_due (enabled : tst (s.deadField 1 1) 0 = true)
    (due : h.since + 1000000000 * s.deadField 10 2 ≤ s.frame.captFlow) : s.dutyTimeout =
      (s.modDuty (fun d => { d with pending := none })).rosterEv 0x0510 4 h.member (s.eng.duty.duty.getD 0xFF) := by
  simp only [State.dutyTimeout, pending]
  exact if_pos (by simp [enabled, secs_eq, due])

end

/-! ## Dead-man timer (Table 09.14) -/

section

variable {s : State}

/-- The period has run. -/
theorem State.deadPrewarn_due (running : s.eng.dead.state = .running)
    (due : s.eng.dead.since + 1000000000 * s.deadField 4 2 ≤ s.frame.captFlow) : s.deadPrewarn =
      (s.modDead (fun d => { d with state := .prewarn, since := s.frame.captFlow })).rosterEv 0x0511 5 0 0 :=
  if_pos ⟨running, by rwa [secs_eq]⟩

/-- Only a running timer comes to its pre-warning. -/
theorem State.deadPrewarn_other (other : s.eng.dead.state ≠ .running) : s.deadPrewarn = s := if_neg fun h => other h.1

/-- The pre-warning has run. -/
theorem State.deadAlarm_due (prewarn : s.eng.dead.state = .prewarn)
    (due : s.eng.dead.since + 1000000000 * s.deadField 6 2 ≤ s.frame.captFlow) : s.deadAlarm =
      ((s.modDead (fun d => { d with state := .alarm, since := s.frame.captFlow })).rosterEv 0x0512 7 0 0).forceChain :=
  if_pos ⟨prewarn, by rwa [secs_eq]⟩

/-- Only a timer in its pre-warning comes to the alarm. -/
theorem State.deadAlarm_other (other : s.eng.dead.state ≠ .prewarn) : s.deadAlarm = s := if_neg fun h => other h.1

/-- A forced alarm chain leaves the timer. -/
@[simp] theorem State.dead_forceChain (s : State) : s.forceChain.eng.dead = s.eng.dead :=
  (congrArg Eng.dead (State.eng_callOut _ _)).trans rfl

/-- The alarm chain that is forced calls in its last stage. -/
theorem State.chain_forceChain (has : s.deadField 9 1 < s.eng.chains.length) :
    s.forceChain.chain (s.deadField 9 1) =
      { s.chain (s.deadField 9 1) with
        forced := true, state := .calling, stage := (s.chainCfgOf (s.deadField 9 1)).stages - 1, since := s.frame.captFlow
        silenced := [], nextCall := some (s.frame.captFlow + secs 1), cancels := 0
        cat := if (s.chain (s.deadField 9 1)).weirs = 0 then Config.forcedCat.toNat else (s.chain (s.deadField 9 1)).cat } :=
  (State.chain_callOut _ _ _).trans (State.chain_modChain_self _ has)

end

/-! ## The rows -/

section

variable {s : State} {t c : Nat} (hc : c < 16)
include hc

theorem exec_callStage : exec (.callStage t c) s = .next ((s.toFrame t).chainDwell c) := guardUnit_next (decide_eq_true hc)

theorem exec_acceptPeriodElapsed : exec (.acceptPeriodElapsed t c) s = .next ((s.toFrame t).chainAcceptEnd c) :=
  guardUnit_next (decide_eq_true hc)

theorem exec_callRepeat : exec (.callRepeat t c) s = .next ((s.toFrame t).chainRepeat c) := guardUnit_next (decide_eq_true hc)

theorem exec_callCancelRepeat : exec (.callCancelRepeat t c) s = .next ((s.toFrame t).chainCancel c) :=
  guardUnit_next (decide_eq_true hc)

end

section

variable (s : State) (t : Nat)

theorem exec_dutyChange : exec (.dutyChange t) s = .next (s.toFrame t).dutyChange := rfl

theorem exec_handoverTimeout : exec (.handoverTimeout t) s = .next (s.toFrame t).dutyTimeout := rfl

theorem exec_deadmanPrewarn : exec (.deadmanPrewarn t) s = .next (s.toFrame t).deadPrewarn := rfl

theorem exec_deadmanAlarm : exec (.deadmanAlarm t) s = .next (s.toFrame t).deadAlarm := rfl

end

/-- Settles O48: each row by what its operation does in the frame at hand, `b`, which finds the engines and the entries as they
stood. -/
theorem callEvents : Obligations.CallEvents := by
  intro s t c hc has
  dsimp only
  rw [← s.eng_toFrame t] at has ⊢
  rw [← s.chainCfgOf_toFrame t, ← s.dwell_toFrame t, ← s.deadField_toFrame t, exec_callStage hc, exec_acceptPeriodElapsed hc,
    exec_callRepeat hc, exec_callCancelRepeat hc, exec_dutyChange, exec_handoverTimeout, exec_deadmanPrewarn, exec_deadmanAlarm]
  generalize s.toFrame t = b at has ⊢
  refine ⟨fun calling more due free => ?_, fun stays => congrArg _ (State.chainDwell_stays stays), fun accepted due => ?_,
    fun other => congrArg _ (State.chainAcceptEnd_other other), fun n next due called => ?_, fun idle left due => ?_,
    fun silent => congrArg _ (State.chainCancel_none silent), fun h pending confirmed calm => ?_,
    fun h pending open_ => congrArg _ (State.dutyChange_waits pending open_), fun h pending enabled due => ?_,
    fun running due => ?_, fun other => congrArg _ (State.deadPrewarn_other other), fun prewarn due => ?_,
    fun other => congrArg _ (State.deadAlarm_other other)⟩
  · have entered := State.chain_enterStage has ((b.chain c).stage + 1)
    rw [State.chainDwell_due calling more due free]
    exact ⟨_, rfl, by rw [entered], by rw [entered], by rw [entered], by rw [entered], State.frameRecs_enterStage has _⟩
  · rw [State.chainAcceptEnd_due accepted due]
    exact ⟨_, rfl, by rw [State.chain_enterStage has], by rw [State.chain_enterStage has]⟩
  · rw [State.chainRepeat_due next due called]
    exact ⟨_, rfl, by rw [State.chain_modChain_self _ (by rwa [State.eng_callOut]), State.chain_callOut],
      State.frameRecs_callOut b c⟩
  · rw [State.chainCancel_due idle left due]
    exact ⟨_, rfl, by rw [State.chain_modChain_self _ (by rwa [State.eng_sendCall]), State.chain_sendCall]⟩
  · rw [State.dutyChange_confirmed pending confirmed calm]
    exact ⟨_, rfl, rfl, _, rfl, rfl, rfl⟩
  · rw [State.dutyTimeout_due pending enabled due]
    exact ⟨_, rfl, rfl, _, rfl, rfl⟩
  · rw [State.deadPrewarn_due running due]
    exact ⟨_, rfl, rfl, rfl⟩
  · rw [State.deadAlarm_due prewarn due]
    refine ⟨_, rfl, State.dead_forceChain _, fun hasAlarm => ?_⟩
    have forced := State.chain_forceChain
      (s := (b.modDead (fun d => { d with state := .alarm, since := b.frame.captFlow })).rosterEv 0x0512 7 0 0) hasAlarm
    exact ⟨congrArg ChainSt.forced forced, congrArg ChainSt.state forced, congrArg ChainSt.stage forced⟩

end Sys2Proof.Machine
end

section
/-!
PROOFS. What the operations of an encoder channel are made of: changes of the channel's state and records (R268 to R279).
-/

namespace Sys2Proof.Machine

open Sys2Proof

/-! ## One channel -/

/-- Two changes of one channel are one change. -/
theorem State.modEnc_modEnc (s : State) (k : Nat) (f g : EncSt → EncSt) :
    (s.modEnc k f).modEnc k g = s.modEnc k (fun e => g (f e)) :=
  congrArg (fun l => ({ s with encs := l } : State)) (modAt_modAt s.encs k f g)

/-- Changes that agree on what stands in the channel are the same change. -/
theorem State.modEnc_congr {s : State} {k : Nat} {f g : EncSt → EncSt} (h : f (s.enc k) = g (s.enc k)) : s.modEnc k f = s.modEnc k g :=
  congrArg (fun l => ({ s with encs := l } : State)) (modAt_congr {} fun _ => h)

/-- A record changes no channel. -/
@[simp] theorem State.enc_logEnc (s : State) (k code sev p1 p2 n : Nat) : (s.logEnc k code sev p1 p2).enc n = s.enc n := rfl

@[simp] theorem State.encUnit_modEnc (s : State) (k : Nat) (f : EncSt → EncSt) : (s.modEnc k f).encUnit = s.encUnit := rfl

@[simp] theorem State.encOpt_modEnc (s : State) (k : Nat) (f : EncSt → EncSt) : (s.modEnc k f).encOpt = s.encOpt := rfl

/-- Records keep how many channels there are. -/
@[simp] theorem State.logEnc_length (s : State) (k code sev p1 p2 : Nat) : (s.logEnc k code sev p1 p2).encs.length = s.encs.length := rfl

/-! ## What settling keeps (R277, R279) -/

section

variable {β : Type} {p : State → β} {k : Nat} (mod : ∀ s f, p (State.modEnc s k f) = p s)
  (log : ∀ s code sev p1 p2, p (State.logEnc s k code sev p1 p2) = p s)
include mod

theorem State.cmpRevert_keeps (s : State) : p (s.cmpRevert k) = p s := by
  unfold State.cmpRevert; dsimp only
  split
  · exact mod _ _
  · rfl

include log

theorem State.latchOne_keeps (s : State) : p (s.latchOne k) = p s := by
  unfold State.latchOne; dsimp only
  repeat' split
  all_goals simp only [mod, log]

theorem latchAll_keeps (n : Nat) (s : State) : p (latchAll k n s) = p s := by
  induction n generalizing s with
  | zero => rfl
  | succ n ih => exact (ih _).trans (s.latchOne_keeps mod log)

theorem State.fireCmp_keeps (s : State) (te net : Nat) : p (s.fireCmp k te net) = p s := by
  unfold State.fireCmp; dsimp only
  repeat' split
  all_goals simp only [mod, log]

theorem State.pulseOne_keeps (s : State) : p (s.pulseOne k) = p s := by
  unfold State.pulseOne
  split
  · rfl
  · exact (State.cmpRevert_keeps mod _).trans (s.fireCmp_keeps mod log _ _)

/-- Settling a channel is changes of that channel and records: what neither touches, it keeps. -/
theorem State.settleEnc_keeps (s : State) : p (s.settleEnc k) = p s :=
  (latchAll_keeps mod log _ _).trans ((mod _ _).trans (s.pulseOne_keeps mod log))

end

section

variable (s : State) (k : Nat)

@[simp] theorem State.clk_settleEnc : (s.settleEnc k).clk = s.clk := s.settleEnc_keeps (fun _ _ => rfl) (fun _ _ _ _ _ => rfl)

@[simp] theorem State.length_settleEnc : (s.settleEnc k).encs.length = s.encs.length :=
  s.settleEnc_keeps (p := fun u => u.encs.length) (fun u f => u.modEnc_length k f) (fun _ _ _ _ _ => rfl)

@[simp] theorem State.encField_settleEnc : (s.settleEnc k).encField = s.encField :=
  s.settleEnc_keeps (fun _ _ => rfl) (fun _ _ _ _ _ => rfl)

@[simp] theorem State.encMode_settleEnc : (s.settleEnc k).encMode = s.encMode :=
  s.settleEnc_keeps (fun _ _ => rfl) (fun _ _ _ _ _ => rfl)

@[simp] theorem State.encOpt_settleEnc : (s.settleEnc k).encOpt = s.encOpt :=
  s.settleEnc_keeps (fun _ _ => rfl) (fun _ _ _ _ _ => rfl)

@[simp] theorem State.encUnit_settleEnc : (s.settleEnc k).encUnit = s.encUnit :=
  s.settleEnc_keeps (fun _ _ => rfl) (fun _ _ _ _ _ => rfl)

end

end Sys2Proof.Machine
end

section
/-!
PROOFS. What reaches an encoder channel from its lines, its sensor and its compare output (R268 to R280).
-/

namespace Sys2Proof.Machine

open Sys2Proof

/-! ## Counting edges (R268, R269) -/

/-- The channel after a count forward or back, its last edge the one at local time `te` and network time `net`. -/
def EncSt.counted (e : EncSt) (fwd : Bool) (te net : Nat) : EncSt :=
  let n := { e with counter := if fwd then e.counter + 1 else e.counter - 1, forward := fwd }
  { n with edge := some (n.pos, te, net) }

/-- A channel without a compare unit has nothing to compare. -/
theorem State.compare_free {s : State} {k : Nat} (free : s.encUnit k = 0xFF) (fwd : Bool) (te net : Nat) :
    s.compare k fwd te net = s := by
  simp [State.compare, State.cmpWindow, State.encPulse, free]

/-- There a count changes the channel and nothing else. -/
theorem State.countEdge_free {s : State} {k : Nat} (free : s.encUnit k = 0xFF) (fwd : Bool) (te net : Nat) :
    s.countEdge k fwd te net = s.modEnc k (fun e => e.counted (fwd != s.encOpt k 2) te net) :=
  have free' : (s.modEnc k (fun e => e.counted (fwd != s.encOpt k 2) te net)).encUnit k = 0xFF := by rwa [State.encUnit_modEnc]
  State.compare_free free' _ _ _

section

variable {s : State} {k : Nat} {x y : Bool}

/-- The state in which a sample counts: the channel has settled and holds the new levels. -/
def State.sampled (s : State) (k : Nat) (x y : Bool) : State := (s.settleEnc k).modEnc k (fun e => { e with a := x, b := y })

theorem State.encUnit_sampled (x y : Bool) : (s.sampled k x y).encUnit = s.encUnit :=
  (State.encUnit_modEnc _ k _).trans (s.encUnit_settleEnc k)

theorem State.encOpt_sampled (x y : Bool) : (s.sampled k x y).encOpt = s.encOpt :=
  (State.encOpt_modEnc _ k _).trans (s.encOpt_settleEnc k)

/-- Quadrature with an edge of A alone: one count. -/
theorem State.encSample_quad_a (quad : s.encMode k = 1) (edge : x ≠ ((s.settleEnc k).enc k).a) :
    s.encSample k x ((s.settleEnc k).enc k).b =
      (s.sampled k x ((s.settleEnc k).enc k).b).countEdge k (x != ((s.settleEnc k).enc k).b)
        (s.clk.now - filterNs (s.encField k 8 1)) (s.clk.base - filterNs (s.encField k 8 1)) := by
  simp [State.encSample, State.sampled, quad, edge.symm]

/-- Quadrature with edges of both at once: no count, an error (R268). -/
theorem State.encSample_quad_both (quad : s.encMode k = 1) (edgeA : x ≠ ((s.settleEnc k).enc k).a)
    (edgeB : y ≠ ((s.settleEnc k).enc k).b) : s.encSample k x y =
      ((s.sampled k x y).modEnc k (fun e => { e with errors := satAdd 65535 e.errors 1 })).setQuadErr k := by
  simp [State.encSample, State.sampled, quad, edgeA.symm, edgeB.symm]

/-- Pulse and direction with a rising edge of A: one count as B says. -/
theorem State.encSample_pulse_rises (pulse : s.encMode k = 2) (low : ((s.settleEnc k).enc k).a = false) :
    s.encSample k true y = (s.sampled k true y).countEdge k y
      (s.clk.now - filterNs (s.encField k 8 1)) (s.clk.base - filterNs (s.encField k 8 1)) := by
  simp [State.encSample, State.sampled, pulse, low]

/-- With A low nothing counts. -/
theorem State.encSample_pulse_low (pulse : s.encMode k = 2) : s.encSample k false y = s.sampled k false y := by
  simp [State.encSample, State.sampled, pulse]

variable (has : k < s.encs.length)
include has

theorem State.has_sampled (x y : Bool) : k < (s.sampled k x y).encs.length := by
  rwa [State.sampled, State.modEnc_length, State.length_settleEnc]

theorem State.enc_sampled (x y : Bool) : (s.sampled k x y).enc k = { (s.settleEnc k).enc k with a := x, b := y } :=
  State.enc_modEnc_self _ (by rwa [State.length_settleEnc])

/-- A count of a channel without a compare unit, by the channel as the sample finds it. -/
theorem State.enc_sampled_countEdge (free : s.encUnit k = 0xFF) (x y fwd : Bool) (te net : Nat) :
    ((s.sampled k x y).countEdge k fwd te net).enc k =
      ({ (s.settleEnc k).enc k with a := x, b := y } : EncSt).counted (fwd != s.encOpt k 2) te net := by
  have free' : (s.sampled k x y).encUnit k = 0xFF := by rwa [State.encUnit_sampled]
  rw [State.countEdge_free free', State.enc_modEnc_self _ (State.has_sampled has x y), State.enc_sampled has, State.encOpt_sampled]

/-- QUAD_ERR stands, and nothing else of the channel has changed. -/
theorem State.enc_setQuadErr : (s.setQuadErr k).enc k = { s.enc k with quadErr := true } := by
  simp only [State.setQuadErr]
  split
  · next already => rw [← already]
  · exact State.enc_modEnc_self _ has

end

/-! ## The index (R270) -/

section

variable {s : State} {k : Nat}

/-- A channel that does not count has no index. -/
theorem State.indexEdge_uncounted (h : s.encMode k = 0 ∨ s.encMode k = 3) : s.indexEdge k = s.settleEnc k := by
  refine if_pos ?_
  obtain off | ssi := h
  · simp [off]
  · simp [ssi]

variable (quad : s.encMode k = 1) (open_ : s.encOpt k 1 = false)
include quad open_

/-- The counts per revolution are zero: the edge is latched and sets nothing else. -/
theorem State.indexEdge_latched (noTurn : s.encField k 4 4 = 0) : s.indexEdge k = (s.settleEnc k).modEnc k (fun e =>
    { e.trigger 0 (s.clk.base - filterNs (s.encField k 8 1)) with indexNow := true }) := by
  simp [State.indexEdge, quad, open_, noTurn]

/-- The first index is the reference. -/
theorem State.indexEdge_first (turn : s.encField k 4 4 ≠ 0) (first : ((s.settleEnc k).enc k).referenced = false)
    (unasked : ((s.settleEnc k).enc k).refPending = none) : s.indexEdge k = (s.settleEnc k).modEnc k (fun e =>
    { e.trigger 0 (s.clk.base - filterNs (s.encField k 8 1)) with indexNow := true, ref := e.counter, referenced := true }) := by
  simp only [State.indexEdge, State.encMode_settleEnc, State.encOpt_settleEnc, State.encField_settleEnc, State.clk_settleEnc, quad,
    open_, turn, first, unasked, bne_self_eq_false, Bool.false_and, Bool.or_self, Bool.not_false, Bool.false_eq_true, if_false, if_true,
    State.modEnc_modEnc]
  exact State.modEnc_congr rfl

end

/-! ## The line monitor (R268) -/

section

variable {s : State} {k i : Nat}

/-- A channel without the monitor finds no fault. -/
theorem State.lineFault_unmonitored (h : s.encMode k = 0 ∨ s.encOpt k 3 = false) : s.lineFault k i = s.settleEnc k := by
  refine if_neg ?_
  obtain off | unmonitored := h
  · simp [off]
  · simp [unmonitored]

/-- A monitored pair that counts sets LINE_FAULT and QUAD_ERR, and the counter stays. -/
theorem State.enc_lineFault (has : k < s.encs.length) (on : s.encMode k ≠ 0) (monitored : s.encOpt k 3 = true)
    (differential : s.encField k 2 1 = 0) (counts : i ≠ 2) :
    (s.lineFault k i).enc k = { (s.settleEnc k).enc k with lineFault := true, quadErr := true } := by
  have found : s.lineFault k i = (if ((s.settleEnc k).enc k).lineFault then s.settleEnc k
      else ((s.settleEnc k).modEnc k (fun e => { e with lineFault := true })).logEnc k 0x0602 5 i 0).setQuadErr k := by
    simp [State.lineFault, on, monitored, differential, counts]
  have has' : k < (s.settleEnc k).encs.length := by rwa [State.length_settleEnc]
  have hasF : k < (((s.settleEnc k).modEnc k (fun e => { e with lineFault := true })).logEnc k 0x0602 5 i 0).encs.length := by
    rwa [State.logEnc_length, State.modEnc_length]
  rw [found]
  split
  · next already => rw [State.enc_setQuadErr has', ← already]
  · rw [State.enc_setQuadErr hasF, State.enc_logEnc, State.enc_modEnc_self _ has']

end

/-! ## The compare output (R277, R278) -/

section

variable {s : State} {k : Nat}

theorem State.pulseOne_none (quiet : (s.enc k).cmp.hit = none) : s.pulseOne k = s := by simp only [State.pulseOne, quiet]

theorem CmpSt.countOne_unlimited {c : CmpSt} (unlimited : c.left = none) : c.countOne = c := by simp only [CmpSt.countOne, unlimited]

/-- A unit without a count, between pulses and past the guard time of the last one, fires at a point that it reaches. -/
theorem CmpSt.fire_free {c : CmpSt} {te : Nat} (width : Nat) (between : c.pulseEnd = none) (past : c.guardEnd ≤ te)
    (unlimited : c.left = none) : c.busyAt te = false ∧ c.fire te width = { c with
      point := c.next, hit := none, fired := (c.fired + 1) % 65536, pulseEnd := some (te + width), level := c.overload.isNone } := by
  have same : c.endPulse te = c := by simp only [CmpSt.endPulse, between]
  have free : c.busyAt te = false := by simp [CmpSt.busyAt, same, between, past]
  have uncounted := CmpSt.countOne_unlimited (c := { c with point := c.next, hit := none }) unlimited
  refine ⟨free, ?_⟩
  simp only [CmpSt.fire, same, free, uncounted, Bool.false_eq_true, if_false]

/-- There the pulse of an armed unit without a count starts and is latched; the train goes on. -/
theorem State.enc_pulseOne_fires (has : k < s.encs.length) {te net : Nat} (hit : (s.enc k).cmp.hit = some (te, net))
    (armed : (s.enc k).cmp.armed = true) (between : (s.enc k).cmp.pulseEnd = none) (past : (s.enc k).cmp.guardEnd ≤ te)
    (unlimited : (s.enc k).cmp.left = none) : (s.pulseOne k).enc k =
      { (s.enc k).trigger 1 net with cmp := { (s.enc k).cmp with
        point := (s.enc k).cmp.next, hit := none, fired := ((s.enc k).cmp.fired + 1) % 65536
        pulseEnd := some (te + us (s.encField k 50 2)), level := (s.enc k).cmp.overload.isNone } } := by
  obtain ⟨free, fired⟩ := CmpSt.fire_free (us (s.encField k 50 2)) between past unlimited
  have fires : (s.fireCmp k te net).enc k = { (s.enc k).trigger 1 net with cmp := (s.enc k).cmp.fire te (us (s.encField k 50 2)) } := by
    simp only [State.fireCmp, free, Bool.false_eq_true, if_false]
    rw [State.modEnc_modEnc, State.enc_modEnc_self _ has]
    rfl
  have goesOn : (s.fireCmp k te net).cmpRevert k = s.fireCmp k te net :=
    if_neg (by simp [fires, fired, armed])
  simp only [State.pulseOne, hit]
  rw [goesOn, fires, fired]

theorem CmpSt.endPulse_due {c : CmpSt} {x now : Nat} (under : c.pulseEnd = some x) (due : x ≤ now) :
    c.endPulse now = { c with pulseEnd := none, guardEnd := x + 1000, level := false } := by
  simp only [CmpSt.endPulse, under, due, if_true]

/-- An output overloads: off for 100 ms. -/
theorem State.cmpOverload_driven (unit : s.encUnit k ≠ 0xFF) (driven : (s.enc k).cmp.overload = none) :
    s.cmpOverload k = (s.modEnc k (fun e =>
      { e with cmp := { e.cmp with overload := some (s.clk.now + 100000000), level := false } })).logEnc k 0x0608 5 (s.encUnit k) 0 :=
  if_neg (by simp [unit, driven])

theorem State.cmpOverloadEnd_due {x : Nat} (off : (s.enc k).cmp.overload = some x) (due : x ≤ s.clk.now) :
    s.cmpOverloadEnd k = (s.modEnc k (fun e => { e with cmp := { e.cmp.endPulse s.clk.now with
      overload := none, level := (e.cmp.endPulse s.clk.now).pulseEnd.isSome } })).cmpWindow k := by
  simp only [State.cmpOverloadEnd, off, due, if_true]

end

/-! ## The absolute sensor (R272, R273) -/

section

variable {s : State} {k : Nat}

/-- A read starts on its interval while none is under way. -/
theorem State.ssiStart_starts {seq : Nat} (ssi : s.encMode k = 3) (interval : s.encField k 34 1 ≠ 0)
    (on : seq % s.encField k 34 1 = 0) (idle : (s.enc k).ssi.reading = none) : s.ssiStart k seq =
      s.modEnc k (fun e => { e with ssi := { e.ssi with reading := some (s.clk.now, s.clk.base, seq) } }) :=
  if_pos (by simp [ssi, interval, on, idle])

theorem State.ssiStart_other {seq : Nat} (h : s.encMode k ≠ 3 ∨ s.encField k 34 1 = 0) : s.ssiStart k seq = s := by
  refine if_neg ?_
  obtain other | never := h
  · simp [other]
  · simp [never]

variable {x y q : Nat} (reading : (s.enc k).ssi.reading = some (x, y, q)) {idle end_ parity : Bool} {raw : Nat}
include reading

/-- A read that passes waits, with its position bits, for the next tick. -/
theorem State.ssiDone_passes (passes : s.ssiFault k idle end_ parity raw = none) : s.ssiDone k idle end_ parity raw =
    s.modEnc k (fun e => { e with ssi := { e.ssi with reading := none, complete := some (some
      (let w := raw / 2 ^ s.encField k 29 1 % 2 ^ s.ssiBits k; if s.encOpt k 5 then grayToBin (s.ssiBits k) w else w), x, y) } }) := by
  simp only [State.ssiDone, reading, passes, Option.isNone_none, if_true]

/-- One that fails waits without them, and its kind of fault is logged. -/
theorem State.ssiDone_fails {kind : Nat} (fails : s.ssiFault k idle end_ parity raw = some kind) : s.ssiDone k idle end_ parity raw =
    (s.modEnc k (fun e => { e with ssi := { e.ssi with reading := none, complete := some (none, x, y) } })).logEnc k
      0x0604 5 kind raw := by
  simp only [State.ssiDone, reading, fails, Option.isNone_some, Bool.false_eq_true, if_false]

end

/-! ## Latches and limits (R279, R280) -/

section

variable {s : State} {k : Nat}

theorem State.latchOne_none (none_ : (s.enc k).trigs = []) : s.latchOne k = s := by simp only [State.latchOne, none_]

/-- The oldest trigger enters a FIFO that has a place, where the mask admits it. -/
theorem State.latchOne_enters {g n : Nat} {p : BitVec 32} {r : List (Nat × BitVec 32 × Nat)}
    (oldest : (s.enc k).trigs = (g, p, n) :: r) (admitted : tst (s.encField k 11 1) g = true) (place : (s.enc k).fifo.length < 16) :
    s.latchOne k = s.modEnc k (fun e => { e with
      trigs := r, fifo := e.fifo ++ [({ p, net := n / 10 * 10, trigger := g, gen := e.gen } : LatchRec)],
      lastLatch := some ({ p, net := n / 10 * 10, trigger := g, gen := e.gen } : LatchRec) }) := by
  simp only [State.latchOne, oldest, admitted, place, if_true]
  exact State.modEnc_congr rfl

theorem State.limitEdge_same {d : Nat} {l : Bool} (same : (s.dis.getD d {}).limit = l) : s.limitEdge d l = s := if_pos same

/-- What a limit edge of input `d` at network time `net` does to a channel that counts: a trigger for each limit that names it. -/
def State.limitTrigger (s : State) (k d net : Nat) (e : EncSt) : EncSt :=
  let fwd := if s.encField k 14 1 = d then e.trigger 2 net else e
  if s.encField k 15 1 = d then fwd.trigger 3 net else fwd

/-- The limit edge on one channel. -/
def State.limitOne (d net : Nat) (s : State) (k : Nat) : State :=
  if s.encMode k = 0 then s else s.modEnc k (s.limitTrigger k d net)

/-- An edge of the input sets its level and reaches the channels one by one. -/
theorem State.limitEdge_edge {d : Nat} {l : Bool} (edge : (s.dis.getD d {}).limit ≠ l) : s.limitEdge d l =
    ({ s with dis := modAt s.dis d (fun x => { x with limit := l }) } : State).each 8 (State.limitOne d (s.clk.base - us 20)) :=
  if_neg edge

theorem State.limitOne_keeps {β : Type} {p : State → β} (mod : ∀ s k f, p (State.modEnc s k f) = p s) {d net : Nat} (s : State)
    (k : Nat) : p (State.limitOne d net s k) = p s := by
  unfold State.limitOne
  split
  · rfl
  · exact mod _ _ _

theorem State.enc_limitOne_ne {d net j : Nat} (other : j ≠ k) : (State.limitOne d net s j).enc k = s.enc k := by
  unfold State.limitOne
  split
  · rfl
  · exact State.enc_modEnc_ne _ other

theorem State.encField_of_cfg {u : State} (same : u.cfg = s.cfg) : u.encField = s.encField := by
  funext k o n
  simp only [State.encField, same]

/-- The channels one by one: each is reached in its turn, by no other turn. -/
theorem State.enc_each_limitOne {d net : Nat} (has : k < s.encs.length) (on : s.encMode k ≠ 0) (n : Nat) :
    (s.each n (State.limitOne d net)).enc k = if k < n then s.limitTrigger k d net (s.enc k) else s.enc k := by
  refine (State.each_induction (fun i u => u.cfg = s.cfg ∧ u.encs.length = s.encs.length ∧
    u.enc k = if k < i then s.limitTrigger k d net (s.enc k) else s.enc k) n ⟨rfl, rfl, rfl⟩ ?_).2.2
  rintro i u ⟨cfg, length, enc⟩
  refine ⟨(u.limitOne_keeps (p := State.cfg) (fun _ _ _ => rfl) i).trans cfg,
    (u.limitOne_keeps (p := fun u => u.encs.length) (fun u k f => u.modEnc_length k f) i).trans length, ?_⟩
  by_cases here : i = k
  · subst here
    have field := State.encField_of_cfg cfg
    have on' : u.encMode i ≠ 0 := by rwa [State.encMode, field]
    rw [if_pos (Nat.lt_succ_self i), State.limitOne, if_neg on', State.enc_modEnc_self _ (length ▸ has), enc, if_neg (Nat.lt_irrefl i)]
    simp only [State.limitTrigger, field]
  · have turn : k < i + 1 ↔ k < i := by omega
    simp only [State.enc_limitOne_ne here, enc, turn]

section

variable {d : Nat} {l : Bool} (edge : (s.dis.getD d {}).limit ≠ l)
include edge

theorem State.dis_limitEdge : (s.limitEdge d l).dis = modAt s.dis d (fun x => { x with limit := l }) := by
  rw [State.limitEdge_edge edge]
  exact State.each_keeps State.dis (State.limitOne_keeps (fun _ _ _ => rfl)) _ 8

theorem State.encField_limitEdge : (s.limitEdge d l).encField = s.encField := by
  rw [State.limitEdge_edge edge]
  exact State.each_keeps State.encField (State.limitOne_keeps (fun _ _ _ => rfl)) _ 8

/-- The forward limit of a channel that counts latches with the edge of its input alone. -/
theorem State.enc_limitEdge_fwd (hk : k < 8) (has : k < s.encs.length) (on : s.encMode k ≠ 0) (fwd : s.encField k 14 1 = d)
    (notRev : s.encField k 15 1 ≠ d) : (s.limitEdge d l).enc k = (s.enc k).trigger 2 (s.clk.base - us 20) := by
  have reached := State.enc_each_limitOne (s := { s with dis := modAt s.dis d (fun x => { x with limit := l }) }) (d := d)
    (net := s.clk.base - us 20) has on 8
  rw [State.limitEdge_edge edge, reached, if_pos hk]
  exact (if_neg notRev).trans (if_pos fwd)

end

end

/-! ## The rows -/

section

variable (s : State) (t : Nat)

theorem State.enc_advance : (s.advance t).enc = s.enc := rfl

theorem State.encField_advance : (s.advance t).encField = s.encField := rfl

theorem State.encMode_advance : (s.advance t).encMode = s.encMode := rfl

theorem State.encOpt_advance : (s.advance t).encOpt = s.encOpt := rfl

theorem State.encUnit_advance : (s.advance t).encUnit = s.encUnit := rfl

theorem State.encLimit_advance : (s.advance t).encLimit = s.encLimit := rfl

theorem State.ssiBits_advance : (s.advance t).ssiBits = s.ssiBits := rfl

theorem State.ssiFault_advance : (s.advance t).ssiFault = s.ssiFault := rfl

end

section

variable {s : State} {t k : Nat} (hk : k < 8)
include hk

theorem exec_encoderEdge (x y : Bool) : exec (.encoderEdge t k x y) s = .next ((s.advance t).encSample k x y) :=
  guardUnit_next (decide_eq_true hk)

theorem exec_indexEdge : exec (.indexEdge t k) s = .next ((s.advance t).indexEdge k) := guardUnit_next (decide_eq_true hk)

theorem exec_posLineFault (i : Nat) : exec (.posLineFault t k i) s = .next ((s.advance t).lineFault k i) :=
  guardUnit_next (decide_eq_true hk)

theorem exec_lineFaultClear : exec (.lineFaultClear t k) s =
    .next ((s.advance t).modEnc k (fun e => { e with lineFault := false })) := guardUnit_next (decide_eq_true hk)

theorem exec_comparePulse : exec (.comparePulse t k) s = .next ((s.advance t).pulseOne k) := guardUnit_next (decide_eq_true hk)

theorem exec_comparePulseEnd : exec (.comparePulseEnd t k) s =
    .next ((s.advance t).modEnc k (fun e => { e with cmp := e.cmp.endPulse (s.advance t).clk.now })) :=
  guardUnit_next (decide_eq_true hk)

theorem exec_cmpOverload : exec (.cmpOverload t k) s = .next ((s.advance t).cmpOverload k) := guardUnit_next (decide_eq_true hk)

theorem exec_cmpOverloadEnd : exec (.cmpOverloadEnd t k) s = .next ((s.advance t).cmpOverloadEnd k) :=
  guardUnit_next (decide_eq_true hk)

theorem exec_ssiRead : exec (.ssiRead t k) s =
    .next (if (s.advance t).atTick then (s.advance t).ssiStart k (s.advance t).frame.seq else s.advance t) :=
  guardUnit_next (decide_eq_true hk)

theorem exec_ssiReadComplete (idle end_ parity : Bool) (raw : Nat) : exec (.ssiReadComplete t k idle end_ parity raw) s =
    .next ((s.advance t).ssiDone k idle end_ parity raw) := guardUnit_next (decide_eq_true hk)

theorem exec_latch : exec (.latch t k) s = .next ((s.advance t).latchOne k) := guardUnit_next (decide_eq_true hk)

end

theorem exec_limitEdge {s : State} {t d : Nat} (hd : d < 16) (l : Bool) :
    exec (.limitEdge t d l) s = .next ((s.advance t).limitEdge d l) := guardUnit_next (decide_eq_true hd)

/-- Settles O49: each row by what its operation does to the channel once time has run on. That A leading B counts forward is the model's
choice (log 61), as are the position and the instant of a limit latch (log 118); illegal transitions and line faults are those of
R268. -/
theorem encoderEvents : Obligations.EncoderEvents := by
  intro s t k hk has
  dsimp only
  rw [← s.advance_encs t] at has
  rw [← s.enc_advance t, ← s.encField_advance t, ← s.encMode_advance t, ← s.encOpt_advance t, ← s.encUnit_advance t,
    ← s.encLimit_advance t, ← s.ssiBits_advance t, ← s.ssiFault_advance t, ← s.advance_frame t, ← s.advance_dis t]
  refine ⟨fun quad free x edge => ⟨_, exec_encoderEdge hk _ _, ?_⟩, fun quad x y edgeA edgeB => ⟨_, exec_encoderEdge hk _ _, ?_⟩,
    fun pulse free low y => ⟨_, exec_encoderEdge hk _ _, ?_⟩,
    fun pulse y => (exec_encoderEdge hk _ _).trans (congrArg _ (State.encSample_pulse_low pulse)),
    fun quad open_ turn first unasked => (exec_indexEdge hk).trans (congrArg _ (State.indexEdge_first quad open_ turn first unasked)),
    fun quad open_ noTurn => (exec_indexEdge hk).trans (congrArg _ (State.indexEdge_latched quad open_ noTurn)),
    fun off => (exec_indexEdge hk).trans (congrArg _ (State.indexEdge_uncounted off)),
    fun i off => (exec_posLineFault hk i).trans (congrArg _ (State.lineFault_unmonitored off)),
    fun i on monitored differential counts => ⟨_, exec_posLineFault hk i, ?_⟩, exec_lineFaultClear hk,
    fun quiet => (exec_comparePulse hk).trans (congrArg _ (State.pulseOne_none quiet)),
    fun x y hit armed between past unlimited => ⟨_, exec_comparePulse hk, ?_⟩,
    fun x under due => (exec_comparePulseEnd hk).trans (congrArg _ (State.modEnc_congr ?_)),
    fun unit driven => (exec_cmpOverload hk).trans (congrArg _ (State.cmpOverload_driven unit driven)),
    fun x off due => (exec_cmpOverloadEnd hk).trans (congrArg _ (State.cmpOverloadEnd_due off due)),
    fun tick ssi interval on idle => ?_, fun h => ?_,
    fun x y q i p r reading passes => (exec_ssiReadComplete hk _ _ _ _).trans (congrArg _ (State.ssiDone_passes reading passes)),
    fun x y q i o p r f reading fails => (exec_ssiReadComplete hk _ _ _ _).trans (congrArg _ (State.ssiDone_fails reading fails)),
    fun none_ => (exec_latch hk).trans (congrArg _ (State.latchOne_none none_)),
    fun g p n r oldest admitted place => (exec_latch hk).trans (congrArg _ (State.latchOne_enters oldest admitted place)),
    fun d l hd hasD edge on fwd notRev => ⟨_, exec_limitEdge hd l, ?_⟩,
    fun d l hd same => (exec_limitEdge hd l).trans (congrArg _ (State.limitEdge_same same))⟩
  · rw [State.encSample_quad_a quad edge, State.enc_sampled_countEdge has free]
    exact ⟨rfl, rfl, rfl, rfl⟩
  · have sampled := State.has_sampled has x y
    rw [State.encSample_quad_both quad edgeA edgeB, State.enc_setQuadErr (lt_of_lt_of_eq sampled (State.modEnc_length _ k _).symm),
      State.enc_modEnc_self _ sampled, State.enc_sampled has]
    refine ⟨rfl, ?_, rfl⟩
    simp only [satAdd]
    split <;> omega
  · rw [State.encSample_pulse_rises pulse low, State.enc_sampled_countEdge has free]
    rfl
  · rw [State.enc_lineFault has on monitored differential counts]
    exact ⟨rfl, rfl, rfl⟩
  · rw [State.enc_pulseOne_fires has hit armed between past unlimited]
    exact ⟨rfl, rfl, congrArg (fun w => some (x + w)) (Nat.mul_comm _ 1000), rfl, rfl⟩
  · rw [CmpSt.endPulse_due under due]
  · rw [exec_ssiRead hk, if_pos tick, State.ssiStart_starts ssi interval on idle]
  · rw [exec_ssiRead hk]
    obtain between | other := h
    · rw [if_neg (by simp [between])]
    · rw [State.ssiStart_other other, ite_self]
  · have here := getD_modAt_self (fun x : DiSt => { x with limit := l }) {} hasD
    simp only [State.encLimit, State.encField_limitEdge edge, State.dis_limitEdge edge, State.enc_limitEdge_fwd edge hk has on fwd notRev,
      fwd, here, getD_modAt_ne _ _ notRev.symm]
    exact ⟨trivial, trivial, trivial, rfl⟩

end Sys2Proof.Machine
end

section
/-!
PROOFS. The opcodes of the encoder block, and a rebase at its tick (R271, R277, R279, R283, R285).
-/

namespace Sys2Proof.Machine

open Sys2Proof

/-! ## Requests (Table 10.12) -/

section

variable {s : State} {t tag : Nat} {f : Flight}

section

variable (he : Executes s tag 0x0603 f)
include he

/-- A channel that is off takes no rebase. -/
theorem exec_posRebase_off (off : s.encMode f.unit = 0) :
    exec (.posRebase t tag) s = .next ((s.acting t).complete f .badField 8 []).takeNext :=
  exec_row_eq rfl he ((if_pos off).trans (State.refuse_eq (by decide)))

/-- An absolute sensor takes no mode that needs an index. -/
theorem exec_posRebase_absolute (ssi : s.encMode f.unit = 3) (index : byteAt f.req 16 = 1 ∨ byteAt f.req 16 = 3) :
    exec (.posRebase t tag) s = .next ((s.acting t).complete f .badField 16 []).takeNext := by
  have ssi' : (s.acting t).encMode f.unit = 3 := ssi
  have on : (s.acting t).encMode f.unit ≠ 0 := by omega
  exact exec_row_eq rfl he ((if_neg on).trans ((if_pos (by simp [ssi', index])).trans (State.refuse_eq (by decide))))

/-- A channel that counts takes every mode but `ABSORB` as it stands. -/
theorem exec_posRebase_counting (counts : s.encMode f.unit = 1 ∨ s.encMode f.unit = 2) (mode : byteAt f.req 16 ≠ 1) :
    exec (.posRebase t tag) s =
      .next ((s.acting t).addLive (.rebase f.unit (byteAt f.req 16) (BitVec.ofNat 32 (u32At f.req 20))) f).takeNext := by
  have on : (s.acting t).encMode f.unit ≠ 0 ∧ (s.acting t).encMode f.unit ≠ 3 := by
    change s.encMode f.unit ≠ 0 ∧ s.encMode f.unit ≠ 3
    omega
  exact exec_row_eq rfl he ((if_neg on.1).trans ((if_neg (by simp [on.2])).trans (if_neg (by simp [mode]))))

end

theorem exec_posCmpArm_pulse (he : Executes s tag 0x0604 f) (pulse : s.encPulse f.unit = true) : exec (.posCmpArm t tag) s =
    .next ((s.acting t).addLive (.cmpArm f.unit (BitVec.ofNat 32 (u32At f.req 16)) (u32At f.req 20) (u16At f.req 24)
      (byteAt f.req 26)) f).takeNext := by
  have pulse' : (s.acting t).encPulse f.unit = true := pulse
  exact exec_row_eq rfl he (if_neg (by simp [pulse']))

theorem exec_posCmpArm_none (he : Executes s tag 0x0604 f) (none_ : s.encPulse f.unit = false) :
    exec (.posCmpArm t tag) s = .next ((s.acting t).complete f .badField 8 []).takeNext := by
  have none' : (s.acting t).encPulse f.unit = false := none_
  exact exec_row_eq rfl he ((if_pos (by simp [none'])).trans (State.refuse_eq (by decide)))

theorem exec_posCmpStop_pulse (he : Executes s tag 0x0605 f) (pulse : s.encPulse f.unit = true) :
    exec (.posCmpStop t tag) s = .next ((s.acting t).addLive (.cmpStop f.unit) f).takeNext := by
  have pulse' : (s.acting t).encPulse f.unit = true := pulse
  exact exec_row_eq rfl he (if_neg (by simp [pulse']))

theorem exec_posCmpStop_none (he : Executes s tag 0x0605 f) (none_ : s.encPulse f.unit = false) :
    exec (.posCmpStop t tag) s = .next ((s.acting t).complete f .badField 8 []).takeNext := by
  have none' : (s.acting t).encPulse f.unit = false := none_
  exact exec_row_eq rfl he ((if_pos (by simp [none'])).trans (State.refuse_eq (by decide)))

end

/-! ## Latches are read (R279) -/

section

variable {s : State} {f : Flight}

/-- A peek answers at once and leaves the FIFO. -/
theorem State.latchRead_peek (peek : byteAt f.req 17 ≠ 1) : let b := s.settleEnc f.unit
    let l := (b.enc f.unit).fifo
    s.latchRead f = b.complete f .ok 0 (le8 (l.take (byteAt f.req 16)).length ++ le8 l.length ++ le16 (b.enc f.unit).dropped ++
      zeros 4 ++ ((l.take (byteAt f.req 16)).map b.latchEntry).flatten) := by
  simp only [State.latchRead, peek, if_false, State.ok]

/-- A drain takes its entries and answers with the next frame. -/
theorem State.latchRead_drain (drain : byteAt f.req 17 = 1) : let b := s.settleEnc f.unit
    let l := (b.enc f.unit).fifo
    s.latchRead f = (b.modEnc f.unit (fun e => { e with fifo := l.drop (byteAt f.req 16), dropped := 0, overflow := false })).wait f
      (.nextFrame (le8 (l.take (byteAt f.req 16)).length ++ le8 (l.drop (byteAt f.req 16)).length ++ le16 (b.enc f.unit).dropped ++
        zeros 4 ++ ((l.take (byteAt f.req 16)).map b.latchEntry).flatten)) := by
  simp only [State.latchRead, drain, if_true]

end

/-! ## A rebase at its tick (R271) -/

section

variable {s : State} {k : Nat}

/-- A window is followed in the compare unit alone. -/
theorem State.enc_cmpWindow (has : k < s.encs.length) : ∃ c, (s.cmpWindow k).enc k = { s.enc k with cmp := c } := by
  unfold State.cmpWindow; dsimp only
  split
  · exact ⟨_, State.enc_modEnc_self _ has⟩
  · exact ⟨_, rfl⟩

/-- `SET`: p takes the value, the reference is in force, QUAD_ERR is cleared; else only the compare unit may have changed. -/
theorem State.enc_rebaseEnc_set (has : k < s.encs.length) (v : BitVec 32) : let e := (s.settleEnc k).enc k
    ∃ c, (s.rebaseEnc k 0 v).enc k = { e with
      gen := (e.gen + 1) % 256, rebasedNow := true, c := v - e.counter, quadErr := false, referenced := true, cmp := c } := by
  have has' : k < (s.settleEnc k).encs.length := by rwa [State.length_settleEnc]
  intro e
  unfold State.rebaseEnc
  extract_lets b b1 b2
  have set_ : b2.enc k = { e with
      gen := (e.gen + 1) % 256, rebasedNow := true, c := v - e.counter, quadErr := false, referenced := true } :=
    State.enc_modEnc_self _ has'
  have has2 : k < b2.encs.length := lt_of_lt_of_eq has' (State.modEnc_length b k _).symm
  split
  · obtain ⟨c, window⟩ := State.enc_cmpWindow has2
    exact ⟨c, window.trans (by rw [set_])⟩
  · obtain ⟨c, window⟩ := State.enc_cmpWindow (s := b2.modEnc k (fun e => { e with cmp := { e.cmp with check := true } }))
      (by rwa [State.modEnc_length])
    exact ⟨c, window.trans (by rw [State.enc_modEnc_self _ has2, set_])⟩

/-- An answer changes no channel. -/
theorem State.enc_answerLive (s : State) (c : LiveCmd) (d : Nat) (p : List Byte) : (s.answerLive c d p).enc = s.enc := by
  unfold State.answerLive
  split <;> rfl

/-- A rebase whose channel still has its role acts. -/
theorem State.enc_applyEncLive_rebase {c : LiveCmd} {m : Nat} {v : BitVec 32} (kind : c.kind = .rebase k m v) (new : c.applied = none)
    (role : c.role = s.cfg.roles.get .enc k) : (s.applyEncLive c).enc = (s.rebaseEnc k m v).enc := by
  have current : (c.role != s.cfg.roles.get .enc k) = false := by simp [role]
  simp only [State.applyEncLive, kind, new, current, Option.isSome_none, Bool.false_eq_true, if_false, State.enc_answerLive]

variable {t : Nat} (hk : k < 8)
include hk

/-- At a tick the one rebase that waits for the channel acts. -/
theorem exec_posRebased_one {c : LiveCmd} {m : Nat} {v : BitVec 32} (live : s.live = [c]) (kind : c.kind = .rebase k m v)
    (tick : (s.advance t).atTick = true) : exec (.posRebased t k) s = .next ((s.advance t).applyEncLive c) := by
  refine (guardUnit_next (decide_eq_true hk)).trans ((congrArg _ (if_pos tick)).trans ?_)
  simp [live, LiveCmd.rebases, kind]

/-- Between ticks none does. -/
theorem exec_posRebased_between (between : (s.advance t).atTick = false) : exec (.posRebased t k) s = .next (s.advance t) :=
  (guardUnit_next (decide_eq_true hk)).trans (congrArg _ (if_neg (by simp [between])))

end

/-- Settles O50: each opcode by what it asks of its channel, and a `SET` by what it leaves in the channel at its tick. That a rebase of
a channel in OFF is refused with detail 8 is the model's choice (log 61), as is the drain that answers at the next publication
(log 147). -/
theorem encoderOpcodes : Obligations.EncoderOpcodes := by
  intro s t tag f
  dsimp only
  refine ⟨fun he counts mode => exec_posRebase_counting he counts (by omega), exec_posRebase_off, exec_posRebase_absolute,
    exec_posCmpArm_pulse, exec_posCmpStop_pulse,
    fun none_ => ⟨fun he => exec_posCmpArm_none he none_, fun he => exec_posCmpStop_none he none_⟩,
    fun he peek => exec_row_eq rfl he (State.latchRead_peek peek), fun he drain => exec_row_eq rfl he (State.latchRead_drain drain),
    fun c v live kind new role hk has tick => ?_, fun hk between => exec_posRebased_between hk between⟩
  rw [← s.advance_encs t] at has
  rw [← s.advance_cfg t] at role
  obtain ⟨cmp, set_⟩ := State.enc_rebaseEnc_set has v
  refine ⟨_, exec_posRebased_one hk live kind tick, ?_⟩
  rw [State.enc_applyEncLive_rebase kind new role, set_]
  exact ⟨(BitVec.add_comm _ _).trans (BitVec.sub_add_cancel _ _), rfl, rfl, rfl, rfl⟩

end Sys2Proof.Machine
end

section
/-!
PROOFS. The controllers of the machinery bus: transmission, identifier clashes, fault confinement (R287 to R296, Table 11.3).
-/

namespace Sys2Proof.Machine

open Sys2Proof

/-! ## What the operations on a controller leave -/

@[simp] theorem State.ctl_logBus (s : State) (b code sev p1 p2 d : Nat) : (s.logBus b code sev p1 p2).ctl d = s.ctl d := rfl

/-- Two changes of a controller that agree on what it is are the same change. -/
theorem State.modCtl_congr {s : State} {b : Nat} {f g : BusCtl → BusCtl} (h : f (s.ctl b) = g (s.ctl b)) :
    s.modCtl b f = s.modCtl b g := by
  unfold State.modCtl
  rw [modAt_congr {} (fun _ => h)]

/-- A change that leaves a controller as it stands changes nothing. -/
theorem State.modCtl_same {s : State} {b : Nat} {f : BusCtl → BusCtl} (h : f (s.ctl b) = s.ctl b) : s.modCtl b f = s :=
  (State.modCtl_congr (g := fun _ => s.ctl b) h).trans
    (congrArg (fun l => { s with bus := { s.bus with ctl := l } }) (modAt_getD s.bus.ctl b {}))

/-- Two changes of a controller are one. -/
theorem State.modCtl_modCtl (s : State) (b : Nat) (f g : BusCtl → BusCtl) :
    (s.modCtl b f).modCtl b g = s.modCtl b (fun c => g (f c)) :=
  congrArg (fun l => { s with bus := { s.bus with ctl := l } }) (modAt_modAt s.bus.ctl b f g)

/-- While no reset is asked for none is taken. -/
theorem State.resetDue_none {s : State} (none_ : s.rst.dueAt = none) : s.resetDue = s :=
  State.resetDue_of_not_ready (by simp only [State.resetReady, none_])

/-- A frame that joins the buffers changes them alone. -/
theorem BusCtl.push_changes (c : BusCtl) (f : TxFrame) (replace : Bool) : ∃ p, c.push f replace = { c with proto := p } := by
  unfold BusCtl.push
  split
  · exact ⟨_, rfl⟩
  · exact ⟨_, rfl⟩

/-- Sending a node-protocol frame changes the buffers of its controller alone. -/
theorem State.sendProto_proto (s : State) (b prio cls index : Nat) (body : List Byte) (role : TxRole) :
    ∃ p, s.sendProto b prio cls index body role = s.modCtl b (fun c => { c with proto := p }) := by
  unfold State.sendProto
  split
  · obtain ⟨p, h⟩ := BusCtl.push_changes (s.ctl b)
      { ext := true, id := protoId prio cls s.bus.nodeId index, data := body, key := s.protoKey, since := s.clk.now,
        put := s.clk.now, role } (periodic cls)
    exact ⟨p, State.modCtl_congr h⟩
  · exact ⟨(s.ctl b).proto, (State.modCtl_same rfl).symm⟩

/-! ## The frame on offer (R294, R326) -/

section

variable {s : State} {b : Nat}

theorem State.stateAt_uncut (uncut : (s.ctl b).cut = none) (mark : Nat) : s.stateAt b mark = (s.ctl b).state := by
  simp only [State.stateAt, uncut]

theorem State.offer_uncut (uncut : (s.ctl b).cut = none) (mark : Nat) :
    s.offer b mark = (s.ctl b).candidate (s.busOpt b 4) mark s.held := by
  simp only [State.offer, uncut]

variable {x : Nat × BusState × Bool} {mark : Nat} (cut : (s.ctl b).cut = some x) (before : mark < x.1)
include cut before

/-- The frame in progress at a commit is finished in the state before it. -/
theorem State.stateAt_cut : s.stateAt b mark = x.2.1 := by
  simp only [State.stateAt, cut, if_pos before]

/-- And in the transmit mode before it. -/
theorem State.offer_cut : s.offer b mark = (s.ctl b).candidate x.2.2 mark s.held := by
  simp only [State.offer, cut, if_pos before]

end

/-! ## Transmission (R290, R295, R307) -/

/-- The controller after frame `f`, its sync mark at `mark`, has been transmitted. -/
def BusCtl.transmitted (c : BusCtl) (f : TxFrame) (mark : Nat) : BusCtl :=
  { c.sent f mark with
    txCount := min 4294967295 (c.txCount + 1), tec := c.tec - 1, dominant := false
    state := if c.state = .errorPassive && c.tec - 1 < 128 && c.rec_ < 128 then .errorActive else c.state }

section

variable {s : State} {b : Nat} {f : TxFrame} {mark : Nat}

/-- Without `TDC`, or without `FD`, no delay is measured. -/
theorem State.measureDelay_off (off : s.busOpt b 5 = false ∨ s.busOpt b 1 = false) : s.measureDelay b f = s := by
  obtain tdc | fd := off
  · simp [State.measureDelay, tdc]
  · simp [State.measureDelay, fd]

/-- A measurement draws a value and may change the delay of its controller. -/
theorem State.measureDelay_changes (s : State) (b : Nat) (f : TxFrame) :
    ∃ n d, s.measureDelay b f = ({ s with free := n }).modCtl b (fun c => { c with txDelay := d }) := by
  unfold State.measureDelay
  split
  · by_cases low : (Config.transmitterDelay s.draw.1).toNat < s.busField b 13 1
    · refine ⟨s.free + 1, (s.ctl b).txDelay, ?_⟩
      simp only [if_pos low]
      exact State.modCtl_congr rfl
    · simp only [if_neg low]
      exact ⟨s.free + 1, _, rfl⟩
  · exact ⟨s.free, (s.ctl b).txDelay, (State.modCtl_same rfl).symm⟩

/-- A follow-up changes the buffers of its controller alone. -/
theorem State.followUp_proto (s : State) (b q base : Nat) :
    ∃ p, s.followUp b q base = s.modCtl b (fun c => { c with proto := p }) := by
  unfold State.followUp
  split
  · exact ⟨(s.ctl b).proto, (State.modCtl_same rfl).symm⟩
  · exact s.sendProto_proto _ _ _ _ _ _

/-- A controller that does not transmit has neither success nor clash (Table 11.3). -/
theorem State.txSuccess_silent (silent : (s.stateAt b mark).sends = false) (base : Nat) : s.txSuccess b mark base = s := by
  simp [State.txSuccess, silent]

theorem State.idClash_silent (silent : (s.stateAt b mark).sends = false) : s.idClash b mark = s := by
  simp [State.idClash, silent]

variable (sends : (s.stateAt b mark).sends = true)
include sends

theorem State.txSuccess_idle (idle : s.offer b mark = none) (base : Nat) : s.txSuccess b mark base = s := by
  simp [State.txSuccess, sends, idle]

variable (offer : s.offer b mark = some f)
include offer

section

variable (unasked : f.asks = []) (base : Nat)
include unasked

/-- A frame that is no reference and that no request waits for is counted and leaves the buffers. -/
theorem State.txSuccess_other (other : ∀ q, f.roleAt mark ≠ .timeRef q) :
    s.txSuccess b mark base = (s.measureDelay b f).modCtl b (fun c => c.transmitted f mark) := by
  simp only [State.txSuccess, sends, offer, unasked, List.filter_nil, List.foldl_nil]
  cases role : f.roleAt mark with
  | timeRef q => exact absurd role (other q)
  | claim | goingDown | culvertReq | culvertRsp | other | object => rfl

/-- A reference is followed up besides (R307). -/
theorem State.txSuccess_ref {q : Nat} (ref : f.roleAt mark = .timeRef q) :
    s.txSuccess b mark base = ((s.measureDelay b f).modCtl b (fun c => c.transmitted f mark)).followUp b q base := by
  simp only [State.txSuccess, sends, offer, unasked, List.filter_nil, List.foldl_nil, ref]
  rfl

/-- What a reference sent leaves: its controller has counted it, and new frames may stand in its buffers. -/
theorem State.txSuccess_ref_changes {q : Nat} (ref : f.roleAt mark = .timeRef q) : ∃ n d p, s.txSuccess b mark base =
    ({ s with free := n }).modCtl b (fun c => { ({ c with txDelay := d } : BusCtl).transmitted f mark with proto := p }) := by
  obtain ⟨n, d, delay⟩ := s.measureDelay_changes b f
  obtain ⟨p, follow⟩ := State.followUp_proto ((s.measureDelay b f).modCtl b (fun c => c.transmitted f mark)) b q base
  refine ⟨n, d, p, (State.txSuccess_ref sends offer unasked base ref).trans (follow.trans ?_)⟩
  rw [delay, State.modCtl_modCtl, State.modCtl_modCtl]

end

/-! ## Identifier clashes (R296) -/

/-- A clash below the third is counted with the frame. -/
theorem State.idClash_counted (few : f.clashes < 2) : s.idClash b mark = (s.clashError b f).modCtl b (fun c =>
    { c with proto := modFirst (fun x => decide (x = f)) (fun x => { x with clashes := x.clashes + 1 }) c.proto
             objs := modFirst (fun x => decide (x = f)) (fun x => { x with clashes := x.clashes + 1 }) c.objs }) := by
  have more : f.clashes + 1 < 3 := by omega
  simp [State.idClash, sends, offer, more]

end

/-- Frame `f` is aborted for its clashes: it leaves the buffers of controller `b`, is counted and logged. -/
def State.clashAborted (s : State) (b : Nat) (f : TxFrame) : State :=
  ((s.clashError b f).modCtl b (fun c => { c.remove f with idClashes := min 65535 (c.idClashes + 1) })).logBus b 0x0706 5 f.id
    (f.clashes + 1)

section

variable {s : State} {b : Nat} {f : TxFrame} {mark : Nat} (sends : (s.stateAt b mark).sends = true)
  (offer : s.offer b mark = some f) (third : 2 ≤ f.clashes)
include sends offer third

/-- The third clash in a row aborts a frame that neither claims nor carries a request. -/
theorem State.idClash_aborted (unasked : f.asks = []) (unclaimed : ∀ d, f.role ≠ .claim d) (noReq : ∀ n, f.role ≠ .culvertReq n) :
    s.idClash b mark = s.clashAborted b f := by
  have last : ¬ f.clashes + 1 < 3 := by omega
  simp only [State.idClash, sends, offer, last, unasked, List.foldl_nil, Bool.not_true, Bool.false_eq_true, if_false]
  cases role : f.role with
  | claim d => exact absurd role (unclaimed d)
  | culvertReq n => exact absurd role (noReq n)
  | timeRef | goingDown | culvertRsp | other | object => rfl

/-- The third clash of a claim is a duplicate ID (R305). -/
theorem State.idClash_claim {d : Bool} (claim : f.role = .claim d) : s.idClash b mark = (s.clashAborted b f).raiseDuplicate 0 := by
  have last : ¬ f.clashes + 1 < 3 := by omega
  simp only [State.idClash, sends, offer, last, claim, Bool.not_true, Bool.false_eq_true, if_false]
  rfl

end

/-- With a duplicate ID no controller transmits (R305). -/
theorem State.raiseDuplicate_quiet {s : State} (first : s.bus.duplicate = false) (uid : Nat) :
    let u := s.raiseDuplicate uid
    u.bus.duplicate = true ∧ u.rst = s.rst ∧ ∀ c ∈ u.bus.ctl, c.state = .off ∨ c.state = .listenOnly := by
  simp only [State.raiseDuplicate, first, Bool.false_eq_true, if_false]
  refine ⟨rfl, rfl, fun c hc => ?_⟩
  obtain ⟨d, -, rfl⟩ := List.mem_map.1 hc
  by_cases off : d.state = .off
  · rw [if_pos off]; exact .inl off
  · rw [if_neg off]; exact .inr rfl

/-! ## Fault confinement (Table 11.3, R291) -/

section

variable {s : State} {b : Nat} (tec rec_ ea ed : Nat)

theorem State.errorPassive_active (active : (s.ctl b).state = .errorActive) (past : 128 ≤ tec ∨ 128 ≤ rec_) :
    s.errorPassive b tec rec_ ea ed = (s.modCtl b (fun c =>
      { c with state := .errorPassive, tec := tec, rec_ := rec_, errA := ea % 8, errD := ed % 8 })).logBus b 0x0708 4
        (if 128 ≤ tec then tec else rec_) 0 :=
  if_pos (by simp [active, past])

theorem State.errorPassive_other (h : (s.ctl b).state ≠ .errorActive ∨ tec < 128 ∧ rec_ < 128) :
    s.errorPassive b tec rec_ ea ed = s := by
  refine if_neg ?_
  obtain other | ⟨low, low'⟩ := h
  · simp [other]
  · simp [low, low']

theorem State.busOff_below (low : tec ≤ 255) : s.busOff b tec ea ed = s := if_neg (by simp [low])

/-- Past 255 the controller recovers, but holds off at the third time within 60 s (R291). -/
theorem State.busOff_over (has : b < s.bus.ctl.length) (sends : (s.ctl b).state.sends = true) (past : 255 < tec) :
    let u := s.busOff b tec ea ed
    let again := 2 ≤ ((s.ctl b).offTimes.filter (fun y => decide (s.clk.now < y + 60000000000))).length
    (u.ctl b).state = (if again then .busOff else .recovering) ∧ (u.ctl b).busOffs = min 65535 ((s.ctl b).busOffs + 1) ∧
      (u.ctl b).holdEnd = (if again then some (s.clk.now + 10000000000) else none) ∧ ∀ d, d ≠ b → u.ctl d = s.ctl d := by
  have off : ((s.ctl b).state.sends && decide (255 < tec)) = true := by simp [sends, past]
  simp only [State.busOff, if_pos off, State.ctl_logBus, State.ctl_modCtl_self _ has, List.length_cons, decide_eq_true_eq,
    Nat.reduceLeDiff, secs, satAdd, Nat.reduceMul, true_and]
  exact ⟨rfl, rfl, fun d other => State.ctl_modCtl_ne _ other.symm⟩

/-- The hold of a controller that is bus-off ends with its 10 s. -/
theorem State.holdDone_due {x : Nat} (off : (s.ctl b).state = .busOff) (hold : (s.ctl b).holdEnd = some x) (due : x ≤ s.clk.now) :
    s.holdDone b = s.recover b := by
  simp only [State.holdDone, off, hold, if_pos due]

theorem State.holdDone_early {x : Nat} (hold : (s.ctl b).holdEnd = some x) (early : s.clk.now < x) : s.holdDone b = s := by
  unfold State.holdDone
  split
  · rename_i e _ held
    obtain rfl : x = e := Option.some.inj (hold.symm.trans held)
    exact if_neg (Nat.not_le.2 early)
  · rfl

/-- A controller that has recovered counts from zero. -/
theorem State.recovered_recovering (recovering : (s.ctl b).state = .recovering) : ∃ p, s.recovered b =
    (s.modCtl b (fun c => { c with state := .errorActive, tec := 0, rec_ := 0, offSince := none })).logBus b 0x0710 3 p 0 :=
  ⟨_, if_pos recovering⟩

theorem State.recovered_other (other : (s.ctl b).state ≠ .recovering) : s.recovered b = s := if_neg other

end

/-! ## Bus errors (R290) -/

/-- What an error counter at its limit changes: the controllers and the log. -/
theorem State.errorPassive_changes (s : State) (b tec rec_ ea ed : Nat) :
    ∃ c l, s.errorPassive b tec rec_ ea ed = { s with bus := { s.bus with ctl := c }, log := l } := by
  unfold State.errorPassive
  dsimp only
  split
  · exact ⟨_, _, rfl⟩
  · exact ⟨s.bus.ctl, s.log, rfl⟩

theorem State.busOff_changes (s : State) (b tec ea ed : Nat) :
    ∃ c l, s.busOff b tec ea ed = { s with bus := { s.bus with ctl := c }, log := l } := by
  unfold State.busOff
  dsimp only
  split
  · exact ⟨_, _, rfl⟩
  · exact ⟨s.bus.ctl, s.log, rfl⟩

/-- So does a bus error. -/
theorem State.busError_changes (s : State) (e : BusErr) :
    ∃ c l, s.busError e = { s with bus := { s.bus with ctl := c }, log := l } := by
  unfold State.busError
  extract_lets c tec rec_ ea ed
  split
  · exact ⟨s.bus.ctl, s.log, rfl⟩
  · obtain ⟨c, l, passive⟩ := State.errorPassive_changes
      (s.modCtl e.bus (fun c => { c with tec, rec_, errA := ea, errD := ed })) e.bus tec rec_ ea ed
    rw [passive]
    obtain ⟨c, l, off⟩ := State.busOff_changes { s with bus := { s.bus with ctl := c }, log := l } e.bus tec ea ed
    exact ⟨c, l, off⟩

/-- An error of a transmitter that stays below the limits raises its counter and leaves its code. -/
theorem State.busError_counted {s : State} {e : BusErr} (active : (s.ctl e.bus).state = .errorActive) (tx : e.tx = true)
    (low : (s.ctl e.bus).tec + e.up < 128) (low' : (s.ctl e.bus).rec_ < 128) : s.busError e = s.modCtl e.bus (fun c =>
      { c with tec := c.tec + e.up, errA := if e.dataPhase then c.errA else e.code % 8
               errD := if e.dataPhase then e.code % 8 else c.errD }) := by
  simp only [State.busError, active, BusState.sends, tx, Bool.not_true, Bool.false_eq_true, if_false, if_true]
  rw [State.errorPassive_other _ _ _ _ (.inr ⟨low, low'⟩), State.busOff_below _ _ _ (by omega)]
  exact State.modCtl_congr rfl

/-- A clash changes the controllers, the log and the free-value counter. -/
theorem State.clashError_changes (s : State) (b : Nat) (f : TxFrame) :
    ∃ c l n, s.clashError b f = { s with bus := { s.bus with ctl := c }, log := l, free := n } := by
  unfold State.clashError
  split
  · obtain ⟨c, l, h⟩ := s.draw.2.busError_changes
      { bus := b, code := 4, dataPhase := Config.clashInData s.draw.1, tx := true, up := 8 }
    exact ⟨c, l, _, h⟩
  · obtain ⟨c, l, h⟩ := s.busError_changes { bus := b, code := 4, tx := true, up := 8 }
    exact ⟨c, l, s.free, h⟩

/-- A clash is a bit error of the transmitter: eight up, code 4 in one of the two phases. -/
theorem State.clashError_counted {s : State} {b : Nat} (f : TxFrame) (active : (s.ctl b).state = .errorActive)
    (low : (s.ctl b).tec < 120) (low' : (s.ctl b).rec_ < 128) : ∃ n ea ed, (ea = 4 ∨ ed = 4) ∧ s.clashError b f =
      ({ s with free := n }).modCtl b (fun c => { c with tec := c.tec + 8, errA := ea, errD := ed }) := by
  unfold State.clashError
  have low8 : (s.ctl b).tec + 8 < 128 := by omega
  split
  · refine ⟨s.free + 1, _, _, ?_, (State.busError_counted (s := s.draw.2)
      (e := { bus := b, code := 4, dataPhase := Config.clashInData s.draw.1, tx := true, up := 8 }) active rfl low8 low').trans
      (State.modCtl_congr rfl)⟩
    cases Config.clashInData s.draw.1
    · exact .inl rfl
    · exact .inr rfl
  · exact ⟨s.free, 4, (s.ctl b).errD, .inl rfl, (State.busError_counted (s := s)
      (e := { bus := b, code := 4, tx := true, up := 8 }) active rfl low8 low').trans (State.modCtl_congr rfl)⟩

/-! ## The rows -/

section

variable {s : State} {t b : Nat} (hb : b < 4)
include hb

theorem exec_transmitSuccess (m : Nat) :
    exec (.transmitSuccess t b m) s = .next ((s.advance t).txSuccess b m (s.markClk m).base).resetDue :=
  guardUnit_next (decide_eq_true hb)

theorem exec_idClash (m : Nat) : exec (.idClash t b m) s = .next ((s.advance t).idClash b m).resetDue :=
  guardUnit_next (decide_eq_true hb)

theorem exec_busErrorPassive (x r p q : Nat) : exec (.busErrorPassive t b x r p q) s = .next ((s.advance t).errorPassive b x r p q) :=
  guardUnit_next (decide_eq_true hb)

theorem exec_busOff (x p q : Nat) : exec (.busOff t b x p q) s = .next ((s.advance t).busOff b x p q) :=
  guardUnit_next (decide_eq_true hb)

theorem exec_busOffHoldEnd : exec (.busOffHoldEnd t b) s = .next ((s.advance t).holdDone b) := guardUnit_next (decide_eq_true hb)

theorem exec_busRecovered : exec (.busRecovered t b) s = .next ((s.advance t).recovered b) := guardUnit_next (decide_eq_true hb)

/-- With no reset that waits, a row is its operation. -/
theorem exec_transmitSuccess_eq {m : Nat} {u : State} (sent : (s.advance t).txSuccess b m (s.markClk m).base = u)
    (idle : u.rst.dueAt = none) : exec (.transmitSuccess t b m) s = .next u := by
  rw [exec_transmitSuccess hb, sent, State.resetDue_none idle]

theorem exec_idClash_eq {m : Nat} {u : State} (clash : (s.advance t).idClash b m = u) (idle : u.rst.dueAt = none) :
    exec (.idClash t b m) s = .next u := by
  rw [exec_idClash hb, clash, State.resetDue_none idle]

/-- A reference sent while no reset waits. -/
theorem exec_transmitSuccess_ref (has : b < s.bus.ctl.length) {m q : Nat} {f : TxFrame}
    (sends : ((s.advance t).stateAt b m).sends = true) (offer : (s.advance t).offer b m = some f) (ref : f.roleAt m = .timeRef q)
    (unasked : f.asks = []) (idle : s.rst.dueAt = none) : ∃ u : State, exec (.transmitSuccess t b m) s = .next u ∧ u.log = s.log ∧
      u.host = s.host ∧ (u.ctl b).txCount = min 4294967295 ((s.ctl b).txCount + 1) ∧ ∀ d, d ≠ b → u.ctl d = s.ctl d := by
  obtain ⟨n, d, p, sent⟩ := State.txSuccess_ref_changes sends offer unasked (s.markClk m).base ref
  exact ⟨_, exec_transmitSuccess_eq hb sent idle, rfl, rfl,
    congrArg BusCtl.txCount (State.ctl_modCtl_self (s := { s.advance t with free := n }) _ has),
    fun d other => State.ctl_modCtl_ne (s := { s.advance t with free := n }) _ other.symm⟩

/-- A clash below the third of an error-active controller. -/
theorem exec_idClash_counted (has : b < s.bus.ctl.length) {m : Nat} {f : TxFrame} (active : (s.ctl b).state = .errorActive)
    (sends : ((s.advance t).stateAt b m).sends = true) (offer : (s.advance t).offer b m = some f) (few : f.clashes < 2)
    (low : (s.ctl b).tec < 120) (low' : (s.ctl b).rec_ < 128) (idle : s.rst.dueAt = none) :
    ∃ u : State, exec (.idClash t b m) s = .next u ∧ u.log = s.log ∧ (u.ctl b).tec = (s.ctl b).tec + 8 ∧
      ((u.ctl b).errA = 4 ∨ (u.ctl b).errD = 4) ∧ (u.ctl b).state = .errorActive ∧ (u.ctl b).idClashes = (s.ctl b).idClashes ∧
      (u.ctl b).proto = modFirst (fun x => decide (x = f)) (fun x => { x with clashes := x.clashes + 1 }) (s.ctl b).proto ∧
      ∀ d, d ≠ b → u.ctl d = s.ctl d := by
  obtain ⟨n, ea, ed, code, clash⟩ := State.clashError_counted (s := s.advance t) f active low low'
  have counted := State.idClash_counted sends offer few
  rw [clash, State.modCtl_modCtl] at counted
  refine ⟨_, exec_idClash_eq hb counted idle, rfl, ?_⟩
  rw [State.ctl_modCtl_self (s := { s.advance t with free := n }) _ has]
  exact ⟨rfl, code, active, rfl, rfl, fun d other => State.ctl_modCtl_ne (s := { s.advance t with free := n }) _ other.symm⟩

/-- The third clash of a claim while no duplicate is known and no reset waits. -/
theorem exec_idClash_claim {m : Nat} {f : TxFrame} {d : Bool} (sends : ((s.advance t).stateAt b m).sends = true)
    (offer : (s.advance t).offer b m = some f) (third : 2 ≤ f.clashes) (claim : f.role = .claim d)
    (first : s.bus.duplicate = false) (idle : s.rst.dueAt = none) : ∃ u : State, exec (.idClash t b m) s = .next u ∧
      u.bus.duplicate = true ∧ ∀ d ∈ u.bus.ctl, d.state = .off ∨ d.state = .listenOnly := by
  obtain ⟨c, l, n, clash⟩ := (s.advance t).clashError_changes b f
  have first' : ((s.advance t).clashAborted b f).bus.duplicate = false := by
    rw [State.clashAborted, clash]; exact first
  have idle' : ((s.advance t).clashAborted b f).rst.dueAt = none := by
    rw [State.clashAborted, clash]; exact idle
  obtain ⟨raised, rst, quiet⟩ := State.raiseDuplicate_quiet first' 0
  exact ⟨_, exec_idClash_eq hb (State.idClash_claim sends offer third claim) ((congrArg ResetSt.dueAt rst).trans idle'), raised,
    quiet⟩

/-- A dominant timeout is counted and logged with the count by a controller that works (R287). -/
theorem exec_dominantTimeout_works (works : (s.ctl b).state.works = true) : exec (.dominantTimeout t b) s =
    .next (((s.advance t).modCtl b (fun c => { c with dominant := true, dominants := (s.ctl b).dominants + 1 })).logBus b 0x0707 4
      ((s.ctl b).dominants + 1) 0) :=
  (guardUnit_next (decide_eq_true hb)).trans (congrArg Host.Outcome.next (if_pos works))

theorem exec_dominantTimeout_off (off : (s.ctl b).state.works = false) : exec (.dominantTimeout t b) s = .next (s.advance t) :=
  (guardUnit_next (decide_eq_true hb)).trans (congrArg Host.Outcome.next (if_neg (Bool.eq_false_iff.1 off)))

end

/-- A controller that counts errors and transmits. -/
theorem BusState.sends_of_active {x : BusState} (h : x = .errorActive ∨ x = .errorPassive) : x.sends = true := by
  obtain rfl | rfl := h
  · rfl
  · rfl

section

variable {s : State} {t tag : Nat} {f : Flight} (he : Executes s tag 0x0705 f)
include he

/-- `BUS_RECOVER` starts the recovery of a controller that is bus-off, and of no other (R330). -/
theorem exec_busRecover_off (off : (s.ctl (byteAt f.req 16)).state = .busOff) : exec (.busRecover t tag) s =
    .next (((s.acting t).recover (byteAt f.req 16)).wait f (.nextFrame [])).takeNext :=
  exec_row_eq rfl he (if_pos off)

theorem exec_busRecover_other (on : (s.ctl (byteAt f.req 16)).state ≠ .busOff) : exec (.busRecover t tag) s =
    .next ((s.acting t).complete f .notPermitted 1 []).takeNext :=
  exec_row_eq rfl he ((if_neg on).trans (State.refuse_eq (by decide)))

end

/-- Settles O52: each row by what its operation does to the controller once time has run on. That a clash is a bit error of the
transmitter, with code 4 and eight more on its counter, is the model's choice (log 107); that the frame in progress at a commit is
finished in the state before it is deduced (log 159). -/
theorem busFaultConfinement : Obligations.BusFaultConfinement := by
  intro s t b hb has
  dsimp only
  refine ⟨fun m f sends offer other unasked => ?_,
    fun m f q sends offer ref unasked _ idle => exec_transmitSuccess_ref hb has sends offer ref unasked idle,
    fun m sends idle => ?_, fun f off => State.measureDelay_off (s := s.advance t) off,
    fun uncut => ⟨State.stateAt_uncut (s := s.advance t) uncut, State.offer_uncut (s := s.advance t) uncut⟩,
    fun x m cut before => ⟨State.stateAt_cut (s := s.advance t) cut before, State.offer_cut (s := s.advance t) cut before⟩,
    fun m silent => ⟨?_, ?_⟩,
    fun m f active sends offer few low low' idle => exec_idClash_counted hb has active sends offer few low low' idle,
    fun m f sends offer third unasked role => ?_,
    fun m f d sends offer third claim first idle => exec_idClash_claim hb sends offer third claim first idle,
    fun x r p q active past => ?_, fun x r p q h => ?_, fun x p q active past few => ⟨_, exec_busOff hb x p q, ?_⟩,
    fun x p q active past again => ⟨_, exec_busOff hb x p q, ?_⟩, fun x off hold due => ?_, fun x hold early => ?_,
    fun recovering => ⟨_, exec_busRecovered hb, ?_⟩, fun other => ?_, exec_dominantTimeout_works hb, exec_dominantTimeout_off hb,
    fun tag f he off => exec_busRecover_off he off, fun tag f he on => exec_busRecover_other he on⟩
  · rw [exec_transmitSuccess hb, State.txSuccess_other sends offer unasked _ other]; rfl
  · rw [exec_transmitSuccess hb, State.txSuccess_idle sends idle]
  · rw [exec_transmitSuccess hb, State.txSuccess_silent silent]
  · rw [exec_idClash hb, State.idClash_silent silent]
  · rw [exec_idClash hb, State.idClash_aborted sends offer third unasked ?_ ?_]
    · rfl
    · intro d claim; simp [claim] at role
    · intro n req; simp [req] at role
  · rw [exec_busErrorPassive hb, State.errorPassive_active (s := s.advance t) _ _ _ _ active past]
  · rw [exec_busErrorPassive hb, State.errorPassive_other (s := s.advance t) _ _ _ _ h]
  · obtain ⟨state, count, -, others⟩ :=
      State.busOff_over (s := s.advance t) x p q has (BusState.sends_of_active active) past
    exact ⟨state.trans (if_neg (Nat.not_le.2 few)), count, others⟩
  · obtain ⟨state, -, hold, -⟩ := State.busOff_over (s := s.advance t) x p q has (BusState.sends_of_active active) past
    exact ⟨state.trans (if_pos again), hold.trans (if_pos again)⟩
  · rw [exec_busOffHoldEnd hb, State.holdDone_due (s := s.advance t) off hold due]; rfl
  · rw [exec_busOffHoldEnd hb, State.holdDone_early (s := s.advance t) hold early]
  · obtain ⟨p, back⟩ := State.recovered_recovering (s := s.advance t) recovering
    rw [back, State.ctl_logBus, State.ctl_modCtl_self (s := s.advance t) _ has]
    exact ⟨rfl, rfl, rfl, fun d other => State.ctl_modCtl_ne (s := s.advance t) _ other.symm⟩
  · rw [exec_busRecovered hb, State.recovered_other (s := s.advance t) other]

end Sys2Proof.Machine
end

section
/-!
PROOFS. Network time: references and follow-ups, mastership, holdover, the time bus, the generator frequency (R307 to R313).
-/

namespace Sys2Proof.Machine

open Sys2Proof

/-! ## What changes network time, and what leaves it -/

@[simp] theorem State.net_modNet (s : State) (f : NetTime → NetTime) : (s.modNet f).bus.net = f s.bus.net := rfl

/-- A frame that waits in the buffers is no part of network time. -/
@[simp] theorem State.net_sendProto (s : State) (b prio cls index : Nat) (body : List Byte) (role : TxRole) :
    (s.sendProto b prio cls index body role).bus.net = s.bus.net := by
  obtain ⟨p, h⟩ := s.sendProto_proto b prio cls index body role
  rw [h]; rfl

/-- A time state that is entered changes network time and the log. -/
theorem State.timeState_changes (s : State) (k : Nat) : ∃ h o c l, s.timeState k =
    { s.modNet (fun n => { n with state := k, holdoverSince := h, holdoverOut := o, trimSince := c }) with log := l } := by
  unfold State.timeState
  split
  · next same =>
    subst same
    exact ⟨s.bus.net.holdoverSince, s.bus.net.holdoverOut, s.bus.net.trimSince, s.log, rfl⟩
  · dsimp only
    repeat' split
    all_goals exact ⟨_, _, _, _, rfl⟩

theorem State.state_timeState (s : State) (k : Nat) : (s.timeState k).bus.net.state = k := by
  obtain ⟨h, o, c, l, e⟩ := s.timeState_changes k
  rw [e]; rfl

/-- Holdover counts from the instant at which it is entered. -/
theorem State.timeState_holdover {s : State} (other : s.bus.net.state ≠ 3) :
    (s.timeState 3).bus.net.holdoverSince = some s.clk.now := by
  rw [State.timeState, if_neg other]
  rfl

/-- A master that is heard is the master, whoever was it before; a new one is logged. -/
theorem State.heardMaster_changes (s : State) (node rank : Nat) : ∃ l, s.heardMaster node rank =
    { s.modNet (fun n => { n with master := some (node, rank) }) with log := l } := by
  unfold State.heardMaster
  extract_lets old s1
  split
  · exact ⟨s.log, rfl⟩
  · exact ⟨_, rfl⟩

/-- A follow-up counts on the primary bus alone, and never takes the node to the secondary one (R311). -/
theorem State.primaryHeard_changes (s : State) (f : RxFrame) : ∃ run seq o, s.primaryHeard f =
    s.modNet (fun n => { n with primRun := run, primSeq := seq, onSecondary := n.onSecondary && o }) := by
  unfold State.primaryHeard
  split
  · refine ⟨s.bus.net.primRun, s.bus.net.primSeq, true, ?_⟩
    simp only [State.modNet, State.modBus, Bool.and_true]
  · exact ⟨_, _, _, rfl⟩

/-- Who is not the master has nothing to yield. -/
theorem State.yieldMaster_away {s : State} (away : s.bus.net.isMaster = false) : s.yieldMaster = s :=
  if_neg (Bool.eq_false_iff.1 away)

/-! ## The deviation found (R310, Table 11.9) -/

/-- The time base moved by a deviation: a step beyond 1 ms, else a slew over the next period. -/
def State.timeMoved (s : State) (d : Int) : State :=
  if 1000000 < d.natAbs then s.stepTime d
  else { s with clk := { s.clk with slew := d, slewTime := refPeriod, ratePpb := s.clk.ratePpb + divRound (d * 5) 4 } }

/-- The state in which a deviation has been applied to the time base, before the time state follows. -/
def State.corrected (s : State) (b : Nat) (d : Int) : State :=
  ((s.modCtl b (fun c => { c with theta := d })).timeMoved d).modNet
    (fun n => { n with taken := true, good := if d.natAbs ≤ 1000 then min 4 (s.bus.net.good + 1) else 0 })

section

variable (s : State) (d : Int)

/-- A step moves the time base and ends a slew; the bus goes on. -/
theorem State.stepTime_clk_bus :
    (s.stepTime d).clk = { s.clk with base := (s.clk.base + d).toNat, slew := 0, slewTime := 0 } ∧ (s.stepTime d).bus = s.bus := by
  unfold State.stepTime
  extract_lets s1
  split
  · exact ⟨rfl, rfl⟩
  · exact ⟨rfl, rfl⟩

theorem State.bus_timeMoved : (s.timeMoved d).bus = s.bus := by
  unfold State.timeMoved
  split
  · exact (s.stepTime_clk_bus d).2
  · rfl

variable (b : Nat)

/-- Beyond 1 ms the time base steps. -/
theorem State.clk_corrected_step {d : Int} (far : 1000000 < d.natAbs) : (s.corrected b d).clk =
    { s.clk with base := (s.clk.base + d).toNat, slew := 0, slewTime := 0 } :=
  (congrArg State.clk (if_pos far)).trans ((s.modCtl b (fun c => { c with theta := d })).stepTime_clk_bus d).1

/-- Up to 1 ms it slews, an eighth of the deviation going into the rate. -/
theorem State.clk_corrected_slew {d : Int} (near : d.natAbs ≤ 1000000) : (s.corrected b d).clk =
    { s.clk with slew := d, slewTime := 100000000, ratePpb := s.clk.ratePpb + divRound (d * 5) 4 } :=
  congrArg State.clk (if_neg (Nat.not_lt.2 near))

theorem State.net_corrected : (s.corrected b d).bus.net =
    { s.bus.net with taken := true, good := if d.natAbs ≤ 1000 then min 4 (s.bus.net.good + 1) else 0 } := by
  rw [State.corrected, State.net_modNet, State.bus_timeMoved]; rfl

/-- The time state that follows a deviation. -/
theorem State.applyTheta_eq : s.applyTheta b d =
    if 2000 < d.natAbs then (s.corrected b d).timeState 1
    else if 4 ≤ (if d.natAbs ≤ 1000 then min 4 (s.bus.net.good + 1) else 0) then (s.corrected b d).timeState 2
    else if s.bus.net.state = 2 then s.corrected b d else (s.corrected b d).timeState 1 := rfl

theorem State.applyTheta_cases :
    s.applyTheta b d = s.corrected b d ∨ ∃ k, s.applyTheta b d = (s.corrected b d).timeState k := by
  rw [State.applyTheta_eq]
  generalize (if d.natAbs ≤ 1000 then min 4 (s.bus.net.good + 1) else 0) = good
  split
  · exact .inr ⟨1, rfl⟩
  · split
    · exact .inr ⟨2, rfl⟩
    · split
      · exact .inl rfl
      · exact .inr ⟨1, rfl⟩

/-- Whatever the time state, the time base is the corrected one, and network time has been taken of the same master. -/
theorem State.applyTheta_keeps : (s.applyTheta b d).clk = (s.corrected b d).clk ∧ (s.applyTheta b d).bus.net.taken = true ∧
    (s.applyTheta b d).bus.net.master = s.bus.net.master := by
  obtain stays | ⟨k, follows⟩ := s.applyTheta_cases d b
  · rw [stays, State.net_corrected]
    exact ⟨rfl, rfl, rfl⟩
  · obtain ⟨h, o, c, l, entered⟩ := (s.corrected b d).timeState_changes k
    rw [follows, entered, State.net_modNet, State.net_corrected]
    exact ⟨rfl, rfl, rfl⟩

end

section

variable {s : State} (b : Nat) {d : Int}

/-- A deviation beyond 2 µs locks anew. -/
theorem State.applyTheta_locking (off : 2000 < d.natAbs) : (s.applyTheta b d).bus.net.state = 1 := by
  rw [State.applyTheta_eq, if_pos off, State.state_timeState]

/-- The fourth within 1 µs in a row locks. -/
theorem State.applyTheta_locked (close : d.natAbs ≤ 1000) (good : 3 ≤ s.bus.net.good) :
    (s.applyTheta b d).bus.net.state = 2 := by
  rw [State.applyTheta_eq, if_neg (by omega), if_pos close, if_pos (by omega), State.state_timeState]

end

/-! ## References and follow-ups (R308 to R311, R324) -/

/-- The time a follow-up carries, ns. -/
def fuTime (d : List Byte) : Nat := tsUs (u64At d 4) * 1000 + u16At d 12 % 1000

section

variable {s : State} {g : RxFrame}

theorem State.takeMessage_ref (ref : g.cls = 0) : s.takeMessage g = s.rxTimeRef g := by simp only [State.takeMessage, ref]

variable (fu : g.cls = 1)
include fu

theorem State.takeMessage_fu : s.takeMessage g = s.rxTimeFu g := by simp only [State.takeMessage, fu]

/-- The master does not hear a worse one. -/
theorem State.takeMessage_fu_worse (master : s.bus.net.isMaster = true) (worse : s.betterMaster g.node (byteAt g.data 1) = false) :
    s.takeMessage g = s := by
  rw [State.takeMessage_fu fu]
  exact if_pos (by simp [master, worse])

variable (away : s.bus.net.isMaster = false)
include away

/-- An authenticated follow-up that carries no later time than the last is a replay. -/
theorem State.takeMessage_fu_replay (auth : g.auth = true) (old : fuTime g.data ≤ s.bus.net.lastAuth) :
    s.takeMessage g = s.authFail g.bus (protoId 0 1 g.node g.index) := by
  rw [State.takeMessage_fu fu]
  refine (if_neg (by simp [away])).trans (if_pos ?_)
  simpa [auth, fuTime] using old

variable (plain : g.auth = false)
include plain

/-- A controller with no time role hears who the master is. -/
theorem State.takeMessage_fu_noRole (noRole : s.timeRole g.bus = 0) :
    s.takeMessage g = s.heardMaster g.node (byteAt g.data 1) := by
  rw [State.takeMessage_fu fu]
  simp only [State.rxTimeFu, away, plain, noRole, Bool.false_and, Bool.false_eq_true, if_false, if_true]
  rfl

/-- A follow-up of the reference heard before it on the time bus gives its deviation. -/
theorem State.takeMessage_fu_follows {r : RefMark} (role : s.timeRole g.bus ≠ 0) (ref : s.bus.net.refs.getD g.bus none = some r)
    (bus : s.timeBus = g.bus) (primary : s.bus.net.onSecondary = false) (node : r.node = g.node) (seq : r.seq = byteAt g.data 0) :
    ∃ u : State, s.takeMessage g = u.applyTheta g.bus ((fuTime g.data : Nat) + (s.busField g.bus 14 2 : Nat) - (r.mark : Nat)) ∧
      u.clk = s.clk ∧ u.bus.net.good = s.bus.net.good ∧ u.bus.net.master = some (g.node, byteAt g.data 1) := by
  have bus' : g.bus = s.busField 4 6 1 := by simpa [State.timeBus, primary] using bus.symm
  rw [State.takeMessage_fu fu]
  simp only [State.rxTimeFu, away, plain, role, Bool.false_and, Bool.false_eq_true, if_false, State.yieldMaster_away away, ref]
  obtain ⟨l, heard⟩ := State.heardMaster_changes (s.modNet (fun n => { n with
      lastFu := modAt n.lastFu g.bus (fun _ => some g.mark)
      silentSince := if s.betterMaster g.node (byteAt g.data 1) then g.mark else n.silentSince })) g.node (byteAt g.data 1)
  rw [heard]
  obtain ⟨run, q, o, counted⟩ := State.primaryHeard_changes _ g
  rw [counted, if_pos]
  · exact ⟨_, rfl, rfl, rfl, rfl⟩
  · refine ⟨?_, node, seq⟩
    simp only [State.timeBus, State.net_modNet, primary, Bool.false_and, Bool.false_eq_true, if_false]
    exact bus'

end

/-! ## Mastership (R307, R309) -/

/-- Frames sent on the controllers, each under a condition of its own, are no part of network time. -/
theorem State.net_eachSend {f : State → Nat → State} (sends : ∀ u b, (f u b).bus.net = u.bus.net) (s : State) :
    (s.each 4 f).bus.net = s.bus.net :=
  State.each_keeps (fun u : State => u.bus.net) sends s 4

section

variable {s : State}

/-- The master sends the reference of a multiple of 100 ms once. -/
theorem State.sendRef_due (master : s.bus.net.isMaster = true) (joined : s.joined = true)
    (new : s.bus.net.lastRef ≠ some (s.clk.base / 100000000)) : s.sendRef.bus.net =
      { s.bus.net with nextRef := (s.bus.net.nextRef + 1) % 256, lastRef := some (s.clk.base / 100000000) } := by
  have due : s.bus.net.lastRef ≠ some (s.clk.base / refPeriod) := new
  refine (congrArg (fun u : State => u.bus.net) (if_pos (by simp [master, joined, due]))).trans (State.net_eachSend (fun u b => ?_) _)
  split
  · exact u.net_sendProto _ _ _ _ _ _
  · rfl

theorem State.sendRef_quiet
    (h : s.bus.net.isMaster = false ∨ s.joined = false ∨ s.bus.net.lastRef = some (s.clk.base / 100000000)) : s.sendRef = s := by
  refine if_neg ?_
  obtain away | alone | sent := h
  · simp [away]
  · simp [alone]
  · have same : s.bus.net.lastRef = some (s.clk.base / refPeriod) := sent
    simp [same]

/-- A candidate that has heard no better master for its periods takes mastership with its own time base. -/
theorem State.takeMaster_due (candidate : s.isCandidate = true) (joined : s.joined = true) (away : s.bus.net.isMaster = false)
    (silent : s.bus.net.silentSince + (3 + s.rank) * 100000000 ≤ s.clk.now) : let u := s.takeMaster
    u.bus.net.isMaster = true ∧ u.bus.net.state = 2 ∧ u.bus.net.master = some (s.bus.nodeId, s.rank) ∧ u.clk = s.clk := by
  have due : s.bus.net.silentSince + (3 + s.rank) * refPeriod ≤ s.clk.now := silent
  have takes : s.takeMaster = ((s.modNet (fun n => { n with
      isMaster := true, lastRef := some ((s.clk.base - 1) / refPeriod) })).heardMaster s.bus.nodeId s.rank).timeState 2 :=
    if_pos (by simp [candidate, joined, away, due])
  obtain ⟨l, heard⟩ := State.heardMaster_changes
    (s.modNet (fun n => { n with isMaster := true, lastRef := some ((s.clk.base - 1) / refPeriod) })) s.bus.nodeId s.rank
  obtain ⟨h, o, c, l, entered⟩ := State.timeState_changes _ 2
  rw [takes, heard, entered]
  exact ⟨rfl, rfl, rfl, rfl⟩

theorem State.takeMaster_kept (h : s.isCandidate = false ∨ s.joined = false ∨ s.bus.net.isMaster = true) : s.takeMaster = s := by
  refine if_neg ?_
  obtain listener | alone | master := h
  · simp [listener]
  · simp [alone]
  · simp [master]

/-! ## Holdover and the time bus (R311, Table 11.9) -/

/-- A node that follows a master goes into holdover when no time bus has delivered for three periods. -/
theorem State.holdover_due (away : s.bus.net.isMaster = false) (follows : s.bus.net.state = 1 ∨ s.bus.net.state = 2)
    (silent : ∀ x, s.lastFuOf x + 300000000 ≤ s.clk.now) : let u := s.holdover
    u.bus.net.state = 3 ∧ u.bus.net.holdoverSince = some s.clk.now ∧ u.bus.net.good = 0 := by
  have other : s.bus.net.state ≠ 3 := by omega
  have late : max (s.lastFuOf (s.busField 4 6 1)) (if s.busField 4 7 1 < 4 then s.lastFuOf (s.busField 4 7 1) else 0) +
      3 * refPeriod ≤ s.clk.now := by
    have primary := silent (s.busField 4 6 1)
    have secondary := silent (s.busField 4 7 1)
    have period : refPeriod = 100000000 := rfl
    split
    · omega
    · omega
  have entered : s.holdover = (s.timeState 3).modNet (fun n => { n with good := 0 }) :=
    if_pos (by simp [away, follows, late])
  rw [entered]
  exact ⟨s.state_timeState 3, State.timeState_holdover other, rfl⟩

/-- The master holds its own time. -/
theorem State.holdover_master (master : s.bus.net.isMaster = true) : s.holdover = s := if_neg (by simp [master])

theorem State.holdoverEnd_due {x : Nat} (hold : s.bus.net.state = 3) (since : s.bus.net.holdoverSince = some x)
    (due : x + 10000000000 ≤ s.clk.now) : s.holdoverEnd = s.modNet (fun n => { n with holdoverOut := true }) := by
  simp only [State.holdoverEnd, hold, since]
  exact if_pos due

theorem State.holdoverEnd_other (other : s.bus.net.state ≠ 3) : s.holdoverEnd = s := by
  unfold State.holdoverEnd
  split
  · next hold _ => exact absurd hold other
  · rfl

/-- A primary time bus that is silent for three periods gives way to the secondary one, where there is one. -/
theorem State.timeSource_due (second : s.busField 4 7 1 < 4) (primary : s.bus.net.onSecondary = false)
    (silent : s.lastFuOf (s.busField 4 6 1) + 300000000 ≤ s.clk.now) :
    s.timeSource = s.modNet (fun n => { n with onSecondary := true, primRun := 0 }) := by
  have late : s.lastFuOf (s.busField 4 6 1) + 3 * refPeriod ≤ s.clk.now := silent
  exact if_pos (by simp [second, primary, late])

theorem State.timeSource_single (single : 4 ≤ s.busField 4 7 1) : s.timeSource = s := if_neg (by simp [Nat.not_lt.2 single])

/-! ## Generator frequency (R313) -/

theorem State.bus_notchStep (s : State) (ft : Nat) : (s.notchStep ft).bus = s.bus := by
  rw [State.notchStep_eq]
  split
  · refine State.each_keeps State.bus (fun u k => ?_) (s.notchTake ft) 64
    unfold State.notchMark
    split <;> rfl
  · rfl

/-- A frequency that is heard moves the notch and leaves the bus. -/
theorem State.bus_mainsBus (s : State) (fm : Nat) : (s.mainsBus fm).bus = s.bus := by
  unfold State.mainsBus
  extract_lets s1 l s2
  repeat' split
  · rfl
  · rfl
  · rfl
  · rfl
  · exact s2.bus_notchStep _
  · rfl

/-- The first frequency heard is the one kept. -/
theorem State.takeMessage_genFreq {g : RxFrame} (gen : g.cls = 5) (none_ : s.bus.net.genFreq = []) :
    (s.takeMessage g).bus.net.genFreq = [(g.node, u32At g.data 0, g.mark)] := by
  have kept : s.takeMessage g =
      (s.modNet (fun n => { n with genFreq := [(g.node, u32At g.data 0, g.mark)] })).mainsBus (u32At g.data 0) := by
    simp [State.takeMessage, gen, State.rxGenFreq, none_]
  rw [kept, State.bus_mainsBus]
  rfl

/-- A node on the local source sends its frequency, the first time at once. -/
theorem State.sendGen_first (tells : tst (s.busField 4 1 1) 1 = true) (src : s.notch.src = .local_) (joined : s.joined = true)
    (first : s.bus.net.lastGen = none) : s.sendGen.bus.net.lastGen = some s.clk.now := by
  have sent : s.sendGen = (s.modNet (fun n => { n with lastGen := some s.clk.now })).each 4
      (fun s b => s.sendProto b 2 0x05 0 (le32 s.notch.ft) .other) := by
    simp [State.sendGen, tells, src, joined, first]
  rw [sent, State.net_eachSend (fun u b => u.net_sendProto _ _ _ _ _ _)]
  rfl

theorem State.sendGen_quiet (h : tst (s.busField 4 1 1) 1 = false ∨ s.notch.src ≠ .local_) : s.sendGen = s := by
  refine if_neg ?_
  obtain silent | other := h
  · simp [silent]
  · simp [other]

end

/-- Settles O53: a frame that is heard waits in its match slot, and each message and each instant by what it does to network
time. -/
theorem networkTime : Obligations.NetworkTime := by
  intro s t b node m d hb
  dsimp only
  have received := decide_eq_true hb
  refine ⟨fun h => (guardUnit_next received).trans (congrArg _ (State.rxMessage_hears rfl (by decide : 0 < 0x20) h)),
    fun q h => (guardUnit_next received).trans (congrArg _ (State.rxMessage_hears rfl (by decide : 1 < 0x20) h)), fun q c => ⟨rfl, rfl⟩,
    fun g ref => State.takeMessage_ref ref, fun g r fu plain role away ref bus primary same seq => ?_,
    fun g fu plain noRole away => State.takeMessage_fu_noRole fu away plain noRole,
    fun g fu auth away old => State.takeMessage_fu_replay fu away auth old,
    fun g fu master worse => State.takeMessage_fu_worse fu master worse,
    fun master joined new => ⟨_, rfl, State.sendRef_due (s := s.advance t) master joined new⟩,
    fun h => congrArg _ (State.sendRef_quiet (s := s.advance t) h),
    fun candidate joined away silent => ⟨_, rfl, State.takeMaster_due (s := s.advance t) candidate joined away silent⟩,
    fun h => congrArg _ (State.takeMaster_kept (s := s.advance t) h),
    fun away follows silent _ => ⟨_, rfl, State.holdover_due (s := s.advance t) away follows silent⟩,
    fun master => congrArg _ (State.holdover_master (s := s.advance t) master),
    fun x hold since due => congrArg _ (State.holdoverEnd_due (s := s.advance t) hold since due),
    fun other => congrArg _ (State.holdoverEnd_other (s := s.advance t) other),
    fun second primary silent => congrArg _ (State.timeSource_due (s := s.advance t) second primary silent),
    fun single => congrArg _ (State.timeSource_single (s := s.advance t) single),
    fun h => (guardUnit_next received).trans (congrArg _ (State.rxMessage_hears rfl (by decide : 5 < 0x20) h)),
    fun g gen none_ => State.takeMessage_genFreq gen none_,
    fun tells src joined first => ⟨_, rfl, State.sendGen_first (s := s.advance t) tells src joined first⟩,
    fun h => congrArg _ (State.sendGen_quiet (s := s.advance t) h)⟩
  obtain ⟨u, applied, clk, good, master⟩ := State.takeMessage_fu_follows fu away plain role ref bus primary same seq
  obtain ⟨clk', taken, master'⟩ := u.applyTheta_keeps ((fuTime g.data : Nat) + (s.busField g.bus 14 2 : Nat) - (r.mark : Nat)) g.bus
  rw [applied]
  refine ⟨fun near => ⟨?_, taken, ?_, State.applyTheta_locking g.bus, fun close run => ?_⟩, fun far => ⟨?_, ?_⟩⟩
  · rw [← clk]
    exact clk'.trans (u.clk_corrected_slew g.bus near)
  · rw [master', master]; rfl
  · exact State.applyTheta_locked g.bus close (good ▸ run)
  · rw [← clk]
    exact clk'.trans (u.clk_corrected_step g.bus far)
  · exact State.applyTheta_locking g.bus (Nat.lt_trans (by decide) far)

end Sys2Proof.Machine
end

section
/-!
PROOFS. Bus objects and received values (R299, R315 to R318, R330).
-/

namespace Sys2Proof.Machine

open Sys2Proof

/-- The milliseconds of an entry in ns, as the statements write them. -/
theorem ms_eq (n : Nat) : ms n = 1000000 * n := Nat.mul_comm n _

/-! ## Reception (R299, R317, R322) -/

section

variable {s : State} {j : Nat}

/-- What a reception counts is no part of the objects. -/
theorem State.shadow_rxOk (s : State) (b : Nat) : (s.rxOk b).shadow = s.shadow := by
  obtain ⟨c, n, h⟩ := s.rxOk_changes b
  rw [h]; rfl

theorem State.values_rxOk (s : State) (b : Nat) : (s.rxOk b).bus.values = s.bus.values := by
  obtain ⟨c, n, h⟩ := s.rxOk_changes b
  rw [h]

theorem State.shadows_rxOk (s : State) (b : Nat) : (s.rxOk b).bus.shadows = s.bus.shadows := by
  obtain ⟨c, n, h⟩ := s.rxOk_changes b
  rw [h]

theorem State.objField_rxOk (s : State) (b : Nat) : (s.rxOk b).objField = s.objField := by
  obtain ⟨c, n, h⟩ := s.rxOk_changes b
  rw [h]; rfl

theorem State.matching_rxOk (s : State) (b : Nat) : (s.rxOk b).matching = s.matching := by
  obtain ⟨c, n, h⟩ := s.rxOk_changes b
  rw [h]; rfl

/-- Fields that are refused are logged, nothing else. -/
theorem State.logRefused_changes (s : State) (j node : Nat) (new : List Byte) : ∃ l, s.logRefused j node new = { s with log := l } := by
  unfold State.logRefused
  dsimp only
  generalize s.objFields j = fields
  induction fields generalizing s with
  | nil => exact ⟨s.log, rfl⟩
  | cons f r ih =>
    rw [List.foldl_cons]
    split
    · obtain ⟨l, h⟩ := ih (s.logEv 0x0103 4 12 j _ _ (node * 65536))
      exact ⟨l, h⟩
    · exact ih s

/-- An object without `AUTH` that is not paired, or a base-format one, takes every frame that it matches. -/
theorem State.accept_plain (plain : s.objOpt j 5 = false) {ext : Bool} (single : ext = false ∨ s.objField j 2 1 ≠ 4)
    (b node id flow : Nat) (d : List Byte) : s.accept j b node id flow ext d =
      (s.modShadow j (fun x => { x with data := d, rx := some flow, leg := b, seqLow := u16At d 0 })).logRefused j
        (if ext then node else 0) d := by
  have notCopy : (ext && decide (s.objField j 2 1 = 4)) = false := by
    obtain base | other := single
    · simp [base]
    · simp [other]
  simp only [State.accept, plain, Bool.false_eq_true, if_false, State.rxAuth, notCopy, Bool.false_and, Option.isNone_some,
    Bool.or_false]

/-- What it leaves of the frame. -/
theorem State.accept_shadow (has : j < s.bus.shadows.length) (plain : s.objOpt j 5 = false) {ext : Bool}
    (single : ext = false ∨ s.objField j 2 1 ≠ 4) (b node id flow : Nat) (d : List Byte) :
    let u := s.accept j b node id flow ext d
    (u.shadow j).data = d ∧ (u.shadow j).rx = some flow ∧ (u.shadow j).seqLow = u16At d 0 ∧ u.bus.values = s.bus.values ∧
      ∀ k, k ≠ j → u.shadow k = s.shadow k := by
  let x := s.modShadow j (fun x => { x with data := d, rx := some flow, leg := b, seqLow := u16At d 0 })
  obtain ⟨l, logged⟩ := x.logRefused_changes j (if ext then node else 0) d
  have taken : x.shadow j = { s.shadow j with data := d, rx := some flow, leg := b, seqLow := u16At d 0 } :=
    State.shadow_modShadow_self _ has
  dsimp only
  rw [State.accept_plain plain single, logged]
  refine ⟨congrArg Shadow.data taken, congrArg Shadow.rx taken, congrArg Shadow.seqLow taken, rfl, fun k other => ?_⟩
  exact State.shadow_modShadow_ne _ other.symm

variable {b : Nat}

/-- A controller that does not hear takes no frame. -/
theorem State.rxValue_deaf (deaf : (s.ctl b).hears = false) (prio node index flow : Nat) (d : List Byte) :
    s.rxValue b prio node index flow d = s := if_pos (by simp [deaf])

theorem State.rxForeign_deaf (deaf : (s.ctl b).hears = false) (id flow : Nat) (d : List Byte) : s.rxForeign b id flow d = s :=
  if_pos (by simp [deaf])

variable (hears : (s.ctl b).hears = true)
include hears

/-- Outside the claim period a value goes to the objects that it matches. -/
theorem State.rxValue_hears (fd : s.busOpt b 1 = true) (claimed : s.bus.claimEnd = none) (prio node index flow : Nat) (d : List Byte) :
    s.rxValue b prio node index flow d = (s.matching b false node index d.length).foldl (fun u j =>
      u.accept j b node (protoId prio 0x10 node index) flow true d) (s.rxOk b) := by
  simp only [State.rxValue, hears, fd, State.rxOk_claimEnd, claimed, State.matching_rxOk, Bool.not_true, Bool.or_self,
    Bool.false_eq_true, if_false, Option.isSome_none, Bool.false_and]

/-- So does a base-format frame. -/
theorem State.rxForeign_hears (id flow : Nat) (d : List Byte) : s.rxForeign b id flow d =
    (s.matching b true 0 id d.length).foldl (fun u j => u.accept j b 0 id flow false d) (s.rxOk b) := by
  simp only [State.rxForeign, hears, State.matching_rxOk, Bool.not_true, Bool.false_eq_true, if_false]

end

/-! ## Freshness (R317) -/

section

variable {s : State} {j : Nat}

@[simp] theorem State.objField_toFrame (s : State) (t : Nat) : (s.toFrame t).objField = s.objField := by
  obtain ⟨x, h⟩ := s.toFrame_changes t
  rw [h]; rfl

@[simp] theorem State.objFields_toFrame (s : State) (t : Nat) : (s.toFrame t).objFields = s.objFields := by
  obtain ⟨x, h⟩ := s.toFrame_changes t
  rw [h]; rfl

@[simp] theorem State.objRx_toFrame (s : State) (t : Nat) : (s.toFrame t).objRx = s.objRx := by
  obtain ⟨x, h⟩ := s.toFrame_changes t
  rw [h]; rfl

@[simp] theorem State.shadow_toFrame (s : State) (t : Nat) : (s.toFrame t).shadow = s.shadow := by
  obtain ⟨x, h⟩ := s.toFrame_changes t
  rw [h]; rfl

/-- A receiving object of one field gives one value. -/
theorem State.objValues_one (rx : s.objRx j = true) {f : Nat × Nat × Nat × Nat} (one : s.objFields j = [f]) : s.objValues j =
    s.modBus (fun n => { n with values := modAt n.values f.2.2.2 (s.busValue j f) }) := by
  simp only [State.objValues, rx, if_true, one, List.foldl_cons, List.foldl_nil]

/-- A value whose object has not been heard within its freshness keeps the last one it took, as `STALE`. -/
theorem State.busValue_stale {f : Nat × Nat × Nat × Nat} {x : Nat} (heard : (s.shadow j).rx = some x)
    (late : x + 1000000 * s.objField j 8 2 ≤ s.clk.flow) (settled : (s.shadow j).enabled + 1000000 * s.objField j 8 2 ≤ s.clk.flow)
    (current : rxStale f.1 f.2.2.1 ((s.shadow j).data.drop f.2.1) = false) (v : BusValue) :
    (s.busValue j f v).q = .stale ∧ (s.busValue j f v).val = (s.busValue j f v).last := by
  simp only [State.busValue, heard, current, ms_eq, late, Nat.not_lt.2 settled, decide_true, Bool.false_eq_true, if_true, if_false,
    and_self]

end

/-! ## Transmission (R315, R316) -/

/-- The frame of object `j` as it is loaded (R292, R315). -/
def State.objFrame (s : State) (j : Nat) (repeated : Bool) (asks : List Nat) : TxFrame :=
  let native := !s.objOpt j 2
  { ext := native, id := if native then protoId (s.objField j 7 1) 0x10 s.bus.nodeId j else s.objField j 4 2
    data := s.objPayload j repeated, key := if s.objOpt j 5 then some (s.objField j 13 1) else none
    since := s.clk.now, put := s.clk.now, role := .object j, asks := asks.map (fun a => (a, s.clk.now)) }

/-- One step more of a step on every unit. -/
theorem State.each_succ (s : State) (n : Nat) (f : State → Nat → State) : s.each (n + 1) f = f (s.each n f) n := by
  simp only [State.each, List.range_succ, List.foldl_append, List.foldl_cons, List.foldl_nil]

section

variable {s : State} {j : Nat}

theorem State.objDue_none (none_ : (s.shadow j).due = none) : s.objDue j = s := by simp only [State.objDue, none_]

theorem State.objDue_some {r : Bool} (due : (s.shadow j).due = some r) :
    s.objDue j = (s.modShadow j (fun x => { x with due := none })).objLoad j r [] := by simp only [State.objDue, due]

/-- Where no object is due none is loaded. -/
theorem State.each_objDue_none (n : Nat) (none_ : ∀ i, i < n → (s.shadow i).due = none) : s.each n State.objDue = s := by
  induction n with
  | zero => rfl
  | succ n ih => rw [State.each_succ, ih fun i hi => none_ i (Nat.lt_succ_of_lt hi), State.objDue_none (none_ n n.lt_succ_self)]

/-- The body of an object is what its payload takes of the shadow. -/
theorem State.objPayload_modShadow (has : j < s.bus.shadows.length) {g : Shadow → Shadow} (body : ∀ x, (g x).body = x.body)
    (repeated : Bool) : (s.modShadow j g).objPayload j repeated = s.objPayload j repeated := by
  have kept : ((s.modShadow j g).shadow j).body = (s.shadow j).body :=
    (congrArg Shadow.body (State.shadow_modShadow_self g has)).trans (body _)
  unfold State.objPayload
  rw [kept]; rfl

/-- An object of one bus, without `AUTH`, is loaded on its controller. -/
theorem State.objLoad_one (plain : s.objOpt j 5 = false) {b : Nat} (bus : s.objField j 2 1 = b) (hb : b < 4)
    (on : (s.ctl b).state ≠ .off) (repeated : Bool) (asks : List Nat) :
    s.objLoad j repeated asks = s.modCtl b (fun c => c.loadObj (s.objFrame j repeated asks) j) := by
  have single : s.objBuses j = [b] := by
    rw [State.objBuses, bus]
    exact if_neg (by omega)
  simp only [State.objLoad, plain, Bool.false_and, Bool.false_eq_true, if_false, single, List.foldl_cons, List.foldl_nil, on,
    State.objFrame]

theorem BusCtl.loadObj_empty {c : BusCtl} (empty : c.objs = []) (f : TxFrame) (j : Nat) : c.loadObj f j = { c with objs := [f] } := by
  simp only [BusCtl.loadObj, empty, List.any_nil, Bool.false_eq_true, if_false, List.nil_append]

end

/-! ## Requests for an object (R330) -/

section

variable {s : State}

/-- A request that no frame has answered completes, its wait ends. -/
theorem State.sendDone_one {w : Wait} {o z : Nat} (waits : s.host.waits = [w]) (kind : w.kind = .busSend o z) (host : w.fl.id < 240)
    (st : Status) (d : Nat) (p : List Byte) : (s.sendDone w.fl.id st d p).host.waits = [] ∧
      (s.sendDone w.fl.id st d p).host.done.getLsbD w.fl.id = true := by
  have chosen : isSend w.fl.id w = true := by simp [isSend, kind]
  simp only [State.sendDone, waits, List.filter_cons, chosen, if_true, List.filter_nil, Bool.not_true, Bool.false_eq_true, if_false,
    List.foldl_cons, List.foldl_nil, State.modBus_host, State.complete_waits, State.complete_done, host, true_and]
  have bit : w.fl.id < 256 := by omega
  simp [bit]

end

/-! ## The rows -/

section

variable {s : State} {t : Nat}

section

variable {b : Nat} (hb : b < 4)
include hb

theorem exec_value (p n i m : Nat) (d : List Byte) : exec (.value t b p n i m d) s =
    .next ((s.advance t).rxValue b p n i (s.markClk m).flow d) := guardUnit_next (decide_eq_true hb)

theorem exec_foreignFrame (i m : Nat) (d : List Byte) : exec (.foreignFrame t b i m d) s =
    .next ((s.advance t).rxForeign b i (s.markClk m).flow d) := guardUnit_next (decide_eq_true hb)

/-- A value that matches one object, not paired and without `AUTH`, is taken by it alone. -/
theorem exec_value_one {p n i m j : Nat} {d : List Byte} (hears : (s.ctl b).hears = true) (fd : s.busOpt b 1 = true)
    (claimed : s.bus.claimEnd = none) (one : s.matching b false n i d.length = [j]) (plain : s.objOpt j 5 = false)
    (single : s.objField j 2 1 ≠ 4) (has : j < s.bus.shadows.length) : ∃ u : State, exec (.value t b p n i m d) s = .next u ∧
      (u.shadow j).data = d ∧ (u.shadow j).rx = some (s.markClk m).flow ∧ (u.shadow j).seqLow = u16At d 0 ∧
      u.bus.values = s.bus.values ∧ ∀ k, k ≠ j → u.shadow k = s.shadow k := by
  have matched : (s.advance t).matching b false n i d.length = [j] := one
  refine ⟨_, exec_value hb p n i m d, ?_⟩
  rw [State.rxValue_hears (s := s.advance t) hears fd claimed, matched, List.foldl_cons, List.foldl_nil]
  have taken := State.accept_shadow (s := (s.advance t).rxOk b) (j := j) (by rw [State.shadows_rxOk]; exact has)
    (by rw [State.objOpt, State.objField_rxOk]; exact plain) (ext := true) (.inr (by rw [State.objField_rxOk]; exact single)) b n
    (protoId p 0x10 n i) (s.markClk m).flow d
  rw [State.shadow_rxOk, State.values_rxOk] at taken
  exact taken

/-- So is a base-format frame, paired or not. -/
theorem exec_foreignFrame_one {i m j : Nat} {d : List Byte} (hears : (s.ctl b).hears = true)
    (one : s.matching b true 0 i d.length = [j]) (plain : s.objOpt j 5 = false) (has : j < s.bus.shadows.length) :
    ∃ u : State, exec (.foreignFrame t b i m d) s = .next u ∧ (u.shadow j).data = d ∧
      (u.shadow j).rx = some (s.markClk m).flow ∧ ∀ k, k ≠ j → u.shadow k = s.shadow k := by
  have matched : (s.advance t).matching b true 0 i d.length = [j] := one
  refine ⟨_, exec_foreignFrame hb i m d, ?_⟩
  rw [State.rxForeign_hears (s := s.advance t) hears, matched, List.foldl_cons, List.foldl_nil]
  have taken := State.accept_shadow (s := (s.advance t).rxOk b) (j := j) (by rw [State.shadows_rxOk]; exact has)
    (by rw [State.objOpt, State.objField_rxOk]; exact plain) (ext := false) (.inl rfl) b 0 i (s.markClk m).flow d
  rw [State.shadow_rxOk] at taken
  obtain ⟨data, rx, -, -, others⟩ := taken
  exact ⟨data, rx, others⟩

end

section

variable {j : Nat} (hj : j < 128)
include hj

/-- The freshness of an object that has been heard counts from its last frame. -/
theorem exec_freshnessTimeout_heard {x : Nat} (heard : (s.shadow j).rx = some x) : exec (.freshnessTimeout t j) s =
    .next (if x + 1000000 * s.objField j 8 2 ≤ (s.toFrame t).clk.flow then (s.toFrame t).objValues j else s.toFrame t) := by
  refine (guardUnit_next (decide_eq_true hj)).trans ?_
  simp only [State.shadow_toFrame, heard, State.objField_toFrame, ms_eq]

/-- A value whose object is late is `STALE` (R317). -/
theorem exec_freshnessTimeout_late {x o w v : Nat} (rx : s.objRx j = true) (one : s.objFields j = [(2, o, w, v)])
    (has : v < s.bus.values.length) (heard : (s.shadow j).rx = some x)
    (late : x + 1000000 * s.objField j 8 2 ≤ (s.toFrame t).clk.flow)
    (settled : (s.shadow j).enabled + 1000000 * s.objField j 8 2 ≤ (s.toFrame t).clk.flow)
    (current : rxStale 2 w ((s.shadow j).data.drop o) = false) : ∃ u : State, exec (.freshnessTimeout t j) s = .next u ∧
      (u.bus.values.getD v {}).q = .stale ∧ (u.bus.values.getD v {}).val = (u.bus.values.getD v {}).last := by
  refine ⟨_, (exec_freshnessTimeout_heard hj heard).trans (congrArg _ (if_pos late)), ?_⟩
  rw [← s.objRx_toFrame t] at rx
  rw [← s.objFields_toFrame t] at one
  rw [← s.bus_toFrame t] at has
  rw [← s.shadow_toFrame t] at heard settled current
  rw [← s.objField_toFrame t] at late settled
  rw [State.objValues_one rx one, State.modBus_bus, getD_modAt_self _ _ has]
  exact State.busValue_stale heard late settled current _

theorem exec_busObjectDue : exec (.busObjectDue t j) s = .next ((s.advance t).each (j + 1) State.objDue) :=
  guardUnit_next (decide_eq_true hj)

/-- The lowest object that is due is loaded on its controller. -/
theorem exec_busObjectDue_first {b : Nat} {x : Bool} (hb : b < 4) (has : j < s.bus.shadows.length) (due : (s.shadow j).due = some x)
    (first : ∀ i, i < j → (s.shadow i).due = none) (plain : s.objOpt j 5 = false) (bus : s.objField j 2 1 = b)
    (on : (s.ctl b).state ≠ .off) (hasCtl : b < s.bus.ctl.length) (empty : (s.ctl b).objs = []) : ∃ u : State,
    exec (.busObjectDue t j) s = .next u ∧ (u.shadow j).due = none ∧ ∃ f, (u.ctl b).objs = [f] ∧ f.role = .object j ∧
      f.put = (s.advance t).clk.now ∧ f.data = (s.advance t).objPayload j x := by
  let a := s.advance t
  let c := a.modShadow j (fun y => { y with due := none })
  refine ⟨_, exec_busObjectDue hj, ?_⟩
  rw [State.each_succ, State.each_objDue_none (s := a) j first, State.objDue_some (s := a) due,
    State.objLoad_one (s := c) plain bus hb on]
  have loaded : ((c.modCtl b (fun y => y.loadObj (c.objFrame j x []) j)).ctl b).objs = [c.objFrame j x []] :=
    (congrArg BusCtl.objs (State.ctl_modCtl_self (s := c) _ hasCtl)).trans
      (congrArg BusCtl.objs (BusCtl.loadObj_empty (c := c.ctl b) empty _ j))
  exact ⟨congrArg Shadow.due (State.shadow_modShadow_self (s := a) _ has), c.objFrame j x [], loaded, rfl, rfl,
    State.objPayload_modShadow (s := a) has (g := fun y => { y with due := none }) (fun _ => rfl) x⟩

end

/-- The requests of `BUS_OBJ_SEND` whose time has run out at a local time. -/
def State.sendsLate (s : State) (now : Nat) : List Wait :=
  s.host.waits.filter (fun w => match w.kind with | .busSend _ z => decide (z ≤ now) | _ => false)

theorem exec_busObjSendTimeout : exec (.busObjSendTimeout t) s =
    .next ((s.sendsLate (s.advance t).clk.now).foldl (fun u w => u.sendDone w.fl.id .aborted 1 []) (s.advance t)) := rfl

theorem exec_busObjSendTimeout_none (early : ∀ w ∈ s.host.waits, ∀ o z, w.kind = .busSend o z → (s.advance t).clk.now < z) :
    exec (.busObjSendTimeout t) s = .next (s.advance t) := by
  have none_ : s.sendsLate (s.advance t).clk.now = [] := by
    refine List.filter_eq_nil_iff.2 fun w hw => ?_
    split
    · next o z kind => simpa using early w hw o z kind
    · simp
  rw [exec_busObjSendTimeout, none_, List.foldl_nil]

/-- The one request that waits, once its time has run out, is aborted. -/
theorem exec_busObjSendTimeout_one {w : Wait} {o z : Nat} (waits : s.host.waits = [w]) (kind : w.kind = .busSend o z)
    (late : z ≤ (s.advance t).clk.now) (host : w.fl.id < 240) : ∃ u : State, exec (.busObjSendTimeout t) s = .next u ∧
      u.host.waits = [] ∧ u.host.done.getLsbD w.fl.id = true := by
  have one : s.sendsLate (s.advance t).clk.now = [w] := by
    simp [State.sendsLate, waits, kind, late]
  exact ⟨_, exec_busObjSendTimeout.trans (by rw [one]; rfl), State.sendDone_one (s := s.advance t) waits kind host .aborted 1 []⟩

section

variable {tag : Nat} {f : Flight} (he : Executes s tag 0x0704 f)
include he

theorem exec_busObjSend_tx (tx : s.objTx f.unit = true) : exec (.busObjSend t tag) s =
    .next (((s.acting t).objLoad f.unit false [f.id]).wait f (.busSend f.unit ((s.advance t).clk.now + 1000000000))).takeNext :=
  exec_row_eq rfl he (if_neg (by rw [Bool.not_eq_true', Bool.not_eq_false]; exact tx))

theorem exec_busObjSend_rx (rx : s.objTx f.unit = false) : exec (.busObjSend t tag) s =
    .next ((s.acting t).complete f .badField 8 []).takeNext :=
  exec_row_eq rfl he ((if_pos (by rw [Bool.not_eq_true']; exact rx)).trans (State.refuse_eq (by decide)))

end

end

/-- Settles O55: each frame, each instant and each opcode by what it does to the objects and their values. That the age in
`BUS_VALUES` counts whole milliseconds rounded down is the model's choice (log 36). -/
theorem busObjects : Obligations.BusObjects := by
  intro s t b d hb
  dsimp only
  refine ⟨fun p n i m hears fd claimed unmatched => ?_,
    fun p n i m j hears fd claimed one plain single has => exec_value_one hb hears fd claimed one plain single has,
    fun i m j hears one plain has => exec_foreignFrame_one hb hears one plain has, fun p n i m deaf => ⟨?_, ?_⟩,
    fun j x hj heard fresh => (exec_freshnessTimeout_heard hj heard).trans (congrArg _ (if_neg (Nat.not_le.2 fresh))),
    fun j x o w v hj rx one has heard late settled current => exec_freshnessTimeout_late hj rx one has heard late settled current,
    fun j hj none_ => ?_,
    fun j x hj has due first plain bus on hasCtl empty => exec_busObjectDue_first hj hb has due first plain bus on hasCtl empty,
    fun tag f he tx => exec_busObjSend_tx he tx, fun tag f he rx => exec_busObjSend_rx he rx, exec_busObjSendTimeout_none,
    fun w o z waits kind late host => exec_busObjSendTimeout_one waits kind late host, fun tag f he => exec_row_eq rfl he rfl,
    fun tag f he within => exec_row_eq rfl he (if_neg (Nat.not_lt.2 within))⟩
  · have unmatched' : (s.advance t).matching b false n i d.length = [] := unmatched
    rw [exec_value hb, State.rxValue_hears (s := s.advance t) hears fd claimed, unmatched', List.foldl_nil]
  · rw [exec_value hb, State.rxValue_deaf (s := s.advance t) deaf]
  · rw [exec_foreignFrame hb, State.rxForeign_deaf (s := s.advance t) deaf]
  · rw [exec_busObjectDue hj, State.each_objDue_none (s := s.advance t) (j + 1) fun i hi => none_ i (Nat.le_of_lt_succ hi)]

end Sys2Proof.Machine
end

section
/-!
PROOFS. The queue of commands: a step takes the command at its front, and no command changes what is behind it.
-/

namespace Sys2Proof.Machine

open Sys2Proof Sys2Proof.Laws

/-- The bytes of a write reach registers, slots and the calendar. -/
theorem writeBytes_pending (l : List Byte) (a : Nat) (acc : Option (List Byte)) (s : State) :
    (writeBytes l a acc s).pending = s.pending := by
  induction l generalizing a acc s with
  | nil => rfl
  | cons b r ih =>
    have word : ∀ w : Option (List Byte), (match w with | some w => s.writeReg (a - 3) (u32At w 0) | none => s).pending = s.pending := by
      intro w; cases w <;> simp
    simp only [writeBytes]
    split
    · split
      · exact (ih _ _ _).trans (word _)
      · exact ih _ _ _
    · split
      · exact (ih _ _ _).trans (keep_pending_State_writeCal _ _ _)
      · split
        · exact ih _ _ _
        · exact (ih _ _ _).trans (keep_pending_State_spiErr _)

theorem State.nvmIf_pending (s : State) (p : NvmKind → Bool) (go : State → State) (h : ∀ u, (go u).pending = u.pending) :
    (s.nvmIf p go).pending = s.pending := by
  unfold State.nvmIf
  repeat' split
  · exact h s
  all_goals rfl

/-- Every command is guarded by the existence of its units, and leaves the queue as it finds it. -/
theorem exec_guardUnit_pending (i : Instr) (s : State) : ∃ u, exec i s = guardUnit i.wf u ∧ u.pending = s.pending := by
  cases i
  case waveformStart | waveformEnd | blinkToggle => exact ⟨_, ite_noSuchUnit_eq_guardUnit _, by simp⟩
  all_goals refine ⟨_, rfl, ?_⟩
  case hostRegWrite => simp [writeBytes_pending]
  case commitChurn =>
    refine State.nvmIf_pending _ _ _ fun u => ?_
    repeat' split
    all_goals simp
  case returnErasure =>
    refine ite0 rfl ?_
    repeat' split
    all_goals simp
  case secAttest => exact keep_pending_State_withCur _ _ _ _ _ fun f u => keep_pending_State_ok _ _ _
  case fwInfo =>
    exact keep_pending_State_withCur _ _ _ _ _ fun f u => keep_pending_State_fwReq _ _ _ fun v => by simp
  case fwActivate =>
    refine keep_pending_State_withCur _ _ _ _ _ fun f u => keep_pending_State_fwReq _ _ _ fun v => ?_
    split <;> simp
  case chanFskXfer | secOwnerKey | secDebugConfirm =>
    refine keep_pending_State_withCur _ _ _ _ _ fun f u => ?_
    repeat' split
    all_goals simp
  case chanCurveLoad | chanCurveStore | chanFskBurst | dispUpdate =>
    refine keep_pending_State_withCur _ _ _ _ _ fun f u => ?_
    dsimp only
    repeat' split
    all_goals simp
  case auth =>
    refine keep_pending_State_tapSelect _ _ _ fun u => ?_
    split <;> simp
  case freshnessTimeout =>
    dsimp only
    repeat' split
    all_goals simp
  case economyBurst => exact ite0 ((ek (fun _ _ => keep_pending_State_modChan _ _ _) 8 _).trans rfl) rfl
  case vibCaptureDone | powerFail | fullPendingLapse =>
    repeat' split
    all_goals simp
  case dryRun | commitEnergyMet | draftTimeout | linkUp | vexSenseReturn | fskResponseTimeout | fskRetry | fwAccepted | standbyDwell |
      holdupComplete | brownOut | holdAbsent | dispPumpFault | pumpShutdown | pumpDischargeEnd | resetN | resetNRelease |
      vbatBelowRetention =>
    repeat' split
    all_goals simp
  all_goals simp

theorem exec_pending {i : Instr} {s u : State} (h : exec i s = .next u) : u.pending = s.pending := by
  obtain ⟨v, hv, keeps⟩ := exec_guardUnit_pending i s
  rw [hv, guardUnit] at h
  split at h
  · obtain rfl := Host.Outcome.next.inj h
    exact keeps
  · cases h

/-- Settles O1: both clauses are the definition of a step. -/
theorem stepRunsTheFront : Obligations.StepRunsTheFront :=
  ⟨fun _ _ _ => rfl, fun _ idle => by simp only [step, idle]⟩

/-- A step drops the command at the front of the queue. -/
theorem step_pending {s u : State} {i : Instr} {r : List Instr} (front : s.pending = i :: r) (h : step s = .next u) :
    u.pending = r := by
  simp only [step, front] at h
  exact exec_pending h

/-- Each step that the commands left in the queue allow for takes one of them. -/
theorem steps_pending (n : Nat) {s u : State} (enough : n ≤ s.pending.length) (h : steps n s = .next u) :
    u.pending = s.pending.drop n := by
  induction n generalizing s with
  | zero => obtain rfl := Host.Outcome.next.inj h; rfl
  | succ n ih =>
    obtain ⟨i, r, front⟩ : ∃ i r, s.pending = i :: r := by
      cases hp : s.pending with
      | nil => simp [hp] at enough
      | cons i r => exact ⟨i, r, rfl⟩
    obtain ⟨v, hv⟩ | ⟨stops, -⟩ := step_next_or_fault s
    · have rest : v.pending = r := step_pending front hv
      simp only [steps, hv] at h
      rw [ih (by rw [rest]; simpa [front] using enough) h, rest, front, List.drop_succ_cons]
    · simp [steps, stops] at h

/-- A queue of commands for units of the node runs to its end. -/
theorem steps_complete {s : State} (wf : ∀ i ∈ s.pending, i.wf = true) :
    ∃ u, steps s.pending.length s = .next u ∧ u.pending = [] := by
  generalize queue : s.pending = q
  induction q generalizing s with
  | nil => exact ⟨s, rfl, queue⟩
  | cons i r ih =>
    obtain ⟨v, hv⟩ := exec_next_of_wf (wf i (by simp [queue])) { s with pending := r }
    have taken : step s = .next v := by simp only [step, queue, hv]
    have rest : v.pending = r := step_pending queue taken
    obtain ⟨u, hu, empty⟩ := ih (s := v) (fun j hj => wf j (by simp [queue, rest ▸ hj])) rest
    exact ⟨u, by simp only [List.length_cons, steps, taken, hu], empty⟩

/-- Settles O3: no command changes the queue, so each step takes the one command at its front. -/
theorem queueRunsOut : Obligations.QueueRunsOut :=
  ⟨fun _ _ _ h => exec_pending h, fun _ wf => steps_complete wf, fun _ _ n enough h => steps_pending n enough h⟩

end Sys2Proof.Machine
end

section
/-!
PROOFS. What a change of the node state leaves as it is: the units suspended or resumed, the node-not-live cell, banks that go
down, frames and claim period that start (Tables 14.8 and 10.6, R389, R397).
-/

namespace Sys2Proof.Machine

open Sys2Proof

/-! ## Channels of encoders -/

/-- Settling a channel changes channels and the log. -/
theorem State.settleEnc_changes (s : State) (k : Nat) : ∃ l e, s.settleEnc k = { s with log := l, encs := e } := by
  have rest : ({ s.settleEnc k with log := s.log, encs := s.encs } : State) = s :=
    s.settleEnc_keeps (p := fun u => ({ u with log := s.log, encs := s.encs } : State)) (fun _ _ => rfl) (fun _ _ _ _ _ => rfl)
  exact ⟨_, _, congrArg (fun u : State => { u with log := (s.settleEnc k).log, encs := (s.settleEnc k).encs }) rest⟩

theorem State.cmpSuspend_changes (s : State) (k : Nat) : ∃ l e, s.cmpSuspend k = { s with log := l, encs := e } := by
  obtain ⟨l, e, settled⟩ := s.settleEnc_changes k
  unfold State.cmpSuspend
  rw [settled]
  exact ⟨_, _, rfl⟩

theorem State.cmpResume_changes (s : State) (k : Nat) : ∃ e, s.cmpResume k = { s with encs := e } := by
  unfold State.cmpResume State.cmpWindow
  dsimp only
  split <;> exact ⟨_, rfl⟩

/-- Every unit suspended. -/
theorem State.eachSuspend_changes (s : State) (n : Nat) : ∃ l e, s.each n State.cmpSuspend = { s with log := l, encs := e } := by
  have rest : ({ s.each n State.cmpSuspend with log := s.log, encs := s.encs } : State) = s := by
    refine State.each_keeps (fun u => ({ u with log := s.log, encs := s.encs } : State)) (fun u k => ?_) s n
    obtain ⟨l, e, h⟩ := u.cmpSuspend_changes k
    rw [h]
  exact ⟨_, _, congrArg (fun u : State => { u with log := (s.each n State.cmpSuspend).log, encs := (s.each n State.cmpSuspend).encs }) rest⟩

/-- Every unit resumed. -/
theorem State.eachResume_changes (s : State) (n : Nat) : ∃ e, s.each n State.cmpResume = { s with encs := e } := by
  have rest : ({ s.each n State.cmpResume with encs := s.encs } : State) = s := by
    refine State.each_keeps (fun u => ({ u with encs := s.encs } : State)) (fun u k => ?_) s n
    obtain ⟨e, h⟩ := u.cmpResume_changes k
    rw [h]
  exact ⟨_, congrArg (fun u : State => { u with encs := (s.each n State.cmpResume).encs }) rest⟩

/-! ## The node state -/

theorem State.driveCell_changes (s : State) (dark : Bool) : ∃ d, s.driveCell dark = { s with disp := d } := by
  unfold State.driveCell State.cellFrom
  dsimp only
  repeat' split
  all_goals exact ⟨_, rfl⟩

/-- The power state after the node has entered state `st` for `cause`. -/
def PowerSt.entered (p : PowerSt) (st : NodeState) (cause now : Nat) : PowerSt :=
  { p with state := st, cause := cause, armedSince := if st = .armed then some now else none,
           safePend := if st = .armed then p.safePend else none }

/-- A new node state is the state, its interrupt cause, its record, and what follows in the units, the relay, the debug session
and the display. -/
theorem State.setState_changes (s : State) (st : NodeState) (cause : Nat) : ∃ l e n x d, s.setState st cause =
    { s with pwr := s.pwr.entered st cause s.clk.now, host := { s.host with irqStat := s.host.irqStat ||| (1#32 <<< 3) },
             log := l, encs := e, nok := n, sec := { s.sec with dbg := x }, disp := d } := by
  unfold State.setState
  extract_lets old s1 s2
  split
  · obtain ⟨d, cell⟩ := State.driveCell_changes { s2 with nok := { s2.nok with coilFault := false } } false
    obtain ⟨e, units⟩ := State.eachResume_changes ({ s2 with nok := { s2.nok with coilFault := false }, disp := d } : State) 8
    rw [cell, units]
    exact ⟨_, _, _, _, _, rfl⟩
  · obtain ⟨d, cell⟩ := State.driveCell_changes (s2.modDbg (fun d => { d with halted := d.halted ||| d.haltPend, haltPend := 0 })) false
    rw [cell]
    obtain ⟨l, e, units⟩ := State.eachSuspend_changes
      { s2.modDbg (fun d => { d with halted := d.halted ||| d.haltPend, haltPend := 0 }) with disp := d } 8
    rw [units]
    exact ⟨_, _, _, _, _, rfl⟩
  · obtain ⟨l, e, units⟩ := s2.eachSuspend_changes 8
    rw [units]
    exact ⟨_, _, _, _, _, rfl⟩

section

variable (s : State) (st : NodeState) (cause : Nat)

@[simp] theorem State.setState_pwr : (s.setState st cause).pwr = s.pwr.entered st cause s.clk.now := by
  obtain ⟨l, e, n, x, d, h⟩ := s.setState_changes st cause
  rw [h]

@[simp] theorem State.setState_clk : (s.setState st cause).clk = s.clk := by
  obtain ⟨l, e, n, x, d, h⟩ := s.setState_changes st cause
  rw [h]

@[simp] theorem State.setState_frame : (s.setState st cause).frame = s.frame := by
  obtain ⟨l, e, n, x, d, h⟩ := s.setState_changes st cause
  rw [h]

@[simp] theorem State.setState_cfg : (s.setState st cause).cfg = s.cfg := by
  obtain ⟨l, e, n, x, d, h⟩ := s.setState_changes st cause
  rw [h]

@[simp] theorem State.setState_bkp : (s.setState st cause).bkp = s.bkp := by
  obtain ⟨l, e, n, x, d, h⟩ := s.setState_changes st cause
  rw [h]

@[simp] theorem State.setState_banks : (s.setState st cause).banks = s.banks := by
  obtain ⟨l, e, n, x, d, h⟩ := s.setState_changes st cause
  rw [h]

@[simp] theorem State.setState_bus : (s.setState st cause).bus = s.bus := by
  obtain ⟨l, e, n, x, d, h⟩ := s.setState_changes st cause
  rw [h]

end

/-! ## Banks that go down -/

section

variable {β : Type} {p : State → β} (modem : ∀ s b f, p (State.modModem s b f) = p s)
  (complete : ∀ s f st d l, p (State.complete s f st d l) = p s)
include modem complete

theorem State.fskAbort_keeps (s : State) (b : Nat) (sel : Nat → Bool) : p (s.fskAbort b sel) = p s := by
  unfold State.fskAbort
  repeat' split
  · exact (complete _ _ _ _ _).trans (modem _ _ _)
  all_goals rfl

variable (bank : ∀ s b f, p (State.modBank s b f) = p s) (out : ∀ s n f, p (State.modOut s n f) = p s)
  (chan : ∀ s n f, p (State.modChan s n f) = p s)
include bank out chan

/-- A bank that goes down changes itself, its outputs and channels, and cuts its modem off. -/
theorem State.bankDown_keeps (s : State) (b : Nat) (st : BankPower) : p (s.bankDown b st) = p s := by
  unfold State.bankDown; dsimp only
  refine (State.fskAbort_keeps modem complete _ _ _).trans ?_
  exact (State.each_keeps p (fun _ _ => (chan _ _ _).trans (out _ _ _)) _ 8).trans (bank _ _ _)

/-- In STANDBY every bank goes down (R389). -/
theorem State.standbyBanks_keeps (pwr : ∀ s f, p (State.modPwr s f) = p s) (s : State) : p s.standbyBanks = p s :=
  (pwr _ _).trans (State.each_keeps p (fun u k => State.bankDown_keeps modem complete bank out chan u k .off) s 8)

end

section

variable (s : State)

theorem State.standbyBanks_clk : s.standbyBanks.clk = s.clk :=
  State.standbyBanks_keeps (fun _ _ _ => rfl) State.complete_clk (fun _ _ _ => rfl) (fun _ _ _ => rfl) (fun _ _ _ => rfl) (fun _ _ => rfl) s

theorem State.standbyBanks_frame : s.standbyBanks.frame = s.frame :=
  State.standbyBanks_keeps (fun _ _ _ => rfl) State.complete_frame (fun _ _ _ => rfl) (fun _ _ _ => rfl) (fun _ _ _ => rfl) (fun _ _ => rfl) s

theorem State.standbyBanks_cfg : s.standbyBanks.cfg = s.cfg :=
  State.standbyBanks_keeps (fun _ _ _ => rfl) State.complete_cfg (fun _ _ _ => rfl) (fun _ _ _ => rfl) (fun _ _ _ => rfl) (fun _ _ => rfl) s

theorem State.standbyBanks_bkp : s.standbyBanks.bkp = s.bkp :=
  State.standbyBanks_keeps (fun _ _ _ => rfl) State.complete_bkp (fun _ _ _ => rfl) (fun _ _ _ => rfl) (fun _ _ _ => rfl) (fun _ _ => rfl) s

end

/-! ## Frames and the claim period start -/

section

variable (s : State) (t0 : Nat)

@[simp] theorem State.framesStart_pwr : (s.framesStart t0).pwr = s.pwr := rfl

@[simp] theorem State.framesStart_cfg : (s.framesStart t0).cfg = s.cfg := rfl

@[simp] theorem State.framesStart_bkp : (s.framesStart t0).bkp = s.bkp := rfl

@[simp] theorem State.framesStart_frame : (s.framesStart t0).frame = { s.frame with
    running := true, nextTick := s.gridFrom t0, open_ := false, slipped := false, pubRun := 0, consec := 0 } := rfl

@[simp] theorem State.claimStart_pwr : s.claimStart.pwr = s.pwr := rfl

@[simp] theorem State.claimStart_cfg : s.claimStart.cfg = s.cfg := rfl

@[simp] theorem State.claimStart_bkp : s.claimStart.bkp = s.bkp := rfl

@[simp] theorem State.claimStart_frame : s.claimStart.frame = s.frame := rfl

end

/-! ## The wake from STANDBY -/

/-- A wake from STANDBY goes to STARTING: frames start, the calendar, the frame count and the configuration go on (R397). -/
theorem State.wake_standby {s : State} (standby : s.pwr.state = .standby) : s.wake.pwr.state = .starting ∧ s.wake.pwr.cause = 8 ∧
    s.wake.pwr.startAt = s.clk.now - ms 120 ∧ s.wake.frame.running = true ∧ s.wake.frame.seq = s.frame.seq ∧
    s.wake.cfg = s.cfg ∧ s.wake.bkp = s.bkp := by
  unfold State.wake
  rw [if_pos standby]
  extract_lets s' s0 s1
  have rest : s'.clk = s.clk ∧ s'.frame = s.frame ∧ s'.cfg = s.cfg ∧ s'.bkp = s.bkp := by
    unfold s'; split
    · exact ⟨s.standbyBanks_clk, s.standbyBanks_frame, s.standbyBanks_cfg, s.standbyBanks_bkp⟩
    · exact ⟨rfl, rfl, rfl, rfl⟩
  obtain ⟨clk, frame, cfg, bkp⟩ := rest
  have pwr1 : s1.pwr = { s0.pwr.entered .starting 8 s.clk.now with startAt := s.clk.now - ms 120, startSafe := false } := by
    simp only [s1, s0, State.modPwr_pwr, State.setState_pwr, clk]
  have frame1 : s1.frame = s.frame := (State.modPwr_frame _ _).trans ((s0.setState_frame _ _).trans frame)
  have cfg1 : s1.cfg = s.cfg := (State.modPwr_cfg _ _).trans ((s0.setState_cfg _ _).trans cfg)
  have bkp1 : s1.bkp = s.bkp := (State.modPwr_bkp _ _).trans ((s0.setState_bkp _ _).trans bkp)
  clear_value s1
  have pwr2 := (State.claimStart_pwr _).trans ((s1.framesStart_pwr s1.clk.now).trans pwr1)
  have frame2 := (State.claimStart_frame _).trans (s1.framesStart_frame s1.clk.now)
  rw [pwr2, frame2, frame1]
  exact ⟨rfl, rfl, rfl, rfl, rfl, (State.claimStart_cfg _).trans ((State.framesStart_cfg _ _).trans cfg1),
    (State.claimStart_bkp _).trans ((State.framesStart_bkp _ _).trans bkp1)⟩

theorem State.wake_other {s : State} (other : s.pwr.state ≠ .standby) : s.wake = s := if_neg other

/-- A wake leaves the backup domain. -/
theorem State.wake_bkp (s : State) : s.wake.bkp = s.bkp := by
  obtain standby | other := eq_or_ne s.pwr.state .standby
  · exact (State.wake_standby standby).2.2.2.2.2.2
  · rw [State.wake_other other]

end Sys2Proof.Machine
end

section
/-!
PROOFS. The calendar: commands of the host, the TIME opcodes, second boundaries, alignment to network time (chapter 12).
-/

namespace Sys2Proof.Machine

open Sys2Proof

/-! ## Sets and summer-time commands (R336, R339, R340) -/

section

variable {b : BkpSt}

/-- A staging that passes Table 12.6 becomes the pending set. -/
theorem BkpSt.writeSet_accepted {u : Nat} {z : Int} {d : Bool} (ok : checkStage b.stage = .inr (u, z, d)) : b.writeSet =
    { b with pendSet := some { utc := u, zone := z, dst := d, due := b.nextBoundary }, pendDst := none } := by
  simp only [BkpSt.writeSet, ok]; rfl

theorem BkpSt.writeSet_refused {k : Nat} (bad : checkStage b.stage = .inl k) : b.writeSet = { b with dateErr := true, errKind := k } := by
  simp only [BkpSt.writeSet, bad]; rfl

/-- A pending set refuses every summer-time command (Table 12.6, row 5). -/
theorem BkpSt.dstFault_pendSet (set : b.pendSet.isSome = true) (fwd : Bool) : b.dstFault fwd = some 5 := if_pos set

/-- With nothing pending, a command to the setting that stands is refused (Table 12.6, row 2). -/
theorem BkpSt.dstFault_same (noSet : b.pendSet = none) (noDst : b.pendDst = none) : b.dstFault b.dst = some 2 := by
  simp [BkpSt.dstFault, noSet, noDst]

/-- With nothing pending, a command that changes the setting is refused only where the local time leaves its range. -/
theorem BkpSt.dstFault_change {fwd : Bool} (noSet : b.pendSet = none) (noDst : b.pendDst = none) (change : b.dst ≠ fwd) :
    b.dstFault fwd = if fwd && decide ((calendarEnd : Int) < b.nextBoundary + b.offset + 3600) then some 3
      else if !fwd && decide ((b.nextBoundary : Int) + b.offset < 3600) then some 3 else none := by
  simp [BkpSt.dstFault, noSet, noDst, change]

theorem BkpSt.writeDst_accepted {fwd : Bool} (ok : b.dstFault fwd = none) (origin : Nat) :
    b.writeDst fwd origin = { b with pendDst := some { fwd, due := b.nextBoundary, origin } } := by
  simp only [BkpSt.writeDst, ok]

theorem BkpSt.writeDst_refused {fwd : Bool} {k : Nat} (bad : b.dstFault fwd = some k) (origin : Nat) :
    b.writeDst fwd origin = { b with dateErr := true, errKind := k } := by
  simp only [BkpSt.writeDst, bad]; rfl

theorem BkpSt.setWake_eq (en : Bool) (n : Nat) : b.setWake en n = { b with
    wakeEn := en, interval := n % 4194304,
    wakeDue := if en = true ∧ n % 4194304 ≠ 0 then some (b.age + n % 4194304 * wakeUnit) else none } := by
  simp [BkpSt.setWake, BkpSt.restartWake]

end

/-- WAKE_EN is the top bit of a word. -/
theorem tst_top {w : Nat} (lt : w < 4294967296) : tst w 31 = decide (2147483648 ≤ w) := by
  simp only [tst, Nat.testBit_eq_decide_div_mod_eq, decide_eq_decide]
  omega

/-- The snapshot registers read back what the copy put there (R335). -/
theorem BkpSt.readWord_snap (b : BkpSt) {i : Nat} (lt : i < 10) : b.readWord (0x1000 + 4 * i) = b.snap.getD i 0 := by
  have low : 0x1000 + 4 * i - 0x1000 < 0x28 := by omega
  have place : (0x1000 + 4 * i - 0x1000) / 4 = i := by omega
  simp only [BkpSt.readWord, low, if_true, place]

/-- Settles O14: each command by what its write does to the calendar registers. -/
theorem calendarCommands : Obligations.CalendarCommands := by
  intro s t up
  dsimp only
  refine ⟨⟨_, exec_of_portUp up rfl rfl, rfl, fun i lt => BkpSt.readWord_snap _ lt⟩,
    fun u z d ok => exec_of_portUp up rfl (by rw [BkpSt.writeSet_accepted ok]),
    fun k bad => exec_of_portUp up rfl (by rw [BkpSt.writeSet_refused bad]), exec_of_portUp up rfl rfl,
    fun noSet noDst winter inRange => exec_of_portUp up rfl ?fwd, fun noSet noDst summer inRange => exec_of_portUp up rfl ?back,
    fun noSet noDst => ⟨fun summer => exec_of_portUp up rfl ?same1, fun winter => exec_of_portUp up rfl ?same2,
      fun winter late => exec_of_portUp up rfl ?late, fun summer early => exec_of_portUp up rfl ?early⟩,
    fun set => ⟨exec_of_portUp up rfl (by rw [BkpSt.writeDst_refused (BkpSt.dstFault_pendSet set _)]),
      exec_of_portUp up rfl (by rw [BkpSt.writeDst_refused (BkpSt.dstFault_pendSet set _)])⟩,
    ⟨rfl, rfl, rfl, rfl⟩, fun v _ => exec_of_portUp up rfl rfl,
    fun w lt => exec_of_portUp up rfl (by rw [BkpSt.setWake_eq, tst_top lt]; simp only [decide_eq_true_eq])⟩
  case fwd =>
    rw [BkpSt.writeDst_accepted]
    rw [BkpSt.dstFault_change noSet noDst (by simp [winter])]
    simp [Int.not_lt.2 inRange]
  case back =>
    rw [BkpSt.writeDst_accepted]
    rw [BkpSt.dstFault_change noSet noDst (by simp [summer])]
    simp [Int.not_lt.2 inRange]
  case same1 => rw [BkpSt.writeDst_refused (summer ▸ BkpSt.dstFault_same noSet noDst)]
  case same2 => rw [BkpSt.writeDst_refused (winter ▸ BkpSt.dstFault_same noSet noDst)]
  case late =>
    rw [BkpSt.writeDst_refused]
    rw [BkpSt.dstFault_change noSet noDst (by simp [winter])]
    simp [late]
  case early =>
    rw [BkpSt.writeDst_refused]
    rw [BkpSt.dstFault_change noSet noDst (by simp [summer])]
    simp [early]

/-! ## The TIME opcodes (Table 12.13) -/

section

variable {s : State} {f : Flight} {k : Nat}

theorem State.timeSet_pending (ok : checkUtc (u64At f.req 16 : Nat) (signed 8 (byteAt f.req 24)) (byteAt f.req 25 = 1) = none) :
    s.timeSet f = (s.setBkp { s.bkp with
      pendDst := none, pendSet := some { utc := u64At f.req 16, zone := signed 8 (byteAt f.req 24), dst := byteAt f.req 25 = 1,
                                         due := s.bkp.nextBoundary } }).wait f .timeSet := by
  simp only [State.timeSet, ok]; rfl

theorem State.dateInvalid_eq : s.dateInvalid f k =
    ({ s with bkp := { s.bkp with dateErr := true, errKind := k } } : State).complete f .dateInvalid k [] :=
  State.refuse_eq (by decide)

theorem State.timeSet_refused (bad : checkUtc (u64At f.req 16 : Nat) (signed 8 (byteAt f.req 24)) (byteAt f.req 25 = 1) = some k) :
    s.timeSet f = s.dateInvalid f k := by simp only [State.timeSet, bad]

theorem State.timeDst_pending (ok : s.bkp.dstFault (byteAt f.req 16 = 0) = none) : s.timeDst f =
    (s.setBkp { s.bkp with pendDst := some { fwd := byteAt f.req 16 = 0, due := s.bkp.nextBoundary, origin := f.origin.code } }).wait f
      .timeDst := by
  simp only [State.timeDst, ok, BkpSt.writeDst_accepted ok]

theorem State.timeDst_refused (bad : s.bkp.dstFault (byteAt f.req 16 = 0) = some k) : s.timeDst f = s.dateInvalid f k := by
  simp only [State.timeDst, bad]

end

/-- A setting written for one event input leaves the others. -/
theorem BkpSt.getD_modEvt (b : BkpSt) (e : Nat) (g : EvtSt → EvtSt) {i : Nat} (has : i < b.evts.length) :
    (b.modEvt e g).evts.getD i {} = if i = e then g (b.evts.getD i {}) else b.evts.getD i {} := by
  split
  case isTrue h => exact h ▸ getD_modAt_self g {} (h ▸ has)
  case isFalse h => exact getD_modAt_ne g {} (Ne.symm h)

/-- Settles O30. That the quality is 3 or 4 by TIME_VALID alone is the model's reading of Table 12.9 (log entry 67). -/
theorem timeOpcodes : Obligations.TimeOpcodes := by
  intro s t tag f
  dsimp only
  refine ⟨fun he => exec_row_eq rfl he rfl, fun he ok => exec_row_eq rfl he (State.timeSet_pending ok),
    fun k he bad => exec_row_eq rfl he ((State.timeSet_refused bad).trans State.dateInvalid_eq), ?_, ?_, ?_, ?_,
    fun he => ⟨{ s.acting t with bkp := (s.acting t).bkp.modEvt (byteAt f.req 16) (fun x =>
      { x with cfg := BitVec.ofNat 32 (u16At f.req 18 &&& evtCfgMask) }) }, exec_row_eq rfl he rfl, rfl, modAt_length _ _ _,
      fun i has => BkpSt.getD_modEvt _ _ _ has⟩, fun he => exec_row_eq rfl he rfl⟩
  · rintro fwd he rfl ok
    exact exec_row_eq rfl he (State.timeDst_pending ok)
  · rintro fwd k he rfl bad
    exact exec_row_eq rfl he ((State.timeDst_refused bad).trans State.dateInvalid_eq)
  · rintro v he rfl
    exact exec_row_eq rfl he rfl
  · rintro n he rfl
    refine exec_row_eq rfl he ?_
    dsimp only
    have enabled : (decide (u32At f.req 16 ≠ 0) = true ∧ u32At f.req 16 % 4194304 ≠ 0) ↔ u32At f.req 16 % 4194304 ≠ 0 := by
      rw [decide_eq_true_eq]
      omega
    simp only [BkpSt.setWake_eq, enabled]

/-! ## What is logged of the backup domain -/

section

variable {s : State} (code sev p1 p2 : Nat)

theorem State.logBkp_running (runs : s.fwRuns = true) : s.logBkp code sev p1 p2 = s.logNode code sev p1 p2 := if_pos runs

/-- While no firmware runs the event is kept (log entry 162). -/
theorem State.logBkp_kept (still : s.fwRuns = false) : s.logBkp code sev p1 p2 =
    { s with bkp := { s.bkp with notes := s.bkp.notes ++ [(code, sev, p1, p2)] } } := if_neg (by simp [still])

/-- An event of the backup domain is in the log, or among the notes. -/
theorem State.logBkp_changes (s : State) : ∃ l, s.logBkp code sev p1 p2 = { s with log := l, bkp := { s.bkp with
    notes := if s.fwRuns then s.bkp.notes else s.bkp.notes ++ [(code, sev, p1, p2)] } } := by
  obtain runs | still := Bool.eq_false_or_eq_true s.fwRuns
  · exact ⟨_, by rw [State.logBkp_running _ _ _ _ runs, if_pos runs]; rfl⟩
  · exact ⟨s.log, by rw [State.logBkp_kept _ _ _ _ still, if_neg (by simp [still])]⟩

end

/-! ## Second boundaries (R336, R340) -/

/-- A step of the time base leaves the calendar and the configuration. -/
theorem State.stepTime_keeps (s : State) (d : Int) : (s.stepTime d).bkp = s.bkp ∧ (s.stepTime d).cfg = s.cfg := by
  unfold State.stepTime
  extract_lets s1
  split
  · exact ⟨rfl, rfl⟩
  · exact ⟨rfl, rfl⟩

section

variable {s : State}

theorem State.rtcSet_due {p : PendSet} (set : s.bkp.pendSet = some p) (due : p.due * 32768 ≤ s.bkp.clock) :
    s.rtcSet.bkp = { s.bkp with
      cyc := p.utc * 32768 + (s.bkp.clock - p.due * 32768), held := 0, zone := p.zone, dst := p.dst, pendSet := none,
      timeValid := true, range := false,
      notes := if s.fwRuns then s.bkp.notes else s.bkp.notes ++ [(0x0805, 4, min p.due (s.bkp.cyc / 32768), p.utc)] } ∧
    s.rtcSet.cfg = s.cfg ∧ (s.bus.net.isMaster = false → s.rtcSet.clk = s.clk) ∧ ∀ w ∈ s.rtcSet.host.waits, w.kind ≠ .timeSet := by
  simp -zeta only [State.rtcSet, set, due, if_true]
  extract_lets past el was _ b s1 s2
  obtain ⟨l, logged⟩ := State.logBkp_changes 0x0805 4 was p.utc { s with bkp := b }
  have moved : s2.bkp = s1.bkp ∧ s2.cfg = s1.cfg ∧ (s1.bus.net.isMaster = false → s2.clk = s1.clk) := by
    unfold s2
    split
    case isTrue h =>
      have master : s1.bus.net.isMaster = true := by simp only [Bool.and_eq_true] at h; exact h.1
      exact ⟨(s1.stepTime_keeps _).1, (s1.stepTime_keeps _).2, fun away => absurd (master.symm.trans away) (by decide)⟩
    case isFalse => exact ⟨rfl, rfl, fun _ => rfl⟩
  obtain ⟨bkp, cfg, clk⟩ := moved
  have e : s1 = _ := logged
  refine ⟨?_, ?_, fun away => ?_, fun w mem => ?_⟩
  · rw [State.endWaits_bkp, bkp, e]; rfl
  · rw [State.endWaits_cfg, cfg, e]
  · rw [State.endWaits_clk, clk (by rw [e]; exact away), e]
  · rw [State.endWaits_waits, List.mem_filter] at mem
    intro kind
    simp [kind] at mem

theorem State.rtcSet_early {p : PendSet} (set : s.bkp.pendSet = some p) (early : s.bkp.clock < p.due * 32768) : s.rtcSet = s := by
  simp only [State.rtcSet, set, Nat.not_le.2 early, if_false]

theorem State.rtcSet_none (set : s.bkp.pendSet = none) : s.rtcSet = s := by simp only [State.rtcSet, set]

theorem State.rtcDst_due {p : PendDst} (set : s.bkp.pendDst = some p) (due : p.due * 32768 ≤ s.bkp.clock) :
    s.rtcDst.bkp = { s.bkp with
      cyc := s.bkp.cyc + min s.bkp.held (s.bkp.clock - p.due * 32768), held := 0, dst := p.fwd, pendDst := none,
      notes := if s.fwRuns then s.bkp.notes else s.bkp.notes ++ [(0x0806, 3, if p.fwd then 1 else 0, p.origin)] } ∧
    s.rtcDst.clk = s.clk ∧ s.rtcDst.cfg = s.cfg ∧ ∀ w ∈ s.rtcDst.host.waits, w.kind ≠ .timeDst := by
  simp -zeta only [State.rtcDst, set, due, if_true]
  extract_lets _ b s1
  obtain ⟨l, logged⟩ := State.logBkp_changes 0x0806 3 (bit p.fwd) p.origin { s with bkp := b }
  have e : s1 = _ := logged
  refine ⟨?_, ?_, ?_, fun w mem => ?_⟩
  · rw [State.endWaits_bkp, e]; rfl
  · rw [State.endWaits_clk, e]
  · rw [State.endWaits_cfg, e]
  · rw [State.endWaits_waits, List.mem_filter] at mem
    intro kind
    simp [kind] at mem

theorem State.rtcDst_early {p : PendDst} (set : s.bkp.pendDst = some p) (early : s.bkp.clock < p.due * 32768) : s.rtcDst = s := by
  simp only [State.rtcDst, set, Nat.not_le.2 early, if_false]

theorem State.rtcDst_none (set : s.bkp.pendDst = none) : s.rtcDst = s := by simp only [State.rtcDst, set]

end

/-- Settles O31, on the count of the `BKP` clock: that a calendar at its end counts on and that events are kept while no firmware
runs are the model's choices (log entries 163 and 162). -/
theorem calendarBoundaries : Obligations.CalendarBoundaries := by
  intro s t
  dsimp only
  refine ⟨fun p set due => ?_, fun p set early => congrArg Host.Outcome.next (State.rtcSet_early (s := s.advance t) set early),
    fun set => congrArg Host.Outcome.next (State.rtcSet_none (s := s.advance t) set), fun p set due => ?_,
    fun p set early => congrArg Host.Outcome.next (State.rtcDst_early (s := s.advance t) set early),
    fun set => congrArg Host.Outcome.next (State.rtcDst_none (s := s.advance t) set)⟩
  · obtain ⟨bkp, cfg, clk, waits⟩ := State.rtcSet_due (s := s.advance t) set due
    exact ⟨_, rfl, by rw [bkp], by rw [bkp], cfg, clk, waits⟩
  · obtain ⟨bkp, clk, cfg, waits⟩ := State.rtcDst_due (s := s.advance t) set due
    exact ⟨_, rfl, by rw [bkp], by rw [bkp], clk, cfg, waits⟩

/-! ## Alignment to network time, the end of the range, the count at a start (R338, R342, R343) -/

section

variable {s : State}

/-- A deviation beyond 100 µs, as it is compared. -/
theorem beyondAlign_iff (d : Int) : (decide (100000 < d) || decide (d < -100000)) = true ↔ 100000 < d.natAbs := by
  simp only [Bool.or_eq_true, decide_eq_true_eq]
  omega

theorem State.isMaster_of_lockedToNet (locked : s.lockedToNet = true) : s.bus.net.isMaster = false := by
  simp only [State.lockedToNet, Bool.and_eq_true, Bool.not_eq_true'] at locked
  exact locked.2

theorem State.rtcAlign_locked (runs : s.fwRuns = true) (locked : s.lockedToNet = true) (far : 100000 < s.calendarError.natAbs) :
    s.rtcAlign =
      if 1000000000 < s.calendarError.natAbs then
        ({ s with bkp := s.bkp.toCount (s.clk.base * 32768 / 1000000000) } : State).logNode 0x0807 3
          (twos 32 (clampI (-2147483648) 2147483647 (s.calendarError / 1000000))) 0
      else { s with bkp := s.bkp.toCount (s.clk.base * 32768 / 1000000000) } := by
  have beyond : (1000000000 < s.calendarError ∨ s.calendarError < -1000000000) ↔ 1000000000 < s.calendarError.natAbs := by omega
  simp only [State.rtcAlign, State.isMaster_of_lockedToNet locked, runs, locked, (beyondAlign_iff _).2 far, beyond, Bool.and_false,
    Bool.false_and, Bool.true_and, Bool.false_eq_true, if_false, if_true]

theorem State.rtcAlign_master (runs : s.fwRuns = true) (master : s.bus.net.isMaster = true) (inRange : s.bkp.range = false)
    (far : 100000 < s.calendarError.natAbs) : s.rtcAlign = s.masterAlign s.calendarError := by
  simp only [State.rtcAlign, runs, master, inRange, (beyondAlign_iff _).2 far, Bool.not_false, Bool.true_and, if_true]

theorem State.rtcAlign_none (h : s.fwRuns = false ∨ (s.bus.net.isMaster = false ∧ s.lockedToNet = false) ∨
    s.calendarError.natAbs ≤ 100000) : s.rtcAlign = s := by
  unfold State.rtcAlign
  obtain still | ⟨away, free⟩ | close := h
  · simp [still]
  · simp [away, free]
  · have within : (decide (100000 < s.calendarError) || decide (s.calendarError < -100000)) = false :=
      Bool.eq_false_iff.2 fun beyond => absurd ((beyondAlign_iff _).1 beyond) (Nat.not_lt.2 close)
    simp only [within, Bool.and_false, Bool.false_eq_true, if_false]

theorem State.masterAlign_slew {d : Int} (near : d.natAbs ≤ 1000000) : s.masterAlign d =
    { s with clk := { s.clk with slew := -d, slewTime := 1000000000, ratePpb := 10 * s.bkp.trim } } := if_pos near

theorem State.masterAlign_step {d : Int} (far : 1000000 < d.natAbs) : s.masterAlign d = s.stepTime (-d) := if_neg (Nat.not_le.2 far)

theorem State.trimMeasured_due {a : Nat} (err : Int) (since : s.bus.net.trimSince = some a) (due : a + 1024000000000 ≤ s.clk.flow)
    (runs : s.fwRuns = true) (locked : s.bus.net.state = 2) : s.trimMeasured err = { s with
      bus := { s.bus with net := { s.bus.net with trimSince := some s.clk.flow } },
      bkp := if s.bkp.autoTrim then { s.bkp with trim := clampI (-20000) 20000 (s.bkp.trim - err) } else s.bkp } := by
  have late : a + secs 1024 ≤ s.clk.flow := due
  unfold State.trimMeasured
  rw [since]
  dsimp only
  rw [if_pos (by simp [runs, locked, late])]
  split <;> rfl

theorem State.trimMeasured_other (err : Int) (h : s.bus.net.trimSince = none ∨ s.fwRuns = false ∨ s.bus.net.state ≠ 2) :
    s.trimMeasured err = s := by
  unfold State.trimMeasured
  split
  case h_1 a since =>
    obtain none_ | still | free := h
    · exact absurd (since.symm.trans none_) (by simp)
    · simp [still]
    · simp [free]
  case h_2 => rfl

theorem State.trimMeasured_early {a : Nat} (err : Int) (since : s.bus.net.trimSince = some a)
    (early : s.clk.flow < a + 1024000000000) : s.trimMeasured err = s := by
  have before : ¬ a + secs 1024 ≤ s.clk.flow := Nat.not_le.2 early
  simp only [State.trimMeasured, since, before, decide_false, Bool.and_false, Bool.false_eq_true, if_false]

theorem State.takeUtc_due (run : s.running = true) (first : s.clk.fromRtc = false) (own : s.bus.net.taken = false)
    (late : s.pwr.startAt + s.bkp.clock % 32768 * 1000000000 / 32768 ≤ s.clk.now) : s.takeUtc.clk.fromRtc = true ∧
    s.takeUtc.clk.fromValid = s.bkp.timeValid ∧
    s.takeUtc.clk.base = s.bkp.cyc / 32768 * 1000000000 + s.bkp.clock % 32768 * 1000000000 / 32768 ∧ s.takeUtc.bkp = s.bkp := by
  simp only [State.takeUtc, run, first, own, late, Bool.not_false, decide_true, Bool.and_true, if_true, State.shiftTime, moved]
  refine ⟨trivial, trivial, ?_, trivial⟩
  omega

theorem State.takeUtc_other (h : s.running = false ∨ s.clk.fromRtc = true ∨ s.bus.net.taken = true ∨
    s.clk.now < s.pwr.startAt + s.bkp.clock % 32768 * 1000000000 / 32768) : s.takeUtc = s := by
  obtain h | h | h | h := h
  · simp [State.takeUtc, h]
  · simp [State.takeUtc, h]
  · simp [State.takeUtc, h]
  · simp [State.takeUtc, Nat.not_le.2 h]

end

/-- Settles O32. How the active master brings its time base onto its calendar, that pending commands wait for the next boundary of
the new count and from which instant the first boundary counts are the model's choices (log entries 128, 129 and 164), as is the
sign of the logged difference, network time less calendar (log entry 67). -/
theorem calendarAlignment : Obligations.CalendarAlignment := by
  intro s t
  dsimp only
  refine ⟨fun runs locked far near => congrArg Host.Outcome.next ?_, fun runs locked far => congrArg Host.Outcome.next ?_,
    fun runs master inRange far near => congrArg Host.Outcome.next
      ((State.rtcAlign_master (s := s.advance t) runs master inRange far).trans (State.masterAlign_slew near)),
    fun runs master inRange far => ⟨_, rfl, ?_⟩, fun h => congrArg Host.Outcome.next (State.rtcAlign_none (s := s.advance t) h),
    fun e a0 since due runs locked =>
      ⟨_, congrArg Host.Outcome.next (State.trimMeasured_due (s := s.advance t) e since due runs locked), rfl, rfl⟩,
    fun e h => congrArg Host.Outcome.next (State.trimMeasured_other (s := s.advance t) e h),
    fun e a0 since early => congrArg Host.Outcome.next (State.trimMeasured_early (s := s.advance t) e since early),
    fun inRange ended runs => congrArg Host.Outcome.next ?_, fun inRange ended still => congrArg Host.Outcome.next ?_,
    fun h => congrArg Host.Outcome.next (if_neg ?_),
    fun run first own late => ⟨_, rfl, State.takeUtc_due (s := s.advance t) run first own late⟩,
    fun h => congrArg Host.Outcome.next (State.takeUtc_other (s := s.advance t) h)⟩
  · exact (State.rtcAlign_locked (s := s.advance t) runs locked far).trans (if_neg (Nat.not_lt.2 near))
  · exact (State.rtcAlign_locked (s := s.advance t) runs locked (by omega)).trans (if_pos far)
  · have aligned := (State.rtcAlign_master (s := s.advance t) runs master inRange (by omega)).trans (State.masterAlign_step far)
    obtain ⟨clk, -⟩ := (s.advance t).stepTime_clk_bus (-(s.advance t).calendarError)
    obtain ⟨bkp, cfg⟩ := (s.advance t).stepTime_keeps (-(s.advance t).calendarError)
    rw [aligned, clk, bkp, cfg]
    refine ⟨?_, rfl, rfl, rfl⟩
    have calendar : (s.advance t).calendarError ≤ (s.advance t).clk.base := Int.sub_le_self _ (Int.natCast_nonneg _)
    dsimp only
    omega
  · exact (if_pos (by simp only [inRange, ended]; rfl)).trans (State.logBkp_running _ _ _ _ runs)
  · exact (if_pos (by simp only [inRange, ended]; rfl)).trans (State.logBkp_kept _ _ _ _ still)
  · obtain range | before := h
    · simp [range]
    · simp [Nat.not_le.2 before]

end Sys2Proof.Machine
end

section
/-!
PROOFS. Oscillator, supply, periodic wake and event inputs of the backup domain (R331 to R333, R345 to R348).
-/

namespace Sys2Proof.Machine

open Sys2Proof

/-! ## Oscillator and supply -/

section

variable {s : State} {t : Nat}

/-- A crystal that fails is an event of the backup domain (R333). -/
theorem exec_oscFail_crystal (crystal : (s.advance t).bkp.onRc = false) : exec (.oscFail t) s =
    .next (({ s.advance t with bkp := { (s.advance t).bkp with onRc := true, oscFail := true, timeValid := false } } : State).logBkp
      0x0802 5 (s.advance t).bkp.vbatMv 0) :=
  congrArg Host.Outcome.next (if_neg (by rw [crystal]; decide))

theorem exec_oscFail_rc (rc : (s.advance t).bkp.onRc = true) : exec (.oscFail t) s = .next (s.advance t) :=
  congrArg Host.Outcome.next (if_pos rc)

/-- A VBAT first found below its threshold is an event of the backup domain (R331). -/
theorem exec_vbatLow_first {mv : Nat} (low : mv < vbatLowMv) (first : (s.advance t).bkp.vbatLow = false) : exec (.vbatLow t mv) s =
    .next (({ s.advance t with bkp := { (s.advance t).bkp with vbatMv := mv, vbatLow := true } } : State).logBkp 0x0803 5 mv 0) := by
  have noted : (decide (mv < vbatLowMv) && !(s.advance t).bkp.vbatLow) = true := by simp [low, first]
  exact congrArg Host.Outcome.next ((if_pos noted).trans (by rw [decide_eq_true low]))

theorem exec_vbatLow_other {mv : Nat} (h : mv < vbatLowMv → (s.advance t).bkp.vbatLow = true) : exec (.vbatLow t mv) s =
    .next { s.advance t with bkp := { (s.advance t).bkp with vbatMv := mv, vbatLow := decide (mv < vbatLowMv) } } :=
  congrArg Host.Outcome.next (if_neg (by simpa using h))

/-! ## Periodic wake (R345) -/

theorem State.wakeExpire_due {d : Nat} (set : s.bkp.wakeDue = some d) (due : d ≤ s.bkp.age) : s.wakeExpire =
    ({ s with bkp := { s.bkp with wake := true, wakeDue := some (d + s.bkp.interval * wakeUnit) } } : State).wake := by
  simp only [State.wakeExpire, set, due, if_true]

theorem State.wakeExpire_none (h : s.bkp.wakeDue = none ∨ ∃ d, s.bkp.wakeDue = some d ∧ s.bkp.age < d) : s.wakeExpire = s := by
  obtain none_ | ⟨d, set, early⟩ := h
  · simp only [State.wakeExpire, none_]
  · simp only [State.wakeExpire, set, Nat.not_le.2 early, if_false]

end

/-! ## Edges of the event inputs (R346, R347) -/

section

variable {s : State} {e : Nat} {level : Bool} {first : Nat}

/-- The input `e` after an edge that its setting admits. -/
def EvtSt.stamped (x : EvtSt) (st : Stamp) (level : Bool) : EvtSt := { x with level }.push st

theorem State.evtEdge_early (h : s.bkp.down = true ∨ s.clk.now < first + (s.bkp.evts.getD e {}).filter) :
    s.evtEdge e level first = s :=
  if_pos (by simpa using h)

variable (up : s.bkp.down = false) (late : first + (s.bkp.evts.getD e {}).filter ≤ s.clk.now)
include up late

theorem State.evtEdge_held : s.evtEdge e level first =
    if (s.bkp.evts.getD e {}).takes level then
      let u : State := { s with bkp := { s.bkp.modEvt e
        (fun y => { y with level }.push { ts := s.bkp.tsOfUs (s.bkpUsAt first), rising := level }) with
        evtWake := s.bkp.evtWake || tst (s.bkp.evts.getD e {}).cfg.toNat 8 } }
      if tst (s.bkp.evts.getD e {}).cfg.toNat 8 then u.wake else u
    else { s with bkp := s.bkp.modEvt e (fun y => { y with level }) } := by
  have held : ¬ (s.bkp.down || decide (s.clk.now < first + (s.bkp.evts.getD e {}).filter)) = true := by
    simp only [up, Nat.not_lt.2 late, decide_false, Bool.or_false, Bool.false_eq_true, not_false_eq_true]
  have twice (st : Stamp) : (s.bkp.modEvt e (fun y => { y with level })).modEvt e (fun y => y.push st) =
      s.bkp.modEvt e (fun y => { y with level }.push st) :=
    congrArg (fun l => { s.bkp with evts := l }) (modAt_modAt s.bkp.evts e _ _)
  unfold State.evtEdge
  dsimp only
  rw [if_neg held, twice]
  rfl

theorem State.evtEdge_ignored (other : (s.bkp.evts.getD e {}).takes level = false) :
    s.evtEdge e level first = { s with bkp := s.bkp.modEvt e (fun y => { y with level }) } := by
  rw [State.evtEdge_held up late, if_neg (by rw [other]; decide)]

/-- An edge that is admitted is stamped; with the wake option set it wakes a node in STANDBY. -/
theorem State.evtEdge_taken (takes : (s.bkp.evts.getD e {}).takes level = true) :
    (s.evtEdge e level first).bkp = { s.bkp.modEvt e
        (fun y => { y with level }.push { ts := s.bkp.tsOfUs (s.bkpUsAt first), rising := level }) with
        evtWake := s.bkp.evtWake || (s.bkp.evts.getD e {}).cfg.getLsbD 8 } ∧
    ((s.bkp.evts.getD e {}).cfg.getLsbD 8 = true → s.pwr.state = .standby → (s.evtEdge e level first).pwr.state = .starting) ∧
    ((s.bkp.evts.getD e {}).cfg.getLsbD 8 = false ∨ s.pwr.state ≠ .standby → (s.evtEdge e level first).pwr = s.pwr) := by
  rw [State.evtEdge_held up late, if_pos takes]
  extract_lets _ u
  have option_ : tst (s.bkp.evts.getD e {}).cfg.toNat 8 = (s.bkp.evts.getD e {}).cfg.getLsbD 8 := rfl
  rw [option_]
  obtain wakes | quiet := Bool.eq_false_or_eq_true ((s.bkp.evts.getD e {}).cfg.getLsbD 8)
  · rw [if_pos wakes]
    refine ⟨(State.wake_bkp u).trans rfl, fun _ standby => (State.wake_standby (s := u) standby).1, fun h => ?_⟩
    obtain h | other := h
    · exact absurd (wakes.symm.trans h) (by decide)
    · rw [State.wake_other (s := u) other]
  · rw [if_neg (by rw [quiet]; decide)]
    exact ⟨rfl, fun h => absurd (quiet.symm.trans h) (by decide), fun _ => rfl⟩

end

/-- One place of a list changed, as a map over the places. -/
theorem modAt_eq_mapIdx {α : Type} (l : List α) (i : Nat) (f : α → α) : modAt l i f = l.mapIdx (fun j x => if j = i then f x else x) := by
  induction l generalizing i with
  | nil => rfl
  | cons x r ih =>
    cases i with
    | zero => simpa [modAt] using List.ext_getElem (by simp) (by simp)
    | succ i => simp [modAt, ih]

/-! ## The stacks are drained (R348) -/

@[simp] theorem LogSt.active_setActive (l : LogSt) (p : List Rec) : (l.setActive p).active = p := by
  cases h : l.activeB <;> simp [LogSt.setActive, LogSt.active, h]

@[simp] theorem LogSt.closed_setActive (l : LogSt) (p : List Rec) : (l.setActive p).closed = l.closed := by
  unfold LogSt.setActive; split <;> rfl

/-- A record of severity below 6 with room before the fill trigger joins the active pail, and no trigger acts. -/
theorem LogSt.record_calm {l : LogSt} {r : Rec} (isOpen : l.closed = false) (mild : r.sev < 6) (room : l.active.length + 1 < 48)
    (now from_ : Nat) : l.record r now from_ = (l.setActive (l.active ++ [{ r with entered := now }]), true) := by
  have entered : l.enter { r with entered := now } now from_ = (l.setActive (l.active ++ [{ r with entered := now }]), true) :=
    if_neg (by simp only [Bool.and_eq_true, decide_eq_true_eq]; omega)
  have fill : (l.setActive (l.active ++ [{ r with entered := now }])).active.length = l.active.length + 1 := by
    rw [LogSt.active_setActive, List.length_append, List.length_singleton]
  have calm : ¬ 6 ≤ r.sev := Nat.not_le.2 mild
  simp only [LogSt.record, isOpen, entered, calm, fill, Nat.not_le.2 room, decide_false, Bool.and_false, Bool.or_false, Bool.false_eq_true,
    if_false]

/-- Stamps that wait in the stacks of the event inputs. -/
def stamps (l : List EvtSt) : Nat := (l.map (fun e => e.stack.length)).sum

theorem stamps_eq_zero {l : List EvtSt} (h : stamps l = 0) : ∀ e ∈ l, e.stack = [] := fun _ mem =>
  List.eq_nil_of_length_eq_zero (List.sum_eq_zero_iff.1 h _ (List.mem_map_of_mem mem))

/-- Taking one stamp off a stack that has one leaves one less. -/
theorem stamps_drop {l : List EvtSt} {i : Nat} {x : Stamp} (first : (l.getD i {}).stack.head? = some x) :
    stamps (modAt l i (fun y => { y with stack := y.stack.drop 1 })) + 1 = stamps l := by
  induction l generalizing i with
  | nil => simp at first
  | cons e r ih =>
    cases i with
    | zero =>
      obtain ⟨tail, stack⟩ := List.head?_eq_some_iff.1 (show e.stack.head? = some x from first)
      simp [modAt, stamps, stack]
      omega
    | succ i =>
      have rest : stamps (modAt r i (fun y => { y with stack := y.stack.drop 1 })) + 1 = stamps r := ih first
      simp only [modAt, stamps, List.map_cons, List.sum_cons] at rest ⊢
      omega

/-- The earlier of the stamp found so far and the oldest one of the next stack. -/
def earlierStamp (acc : Option (Nat × Stamp)) (p : EvtSt × Nat) : Option (Nat × Stamp) :=
  match p.1.stack.head?, acc with
  | some x, none => some (p.2, x)
  | some x, some (i, y) => if tsUs x.ts < tsUs y.ts then some (p.2, x) else some (i, y)
  | none, _ => acc

theorem BkpSt.firstStamp_eq (b : BkpSt) : b.firstStamp = b.evts.zipIdx.foldl earlierStamp none := rfl

theorem earlierStamp_some {acc : Option (Nat × Stamp)} {p : EvtSt × Nat} {i : Nat} {x : Stamp} (h : earlierStamp acc p = some (i, x)) :
    acc = some (i, x) ∨ p.1.stack.head? = some x ∧ p.2 = i := by
  cases head : p.1.stack.head? with
  | none => exact .inl (by simpa only [earlierStamp, head] using h)
  | some y =>
    cases acc with
    | none =>
      simp only [earlierStamp, head, Option.some.injEq, Prod.mk.injEq] at h
      exact .inr ⟨congrArg some h.2, h.1⟩
    | some q =>
      simp only [earlierStamp, head] at h
      split at h
      · simp only [Option.some.injEq, Prod.mk.injEq] at h
        exact .inr ⟨congrArg some h.2, h.1⟩
      · exact .inl h

/-- What the search finds heads one of the stacks searched, or stood before. -/
theorem foldl_earlierStamp_some {l : List (EvtSt × Nat)} {acc : Option (Nat × Stamp)} {i : Nat} {x : Stamp}
    (h : l.foldl earlierStamp acc = some (i, x)) : acc = some (i, x) ∨ ∃ p ∈ l, p.2 = i ∧ p.1.stack.head? = some x := by
  induction l generalizing acc with
  | nil => exact .inl h
  | cons p r ih =>
    obtain found | ⟨q, mem, place⟩ := ih h
    · obtain kept | ⟨head, place⟩ := earlierStamp_some found
      · exact .inl kept
      · exact .inr ⟨p, List.mem_cons_self, place, head⟩
    · exact .inr ⟨q, List.mem_cons_of_mem _ mem, place⟩

/-- The search finds nothing only where every stack is empty. -/
theorem foldl_earlierStamp_none {l : List (EvtSt × Nat)} {acc : Option (Nat × Stamp)} (h : l.foldl earlierStamp acc = none) :
    acc = none ∧ ∀ p ∈ l, p.1.stack = [] := by
  induction l generalizing acc with
  | nil => exact ⟨h, by simp⟩
  | cons p r ih =>
    obtain ⟨found, rest⟩ := ih h
    unfold earlierStamp at found
    split at found
    · simp at found
    · split at found <;> simp at found
    · exact ⟨found, List.forall_mem_cons.2 ⟨List.head?_eq_none_iff.1 ‹_›, rest⟩⟩

theorem BkpSt.firstStamp_some {b : BkpSt} {i : Nat} {x : Stamp} (h : b.firstStamp = some (i, x)) :
    (b.evts.getD i {}).stack.head? = some x := by
  obtain none_ | ⟨p, mem, rfl, head⟩ := foldl_earlierStamp_some (b.firstStamp_eq ▸ h)
  · simp at none_
  · have place := List.mk_mem_zipIdx_iff_getElem?.1 mem
    rw [List.getD_eq_getElem?_getD, place]
    exact head

theorem BkpSt.firstStamp_none {b : BkpSt} (h : b.firstStamp = none) : ∀ e ∈ b.evts, e.stack = [] := by
  obtain ⟨-, empty⟩ := foldl_earlierStamp_none (b.firstStamp_eq ▸ h)
  intro e mem
  obtain ⟨i, lt, rfl⟩ := List.getElem_of_mem mem
  exact empty (b.evts[i], i) (List.mk_mem_zipIdx_iff_getElem?.2 (List.getElem?_eq_getElem lt))

theorem mem_modAt {α : Type} {l : List α} {i : Nat} {f : α → α} {x : α} (h : x ∈ modAt l i f) : x ∈ l ∨ ∃ y ∈ l, x = f y := by
  induction l generalizing i with
  | nil => exact .inl h
  | cons a r ih =>
    cases i with
    | zero =>
      obtain rfl | mem := List.mem_cons.1 h
      · exact .inr ⟨a, List.mem_cons_self, rfl⟩
      · exact .inl (List.mem_cons_of_mem _ mem)
    | succ i =>
      obtain rfl | mem := List.mem_cons.1 h
      · exact .inl List.mem_cons_self
      · obtain old | ⟨y, old, rfl⟩ := ih mem
        · exact .inl (List.mem_cons_of_mem _ old)
        · exact .inr ⟨y, List.mem_cons_of_mem _ old, rfl⟩

/-- With room in the active pail for a record of each, as many steps as there are stamps empty the stacks. -/
theorem drainStamps_empties (n : Nat) {s : State} (few : stamps s.bkp.evts ≤ n) (isOpen : s.log.closed = false)
    (room : s.log.active.length + n < 48) (mild : ∀ e ∈ s.bkp.evts, e.cfg.toNat / 4096 % 8 < 6) :
    (∀ e ∈ (drainStamps n s).bkp.evts, e.stack = []) ∧ (drainStamps n s).bkp.evts.length = s.bkp.evts.length ∧
      (drainStamps n s).cfg = s.cfg := by
  induction n generalizing s with
  | zero => exact ⟨stamps_eq_zero (Nat.le_zero.1 few), rfl, rfl⟩
  | succ n ih =>
    unfold drainStamps
    split
    case h_2 none_ => exact ⟨BkpSt.firstStamp_none none_, rfl, rfl⟩
    case h_1 e x found =>
      have head := BkpSt.firstStamp_some found
      have has : e < s.bkp.evts.length := by
        by_contra le
        rw [List.getD_eq_default _ _ (Nat.not_lt.1 le)] at head
        simp at head
      have calm : (s.bkp.evts.getD e {}).cfg.toNat / 4096 % 8 < 6 := mild _ (by
        rw [List.getD_eq_getElem _ _ has]
        exact List.getElem_mem has)
      extract_lets cfg r
      rw [LogSt.record_calm isOpen (r := r) calm (by omega)]
      dsimp only
      rw [if_pos rfl]
      have drop := stamps_drop head
      obtain ⟨empty, length, kept⟩ := ih (s := { s with
          log := s.log.setActive (s.log.active ++ [{ r with entered := s.clk.now }]),
          bkp := { s.bkp with evts := modAt s.bkp.evts e (fun y => { y with stack := y.stack.drop 1 }) } })
        (by dsimp only; omega) (by rw [LogSt.closed_setActive, isOpen])
        (by rw [LogSt.active_setActive, List.length_append, List.length_singleton]; omega) (fun y mem => by
          obtain old | ⟨z, old, rfl⟩ := mem_modAt mem
          · exact mild y old
          · exact mild z old)
      exact ⟨empty, length.trans (modAt_length _ _ _), kept⟩

/-- One event input's count of lost edges is logged and starts again. -/
def State.lostLogged (s : State) (e : Nat) : State :=
  if (s.bkp.evts.getD e {}).lost = 0 then s
  else ({ s with bkp := { s.bkp with evts := modAt s.bkp.evts e (fun y => { y with lost := 0 }) } } : State).logEv 0x0809 4 16 e 0xFFFF
    (s.bkp.evts.getD e {}).lost 0

theorem State.evtDrain_eq (s : State) : s.evtDrain = (drainStamps 32 s).each 4 State.lostLogged := rfl

theorem State.lostLogged_cfg (s : State) (e : Nat) : (s.lostLogged e).cfg = s.cfg := by
  unfold State.lostLogged; split <;> rfl

theorem State.lostLogged_evts (s : State) (e : Nat) :
    (s.lostLogged e).bkp.evts = modAt s.bkp.evts e (fun y => { y with lost := 0 }) := by
  unfold State.lostLogged
  split
  case isTrue none_ => exact (modAt_getD s.bkp.evts e {}).symm.trans (modAt_congr {} fun _ => congrArg (fun n => { s.bkp.evts.getD e {} with lost := n }) none_)
  case isFalse => rfl

/-- After the drain the first `n` inputs have lost nothing, and every stack is as it was left. -/
theorem State.eachLostLogged (s : State) (n : Nat) (le : n ≤ s.bkp.evts.length) (empty : ∀ e ∈ s.bkp.evts, e.stack = []) :
    (s.each n State.lostLogged).cfg = s.cfg ∧ (s.each n State.lostLogged).bkp.evts.length = s.bkp.evts.length ∧
      (∀ e ∈ (s.each n State.lostLogged).bkp.evts, e.stack = []) ∧
      ∀ e < n, ((s.each n State.lostLogged).bkp.evts.getD e {}).lost = 0 := by
  induction n with
  | zero => exact ⟨rfl, rfl, empty, fun e lt => absurd lt (Nat.not_lt_zero e)⟩
  | succ n ih =>
    obtain ⟨cfg, length, emptied, lost⟩ := ih (Nat.le_of_succ_le le)
    rw [State.each_succ]
    refine ⟨(State.lostLogged_cfg _ n).trans cfg, ?_, fun e mem => ?_, fun e lt => ?_⟩
    · rw [State.lostLogged_evts, modAt_length, length]
    · rw [State.lostLogged_evts] at mem
      obtain old | ⟨z, old, rfl⟩ := mem_modAt mem
      · exact emptied e old
      · exact emptied z old
    · rw [State.lostLogged_evts]
      obtain rfl | ne := Decidable.em (e = n)
      · rw [getD_modAt_self _ _ (by omega)]
      · rw [getD_modAt_ne _ _ (Ne.symm ne)]
        exact lost e (by omega)

/-- Four stacks of at most eight stamps are drained, and the counts with them. -/
theorem State.evtDrain_empties {s : State} (isOpen : s.log.closed = false) (room : s.log.active.length + 36 < 48)
    (four : s.bkp.evts.length = 4) (calm : ∀ e ∈ s.bkp.evts, e.cfg.toNat / 4096 % 8 < 6 ∧ e.stack.length ≤ 8) :
    (∀ e < 4, (s.evtDrain.bkp.evts.getD e {}).lost = 0 ∧ (s.evtDrain.bkp.evts.getD e {}).stack = []) ∧ s.evtDrain.cfg = s.cfg := by
  have few : stamps s.bkp.evts ≤ 32 := by
    have bound := List.sum_le_card_nsmul (s.bkp.evts.map (fun e => e.stack.length)) 8 (by
      intro n mem
      obtain ⟨e, has, rfl⟩ := List.mem_map.1 mem
      exact (calm e has).2)
    rw [List.length_map, four] at bound
    exact bound
  obtain ⟨empty, length, kept⟩ := drainStamps_empties 32 few isOpen (by omega) (fun e mem => (calm e mem).1)
  obtain ⟨cfg, length4, emptied, lost⟩ := State.eachLostLogged (drainStamps 32 s) 4 (by omega) empty
  rw [State.evtDrain_eq]
  refine ⟨fun e lt => ⟨lost e lt, ?_⟩, cfg.trans kept⟩
  have has : e < ((drainStamps 32 s).each 4 State.lostLogged).bkp.evts.length := by omega
  rw [List.getD_eq_getElem _ _ has]
  exact emptied _ (List.getElem_mem has)

/-- Settles O33. That what happens while no firmware runs is kept, that VBAT_LOW is logged when first found low only and the pace of
the periodic wake are the model's choices (log entries 162, 67 and 131). -/
theorem backupDomainEvents : Obligations.BackupDomainEvents := by
  intro s t
  dsimp only
  refine ⟨fun crystal runs => (exec_oscFail_crystal crystal).trans (congrArg Host.Outcome.next (State.logBkp_running _ _ _ _ runs)),
    fun crystal still => (exec_oscFail_crystal crystal).trans (congrArg Host.Outcome.next (State.logBkp_kept _ _ _ _ still)),
    exec_oscFail_rc, rfl, fun mv h => exec_vbatLow_other h,
    fun mv low first runs => (exec_vbatLow_first low first).trans (congrArg Host.Outcome.next (State.logBkp_running _ _ _ _ runs)),
    fun mv low first still => (exec_vbatLow_first low first).trans (congrArg Host.Outcome.next (State.logBkp_kept _ _ _ _ still)),
    fun mv down => congrArg Host.Outcome.next (if_pos down), fun mv up => congrArg Host.Outcome.next (if_neg ?_),
    fun d set due awake => congrArg Host.Outcome.next
      ((State.wakeExpire_due (s := s.advance t) set due).trans (State.wake_other awake)),
    fun d set due standby => ?_, fun h => congrArg Host.Outcome.next (State.wakeExpire_none (s := s.advance t) h),
    fun e first level lt four up takes late => ?_, fun e first level lt up other late => ?_,
    fun e first level lt h => (guardUnit_next (decide_eq_true lt)).trans
      (congrArg Host.Outcome.next (State.evtEdge_early (s := s.advance t) h)),
    fun runs isOpen room four calm => ?_, fun still => congrArg Host.Outcome.next (if_neg (by rw [still]; decide))⟩
  · exact fun down => absurd (up.symm.trans down) (by decide)
  · have expired := State.wakeExpire_due (s := s.advance t) set due
    obtain ⟨state, -, -, running, -, -, bkp⟩ := State.wake_standby (s := { s.advance t with bkp := { (s.advance t).bkp with
      wake := true, wakeDue := some (d + (s.advance t).bkp.interval * wakeUnit) } }) standby
    exact ⟨_, congrArg Host.Outcome.next expired, state, running, bkp⟩
  · obtain ⟨bkp, wakes, quiet⟩ := State.evtEdge_taken (s := s.advance t) up late takes
    refine ⟨_, guardUnit_next (decide_eq_true lt), ?_, by rw [bkp], wakes, quiet, fun i has ne => ?_⟩
    · rw [bkp]
      exact getD_modAt_self _ _ (four.symm ▸ lt)
    · rw [bkp]
      exact getD_modAt_ne _ _ (Ne.symm ne)
  · refine (guardUnit_next (decide_eq_true lt)).trans (congrArg Host.Outcome.next ?_)
    rw [State.evtEdge_ignored (s := s.advance t) up late other, BkpSt.modEvt, modAt_eq_mapIdx]
  · obtain ⟨drained, cfg⟩ := State.evtDrain_empties (s := s.advance t) isOpen room four calm
    exact ⟨_, congrArg Host.Outcome.next (if_pos runs), drained, cfg⟩

end Sys2Proof.Machine
end

section
/-!
PROOFS. The slot a record takes, the log of an NVM controller that goes on, and the opcodes of the event recorder (chapter 13).
-/

namespace Sys2Proof.Machine

open Sys2Proof

/-! ## The slot of a record (R360) -/

theorem le_freeSlot (l : List (Nat × Rec)) (i : Nat) : i ≤ freeSlot l i := by
  induction l generalizing i with
  | nil => exact Nat.le_refl i
  | cons x r ih =>
    unfold freeSlot
    split
    · exact (Nat.le_succ i).trans (ih (i + 1))
    · exact Nat.le_refl i

/-- The free slot is one that no record holds. -/
theorem freeSlot_free {l : List (Nat × Rec)} {i : Nat} (rising : l.Pairwise (fun x y => x.1 < y.1)) (above : ∀ p ∈ l, i ≤ p.1) :
    ∀ p ∈ l, p.1 ≠ freeSlot l i := by
  induction l generalizing i with
  | nil => exact fun p mem => absurd mem List.not_mem_nil
  | cons x r ih =>
    obtain ⟨first, rest⟩ := List.pairwise_cons.1 rising
    unfold freeSlot
    split
    case isTrue taken =>
      have next := ih (i := i + 1) rest fun p mem => taken ▸ first p mem
      refine List.forall_mem_cons.2 ⟨?_, next⟩
      have := le_freeSlot r (i + 1)
      omega
    case isFalse free =>
      have low := above x List.mem_cons_self
      refine List.forall_mem_cons.2 ⟨free, fun p mem => ?_⟩
      have := first p mem
      omega

/-- A record put into a slot leaves the records in other slots. -/
theorem mem_putSlot {l : List (Nat × Rec)} {i : Nat} {p : Nat × Rec} (r : Rec) (mem : p ∈ l) (other : p.1 ≠ i) : p ∈ putSlot l i r := by
  induction l with
  | nil => exact absurd mem List.not_mem_nil
  | cons x l ih =>
    obtain ⟨k, y⟩ := x
    unfold putSlot
    obtain rfl | rest := List.mem_cons.1 mem
    · rw [if_neg other]
      split
      · exact List.mem_cons_of_mem _ List.mem_cons_self
      · exact List.mem_cons_self
    · split
      · exact List.mem_cons_of_mem _ rest
      · split
        · exact List.mem_cons_of_mem _ (List.mem_cons_of_mem _ rest)
        · exact List.mem_cons_of_mem _ (ih rest)

/-- The older of the record found so far and the next, among those of severity at most `sv`. -/
def olderSlot (n sv : Nat) (acc : Option (Nat × Nat)) (p : Nat × Rec) : Option (Nat × Nat) :=
  if p.2.sev ≤ sv then
    match acc with
    | none => some (p.1, behind n p.2.seq)
    | some (_, b) => if b < behind n p.2.seq then some (p.1, behind n p.2.seq) else acc
  else acc

theorem oldestSlot_eq (n sv : Nat) (l : List (Nat × Rec)) : oldestSlot n sv l = l.foldl (olderSlot n sv) none := rfl

/-- What the search for the oldest record says of the records it has gone through. -/
def IsOldest (n sv : Nat) (l : List (Nat × Rec)) : Option (Nat × Nat) → Prop
  | none => ∀ p ∈ l, sv < p.2.sev
  | some (j, b) => (∃ old, (j, old) ∈ l ∧ old.sev ≤ sv ∧ b = behind n old.seq) ∧ ∀ p ∈ l, p.2.sev ≤ sv → behind n p.2.seq ≤ b

theorem olderSlot_isOldest {n sv : Nat} {l : List (Nat × Rec)} {acc : Option (Nat × Nat)} (h : IsOldest n sv l acc) (p : Nat × Rec) :
    IsOldest n sv (l ++ [p]) (olderSlot n sv acc p) := by
  unfold olderSlot
  by_cases low : p.2.sev ≤ sv
  · rw [if_pos low]
    cases acc with
    | none =>
      refine ⟨⟨p.2, by simp, low, rfl⟩, fun q mem sevq => ?_⟩
      obtain old | rfl := List.mem_append.1 mem |>.imp id List.mem_singleton.1
      · exact absurd sevq (Nat.not_le.2 (h q old))
      · exact Nat.le_refl _
    | some a =>
      obtain ⟨j, b⟩ := a
      obtain ⟨⟨old, mem, sev, rfl⟩, least⟩ := h
      dsimp only
      split
      · refine ⟨⟨p.2, by simp, low, rfl⟩, fun q memq sevq => ?_⟩
        obtain older | rfl := List.mem_append.1 memq |>.imp id List.mem_singleton.1
        · exact (least q older sevq).trans (Nat.le_of_lt ‹_›)
        · exact Nat.le_refl _
      · refine ⟨⟨old, List.mem_append_left _ mem, sev, rfl⟩, fun q memq sevq => ?_⟩
        obtain older | rfl := List.mem_append.1 memq |>.imp id List.mem_singleton.1
        · exact least q older sevq
        · exact Nat.not_lt.1 ‹_›
  · rw [if_neg low]
    cases acc with
    | none =>
      intro q memq
      obtain older | rfl := List.mem_append.1 memq |>.imp id List.mem_singleton.1
      · exact h q older
      · exact Nat.not_le.1 low
    | some a =>
      obtain ⟨j, b⟩ := a
      obtain ⟨⟨old, mem, sev, rfl⟩, least⟩ := h
      refine ⟨⟨old, List.mem_append_left _ mem, sev, rfl⟩, fun q memq sevq => ?_⟩
      obtain older | rfl := List.mem_append.1 memq |>.imp id List.mem_singleton.1
      · exact least q older sevq
      · exact absurd sevq low

/-- The search gives the slot of the oldest record of severity at most `sv`, or there is none. -/
theorem oldestSlot_isOldest (n sv : Nat) (l : List (Nat × Rec)) : IsOldest n sv l (oldestSlot n sv l) := by
  have go : ∀ (r l : List (Nat × Rec)) (acc : Option (Nat × Nat)), IsOldest n sv l acc →
      IsOldest n sv (l ++ r) (r.foldl (olderSlot n sv) acc) := by
    intro r
    induction r with
    | nil => intro l acc h; simpa using h
    | cons p r ih =>
      intro l acc h
      have := ih (l ++ [p]) _ (olderSlot_isOldest h p)
      rwa [List.append_assoc, List.singleton_append] at this
  rw [oldestSlot_eq]
  exact go l [] none fun p mem => absurd mem List.not_mem_nil

section

variable {acc : ChurnAcc} {r : Rec}

theorem churnOne_free (free : freeSlot acc.slots 0 < 49152) : churnOne acc r =
    { acc with slots := putSlot acc.slots (freeSlot acc.slots 0) { r with seq := acc.next }, next := seqAfter acc.next } := if_pos free

theorem churnOne_replaces {j b : Nat} (full : 49152 ≤ freeSlot acc.slots 0) (oldest : oldestSlot acc.next r.sev acc.slots = some (j, b)) :
    churnOne acc r =
      { acc with slots := putSlot acc.slots j { r with seq := acc.next }, next := seqAfter acc.next, repl := acc.repl + 1 } := by
  have taken : ¬ freeSlot acc.slots 0 < logSlots := Nat.not_lt.2 full
  simp only [churnOne, taken, if_false, oldest]

theorem churnOne_drops (full : 49152 ≤ freeSlot acc.slots 0) (none_ : oldestSlot acc.next r.sev acc.slots = none) :
    churnOne acc r = { acc with drops := acc.drops ++ [r.sev] } := by
  have taken : ¬ freeSlot acc.slots 0 < logSlots := Nat.not_lt.2 full
  simp only [churnOne, taken, if_false, none_]

/-- Slots that rise differ: two records in one slot are one record. -/
theorem slot_unique {l : List (Nat × Rec)} (rising : l.Pairwise (fun x y => x.1 < y.1)) {p q : Nat × Rec} (hp : p ∈ l) (hq : q ∈ l)
    (same : p.1 = q.1) : p = q :=
  List.inj_on_of_nodup_map (f := Prod.fst) (List.pairwise_map.2 (rising.imp fun lt => Nat.ne_of_lt lt)) hp hq same

end

/-- Settles O24. -/
theorem slotAssignment : Obligations.SlotAssignment := by
  intro acc r rising
  dsimp only
  refine ⟨churnOne_free, fun full j b oldest => ?_, fun full none_ => ⟨churnOne_drops full none_, ?_⟩, fun p mem sev7 mild => ?_⟩
  · have found := oldestSlot_isOldest acc.next r.sev acc.slots
    rw [oldest] at found
    obtain ⟨⟨old, mem, sev, rfl⟩, least⟩ := found
    rw [churnOne_replaces full oldest]
    exact ⟨rfl, rfl, rfl, rfl, old, mem, sev, least⟩
  · have found := oldestSlot_isOldest acc.next r.sev acc.slots
    rw [none_] at found
    exact found
  · obtain free | full := Nat.lt_or_ge (freeSlot acc.slots 0) 49152
    · rw [churnOne_free free]
      exact mem_putSlot _ mem (freeSlot_free rising (fun _ _ => Nat.zero_le _) p mem)
    · have found := oldestSlot_isOldest acc.next r.sev acc.slots
      cases oldest : oldestSlot acc.next r.sev acc.slots with
      | none => rw [churnOne_drops full oldest]; exact mem
      | some a =>
        obtain ⟨j, b⟩ := a
        rw [oldest] at found
        obtain ⟨⟨old, has, sev, -⟩, -⟩ := found
        rw [churnOne_replaces full oldest]
        refine mem_putSlot _ mem fun same => ?_
        have one : p = (j, old) := slot_unique rising mem has same
        subst one
        dsimp only at sev7
        omega

/-! ## Reading (R364) -/

section

variable {s : State} {f : Flight} (asked : u32At f.req 16 ≠ 0)
include asked

theorem State.logRead_beyond (beyond : 0 ≤ seqDiff (u32At f.req 16) s.log.next) :
    State.logRead f s = s.ok f (le32 (u32At f.req 16) ++ le8 0 ++ zeros 3) := by
  simp only [State.logRead, asked, beyond, if_true, if_false, List.length_nil, List.flatMap_nil, List.append_nil]

variable (below : seqDiff (u32At f.req 16) s.log.next < 0) {r : Rec} {rs : List Rec}
  (found : s.log.from_ (u32At f.req 16) (byteAt f.req 20) = r :: rs)
include below found

theorem State.logRead_found (first : r.seq = u32At f.req 16) : State.logRead f s =
    s.ok f (le32 (u32At f.req 16) ++ le8 (r :: rs).length ++ zeros 3 ++ (r :: rs).flatMap Rec.bytes) := by
  simp only [State.logRead, asked, Int.not_le.2 below, found, first, if_true, if_false]

theorem State.logRead_overwritten (first : r.seq ≠ u32At f.req 16) : State.logRead f s =
    s.complete f .overwritten 0 (le32 s.log.oldest ++ le32 r.seq ++ le32 s.log.next) := by
  simp only [State.logRead, asked, Int.not_le.2 below, found, first, if_false]

end

/-- Settles O21. -/
theorem logReading : Obligations.LogReading := by
  intro s t tag f
  dsimp only
  refine ⟨fun he free asked beyond => exec_row_eq rfl he
      ((State.nvmRead_free (s := s.acting t) free _).trans (State.logRead_beyond asked beyond)),
    fun r rs he free asked below found first => exec_row_eq rfl he
      ((State.nvmRead_free (s := s.acting t) free _).trans (State.logRead_found (s := s.acting t) asked below found first)),
    fun r rs he free asked below found first => exec_row_eq rfl he
      ((State.nvmRead_free (s := s.acting t) free _).trans (State.logRead_overwritten (s := s.acting t) asked below found first)),
    fun o he busy => exec_row_eq rfl he (State.nvmRead_busy (s := s.acting t) busy _), fun he => exec_row_eq rfl he rfl⟩

/-! ## The log of a controller that goes on (R20, R356 to R359) -/

/-- Counting drops keeps what counting one keeps. -/
theorem countDrops_keeps {β : Type} {p : LogSt → β} {now from_ : Nat} (one : ∀ x sv, p (LogSt.countDrop x sv now from_) = p x) (ds : List Nat)
    (l : LogSt) : p (ds.foldl (fun x sv => x.countDrop sv now from_) l) = p l := by
  induction ds generalizing l with
  | nil => rfl
  | cons d r ih => exact (ih _).trans (one l d)

section

variable (l : LogSt) (now from_ : Nat)

theorem LogSt.beginChurn_plan : (l.beginChurn now from_).plan = (churnPlan l l.other).slots :=
  countDrops_keeps (fun _ _ => rfl) _ _

theorem LogSt.beginChurn_next : (l.beginChurn now from_).next = (churnPlan l l.other).next :=
  countDrops_keeps (fun _ _ => rfl) _ _

theorem LogSt.beginChurn_queued : (l.beginChurn now from_).queued = false := countDrops_keeps (fun _ _ => rfl) _ _

theorem LogSt.beginChurn_churning : (l.beginChurn now from_).churning = true := countDrops_keeps (fun _ _ => rfl) _ _

theorem LogSt.beginChurn_energyWait : (l.beginChurn now from_).energyWait = false := countDrops_keeps (fun _ _ => rfl) _ _

theorem LogSt.beginChurn_lastChurn : (l.beginChurn now from_).lastChurn = l.lastChurn := countDrops_keeps (fun _ _ => rfl) _ _

theorem LogSt.beginChurn_pailA : (l.beginChurn now from_).pailA = l.pailA := countDrops_keeps (fun _ _ => rfl) _ _

theorem LogSt.beginChurn_pailB : (l.beginChurn now from_).pailB = l.pailB := countDrops_keeps (fun _ _ => rfl) _ _

theorem LogSt.beginChurn_activeB : (l.beginChurn now from_).activeB = l.activeB := countDrops_keeps (fun _ _ => rfl) _ _

theorem LogSt.beginChurn_slots : (l.beginChurn now from_).slots = l.slots := countDrops_keeps (fun _ _ => rfl) _ _

end

/-- The log as the controller leaves it that goes on: as it was, with a churn begun, or with the active pail taken into a commit
churn; `ENERGY_WAIT` beside it. -/
theorem State.nvmStart_log_cases (s : State) : ∃ w, s.nvmStart.log = { s.log with energyWait := w } ∨
    s.nvmStart.log = { s.log.beginChurn s.clk.now s.dropFrom with energyWait := w } ∨
    s.log.active ≠ [] ∧ s.nvmStart.log =
      { ({ s.log with activeB := !s.log.activeB } : LogSt).beginChurn s.clk.now s.dropFrom with energyWait := w } := by
  have go : ∀ o, (s.nvmGo o).log = s.log ∨ s.log.active ≠ [] ∧
      (s.nvmGo o).log = ({ s.log with activeB := !s.log.activeB } : LogSt).beginChurn s.clk.now s.dropFrom := by
    intro o
    unfold State.nvmGo
    dsimp only
    split
    case isTrue h =>
      refine .inr ⟨fun empty => ?_, rfl⟩
      simp [empty] at h
    case isFalse => exact .inl rfl
  have pick : s.nvmPick.log = s.log ∨ s.nvmPick.log = s.log.beginChurn s.clk.now s.dropFrom ∨ s.log.active ≠ [] ∧
      s.nvmPick.log = ({ s.log with activeB := !s.log.activeB } : LogSt).beginChurn s.clk.now s.dropFrom := by
    unfold State.nvmPick
    split
    · split
      · exact .inr (.inl rfl)
      · exact (go _).imp id .inr
    · split
      · split
        · exact .inr (.inl rfl)
        · exact .inl rfl
      · split
        · exact .inr (.inl rfl)
        · split
          · exact .inr (.inl rfl)
          · exact (go _).imp id .inr
  unfold State.nvmStart
  split
  · exact ⟨s.log.energyWait, .inl rfl⟩
  · split
    · split
      · exact ⟨_, .inr (.inl rfl)⟩
      · exact ⟨_, .inl rfl⟩
    · obtain ⟨w, mark⟩ : ∃ w, s.nvmPick.energyMark.log = { s.nvmPick.log with energyWait := w } := ⟨_, rfl⟩
      rw [mark]
      obtain h | h | ⟨some_, h⟩ := pick
      · exact ⟨w, .inl (by rw [h])⟩
      · exact ⟨w, .inr (.inl (by rw [h]))⟩
      · exact ⟨w, .inr (.inr ⟨some_, by rw [h]⟩)⟩

/-- What the controller going on leaves of the log: the last churn, and the pails where one of them is empty. -/
theorem State.nvmStart_lastChurn (s : State) : s.nvmStart.log.lastChurn = s.log.lastChurn := by
  obtain ⟨w, h | h | ⟨-, h⟩⟩ := s.nvmStart_log_cases
  · rw [h]
  · rw [h]; exact LogSt.beginChurn_lastChurn _ _ _
  · rw [h]; exact LogSt.beginChurn_lastChurn _ _ _

theorem LogSt.pails_congr {l u : LogSt} (a : u.pailA = l.pailA) (b : u.pailB = l.pailB) (active : u.activeB = l.activeB) :
    u.pails = l.pails := by
  simp only [LogSt.pails, LogSt.active, LogSt.other, a, b, active]

theorem LogSt.pails_flip {l u : LogSt} (a : u.pailA = l.pailA) (b : u.pailB = l.pailB) (active : u.activeB = !l.activeB)
    (one : l.other = [] ∨ l.active = []) : u.pails = l.pails := by
  have swapped : u.pails = l.active ++ l.other := by
    cases which : l.activeB <;> simp [LogSt.pails, LogSt.active, LogSt.other, a, b, active, which]
  rw [swapped]
  obtain h | h := one
  · rw [LogSt.pails, h, List.append_nil, List.nil_append]
  · rw [LogSt.pails, h, List.append_nil, List.nil_append]

theorem State.nvmStart_pails {s : State} (one : s.log.other = [] ∨ s.log.active = []) : s.nvmStart.log.pails = s.log.pails := by
  obtain ⟨w, h | h | ⟨-, h⟩⟩ := s.nvmStart_log_cases
  · rw [h]; rfl
  · rw [h]
    exact LogSt.pails_congr (LogSt.beginChurn_pailA _ _ _) (LogSt.beginChurn_pailB _ _ _) (LogSt.beginChurn_activeB _ _ _)
  · rw [h]
    exact LogSt.pails_flip (LogSt.beginChurn_pailA _ _ _) (LogSt.beginChurn_pailB _ _ _) (LogSt.beginChurn_activeB _ _ _) one

/-- An operation waits behind the others. -/
def State.nvmQueued (s : State) (k : NvmKind) (data : Mem) (arg : Nat) : State :=
  { s with nvm := { s.nvm with
      nextNum := s.nvm.nextNum + 1
      waiting := s.nvm.waiting ++ [{ num := s.nvm.nextNum, kind := k, data := data, arg := arg, since := s.clk.now,
                                     left := k.sectors arg }] } }

/-- A request queues its operation, and the controller goes on. -/
theorem State.nvmRequest_eq (s : State) (k : NvmKind) (data : Mem) (arg : Nat) :
    (s.nvmRequest k data arg).1 = (s.nvmQueued k data arg).nvmStart := rfl

theorem State.nvmRequest_log (s : State) (k : NvmKind) (data : Mem) (arg : Nat) :
    (s.nvmRequest k data arg).1.log.slots = s.log.slots ∧ (s.nvmRequest k data arg).1.log.clear = s.log.clear := by
  obtain ⟨slots, clear, -⟩ := (s.nvmQueued k data arg).nvmStart_log
  exact ⟨slots, clear⟩

/-! ## LOG_WRITE (R355, R361) -/

/-- The note that LOG_WRITE enters. -/
def State.noteOf (s : State) (f : Flight) : Rec :=
  { ts := s.evTs, code := 0x0904, sev := byteAt f.req 16, kind := 0, idx := f.origin.code, role := 0xFFFF,
    p1 := u32At f.req 20, p2 := u32At f.req 24, flags := if tsUs s.evTs + 1000000 < s.clk.base / 1000 then 2 else 0 }

section

variable {s : State} {f : Flight} {l : LogSt}

theorem State.logWrite_entered (entered : s.log.record (s.noteOf f) s.clk.now s.dropFrom = (l, true)) :
    State.logWrite f s = ({ s with log := l } : State).ok f (le8 (l.pails.length - 1) ++ zeros 3) := by
  unfold State.noteOf at entered
  simp only [State.logWrite, entered, if_true]

theorem State.logWrite_dropped (dropped : s.log.record (s.noteOf f) s.clk.now s.dropFrom = (l, false)) :
    State.logWrite f s = ({ s with log := l } : State).complete f .queueFull 0 [] := by
  unfold State.noteOf at dropped
  simp only [State.logWrite, dropped, Bool.false_eq_true, if_false]

end

/-! ## LOG_CLEAR (R366, R367) -/

/-- The log as a clear begins: the active pail is empty, the other too unless it is being churned. -/
def LogSt.cleared (l : LogSt) (opts : Nat) : LogSt :=
  { (if l.churning then { l.setActive [] with trigger := false }
     else { (l.setActive []).setOther [] with queued := false, trigger := false, urgent := false, energyWait := false }) with
    clear := some (l.next, opts, 0, 0), limit := l.next }

theorem LogSt.cleared_slots (l : LogSt) (opts : Nat) : (l.cleared opts).slots = l.slots := by
  cases c : l.churning <;> cases b : l.activeB <;> simp [LogSt.cleared, LogSt.setActive, LogSt.setOther, c, b]

theorem LogSt.cleared_active (l : LogSt) (opts : Nat) : (l.cleared opts).active = [] := by
  cases c : l.churning <;> cases b : l.activeB <;> simp [LogSt.cleared, LogSt.setActive, LogSt.setOther, LogSt.active, c, b]

theorem LogSt.cleared_other (l : LogSt) (opts : Nat) : (l.cleared opts).other = if l.churning then l.other else [] := by
  cases c : l.churning <;> cases b : l.activeB <;> simp [LogSt.cleared, LogSt.setActive, LogSt.setOther, LogSt.other, c, b]

section

variable {s : State} {f : Flight}

theorem State.clearStart_eq (opts : Nat) : s.clearStart f opts =
    ((({ s with log := s.log.cleared opts } : State).wait f .logClear).nvmRequest .clearSegment [] 0).1 := rfl

/-- A clear begins: the pails are empty, the erasure of the first segment is asked for. -/
theorem State.clearStart_does (opts : Nat) : (s.clearStart f opts).log.slots = s.log.slots ∧
    (s.clearStart f opts).log.clear = some (s.log.next, opts, 0, 0) ∧
    (s.clearStart f opts).host.waits = s.host.waits ++ [⟨f, .logClear⟩] ∧
    (s.clearStart f opts).log.pails = (if s.log.churning then s.log.other else []) ∧
    ∃ o ∈ (s.clearStart f opts).nvm.running.toList ++ (s.clearStart f opts).nvm.waiting, o.num = s.nvm.nextNum ∧
      o.kind = .clearSegment := by
  rw [State.clearStart_eq]
  generalize start : (({ s with log := s.log.cleared opts } : State).wait f .logClear) = u
  have log : u.log = s.log.cleared opts := by rw [← start]; rfl
  have pails := State.nvmStart_pails (s := u.nvmQueued .clearSegment [] 0) (.inr (log ▸ s.log.cleared_active opts))
  obtain ⟨slots, clear⟩ := u.nvmRequest_log .clearSegment [] 0
  obtain ⟨o, has, num, kind, -⟩ := u.nvmRequest_has .clearSegment [] 0
  refine ⟨?_, ?_, ?_, ?_, o, has, ?_, kind⟩
  · rw [slots, log, LogSt.cleared_slots]
  · rw [clear, log]; rfl
  · rw [State.nvmRequest_host, ← start]; rfl
  · rw [State.nvmRequest_eq, pails]
    show u.log.other ++ u.log.active = _
    rw [log, LogSt.cleared_active, LogSt.cleared_other, List.append_nil]
  · rw [num, ← start]; rfl

end

section

variable {s : State} {f : Flight}

theorem State.logClear_start (idle : s.clearing = false) (rich : s.energyOk 80000 = true) :
    State.logClear f s = s.clearStart f (byteAt f.req 16) := by
  have go : s.energyOk clearCost = true := rich
  simp only [State.logClear, idle, Bool.false_eq_true, if_false, State.unlessNoWait_go (.inl go), go, if_true]

theorem State.logClear_waits (idle : s.clearing = false) (poor : s.energyOk 80000 = false) (waits : f.noWait = false) :
    State.logClear f s = s.wait f (.clearEnergy (byteAt f.req 16) s.clk.now) := by
  have short : s.energyOk clearCost = false := poor
  simp only [State.logClear, idle, Bool.false_eq_true, if_false, State.unlessNoWait_go (.inr waits), short]

theorem State.logClear_refused (idle : s.clearing = false) (poor : s.energyOk 80000 = false) (now : f.noWait = true) :
    State.logClear f s = s.complete f .energyRefused 0 (s.energyPayload 80000) := by
  have short : s.energyOk clearCost = false := poor
  simp only [State.logClear, idle, Bool.false_eq_true, if_false, State.unlessNoWait_refused short now]
  rfl

theorem State.logClear_busy (busy : s.clearing = true) : State.logClear f s = s.complete f .busy 0x40 [] := by
  simp only [State.logClear, busy, if_true, State.refuse_eq (show Status.busy ≠ .roleStale by decide)]

end

/-! ## The segments of a clear (R20, R367) -/

/-- Of a flash operation that a log churn suspends the controller keeps the kind: an operation asked for stays asked for. -/
theorem State.nvmStart_has_kind {s : State} {k : NvmKind} (h : ∃ o ∈ s.nvm.running.toList ++ s.nvm.waiting, o.kind = k) :
    ∃ o ∈ s.nvmStart.nvm.running.toList ++ s.nvmStart.nvm.waiting, o.kind = k := by
  obtain ⟨o, mem, kind⟩ := h
  obtain run | waits := List.mem_append.1 mem
  · have busy : s.nvm.running = some o := by simpa using run
    unfold State.nvmStart
    split
    · exact ⟨o, mem, kind⟩
    · rw [busy]
      dsimp only
      split
      · exact ⟨{ o with started := true }, List.mem_append_right _ List.mem_cons_self, kind⟩
      · exact ⟨o, mem, kind⟩
  · exact ⟨o, State.nvmStart_has waits, kind⟩

section

variable {s : State} {limit opts erased k : Nat} (clear : s.log.clear = some (limit, opts, erased, k))
include clear

/-- The records that a segment keeps: those of other segments and those at or above the limit. -/
def LogSt.keptOf (l : LogSt) (limit k : Nat) : List (Nat × Rec) :=
  l.slots.filter (fun p => !(decide (p.1 / 512 = k) && decide (seqDiff p.2.seq limit < 0)))

/-- The log after segment `k` of a clear. -/
def LogSt.segmentDone (l : LogSt) (limit opts erased k : Nat) : LogSt :=
  { l with slots := l.keptOf limit k,
           clear := some (limit, opts, erased + (l.slots.length - (l.keptOf limit k).length), k + 1) }

theorem State.clearSegment_next (more : k < 95) : s.clearSegment =
    (({ s with log := s.log.segmentDone limit opts erased k } : State).nvmRequest .clearSegment [] 0).1 := by
  have next : k + 1 < clearSegments := show k + 1 < 96 by omega
  simp only [State.clearSegment, clear, next, if_true]
  rfl

theorem State.clearSegment_last (last : 95 ≤ k) : s.clearSegment =
    ({ s with log := s.log.segmentDone limit opts erased k } : State).logClearEnd opts
      (erased + (s.log.slots.length - (s.log.keptOf limit k).length)) := by
  have done : ¬ k + 1 < clearSegments := show ¬ k + 1 < 96 by omega
  simp only [State.clearSegment, clear, done, if_false]
  rfl

end

/-- The log at the end of a clear: flags cleared, and the counters where the option asks for it. -/
def LogSt.clearDone (l : LogSt) (opts : Nat) : LogSt :=
  if tst opts 0 then { l with clear := none, wrapped := false, drops := List.replicate 8 0, overwritten := 0 }
  else { l with clear := none, wrapped := false }

theorem State.logClearEnd_eq (s : State) (opts n : Nat) :
    s.logClearEnd opts n = ({ s with log := s.log.clearDone opts } : State).logNode 0x0901 7 n opts := rfl

theorem LogSt.clearDone_leaves (l : LogSt) (opts : Nat) : (l.clearDone opts).slots = l.slots ∧ (l.clearDone opts).clear = none ∧
    (l.clearDone opts).wrapped = false ∧ (l.clearDone opts).next = l.next ∧ (l.clearDone opts).pails = l.pails ∧
    (tst opts 0 = true → (l.clearDone opts).drops = List.replicate 8 0 ∧ (l.clearDone opts).overwritten = 0) := by
  unfold LogSt.clearDone
  split
  case isTrue => exact ⟨rfl, rfl, rfl, rfl, rfl, fun _ => ⟨rfl, rfl⟩⟩
  case isFalse off => exact ⟨rfl, rfl, rfl, rfl, rfl, fun on => absurd on off⟩

/-- A segment completes: its effect, then the next operation starts; nobody waits for its end. -/
theorem State.nvmComplete_clearSegment {s : State} {o : NvmOp} (busy : s.nvm.running = some o) (kind : o.kind = .clearSegment)
    (unasked : ∀ w ∈ s.host.waits, w.kind ≠ .nvm o.num)
    (host : ({ s with nvm := { s.nvm with running := none } } : State).clearSegment.host = s.host) :
    s.nvmComplete = ({ s with nvm := { s.nvm with running := none } } : State).clearSegment.nvmStart := by
  have one : o.more = false := by simp only [NvmOp.more, kind]
  have effect : ({ s with nvm := { s.nvm with running := none } } : State).nvmEffect o =
      ({ s with nvm := { s.nvm with running := none } } : State).clearSegment := by simp only [State.nvmEffect, kind]
  simp only [State.nvmComplete, busy, one, Bool.false_eq_true, if_false, effect]
  rw [State.nvmServe_none (by rw [host]; exact unasked)]

section

variable {s : State} {t : Nat} {o : NvmOp} {limit opts erased k : Nat} (busy : s.nvm.running = some o) (kind : o.kind = .clearSegment)
  (clear : s.log.clear = some (limit, opts, erased, k)) (clock : s.rst.clockLoss = none) (erasure : s.sec.erasure = none)
  (unasked : ∀ w ∈ s.host.waits, w.kind ≠ .nvm o.num)
include busy kind clear clock erasure unasked

/-- The state in which a segment's records are gone. -/
def State.segmentErased (s : State) (limit opts erased k : Nat) : State :=
  { s with nvm := { s.nvm with running := none }, log := s.log.segmentDone limit opts erased k }

theorem State.nvmEnd_clearSegment_next (more : k < 95) : s.nvmEnd =
    ((s.segmentErased limit opts erased k).nvmRequest .clearSegment [] 0).1.nvmStart := by
  have effect := State.clearSegment_next (s := { s with nvm := { s.nvm with running := none } }) clear more
  have done := State.nvmComplete_clearSegment busy kind unasked (by rw [effect, State.nvmRequest_host])
  rw [effect] at done
  rw [State.nvmEnd_eq_nvmComplete busy (by simp [kind]) (by rw [done, State.nvmStart_rst, State.nvmRequest_rst])
    (by rw [done, State.nvmStart_sec, State.nvmRequest_sec]) clock erasure, done]
  rfl

theorem State.nvmEnd_clearSegment_last (last : 95 ≤ k) : s.nvmEnd =
    ((s.segmentErased limit opts erased k).logClearEnd opts
      (erased + (s.log.slots.length - (s.log.keptOf limit k).length))).nvmStart := by
  have effect := State.clearSegment_last (s := { s with nvm := { s.nvm with running := none } }) clear last
  have done := State.nvmComplete_clearSegment busy kind unasked (by rw [effect]; rfl)
  rw [effect] at done
  rw [State.nvmEnd_eq_nvmComplete busy (by simp [kind]) (by rw [done, State.nvmStart_rst]; rfl)
    (by rw [done, State.nvmStart_sec]; rfl) clock erasure, done]
  rfl

end

/-- The row of a segment acts on the operation under way. -/
theorem exec_logClearSegment_running {s : State} {t : Nat} {o : NvmOp} (busy : s.nvm.running = some o) (kind : o.kind = .clearSegment) :
    exec (.logClearSegment t) s = .next (s.advance t).nvmEnd :=
  congrArg Host.Outcome.next (State.nvmIf_running (s := s.advance t) busy (by rw [kind]; rfl))

/-- Settles O22. The pail position over both pails, the origin of the note, the detail 0x40 of a second clear and that a pail being
churned stays are the model's choices (log entries 133, 33, 35 and 32; R366, R367). -/
theorem logNotesAndClear : Obligations.LogNotesAndClear := by
  intro s t tag f
  dsimp only
  refine ⟨fun l he entered => exec_row_eq rfl he (State.logWrite_entered (s := s.acting t) entered),
    fun l he dropped => exec_row_eq rfl he (State.logWrite_dropped (s := s.acting t) dropped),
    fun he idle rich => ⟨_, exec_row_eq rfl he (State.logClear_start (s := s.acting t) idle rich), State.clearStart_does _⟩,
    fun he idle poor waits => exec_row_eq rfl he (State.logClear_waits (s := s.acting t) idle poor waits),
    fun he idle poor now => exec_row_eq rfl he (State.logClear_refused (s := s.acting t) idle poor now),
    fun he busy => exec_row_eq rfl he (State.logClear_busy (s := s.acting t) busy),
    fun o limit opts erased k busy kind clear clock erasure unasked => ⟨fun more => ?_, fun last => ?_⟩, fun other => ?_⟩
  · have row := exec_logClearSegment_running (t := t) busy kind
    rw [State.nvmEnd_clearSegment_next (s := s.advance t) busy kind clear clock erasure unasked more] at row
    refine ⟨_, row, ?_, ?_, State.nvmStart_has_kind ?_⟩
    · rw [(State.nvmStart_log _).1, (State.nvmRequest_log _ _ _ _).1]; rfl
    · rw [(State.nvmStart_log _).2.1, (State.nvmRequest_log _ _ _ _).2]; rfl
    · obtain ⟨o, has, -, one, -⟩ := ((s.advance t).segmentErased limit opts erased k).nvmRequest_has .clearSegment [] 0
      exact ⟨o, has, one⟩
  · have row := exec_logClearSegment_running (t := t) busy kind
    rw [State.nvmEnd_clearSegment_last (s := s.advance t) busy kind clear clock erasure unasked last, State.logClearEnd_eq] at row
    obtain ⟨slots, none_, wrapped, next, pails, counters⟩ := (s.log.segmentDone limit opts erased k).clearDone_leaves opts
    exact ⟨_, slots, none_, wrapped, next, pails, counters, row⟩
  · refine congrArg Host.Outcome.next (State.nvmIf_other (s := s.advance t) ?_)
    cases busy : s.nvm.running with
    | none => exact .inl busy
    | some o =>
      obtain ⟨clear, first, segment⟩ := other o busy
      exact .inr ⟨o, busy, by simp [clear, first, segment]⟩

/-! ## Age trigger and drop minute (R356, R361) -/

section

variable {s : State}

theorem LogSt.active_ne_nil {l : LogSt} {r : Rec} (mem : r ∈ l.active) : l.active.isEmpty = false := by
  rw [List.isEmpty_eq_false_iff]
  exact List.ne_nil_of_mem mem

/-- A record old enough in an open log swaps the pails. -/
theorem State.ageTrigger_due {r : Rec} (mem : r ∈ s.log.active) (isOpen : s.log.closed = false)
    (old : r.entered + 1000000000 ≤ s.clk.now) : s.ageTrigger = { s with log := s.log.swapPails } := by
  have due : s.log.active.any (fun r => decide (r.entered + secs 1 ≤ s.clk.now)) = true :=
    List.any_eq_true.2 ⟨r, mem, decide_eq_true old⟩
  simp only [State.ageTrigger, isOpen, due, Bool.not_false, Bool.and_self, if_true]

theorem State.ageTrigger_none (h : s.log.closed = true ∨ ∀ r ∈ s.log.active, s.clk.now < r.entered + 1000000000) : s.ageTrigger = s := by
  unfold State.ageTrigger
  rw [if_neg]
  obtain closed | young := h
  · simp [closed]
  · have none_ : s.log.active.any (fun r => decide (r.entered + secs 1 ≤ s.clk.now)) = false :=
      List.any_eq_false.2 fun r mem => by
        rw [decide_eq_true_eq]
        exact Nat.not_le.2 (young r mem)
    simp [none_]

theorem LogSt.swapPails_swaps {l : LogSt} {r : Rec} (mem : r ∈ l.active) (empty : l.other = []) (idle : l.churning = false) :
    l.swapPails = { l with activeB := !l.activeB, queued := true, trigger := false } := by
  simp only [LogSt.swapPails, empty, idle, LogSt.active_ne_nil mem, List.isEmpty_nil, Bool.not_false, Bool.and_self, if_true,
    Bool.false_eq_true, if_false]

theorem LogSt.swapPails_pending {l : LogSt} (h : l.other ≠ [] ∨ l.churning = true) : l.swapPails = { l with trigger := true } := by
  unfold LogSt.swapPails
  rw [if_neg]
  obtain some_ | churning := h
  · simp [some_]
  · simp [churning]

/-- The words of a drop minute: four counts each, of severity `lo` in the low byte. -/
theorem dropWord_eq (c : List Nat) (lo : Nat) : dropWord c lo =
    min 255 (c.getD lo 0) + 256 * (min 255 (c.getD (lo + 1) 0) + 256 * (min 255 (c.getD (lo + 2) 0) + 256 * min 255 (c.getD (lo + 3) 0))) := rfl

theorem State.logDrops_due {c : List Nat} {e : Nat} (minute : s.log.minute = some (c, e)) (late : e ≤ s.clk.flow) : s.logDrops =
    ({ s with log := { s.log with minute := none } } : State).logNode 0x0903 5 (dropWord c 4) (dropWord c 0) := by
  simp only [State.logDrops, minute, late, if_true]

theorem State.logDrops_none (h : ∀ x ∈ s.log.minute, s.clk.flow < x.2) : s.logDrops = s := by
  unfold State.logDrops
  split
  case h_1 c e minute => exact if_neg (Nat.not_le.2 (h (c, e) minute))
  case h_2 => rfl

end

/-! ## Start and end of a log churn (R357, R358) -/

theorem mem_of_nvmBest {p : NvmOp → Bool} {l : List NvmOp} {o : NvmOp} (h : nvmBest p l = some o) : o ∈ l := by
  induction l generalizing o with
  | nil => simp [nvmBest] at h
  | cons x r ih =>
    simp only [nvmBest] at h
    split at h
    · split at h
      · exact Option.some.inj h ▸ List.mem_cons_self
      · exact absurd h (by simp)
    · split at h
      · exact Option.some.inj h ▸ List.mem_cons_self
      · exact List.mem_cons_of_mem _ (ih (Option.some.inj h ▸ ‹_›))

section

variable {s : State}

/-- The controller starts nothing once the clock is lost, or the log is closed and nothing is erased (R17, R362). -/
theorem State.nvmStart_stopped (h : s.rst.clockLoss.isSome = true ∨ s.log.closed = true ∧ s.sec.erasure = none) : s.nvmStart = s := by
  unfold State.nvmStart
  rw [if_pos]
  obtain lost | ⟨closed, erasure⟩ := h
  · simp [lost]
  · simp [closed, erasure]

variable (clock : s.rst.clockLoss = none) (isOpen : s.log.closed = false)
include clock isOpen

theorem State.nvmStart_busy {r : NvmOp} (busy : s.nvm.running = some r) : s.nvmStart =
    if (r.kind.rank = 6 && s.log.urgent && s.logChurnReady) = true then
      ({ s with nvm := { s.nvm with waiting := { r with started := true } :: s.nvm.waiting } } : State).startLogChurn
    else s.energyMark := by
  simp only [State.nvmStart, clock, isOpen, busy, Option.isSome_none, Bool.false_and, Bool.or_self, Bool.false_eq_true, if_false]

theorem State.nvmStart_picks (free : s.nvm.running = none) : s.nvmStart = s.nvmPick.energyMark := by
  simp only [State.nvmStart, clock, isOpen, free, Option.isSome_none, Bool.false_and, Bool.or_self, Bool.false_eq_true, if_false]

end

section

variable {s : State}

theorem State.closed_of_logChurnReady (ready : s.logChurnReady = true) : s.log.closed = false := by
  simp only [State.logChurnReady, Bool.and_eq_true, Bool.not_eq_true'] at ready
  exact ready.1.2

/-- Behind no operation of its own class or one before it, the log churn is picked. -/
theorem State.nvmPick_logChurn (ready : s.logChurnReady = true) (behind : ∀ o ∈ s.nvm.waiting, 4 < o.kind.rank ∧ o.started = false) :
    s.nvmPick = s.startLogChurn := by
  have fresh : s.nvm.waiting.find? (fun o => o.started) = none :=
    List.find?_eq_none.2 fun o mem => by simp [(behind o mem).2]
  unfold State.nvmPick
  rw [fresh]
  dsimp only
  split
  · rw [if_pos ready]
  · have rank := (behind _ (mem_of_nvmBest ‹_›)).1
    split
    · rfl
    · rw [if_pos (by simp [ready, rank])]

theorem State.nvmPick_none (ready : s.logChurnReady = false) (empty : s.nvm.waiting = []) : s.nvmPick = s := by
  simp only [State.nvmPick, empty, List.find?_nil, nvmBest, ready, Bool.false_eq_true, if_false]

theorem State.startLogChurn_energyMark : s.startLogChurn.energyMark = s.startLogChurn := by
  have queued : s.startLogChurn.log.queued = false := LogSt.beginChurn_queued _ _ _
  have wait : s.startLogChurn.log.energyWait = false := LogSt.beginChurn_energyWait _ _ _
  unfold State.energyMark
  rw [queued, Bool.false_and, Bool.false_and, Bool.false_and, ← wait]

/-- `ENERGY_WAIT` stands for a churn that is queued and does not find its energy. -/
theorem State.energyMark_eq (isOpen : s.log.closed = false) : s.energyMark =
    { s with log := { s.log with energyWait := s.log.queued && !s.log.churning && !s.logChurnReady } } := by
  simp only [State.energyMark, isOpen, Bool.not_false, Bool.and_true]

end

section

variable {s : State} {t : Nat} (clock : s.rst.clockLoss = none)
include clock

/-- A log churn whose turn has come starts with its plan; a flash operation under way is suspended for it (R20). -/
theorem exec_logChurn_starts (ready : (s.advance t).logChurnReady = true)
    (turn : s.nvm.running = none ∧ (∀ o ∈ s.nvm.waiting, 4 < o.kind.rank ∧ o.started = false) ∨
      s.log.urgent = true ∧ ∃ r, s.nvm.running = some r ∧ r.kind.rank = 6) : exec (.logChurn t) s =
    .next ({ s.advance t with nvm := { s.nvm with
      waiting := (s.nvm.running.map (fun r => { r with started := true })).toList ++ s.nvm.waiting } } : State).startLogChurn := by
  have isOpen : (s.advance t).log.closed = false := State.closed_of_logChurnReady ready
  refine congrArg Host.Outcome.next ?_
  obtain ⟨free, behind⟩ | ⟨urgent, r, busy, flash⟩ := turn
  · rw [State.nvmStart_picks (s := s.advance t) clock isOpen free, State.nvmPick_logChurn ready behind, State.startLogChurn_energyMark, free]
    rfl
  · rw [State.nvmStart_busy (s := s.advance t) clock isOpen busy, if_pos (by simp [flash, ready, urgent]), busy]
    rfl

/-- Behind another operation it stays queued. -/
theorem exec_logChurn_behind {r : NvmOp} (ready : (s.advance t).logChurnReady = true) (busy : s.nvm.running = some r)
    (h : r.kind.rank ≠ 6 ∨ s.log.urgent = false) :
    exec (.logChurn t) s = .next { s.advance t with log := { s.log with energyWait := false } } := by
  have isOpen : (s.advance t).log.closed = false := State.closed_of_logChurnReady ready
  have stays : ¬ (r.kind.rank = 6 && (s.advance t).log.urgent && (s.advance t).logChurnReady) = true := by
    obtain other | calm := h
    · simp [other]
    · simp [calm]
  refine congrArg Host.Outcome.next ?_
  rw [State.nvmStart_busy (s := s.advance t) clock isOpen busy, if_neg stays, State.energyMark_eq isOpen, ready, Bool.not_true, Bool.and_false]
  rfl

/-- Without its energy it waits. -/
theorem exec_logChurn_waits (isOpen : s.log.closed = false) (poor : (s.advance t).logChurnReady = false)
    (h : s.nvm.running.isSome = true ∨ s.nvm.waiting = []) : exec (.logChurn t) s =
    .next { s.advance t with log := { s.log with energyWait := s.log.queued && !s.log.churning } } := by
  have marked : (s.advance t).nvmStart = (s.advance t).energyMark := by
    cases busy : s.nvm.running with
    | some r =>
      rw [State.nvmStart_busy (s := s.advance t) clock isOpen busy, if_neg (by simp [poor])]
    | none =>
      have empty : s.nvm.waiting = [] := h.resolve_left (by simp [busy])
      rw [State.nvmStart_picks (s := s.advance t) clock isOpen busy, State.nvmPick_none poor empty]
  refine congrArg Host.Outcome.next (marked.trans ?_)
  rw [State.energyMark_eq (s := s.advance t) isOpen, poor, Bool.not_false, Bool.and_true]
  rfl

end

/-- What a churn that starts leaves. -/
theorem State.startLogChurn_does (s : State) : s.startLogChurn.log.churning = true ∧ s.startLogChurn.log.queued = false ∧
    s.startLogChurn.log.energyWait = false ∧ s.startLogChurn.log.plan = (churnPlan s.log s.log.other).slots ∧
    s.startLogChurn.log.next = (churnPlan s.log s.log.other).next ∧ s.startLogChurn.log.slots = s.log.slots ∧
    s.startLogChurn.log.pails = s.log.pails :=
  ⟨LogSt.beginChurn_churning _ _ _, LogSt.beginChurn_queued _ _ _, LogSt.beginChurn_energyWait _ _ _, LogSt.beginChurn_plan _ _ _,
    LogSt.beginChurn_next _ _ _, LogSt.beginChurn_slots _ _ _,
    LogSt.pails_congr (LogSt.beginChurn_pailA _ _ _) (LogSt.beginChurn_pailB _ _ _) (LogSt.beginChurn_activeB _ _ _)⟩

/-- What the pails come to when the other one is empty and none is being churned: all records in the active one, or all in the
other. -/
structure LogSt.OnePail (l u : LogSt) : Prop where
  slots : u.slots = l.slots
  pails : u.pails = l.active
  lastChurn : u.lastChurn = l.lastChurn
  one : u.other = [] ∨ u.active = []
  churning : u.churning = false

theorem LogSt.onePail_self {l : LogSt} (empty : l.other = []) (idle : l.churning = false) : l.OnePail l :=
  ⟨rfl, by rw [LogSt.pails, empty, List.nil_append], rfl, .inl empty, idle⟩

theorem LogSt.onePail_swapPails {l : LogSt} (empty : l.other = []) (idle : l.churning = false) : l.OnePail l.swapPails := by
  have flip : ({ l with activeB := !l.activeB, queued := true, trigger := false } : LogSt).active = [] ∧
      ({ l with activeB := !l.activeB, queued := true, trigger := false } : LogSt).other = l.active := by
    unfold LogSt.other at empty
    cases which : l.activeB <;> simpa [LogSt.active, LogSt.other, which] using empty
  cases still : l.active.isEmpty with
  | true =>
    have e : l.swapPails = { l with trigger := false } := by simp [LogSt.swapPails, empty, idle, still]
    rw [e]
    obtain ⟨slots, pails, lastChurn, one, churning⟩ := LogSt.onePail_self empty idle
    exact ⟨slots, pails, lastChurn, one, churning⟩
  | false =>
    have e : l.swapPails = { l with activeB := !l.activeB, queued := true, trigger := false } := by
      simp [LogSt.swapPails, empty, idle, still]
    rw [e]
    exact ⟨rfl, by rw [LogSt.pails, flip.1, flip.2, List.append_nil], rfl, .inr flip.1, idle⟩

@[simp] theorem LogSt.other_setOther (l : LogSt) (p : List Rec) : (l.setOther p).other = p := by
  cases which : l.activeB <;> simp [LogSt.setOther, LogSt.other, which]

@[simp] theorem LogSt.active_setOther (l : LogSt) (p : List Rec) : (l.setOther p).active = l.active := by
  cases which : l.activeB <;> simp [LogSt.setOther, LogSt.active, which]

/-- The log after the churn under way, before a pending trigger acts. -/
def LogSt.churned (l : LogSt) (ts : Nat) : LogSt :=
  ({ l with slots := l.plan, plan := [], churning := false, lastChurn := ts } : LogSt).setOther []

theorem LogSt.churned_does (l : LogSt) (ts : Nat) : (l.churned ts).slots = l.plan ∧ (l.churned ts).active = l.active ∧
    (l.churned ts).other = [] ∧ (l.churned ts).lastChurn = ts ∧ (l.churned ts).churning = false ∧ (l.churned ts).queued = l.queued ∧
    (l.churned ts).trigger = l.trigger := by
  have keeps : ∀ x : LogSt, (x.setOther []).slots = x.slots ∧ (x.setOther []).lastChurn = x.lastChurn ∧
      (x.setOther []).churning = x.churning ∧ (x.setOther []).queued = x.queued ∧ (x.setOther []).trigger = x.trigger := by
    intro x
    unfold LogSt.setOther
    split <;> exact ⟨rfl, rfl, rfl, rfl, rfl⟩
  obtain ⟨slots, lastChurn, churning, queued, trigger⟩ :=
    keeps { l with slots := l.plan, plan := [], churning := false, lastChurn := ts }
  exact ⟨slots, LogSt.active_setOther _ _, LogSt.other_setOther _ _, lastChurn, churning, queued, trigger⟩

theorem LogSt.endChurn_eq {l : LogSt} (churning : l.churning = true) (ts : Nat) :
    l.endChurn ts = if l.trigger then (l.churned ts).swapPails else l.churned ts := by
  obtain ⟨-, -, -, -, -, -, trigger⟩ := l.churned_does ts
  rw [← trigger]
  exact if_pos churning

/-- The end of a churn: its records stand in the log, its pail is empty, whichever pail is active then. -/
theorem LogSt.endChurn_onePail {l : LogSt} (churning : l.churning = true) (ts : Nat) : (l.churned ts).OnePail (l.endChurn ts) := by
  obtain ⟨-, -, other, -, idle, -, -⟩ := l.churned_does ts
  rw [LogSt.endChurn_eq churning]
  split
  · exact LogSt.onePail_swapPails other idle
  · exact LogSt.onePail_self other idle

/-- The log that the end of a churn leaves, before the clear that waited for it is answered. -/
def State.logAfterChurn (s : State) : LogSt :=
  (if s.nvm.waiting.any (fun o => decide (o.kind = .commitChurn)) then { s.log with trigger := false } else s.log).endChurn s.nowTs

theorem State.logWritten_eq (s : State) : s.logWritten = ({ s with log := s.logAfterChurn } : State).clearAnswer := rfl

theorem State.clearAnswer_log (s : State) : s.clearAnswer.log = s.log := by
  obtain ⟨h, x, e⟩ := s.waitsEnded_clearAnswer.changes
  rw [e]

section

variable {s : State} (churning : s.log.churning = true)
include churning

theorem State.logAfterChurn_onePail : ∃ l : LogSt, l.churning = true ∧ l.plan = s.log.plan ∧ l.active = s.log.active ∧
    (l.churned s.nowTs).OnePail s.logAfterChurn := by
  unfold State.logAfterChurn
  split
  · exact ⟨{ s.log with trigger := false }, churning, rfl, rfl, LogSt.endChurn_onePail (l := { s.log with trigger := false }) churning _⟩
  · exact ⟨s.log, churning, rfl, rfl, LogSt.endChurn_onePail churning _⟩

theorem State.logAfterChurn_does : s.logAfterChurn.slots = s.log.plan ∧ s.logAfterChurn.pails = s.log.active ∧
    s.logAfterChurn.lastChurn = s.nowTs ∧ (s.logAfterChurn.other = [] ∨ s.logAfterChurn.active = []) ∧
    s.logAfterChurn.churning = false := by
  obtain ⟨l, -, plan, active, after⟩ := State.logAfterChurn_onePail churning
  obtain ⟨slots, active1, -, lastChurn, -, -, -⟩ := l.churned_does s.nowTs
  exact ⟨by rw [after.slots, slots, plan], by rw [after.pails, active1, active], by rw [after.lastChurn, lastChurn], after.one,
    after.churning⟩

theorem State.logAfterChurn_quiet (quiet : s.log.queued = false) (calm : s.log.trigger = false) : s.logAfterChurn.queued = false := by
  have one : ∀ l : LogSt, l.churning = true → l.trigger = false → l.queued = false → (l.endChurn s.nowTs).queued = false := by
    intro l churns trigger queued
    obtain ⟨-, -, -, -, -, kept, -⟩ := l.churned_does s.nowTs
    rw [LogSt.endChurn_eq churns, trigger, if_neg (by decide), kept, queued]
  unfold State.logAfterChurn
  split
  · exact one { s.log with trigger := false } churning rfl quiet
  · exact one s.log churning calm quiet

end

section

variable {s : State} {o : NvmOp} (busy : s.nvm.running = some o) (kind : o.kind = .logChurn)
  (unasked : ∀ w ∈ s.host.waits, w.kind ≠ .nvm o.num)
include busy kind unasked

theorem State.nvmComplete_logChurn : s.nvmComplete = s.churnEnded.nvmStart := by
  have one : o.more = false := by simp only [NvmOp.more, kind]
  have effect : ({ s with nvm := { s.nvm with running := none } } : State).nvmEffect o = s.churnEnded := by
    simp only [State.nvmEffect, kind, State.churnEnded]
  have answered : s.churnEnded.nvmServe o = s.churnEnded := by
    obtain ⟨l, ended⟩ := s.churnEnded_changes
    exact State.nvmServe_none fun w hw => unasked w (ended.waits w hw)
  simp only [State.nvmComplete, busy, one, Bool.false_eq_true, if_false, effect, answered]

/-- The end of a log churn brings no reset while the clock runs and nothing is erased (R17, R425). -/
theorem State.nvmEnd_logChurn (clock : s.rst.clockLoss = none) (erasure : s.sec.erasure = none) : s.nvmEnd = s.churnEnded.nvmStart := by
  have done := State.nvmComplete_logChurn busy kind unasked
  rw [State.nvmEnd_eq_nvmComplete busy (by simp [kind]) (by rw [done, State.nvmStart_rst, s.churnEnded_rst])
    (by rw [done, State.nvmStart_sec, s.churnEnded_sec]) clock erasure, done]

end

theorem State.churnEnded_log (s : State) : s.churnEnded.log = s.logAfterChurn :=
  State.clearAnswer_log _

theorem State.churnEnded_nvm (s : State) : s.churnEnded.nvm = { s.nvm with running := none } := by
  obtain ⟨l, ⟨h, x, e⟩, -, -⟩ := s.churnEnded_changes
  rw [e]

/-- A controller with nothing to do leaves the log but for `ENERGY_WAIT`. -/
theorem State.nvmStart_quiet {s : State} (free : s.nvm.running = none) (empty : s.nvm.waiting = []) (quiet : s.log.queued = false) :
    ∃ w, s.nvmStart = { s with log := { s.log with energyWait := w } } := by
  have ready : s.logChurnReady = false := by simp only [State.logChurnReady, quiet, Bool.false_and]
  unfold State.nvmStart
  split
  · exact ⟨s.log.energyWait, rfl⟩
  · rw [free, State.nvmPick_none ready empty]
    exact ⟨_, rfl⟩

/-- Settles O23. That a drop minute ends at its own instant while no frame comes and the start of the minute are the model's choices
(log entries 132, 16 and 17; R356, R357, R361). -/
theorem logTimersAndChurns : Obligations.LogTimersAndChurns := by
  intro s t
  dsimp only
  refine ⟨fun r mem isOpen old empty idle => congrArg Host.Outcome.next ((State.ageTrigger_due (s := s.advance t) mem isOpen old).trans ?_),
    fun r mem isOpen old h => congrArg Host.Outcome.next ((State.ageTrigger_due (s := s.advance t) mem isOpen old).trans ?_),
    fun h => congrArg Host.Outcome.next (State.ageTrigger_none (s := s.advance t) h),
    fun c e minute late frames => congrArg Host.Outcome.next ?_, fun run off early => congrArg Host.Outcome.next (if_pos ?_),
    fun h => congrArg Host.Outcome.next ?_,
    fun clock ready turn => ⟨_, exec_logChurn_starts clock ready turn, ?_⟩,
    fun r clock ready busy h => exec_logChurn_behind clock ready busy h,
    fun clock isOpen poor h => exec_logChurn_waits clock isOpen poor h,
    fun h => congrArg Host.Outcome.next (State.nvmStart_stopped (s := s.advance t) h),
    fun o busy kind clock churning erasure unasked => ⟨_, congrArg Host.Outcome.next
      ((State.nvmIf_running (s := s.advance t) busy (by rw [kind]; rfl)).trans
        (State.nvmEnd_logChurn (s := s.advance t) busy kind unasked clock erasure)), ?_⟩, fun other => congrArg Host.Outcome.next ?_⟩
  · rw [LogSt.swapPails_swaps (l := (s.advance t).log) mem empty idle]; rfl
  · rw [LogSt.swapPails_pending (l := (s.advance t).log) h]; rfl
  · have ends : ¬ ((s.advance t).frame.running && decide ((s.advance t).clk.now ≠ (s.advance t).frame.captNow) &&
        decide ((s.advance t).clk.now < (s.advance t).frame.nextTick)) = true := by
      obtain stopped | captured | ticked := frames
      · simp [stopped]
      · simp [captured]
      · simp [Nat.not_lt.2 ticked]
    exact (if_neg ends).trans ((State.logDrops_due (s := s.advance t) minute late).trans (by rw [dropWord_eq, dropWord_eq]; rfl))
  · simp [run, off, early]
  · have none_ := State.logDrops_none (s := s.advance t) h
    rw [none_, ite_self]
  · obtain ⟨churning, queued, wait, plan, next, slots, pails⟩ := State.startLogChurn_does ({ s.advance t with nvm := { s.nvm with
      waiting := (s.nvm.running.map (fun r => { r with started := true })).toList ++ s.nvm.waiting } } : State)
    exact ⟨churning, queued, wait, plan, next, slots, pails, rfl, rfl⟩
  · obtain ⟨slots, pails, lastChurn, one, idle⟩ := State.logAfterChurn_does (s := s.advance t) churning
    have log := (s.advance t).churnEnded_log
    refine ⟨?_, ?_, ?_, fun empty quiet calm => ?_⟩
    · rw [(State.nvmStart_log _).1, log, slots]; rfl
    · rw [State.nvmStart_pails (log ▸ one), log, pails]; rfl
    · rw [State.nvmStart_lastChurn, log, lastChurn]
    · have nvm := (s.advance t).churnEnded_nvm
      obtain ⟨w, rest⟩ := State.nvmStart_quiet (s := (s.advance t).churnEnded) (by rw [nvm]) (by rw [nvm]; exact empty)
        (by rw [log]; exact State.logAfterChurn_quiet (s := s.advance t) churning quiet calm)
      rw [rest, log, nvm]
      exact ⟨idle, rfl⟩
  · refine State.nvmIf_other (s := s.advance t) ?_
    cases busy : s.nvm.running with
    | none => exact .inl busy
    | some o => exact .inr ⟨o, busy, by simp [other o busy]⟩

end Sys2Proof.Machine
end

section
/-!
PROOFS. Power failure and HOLDUP to their end (R369, R387, R391, Table 14.11).
-/

namespace Sys2Proof.Machine

open Sys2Proof

/-! ## What the end of an NVM operation changes -/

/-- `u` is `s` but for the host port, the buses, the configuration, the NVM controller, the log, the calibration, security and the
free values drawn. -/
def NvmChange (s u : State) : Prop := ∃ h b c n l a x k,
  u = { s with host := h, bus := b, cfg := c, nvm := n, log := l, cal := a, sec := x, free := k }

theorem NvmChange.refl (s : State) : NvmChange s s := ⟨_, _, _, _, _, _, _, _, rfl⟩

theorem NvmChange.trans {s u v : State} (h : NvmChange s u) (k : NvmChange u v) : NvmChange s v := by
  obtain ⟨_, _, _, _, _, _, _, _, rfl⟩ := h
  obtain ⟨_, _, _, _, _, _, _, _, rfl⟩ := k
  exact ⟨_, _, _, _, _, _, _, _, rfl⟩

theorem NvmChange.pwr {s u : State} (h : NvmChange s u) : u.pwr = s.pwr := by obtain ⟨_, _, _, _, _, _, _, _, rfl⟩ := h; rfl

theorem NvmChange.rst {s u : State} (h : NvmChange s u) : u.rst = s.rst := by obtain ⟨_, _, _, _, _, _, _, _, rfl⟩ := h; rfl

theorem NvmChange.bkp {s u : State} (h : NvmChange s u) : u.bkp = s.bkp := by obtain ⟨_, _, _, _, _, _, _, _, rfl⟩ := h; rfl

theorem NvmChange.banks {s u : State} (h : NvmChange s u) : u.banks = s.banks := by obtain ⟨_, _, _, _, _, _, _, _, rfl⟩ := h; rfl

section

variable (s : State)

theorem State.nvmChange_log (l : LogSt) : NvmChange s { s with log := l } := ⟨_, _, _, _, _, _, _, _, rfl⟩

theorem State.nvmChange_cfg (c : CfgSt) : NvmChange s { s with cfg := c } := ⟨_, _, _, _, _, _, _, _, rfl⟩

theorem State.nvmChange_nvm (n : NvmSt) : NvmChange s { s with nvm := n } := ⟨_, _, _, _, _, _, _, _, rfl⟩

theorem State.nvmChange_modSec (f : SecSt → SecSt) : NvmChange s (s.modSec f) := ⟨_, _, _, _, _, _, _, _, rfl⟩

theorem State.nvmChange_logNode (code sev p1 p2 : Nat) : NvmChange s (s.logNode code sev p1 p2) := s.nvmChange_log _

theorem State.nvmChange_complete (f : Flight) (st : Status) (d : Nat) (p : List Byte) : NvmChange s (s.complete f st d p) := by
  obtain ⟨_, _, _, _, h⟩ := s.complete_changes f st d p
  exact ⟨_, _, _, _, _, _, _, _, h⟩

theorem State.nvmChange_endWaits (sel : WaitKind → Option (Status × Nat × List Byte)) : NvmChange s (s.endWaits sel) := by
  obtain ⟨_, _, h⟩ := s.endWaits_changes sel
  exact ⟨_, _, _, _, _, _, _, _, h⟩

theorem State.nvmChange_nvmRequest (k : NvmKind) (m : Mem) (a : Nat) : NvmChange s (s.nvmRequest k m a).1 := by
  obtain ⟨_, _, h⟩ := s.nvmRequest_changes k m a
  exact ⟨_, _, _, _, _, _, _, _, h⟩

/-- Security changes and an operation is asked for. -/
theorem State.nvmChange_secRequest (f : SecSt → SecSt) (k : NvmKind) (m : Mem) (a : Nat) :
    NvmChange s ((s.modSec f).nvmRequest k m a).1 := (s.nvmChange_modSec f).trans ((s.modSec f).nvmChange_nvmRequest k m a)

/-- Security changes and a record enters. -/
theorem State.nvmChange_secLog (f : SecSt → SecSt) (code sev p1 p2 : Nat) : NvmChange s ((s.modSec f).logNode code sev p1 p2) :=
  (s.nvmChange_modSec f).trans ((s.modSec f).nvmChange_logNode code sev p1 p2)

theorem State.nvmChange_endSession (cause : Nat) : NvmChange s (s.endSession cause) := by
  unfold State.endSession; split
  · exact s.nvmChange_secLog _ _ _ _ _
  · exact s.nvmChange_modSec _

theorem State.nvmChange_logClearEnd (opts n : Nat) : NvmChange s (s.logClearEnd opts n) :=
  (s.nvmChange_log _).trans (State.nvmChange_logNode _ _ _ _ _)

theorem State.nvmChange_clearSegment : NvmChange s s.clearSegment := by
  unfold State.clearSegment; split
  · dsimp only [LogSt.eraseSegment]
    split
    · exact (s.nvmChange_log _).trans (State.nvmChange_nvmRequest _ _ _ _)
    · exact (s.nvmChange_log _).trans (State.nvmChange_logClearEnd _ _ _)
  · exact .refl s

theorem State.nvmChange_logWritten : NvmChange s s.logWritten := by
  obtain ⟨l, ⟨h, x, e⟩, -, -⟩ := s.logWritten_changes
  exact ⟨_, _, _, _, _, _, _, _, e⟩

theorem State.nvmChange_commitWritten (o : NvmOp) : NvmChange s (s.commitWritten o) := by
  obtain ⟨c, h⟩ := s.commitWritten_changes o
  exact ⟨_, _, _, _, _, _, _, _, h⟩

theorem State.nvmChange_selectorDone (epoch : Nat) : NvmChange s (s.selectorDone epoch) := by
  unfold State.selectorDone; dsimp only
  repeat' split
  · exact (s.nvmChange_cfg _).trans (State.nvmChange_complete _ _ _ _ _)
  all_goals exact s.nvmChange_cfg _

theorem State.nvmChange_eraseStep : NvmChange s s.eraseStep := by
  unfold State.eraseStep
  split
  · split
    · exact s.nvmChange_secRequest _ _ _ _
    · have mram : NvmChange s s.eraseMram := ⟨_, _, _, _, _, _, _, _, rfl⟩
      exact mram.trans (State.nvmChange_secRequest _ _ _ _ _)
  · dsimp only
    split
    · exact (s.nvmChange_cfg _).trans (State.nvmChange_secRequest _ _ _ _ _)
    · exact (s.nvmChange_cfg _).trans (State.nvmChange_modSec _ _)
  · exact .refl s

theorem State.nvmChange_firmwareDone (o : NvmOp) : NvmChange s (s.firmwareDone o) := by
  unfold State.firmwareDone; dsimp only
  repeat' split
  · exact .refl s
  · exact s.nvmChange_secRequest _ _ _ _
  · exact s.nvmChange_modSec _
  · exact s.nvmChange_modSec _
  · exact .refl s

theorem State.nvmChange_dirDone (c : DirChange) : NvmChange s (s.dirDone c) := by
  cases c with
  | begin_ n => exact s.nvmChange_secRequest _ _ _ _
  | trial n => exact s.nvmChange_secLog _ _ _ _ _
  | failed n k => exact ⟨_, _, _, _, _, _, _, _, rfl⟩
  | prefer n => exact ⟨_, _, _, _, _, _, _, _, rfl⟩
  | accept =>
    simp only [State.dirDone]
    split
    · exact s.nvmChange_secLog _ _ _ _ _
    · exact .refl s

theorem State.nvmChange_provisioned (cert : List Byte) : NvmChange s (s.provisioned cert) := by
  unfold State.provisioned State.draw; dsimp only
  refine NvmChange.trans ⟨_, _, _, _, _, _, _, _, rfl⟩ (NvmChange.trans (State.nvmChange_secLog _ _ _ _ _ _) (State.nvmChange_endSession _ _))

theorem State.nvmChange_keyDone (o : NvmOp) : NvmChange s (s.keyDone o) := by
  unfold State.keyDone; dsimp only
  split
  · exact s.nvmChange_secRequest _ _ _ _
  · split
    · split
      · exact s.nvmChange_provisioned _
      · exact .refl s
    · split
      · exact .refl s
      · refine NvmChange.trans ?_ (State.nvmChange_logNode _ _ _ _ _)
        split <;> exact s.nvmChange_modSec _

/-- The end of an operation changes no more than that, whatever its kind. -/
theorem State.nvmChange_nvmEffect (o : NvmOp) : NvmChange s (s.nvmEffect o) := by
  unfold State.nvmEffect
  split
  · exact s.nvmChange_logWritten.trans (State.nvmChange_commitWritten _ _)
  · exact s.nvmChange_selectorDone _
  · exact ⟨_, _, _, _, _, _, _, _, rfl⟩
  · exact s.nvmChange_logWritten
  · exact s.nvmChange_clearSegment
  · exact s.nvmChange_eraseStep
  · exact s.nvmChange_eraseStep
  · exact s.nvmChange_eraseStep
  · exact s.nvmChange_cfg _
  · exact s.nvmChange_cfg _
  · exact .refl s
  · exact s.nvmChange_firmwareDone o
  · exact s.nvmChange_dirDone _
  · exact s.nvmChange_keyDone o

theorem State.nvmChange_suspendFlash (o : NvmOp) : NvmChange s (s.suspendFlash o) := by
  obtain ⟨b, x, h⟩ := s.suspendFlash_changes o
  exact ⟨_, _, _, _, _, _, _, _, h⟩

/-- A flush: both pails are empty then, and the log is closed (R362). -/
theorem State.nvmChange_flush : NvmChange s s.flush := by
  obtain ⟨b, x, cut⟩ := State.suspendFlashes_changes (s.nvm.waiting.filter (fun o => o.started || o.begun)) s
  have before : NvmChange s s.cutFlash := ⟨_, _, _, _, _, _, _, _, cut⟩
  have ended : NvmChange s (match s.cutFlash.nvm.running with
      | some o => if o.kind.rank = 6 then s.cutFlash.suspendFlash o else s.cutFlash.nvmEffect o
      | none => s.cutFlash) := by
    split
    · split
      · exact before.trans (State.nvmChange_suspendFlash _ _)
      · exact before.trans (State.nvmChange_nvmEffect _ _)
    · exact before
  exact ended.trans ⟨_, _, _, _, _, _, _, _, rfl⟩

theorem State.flush_log : s.flush.log.pails = [] ∧ s.flush.log.closed = true := by
  have emptied : ∀ (l : LogSt) (ts now from_ : Nat), (l.flush ts now from_).pails = [] ∧ (l.flush ts now from_).closed = true := by
    intro l ts now from_
    have pailA : (l.flush ts now from_).pailA = [] := by
      unfold LogSt.flush
      exact countDrops_keeps (p := LogSt.pailA) (fun _ _ => rfl) _ _
    have pailB : (l.flush ts now from_).pailB = [] := by
      unfold LogSt.flush
      exact countDrops_keeps (p := LogSt.pailB) (fun _ _ => rfl) _ _
    refine ⟨?_, rfl⟩
    unfold LogSt.pails LogSt.other LogSt.active
    rw [pailA, pailB, ite_self, List.append_nil]
  exact emptied _ _ _ _

end

/-! ## The banks go down, the rails are shed (R391) -/

theorem State.eachBankDown_banks (s : State) (n : Nat) :
    (s.each n (fun s b => s.bankDown b .off)).banks.length = s.banks.length ∧
      ∀ i < n, i < s.banks.length → ((s.each n (fun s b => s.bankDown b .off)).banks.getD i {}).power = .off := by
  refine State.each_induction (fun k u => u.banks.length = s.banks.length ∧
    ∀ i < k, i < s.banks.length → (u.banks.getD i {}).power = .off) n ⟨rfl, fun i lt => absurd lt (Nat.not_lt_zero i)⟩ ?_
  rintro k u ⟨length, off⟩
  obtain ⟨f, banks, down⟩ := u.bankDown_banks k .off
  have e : (u.bankDown k .off).banks = modAt u.banks k f := banks
  rw [e]
  refine ⟨(modAt_length _ _ _).trans length, fun i lt has => ?_⟩
  obtain rfl | ne := Decidable.em (i = k)
  · rw [getD_modAt_self f {} (length.symm ▸ has)]
    exact (down _).1
  · rw [getD_modAt_ne f {} (Ne.symm ne)]
    exact off i (by omega) has

/-- Eight banks that have gone down are all off. -/
theorem State.eachBankDown_off {s : State} (eight : s.banks.length = 8) :
    ∀ k ∈ (s.each 8 (fun s b => s.bankDown b .off)).banks, k.power = .off := by
  obtain ⟨length, off⟩ := s.eachBankDown_banks 8
  intro k mem
  obtain ⟨i, lt, rfl⟩ := List.getElem_of_mem mem
  have := off i (by omega) (by omega)
  rwa [List.getD_eq_getElem _ _ lt] at this

section

variable (s : State)

/-- The state with the flush complete and the banks down. -/
def State.banksShed (s : State) : State := s.flush.each 8 (fun s b => s.bankDown b .off)

theorem State.busesOff_ctl : ∀ c ∈ s.busesOff.bus.ctl, c.state = .off := by
  intro c mem
  obtain ⟨x, -, rfl⟩ := List.mem_map.1 mem
  rfl

theorem State.driveLands_changes : ∃ d, s.driveLands = { s with disp := d } := ⟨_, rfl⟩

theorem State.dispSettle_changes : ∃ d, s.dispSettle = { s with disp := d } := ⟨_, rfl⟩

/-- What is beside the banks and the log as the rails are shed. -/
theorem State.railsShed_changes : ∃ d, s.railsShed = { s.banksShed with
    bus := s.banksShed.busesOff.bus, pwr := { s.banksShed.pwr with holdup := .shed }, disp := d } := by
  unfold State.railsShed
  rw [show s.flush.each 8 (fun s b => s.bankDown b .off) = s.banksShed from rfl]
  generalize s.banksShed = u
  obtain ⟨d, settled⟩ := (u.busesOff.modPwr (fun p => { p with holdup := .shed })).dispSettle_changes
  obtain ⟨e, driven⟩ := (u.busesOff.modPwr (fun p => { p with holdup := .shed })).dispSettle.driveLands_changes
  exact ⟨e, by rw [driven, settled]; rfl⟩

theorem State.banksShed_keeps {β : Type} {p : State → β} (modem : ∀ s b f, p (State.modModem s b f) = p s)
    (complete : ∀ s f st d l, p (State.complete s f st d l) = p s) (bank : ∀ s b f, p (State.modBank s b f) = p s)
    (out : ∀ s n f, p (State.modOut s n f) = p s) (chan : ∀ s n f, p (State.modChan s n f) = p s) : p s.banksShed = p s.flush :=
  State.each_keeps p (fun u k => State.bankDown_keeps modem complete bank out chan u k .off) s.flush 8

theorem State.banksShed_pwr : s.banksShed.pwr = s.pwr :=
  (s.banksShed_keeps (fun _ _ _ => rfl) State.complete_pwr (fun _ _ _ => rfl) (fun _ _ _ => rfl) (fun _ _ _ => rfl)).trans
    s.nvmChange_flush.pwr

theorem State.banksShed_rst : s.banksShed.rst = s.rst :=
  (s.banksShed_keeps (fun _ _ _ => rfl) State.complete_rst (fun _ _ _ => rfl) (fun _ _ _ => rfl) (fun _ _ _ => rfl)).trans
    s.nvmChange_flush.rst

theorem State.banksShed_bkp : s.banksShed.bkp = s.bkp :=
  (s.banksShed_keeps (fun _ _ _ => rfl) State.complete_bkp (fun _ _ _ => rfl) (fun _ _ _ => rfl) (fun _ _ _ => rfl)).trans
    s.nvmChange_flush.bkp

theorem State.banksShed_log : s.banksShed.log = s.flush.log :=
  s.banksShed_keeps (fun _ _ _ => rfl) State.complete_log (fun _ _ _ => rfl) (fun _ _ _ => rfl) (fun _ _ _ => rfl)

/-- The rails are shed: the flush is complete, drivers and buses are off (R391, R362). -/
theorem State.railsShed_does (eight : s.banks.length = 8) : s.railsShed.pwr = { s.pwr with holdup := .shed } ∧
    s.railsShed.log.pails = [] ∧ s.railsShed.log.closed = true ∧ (∀ k ∈ s.railsShed.banks, k.power = .off) ∧
    ∀ c ∈ s.railsShed.bus.ctl, c.state = .off := by
  obtain ⟨d, shed⟩ := s.railsShed_changes
  have down : ∀ k ∈ s.banksShed.banks, k.power = .off :=
    State.eachBankDown_off (by rw [s.nvmChange_flush.banks, eight])
  rw [shed, s.banksShed_pwr, s.banksShed_log]
  exact ⟨rfl, s.flush_log.1, s.flush_log.2, down, s.banksShed.busesOff_ctl⟩

/-- Before the end of HOLDUP the rails are shed, if they were not; the supply, RESET_N and the backup domain go on. -/
def State.shedForEnd (s : State) : State := (if s.pwr.holdup = .running then s.railsShed else s).dispSettle

theorem State.shedForEnd_keeps : s.shedForEnd.pwr.vshipOn = s.pwr.vshipOn ∧ s.shedForEnd.rst = s.rst ∧ s.shedForEnd.bkp = s.bkp ∧
    (s.pwr.holdup ≠ .running → s.shedForEnd.log = s.log ∧ s.shedForEnd.cfg = s.cfg) := by
  unfold State.shedForEnd
  split
  case isTrue run =>
    obtain ⟨d, shed⟩ := s.railsShed_changes
    obtain ⟨e, settled⟩ := s.railsShed.dispSettle_changes
    rw [settled, shed]
    dsimp only
    rw [s.banksShed_pwr, s.banksShed_rst, s.banksShed_bkp]
    exact ⟨rfl, rfl, rfl, fun still => absurd run still⟩
  case isFalse => exact ⟨rfl, rfl, rfl, fun _ => ⟨rfl, rfl⟩⟩

theorem State.holdupEnd_eq (v : Bool) : s.holdupEnd v = if s.shedForEnd.pwr.vshipOn then
    s.shedForEnd.restart ((if s.shedForEnd.rst.low then 2 else 1) + causeAfterHoldup + causeFlushDone) true false
    else s.shedForEnd.goDown v true := rfl

end

/-! ## A record in the pails (R355, R356) -/

section

variable {l : LogSt} {r x : Rec} {now from_ : Nat}

theorem LogSt.mem_pails : x ∈ l.pails ↔ x ∈ l.pailA ∨ x ∈ l.pailB := by
  cases which : l.activeB <;> simp [LogSt.pails, LogSt.other, LogSt.active, which, or_comm]

/-- A swap moves no record. -/
theorem LogSt.mem_pails_swapPails : x ∈ l.swapPails.pails ↔ x ∈ l.pails := by
  rw [LogSt.mem_pails, LogSt.mem_pails]
  unfold LogSt.swapPails
  repeat' split
  all_goals exact Iff.rfl

theorem LogSt.active_swapPails_le : l.swapPails.active.length ≤ l.active.length := by
  unfold LogSt.swapPails
  split
  case isTrue h =>
    have empty : l.other = [] := by
      simp only [Bool.and_eq_true] at h
      exact List.isEmpty_iff.1 h.1
    split
    · exact Nat.le_refl _
    · have flip : ({ l with activeB := !l.activeB, queued := true, trigger := false } : LogSt).active = l.other := by
        cases which : l.activeB <;> simp [LogSt.active, LogSt.other, which]
      rw [flip, empty]
      exact Nat.zero_le _
  case isFalse => exact Nat.le_refl _

theorem LogSt.pails_setActive : (l.setActive (l.active ++ [x])).pails = l.pails ++ [x] := by
  have other : (l.setActive (l.active ++ [x])).other = l.other := by
    cases which : l.activeB <;> simp [LogSt.setActive, LogSt.other, which]
  rw [LogSt.pails, other, LogSt.active_setActive, LogSt.pails, List.append_assoc]

theorem LogSt.slots_setActive (p : List Rec) : (l.setActive p).slots = l.slots := by
  unfold LogSt.setActive; split <;> rfl

theorem LogSt.slots_setOther (p : List Rec) : (l.setOther p).slots = l.slots := by
  unfold LogSt.setOther; split <;> rfl

theorem LogSt.slots_swapPails : l.swapPails.slots = l.slots := by
  unfold LogSt.swapPails
  repeat' split
  all_goals rfl

/-- A record that an open log takes: it enters, is marked urgent or not, and the pails are swapped or not. -/
theorem LogSt.record_cases (isOpen : l.closed = false) : ∃ w,
    (l.record r now from_).1 = { (l.enter { r with entered := now } now from_).1 with urgent := w } ∨
    (l.record r now from_).1 = ({ (l.enter { r with entered := now } now from_).1 with urgent := w } : LogSt).swapPails := by
  unfold LogSt.record
  rw [if_neg (by simp [isOpen])]
  generalize l.enter { r with entered := now } now from_ = e
  obtain ⟨l1, ok⟩ := e
  dsimp only
  have marked : ∃ w, (if (ok && decide (6 ≤ r.sev)) = true then { l1 with urgent := true } else l1) = { l1 with urgent := w } := by
    split
    · exact ⟨true, rfl⟩
    · exact ⟨l1.urgent, rfl⟩
  obtain ⟨w, mark⟩ := marked
  rw [mark]
  split
  · exact ⟨w, .inr rfl⟩
  · exact ⟨w, .inl rfl⟩

theorem LogSt.slots_enter : (l.enter r now from_).1.slots = l.slots := by
  unfold LogSt.enter
  split
  · split
    · exact (LogSt.slots_setActive _).trans (LogSt.slots_setOther _)
    · exact LogSt.slots_setActive _
    · rfl
  · exact LogSt.slots_setActive _

/-- A record that enters a pail takes no slot yet. -/
theorem LogSt.slots_record : (l.record r now from_).1.slots = l.slots := by
  cases isOpen : l.closed with
  | true => rw [LogSt.record, if_pos isOpen]
  | false =>
    obtain ⟨w, stays | swapped⟩ := LogSt.record_cases (r := r) (now := now) (from_ := from_) isOpen
    · rw [stays]; exact LogSt.slots_enter
    · rw [swapped, LogSt.slots_swapPails]; exact LogSt.slots_enter

/-- With room in the active pail the record joins the others, whatever trigger it brings. -/
theorem LogSt.record_joins (isOpen : l.closed = false) (room : l.active.length < 64) :
    (∀ y, y ∈ (l.record r now from_).1.pails ↔ y ∈ l.pails ∨ y = { r with entered := now }) ∧
      (l.record r now from_).1.active.length ≤ l.active.length + 1 ∧ (l.record r now from_).1.closed = false := by
  have entered : l.enter { r with entered := now } now from_ = (l.setActive (l.active ++ [{ r with entered := now }]), true) :=
    if_neg (by simp [Nat.not_le.2 room])
  have joined : ∀ u : LogSt, u.pails = l.pails ++ [{ r with entered := now }] → ∀ y, y ∈ u.pails ↔ y ∈ l.pails ∨ y = { r with entered := now } := by
    intro u e y
    rw [e, List.mem_append, List.mem_singleton]
  have length : ∀ u : LogSt, u.active = l.active ++ [{ r with entered := now }] → u.active.length = l.active.length + 1 := by
    intro u e
    rw [e, List.length_append, List.length_singleton]
  have closed : (l.setActive (l.active ++ [{ r with entered := now }])).closed = false := by rw [LogSt.closed_setActive, isOpen]
  have swapClosed : ∀ u : LogSt, u.swapPails.closed = u.closed := by
    intro u
    unfold LogSt.swapPails
    repeat' split
    all_goals rfl
  obtain ⟨w, taken⟩ := LogSt.record_cases (r := r) (now := now) (from_ := from_) isOpen
  rw [entered] at taken
  dsimp only at taken
  obtain ⟨u, pails, active, open_, taken⟩ : ∃ u : LogSt, u.pails = l.pails ++ [{ r with entered := now }] ∧
      u.active = l.active ++ [{ r with entered := now }] ∧ u.closed = false ∧
      ((l.record r now from_).1 = u ∨ (l.record r now from_).1 = u.swapPails) :=
    ⟨{ l.setActive (l.active ++ [{ r with entered := now }]) with urgent := w }, LogSt.pails_setActive, LogSt.active_setActive _ _, closed,
      taken⟩
  obtain stays | swapped := taken
  · rw [stays]
    exact ⟨joined u pails, (length u active).le, open_⟩
  · rw [swapped, swapClosed]
    refine ⟨fun y => LogSt.mem_pails_swapPails.trans (joined u pails y), ?_, open_⟩
    exact LogSt.active_swapPails_le.trans (length u active).le

end

/-! ## Entry to HOLDUP (R391) -/

/-- What the entry to HOLDUP says of the state, beside the units it takes to their safe states. -/
structure HoldupView where
  pwr : PowerSt
  running : Bool
  cfg : CfgSt
  live : List LiveCmd
  log : LogSt
  waits : List Wait
  queue : List Flight
  cur : Option Flight

/-- The view of a state in HOLDUP. -/
def State.holdupView (s : State) : HoldupView :=
  { pwr := s.pwr, running := s.frame.running, cfg := s.cfg, live := s.live, log := s.log, waits := s.host.waits, queue := s.host.queue,
    cur := s.host.cur }

theorem State.holdupView_complete (s : State) (f : Flight) (st : Status) (d : Nat) (p : List Byte) :
    (s.complete f st d p).holdupView = s.holdupView := by
  obtain ⟨_, _, _, _, h⟩ := s.complete_changes f st d p
  rw [h]; rfl

theorem State.holdupView_aborted (l : List Flight) (d : Nat) (s : State) :
    (l.foldl (fun s f => s.complete f .aborted d []) s).holdupView = s.holdupView := by
  induction l generalizing s with
  | nil => rfl
  | cons f r ih => exact (ih _).trans (s.holdupView_complete _ _ _ _)

theorem State.holdupView_outsSafe (s : State) : s.outsSafe.holdupView = s.holdupView := by
  unfold State.outsSafe
  refine State.each_keeps State.holdupView (fun u n => ?_) s 64
  split
  · rfl
  · split <;> rfl

theorem State.holdupView_aoApply (s : State) (k : Nat) : (s.aoApply k).holdupView = s.holdupView := rfl

theorem State.holdupView_driveCell (s : State) (dark : Bool) : (s.driveCell dark).holdupView = s.holdupView := by
  obtain ⟨d, h⟩ := s.driveCell_changes dark
  rw [h]; rfl

theorem State.holdupView_dispHoldup (s : State) : s.dispHoldup.holdupView = s.holdupView := by
  unfold State.dispHoldup
  exact (congrArg State.holdupView (State.driveLands_changes _).choose_spec).trans (State.holdupView_driveCell _ true)

theorem State.holdupView_sendGoingDown (s : State) (reason : Nat) : (s.sendGoingDown reason).holdupView = s.holdupView := by
  refine State.each_keeps State.holdupView (fun u b => ?_) s 4
  split
  · rfl
  · obtain ⟨x, h⟩ := u.sendProto_changes b 0 0x03 0 (le8 reason ++ le8 0 ++ le16 u.cfg.epoch) .goingDown
    rw [h]; rfl

/-- The units of a node in HOLDUP: outputs safe, engines idle, the display dark. -/
def State.unitsSafe (s : State) : State :=
  ((((s.framesStop.outsSafe).each 8 State.aoApply).nokUpdate).enginesIdle).dispHoldup

theorem State.holdupView_unitsSafe (s : State) : s.unitsSafe.holdupView = { s.holdupView with running := false } := by
  have idle : ∀ u : State, u.nokUpdate.enginesIdle.holdupView = u.holdupView := fun _ => rfl
  have outputs : ∀ u : State, (u.each 8 State.aoApply).holdupView = u.holdupView := fun u =>
    State.each_keeps State.holdupView State.holdupView_aoApply u 8
  have stop : s.framesStop.holdupView = { s.holdupView with running := false } := rfl
  rw [State.unitsSafe, State.holdupView_dispHoldup, idle, outputs, State.holdupView_outsSafe, stop]

/-- The banks start no output any more, `GOING_DOWN` is sent, the log is closed. -/
def State.linesDown (s : State) : State :=
  let amp (a : AmpSt) : AmpSt := { a with reenable := false }
  let bank (k : BankSt) : BankSt :=
    { k with reenable := false, amps := k.amps.map amp, insul := { k.insul with gen := 0, valid := false } }
  let s1 := ({ s with banks := s.banks.map bank, rst := { s.rst with dueAt := none } } : State).sendGoingDown 1
  { s1 with log := { s1.log with closed := true } }

theorem State.holdupView_linesDown (s : State) :
    s.linesDown.holdupView = { s.holdupView with log := { s.log with closed := true } } := by
  unfold State.linesDown
  dsimp only
  generalize down : ({ s with banks := _, rst := _ } : State) = u
  have same : u.holdupView = s.holdupView := by rw [← down]; rfl
  have sent := (u.holdupView_sendGoingDown 1).trans same
  generalize u.sendGoingDown 1 = w at sent
  have log : w.log = s.log := congrArg HoldupView.log sent
  have shut : ({ w with log := { w.log with closed := true } } : State).holdupView =
      { w.holdupView with log := { w.log with closed := true } } := rfl
  rw [shut, sent, log]

/-- The power state of a node that enters HOLDUP with VSHIP at `mv`. -/
def PowerSt.failing (p : PowerSt) (mv : Nat) : PowerSt :=
  { p with state := .holdup, cause := 6, holdup := .running, armedSince := none, standbyPend := false, banksPend := false,
           safePend := none, startSafe := false, charging := false, chargeSet := 0, vshipOn := false, testRun := false,
           testDue := false, shed := [], vshipMv := mv }

/-- The `POWER_FAIL` record. -/
def State.powerFailRec (s : State) (mv ts : Nat) : Rec :=
  { ts, code := 0x0A02, sev := 6, kind := 0, idx := s.bus.nodeId, p1 := mv, p2 := s.pwr.euUj / 1000 }

/-- The state with the `POWER_FAIL` record entered and a session ended. -/
def State.failed (s : State) (mv : Nat) : State :=
  let s1 := s.modPwr (fun p => p.failing mv)
  ((s1.enterRec (s1.powerFailRec mv s.evTs)).cause 3).endSession 7

/-- A power failure by its parts. -/
theorem State.powerFail_eq (s : State) (mv : Nat) :
    s.powerFail mv = (((s.failed mv).holdRel.abortAll 2).unitsSafe).linesDown := by
  unfold State.powerFail State.linesDown State.unitsSafe State.failed State.powerFailRec PowerSt.failing
  with_reducible rfl

theorem State.powerFail_view (s : State) (mv : Nat) : (s.powerFail mv).holdupView =
    { pwr := (s.failed mv).pwr, running := false, cfg := { (s.failed mv).cfg with commit := none, draft := none }, live := [],
      log := { (s.failed mv).log with closed := true }, waits := [], queue := [], cur := none } := by
  rw [State.powerFail_eq]
  generalize s.failed mv = u
  have aborted : (u.holdRel.abortAll 2).holdupView =
      { u.holdupView with cfg := { u.cfg with commit := none, draft := none }, live := [], waits := [], queue := [], cur := none } :=
    State.holdupView_aborted _ 2 _
  generalize u.holdRel.abortAll 2 = v at aborted
  have log : v.unitsSafe.log = u.log := (congrArg HoldupView.log v.holdupView_unitsSafe).trans (congrArg HoldupView.log aborted)
  rw [State.holdupView_linesDown, State.holdupView_unitsSafe, aborted, log]
  rfl

/-- A session that ends leaves its record; without one the log stays. -/
theorem State.endSession_log (s : State) (cause : Nat) : (s.endSession cause).log = s.log ∨
    ∃ r now from_, (s.endSession cause).log = (s.log.record r now from_).1 := by
  unfold State.endSession
  split
  · exact .inr ⟨_, _, _, rfl⟩
  · exact .inl rfl

section

variable (s : State) (mv : Nat)

theorem State.failed_log : ∃ fl now from_, let l := (s.log.record { s.powerFailRec mv s.evTs with flags := fl } now from_).1
    (s.failed mv).log = l ∨ ∃ r now2 from2, (s.failed mv).log = (l.record r now2 from2).1 :=
  ⟨_, _, _, State.endSession_log _ 7⟩

theorem State.failed_keeps : (s.failed mv).pwr = s.pwr.failing mv ∧ (s.failed mv).cfg = s.cfg ∧
    (s.failed mv).log.slots = s.log.slots := by
  have ended : ∀ (u : State) (c : Nat), (u.endSession c).pwr = u.pwr ∧ (u.endSession c).cfg = u.cfg := by
    intro u c
    unfold State.endSession
    split <;> exact ⟨rfl, rfl⟩
  obtain ⟨pwr, cfg⟩ := ended ((((s.modPwr (fun p => p.failing mv)).enterRec ((s.modPwr (fun p => p.failing mv)).powerFailRec mv s.evTs))).cause 3) 7
  obtain ⟨fl, now, from_, one | ⟨r, now2, from2, two⟩⟩ := s.failed_log mv
  · exact ⟨pwr, cfg, by rw [one]; exact LogSt.slots_record⟩
  · exact ⟨pwr, cfg, by rw [two, LogSt.slots_record]; exact LogSt.slots_record⟩

/-- With room in the pail the `POWER_FAIL` record is there (R355). -/
theorem State.failed_recorded (isOpen : s.log.closed = false) (room : s.log.active.length < 63) :
    ∃ r ∈ (s.failed mv).log.pails, r.code = 0x0A02 ∧ r.p1 = mv := by
  obtain ⟨fl, now, from_, cases_⟩ := s.failed_log mv
  obtain ⟨joins, length, open1⟩ := LogSt.record_joins (r := { s.powerFailRec mv s.evTs with flags := fl }) (now := now) (from_ := from_) isOpen
    (Nat.lt_succ_of_lt room)
  have here : { { s.powerFailRec mv s.evTs with flags := fl } with entered := now } ∈
      (s.log.record { s.powerFailRec mv s.evTs with flags := fl } now from_).1.pails := (joins _).2 (.inr rfl)
  obtain one | ⟨r, now2, from2, two⟩ := cases_
  · exact ⟨_, one ▸ here, rfl, rfl⟩
  · obtain ⟨joins2, -, -⟩ := LogSt.record_joins (r := r) (now := now2) (from_ := from2) open1 (by omega)
    exact ⟨_, two ▸ (joins2 _).2 (.inl here), rfl, rfl⟩

/-- A node that enters HOLDUP: its requests are gone, no frame runs, the log is closed behind its `POWER_FAIL` record (R391). -/
theorem State.powerFail_does : (s.powerFail mv).pwr = s.pwr.failing mv ∧ (s.powerFail mv).frame.running = false ∧
    (s.powerFail mv).cfg.draft = none ∧ (s.powerFail mv).cfg.commit = none ∧ (s.powerFail mv).host.waits = [] ∧
    (s.powerFail mv).host.queue = [] ∧ (s.powerFail mv).host.cur = none ∧ (s.powerFail mv).live = [] ∧
    (s.powerFail mv).log = { (s.failed mv).log with closed := true } := by
  have view := s.powerFail_view mv
  obtain ⟨pwr, -, -⟩ := s.failed_keeps mv
  generalize s.powerFail mv = u at view
  have cfg := congrArg HoldupView.cfg view
  exact ⟨(congrArg HoldupView.pwr view).trans pwr, congrArg HoldupView.running view, congrArg CfgSt.draft cfg, congrArg CfgSt.commit cfg,
    congrArg HoldupView.waits view, congrArg HoldupView.queue view, congrArg HoldupView.cur view, congrArg HoldupView.live view,
    congrArg HoldupView.log view⟩

end

/-! ## The rows -/

section

variable {s : State} {t : Nat}

theorem exec_powerFail_runs (mv : Nat) (dip : s.pwr.dip = true) (run : (s.advance t).running = true) :
    exec (.powerFail t mv) s = .next ((s.advance t).powerFail mv) := by
  refine congrArg Host.Outcome.next ((if_neg ?_).trans (if_pos run))
  simp [dip]

theorem exec_powerFail_held (mv : Nat) (dip : s.pwr.dip = true) (held : s.rst.held = true) : exec (.powerFail t mv) s =
    .next { s.advance t with rst := { s.rst with held := false }, pwr := { s.pwr with state := .backup, vshipOn := false } } := by
  have still : (s.advance t).running = false := by simp [State.running, held]
  refine congrArg Host.Outcome.next ((if_neg ?_).trans ((if_neg ?_).trans (if_pos held)))
  · simp [dip]
  · simp [still]

theorem exec_holdupComplete (v : Bool) (h : s.pwr.state = .holdup) :
    exec (.holdupComplete t v) s = .next ((s.advance t).holdupEnd v) := congrArg Host.Outcome.next (if_pos h)

end

/-- The cause of a start out of OFF or BACKUP: a backup domain that has restarted is flagged (R332, R458). -/
theorem startCause (down restarted : Bool) (mv : Nat) (b : BkpSt) (e : b.restarted = restarted) :
    (1 + if (if down then ({ vbatMv := mv } : BkpSt) else { b with vbatMv := mv }).restarted = true then causeBkpLost else 0) =
      if down = true ∨ restarted = true then 0x801 else 1 := by
  cases down <;> cases restarted <;> simp [e, causeBkpLost]

/-- Settles O26. That a node held in reset goes to BACKUP at once and that the flush is complete with the rails shed are the model's
choices (log entries 68 and 18), as is the cause 0x602 of a start with RESET_N low. -/
theorem powerFailSequence : Obligations.PowerFailSequence := by
  intro s t
  dsimp only
  refine ⟨rfl, rfl, fun mv dip run => ?_, fun mv dip held => ⟨_, exec_powerFail_held mv dip held, rfl, rfl⟩,
    fun mv dip => congrArg Host.Outcome.next (if_pos ?_), fun state run eight => ?_, fun v state off => ?_, fun v state on => ?_,
    fun state => congrArg Host.Outcome.next (if_pos state), fun mv state => ?_⟩
  · obtain ⟨pwr, running, draft, commit, waits, queue, cur, live, log⟩ := (s.advance t).powerFail_does mv
    obtain ⟨-, -, slots⟩ := (s.advance t).failed_keeps mv
    refine ⟨_, exec_powerFail_runs mv dip run, by rw [pwr]; rfl, by rw [pwr]; rfl, by rw [pwr]; rfl, running, draft, commit, waits, queue,
      cur, live, by rw [log]; exact slots, by rw [log], fun isOpen room => ?_⟩
    rw [log]
    exact (s.advance t).failed_recorded mv isOpen room
  · rw [State.advance_pwr, dip]; rfl
  · exact ⟨_, congrArg Host.Outcome.next (if_pos (by simp [state, run])), (s.advance t).railsShed_does eight⟩
  · obtain ⟨vship, -, bkp, flushed⟩ := (s.advance t).shedForEnd_keeps
    have ended := (s.advance t).holdupEnd_eq v
    rw [if_neg (by rw [vship, State.advance_pwr, off]; decide)] at ended
    refine ⟨_, exec_holdupComplete v state, ?_⟩
    rw [ended]
    generalize (s.advance t).shedForEnd = u at bkp flushed
    refine ⟨rfl, congrArg (fun b : BkpSt => { b with down := !v }) bkp, rfl, fun done => ?_⟩
    obtain ⟨log, cfg⟩ := flushed done
    exact ⟨show u.log.slots = s.log.slots by rw [log]; rfl, show u.cfg.copy0 = s.cfg.copy0 by rw [cfg]; rfl,
      show u.cfg.copy1 = s.cfg.copy1 by rw [cfg]; rfl⟩
  · obtain ⟨vship, rst, bkp, -⟩ := (s.advance t).shedForEnd_keeps
    have ended := (s.advance t).holdupEnd_eq v
    rw [if_pos (by rw [vship, State.advance_pwr, on])] at ended
    refine ⟨_, exec_holdupComplete v state, ?_⟩
    rw [ended]
    refine ⟨rfl, ?_, bkp⟩
    have cause : (if (s.advance t).shedForEnd.rst.low then 2 else 1) + causeAfterHoldup + causeFlushDone =
        if s.rst.low then 0x602 else 0x601 := by
      rw [rst, State.advance_rst]
      cases s.rst.low <;> rfl
    exact cause
  · refine ⟨_, congrArg Host.Outcome.next (if_pos state), rfl, rfl, ?_, rfl⟩
    exact startCause _ _ mv (s.advance t).bkp rfl

end Sys2Proof.Machine
end

section
/-!
PROOFS. The stages of start-up: secure boot, self test, configuration restored (R390, R430 to R432, Table 14.10).
-/

namespace Sys2Proof.Machine

open Sys2Proof

/-! ## The slot that the ROM takes -/

section
variable {s : State} {n : Nat} {r : List Nat}

theorem State.bootTry_valid (valid : (s.sec.slot n).state = .valid) (good : s.sec.bootCheck n = none) :
    s.bootTry (n :: r) = (s, some n) := by
  have noTrial : ¬ (((s.sec.slot n).state = .trial && s.sec.attempts = 0) = true) := by simp [valid]
  unfold State.bootTry
  dsimp only
  rw [if_neg noTrial, if_pos (by simp [valid]), good]

theorem State.bootTry_trial (trial : (s.sec.slot s.sec.preferred).state = .trial) (left : 0 < s.sec.attempts)
    (good : s.sec.bootCheck s.sec.preferred = none) : s.bootTry (s.sec.preferred :: r) = (s, some s.sec.preferred) := by
  have attempts : ¬ (((s.sec.slot s.sec.preferred).state = .trial && s.sec.attempts = 0) = true) := by simp; omega
  unfold State.bootTry
  dsimp only
  rw [if_neg attempts, if_pos (by simp [trial]), good]

theorem State.bootTry_skip (valid : (s.sec.slot n).state ≠ .valid) (trial : (s.sec.slot n).state ≠ .trial) :
    s.bootTry (n :: r) = s.bootTry r := by
  conv_lhs => unfold State.bootTry
  dsimp only
  rw [if_neg (by simp [trial]), if_neg (by simp [valid, trial])]

end

/-- The state once the ROM has accepted slot `n`. -/
def State.bootedFrom (s : State) (n : Nat) : State :=
  let trial := (s.sec.slot n).state = .trial
  let back := decide (s.rst.cause % 256 = 1) || tst s.rst.cause 10
  (s.modSec (fun x =>
    { x with running := n, onTrial := trial, attempts := if trial then x.attempts - 1 else x.attempts, giveBack := trial && back
             dbg := { x.dbg with halted := if x.dbg.haltOnBoot then 7 else 0, haltOnBoot := false } })).modPwr
    (fun q => { q with stage := .booted })

section
variable {s : State} {t : Nat}

theorem State.secureBoot_takes {n : Nat} (takes : (s.modSec SecSt.dirPick).bootTry [s.sec.dirPick.preferred, 1 - s.sec.dirPick.preferred] =
    (s.modSec SecSt.dirPick, some n)) : s.secureBoot = (s.modSec SecSt.dirPick).bootedFrom n := by
  unfold State.secureBoot
  dsimp only
  rw [show (s.modSec SecSt.dirPick).sec.preferred = s.sec.dirPick.preferred from rfl, takes]
  rfl

theorem State.secureBoot_none (none_ : ∀ n, (s.sec.dirPick.slot n).state ≠ .valid ∧ (s.sec.dirPick.slot n).state ≠ .trial) :
    s.secureBoot = { s with sec := s.sec.dirPick, pwr := { s.pwr with stage := .recovery }, host := { s.host with ready := true } } := by
  have takes : (s.modSec SecSt.dirPick).bootTry [s.sec.dirPick.preferred, 1 - s.sec.dirPick.preferred] = (s.modSec SecSt.dirPick, none) := by
    rw [State.bootTry_skip (none_ _).1 (none_ _).2, State.bootTry_skip (none_ _).1 (none_ _).2]; rfl
  unfold State.secureBoot
  dsimp only
  rw [show (s.modSec SecSt.dirPick).sec.preferred = s.sec.dirPick.preferred from rfl, takes]
  rfl

theorem exec_secureBoot_starts (starts : (s.advance t).startsAt .rails = true) :
    exec (.secureBoot t) s = .next (s.advance t).secureBoot :=
  congrArg Host.Outcome.next (if_pos starts)

end

/-! ## The configuration restored -/

/-- The part of the state that a start keeps once the configuration stands: the configuration and the power state. -/
def State.startView (s : State) : CfgSt × PowerSt := (s.cfg, s.pwr)

/-- A view that both branches keep is kept. -/
theorem State.ite_keeps {β : Type} {p : State → β} {c : Prop} [Decidable c] {x y : State} {v : β} (hx : p x = v) (hy : p y = v) :
    p (if c then x else y) = v := by
  split <;> assumption

theorem clearRest_startView (n : Nat) (s : State) : (clearRest n s).startView = s.startView := by
  induction n generalizing s with
  | zero => rfl
  | succ n ih =>
    unfold clearRest
    split
    · dsimp only
      refine (ih _).trans ?_
      split <;> rfl
    · rfl

theorem State.logScan_startView (s : State) (bad : List Nat) : (s.logScan bad).startView = s.startView := by
  unfold State.logScan
  dsimp only
  refine (clearRest_startView _ _).trans ?_
  repeat' split
  all_goals rfl

theorem drainStamps_startView (n : Nat) (s : State) : (drainStamps n s).startView = s.startView := by
  induction n generalizing s with
  | zero => rfl
  | succ n ih =>
    unfold drainStamps
    split
    · exact State.ite_keeps (ih _) rfl
    · rfl

theorem State.evtDrain_startView (s : State) : s.evtDrain.startView = s.startView := by
  rw [s.evtDrain_eq]
  refine (State.each_keeps State.startView (fun u e => ?_) _ 4).trans (drainStamps_startView 32 s)
  unfold State.lostLogged
  dsimp only
  split <;> rfl

theorem State.logNotes_startView (notes : List (Nat × Nat × Nat × Nat)) (s : State) :
    (notes.foldl (fun s x => s.logNode x.1 x.2.1 x.2.2.1 x.2.2.2) s).startView = s.startView := by
  induction notes generalizing s with
  | nil => rfl
  | cons x r ih => exact ih _

theorem State.bootNoted_startView (s : State) : s.bootNoted.startView = s.startView :=
  State.logNotes_startView s.sec.bootNotes (s.modSec (fun x => { x with bootNotes := [] }))

theorem State.bkpNotes_startView (s : State) : s.bkpNotes.startView = s.startView :=
  State.logNotes_startView s.bkp.notes { s with bkp := { s.bkp with notes := [] } }

theorem State.cmpFromTable_startView (s : State) (k : Nat) : (s.cmpFromTable k).startView = s.startView := by
  obtain ⟨l, e, settled⟩ := s.settleEnc_changes k
  unfold State.cmpFromTable State.cmpWindow
  rw [settled]
  dsimp only
  repeat' split
  all_goals rfl

theorem State.dutySettle_startView (s : State) (named : Option Nat) : (s.dutySettle named).startView = s.startView := by
  unfold State.dutySettle State.dutyDefault
  dsimp only
  repeat' split
  all_goals rfl

theorem State.unitsStart_startView (s : State) : s.unitsStart.startView = s.startView := by
  unfold State.unitsStart
  extract_lets m _ s1 s2 s3
  have trains : s2.startView = s.startView := State.each_keeps State.startView State.cmpFromTable_startView s1 8
  have duty : s3.startView = s2.startView := State.dutySettle_startView _ _
  clear_value s3 s2
  exact duty.trans trains

theorem State.driveCell_startView (s : State) (dark : Bool) : (s.driveCell dark).startView = s.startView := by
  obtain ⟨d, h⟩ := s.driveCell_changes dark
  rw [h]; rfl

/-- The first tick is set at or after the instant asked for (R22). -/
theorem State.le_gridFrom (s : State) (t0 : Nat) : t0 ≤ s.gridFrom t0 :=
  (Nat.le_max_left _ _).trans (Nat.le_add_right _ _)

/-- The start up to its notes: the configuration restored, the log scanned, stamps drained, what there is to report logged. -/
def State.startNoted (s : State) (bad : List Nat) (holdMv : Nat) : State :=
  let s0 := s.restoreConfig.modPwr (fun p => { p with holdMv })
  let s1 := ((s0.modPwr (fun p => { p with euUj := s0.euNow })).logScan bad).evtDrain
  let s2 := s1.logNode 0x0E05 6 s1.rst.cause s1.cfg.epoch
  let s3 := if s2.bkp.restarted then
      ({ s2 with bkp := { s2.bkp with restarted := false } }).logNode 0x0801 5 s2.bkp.vbatMv 0
    else s2
  s3.bootNoted.bkpNotes

/-- The units started, the claim period under way, the cell dark. -/
def State.unitsUp (s : State) : State := ((s.unitsStart.claimStart).driveCell true).driveLands

theorem State.startNoted_view (s : State) (bad : List Nat) (mv : Nat) : (s.startNoted bad mv).cfg = s.restoreConfig.cfg ∧
    (s.startNoted bad mv).pwr.startAt = s.pwr.startAt := by
  unfold State.startNoted
  extract_lets s0 s1 s2 _ s3
  have scanned : s1.startView = (s0.modPwr (fun p => { p with euUj := s0.euNow })).startView :=
    (State.evtDrain_startView _).trans (State.logScan_startView _ bad)
  clear_value s1
  have restarted : s3.startView = s1.startView := State.ite_keeps rfl rfl
  clear_value s3
  have noted : s3.bootNoted.bkpNotes.startView = s3.startView := (State.bkpNotes_startView _).trans s3.bootNoted_startView
  have view := noted.trans (restarted.trans scanned)
  exact ⟨congrArg Prod.fst view, congrArg (fun v => v.2.startAt) view⟩

theorem State.unitsUp_view (s : State) : s.unitsUp.startView = s.startView := by
  have units := s.unitsStart_startView
  unfold State.unitsUp
  generalize s.unitsStart = u at units
  exact (u.claimStart.driveCell_startView true).trans units

theorem State.configRestored_eq (s : State) (bad : List Nat) (mv : Nat) : s.configRestored bad mv =
    let u := (s.startNoted bad mv).unitsUp
    State.framesStart { u with host := { u.host with ready := true }, pwr := { u.pwr with stage := .restored } }
      (u.pwr.startAt + ms 120) := by
  unfold State.configRestored State.startNoted State.unitsUp
  with_reducible rfl

/-- What a start leaves, whatever the log and the backup domain had to report. -/
theorem State.configRestored_does (s : State) (bad : List Nat) (mv : Nat) : (s.configRestored bad mv).cfg = s.restoreConfig.cfg ∧
    (s.configRestored bad mv).pwr.stage = .restored ∧ (s.configRestored bad mv).host.ready = true ∧
    (s.configRestored bad mv).frame.running = true ∧ s.pwr.startAt + 120000000 ≤ (s.configRestored bad mv).frame.nextTick := by
  obtain ⟨cfg, startAt⟩ := s.startNoted_view bad mv
  have units := (s.startNoted bad mv).unitsUp_view
  rw [s.configRestored_eq]
  generalize (s.startNoted bad mv) = v at cfg startAt units
  generalize v.unitsUp = u at units
  obtain ⟨sameCfg, samePwr⟩ := Prod.mk.inj units
  refine ⟨sameCfg.trans cfg, rfl, rfl, rfl, ?_⟩
  rw [← startAt, ← samePwr]
  exact (congrArg (u.pwr.startAt + ·) (rfl : 120000000 = ms 120)).trans_le (State.le_gridFrom _ _)

/-- The configuration of the copy that the selector names (R44, R73). -/
theorem State.restoreConfig_selected {s : State} {c : Selector} {m : Bool} (sel : s.cfg.selector = some (c, m)) :
    s.restoreConfig.cfg = { s.cfg with img := if c.copy = 0 then s.cfg.copy0 else s.cfg.copy1, epoch := c.epoch,
                                       roles := if c.copy = 0 then s.cfg.roles0 else s.cfg.roles1 } := by
  unfold State.restoreConfig
  rw [sel]

theorem State.eraseBegin_none {s : State} (h : s.sec.erasure = none) : s.eraseBegin = s := by
  unfold State.eraseBegin
  rw [h]

/-! ## The stages -/

section
variable {s : State} {t : Nat}

theorem exec_secureBoot_accepts {n : Nat} (starts : (s.advance t).startsAt .rails = true)
    (takes : ((s.advance t).modSec SecSt.dirPick).bootTry [s.sec.dirPick.preferred, 1 - s.sec.dirPick.preferred] =
      ((s.advance t).modSec SecSt.dirPick, some n)) :
    exec (.secureBoot t) s = .next (((s.advance t).modSec SecSt.dirPick).bootedFrom n) :=
  (exec_secureBoot_starts starts).trans (congrArg Host.Outcome.next (State.secureBoot_takes takes))

theorem exec_secureBoot_none (starts : (s.advance t).startsAt .rails = true)
    (none_ : ∀ n, (s.sec.dirPick.slot n).state ≠ .valid ∧ (s.sec.dirPick.slot n).state ≠ .trial) :
    exec (.secureBoot t) s = .next { s.advance t with
      sec := s.sec.dirPick, pwr := { s.pwr with stage := .recovery }, host := { s.host with ready := true } } :=
  (exec_secureBoot_starts starts).trans (congrArg Host.Outcome.next (State.secureBoot_none none_))

theorem exec_selfTest_passes (starts : (s.advance t).startsAt .booted = true) (noErasure : s.sec.erasure = none) :
    exec (.selfTest t) s = .next { s.advance t with
      pwr := { s.pwr with stage := .tested },
      sec := { s.sec with attempts := s.sec.attempts + (if s.sec.giveBack then 1 else 0), giveBack := false } } :=
  congrArg Host.Outcome.next ((if_pos starts).trans (State.eraseBegin_none noErasure))

theorem exec_configRestored (bad : List Nat) (mv : Nat) (starts : (s.advance t).startsAt .tested = true) (noErasure : s.sec.erasure = none) :
    exec (.configRestored t bad mv) s = .next ((s.advance t).configRestored bad mv) := by
  refine congrArg Host.Outcome.next (if_pos ?_)
  rw [starts, Bool.true_and, State.advance_sec, noErasure, Option.isNone_none]

theorem exec_secureBoot_other (other : (s.advance t).startsAt .rails = false) : exec (.secureBoot t) s = .next (s.advance t) :=
  congrArg Host.Outcome.next (if_neg (by rw [other]; exact Bool.false_ne_true))

theorem exec_selfTest_other (other : (s.advance t).startsAt .booted = false) : exec (.selfTest t) s = .next (s.advance t) :=
  congrArg Host.Outcome.next (if_neg (by rw [other]; exact Bool.false_ne_true))

theorem exec_configRestored_other (bad : List Nat) (mv : Nat) (other : (s.advance t).startsAt .tested = false) :
    exec (.configRestored t bad mv) s = .next (s.advance t) :=
  congrArg Host.Outcome.next (if_neg (by rw [other, Bool.false_and]; exact Bool.false_ne_true))

end

/-- Settles O27: the ROM takes the preferred slot when it passes its checks (a trial costs an attempt), the recovery port when no slot
can be taken; each later stage acts on the stage before it alone. -/
theorem startUpStages : Obligations.StartUpStages := by
  intro s t a x
  refine ⟨fun starts valid good => ?_, fun starts trial left good => ?_, exec_secureBoot_none, exec_selfTest_passes,
    fun bad mv starts noErasure => ?_, fun bad mv noRails noBooted noTested =>
      ⟨exec_secureBoot_other noRails, exec_selfTest_other noBooted, exec_configRestored_other bad mv noTested⟩⟩
  · have noTrial : (x.slot x.preferred).state ≠ .trial := by simp [valid]
    exact ⟨_, exec_secureBoot_accepts starts (State.bootTry_valid valid good), rfl, rfl, decide_eq_false noTrial, if_neg noTrial, rfl⟩
  · exact ⟨_, exec_secureBoot_accepts starts (State.bootTry_trial trial left good), rfl, rfl, decide_eq_true trial, if_pos trial,
      (congrArg (· && _) (decide_eq_true trial)).trans (Bool.true_and _)⟩
  · obtain ⟨cfg, stage, ready, running, tick⟩ := (s.advance t).configRestored_does bad mv
    rw [State.advance_pwr] at tick
    refine ⟨_, exec_configRestored bad mv starts noErasure, stage, ready, running, tick, fun c m sel => ?_⟩
    rw [cfg, State.restoreConfig_selected (s := a) sel]
    exact ⟨rfl, rfl, rfl⟩

end Sys2Proof.Machine
end

section
/-!
PROOFS. Arming, SAFE, STANDBY at a tick and the wake from it (R387 to R389, R396, R397, Table 14.8).
-/

namespace Sys2Proof.Machine

open Sys2Proof

/-! ## What the end of a frame leaves -/

theorem State.foldl_keeps {α β : Type} {f : State → α → State} (p : State → β) (h : ∀ u x, p (f u x) = p u) (l : List α) (s : State) :
    p (l.foldl f s) = p s := by
  induction l generalizing s with
  | nil => rfl
  | cons x r ih => exact (ih _).trans (h s x)

/-- The part of the state that the end of a frame leaves: security, the request that executes, the number of banks. -/
def State.tickView (s : State) : SecSt × Option Flight × Nat := (s.sec, s.host.cur, s.banks.length)

theorem State.complete_tickView (s : State) (f : Flight) (st : Status) (d : Nat) (p : List Byte) :
    (s.complete f st d p).tickView = s.tickView := by
  obtain ⟨_, _, _, _, h⟩ := s.complete_changes f st d p
  rw [h]; rfl

theorem State.endWaits_tickView (s : State) (sel : WaitKind → Option (Status × Nat × List Byte)) :
    (s.endWaits sel).tickView = s.tickView := by
  unfold State.endWaits
  have list : ∀ (l : List Wait) (u : State), (completeList sel l u).tickView = u.tickView := fun l => by
    induction l with
    | nil => exact fun _ => rfl
    | cons w r ih =>
      intro u
      refine (ih _).trans ?_
      split
      · exact u.complete_tickView _ _ _ _
      · rfl
  exact list _ _

theorem State.objDue_tickView (s : State) (j : Nat) : (s.objDue j).tickView = s.tickView := by
  unfold State.objDue State.objLoad
  split
  · refine State.ite_keeps rfl ?_
    exact State.foldl_keeps State.tickView (fun u b => by split <;> rfl) _ _
  · rfl

theorem State.cause_tickView (s : State) (i : Nat) : (s.cause i).tickView = s.tickView := rfl

theorem State.expireHold_tickView (s : State) : s.expireHold.tickView = s.tickView := by
  unfold State.expireHold
  split <;> rfl

theorem State.pagesTick_tickView (s : State) (pub : Bool) (r : TickRead) : (s.pagesTick pub r).tickView = s.tickView := by
  unfold State.pagesTick
  extract_lets run busy _ f take ps s1 s2
  have caused : (if f.hold = .requested then s1.cause 1 else s1).tickView = s.tickView := State.ite_keeps rfl rfl
  have held : s2.tickView = s.tickView := (State.expireHold_tickView _).trans caused
  clear_value s2
  exact held

theorem State.modBank_tickView (s : State) (b : Nat) (f : BankSt → BankSt) : (s.modBank b f).tickView = s.tickView :=
  congrArg (fun n => (s.sec, s.host.cur, n)) (modAt_length s.banks b f)

theorem State.sendBlocks_tickView (s : State) (seq : Nat) : (s.sendBlocks seq).tickView = s.tickView :=
  State.each_keeps State.tickView (fun u b => u.modBank_tickView b _) s 8

theorem answerShown_tickView (l : List LiveCmd) (s : State) : (answerShown l s).tickView = s.tickView := by
  induction l generalizing s with
  | nil => rfl
  | cons c r ih =>
    refine (ih _).trans ?_
    split
    · exact State.ite_keeps (s.complete_tickView _ _ _ _) rfl
    · rfl

theorem State.release_tickView (s : State) : s.release.tickView = s.tickView := by
  unfold State.release
  extract_lets s2 s3 live
  have sent : s2.tickView = s.tickView := State.foldl_keeps State.tickView (fun u m => by
    obtain ⟨_, h⟩ := u.sendProto_changes m.bus m.prio m.cls m.index m.body .other
    rw [h]; rfl) _ _
  have ended : s3.tickView = s2.tickView := s2.endWaits_tickView _
  exact (answerShown_tickView _ _).trans (ended.trans sent)

theorem State.bindRegion_tickView (s : State) (r : Nat) : (s.bindRegion r).tickView = s.tickView := by
  unfold State.bindRegion
  dsimp only
  refine State.ite_keeps rfl (State.ite_keeps rfl ?_)
  split <;> rfl

theorem State.releaseRecs_tickView (s : State) : s.releaseRecs.tickView = s.tickView :=
  State.foldl_keeps (f := State.enterRec) State.tickView (fun _ _ => rfl) s.frameRecs { s with frameRecs := [] }

theorem State.publish_tickView (s : State) (r : TickRead) : (s.publish r).tickView = s.tickView := by
  unfold State.publish
  extract_lets s0 s1 s2 _ s3
  have recs : s0.tickView = s.tickView := s.releaseRecs_tickView
  have alarm : s1.tickView = s.tickView := State.ite_keeps recs recs
  clear_value s1
  have pages : s2.tickView = s.tickView := (State.pagesTick_tickView _ _ _).trans alarm
  clear_value s2
  have shown : s3.tickView = s.tickView := pages
  clear_value s3
  refine (State.foldl_keeps State.tickView State.bindRegion_tickView _ _).trans ?_
  exact (State.release_tickView _).trans ((State.cause_tickView _ 10).trans ((s3.sendBlocks_tickView _).trans shown))

theorem State.tickEnd_tickView (s : State) (r : TickRead) : (s.tickEnd r).tickView = s.tickView := by
  unfold State.tickEnd
  extract_lets pub s1 s2 _ s3
  have flushed : s1.tickView = s.tickView := State.each_keeps State.tickView State.objDue_tickView s 128
  clear_value s1
  have ended : s2.tickView = s.tickView :=
    State.ite_keeps ((s1.publish_tickView r).trans flushed) ((s1.pagesTick_tickView _ r).trans flushed)
  clear_value s2
  exact ended

/-! ## The entry to STANDBY (R389, R417) -/

/-- The node in STANDBY with its frames stopped and its display driven dark. -/
def State.standbyDark (s : State) : State :=
  let s0 := ((s.setState .standby 7).modPwr (fun p => { p with standbyPend := false, shed := [] })).framesStop
  ((s0.modDisp (fun d => { d with regions := d.regions.map (fun r => { r with toggle := none }) })).driveCell true).driveLands

/-- Outputs, buses and call chains off, the charger on its share. -/
def State.standbyLines (s : State) : State := ((s.outsOff.busesOff).chainsIdle).standbyCharge

/-- The banks go down, or wait for the cell to be dark. -/
def State.standbyDown (s : State) : State :=
  if s.disp.cellRun.isSome then s.modPwr (fun p => { p with banksPend := true }) else s.standbyBanks

/-- Annunciator outputs and the relay follow, halts are lifted and a `FULL` session is reduced. -/
def State.standbyEdge (s : State) : State :=
  ((s.each 8 State.aoApply).nokUpdate).modDbg (fun d =>
    { d with halted := 0, haltPend := 0, session := d.session.map (fun (x : Session) =>
      { x with level := if x.level = .full then .observe else x.level }) })

theorem State.enterStandby_eq (s : State) : s.enterStandby =
    let u := s.standbyDark.standbyLines.standbyDown.standbyEdge
    if u.sec.dbg.extest then u.debugReset else u := by
  unfold State.enterStandby State.standbyDark State.standbyLines State.standbyDown State.standbyEdge
  with_reducible rfl

/-- What of the state the entry to STANDBY settles at its beginning. -/
structure StandbyView where
  state : NodeState
  standbyPend : Bool
  running : Bool
  extest : Bool
  banks : Nat

/-- The view of a state. -/
def State.standbyView (s : State) : StandbyView :=
  { state := s.pwr.state, standbyPend := s.pwr.standbyPend, running := s.frame.running, extest := s.sec.dbg.extest, banks := s.banks.length }

theorem State.setState_standby_sec (s : State) (cause : Nat) : (s.setState .standby cause).sec = s.sec := by
  unfold State.setState
  dsimp only
  obtain ⟨l, e, h⟩ := State.eachSuspend_changes (((s.modPwr (fun p => { p with
    state := .standby, cause := cause, armedSince := if NodeState.standby = .armed then some s.clk.now else none,
    safePend := if NodeState.standby = .armed then p.safePend else none })).cause 3).logNode 0x0A01
      (if NodeState.standby = .safe then 6 else 5) (s.pwr.state.code * 256 + NodeState.standby.code) cause) 8
  rw [h]
  rfl

theorem State.standbyView_standbyDark (s : State) : s.standbyDark.standbyView =
    { state := .standby, standbyPend := false, running := false, extest := s.sec.dbg.extest, banks := s.banks.length } := by
  unfold State.standbyDark
  extract_lets s0
  have entered : s0.standbyView =
      { state := .standby, standbyPend := false, running := false, extest := s.sec.dbg.extest, banks := s.banks.length } := by
    have pwr := s.setState_pwr .standby 7
    have sec := s.setState_standby_sec 7
    have banks := s.setState_banks .standby 7
    unfold s0
    generalize s.setState .standby 7 = u at pwr sec banks
    rw [← sec, ← banks]
    exact congrArg (fun p : PowerSt => (⟨p.state, false, false, u.sec.dbg.extest, u.banks.length⟩ : StandbyView)) pwr
  clear_value s0
  obtain ⟨d, cell⟩ := (s0.modDisp (fun d => { d with regions := d.regions.map (fun r => { r with toggle := none }) })).driveCell_changes true
  rw [cell]
  exact entered

theorem State.standbyView_modOut (s : State) (n : Nat) (f : OutSt → OutSt) : (s.modOut n f).standbyView = s.standbyView := rfl

theorem State.standbyView_standbyLines (s : State) : s.standbyLines.standbyView = s.standbyView := by
  unfold State.standbyLines
  have outs : s.outsOff.standbyView = s.standbyView := by
    unfold State.outsOff
    exact State.each_keeps State.standbyView (fun u n => u.standbyView_modOut n _) s 64
  generalize s.outsOff = u at outs
  exact outs

theorem State.standbyLines_ctl (s : State) : ∀ c ∈ s.standbyLines.bus.ctl, c.state = .off := s.outsOff.busesOff_ctl

/-- The controllers by their states. -/
def State.ctlStates (s : State) : List BusState := s.bus.ctl.map (fun c => c.state)

theorem State.ctlStates_off {s : State} : (∀ c ∈ s.bus.ctl, c.state = .off) ↔ ∀ x ∈ s.ctlStates, x = .off := by
  unfold State.ctlStates
  simp only [List.mem_map, forall_exists_index, and_imp, forall_apply_eq_imp_iff₂]

theorem map_modAt {α β : Type} {g : α → β} {f : α → α} (same : ∀ x, g (f x) = g x) (l : List α) (i : Nat) :
    (modAt l i f).map g = l.map g := by
  rw [modAt_eq_mapIdx]
  refine List.ext_getElem (by simp) (fun j lt _ => ?_)
  simp only [List.getElem_map, List.getElem_mapIdx]
  split
  · exact same _
  · rfl

theorem State.ctlStates_sendProto (s : State) (b prio cls index : Nat) (body : List Byte) (role : TxRole) :
    (s.sendProto b prio cls index body role).ctlStates = s.ctlStates := by
  unfold State.sendProto
  dsimp only
  split
  · have push : ∀ (c : BusCtl) f r, (c.push f r).state = c.state := fun c f r => by unfold BusCtl.push; split <;> rfl
    exact map_modAt (fun c => push c _ _) _ _
  · rfl

/-- A response to a node goes into the buffers of a controller, and changes no controller's state. -/
theorem State.ctlStates_complete (s : State) (f : Flight) (st : Status) (d : Nat) (p : List Byte) :
    (s.complete f st d p).ctlStates = s.ctlStates := by
  unfold State.complete
  extract_lets r _ s1
  split
  · rfl
  split
  · rfl
  split
  · unfold State.sendCulvert
    exact State.foldl_keeps State.ctlStates (fun u x => u.ctlStates_sendProto _ _ _ _ _ _) _ s1
  · rfl

theorem State.standbyView_modBank (s : State) (b : Nat) (f : BankSt → BankSt) : (s.modBank b f).standbyView = s.standbyView :=
  congrArg (fun n => ({ s.standbyView with banks := n } : StandbyView)) (modAt_length s.banks b f)

theorem State.standbyView_complete (s : State) (f : Flight) (st : Status) (d : Nat) (p : List Byte) :
    (s.complete f st d p).standbyView = s.standbyView := by
  obtain ⟨_, _, _, _, h⟩ := s.complete_changes f st d p
  rw [h]; rfl

theorem State.standbyView_standbyBanks (s : State) : s.standbyBanks.standbyView = s.standbyView := by
  have down : (s.each 8 (fun s b => s.bankDown b .off)).standbyView = s.standbyView :=
    State.each_keeps State.standbyView (fun u k => State.bankDown_keeps (fun _ _ _ => rfl) State.standbyView_complete
      State.standbyView_modBank (fun _ _ _ => rfl) (fun _ _ _ => rfl) u k .off) s 8
  unfold State.standbyBanks
  generalize s.each 8 (fun s b => s.bankDown b .off) = u at down
  exact down

theorem State.standbyView_standbyDown (s : State) : s.standbyDown.standbyView = s.standbyView :=
  State.ite_keeps rfl s.standbyView_standbyBanks

theorem State.ctlStates_standbyDown (s : State) : s.standbyDown.ctlStates = s.ctlStates :=
  State.ite_keeps rfl (State.standbyBanks_keeps (fun _ _ _ => rfl) State.ctlStates_complete (fun _ _ _ => rfl) (fun _ _ _ => rfl)
    (fun _ _ _ => rfl) (fun _ _ => rfl) s)

theorem State.disp_standbyDown (s : State) : s.standbyDown.disp = s.disp :=
  State.ite_keeps (p := State.disp) rfl (State.standbyBanks_keeps (fun _ _ _ => rfl) State.complete_disp (fun _ _ _ => rfl)
    (fun _ _ _ => rfl) (fun _ _ _ => rfl) (fun _ _ => rfl) s)

theorem State.standbyBanks_off {s : State} (eight : s.banks.length = 8) : ∀ k ∈ s.standbyBanks.banks, k.power = .off := by
  unfold State.standbyBanks
  rw [State.modPwr_banks]
  exact State.eachBankDown_off eight

theorem State.standbyDown_banks {s : State} (eight : s.banks.length = 8) (dark : s.disp.cellRun = none) :
    ∀ k ∈ s.standbyDown.banks, k.power = .off := by
  unfold State.standbyDown
  rw [if_neg (by rw [dark]; exact Bool.false_ne_true)]
  exact State.standbyBanks_off eight

theorem State.standbyDown_pends {s : State} (runs : s.disp.cellRun.isSome = true) : s.standbyDown.pwr.banksPend = true := by
  unfold State.standbyDown
  rw [if_pos runs]
  rfl

theorem State.standbyEdge_changes (s : State) : ∃ a n d, s.standbyEdge =
    { s with aos := a, nok := n, sec := { s.sec with dbg := d } } ∧ d.extest = s.sec.dbg.extest := by
  have outs : ∃ a, s.each 8 State.aoApply = { s with aos := a } :=
    State.each_induction (fun _ u => ∃ a, u = ({ s with aos := a } : State)) 8 ⟨_, rfl⟩ (by
      rintro k _ ⟨a, rfl⟩
      exact ⟨_, rfl⟩)
  obtain ⟨a, h⟩ := outs
  unfold State.standbyEdge
  rw [h]
  exact ⟨_, _, _, rfl, rfl⟩

/-- The node enters STANDBY; with `EXTEST` off there is no reset (R389, R417). -/
theorem State.enterStandby_does {s : State} (eight : s.banks.length = 8) (still : s.sec.dbg.extest = false) :
    s.enterStandby.pwr.state = .standby ∧ s.enterStandby.pwr.standbyPend = false ∧ s.enterStandby.frame.running = false ∧
    (s.enterStandby.disp.cellRun = none → ∀ k ∈ s.enterStandby.banks, k.power = .off) ∧
    (∀ c ∈ s.enterStandby.bus.ctl, c.state = .off) ∧
    (s.enterStandby.disp.cellRun.isSome = true → s.enterStandby.pwr.banksPend = true) := by
  have view := (State.standbyView_standbyLines _).trans s.standbyView_standbyDark
  have off := State.ctlStates_off.1 s.standbyDark.standbyLines_ctl
  rw [s.enterStandby_eq]
  generalize s.standbyDark.standbyLines = u at view off
  have downCtl := u.ctlStates_standbyDown
  have downDisp := u.disp_standbyDown
  obtain ⟨state, standbyPend, running, extest, banks⟩ := StandbyView.mk.inj view
  obtain ⟨state', standbyPend', running', extest', -⟩ := StandbyView.mk.inj u.standbyView_standbyDown
  obtain ⟨a, n, d, edge, same⟩ := u.standbyDown.standbyEdge_changes
  rw [← downCtl] at off
  have banksOff : u.standbyDown.disp.cellRun = none → ∀ k ∈ u.standbyDown.banks, k.power = .off := fun dark =>
    State.standbyDown_banks (banks.trans eight) (downDisp ▸ dark)
  have pends : u.standbyDown.disp.cellRun.isSome = true → u.standbyDown.pwr.banksPend = true := fun runs =>
    State.standbyDown_pends (downDisp ▸ runs)
  generalize u.standbyDown = v at *
  dsimp only
  rw [edge, if_neg (by dsimp only; rw [same, extest', extest, still]; exact Bool.false_ne_true)]
  exact ⟨state'.trans state, standbyPend'.trans standbyPend, running'.trans running, banksOff, State.ctlStates_off.2 off, pends⟩

/-! ## SYS_ARM, SYS_SAFE and the tick (R387, R396, R397) -/

section
variable {s : State} {t tag : Nat} {f : Flight}

theorem State.sysArm_armed (armed : s.pwr.state = .armed) : s.sysArm f = s.complete f .ok 1 (le8 4 ++ zeros 3) := if_pos armed

theorem State.sysArm_refused (other : s.pwr.state ≠ .armed) (shut : s.fullSession = true ∨ s.frame.sinceSlip < 16) :
    s.sysArm f = s.complete f .notPermitted 1 [] := by
  unfold State.sysArm
  rw [if_neg other, if_pos (by simpa using shut), State.refuse_eq (by decide)]

theorem State.sysArm_goes (other : s.pwr.state ≠ .armed) (noFull : s.fullSession = false) (runs : 16 ≤ s.frame.sinceSlip)
    (energy : s.reserveUj ≤ s.pwr.euUj) : s.sysArm f = s.addLive (.nodeState true) f := by
  unfold State.sysArm
  rw [if_neg other, if_neg (by simpa [noFull] using runs), if_neg (by omega)]

theorem State.sysSafe_safe (safe : s.pwr.state = .safe) : s.sysSafe f = s.complete f .ok 1 (le8 5 ++ zeros 3) := if_pos safe

theorem State.sysSafe_starting (starting : s.pwr.state = .starting) :
    s.sysSafe f = ({ s with pwr := { s.pwr with startSafe := true } } : State).wait f .nodeState := by
  unfold State.sysSafe
  rw [if_neg (by simp [starting]), if_pos starting]
  rfl

theorem State.sysSafe_armed (armed : s.pwr.state = .armed) : s.sysSafe f = s.addLive (.nodeState false) f := by
  unfold State.sysSafe
  rw [if_neg (by simp [armed]), if_neg (by simp [armed])]

theorem State.setState_state (s : State) (st : NodeState) (cause : Nat) : (s.setState st cause).pwr.state = st := by
  rw [s.setState_pwr]
  rfl

theorem State.endLive_pwr (s : State) (c : LiveCmd) (st : Status) (d : Nat) (p : List Byte) : (s.endLive c st d p).pwr = s.pwr := rfl

variable {c : LiveCmd}

/-- A request to arm is the only live one: a `FULL` session refuses it (R441). -/
theorem State.stateLive_arm (one : s.live = [c]) (kind : c.kind = .nodeState true) (fresh : c.applied = none) (safe : s.pwr.state = .safe) :
    s.stateLive.pwr.state = if s.fullSession then .safe else .armed := by
  unfold State.stateLive
  rw [one, List.foldl_cons, List.foldl_nil, kind, fresh]
  dsimp only
  cases full : s.fullSession
  · simp only [Bool.and_false, if_pos safe, Bool.false_eq_true, if_false, if_true, State.endLive_pwr]
    exact s.setState_state .armed 1
  · simp only [Bool.and_true, if_true, State.endLive_pwr]
    exact safe

theorem State.stateLive_safe (one : s.live = [c]) (kind : c.kind = .nodeState false) (fresh : c.applied = none)
    (armed : s.pwr.state = .armed) : s.stateLive.pwr.state = .safe := by
  unfold State.stateLive
  rw [one, List.foldl_cons, List.foldl_nil, kind, fresh]
  simp only [Bool.false_and, if_pos armed, Bool.false_eq_true, if_false, State.endLive_pwr]
  exact s.setState_state .safe 1

theorem State.armTick_met (met : s.armingMet = true) : s.armTick.pwr.state = (if s.pwr.startSafe || s.startSafeOpt then .safe else .armed) ∧
    s.armTick.pwr.startSafe = false := by
  unfold State.armTick
  rw [if_pos met]
  extract_lets s1
  have entered : s1.pwr.state = if s.pwr.startSafe || s.startSafeOpt then .safe else .armed := by
    unfold s1
    cases s.pwr.startSafe <;> cases s.startSafeOpt <;> simp [PowerSt.entered]
  unfold State.stateEntered
  rw [State.endWaits_pwr]
  exact ⟨entered, rfl⟩

/-! ## The rows -/

theorem exec_standbyDwell_over {x : Nat} (since : s.pwr.armedSince = some x) (armed : s.pwr.state = .armed) (set : s.pwr.dwell ≠ 0)
    (due : x + s.pwr.dwell * 1000000000 ≤ (s.advance t).clk.now) : exec (.standbyDwell t) s =
      .next { s.advance t with pwr := { s.pwr with standbyPend := true } } := by
  refine congrArg Host.Outcome.next ?_
  rw [State.advance_pwr, since]
  have elapsed : x + secs s.pwr.dwell ≤ (s.advance t).clk.now := due
  dsimp only
  rw [if_pos (by simpa [armed, set] using elapsed)]
  rfl

theorem exec_standbyEntry_due {r : TickRead} (runs : s.frame.running = true) (due : s.frame.nextTick ≤ (s.advance t).clk.now)
    (pend : s.pwr.standbyPend = true) :
    exec (.standbyEntry { t := t, read := r }) s = .next ((s.advance t).tickEnd r).enterStandby := by
  refine congrArg Host.Outcome.next (if_pos ?_)
  rw [State.advance_frame, State.advance_pwr, runs, pend, decide_eq_true due]
  rfl

theorem exec_armingConditions_due (runs : s.frame.running = true) (due : s.frame.nextTick ≤ (s.advance t).clk.now) :
    let u := ({ s.advance t with frame := { s.frame with
      pubRun := if (s.advance t).published && s.frame.settled then s.frame.pubRun + 1 else s.frame.pubRun } } : State).armTick
    exec (.armingConditions t) s = .next { u with frame := { u.frame with pubRun := s.frame.pubRun } } := by
  refine congrArg Host.Outcome.next (if_pos ?_)
  rw [State.advance_frame, runs, decide_eq_true due]
  rfl

end

/-- Settles O28: requests to arm and to go to SAFE, the live ones at their tick, the dwell, the entry to STANDBY with outputs and buses
off and the banks down once the cell is dark, the end of STARTING, the wake. -/
theorem nodeStates : Obligations.NodeStates := by
  intro s t tag f a b
  refine ⟨fun he armed => exec_row_eq rfl he (State.sysArm_armed armed),
    fun he other noFull slip energy => exec_row_eq rfl he (State.sysArm_goes other noFull slip energy),
    fun he other shut => exec_row_eq rfl he (State.sysArm_refused other shut),
    fun he safe => exec_row_eq rfl he (State.sysSafe_safe safe),
    fun he starting => exec_row_eq rfl he (State.sysSafe_starting starting),
    fun he armed => exec_row_eq rfl he (State.sysSafe_armed armed),
    fun c => State.stateLive_arm, fun c => State.stateLive_safe,
    fun he => ⟨_, exec_row_eq rfl he rfl, congrArg (fun p : PowerSt =>
      ({ a.ok f [] with pwr := { p with standbyPend := true, dwell := u32At f.req 16 } } : State)) (a.complete_pwr f .ok 0 [])⟩,
    fun x => exec_standbyDwell_over, fun r runs due pend eight still => ?_, fun run runs due hrun met => ?_, fun he standby => ?_⟩
  · have view := (s.advance t).tickEnd_tickView r
    obtain ⟨sec, cur_banks⟩ := Prod.mk.inj view
    obtain ⟨-, banks⟩ := Prod.mk.inj cur_banks
    obtain ⟨state, noPend, stopped, off, buses, pends⟩ := State.enterStandby_does (banks.trans eight) (sec ▸ still)
    exact ⟨_, exec_standbyEntry_due runs due pend, state, noPend, stopped, off, buses, pends⟩
  · subst hrun
    obtain ⟨state, noSafe⟩ := State.armTick_met met
    exact ⟨_, exec_armingConditions_due runs due, state, noSafe⟩
  · obtain ⟨state, cause, startAt, running, seq, cfg, -⟩ := State.wake_standby (s := s.acting t) standby
    refine ⟨_, exec_row_eq rfl he rfl, state, cause, startAt, running, seq, congrArg CfgSt.img cfg⟩

end Sys2Proof.Machine
end

section
/-!
PROOFS. The hold-up capacitor from its step test to its ledger, the input limit, shedding, the claim list (R370, R373 to R377, R385).
-/

namespace Sys2Proof.Machine

open Sys2Proof

/-! ## The step test (R373, R374, R377) -/

section
variable {s : State} {t tag : Nat} {f : Flight}

/-- `PWR_HOLD_TEST` while no test runs. -/
def State.holdTestReq (f : Flight) (s : State) : State :=
  if s.pwr.testRun then
    s.refuse f (.busy, (match s.host.waits.find? (fun w => w.kind = .holdTest) with
      | some w => w.fl.origin.code | none => 0x41), [])
  else if s.pwr.holdMv < 8000 then s.refuse f (.notPermitted, 1, [])
  else ({ s with pwr := { s.pwr with testDue := true } }).wait f .holdTest

theorem State.holdTestReq_goes (idle : s.pwr.testRun = false) (volts : 8000 ≤ s.pwr.holdMv) :
    s.holdTestReq f = ({ s with pwr := { s.pwr with testDue := true } } : State).wait f .holdTest := by
  unfold State.holdTestReq
  rw [if_neg (by simp [idle]), if_neg (by omega)]

theorem State.holdTestReq_low (idle : s.pwr.testRun = false) (volts : s.pwr.holdMv < 8000) :
    s.holdTestReq f = s.complete f .notPermitted 1 [] := by
  unfold State.holdTestReq
  rw [if_neg (by simp [idle]), if_pos volts, State.refuse_eq (by decide)]

theorem State.testStarts_iff : s.testStarts = true ↔
    (s.frame.running = true ∧ s.pwr.testDue = true ∧ s.pwr.testOk = true ∨ s.frame.running = false ∧ s.testDue s.pwr.holdMv = true) ∧
      s.churnRuns = false ∧ s.pwr.state ≠ .holdup ∧ 8000 ≤ s.pwr.holdMv ∧ s.pwr.testRun = false := by
  unfold State.testStarts
  cases s.frame.running <;> simp [and_assoc]

theorem exec_stepTest_starts (starts : (s.advance t).testStarts = true) : exec (.stepTest t) s = .next { s.advance t with
    pwr := { s.pwr with testDue := false, testOk := false, testRun := true, testAt := some (s.advance t).clk.now } } :=
  congrArg Host.Outcome.next (if_pos starts)

theorem exec_stepTest_other (other : ¬ (s.advance t).testStarts = true) : exec (.stepTest t) s = .next (s.advance t) :=
  congrArg Host.Outcome.next (if_neg other)

theorem State.chargerRuns_test (runs : s.pwr.testRun = true) : s.chargerRuns = false := by
  simp [State.chargerRuns, runs]

theorem State.judgeCap_pwr (s : State) (c esr : Nat) : (s.judgeCap c esr).pwr = { s.pwr with
    degraded := decide (c < budget16 s.cfg.img 12 1000) || decide (budget16 s.cfg.img 14 200 < esr), absent := decide (c < 100) } := by
  unfold State.judgeCap
  extract_lets bad gone _ s1 s2
  have judged : s2.pwr = s1.pwr := State.ite_keeps (p := State.pwr) rfl rfl
  exact State.ite_keeps (p := State.pwr) judged judged

/-- The power state once a test has been measured, before HOLD and the judgement. -/
def PowerSt.tested (p : PowerSt) (r : Nat × Nat) (ts : Nat) : PowerSt :=
  { p with testRun := false, measured := true, cTest := r.1, esrTest := r.2, cLedger := none, testTs := ts }

theorem State.euNow_absent (absent : s.pwr.absent = true) : s.euNow = 0 := if_pos absent

/-- The state judged on a test, before its requests are answered. -/
def State.holdJudged (s : State) (v0 v1 v2 v3 : Nat) : State :=
  let r := testResult v0 v1 v2 v3
  let s1 := ({ s with pwr := s.pwr.tested r s.nowTs }).logNode 0x0A03 2 r.1 r.2
  (if s.frame.running then s1 else s1.takeHold (v3 / 1000)).judgeCap r.1 r.2

/-- What a test that completes leaves (Table 14.3). -/
theorem State.holdJudged_pwr (s : State) (v0 v1 v2 v3 : Nat) : let r := testResult v0 v1 v2 v3
    let p := s.pwr.tested r s.nowTs
    (s.holdJudged v0 v1 v2 v3).pwr = { (if s.frame.running then p else { p with
        holdMv := v3 / 1000, full := s.fullAt (v3 / 1000), charging := !s.fullAt (v3 / 1000),
        chargeFrom := if s.fullAt (v3 / 1000) then none else match s.pwr.chargeFrom with | some t => some t | none => some s.clk.now }) with
      degraded := decide (r.1 < budget16 s.cfg.img 12 1000) || decide (budget16 s.cfg.img 14 200 < r.2), absent := decide (r.1 < 100) } := by
  intro r p
  unfold State.holdJudged
  dsimp only
  rw [State.judgeCap_pwr]
  cases s.frame.running <;> rfl

/-- The requests for a test, with the answer it gives. -/
def holdTestAnswer (r : Nat × Nat) (eu : Nat) (k : WaitKind) : Option (Status × Nat × List Byte) :=
  if k = .holdTest then some (.ok, 0, le16 r.1 ++ le16 r.2 ++ le32 (eu / 1000)) else none

theorem State.holdMeasured_eq (v0 v1 v2 v3 : Nat) (runs : s.pwr.testRun = true) : s.holdMeasured v0 v1 v2 v3 =
    let u := s.holdJudged v0 v1 v2 v3
    State.endWaits { u with pwr := { u.pwr with euUj := u.euNow } } (holdTestAnswer (testResult v0 v1 v2 v3) u.euNow) := by
  unfold State.holdMeasured
  rw [if_neg (by simp [runs])]
  rfl

theorem testResult_falls {v0 v1 v2 v3 : Nat} (falls : v2 < v1) : testResult v0 v1 v2 v3 =
    (min 65535 (divRound 97600000 (v1 - v2)).toNat, min 65535 (divRound (((v0 : Int) - v1) + ((v3 : Int) - v2)) 400).toNat) := by
  unfold testResult
  dsimp only
  rw [if_neg (by omega), show ((v1 : Int) - v2).toNat = v1 - v2 by omega]

/-- The judgement on a result `r` (R377), and HOLD where no capture measures it. -/
theorem State.holdJudged_does {v0 v1 v2 v3 : Nat} {r : Nat × Nat} (result : testResult v0 v1 v2 v3 = r) :
    let p := (s.holdJudged v0 v1 v2 v3).pwr
    p.testRun = false ∧ p.measured = true ∧ p.cTest = r.1 ∧ p.esrTest = r.2 ∧
      p.degraded = (decide (p.cTest < budget16 s.cfg.img 12 1000) || decide (budget16 s.cfg.img 14 200 < p.esrTest)) ∧
      p.absent = decide (p.cTest < 100) ∧ (s.frame.running = true → p.holdMv = s.pwr.holdMv ∧ p.charging = s.pwr.charging) ∧
      (s.frame.running = false → p.holdMv = v3 / 1000 ∧ p.charging = !s.fullAt (v3 / 1000)) := by
  have judged := s.holdJudged_pwr v0 v1 v2 v3
  dsimp only at judged ⊢
  rw [judged, result]
  cases s.frame.running
  · exact ⟨rfl, rfl, rfl, rfl, rfl, rfl, fun frames => absurd frames Bool.false_ne_true, fun _ => ⟨rfl, rfl⟩⟩
  · exact ⟨rfl, rfl, rfl, rfl, rfl, rfl, fun _ => ⟨rfl, rfl⟩, fun still => absurd still.symm Bool.false_ne_true⟩

/-- A test that runs completes with its result `r` (R374, R376, R377). -/
theorem State.holdMeasured_does {v0 v1 v2 v3 : Nat} {r : Nat × Nat} (runs : s.pwr.testRun = true) (result : testResult v0 v1 v2 v3 = r) :
    let u := s.holdMeasured v0 v1 v2 v3
    u.pwr.testRun = false ∧ u.pwr.measured = true ∧ u.pwr.cTest = r.1 ∧ u.pwr.esrTest = r.2 ∧
      u.pwr.degraded = (decide (u.pwr.cTest < budget16 s.cfg.img 12 1000) || decide (budget16 s.cfg.img 14 200 < u.pwr.esrTest)) ∧
      u.pwr.absent = decide (u.pwr.cTest < 100) ∧ (u.pwr.absent = true → u.pwr.euUj = 0) ∧ (∀ w ∈ u.host.waits, w.kind ≠ .holdTest) ∧
      (s.frame.running = true → u.pwr.holdMv = s.pwr.holdMv ∧ u.pwr.charging = s.pwr.charging) ∧
      (s.frame.running = false → u.pwr.holdMv = v3 / 1000 ∧ u.pwr.charging = !s.fullAt (v3 / 1000)) := by
  obtain ⟨testRun, measured, cTest, esrTest, degraded, absent, frames, still⟩ := s.holdJudged_does result
  dsimp only
  rw [State.holdMeasured_eq _ _ _ _ runs, result]
  dsimp only
  rw [State.endWaits_pwr, State.endWaits_waits]
  refine ⟨testRun, measured, cTest, esrTest, degraded, absent, State.euNow_absent, fun w mem isTest => ?_, frames, still⟩
  have kept := (List.mem_filter.1 mem).2
  simp [holdTestAnswer, isTest] at kept

/-! ## The ledger and a capacitor that does not charge (R375, R377) -/

theorem State.ledgerStep_steps (on : s.pwr.ledgerOn = true) (step : s.pwr.ledgerMv + 1000 ≤ s.pwr.holdMv) :
    let cl := 200 * s.pwr.ledgerNj / (s.pwr.holdMv * s.pwr.holdMv - s.pwr.ledgerMv * s.pwr.ledgerMv)
    s.ledgerStep.pwr.ledgerNj = 0 ∧ s.ledgerStep.pwr.ledgerMv = s.pwr.holdMv ∧ s.ledgerStep.pwr.cTest = s.pwr.cTest ∧
      (s.pwr.measured = true → 5 * cl < 4 * s.pwr.cTest → s.ledgerStep.pwr.testDue = true ∧ s.ledgerStep.pwr.cLedger = some cl) := by
  intro cl
  unfold State.ledgerStep
  dsimp only
  rw [if_neg (by simp [on]; omega)]
  refine ⟨rfl, rfl, rfl, fun measured far => ?_⟩
  have isFar : (s.pwr.measured && (decide (5 * cl < 4 * s.pwr.cTest) || decide (6 * s.pwr.cTest < 5 * cl))) = true := by
    simp [measured, far]
  exact ⟨by dsimp only; rw [isFar, Bool.or_true], if_pos isFar⟩

theorem State.ledgerStep_other (other : s.pwr.ledgerOn = false ∨ s.pwr.holdMv < s.pwr.ledgerMv + 1000) : s.ledgerStep = s :=
  if_pos (by simpa using other)

theorem exec_holdAbsent_found {x : Nat} (since : s.pwr.chargeFrom = some x) (elapsed30 : x + 30000000000 ≤ (s.advance t).clk.now)
    (low : s.pwr.holdMv < 8000) (known : s.pwr.absent = false) : exec (.holdAbsent t) s =
      .next (({ s.advance t with pwr := { s.pwr with absent := true, euUj := 0 } } : State).logNode 0x0A05 6 s.cUse 0) := by
  have elapsed : x + secs 30 ≤ (s.advance t).clk.now := elapsed30
  refine congrArg Host.Outcome.next ?_
  rw [State.advance_pwr, since]
  dsimp only
  rw [if_pos (by simpa [low, known] using elapsed)]
  rfl

theorem exec_holdAbsent_other (other : s.pwr.chargeFrom = none ∨ 8000 ≤ s.pwr.holdMv) : exec (.holdAbsent t) s = .next (s.advance t) := by
  refine congrArg Host.Outcome.next ?_
  rw [State.advance_pwr]
  split
  case h_1 x since =>
    have high : 8000 ≤ s.pwr.holdMv := other.resolve_left (by simp [since])
    exact if_neg (by simp; omega)
  case h_2 => rfl

/-! ## The input limit (R370) -/

theorem exec_inputPeakLimit_below {m : Nat} (below : m < budget16 s.cfg.img 4 800) : exec (.inputPeakLimit t m) s = .next (s.advance t) :=
  congrArg Host.Outcome.next (if_pos below)

theorem exec_inputPeakLimit_logged {m : Nat} (peak : budget16 s.cfg.img 4 800 ≤ m)
    (calm : ∀ x, s.pwr.lastPeak = some x → x + 60000000000 ≤ (s.advance t).clk.now) :
    exec (.inputPeakLimit t m) s = .next (({ (s.advance t).peakLimit m with
      pwr := { ((s.advance t).peakLimit m).pwr with lastPeak := some (s.advance t).clk.now } } : State).logNode 0x0A0B 4 m 0) := by
  refine congrArg Host.Outcome.next ((if_neg (Nat.not_lt.2 peak)).trans (if_neg ?_))
  rw [State.advance_pwr]
  split
  case h_1 x last =>
    have elapsed : x + secs 60 ≤ (s.advance t).clk.now := calm x last
    simpa using elapsed
  case h_2 => exact Bool.false_ne_true

theorem exec_inputPeakLimit_quiet {m x : Nat} (peak : budget16 s.cfg.img 4 800 ≤ m) (last : s.pwr.lastPeak = some x)
    (recent : (s.advance t).clk.now < x + 60000000000) : exec (.inputPeakLimit t m) s = .next ((s.advance t).peakLimit m) := by
  have within : (s.advance t).clk.now < x + secs 60 := recent
  refine congrArg Host.Outcome.next ((if_neg (Nat.not_lt.2 peak)).trans (if_pos ?_))
  rw [State.advance_pwr, last]
  exact decide_eq_true within

/-! ## Shedding (R385) -/

/-- A ceiling is exceeded. -/
abbrev State.exceeds (s : State) : Prop := s.dissTop < s.pwr.dissF ∨ (s.inputTop : Rat) < s.pwr.inF ∨ s.pwr.headgateOver = true

/-- Nothing has been shed within 100 ms. -/
abbrev State.shedAgo (s : State) : Prop := ∀ x, s.pwr.lastShed = some x → x + ms 100 ≤ s.clk.now

theorem State.shed_blocked_iff : (!(decide (s.dissTop < s.pwr.dissF) || decide ((s.inputTop : Rat) < s.pwr.inF) || s.pwr.headgateOver) ||
    (match s.pwr.lastShed with | some t => decide (s.clk.now < t + ms 100) | none => false)) = true ↔ ¬ (s.exceeds ∧ s.shedAgo) := by
  unfold State.exceeds State.shedAgo
  cases s.pwr.lastShed
  · simp [and_assoc]
  · simp [imp_iff_not_or]
    tauto

/-- The ceiling that a shed names. -/
def State.shedCode (s : State) : Nat :=
  if s.dissTop < s.pwr.dissF then 2 else if (s.inputTop : Rat) < s.pwr.inF then 1 else s.pwr.overCeil

/-- Output `n` shed. -/
def State.shedOut (s : State) (n : Nat) : State :=
  { s.modOut n (fun o => { o with next := 0, budgetHeld := true, heldLogged := true }) with
    pwr := { s.pwr with shed := s.pwr.shed ++ [n], lastShed := some s.clk.now } }

theorem State.outputShed_sheds {n : Nat} (exceeds : s.exceeds) (ago : s.shedAgo) (next : s.shedNext = some n) : s.outputShed =
    (s.shedOut n).logEv 0x0A08 5 1 n (s.cfg.roles.get .chan n) s.shedCode (downMw (if s.shedCode = 1 then s.pwr.inF else s.pwr.dissF)) := by
  unfold State.outputShed
  refine (if_neg (fun blocked => State.shed_blocked_iff.1 blocked ⟨exceeds, ago⟩)).trans ?_
  rw [next]
  simp only [State.shedCode, decide_eq_true_eq]
  rfl

theorem State.outputShed_blocked (blocked : ¬ (s.exceeds ∧ s.shedAgo)) : s.outputShed = s :=
  if_pos (State.shed_blocked_iff.2 blocked)

theorem State.shedOut_does {n : Nat} (has : n < s.outs.length) : ((s.shedOut n).out n).next = 0 ∧ ((s.shedOut n).out n).budgetHeld = true ∧
    ∀ m, m ≠ n → (s.shedOut n).out m = s.out m := by
  have self : (s.shedOut n).out n = { s.out n with next := 0, budgetHeld := true, heldLogged := true } :=
    getD_modAt_self (fun o : OutSt => { o with next := 0, budgetHeld := true, heldLogged := true }) {} has
  rw [self]
  exact ⟨rfl, rfl, fun m ne =>
    getD_modAt_ne (fun o : OutSt => { o with next := 0, budgetHeld := true, heldLogged := true }) {} (Ne.symm ne)⟩

/-! ## The claim list and annunciator commands (R450, R464) -/

theorem exec_ioClaims_listed (he : Executes s tag 0x0E05 f) (fits : u16At f.req 18 + byteAt f.req 20 ≤ resourceCount (byteAt f.req 17)) :
    exec (.ioClaims t tag) s = .next ((s.acting t).complete f .ok 0 ((s.acting t).claimsOf f)).takeNext :=
  exec_row_eq rfl he (if_neg (Nat.not_lt.2 fits))

theorem exec_ioClaims_beyond (he : Executes s tag 0x0E05 f) (beyond : resourceCount (byteAt f.req 17) < u16At f.req 18 + byteAt f.req 20) :
    exec (.ioClaims t tag) s = .next ((s.acting t).complete f .badField 18 []).takeNext :=
  exec_row_eq rfl he ((if_pos beyond).trans (State.refuse_eq (by decide)))

theorem exec_ioAoCommand_taken (he : Executes s tag 0x0E04 f) (on : s.aoOn f.unit = true) (ours : s.aoField f.unit 2 1 = 0) :
    exec (.ioAoCommand t tag) s = .next ((s.acting t).addLive (.aoCommand f.unit (byteAt f.req 16)) f).takeNext := by
  have aoOn : (s.acting t).aoOn f.unit = true := on
  have source : (s.acting t).aoField f.unit 2 1 = 0 := ours
  exact exec_row_eq rfl he (if_neg (by simp [aoOn, source]))

theorem exec_ioAoCommand_refused (he : Executes s tag 0x0E04 f) (other : s.aoOn f.unit = false ∨ s.aoField f.unit 2 1 ≠ 0) :
    exec (.ioAoCommand t tag) s = .next ((s.acting t).complete f .badField 8 []).takeNext := by
  have refused : (s.acting t).aoOn f.unit = false ∨ (s.acting t).aoField f.unit 2 1 ≠ 0 := other
  exact exec_row_eq rfl he ((if_pos (by simpa using refused)).trans (State.refuse_eq (by decide)))

end

/-- Settles O56: the step test from its request to its result (while frames are stopped HOLD is measured by the test itself, which is the
model's choice, log entries 63 and 134), the ledger, the capacitor that does not charge, the input limit, shedding, the claim list. -/
theorem holdAndHeadgate : Obligations.HoldAndHeadgate := by
  intro s t tag f a c p
  refine ⟨fun he idle volts => exec_row_eq rfl he (State.holdTestReq_goes (s := c) idle volts),
    fun he idle low => exec_row_eq rfl he (State.holdTestReq_low (s := c) idle low),
    fun due quiet state volts idle => exec_stepTest_starts (State.testStarts_iff.2 ⟨due, quiet, state, volts, idle⟩),
    fun other => exec_stepTest_other (fun starts => ?_), State.chargerRuns_test,
    fun v0 v1 v2 v3 runs falls => ⟨_, rfl, State.holdMeasured_does (s := a) runs (testResult_falls falls)⟩,
    fun v0 v1 v2 v3 idle => congrArg Host.Outcome.next (if_pos (by simpa using idle)),
    fun on step => ⟨_, rfl, State.ledgerStep_steps (s := a) on step⟩,
    fun other => congrArg Host.Outcome.next (State.ledgerStep_other (s := a) other),
    fun x since elapsed low known => exec_holdAbsent_found since elapsed low known, exec_holdAbsent_other,
    fun m => exec_inputPeakLimit_below, fun m => ⟨rfl, rfl, rfl, rfl, rfl, rfl, rfl⟩, fun m => exec_inputPeakLimit_logged,
    fun m x => exec_inputPeakLimit_quiet, fun n exceeds ago next has => ?_, fun diss inp fits => ?_, fun x last recent => ?_,
    exec_ioClaims_listed, exec_ioClaims_beyond, exec_ioAoCommand_taken, exec_ioAoCommand_refused⟩
  · obtain ⟨due, quiet, state, volts, idle⟩ := State.testStarts_iff.1 starts
    obtain ⟨runs, noTest⟩ | ⟨still, noTest⟩ | churn | holdup | low | busy := other
    · obtain ⟨-, isDue, granted⟩ | ⟨still, -⟩ := due
      · obtain noDue | noGrant := noTest
        · exact Bool.false_ne_true (noDue.symm.trans isDue)
        · exact Bool.false_ne_true (noGrant.symm.trans granted)
      · exact Bool.false_ne_true (still.symm.trans runs)
    · obtain ⟨runs, -⟩ | ⟨-, isDue⟩ := due
      · exact Bool.false_ne_true (still.symm.trans runs)
      · exact Bool.false_ne_true (noTest.symm.trans isDue)
    · exact Bool.false_ne_true (quiet.symm.trans churn)
    · exact state holdup
    · exact absurd volts (Nat.not_le.2 low)
    · exact Bool.false_ne_true (idle.symm.trans busy)
  · obtain ⟨zero, held, others⟩ := State.shedOut_does (s := a) has
    exact ⟨_, congrArg Host.Outcome.next (State.outputShed_sheds (s := a) exceeds ago next), zero, held, rfl, rfl, others⟩
  · refine congrArg Host.Outcome.next (State.outputShed_blocked (s := a) (fun ⟨exceeds, _⟩ => ?_))
    obtain overD | overP | overs := exceeds
    · exact absurd overD (not_lt.2 diss)
    · exact absurd overP (not_lt.2 inp)
    · exact Bool.false_ne_true (fits.symm.trans overs)
  · exact congrArg Host.Outcome.next (State.outputShed_blocked (s := a) (fun ⟨_, ago⟩ => absurd recent (Nat.not_lt.2 (ago x last))))

end Sys2Proof.Machine
end

section
/-!
PROOFS. Digital inputs, annunciator outputs and the node-healthy relay as their lands are sampled (R446, R447, R449 to R455).
-/

namespace Sys2Proof.Machine

open Sys2Proof

/-! ## Digital inputs (R446, R447) -/

section
variable {s : State} {t i mv : Nat}

/-- The line of DI `i` is monitored. -/
def State.diMonitored (s : State) (i : Nat) : Bool := tst (s.diField i 2 1) 0 && decide (s.diField i 1 1 ≠ 0)

/-- The line of a DI as it is found: other inputs and the rest of the edge stay. -/
theorem State.diLine_does (has : i < s.dis.length) (b : Bool) :
    (s.diLine i b).di i = { s.di i with broken := if s.diMonitored i then b else (s.di i).broken } ∧ (s.diLine i b).aos = s.aos ∧
      (s.diLine i b).nok = s.nok ∧ ∀ j, j ≠ i → (s.diLine i b).di j = s.di j := by
  unfold State.diLine State.diMonitored
  obtain blocked | acts := Decidable.em ((!tst (s.diField i 2 1) 0 || s.diField i 1 1 = 0 || (s.di i).broken = b) = true)
  · rw [if_pos blocked]
    refine ⟨?_, rfl, rfl, fun _ _ => rfl⟩
    split
    case isTrue mon =>
      have same : (s.di i).broken = b := by simp_all
      rw [← same]
    case isFalse => rfl
  · rw [if_neg acts, if_pos (by simp_all)]
    exact ⟨State.di_modDi_self _ has, rfl, rfl, fun j ne => State.di_modDi_ne _ (Ne.symm ne)⟩

theorem State.diLine_changes (mon : s.diMonitored i = true) {b : Bool} (other : (s.di i).broken ≠ b) :
    s.diLine i b = (s.modDi i (fun d => { d with broken := b })).logDi i 0x0E01 5 (bit b) 0 := by
  unfold State.diMonitored at mon
  exact if_neg (by simp_all)

theorem State.diLine_unmonitored (off : s.diMonitored i = false) (b : Bool) : s.diLine i b = s := by
  unfold State.diMonitored at off
  exact if_pos (by cases h : tst (s.diField i 2 1) 0 <;> simp_all)

theorem DiSt.sample_lowAt (d : DiSt) (debMs now mv : Nat) : (d.sample debMs now mv).lowAt =
    if mv < 1000 then some (d.lowAt.getD now) else none := rfl

/-- DI `i` with its level sampled. -/
def State.diSampled (s : State) (i mv : Nat) : State := s.modDi i (fun d => d.sample (s.diField i 4 2) s.clk.now mv)

theorem State.diSampled_di (has : i < s.dis.length) : (s.diSampled i mv).di i = (s.di i).sample (s.diField i 4 2) s.clk.now mv :=
  State.di_modDi_self _ has

theorem State.diSample_up (up : s.landsUp = true) : s.diSample i mv =
    match ((s.diSampled i mv).di i).lowAt with
    | some t => if t + ms 10 ≤ s.clk.now then (s.diSampled i mv).diLine i true else s.diSampled i mv
    | none => (s.diSampled i mv).diLine i false :=
  if_neg (by simp [up])

theorem State.diSample_down (down : s.landsUp = false) : s.diSample i mv = s := if_pos (by simp [down])

/-- A sample of a land that is up. -/
theorem State.diSample_does (has : i < s.dis.length) (up : s.landsUp = true) :
    (s.diSample i mv).di i = { (s.di i).sample (s.diField i 4 2) s.clk.now mv with
      broken := if s.diMonitored i = false then (s.di i).broken else if 1000 ≤ mv then false
        else if (s.di i).lowAt.getD s.clk.now + ms 10 ≤ s.clk.now then true else (s.di i).broken } ∧
    (s.diSample i mv).aos = s.aos ∧ (s.diSample i mv).nok = s.nok ∧ ∀ j, j ≠ i → (s.diSample i mv).di j = s.di j := by
  rw [State.diSample_up up, State.diSampled_di has]
  have has' : i < (s.diSampled i mv).dis.length := by rw [State.diSampled, State.modDi_length]; exact has
  have mon : (s.diSampled i mv).diMonitored i = s.diMonitored i := rfl
  have others : ∀ j, j ≠ i → (s.diSampled i mv).di j = s.di j := fun j ne => State.di_modDi_ne _ (Ne.symm ne)
  have line (b : Bool) := State.diLine_does (s := s.diSampled i mv) has' b
  rw [State.diSampled_di has, mon] at line
  obtain low | high := Nat.lt_or_ge mv 1000
  · have at_ : ((s.di i).sample (s.diField i 4 2) s.clk.now mv).lowAt = some ((s.di i).lowAt.getD s.clk.now) := if_pos low
    rw [at_, if_neg (Nat.not_le.2 low)]
    dsimp only
    split
    · obtain ⟨self, aos, nok, rest⟩ := line true
      refine ⟨self.trans ?_, aos, nok, fun j ne => (rest j ne).trans (others j ne)⟩
      cases s.diMonitored i <;> rfl
    · refine ⟨(State.diSampled_di has).trans ?_, rfl, rfl, others⟩
      cases s.diMonitored i <;> rfl
  · have at_ : ((s.di i).sample (s.diField i 4 2) s.clk.now mv).lowAt = none := if_neg (Nat.not_lt.2 high)
    rw [at_, if_pos high]
    obtain ⟨self, aos, nok, rest⟩ := line false
    refine ⟨self.trans ?_, aos, nok, fun j ne => (rest j ne).trans (others j ne)⟩
    cases s.diMonitored i <;> rfl

/-- A monitored line found broken for the first time, 10 ms after its land fell. -/
theorem State.diSample_breaks {x : Nat} (has : i < s.dis.length) (up : s.landsUp = true) (mon : s.diMonitored i = true)
    (whole : (s.di i).broken = false) (low : (s.di i).lowAt = some x) (lasted : x + ms 10 ≤ s.clk.now) :
    s.diSample i 0 = ((s.diSampled i 0).modDi i (fun d => { d with broken := true })).logDi i 0x0E01 5 1 0 := by
  have other : ((s.diSampled i 0).di i).broken ≠ true := by
    rw [State.diSampled_di has]
    exact ne_of_eq_of_ne whole Bool.false_ne_true
  have line := State.diLine_changes (s := s.diSampled i 0) mon other
  rw [State.diSample_up up, State.diSampled_di has, DiSt.sample_lowAt, if_pos (by decide), low]
  exact (if_pos lasted).trans line

theorem State.diSample_restores (has : i < s.dis.length) (up : s.landsUp = true) (mon : s.diMonitored i = true)
    (broken : (s.di i).broken = true) :
    s.diSample i 1000 = ((s.diSampled i 1000).modDi i (fun d => { d with broken := false })).logDi i 0x0E01 5 0 0 := by
  have other : ((s.diSampled i 1000).di i).broken ≠ false := by
    rw [State.diSampled_di has]
    exact ne_of_eq_of_ne broken Bool.false_ne_true.symm
  have line := State.diLine_changes (s := s.diSampled i 1000) mon other
  rw [State.diSample_up up, State.diSampled_di has, DiSt.sample_lowAt, if_neg (by decide)]
  exact line

theorem State.diSample_unmonitored (up : s.landsUp = true) (off : s.diMonitored i = false) : s.diSample i mv = s.diSampled i mv := by
  have line := State.diLine_unmonitored (s := s.diSampled i mv) off
  rw [State.diSample_up up, line, line]
  split
  · exact ite_self _
  · rfl

end

/-! ## Annunciator outputs (R449, R451) -/

section
variable {s : State} {t k ma mv : Nat}

theorem State.aoFault_ao (has : k < s.aos.length) (code : Nat) :
    (s.aoFault k code ma).ao k = { s.ao k with fault := code, faultAt := s.clk.now, current := min 65535 ma } :=
  State.ao_modAo_self _ has

theorem State.aoFault_ne {j : Nat} (ne : j ≠ k) (code : Nat) : (s.aoFault k code ma).ao j = s.ao j := State.ao_modAo_ne _ (Ne.symm ne)

theorem State.aoLand_latched (latched : (s.ao k).latched = true) : s.aoLand k = false := by simp [State.aoLand, latched]

theorem State.aoLand_waits {x : Nat} (off : (s.ao k).offUntil = some x) : s.aoLand k = false := by simp [State.aoLand, off]

/-- Overloads of the last 10 s with the present one. -/
def State.aoRecent (s : State) (k : Nat) : List Nat :=
  ((s.ao k).overloads.filter (fun x => decide (s.clk.now < x + secs 10))) ++ [s.clk.now]

theorem State.aoOverload_other (other : s.aoOn k = false ∨ s.aoLand k = false ∨ ma ≤ 550) : s.aoOverload k ma = s :=
  if_pos (by simpa [or_assoc] using other)

theorem State.aoOverload_first (on : s.aoOn k = true) (land : s.aoLand k = true) (above : 550 < ma)
    (few : (s.aoRecent k).length < 3) : s.aoOverload k ma =
      (s.modAo k (fun a => { a with overloads := s.aoRecent k, offUntil := some (s.clk.now + secs 1) })).aoFault k 2 ma :=
  (if_neg (by simp [on, land]; omega)).trans (if_neg (Nat.not_le.2 few))

theorem State.aoOverload_latches (on : s.aoOn k = true) (land : s.aoLand k = true) (above : 550 < ma)
    (third : 3 ≤ (s.aoRecent k).length) : s.aoOverload k ma =
      (s.modAo k (fun a => { a with overloads := s.aoRecent k, latched := true, released := false, offUntil := none })).aoFault k 4 ma :=
  (if_neg (by simp [on, land]; omega)).trans (if_pos third)

/-- A condition that stands is noted as it is. -/
theorem AoSt.settle_noted (a : AoSt) (now : Nat) : a.settle now a.cond a.condOn =
    if a.cond = a.fault then { a with faultAt := now }
    else if !a.latched && decide (a.faultAt + ms 100 ≤ now) then { a with fault := 0 } else a := by
  unfold AoSt.settle
  simp only [and_self, if_true]

/-- The condition that a sample of AO `k` meets. -/
def State.aoSampleCond (s : State) (k ma mv : Nat) : Nat :=
  if s.aoOn k && tst (s.aoField k 1 1) 1 then aoCond (s.aoLand k) (s.aoField k 6 2) ma mv s.pwr.vshipMv else 0

/-- AO `k` with its current and condition sampled. -/
def State.aoSampled (s : State) (k ma mv : Nat) : State :=
  (s.modAo k (fun a => { a with current := min 65535 ma })).modAo k (fun a =>
    a.settle s.clk.now (s.aoSampleCond k ma mv) (s.aoLand k))

theorem State.aoSample_eq (within : s.aoOn k = false ∨ s.aoLand k = false ∨ ma ≤ 550) : s.aoSample k ma mv =
    let c := s.aoSampleCond k ma mv
    let a := (s.aoSampled k ma mv).ao k
    if c ≠ 0 ∧ a.condAt + ms 100 ≤ s.clk.now ∧ c ≠ a.fault ∧ (a.fault = 0 ∨ a.fault = 1 ∨ a.fault = 3)
      then (s.aoSampled k ma mv).aoFault k c ma else s.aoSampled k ma mv := by
  unfold State.aoSample
  refine (if_neg ?_).trans rfl
  change ¬ (s.aoOn k && s.aoLand k && decide (550 < ma)) = true
  obtain off | off | low := within <;> simp [*]

theorem State.aoSampled_ao (has : k < s.aos.length) : (s.aoSampled k ma mv).ao k =
    ({ s.ao k with current := min 65535 ma }).settle s.clk.now (s.aoSampleCond k ma mv) (s.aoLand k) := by
  unfold State.aoSampled
  rw [State.ao_modAo_self _ (by rw [State.modAo_aos, modAt_length]; exact has), State.ao_modAo_self _ has]

theorem State.aoSampled_ne {j : Nat} (ne : j ≠ k) : (s.aoSampled k ma mv).ao j = s.ao j := by
  unfold State.aoSampled
  rw [State.ao_modAo_ne _ (Ne.symm ne), State.ao_modAo_ne _ (Ne.symm ne)]

/-- A condition that has held for 100 ms is reported (R451). -/
theorem State.aoSample_reports (has : k < s.aos.length) (within : s.aoOn k = false ∨ s.aoLand k = false ∨ ma ≤ 550)
    (cond : s.aoSampleCond k ma mv ≠ 0) (plain : (s.ao k).fault = 0 ∨ (s.ao k).fault = 1 ∨ (s.ao k).fault = 3)
    (other : s.aoSampleCond k ma mv ≠ (s.ao k).fault) (noted : (s.ao k).cond = s.aoSampleCond k ma mv)
    (land : (s.ao k).condOn = s.aoLand k) (held : (s.ao k).condAt + ms 100 ≤ s.clk.now) :
    s.aoSample k ma mv = (s.aoSampled k ma mv).aoFault k (s.aoSampleCond k ma mv) ma := by
  rw [State.aoSample_eq within]
  refine if_pos ⟨cond, ?_⟩
  have settled : (s.aoSampled k ma mv).ao k = if (s.ao k).cond = (s.ao k).fault then { s.ao k with current := min 65535 ma, faultAt := s.clk.now }
      else if !(s.ao k).latched && decide ((s.ao k).faultAt + ms 100 ≤ s.clk.now) then { s.ao k with current := min 65535 ma, fault := 0 }
      else { s.ao k with current := min 65535 ma } := by
    rw [State.aoSampled_ao has, ← noted, ← land]
    exact AoSt.settle_noted { s.ao k with current := min 65535 ma } s.clk.now
  rw [settled, if_neg (noted ▸ other)]
  split
  · exact ⟨held, cond, Or.inl rfl⟩
  · exact ⟨held, other, plain⟩

end

section
variable {s : State} {t k ma mv : Nat}

theorem State.aoFault_dis (code : Nat) : (s.aoFault k code ma).dis = s.dis := rfl

/-- A line that meets no condition: the fault goes 100 ms after it last held, unless it is latched. -/
theorem State.aoSample_clear (has : k < s.aos.length) (within : s.aoOn k = false ∨ s.aoLand k = false ∨ ma ≤ 550)
    (none_ : s.aoSampleCond k ma mv = 0) : (s.aoSample k ma mv).log = s.log ∧ ((s.aoSample k ma mv).ao k).cond = 0 ∧
      ((s.aoSample k ma mv).ao k).current = min 65535 ma ∧ ((s.aoSample k ma mv).ao k).fault =
        (if (s.ao k).latched = false ∧ (s.ao k).faultAt + ms 100 ≤ s.clk.now then 0 else (s.ao k).fault) := by
  have still : s.aoSample k ma mv = s.aoSampled k ma mv := (State.aoSample_eq within).trans (if_neg (fun h => h.1 none_))
  rw [still, State.aoSampled_ao has, none_]
  refine ⟨rfl, ?_⟩
  unfold AoSt.settle
  dsimp only
  split
  case isTrue zero => exact ⟨rfl, rfl, by dsimp only; rw [← zero, ite_self]⟩
  case isFalse =>
    split
    case isTrue lapsed => exact ⟨rfl, rfl, (if_pos (by simpa using lapsed)).symm⟩
    case isFalse stands => exact ⟨rfl, rfl, (if_neg (by simpa using stands)).symm⟩

/-- An overload within two of 10 s: off for 1 s. -/
theorem State.aoOverload_second (has : k < s.aos.length) (on : s.aoOn k = true) (land : s.aoLand k = true) (above : 550 < ma)
    (few : ((s.ao k).overloads.filter (fun x => decide (s.clk.now < x + secs 10))).length < 2) :
    ((s.aoOverload k ma).ao k).fault = 2 ∧ ((s.aoOverload k ma).ao k).offUntil = some (s.clk.now + secs 1) ∧
      ((s.aoOverload k ma).ao k).latched = (s.ao k).latched ∧ (s.aoOverload k ma).aoLand k = false := by
  have recent : (s.aoRecent k).length < 3 := by
    rw [State.aoRecent, List.length_append, List.length_singleton]
    exact Nat.succ_lt_succ few
  have fault := State.aoFault_ao (ma := ma)
    (s := s.modAo k (fun a => { a with overloads := s.aoRecent k, offUntil := some (s.clk.now + secs 1) }))
    (by rw [State.modAo_length]; exact has) 2
  rw [State.ao_modAo_self _ has] at fault
  rw [State.aoOverload_first on land above recent, fault]
  exact ⟨rfl, rfl, rfl, State.aoLand_waits (congrArg AoSt.offUntil fault)⟩

/-- The third overload within 10 s latches. -/
theorem State.aoOverload_third (has : k < s.aos.length) (on : s.aoOn k = true) (land : s.aoLand k = true) (above : 550 < ma)
    (two : 2 ≤ ((s.ao k).overloads.filter (fun x => decide (s.clk.now < x + secs 10))).length) :
    ((s.aoOverload k ma).ao k).fault = 4 ∧ ((s.aoOverload k ma).ao k).latched = true ∧
      ((s.aoOverload k ma).ao k).released = false ∧ (s.aoOverload k ma).aoLand k = false := by
  have recent : 3 ≤ (s.aoRecent k).length := by
    rw [State.aoRecent, List.length_append, List.length_singleton]
    exact Nat.succ_le_succ two
  have fault := State.aoFault_ao (ma := ma)
    (s := s.modAo k (fun a => { a with overloads := s.aoRecent k, latched := true, released := false, offUntil := none }))
    (by rw [State.modAo_length]; exact has) 4
  rw [State.ao_modAo_self _ has] at fault
  rw [State.aoOverload_latches on land above recent, fault]
  exact ⟨rfl, rfl, rfl, State.aoLand_latched (congrArg AoSt.latched fault)⟩

/-! ## The total limit (R452) -/

/-- The total of the eight currents. -/
abbrev aoSum (m : List Nat) : Nat := ((List.range 8).map (fun k => m.getD k 0)).sum

theorem State.aoTotalSample_within {m : List Nat} (within : aoSum m ≤ 2100) :
    s.aoTotalSample m = { s with pwr := { s.pwr with aoOver := none } } := if_pos within

theorem State.aoTotalSample_over {m : List Nat} (above : 2100 < aoSum m) : s.aoTotalSample m =
    if s.pwr.aoOver.getD s.clk.now + ms 1 ≤ s.clk.now then ({ s with pwr := { s.pwr with aoOver := none } } : State).aoTotal m
    else { s with pwr := { s.pwr with aoOver := some (s.pwr.aoOver.getD s.clk.now) } } := if_neg (Nat.not_le.2 above)

/-- An output that alone brings the total below 2.0 A is the only one to go. -/
theorem limitOff_one {m : List Nat} {r : List Nat} {total : Nat} (above : 2000 ≤ total) (enough : total - m.getD k 0 < 2000) :
    limitOff m (k :: r) total = [k] := by
  have rest : limitOff m r (total - m.getD k 0) = [] := by
    cases r with
    | nil => rfl
    | cons j q => exact if_pos enough
  rw [limitOff, if_neg (Nat.not_lt.2 above), rest]

/-- The outputs that are on, in descending index. -/
def State.landsDown (s : State) : List Nat := [7, 6, 5, 4, 3, 2, 1, 0].filter s.aoLand

/-- Output `k` switched off by the total limit. -/
def State.totalOff (s : State) (m : List Nat) (k : Nat) : State :=
  let s1 := s.modAo k (fun a => { a with offUntil := some s.frame.nextTick, faultAt := s.clk.now })
  if (s.ao k).fault = 5 then s1 else s1.aoFault k 5 (m.getD k 0)

theorem State.totalOff_pwr (s : State) (m : List Nat) (k : Nat) : (s.totalOff m k).pwr = s.pwr := State.ite_keeps (p := State.pwr) rfl rfl

theorem State.totalOff_ao {m : List Nat} (has : k < s.aos.length) (fresh : (s.ao k).fault ≠ 5) :
    ((s.totalOff m k).ao k).fault = 5 ∧ ((s.totalOff m k).ao k).offUntil = some s.frame.nextTick ∧
      ∀ j, j ≠ k → (s.totalOff m k).ao j = s.ao j := by
  have kept : k < (s.modAo k (fun a => { a with offUntil := some s.frame.nextTick, faultAt := s.clk.now })).aos.length := by
    rw [State.modAo_length]; exact has
  unfold State.totalOff
  rw [if_neg fresh, State.aoFault_ao kept, State.ao_modAo_self _ has]
  exact ⟨rfl, rfl, fun j ne => (State.aoFault_ne ne 5).trans (State.ao_modAo_ne _ (Ne.symm ne))⟩

theorem State.aoTotal_one {m : List Nat} {r : List Nat} (above : 2100 < aoSum m) (first : s.landsDown = k :: r)
    (enough : aoSum m - m.getD k 0 < 2000) (fresh : ∀ j < 8, (s.ao j).fault ≠ 5) :
    s.aoTotal m = (s.totalOff m k).logNode 0x0E03 6 (aoSum m) (2 ^ k) := by
  have off : limitOff m s.landsDown (aoSum m) = [k] := by
    rw [first]
    exact limitOff_one (by omega) enough
  have once : ((List.range 8).any (fun j => decide ((s.ao j).fault = 5))) = false := by
    simpa using fresh
  unfold State.aoTotal
  refine (if_neg (Nat.not_le.2 above)).trans ?_
  rw [once, show [7, 6, 5, 4, 3, 2, 1, 0].filter s.aoLand = s.landsDown from rfl, off]
  rfl

/-! ## The node-healthy relay (R454, R455) -/

theorem State.nokSample_off (off : s.nok.on = false) :
    s.nokSample ma = { s with nok := { s.nok with current := min 65535 ma, lowAt := none } } := by
  unfold State.nokSample
  dsimp only
  rw [off, if_pos (by decide), if_neg (by simp)]

theorem State.nokSample_good (on : s.nok.on = true) (low : 5 ≤ ma) (high : ma ≤ 150) :
    s.nokSample ma = { s with nok := { s.nok with current := min 65535 ma, lowAt := none } } := by
  unfold State.nokSample
  dsimp only
  rw [on, if_neg (by decide), if_neg (Nat.not_lt.2 high), if_neg (by omega)]

theorem State.nokSample_fault (on : s.nok.on = true)
    (bad : 150 < ma ∨ ma < 5 ∧ ∃ x, s.nok.lowAt = some x ∧ x + ms 100 ≤ s.clk.now) :
    s.nokSample ma = ({ s with nok := { s.nok with on := false, coilFault := true, current := min 65535 ma, lowAt := none } } : State).logNode
      0x0E04 6 ma 0 := by
  unfold State.nokSample
  dsimp only
  rw [on, if_neg (by decide)]
  obtain high | ⟨low, x, since, lasted⟩ := bad
  · rw [if_pos high]
    rfl
  · rw [if_neg (by omega), if_pos ⟨rfl, low⟩, since]
    exact if_pos lasted

theorem State.nokSample_low (on : s.nok.on = true) (low : ma < 5) (fresh : ∀ x, s.nok.lowAt = some x → s.clk.now < x + ms 100) :
    s.nokSample ma = { s with nok := { s.nok with current := ma, lowAt := some (s.nok.lowAt.getD s.clk.now) } } := by
  have short : ¬ s.nok.lowAt.getD s.clk.now + ms 100 ≤ s.clk.now := by
    cases at_ : s.nok.lowAt with
    | none => exact Nat.not_le.2 (Nat.lt_add_of_pos_right (by decide))
    | some x => exact Nat.not_le.2 (fresh x at_)
  unfold State.nokSample
  dsimp only
  rw [on, if_neg (by decide), if_neg (by omega), if_pos ⟨rfl, low⟩, Nat.min_eq_right (by omega)]
  exact if_neg short

theorem State.nokUpdate_late (late : ∀ x, s.frame.lastPub = some x → x + ms 10 < s.clk.now) : s.nokUpdate.nok.on = false := by
  have unmet : s.nokUnmet ≠ 0 := by
    unfold State.nokUnmet
    cases last : s.frame.lastPub with
    | none => simp [bit]
    | some x => simp [late x last, bit]
  simp [State.nokUpdate, unmet]

end

/-- A command with a unit that exists completes with what its operation comes to. -/
theorem guardUnit_next_eq {p : Prop} [Decidable p] {u v : State} (unit : p) (e : u = v) : guardUnit (decide p) u = .next v :=
  (guardUnit_next (decide_eq_true unit)).trans (congrArg Host.Outcome.next e)

/-- Settles O51: the level, the debounce time and the line of a digital input, the faults of an annunciator output with their clearing,
the total limit, the relay; the events of lands are samples (log entry 166). -/
theorem edgeEvents : Obligations.EdgeEvents := by
  intro s t a now
  refine ⟨fun i mv lt has up => ?_, fun i x lt up on func whole low lasted has => ?_, fun i lt up on func broken has => ?_,
    fun i lt up off => ?_, fun i mv lt down => ⟨?_, ?_, ?_⟩, fun k mv ma lt has on mon within cond plain other noted land held => ?_,
    fun k mv ma lt has off within => ?_, fun k m lt has on land above few => ?_, fun k m lt has on land above two => ?_,
    fun k m lt other => ?_, fun k x lt has off due no5 => ?_, fun k lt has free other due => ?_, fun k lt has noted => ?_,
    fun k lt has other stands => ?_, fun m within => ?_, fun m above since => ?_, fun m x above since short => ?_,
    fun m x total since lasted land big has fresh => ?_, fun m on bad => ?_, fun m on low fresh => ?_, fun m good => ?_, ?_⟩
  · obtain ⟨self, aos, nok, others⟩ := State.diSample_does (s := a) (mv := mv) has up
    refine ⟨_, guardUnit_next (decide_eq_true lt), ?_, ?_, ?_, ?_, ?_, aos, nok, others⟩
    all_goals rw [self]
    case refine_3 => rw [← ms_eq]; rfl
    all_goals rfl
  · have mon : a.diMonitored i = true := Bool.and_eq_true_iff.2 ⟨on, decide_eq_true func⟩
    exact guardUnit_next_eq lt (State.diSample_breaks (s := a) has up mon whole low lasted)
  · have mon : a.diMonitored i = true := Bool.and_eq_true_iff.2 ⟨on, decide_eq_true func⟩
    exact guardUnit_next_eq lt (State.diSample_restores (s := a) has up mon broken)
  · have unmonitored : a.diMonitored i = false := by
      refine Bool.and_eq_false_iff.2 (off.imp id (fun zero => ?_))
      exact decide_eq_false (not_not_intro zero)
    have sampled (mv : Nat) := State.diSample_unmonitored (s := a) (mv := mv) up unmonitored
    exact ⟨guardUnit_next_eq lt (sampled 0),
      guardUnit_next_eq lt (sampled 1000)⟩
  · exact guardUnit_next_eq lt (State.diSample_down down)
  · exact guardUnit_next_eq lt (State.diSample_down down)
  · exact guardUnit_next_eq lt (State.diSample_down down)
  · have is : a.aoSampleCond k ma mv = if a.aoLand k then (if ma < s.aoField k 6 2 then 1 else 0)
        else if s.pwr.vshipMv ≤ mv + 3000 then 3 else if 6000 < mv then 1 else 0 :=
      if_pos (Bool.and_eq_true_iff.2 ⟨on, mon⟩)
    rw [← is] at cond other noted ⊢
    have reports := State.aoSample_reports (s := a) has (Or.inr within) cond plain other noted land held
    have kept : k < (a.aoSampled k ma mv).aos.length := by
      unfold State.aoSampled
      rw [State.modAo_length, State.modAo_length]; exact has
    have fault := State.aoFault_ao (s := a.aoSampled k ma mv) (ma := ma) kept (a.aoSampleCond k ma mv)
    refine ⟨_, guardUnit_next_eq lt reports, ?_, ?_, rfl, fun j ne => ?_⟩
    · rw [fault]
    · rw [fault]; rfl
    · rw [State.aoFault_ne ne, State.aoSampled_ne ne]; rfl
  · have none_ : a.aoSampleCond k ma mv = 0 :=
      if_neg (by obtain off | off := off <;> [rw [show a.aoOn k = false from off]; rw [show tst (a.aoField k 1 1) 1 = false from off]] <;> simp)
    obtain ⟨log, cond, current, fault⟩ := State.aoSample_clear (s := a) has within none_
    exact ⟨_, guardUnit_next (decide_eq_true lt), fault, cond, current, log⟩
  · exact ⟨_, guardUnit_next (decide_eq_true lt), State.aoOverload_second (s := a) has on land above few⟩
  · exact ⟨_, guardUnit_next (decide_eq_true lt), State.aoOverload_third (s := a) has on land above two.ge⟩
  · exact guardUnit_next_eq lt (State.aoOverload_other (s := a) other)
  · refine ⟨_, guardUnit_next (decide_eq_true lt), (State.ao_modAo_self _ (s := a) has).trans ?_⟩
    rw [show a.ao k = s.ao k from rfl, off]
    exact if_pos (by simp [no5]; exact due)
  · refine ⟨_, guardUnit_next (decide_eq_true lt), (State.ao_modAo_self _ (s := a) has).trans ?_⟩
    have lapsed : (s.ao k).faultAt + ms 100 ≤ a.clk.now := due
    exact (AoSt.settle_noted (s.ao k) now).trans ((if_neg other).trans (if_pos (by simpa [free] using lapsed)))
  · refine ⟨_, guardUnit_next (decide_eq_true lt), (State.ao_modAo_self _ (s := a) has).trans ?_⟩
    exact (AoSt.settle_noted (s.ao k) now).trans (if_pos noted)
  · refine ⟨_, guardUnit_next (decide_eq_true lt), (State.ao_modAo_self _ (s := a) has).trans ?_⟩
    have early : (s.ao k).latched = true ∨ a.clk.now < (s.ao k).faultAt + ms 100 := stands
    refine (AoSt.settle_noted (s.ao k) now).trans ((if_neg other).trans (if_neg ?_))
    obtain latched | early := early
    · simp [latched]
    · simp [now]; exact fun _ => early
  · exact congrArg Host.Outcome.next (State.aoTotalSample_within within)
  · refine congrArg Host.Outcome.next ((State.aoTotalSample_over above).trans ?_)
    rw [show (s.advance t).pwr.aoOver = none from since]
    exact if_neg (Nat.not_le.2 (Nat.lt_add_of_pos_right (by decide)))
  · have early : a.clk.now < x + ms 1 := short
    refine congrArg Host.Outcome.next ((State.aoTotalSample_over above).trans ?_)
    rw [show (s.advance t).pwr.aoOver = some x from since]
    refine (if_neg (Nat.not_le.2 early)).trans ?_
    rw [Option.getD_some, ← since]
    rfl
  · have lapsed : x + ms 1 ≤ a.clk.now := lasted
    have above : 2100 < aoSum m := by rw [aoSum, total]; decide
    obtain ⟨r, first⟩ : ∃ r, a.landsDown = 7 :: r := ⟨_, List.filter_cons_of_pos land⟩
    have enough : aoSum m - m.getD 7 0 < 2000 := by rw [aoSum, total]; omega
    have one := State.aoTotal_one (s := { a with pwr := { a.pwr with aoOver := none } }) above first enough fresh
    obtain ⟨fault, off, others⟩ := State.totalOff_ao (s := { a with pwr := { a.pwr with aoOver := none } }) (m := m) has (fresh 7 (by decide))
    have sampled := State.aoTotalSample_over (s := a) above
    rw [show a.pwr.aoOver = some x from since, Option.getD_some, if_pos lapsed, one] at sampled
    exact ⟨_, congrArg Host.Outcome.next sampled, fault, off,
      congrArg PowerSt.aoOver (State.totalOff_pwr _ m 7), fun j lt7 => others j (Nat.ne_of_lt lt7)⟩
  · exact congrArg Host.Outcome.next (State.nokSample_fault (s := a) on bad)
  · exact congrArg Host.Outcome.next (State.nokSample_low (s := a) on low fresh)
  · obtain off | ⟨low, high⟩ := good
    · exact congrArg Host.Outcome.next (State.nokSample_off (s := a) off)
    · cases on : s.nok.on with
      | false => exact congrArg Host.Outcome.next (State.nokSample_off (s := a) on)
      | true => exact congrArg Host.Outcome.next (State.nokSample_good (s := a) on low high)
  · exact ⟨_, rfl, fun late => State.nokUpdate_late (s := a) late, rfl, rfl⟩

end Sys2Proof.Machine
end

section
/-!
PROOFS. The display engine: requests, the charge pump, waveforms and blinking (R401, R402, R407, R412, R414 to R416, R422).
-/

namespace Sys2Proof.Machine

open Sys2Proof

/-! ## Masks of cells in a request (R422) -/

/-- The digits of a number in base 256 from place `k` on give the number back. -/
theorem foldr_digits (X n k : Nat) : (List.range' k n).foldr (fun i a => X / 256 ^ i % 256 + 256 * a) 0 = X / 256 ^ k % 256 ^ n := by
  induction n generalizing k with
  | zero => rw [pow_zero, Nat.mod_one]; rfl
  | succ n ih =>
    rw [List.range'_succ, List.foldr_cons, ih, pow_succ' 256 n, Nat.mod_mul, pow_succ 256 k, Nat.div_div_eq_div_mul]

theorem length_cellBytes (x : Cells) : (cellBytes x).length = 24 := by simp [cellBytes]

theorem toNat_getD_cellBytes (x : Cells) {i : Nat} (lt : i < 24) : ((cellBytes x).getD i 0).toNat = x.toNat / 256 ^ i % 256 := by
  unfold cellBytes
  rw [List.getD_eq_getElem _ _ (by simpa using lt)]
  simp only [List.getElem_map, List.getElem_range, BitVec.extractLsb'_toNat, Nat.shiftRight_eq_div_pow]
  rw [Nat.pow_mul]

/-- The mask in the 24 bytes at `o` of a request's payload. -/
def reqMask (f : Flight) (o : Nat) : Cells :=
  BitVec.ofNat 192 ((List.range 24).foldr (fun i a => byteAt f.req (16 + o + i) + 256 * a) 0)

theorem reqMask_eq {f : Flight} {o : Nat} {x : Cells} (bytes : ∀ i < 24, byteAt f.req (16 + o + i) = ((cellBytes x).getD i 0).toNat) :
    reqMask f o = x := by
  have digits : (List.range 24).foldr (fun i a => byteAt f.req (16 + o + i) + 256 * a) 0 = x.toNat := by
    calc (List.range 24).foldr (fun i a => byteAt f.req (16 + o + i) + 256 * a) 0
        = (List.range' 0 24).foldr (fun i a => x.toNat / 256 ^ i % 256 + 256 * a) 0 := by
          rw [← List.range_eq_range']
          refine List.foldr_ext _ _ _ (fun i mem b => ?_)
          rw [bytes i (List.mem_range.1 mem), toNat_getD_cellBytes x (List.mem_range.1 mem)]
      _ = x.toNat / 256 ^ 0 % 256 ^ 24 := foldr_digits _ _ _
      _ = x.toNat := by
        rw [pow_zero, Nat.div_one]
        exact Nat.mod_eq_of_lt x.isLt
  unfold reqMask
  rw [digits, BitVec.ofNat_toNat, BitVec.setWidth_eq]

/-- Three masks in a row in the payload of a request are the three masks. -/
theorem reqMasks_eq {f : Flight} {x y z : Cells} (bytes : (f.req.drop 16).take 72 = cellBytes x ++ cellBytes y ++ cellBytes z) :
    reqMask f 0 = x ∧ reqMask f 24 = y ∧ reqMask f 48 = z := by
  have byte (i : Nat) (lt : i < 72) : byteAt f.req (16 + i) = ((cellBytes x ++ cellBytes y ++ cellBytes z).getD i 0).toNat := by
    rw [← bytes]
    simp only [byteAt, List.getD_eq_getElem?_getD, List.getElem?_take, List.getElem?_drop, lt, if_true]
  have first : ∀ i < 24, (cellBytes x ++ cellBytes y ++ cellBytes z).getD i 0 = (cellBytes x).getD i 0 := fun i lt => by
    rw [List.append_assoc, List.getD_append _ _ _ _ (by rw [length_cellBytes]; exact lt)]
  have second : ∀ i < 24, (cellBytes x ++ cellBytes y ++ cellBytes z).getD (24 + i) 0 = (cellBytes y).getD i 0 := fun i lt => by
    rw [List.append_assoc, List.getD_append_right _ _ _ _ (by rw [length_cellBytes]; omega), length_cellBytes, Nat.add_sub_cancel_left,
      List.getD_append _ _ _ _ (by rw [length_cellBytes]; exact lt)]
  have third : ∀ i < 24, (cellBytes x ++ cellBytes y ++ cellBytes z).getD (48 + i) 0 = (cellBytes z).getD i 0 := fun i lt => by
    rw [List.getD_append_right _ _ _ _ (by rw [List.length_append, length_cellBytes, length_cellBytes]; omega), List.length_append,
      length_cellBytes, length_cellBytes, Nat.add_sub_cancel_left]
  refine ⟨reqMask_eq (fun i lt => ?_), reqMask_eq (fun i lt => ?_), reqMask_eq (fun i lt => ?_)⟩
  · rw [← first i lt, ← byte i (by omega)]
  · rw [← second i lt, ← byte (24 + i) (by omega), Nat.add_assoc]
  · rw [← third i lt, ← byte (48 + i) (by omega), Nat.add_assoc]

/-! ## Requests enter (R414, R422) -/

section
variable {s : State} {t tag : Nat} {f : Flight} {q : DispReq} {d : DispSt}

/-- A region whose update runs, or whose toggle waits, takes no request at once. -/
def DispSt.taken (d : DispSt) (r : Nat) : Bool :=
  !(!(match (d.regions.getD r {}).run with | some w => !w.toggle | none => false) && (d.regions.getD r {}).toggle.isNone)

theorem DispSt.taken_free {r : Nat} (run : ∀ w, (d.regions.getD r {}).run = some w → w.toggle = true)
    (toggle : (d.regions.getD r {}).toggle = none) : d.taken r = false := by
  unfold DispSt.taken
  rw [toggle]
  cases at_ : (d.regions.getD r {}).run with
  | none => rfl
  | some w => simp [run w at_]

theorem DispSt.taken_busy {r : Nat} (busy : (∃ w, (d.regions.getD r {}).run = some w ∧ w.toggle = false) ∨ (d.regions.getD r {}).toggle ≠ none) :
    d.taken r = true := by
  unfold DispSt.taken
  obtain ⟨w, run, update⟩ | toggle := busy
  · rw [run]
    simp [update]
  · cases at_ : (d.regions.getD r {}).toggle with
    | none => exact absurd at_ toggle
    | some x => simp

theorem DispSt.enter_free (free : d.taken q.region = false) :
    d.enter q = some ({ d with queue := d.queue ++ [{ q with waiting := false }] }, 0, false) :=
  if_pos ((Bool.not_eq_false' _).mp free)

/-- Requests that wait. -/
def DispSt.waits (d : DispSt) : List DispReq := d.queue.filter (fun x => x.waiting)

/-- A request of a region that is taken waits in its own place where no cell of it waits already. -/
theorem DispSt.enter_waits (taken : d.taken q.region = true)
    (apart : ∀ x ∈ d.queue, x.waiting = true → x.region = q.region → x.cells &&& q.cells = 0) :
    d.enter q = if 8 ≤ d.waits.length then none
      else some ({ d with queue := d.queue ++ [{ q with waiting := true }] }, d.waits.length + 1, false) := by
  have other : (d.queue.filter (fun x => x.waiting)).findIdx? (fun x =>
      x.waiting && decide (x.region = q.region) && decide (x.cells &&& q.cells ≠ 0)) = none := by
    rw [List.findIdx?_eq_none_iff]
    intro x mem
    obtain ⟨inQueue, waiting⟩ := List.mem_filter.1 mem
    by_contra same
    simp only [Bool.not_eq_false, Bool.and_eq_true, decide_eq_true_eq] at same
    exact same.2 (apart x inQueue waiting same.1.2)
  unfold DispSt.enter
  refine (if_neg (ne_true_of_eq_false ((Bool.not_eq_true' _).mp taken))).trans ?_
  dsimp only
  rw [other]
  rfl

theorem State.dispRequest_out (out : s.disp.tempOut = true) (cells dark blink keep : Cells) :
    s.dispRequest f cells dark blink keep = s.complete f .hwFault 1 [] :=
  (if_pos out).trans (State.refuse_eq (by decide))

theorem State.dispRequest_full {cells dark blink keep : Cells} (warm : s.disp.tempOut = false)
    (full : s.disp.enter { region := f.unit, cells, dark, blink, keep, waiting := false } = none) :
    s.dispRequest f cells dark blink keep = s.complete f .queueFull 0 [] := by
  unfold State.dispRequest
  rw [if_neg (by simp [warm]), full]
  exact State.refuse_eq (by decide)

theorem State.dispRequest_enters {cells dark blink keep : Cells} {p : Nat} {m : Bool} (warm : s.disp.tempOut = false)
    (enters : s.disp.enter { region := f.unit, cells, dark, blink, keep, waiting := false } = some (d, p, m)) :
    s.dispRequest f cells dark blink keep = ({ s with disp := d } : State).wait f (.nextFrame (le8 p ++ le8 (bit m) ++ zeros 2)) := by
  unfold State.dispRequest
  rw [if_neg (by simp [warm]), enters]

/-- Table 15.10: the request of `DISP_UPDATE`. -/
def State.dispUpdate (f : Flight) (s : State) : State :=
  if !s.regionOn f.unit || s.dispField f.unit 4 1 != 0 then s.refuse f (.badField, 8, [])
  else
    match (firstCell 16 (reqMask f 0 &&& ~~~(s.regionMask f.unit))) <|> (firstCell 64 (reqMask f 0 &&& reqMask f 24 &&& reqMask f 48)) with
    | some r => s.refuse f r
    | none => s.dispRequest f (reqMask f 0) (reqMask f 24 &&& reqMask f 0) (reqMask f 48 &&& reqMask f 0) 0

theorem exec_dispUpdate_row : exec (.dispUpdate t tag) s = .next (s.withCur t tag 0x0B03 State.dispUpdate) := rfl

theorem firstCell_zero (o : Nat) : firstCell o 0 = none := by
  have whole : (List.range 24).find? (fun i => (0 : Cells).extractLsb' (8 * i) 8 != 0#8) = none := by
    rw [List.find?_eq_none]
    intro i _
    simp
  unfold firstCell
  rw [whole]

theorem and_self_of_within {x y : Cells} (within : y &&& ~~~x = 0) : y &&& x = y := by
  have split : y = (y &&& x) ||| (y &&& ~~~x) := by
    rw [← BitVec.and_or_distrib_left, BitVec.or_not_self, BitVec.and_allOnes]
  rw [within] at split
  simpa using split.symm

/-- An update whose masks lie within the region and apart goes into the queue as it stands. -/
theorem State.dispUpdate_good {x y z : Cells} (on : s.regionOn f.unit = true) (unbound : s.dispField f.unit 4 1 = 0)
    (bytes : (f.req.drop 16).take 72 = cellBytes x ++ cellBytes y ++ cellBytes z) (within : x &&& ~~~(s.regionMask f.unit) = 0)
    (dark : y &&& ~~~x = 0) (blink : z &&& ~~~x = 0) (apart : z &&& y = 0) : s.dispUpdate f = s.dispRequest f x y z 0 := by
  obtain ⟨cells, darks, blinks⟩ := reqMasks_eq bytes
  have inside : firstCell 16 (x &&& ~~~(s.regionMask f.unit)) = none := by rw [within]; exact firstCell_zero 16
  have disjoint : firstCell 64 (x &&& y &&& z) = none := by
    rw [BitVec.and_assoc, BitVec.and_comm y z, apart, show x &&& 0 = 0 by simp]
    exact firstCell_zero 64
  unfold State.dispUpdate
  rw [if_neg (by simp [on, unbound]), cells, darks, blinks, inside, disjoint, and_self_of_within dark, and_self_of_within blink]
  rfl

theorem State.dispUpdate_refused (other : s.regionOn f.unit = false ∨ s.dispField f.unit 4 1 ≠ 0) :
    s.dispUpdate f = s.complete f .badField 8 [] :=
  (if_pos (by simpa using other)).trans (State.refuse_eq (by decide))

/-- The request of `DISP_REFRESH`. -/
def State.dispRefresh (f : Flight) (s : State) : State :=
  if !s.regionOn f.unit || s.dispField f.unit 4 1 != 0 then s.refuse f (.badField, 8, [])
  else
    let m := s.regionMask f.unit &&& ~~~s.disp.unknown
    s.dispRequest f m (s.disp.dark &&& m &&& ~~~s.disp.blink) (s.disp.blink &&& m) (s.disp.blink &&& m)

theorem exec_dispRefresh_row : exec (.dispRefresh t tag) s = .next (s.withCur t tag 0x0B04 State.dispRefresh) := rfl

theorem State.dispRefresh_good (on : s.regionOn f.unit = true) (unbound : s.dispField f.unit 4 1 = 0) : s.dispRefresh f =
    let m := s.regionMask f.unit &&& ~~~s.disp.unknown
    s.dispRequest f m (s.disp.dark &&& m &&& ~~~s.disp.blink) (s.disp.blink &&& m) (s.disp.blink &&& m) :=
  if_neg (by simp [on, unbound])

theorem State.dispRefresh_refused (other : s.regionOn f.unit = false ∨ s.dispField f.unit 4 1 ≠ 0) :
    s.dispRefresh f = s.complete f .badField 8 [] :=
  (if_pos (by simpa using other)).trans (State.refuse_eq (by decide))

end

/-! ## The charge pump (R401, R402) -/

section
variable {s : State} {t : Nat}

/-- The lands follow the engine and change nothing else of it. -/
theorem State.driveLands_lands (s : State) : ∃ g p, s.driveLands = { s with disp := { s.disp with seg := g, tpl := p } } := by
  obtain off | other := Decidable.em (s.disp.pump = .off)
  · exact ⟨_, _, congrArg (fun d => ({ s with disp := d } : State)) (if_pos off)⟩
  · exact ⟨_, _, congrArg (fun d => ({ s with disp := d } : State)) (if_neg other)⟩

theorem State.driveLands_off (off : s.disp.pump = .off) : s.driveLands.disp = { s.disp with seg := List.replicate 192 5, tpl := 5 } := by
  unfold State.driveLands
  exact if_pos off

theorem DispSt.wantPump_early {d : DispSt} {now : Nat} (early : now < d.noStartUntil) : d.wantPump now = d := if_pos early

theorem DispSt.wantPump_off {d : DispSt} {now : Nat} (off : d.pump = .off) (free : d.noStartUntil ≤ now) :
    d.wantPump now = { d with pump := .starting now, reenable := false } := by
  unfold DispSt.wantPump
  rw [if_neg (Nat.not_lt.2 free), off]

theorem DispSt.wantPump_discharging {d : DispSt} {now x : Nat} (disch : d.pump = .discharging x) (free : d.noStartUntil ≤ now) :
    d.wantPump now = { d with reenable := true } := by
  unfold DispSt.wantPump
  rw [if_neg (Nat.not_lt.2 free), disch]

/-- Something falls due that needs the pump. -/
def DispSt.pumpDue (d : DispSt) : Bool :=
  d.regions.any (fun r => r.toggle.isSome) || d.cellPend.isSome || (!d.queue.isEmpty && !d.tempOut)

theorem DispSt.pumpDue_queue {d : DispSt} (queue : d.queue ≠ []) (warm : d.tempOut = false) : d.pumpDue = true := by
  simp [DispSt.pumpDue, queue, warm]

theorem DispSt.pumpDue_idle {d : DispSt} (none_ : d.queue = [] ∨ d.tempOut = true) (idle : d.busy = false) : d.pumpDue = false := by
  unfold DispSt.busy at idle
  simp only [Bool.or_eq_false_iff, List.any_eq_false] at idle
  obtain ⟨⟨⟨regions, -⟩, cell⟩, -⟩ := idle
  have noQueue : (!d.queue.isEmpty && !d.tempOut) = false := by obtain empty | out := none_ <;> simp [*]
  have noToggle : d.regions.any (fun r => r.toggle.isSome) = false := by
    rw [List.any_eq_false]
    exact fun r mem toggle => regions r mem (by rw [toggle, Bool.or_true])
  rw [DispSt.pumpDue, noQueue, noToggle, cell]
  rfl

theorem exec_pumpStart_due (due : s.disp.pumpDue = true) :
    exec (.pumpStart t) s = .next ((s.advance t).modDisp (fun d => d.wantPump (s.advance t).clk.now)).driveLands :=
  congrArg Host.Outcome.next (if_pos due)

theorem exec_pumpStart_idle (idle : s.disp.pumpDue = false) : exec (.pumpStart t) s = .next (s.advance t) :=
  congrArg Host.Outcome.next (if_neg (ne_true_of_eq_false idle))

theorem State.railOk_iff (v : Nat) : s.railOk v = true ↔
    9 * (s.dispField 8 4 2 * 10) ≤ 10 * v ∧ 10 * v ≤ 11 * (s.dispField 8 4 2 * 10) := by
  simp [State.railOk]

/-- A rail that is not within 10 % of its set point 20 ms after the start stops the pump for 10 s (R401). -/
theorem exec_dispPumpFault_found {x vp : Nat} {vn : Int} (starting : s.disp.pump = .starting x)
    (elapsed : x + ms 20 ≤ (s.advance t).clk.now) (bad : s.railOk vp = false ∨ 0 < vn ∨ s.railOk vn.natAbs = false) :
    exec (.dispPumpFault t vp vn) s = .next (((s.advance t).modDisp (fun d => { d.stopPump (s.advance t).clk.now with
      fault := true, noStartUntil := (s.advance t).clk.now + secs 10, reenable := false, cellRun := none, cellPend := d.cellLeft })).logNode
        0x0B03 5 vp (twos 32 vn)).driveLands := by
  refine congrArg Host.Outcome.next ?_
  rw [show (s.advance t).disp.pump = .starting x from starting]
  refine if_pos ?_
  change (decide (x + ms 20 ≤ (s.advance t).clk.now) && !(s.railOk vp && decide (vn ≤ 0) && s.railOk vn.natAbs)) = true
  rw [decide_eq_true elapsed]
  obtain high | pos | low := bad
  · simp [high]
  · simp [pos]
  · simp [low]

theorem exec_dispPumpFault_good {x vp : Nat} {vn : Int} (starting : s.disp.pump = .starting x)
    (good : (s.advance t).clk.now < x + ms 20 ∨ (s.railOk vp = true ∧ vn ≤ 0 ∧ s.railOk vn.natAbs = true)) :
    exec (.dispPumpFault t vp vn) s = .next (s.advance t) := by
  refine congrArg Host.Outcome.next ?_
  rw [show (s.advance t).disp.pump = .starting x from starting]
  refine if_neg ?_
  change ¬ (decide (x + ms 20 ≤ (s.advance t).clk.now) && !(s.railOk vp && decide (vn ≤ 0) && s.railOk vn.natAbs)) = true
  obtain early | ⟨pos, sign, neg⟩ := good
  · rw [decide_eq_false (Nat.not_le.2 early)]
    exact Bool.false_ne_true
  · simp [pos, sign, neg]

theorem exec_dispPumpFault_other (vp : Nat) (vn : Int) (other : s.disp.pump = .off ∨ s.disp.pump = .on) :
    exec (.dispPumpFault t vp vn) s = .next (s.advance t) := by
  refine congrArg Host.Outcome.next ?_
  obtain off | on := other
  · rw [show (s.advance t).disp.pump = .off from off]
  · rw [show (s.advance t).disp.pump = .on from on]

/-- The pump with nothing to drive for 5 s. -/
theorem DispSt.idleTick_stops {d : DispSt} {now x : Nat} (on : d.pump = .on) (idle : d.busy = false) (since : d.idleSince = some x)
    (elapsed : x + secs 5 ≤ now) : d.idleTick now = d.stopPump now := by
  unfold DispSt.idleTick
  rw [on]
  dsimp only
  rw [if_neg (ne_true_of_eq_false idle), since]
  exact if_pos elapsed

theorem DispSt.idleTick_stays {d : DispSt} {now x : Nat} (on : d.pump = .on)
    (stays : d.busy = true ∨ (d.idleSince = some x ∧ now < x + secs 5)) : (d.idleTick now).pump = .on := by
  unfold DispSt.idleTick
  rw [on]
  dsimp only
  obtain busy | ⟨since, early⟩ := stays
  · rw [if_pos busy]
  · split
    · rfl
    · rw [since]
      dsimp only
      rw [if_neg (Nat.not_le.2 early)]
      exact on

theorem DispSt.idleTick_off {d : DispSt} {now : Nat} (off : d.pump = .off) : d.idleTick now = d := by
  unfold DispSt.idleTick
  rw [off]

theorem exec_pumpShutdown_frames (frames : s.frame.running = true) :
    exec (.pumpShutdown t) s = .next ((s.advance t).modDisp (fun d => d.idleTick (s.advance t).clk.now)).driveLands :=
  congrArg (fun u => Host.Outcome.next (State.driveLands u)) (if_pos frames)

theorem exec_pumpDischargeEnd_frames {x : Nat} (frames : s.frame.running = true) (disch : s.disp.pump = .discharging x)
    (due : x ≤ (s.advance t).clk.now) :
    exec (.pumpDischargeEnd t) s = .next ({ s.advance t with disp := { s.disp with pump := .off } } : State).driveLands := by
  refine congrArg (fun u => Host.Outcome.next (State.driveLands u)) ((if_pos frames).trans ?_)
  unfold State.modDisp
  rw [State.advance_disp]
  dsimp only
  rw [disch]
  dsimp only
  unfold DispSt.pumpTick
  rw [disch]
  dsimp only
  rw [if_pos due, if_neg (by simp)]

/-! ## While frames are stopped (R402, R417) -/

/-- The engine as time has passed, the banks with it. -/
def State.idleBanks (s : State) : State :=
  if s.dispSettle.pwr.banksPend && s.dispSettle.disp.cellRun.isNone then s.dispSettle.standbyBanks else s.dispSettle

theorem State.dispIdle_eq (noReset : s.rst.dueAt = none) : s.dispIdle = s.idleBanks := by
  have kept : s.idleBanks.rst = s.rst := State.ite_keeps (p := State.rst) (State.standbyBanks_keeps (fun _ _ _ => rfl)
    State.complete_rst (fun _ _ _ => rfl) (fun _ _ _ => rfl) (fun _ _ _ => rfl) (fun _ _ => rfl) _) rfl
  exact State.resetDue_none (s := s.idleBanks) (kept ▸ noReset)

theorem State.idleBanks_disp : s.idleBanks.disp = s.dispSettle.disp :=
  State.ite_keeps (p := State.disp) (State.standbyBanks_keeps (fun _ _ _ => rfl) State.complete_disp (fun _ _ _ => rfl)
    (fun _ _ _ => rfl) (fun _ _ _ => rfl) (fun _ _ => rfl) _) rfl

theorem State.idleBanks_banksPend (dark : s.dispSettle.disp.cellRun = none) (pend : s.pwr.banksPend = true) :
    s.idleBanks.pwr.banksPend = false := by
  unfold State.idleBanks
  rw [if_pos (by rw [dark]; exact (Bool.and_true _).trans pend)]
  rfl

theorem exec_pumpShutdown_stopped (stopped : s.frame.running = false) (noReset : s.rst.dueAt = none) :
    exec (.pumpShutdown t) s = .next (s.advance t).idleBanks.driveLands :=
  congrArg (fun u => Host.Outcome.next (State.driveLands u))
    ((if_neg (ne_true_of_eq_false stopped)).trans (State.dispIdle_eq (s := s.advance t) noReset))

theorem exec_pumpDischargeEnd_stopped (stopped : s.frame.running = false) (noReset : s.rst.dueAt = none) :
    exec (.pumpDischargeEnd t) s = .next (s.advance t).idleBanks.driveLands :=
  congrArg (fun u => Host.Outcome.next (State.driveLands u))
    ((if_neg (ne_true_of_eq_false stopped)).trans (State.dispIdle_eq (s := s.advance t) noReset))

end

/-- The engine as time has passed. -/
def DispSt.settle (d : DispSt) (now : Nat) (frames : Bool) : DispSt :=
  (((d.pumpTick now frames).pumpTick now frames).cellEnd now frames).pumpTick now frames

theorem State.dispSettle_disp (s : State) : s.dispSettle.disp = s.disp.settle s.clk.now s.frame.running := rfl

section
variable {d : DispSt} {now : Nat}

theorem DispSt.pumpTick_on {frames : Bool} (on : d.pump = .on) : d.pumpTick now frames = d := by
  unfold DispSt.pumpTick
  rw [on]

theorem DispSt.pumpTick_early {frames : Bool} {x : Nat} (disch : d.pump = .discharging x) (early : now < x) :
    d.pumpTick now frames = d := by
  unfold DispSt.pumpTick
  rw [disch]
  exact if_neg (Nat.not_le.2 early)

/-- The engine with the drive of the cell over, the pump stopped with it. -/
def DispSt.cellOver (d : DispSt) (k : CellRun) : DispSt :=
  ({ d with cellRun := none, cellDark := k.dark, cellKnown := true, unknown := d.unknown &&& ~~~cell191,
            dark := if k.dark then d.dark ||| cell191 else d.dark &&& ~~~cell191 } : DispSt).stopPump k.ends

/-- While frames are stopped the pump stops with the drive of the cell. -/
theorem DispSt.settle_cell {k : CellRun} (on : d.pump = .on) (run : d.cellRun = some k) (elapsed : k.ends ≤ now)
    (recent : now < k.ends + ms 30) : d.settle now false = d.cellOver k := by
  have ended : d.cellEnd now false = d.cellOver k := by
    unfold DispSt.cellEnd
    rw [run]
    dsimp only
    rw [if_pos elapsed, Bool.and_false, if_neg Bool.false_ne_true]
    rfl
  unfold DispSt.settle
  rw [DispSt.pumpTick_on on, DispSt.pumpTick_on on, ended]
  exact DispSt.pumpTick_early (x := k.ends + ms 30) rfl recent

theorem DispSt.cellOver_shows (k : CellRun) : (d.cellOver k).dark.getLsbD 191 = k.dark ∧ (d.cellOver k).unknown.getLsbD 191 = false := by
  have bit191 : cell191.getLsbD 191 = true := by decide
  constructor
  · change (if k.dark then d.dark ||| cell191 else d.dark &&& ~~~cell191).getLsbD 191 = k.dark
    cases k.dark <;> simp [bit191]
  · change (d.unknown &&& ~~~cell191).getLsbD 191 = false
    simp [bit191]

/-- The discharge is over while frames are stopped: a held start proceeds from its end. -/
theorem DispSt.settle_discharged {x : Nat} (disch : d.pump = .discharging x) (due : x ≤ now) (recent : now ≤ x + ms 20)
    (noRun : d.cellRun = none) : (d.settle now false).pump = if d.reenable = true then .starting x else .off := by
  have cell (e : DispSt) (h : e.cellRun = none) : e.cellEnd now false = e := by
    unfold DispSt.cellEnd
    rw [h]
  have first : d.pumpTick now false =
      if d.reenable then { d with pump := .starting x, reenable := false } else { d with pump := .off } := by
    unfold DispSt.pumpTick
    rw [disch]
    dsimp only
    rw [if_pos due, Bool.not_false, Bool.and_true]
  unfold DispSt.settle
  rw [first]
  obtain held | held := Bool.eq_false_or_eq_true d.reenable
  · have again : ({ d with pump := .starting x, reenable := false } : DispSt).pumpTick now false =
        { d with pump := .starting x, reenable := false } := if_neg (Nat.not_lt.2 recent)
    rw [if_pos held, if_pos held, again, cell { d with pump := .starting x, reenable := false } noRun, again]
  · have again : ({ d with pump := .off } : DispSt).pumpTick now false = { d with pump := .off } :=
      if_neg (by simp [held])
    rw [if_neg (ne_true_of_eq_false held), if_neg (ne_true_of_eq_false held), again, cell { d with pump := .off } noRun, again]

end

/-! ## Waveforms (R407, R412, R415) -/

section
variable {s : State} {t r : Nat}

theorem State.region_modRegion (f : RegionSt → RegionSt) (has : r < s.disp.regions.length) : (s.modRegion r f).region r = f (s.region r) :=
  getD_modAt_self f {} has

/-- The waveform that starts for a request. -/
def State.waveFor (s : State) (r : Nat) (toggle : Bool) (q : DispReq) : DispRun :=
  let dark := (q.dark &&& ~~~q.keep) ||| (s.disp.dark &&& q.keep)
  { toggle, cells := q.cells, dark, blink := q.blink, keep := q.keep, band := s.disp.useBand, start := s.clk.now,
    ends := s.clk.now + s.runNs r s.disp.useBand q.driven dark }

theorem State.startRun_run (toggle : Bool) (q : DispReq) (has : r < s.disp.regions.length) :
    ((s.startRun r toggle q).region r).run = some (s.waveFor r toggle q) := by
  unfold State.startRun
  rw [State.region_modRegion _ has]
  rfl

/-- A region that may start at this instant. -/
def State.startFree (s : State) (r : Nat) : Prop := s.regionFree r = true ∧ (s.region r).endedAt < s.clk.now

theorem State.startRegion_taken (taken : s.regionFree r = false) : s.startRegion r = s := if_pos (by simp [taken])

variable (free : s.startFree r)
include free

theorem State.startRegion_open : ¬ (!s.regionFree r || decide (s.clk.now ≤ (s.region r).endedAt)) = true := by
  obtain ⟨idle, ended⟩ := free
  simp [idle, ended]

theorem State.startRegion_request {q : DispReq} (noToggle : (s.region r).toggle = none) (warm : s.disp.tempOut = false)
    (oldest : s.disp.oldest r = some q) (granted : (s.region r).granted = some false) : s.startRegion r =
      if s.disp.pump = .on then (s.modDisp (fun d => { d with queue := d.queue.erase q })).startRun r false q
      else s.modDisp (fun d => d.wantPump s.clk.now) := by
  unfold State.startRegion
  dsimp only
  rw [if_neg (State.startRegion_open free), noToggle]
  dsimp only
  rw [show s.nextReq r = some q from (if_neg (ne_true_of_eq_false warm)).trans oldest, granted]
  rfl

theorem State.startRegion_toggle {x : Cells} {k : Bool} (toggle : (s.region r).toggle = some (x, k))
    (granted : s.blinkClass0 r = true ∨ (s.region r).granted = some true) (on : s.disp.pump = .on) : s.startRegion r =
      (s.modRegion r (fun y => { y with toggle := none })).startRun r true
        { region := r, cells := x, dark := if k then x else 0, blink := 0, waiting := false } := by
  unfold State.startRegion
  dsimp only
  rw [if_neg (State.startRegion_open free), toggle]
  dsimp only
  rw [if_neg (by obtain class0 | held := granted <;> simp [*]), if_pos on]

theorem State.startRegion_nothing (noToggle : (s.region r).toggle = none)
    (none_ : s.disp.tempOut = true ∨ s.disp.oldest r = none ∨ (s.region r).granted ≠ some false) : s.startRegion r = s := by
  unfold State.startRegion
  dsimp only
  rw [if_neg (State.startRegion_open free), noToggle]
  dsimp only
  obtain out | empty | held := none_
  · rw [show s.nextReq r = none from if_pos out]
  · rw [show s.nextReq r = none from (congrArg (fun o => if s.disp.tempOut then none else o) empty).trans (ite_self _)]
  · split
    · rfl
    · exact if_pos (by simpa using held)

end

section
variable {s : State} {t r : Nat}

theorem exec_waveformStart_due (lt : r < 8) (runs : s.frame.running = true) (due : s.frame.nextTick ≤ (s.advance t).clk.now) :
    exec (.waveformStart t r) s = .next ((s.advance t).startRegion r).driveLands := by
  refine (if_pos lt).trans (congrArg Host.Outcome.next (if_pos ?_))
  rw [State.advance_frame, runs, decide_eq_true due]
  rfl

theorem exec_waveformStart_early (lt : r < 8) (early : s.frame.running = false ∨ (s.advance t).clk.now < s.frame.nextTick) :
    exec (.waveformStart t r) s = .next (s.advance t) := by
  refine (if_pos lt).trans (congrArg Host.Outcome.next (if_neg ?_))
  rw [State.advance_frame]
  obtain stopped | early := early
  · simp [stopped]
  · simp [early]

theorem exec_waveformEnd_row (lt : r < 8) : exec (.waveformEnd t r) s = .next ((s.advance t).endRegion r).driveLands := if_pos lt

theorem State.endRegion_early {w : DispRun} (run : (s.region r).run = some w) (early : s.clk.now < w.ends) : s.endRegion r = s := by
  unfold State.endRegion
  rw [run]
  exact if_pos early

/-- The engine once the waveform of a region is over: the cells driven show their new states. -/
def DispSt.shown (d : DispSt) (w : DispRun) : DispSt :=
  { d with dark := (d.dark &&& ~~~w.driven) ||| (w.dark &&& w.driven), unknown := d.unknown &&& ~~~w.driven,
           blink := if w.toggle then d.blink else (d.blink &&& ~~~w.cells) ||| (w.blink &&& w.cells) }

theorem State.endRegion_over {w : DispRun} (run : (s.region r).run = some w) (due : w.ends ≤ s.clk.now) (same : w.reband = false) :
    s.endRegion r = (s.modDisp (fun d => d.shown w)).modRegion r (fun y =>
      { y with run := none, endedAt := s.tickOf, reband := w.reband, updates := (y.updates + bit (!w.toggle)) % 4294967296 }) := by
  unfold State.endRegion
  rw [run]
  dsimp only
  rw [if_neg (Nat.not_lt.2 due), same, Bool.false_and, Bool.false_and, if_neg Bool.false_ne_true]
  rfl

/-! ## Blinking (R416) -/

theorem exec_blinkToggle_row {g : Nat} (lt : g < 4) : exec (.blinkToggle t g) s = .next ((s.advance t).blinkStep g) := if_pos lt

theorem State.blinkStep_still {g : Nat} (still : blinkPeriod s.cfg.img g = 0) : s.blinkStep g = s := if_pos (by simp [still])

theorem State.blinkStep_turns {g : Nat} (blinks : blinkPeriod s.cfg.img g ≠ 0) (panel : s.panelOn = true) (awake : s.pwr.state ≠ .standby)
    (turns : darkHalf (blinkPeriod s.cfg.img g) s.clk.base ≠ s.disp.halves.getD g false) :
    s.blinkStep g = s.blinkTo g (darkHalf (blinkPeriod s.cfg.img g) s.clk.base) :=
  (if_neg (by simp [blinks, panel, awake])).trans (if_neg turns)

/-- A new half makes pending toggles and leaves the picture and the queue. -/
theorem State.blinkTo_does {g : Nat} (dark : Bool) (has : g < s.disp.halves.length) : (s.blinkTo g dark).disp.halves.getD g false = dark ∧
    (s.blinkTo g dark).disp.dark = s.disp.dark ∧ (s.blinkTo g dark).disp.queue = s.disp.queue := by
  have kept : (fun u : State => (u.disp.halves, u.disp.dark, u.disp.queue)) (s.blinkTo g dark) =
      (modAt s.disp.halves g (fun _ => dark), s.disp.dark, s.disp.queue) := by
    unfold State.blinkTo
    exact State.foldl_keeps (fun u : State => (u.disp.halves, u.disp.dark, u.disp.queue)) (fun u r => by split <;> rfl) _ _
  obtain ⟨halves, picture⟩ := Prod.mk.inj kept
  obtain ⟨darks, queue⟩ := Prod.mk.inj picture
  exact ⟨(congrArg (fun l => List.getD l g false) halves).trans (getD_modAt_self _ _ has), darks, queue⟩

end

theorem and_none_kept (x y : Cells) : (x &&& ~~~(0 : Cells)) ||| (y &&& 0) = x := by
  rw [show ~~~(0 : Cells) = BitVec.allOnes 192 by decide, BitVec.and_allOnes, BitVec.and_comm]
  simp

/-- What of the engine the levels of the lands leave. -/
theorem State.driveLands_keeps {β : Type} (p : DispSt → β) (lands : ∀ d g q, p { d with seg := g, tpl := q } = p d) (s : State) :
    p s.driveLands.disp = p s.disp := by
  obtain ⟨g, q, h⟩ := s.driveLands_lands
  rw [h]
  exact lands _ _ _

section
variable (s : State)

theorem State.driveLands_pump : s.driveLands.disp.pump = s.disp.pump := s.driveLands_keeps DispSt.pump (fun _ _ _ => rfl)

theorem State.driveLands_reenable : s.driveLands.disp.reenable = s.disp.reenable := s.driveLands_keeps DispSt.reenable (fun _ _ _ => rfl)

theorem State.driveLands_regions : s.driveLands.disp.regions = s.disp.regions := s.driveLands_keeps DispSt.regions (fun _ _ _ => rfl)

theorem State.driveLands_queue : s.driveLands.disp.queue = s.disp.queue := s.driveLands_keeps DispSt.queue (fun _ _ _ => rfl)

theorem State.driveLands_dark : s.driveLands.disp.dark = s.disp.dark := s.driveLands_keeps DispSt.dark (fun _ _ _ => rfl)

theorem State.driveLands_unknown : s.driveLands.disp.unknown = s.disp.unknown := s.driveLands_keeps DispSt.unknown (fun _ _ _ => rfl)

theorem State.driveLands_blink : s.driveLands.disp.blink = s.disp.blink := s.driveLands_keeps DispSt.blink (fun _ _ _ => rfl)

theorem State.driveLands_region (r : Nat) : s.driveLands.region r = s.region r := congrArg (fun l : List RegionSt => l.getD r {}) s.driveLands_regions

end

/-- Settles O57: requests enter and merge with nothing that waits apart from them, the pump starts, fails, stops and discharges, waveforms
start at their tick and end, cells blink. The land levels and the pump that stops with the cell while frames are stopped are the
model's choices (log entries 123 to 125). -/
theorem displayEngine : Obligations.DisplayEngine := by
  intro s t tag f a c d m
  refine ⟨fun he on unbound warm run toggle => ?_, fun x y z he on unbound warm bytes within dark blink apart => ⟨fun run toggle => ?_,
      fun busy others => ⟨fun room => ?_, fun full => ?_⟩⟩, fun other => ⟨fun he => ?_, fun he => ?_⟩, fun he on unbound out => ?_,
    fun he => exec_row_eq rfl he rfl, fun queue warm off free => ?_, fun x queue warm disch free => ?_, fun early => ?_,
    fun none_ idle => exec_pumpStart_idle (DispSt.pumpDue_idle none_ idle), fun x vp vn => exec_dispPumpFault_found,
    fun x vp vn => exec_dispPumpFault_good, State.railOk_iff, exec_dispPumpFault_other, fun frames => ⟨fun x on idle since elapsed => ?_,
      fun x on stays => ?_, fun x disch due => exec_pumpDischargeEnd_frames frames disch due, fun off => ?_⟩,
    fun stopped noReset => ⟨fun k on run elapsed recent => ?_, fun x disch due recent noRun => ?_⟩,
    fun r lt has runs due free ended => ⟨fun q noToggle warm oldest granted => ⟨fun on => ?_, fun off start => ?_⟩,
      fun x k toggle granted on => ?_, fun noToggle none_ => ?_⟩, fun r x lt run => ?_, fun r lt early => exec_waveformStart_early lt early,
    fun r w lt has run due same => ?_, fun w => rfl, fun r w lt run early => ?_, fun g lt still => ?_,
    fun g lt has blinks panel awake turns => ?_⟩
  · have free : d.taken f.unit = false := DispSt.taken_free run toggle
    exact exec_row_eq exec_dispRefresh_row he ((State.dispRefresh_good (s := c) on unbound).trans
      (State.dispRequest_enters (s := c) warm (DispSt.enter_free free)))
  · have free : d.taken f.unit = false := DispSt.taken_free run toggle
    exact exec_row_eq exec_dispUpdate_row he ((State.dispUpdate_good (s := c) on unbound bytes within dark blink apart).trans
      (State.dispRequest_enters (s := c) warm (DispSt.enter_free free)))
  · have waits := DispSt.enter_waits (d := d) (q := { region := f.unit, cells := x, dark := y, blink := z, waiting := false })
      (DispSt.taken_busy busy) others
    exact exec_row_eq exec_dispUpdate_row he ((State.dispUpdate_good (s := c) on unbound bytes within dark blink apart).trans
      (State.dispRequest_enters (s := c) warm (waits.trans (if_neg (Nat.not_le.2 room)))))
  · have waits := DispSt.enter_waits (d := d) (q := { region := f.unit, cells := x, dark := y, blink := z, waiting := false })
      (DispSt.taken_busy busy) others
    exact exec_row_eq exec_dispUpdate_row he ((State.dispUpdate_good (s := c) on unbound bytes within dark blink apart).trans
      (State.dispRequest_full (s := c) warm (waits.trans (if_pos full))))
  · exact exec_row_eq exec_dispUpdate_row he (State.dispUpdate_refused (s := c) other)
  · exact exec_row_eq exec_dispRefresh_row he (State.dispRefresh_refused (s := c) other)
  · exact exec_row_eq exec_dispRefresh_row he ((State.dispRefresh_good (s := c) on unbound).trans (State.dispRequest_out (s := c) out _ _ _ _))
  · refine (exec_pumpStart_due (DispSt.pumpDue_queue queue warm)).trans ?_
    exact congrArg (fun e => Host.Outcome.next (State.driveLands { a with disp := e })) (DispSt.wantPump_off off free)
  · refine (exec_pumpStart_due (DispSt.pumpDue_queue queue warm)).trans ?_
    exact congrArg (fun e => Host.Outcome.next (State.driveLands { a with disp := e })) (DispSt.wantPump_discharging disch free)
  · cases due : s.disp.pumpDue with
    | false => exact ⟨_, exec_pumpStart_idle due, rfl, rfl⟩
    | true =>
      have same : d.wantPump a.clk.now = d := DispSt.wantPump_early early
      exact ⟨_, exec_pumpStart_due due, (State.driveLands_pump _).trans (congrArg DispSt.pump same),
        (State.driveLands_reenable _).trans (congrArg DispSt.reenable same)⟩
  · refine (exec_pumpShutdown_frames frames).trans ?_
    exact congrArg (fun e => Host.Outcome.next (State.driveLands { a with disp := e })) (DispSt.idleTick_stops on idle since elapsed)
  · exact ⟨_, exec_pumpShutdown_frames frames, (State.driveLands_pump _).trans (DispSt.idleTick_stays on stays)⟩
  · have lands := State.driveLands_off (s := a) off
    refine ⟨(exec_pumpShutdown_frames frames).trans ?_, by rw [lands], by rw [lands]⟩
    exact congrArg (fun e => Host.Outcome.next (State.driveLands { a with disp := e })) (DispSt.idleTick_off off)
  · have settled : a.dispSettle.disp = (d.settle a.clk.now false) :=
      a.dispSettle_disp.trans (congrArg (d.settle a.clk.now) stopped)
    rw [DispSt.settle_cell on run elapsed recent] at settled
    have disp := a.idleBanks_disp.trans settled
    obtain ⟨dark, known⟩ := d.cellOver_shows k
    obtain ⟨g, p, lands⟩ := a.idleBanks.driveLands_lands
    refine ⟨_, exec_pumpShutdown_stopped stopped noReset, ?_⟩
    rw [lands, disp]
    exact ⟨rfl, rfl, rfl, dark, known, State.idleBanks_banksPend (s := a) (congrArg DispSt.cellRun settled)⟩
  · have settled : a.dispSettle.disp = (d.settle a.clk.now false) :=
      a.dispSettle_disp.trans (congrArg (d.settle a.clk.now) stopped)
    refine ⟨_, exec_pumpDischargeEnd_stopped stopped noReset, (State.driveLands_pump _).trans ?_⟩
    rw [a.idleBanks_disp, settled]
    exact DispSt.settle_discharged disch due recent noRun
  · have starts := State.startRegion_request (s := a) ⟨free, ended⟩ noToggle warm oldest granted
    rw [if_pos (show a.disp.pump = .on from on)] at starts
    refine ⟨_, a.waveFor r false q, exec_waveformStart_due lt runs due, ?_, rfl, rfl, rfl, rfl, rfl, rfl, ?_, ?_⟩
    · rw [State.driveLands_region, starts]
      exact State.startRun_run (s := a.modDisp (fun d => { d with queue := d.queue.erase q })) false q has
    · rw [State.driveLands_queue, starts]
      rfl
    · rw [State.driveLands_dark, starts]
      rfl
  · have starts := State.startRegion_request (s := a) ⟨free, ended⟩ noToggle warm oldest granted
    rw [if_neg (show a.disp.pump ≠ .on by rw [show a.disp.pump = .off from off]; decide)] at starts
    have wants : (a.startRegion r).disp = { d with pump := .starting a.clk.now, reenable := false } :=
      (congrArg State.disp starts).trans (DispSt.wantPump_off off start)
    refine ⟨_, exec_waveformStart_due lt runs due, ?_, ?_, ?_⟩
    · rw [State.driveLands_pump, wants]
    · rw [State.driveLands_regions, wants]
    · rw [State.driveLands_queue, wants]
  · have starts := State.startRegion_toggle (s := a) ⟨free, ended⟩ toggle granted on
    have has' : r < (a.modRegion r (fun y => { y with toggle := none })).disp.regions.length := (modAt_length _ _ _).symm ▸ has
    let q : DispReq := { region := r, cells := x, dark := if k then x else 0, blink := 0, waiting := false }
    have region : (a.startRegion r).region r =
        { s.region r with toggle := none, run := some (a.waveFor r true q), lastBand := d.useBand, budgetHeld := false, granted := none } := by
      rw [starts]
      unfold State.startRun
      rw [State.region_modRegion _ has', State.region_modRegion _ (s := a) has]
      rfl
    refine ⟨_, a.waveFor r true q, exec_waveformStart_due lt runs due, ?_, ?_, rfl, ?_, rfl, rfl, ?_⟩
    · rw [State.driveLands_region, region]
    · rw [State.driveLands_region, region]
    · exact and_none_kept _ _
    · rw [State.driveLands_queue, starts]
      rfl
  · refine (exec_waveformStart_due lt runs due).trans (congrArg (fun u => Host.Outcome.next (State.driveLands u)) ?_)
    exact State.startRegion_nothing (s := a) ⟨free, ended⟩ noToggle none_
  · have taken : a.regionFree r = false := by
      change ((s.region r).run.isNone && _ && _ && _) = false
      rw [run]
      rfl
    obtain due | early := Decidable.em (s.frame.running = true ∧ s.frame.nextTick ≤ a.clk.now)
    · refine ⟨_, exec_waveformStart_due lt due.1 due.2, ?_⟩
      rw [State.driveLands_regions, State.driveLands_queue, State.startRegion_taken (s := a) taken]
      exact ⟨rfl, rfl⟩
    · have early' : s.frame.running = false ∨ a.clk.now < s.frame.nextTick := by
        rw [Decidable.not_and_iff_or_not] at early
        exact early.imp (Bool.not_eq_true _).mp Nat.not_le.1
      exact ⟨_, exec_waveformStart_early lt early', rfl, rfl⟩
  · have ends := State.endRegion_over (s := a) run due same
    have region : (a.endRegion r).region r =
        { s.region r with run := none, endedAt := a.tickOf, reband := w.reband,
                          updates := ((s.region r).updates + bit (!w.toggle)) % 4294967296 } := by
      rw [ends, State.region_modRegion _ (s := a.modDisp (fun d => d.shown w)) has]
      rfl
    refine ⟨_, exec_waveformEnd_row lt, ?_, ?_, ?_, ?_, ?_, ?_⟩
    · rw [State.driveLands_region, region]
    · rw [State.driveLands_dark, ends]; rfl
    · rw [State.driveLands_unknown, ends]; rfl
    · rw [State.driveLands_blink, ends]; rfl
    · rw [State.driveLands_region, region]
    · rw [State.driveLands_queue, ends]; rfl
  · exact (exec_waveformEnd_row lt).trans
      (congrArg (fun u => Host.Outcome.next (State.driveLands u)) (State.endRegion_early (s := a) run early))
  · exact (exec_blinkToggle_row lt).trans (congrArg Host.Outcome.next (State.blinkStep_still (s := a) still))
  · have turned := State.blinkStep_turns (s := a) blinks panel awake turns
    exact ⟨_, (exec_blinkToggle_row lt).trans (congrArg Host.Outcome.next turned), State.blinkTo_does (s := a) _ has⟩

end Sys2Proof.Machine
end

section
/-!
PROOFS. The SEC opcodes: the owner keys while a session with `EXTEST` ends (R20, R426, R440, R442).
-/

namespace Sys2Proof.Machine

open Sys2Proof

/-- `SEC_DEBUG_END` of the host. -/
def endRequest : Flight := { id := 0, origin := .host, req := [0x09, 0x0C] }

/-- The write of an owner key into slot 0 as the key store has it under way (R426). -/
def ownerKeyWrite : NvmOp := { num := 0, kind := .keyChurn, data := Mem.fromList 0 [1], arg := keyArg 1 0 0, since := 0, left := 1 }

/-- A node in PROVISIONED whose `FULL` session drives the lands by `EXTEST`: its first owner key is being written when
`SEC_DEBUG_END` executes. -/
def keyWriteUnderExtest : State := { State.reset with
  host := { State.reset.host with cur := some endRequest }
  nvm := { State.reset.nvm with running := some ownerKeyWrite }
  sec := { State.reset.sec with
    dbg := { extest := true, session := some { level := .full, signer := 0, serial := 0, flags := 1, notAfter := 0, key := 0, lastOp := 0 } } } }

theorem keyWriteUnderExtest_executes : Executes keyWriteUnderExtest 0 0x0C09 endRequest := ⟨rfl, rfl, rfl⟩

/-- The end of the session resets the node, and the flush before the reset completes the write: the key stands in its slot. -/
theorem keyWriteUnderExtest_ends : ∃ u : State, exec (.secDebugEnd 0 0) keyWriteUnderExtest = .next u ∧ u.sec.owner = [some 1, none] :=
  ⟨_, exec_row rfl keyWriteUnderExtest_executes, rfl⟩

/-- Before, both slots are empty. -/
theorem keyWriteUnderExtest_empty : keyWriteUnderExtest.sec.owner = [none, none] := rfl

/-- Refutes O58: `SEC_DEBUG_END` does not leave the owner keys as they are when `EXTEST` drives the lands and an owner key is being
written. The end of the session then resets the node (R440, R442), and the flush completes the operation under way (R20), so the key
written stands in its slot. The same holds of `SEC_FIELD`, which ends the session as well. -/
theorem not_securityOpcodes : ¬ Obligations.SecurityOpcodes := by
  unfold Obligations.SecurityOpcodes
  intro h
  obtain ⟨-, -, -, -, -, -, -, -, -, -, -, -, -, -, -, -, debugEnd, -⟩ := h keyWriteUnderExtest 0 0 endRequest
  obtain ⟨u, next, -, -, owner⟩ := debugEnd _ keyWriteUnderExtest_executes rfl
  obtain ⟨v, next', written⟩ := keyWriteUnderExtest_ends
  obtain rfl : u = v := Host.Outcome.next.inj (next.symm.trans next')
  rw [written, keyWriteUnderExtest_empty] at owner
  exact absurd owner (by decide)

end Sys2Proof.Machine
end

section
/-!
PROOFS. The test port, the mailbox and the debug session (R434 to R442).
-/

namespace Sys2Proof.Machine

open Sys2Proof

/-! ## The test port (R434, R442) -/

section

variable {s : State} {i : TapInstr} (go : State → State)

/-- Without its rails, and in HOLDUP, the TAP does not answer. -/
theorem State.tapSelect_down (down : s.tapUp = false) : s.tapSelect i go = s := by
  simp [State.tapSelect, down]

theorem State.tapSelect_go (up : s.tapUp = true) (inside : s.sec.dbg.extest = false) :
    s.tapSelect i go = go (s.modDbg (fun d => { d with instr := i })) := by
  simp [State.tapSelect, up, inside]

/-- Leaving `EXTEST` for another instruction resets the node. -/
theorem State.tapSelect_leaves (up : s.tapUp = true) (driving : s.sec.dbg.extest = true) (other : i ≠ .extest) :
    s.tapSelect i go = s.debugReset := by
  simp [State.tapSelect, up, driving, other]

end

theorem State.debugReset_starts (s : State) : s.debugReset.pwr.state = .starting ∧ s.debugReset.rst.cause = 7 + causeFlushDone := by
  unfold State.debugReset
  dsimp only
  have flushed := State.flushReset_restarted (s := s) rfl 7 0
  split
  · split
    · exact ⟨rfl, rfl⟩
    · exact ⟨flushed.state, flushed.cause⟩
  · exact ⟨flushed.state, flushed.cause⟩

/-- A debug-commanded reset that finds no session leaves none. -/
theorem State.debugReset_no_session {s : State} (closed : s.sec.dbg.session = none) : s.debugReset.sec.dbg.session = none := by
  simp only [State.debugReset, closed]
  rfl

theorem State.endSession_session (s : State) (cause : Nat) : (s.endSession cause).sec.dbg.session = none := by
  unfold State.endSession
  split
  · rfl
  · next closed => exact closed

theorem State.closeSession_session (s : State) (cause : Nat) : (s.closeSession cause).sec.dbg.session = none := by
  unfold State.closeSession
  split
  · exact State.debugReset_no_session (s.endSession_session cause)
  · exact s.endSession_session cause

section

variable {s : State} (t : Nat) (up : (s.advance t).tapUp = true)
include up

theorem exec_samplePreload_open (inside : s.sec.dbg.extest = false) (l w : Nat) (allowed : s.boundaryOpen = true) :
    exec (.samplePreload t l w) s = .next { s.advance t with
      sec := { s.sec with dbg := { s.sec.dbg with instr := .sample, dataOut := l, boundary := w } } } := by
  have chosen : (s.advance t).boundaryOpen = true := allowed
  refine congrArg Host.Outcome.next ((if_pos chosen).trans ?_)
  exact State.tapSelect_go (s := s.advance t) _ up inside

theorem exec_extest_open (inside : s.sec.dbg.extest = false) (l w : Nat) (allowed : s.boundaryOpen = true) :
    exec (.extest t l w) s = .next { s.advance t with
      sec := { s.sec with dbg := { s.sec.dbg with instr := .extest, extest := true, dataOut := l, boundary := w } } } := by
  have chosen : (s.advance t).boundaryOpen = true := allowed
  refine congrArg Host.Outcome.next ((if_pos chosen).trans ?_)
  exact State.tapSelect_go (s := s.advance t) _ up inside

/-- Without access to the boundary register both of its instructions act as `BYPASS`. -/
theorem exec_boundary_closed (inside : s.sec.dbg.extest = false) (l w : Nat) (barred : s.boundaryOpen = false) :
    let bypassed := { s.advance t with sec := { s.sec with dbg := { s.sec.dbg with instr := .bypass, dataOut := 0 } } }
    exec (.extest t l w) s = .next bypassed ∧ exec (.samplePreload t l w) s = .next bypassed := by
  have closed : ¬ (s.advance t).boundaryOpen = true := by
    show ¬ s.boundaryOpen = true
    rw [barred]
    exact Bool.false_ne_true
  have bypass := State.tapSelect_go (s := s.advance t) (i := .bypass) (fun s => s.modDbg (fun d => { d with dataOut := 0 })) up inside
  exact ⟨congrArg Host.Outcome.next ((if_neg closed).trans bypass), congrArg Host.Outcome.next ((if_neg closed).trans bypass)⟩

theorem exec_idcode_leaves_extest (driving : s.sec.dbg.extest = true) :
    ∃ u : State, exec (.idcode t) s = .next u ∧ u.pwr.state = .starting ∧ u.rst.cause % 256 = 7 := by
  obtain ⟨state, cause⟩ := (s.advance t).debugReset_starts
  refine ⟨_, congrArg Host.Outcome.next (State.tapSelect_leaves (s := s.advance t) _ up driving (by decide)), state, ?_⟩
  rw [cause]
  decide

end

/-! ## Opening a session (R436 to R438) -/

section

variable {s : State}

/-- A challenge takes two values drawn anew, the nonce first. -/
theorem State.hello_answers (open_ : s.sec.dbg.ignoreUntil ≤ s.clk.now) : s.hello.free = s.free + 2 ∧
    (∃ k, s.hello.sec.dbg.challenge = some (Config.random32 s.free, k)) ∧ ∃ m, s.hello.sec.dbg.out = s.sec.dbg.out ++ [(2, m)] := by
  unfold State.hello
  rw [if_neg (Nat.not_lt.2 open_)]
  exact ⟨rfl, ⟨_, rfl⟩, ⟨_, rfl⟩⟩

theorem State.hello_ignored (later : s.clk.now < s.sec.dbg.ignoreUntil) : s.hello = s := if_pos later

/-- A second session is refused. -/
theorem State.authBad_second {y : Session} (open_ : s.sec.dbg.session = some y) (l : Nat) (c p : List Byte) :
    s.authBad l c p = some 10 := by
  simp [State.authBad, open_]

/-- What a certificate, a level and a proof must meet outside FIELDED (R437, Tables 16.7 to 16.9). -/
def State.AuthMet (s : State) (l : Nat) (c p : List Byte) : Prop :=
  byteAt c 8 = 0 ∧ certForm c = true ∧ ecdsaVerify (leBytes 64 Config.rootKey.toNat) (c.take 128) (c.drop 128) = true ∧
    (c.drop 16).take 16 = uniqueBytes ∧ lifeBit c s.sec.life = true ∧ (l = 1 ∨ l = 2) ∧ l ≤ byteAt c 6 ∧
    (s.sec.life = .provisioned → s.timeQuality ≠ 4) ∧
    (s.timeQuality ≠ 4 → tsUs (u64At c 32) ≤ s.clk.base / 1000 ∧ s.clk.base / 1000 ≤ tsUs (u64At c 40)) ∧
    ∃ z ∈ s.sec.dbg.challenge.toList, ecdsaVerify ((c.drop 48).take 64) (leBytes 32 z.1.toNat ++ publicKey z.2 ++ c ++ le8 l) p = true

/-- Outside FIELDED the root key alone signs. -/
theorem SecSt.signerKey_unfielded {x : SecSt} (life : x.life = .blank ∨ x.life = .provisioned) (n : Nat) :
    x.signerKey n = if n = 0 then some (leBytes 64 Config.rootKey.toNat) else none := by
  obtain life | life := life <;> match n with
  | 0 | 1 | 2 => simp [SecSt.signerKey, life]
  | n + 3 => simp [SecSt.signerKey, life]

theorem State.matrix_safe (life : s.sec.life = .blank ∨ s.sec.life = .provisioned) (safe : s.pwr.state = .safe) : s.matrix = .full := by
  obtain life | life := life <;> simp [State.matrix, safe, life]

/-- A check that answers a status lets pass what it does not hold of. -/
theorem ite_some_eq_none_iff {α : Type} {c : Prop} [Decidable c] {a : α} {r : Option α} :
    (if c then some a else r) = none ↔ ¬ c ∧ r = none := by
  split <;> simp [*]

/-- In SAFE, outside FIELDED and without a session, an `AUTH` is granted just when all that it must meet is met. -/
theorem State.authBad_none_iff (closed : s.sec.dbg.session = none) (life : s.sec.life = .blank ∨ s.sec.life = .provisioned)
    (safe : s.pwr.state = .safe) (l : Nat) (c p : List Byte) : s.authBad l c p = none ↔ s.AuthMet l c p := by
  have matrix : s.matrix ≠ .none := by rw [State.matrix_safe life safe]; decide
  have signed : ∀ a b : Bool, ¬ (!a || !b) = true ↔ a = true ∧ b = true := by decide
  have levels : ¬ (l = 0 ∨ 2 < l ∨ byteAt c 6 < l) ↔ (l = 1 ∨ l = 2) ∧ l ≤ byteAt c 6 := by omega
  have timed : (¬ s.sec.life = .blank → ¬ s.timeQuality = 4) ↔ (s.sec.life = .provisioned → ¬ s.timeQuality = 4) := by
    obtain life | life := life <;> simp [life]
  have window (now a b : Nat) : ¬ (s.timeQuality ≠ 4 ∧ (now < a ∨ b < now)) ↔ (s.timeQuality ≠ 4 → a ≤ now ∧ now ≤ b) := by
    simp only [not_and, not_or, Nat.not_lt]
  by_cases root : byteAt c 8 = 0
  · simp only [State.authBad, State.AuthMet, closed, SecSt.signerKey_unfielded life, root, if_true, Option.isSome_none, Bool.false_eq_true,
      if_false, ite_some_eq_none_iff, matrix, true_and, signed, levels, window, Decidable.not_not, Bool.not_eq_true',
      Bool.not_eq_false, and_assoc]
    cases s.sec.dbg.challenge <;> simp [timed]
  · simp [State.authBad, State.AuthMet, closed, SecSt.signerKey_unfielded life, root]

theorem State.authRefuse_dbg (s : State) (st serial : Nat) : let d := (s.authRefuse st serial).sec.dbg
    d.session = s.sec.dbg.session ∧ d.challenge = none ∧ d.out = s.sec.dbg.out ++ [(4, le8 st ++ zeros 2)] := ⟨rfl, rfl, rfl⟩

/-- In SAFE, outside FIELDED, a grant gives the level asked for at once. -/
theorem State.authGrant_safe (life : s.sec.life = .blank ∨ s.sec.life = .provisioned) (safe : s.pwr.state = .safe) {l : Nat}
    (level : l = 1 ∨ l = 2) (c : List Byte) : (s.authGrant l c).sec.dbg.challenge = none ∧
    ∃ y, (s.authGrant l c).sec.dbg.session = some y ∧ y.level = (if l = 1 then .observe else .full) ∧ y.pendingUntil = none ∧
      y.serial = u32At c 12 ∧ y.counter = 0 := by
  have unfielded : decide (s.sec.life = .fielded) = false := by obtain life | life := life <;> simp [life]
  have lower : (levelOf l).min s.matrix = if l = 1 then .observe else .full := by
    rw [State.matrix_safe life safe]
    obtain rfl | rfl := level <;> rfl
  unfold State.authGrant
  dsimp only
  rw [if_neg (by simp [safe])]
  exact ⟨rfl, _, rfl, lower, by simp [unfielded], rfl, rfl⟩

theorem exec_auth_safe (t l : Nat) (c p : List Byte) (up : (s.advance t).tapUp = true) (inside : s.sec.dbg.extest = false)
    (closed : s.sec.dbg.session = none) (life : s.sec.life = .blank ∨ s.sec.life = .provisioned) (safe : s.pwr.state = .safe) :
    ∃ u : State, exec (.auth t l c p) s = .next u ∧ u.sec.dbg.challenge = none ∧
      (u.sec.dbg.session.isSome = true ↔ (s.advance t).AuthMet l c p) ∧
      ∀ y, u.sec.dbg.session = some y → y.level = (if l = 1 then .observe else .full) ∧ y.pendingUntil = none ∧
        y.serial = u32At c 12 ∧ y.counter = 0 := by
  have selected := State.tapSelect_go (s := s.advance t) (i := .mailbox) (fun s => match s.authBad l c p with
    | some st => s.authRefuse st (u32At c 12)
    | none => s.authGrant l c) up inside
  refine ⟨_, congrArg Host.Outcome.next selected, ?_⟩
  set a := (s.advance t).modDbg (fun d => { d with instr := .mailbox })
  have met : a.authBad l c p = none ↔ (s.advance t).AuthMet l c p := State.authBad_none_iff (s := a) closed life safe l c p
  split
  · next st bad =>
    have refused : (a.authRefuse st (u32At c 12)).sec.dbg.session = none := (a.authRefuse_dbg st (u32At c 12)).1.trans closed
    refine ⟨rfl, ?_, fun y open_ => absurd (refused.symm.trans open_) nofun⟩
    rw [refused, ← met, bad]
    simp
  · next good =>
    have granted := met.1 good
    obtain ⟨-, -, -, -, -, level, -⟩ := granted
    obtain ⟨challenge, y, open_, facts⟩ := State.authGrant_safe (s := a) life safe level c
    refine ⟨challenge, ?_, fun z opened => ?_⟩
    · rw [open_]
      exact iff_of_true rfl (met.1 good)
    · obtain rfl : y = z := Option.some.inj (open_.symm.trans opened)
      exact facts

theorem exec_auth_second (t l : Nat) (c p : List Byte) {y : Session} (up : (s.advance t).tapUp = true)
    (inside : s.sec.dbg.extest = false) (open_ : s.sec.dbg.session = some y) : ∃ u : State, exec (.auth t l c p) s = .next u ∧
      u.sec.dbg.session = some y ∧ u.sec.dbg.out = s.sec.dbg.out ++ [(4, le8 10 ++ zeros 2)] ∧ u.sec.dbg.challenge = none := by
  have selected := State.tapSelect_go (s := s.advance t) (i := .mailbox) (fun s => match s.authBad l c p with
    | some st => s.authRefuse st (u32At c 12)
    | none => s.authGrant l c) up inside
  refine ⟨_, congrArg Host.Outcome.next selected, ?_⟩
  set a := (s.advance t).modDbg (fun d => { d with instr := .mailbox })
  rw [State.authBad_second (s := a) open_ l c p]
  exact ⟨open_, rfl, rfl⟩

end

/-! ## Tagged operations (R436, R439) -/

section

variable {s : State} {y : Session} {m : Session → List Byte} {mac : Nat} (go : Session → State → State)

/-- With the right tag the operation runs, and the session is kept alive. -/
theorem State.tagged_right (open_ : s.sec.dbg.session = some y) (right : y.mac (m y) = mac) : s.tagged m mac go =
    go y (s.modDbg (fun d => { d with session := some { y with lastOp := s.clk.now } })) := by
  simp [State.tagged, open_, right]

/-- One of the first two wrong tags is counted. -/
theorem State.tagged_wrong (open_ : s.sec.dbg.session = some y) (wrong : y.mac (m y) ≠ mac) (few : y.wrongTags < 2) : s.tagged m mac go =
    s.modDbg (fun d => { d with session := some { y with wrongTags := y.wrongTags + 1 } }) := by
  have more : ¬ 3 ≤ y.wrongTags + 1 := by omega
  simp [State.tagged, open_, wrong, more]

/-- A mailbox message with the right tag. -/
theorem State.mailbox_right {b : List Byte} (up : s.tapUp = true) (inside : s.sec.dbg.extest = false)
    (open_ : s.sec.dbg.session = some y) (right : y.mac b = mac) : s.tapSelect .mailbox (fun s => s.tagged (fun _ => b) mac go) =
    go y (s.modDbg (fun d => { d with instr := .mailbox, session := some { y with lastOp := s.clk.now } })) :=
  (State.tapSelect_go _ up inside).trans
    (State.tagged_right (s := s.modDbg (fun d => { d with instr := .mailbox })) (m := fun _ => b) go open_ right)

/-- The node as an access with the right tag finds it: the session's counter has gone on. -/
def State.accessed (s : State) (y : Session) : State := s.modDbg (fun d =>
  { d with instr := .access, session := some { y with lastOp := s.clk.now, counter := (y.counter + 1) % 4294967296 } })

theorem State.access_right {op ad data : Nat} (up : s.tapUp = true) (inside : s.sec.dbg.extest = false)
    (open_ : s.sec.dbg.session = some y) (right : y.mac (accessMsg op ad data y) = mac) :
    s.access op ad data mac go = go y (s.accessed y) := by
  refine (State.tapSelect_go _ up inside).trans ?_
  exact State.tagged_right (s := s.modDbg (fun d => { d with instr := .access })) _ open_ right

/-! A debugger's accesses by space (Table 16.10). -/

theorem State.accessRead_barred {ad : Nat} (level : y.level = .observe) (space : 0 < ad / 268435456 % 16) :
    s.accessRead y ad = s.setAccess 0 := by
  have other : ad / 268435456 % 16 ≠ 0 := by omega
  simp [State.accessRead, level, other]

theorem State.accessWrite_barred (level : y.level ≠ .full) (ad w : Nat) (k : DbgCtl) : s.accessWrite y ad w k = s := by
  simp [State.accessWrite, level]

theorem State.accessWrite_words (level : y.level = .full) {ad : Nat} (space : ad / 268435456 % 16 = 1) (w : Nat) (k : DbgCtl) :
    s.accessWrite y ad w k = s.modDbg (fun d => { d with words :=
      (1, ad % 268435456, w % 4294967296) :: d.words.filter (fun w => !(w.1 = 1 && w.2.1 = ad % 268435456)) }) := by
  simp [State.accessWrite, level, space]

theorem State.accessWrite_control (level : y.level = .full) {ad : Nat} (space : ad / 268435456 % 16 = 3) (w : Nat) (k : DbgCtl) :
    s.accessWrite y ad w k = s.control k := by
  simp [State.accessWrite, level, space]

/-- A halt waits while the node is ARMED. -/
theorem State.control_halt {k : Nat} (lt : k < 3) (runs : tst s.sec.dbg.halted k = false) (free : tst s.sec.dbg.haltPend k = false) :
    (s.control (.halt k)).sec.dbg.halted = (if s.pwr.state = .armed then s.sec.dbg.halted else s.sec.dbg.halted + 2 ^ k) ∧
      (s.control (.halt k)).sec.dbg.haltPend = (if s.pwr.state = .armed then s.sec.dbg.haltPend + 2 ^ k else s.sec.dbg.haltPend) := by
  have cpu : k % 3 = k := Nat.mod_eq_of_lt lt
  by_cases armed : s.pwr.state = .armed <;>
    simp [State.control, armed, cpu, runs, free, State.modDbg, State.modSec]

theorem State.control_provision (life : s.sec.life = .blank) (cert : List Byte) :
    ∃ o ∈ (s.control (.provision cert)).nvm.running.toList ++ (s.control (.provision cert)).nvm.waiting,
      o.num = s.nvm.nextNum ∧ o.kind = .keyChurn ∧ o.arg = 196608 := by
  have asked : s.control (.provision cert) = (s.nvmRequest .keyChurn (Mem.fromList 0 (cert.take 64)) (keyArg 3 0 0)).1 := if_pos life
  obtain ⟨o, has, num, kind, -, arg⟩ := s.nvmRequest_has .keyChurn (Mem.fromList 0 (cert.take 64)) (keyArg 3 0 0)
  exact ⟨o, asked ▸ has, num, kind, arg⟩

end

/-! ## What time ends (R438, R440) -/

section

variable {s : State} {y : Session}

/-- A session idle for ten minutes ends. -/
theorem State.sessionTime_idle (open_ : s.sec.dbg.session = some y) (idle : y.lastOp + secs 600 ≤ s.clk.now) :
    s.sessionTime.sec.dbg.session = none := by
  simp only [State.sessionTime, open_, idle, if_true]
  split <;> exact s.closeSession_session _

theorem State.sessionTime_none (closed : s.sec.dbg.session = none) : s.sessionTime = s := by
  simp only [State.sessionTime, closed]

theorem exec_fullPendingLapse_pending (t : Nat) {e : Nat} (open_ : s.sec.dbg.session = some y) (pending : y.pendingUntil = some e) :
    exec (.fullPendingLapse t) s = .next (if e ≤ (s.advance t).clk.now then
      (s.advance t).modDbg (fun d => { d with session := some { y with pendingUntil := none } }) else s.advance t) := by
  have opened : (s.advance t).sec.dbg.session = some y := open_
  show execFullPendingLapse t s = _
  simp only [execFullPendingLapse, opened, pending]

end

/-! ## The statement -/

section

variable {s : State} (t : Nat) (up : (s.advance t).tapUp = true) (inside : s.sec.dbg.extest = false)
include up inside

theorem exec_mailboxCulvert_right (q : Nat) (r : List Byte) (c : Nat) (y : Session) (open_ : s.sec.dbg.session = some y)
    (right : y.mac (mboxMsg 5 r) = c) (free : s.inFlight (256 + q % 256) = false) : exec (.mailboxCulvert t q r c) s =
      .next (((s.advance t).modDbg (fun d => { d with
        instr := .mailbox, session := some { y with lastOp := (s.advance t).clk.now } })).submit
          { id := 256 + q % 256, origin := .mailbox, req := padTo 256 (r.take 256) }) := by
  refine congrArg Host.Outcome.next ((State.mailbox_right (s := s.advance t) _ up inside open_ right).trans (if_neg ?_))
  show ¬ s.inFlight (256 + q % 256) = true
  rw [free]
  exact Bool.false_ne_true

theorem exec_mailboxCulvert_wrong (q : Nat) (r : List Byte) (c : Nat) (y : Session) (open_ : s.sec.dbg.session = some y)
    (wrong : y.mac (mboxMsg 5 r) ≠ c) (few : y.wrongTags < 2) : exec (.mailboxCulvert t q r c) s =
      .next ((s.advance t).modDbg (fun d => { d with instr := .mailbox, session := some { y with wrongTags := y.wrongTags + 1 } })) := by
  refine congrArg Host.Outcome.next ((State.tapSelect_go (s := s.advance t) _ up inside).trans ?_)
  exact State.tagged_wrong (s := (s.advance t).modDbg (fun d => { d with instr := .mailbox })) _ open_ wrong few

theorem exec_mboxEnd_right (c : Nat) (y : Session) (open_ : s.sec.dbg.session = some y) (right : y.mac (mboxMsg 6 []) = c) :
    ∃ u : State, exec (.mboxEnd t c) s = .next u ∧ u.sec.dbg.session = none ∧ u.sec.dbg.out = [] := by
  refine ⟨_, congrArg Host.Outcome.next (State.mailbox_right (s := s.advance t) _ up inside open_ right),
    State.closeSession_session _ 1, ?_⟩
  simp [State.closeSession, State.endSession, State.modDbg, State.modSec, inside]

theorem exec_dbgAccessWrite_right (ad w : Nat) (k : DbgCtl) (c : Nat) (y : Session) (open_ : s.sec.dbg.session = some y)
    (right : y.mac (accessMsg 2 ad w y) = c) :
    exec (.dbgAccessWrite t ad w k c) s = .next (((s.advance t).accessed y).accessWrite y ad w k) :=
  congrArg Host.Outcome.next (State.access_right (s := s.advance t) _ up inside open_ right)

end

/-- Settles O60: which instruction the TAP takes, what opens, keeps and ends a session, and which memory space a level opens. That a
challenge is used up by any AUTH (log entries 70 and 136), the order in which AUTH is checked (log entry 70), that a halt waits while
the node is ARMED (log entry 169), and that provisioning goes through space 3 (log entry 167) are the model's choices. -/
theorem debugPort : Obligations.DebugPort := by
  unfold Obligations.DebugPort
  intro s t
  refine ⟨fun up inside => ⟨?_, ?_, exec_samplePreload_open t up inside, exec_extest_open t up inside, exec_boundary_closed t up inside⟩,
    fun down => ⟨?_, ?_, ?_⟩, exec_idcode_leaves_extest t, fun up inside late => ?_, fun up inside early => ?_,
    fun l c p up inside closed life safe => exec_auth_safe t l c p up inside closed life safe,
    fun l c p y up inside open_ => exec_auth_second t l c p up inside open_,
    fun q r c y up inside open_ => exec_mailboxCulvert_right t up inside q r c y open_,
    fun q r c y up inside open_ => exec_mailboxCulvert_wrong t up inside q r c y open_,
    fun c y up inside open_ => exec_mboxEnd_right t up inside c y open_, ?_, ?_, ?_, ?_, ?_, ?_, ?_, ?_, ?_, ?_⟩
  · exact congrArg Host.Outcome.next (State.tapSelect_go (s := s.advance t) _ up inside)
  · exact congrArg Host.Outcome.next (State.tapSelect_go (s := s.advance t) _ up inside)
  · exact congrArg Host.Outcome.next (State.tapSelect_down (s := s.advance t) _ down)
  · exact congrArg Host.Outcome.next (State.tapSelect_down (s := s.advance t) _ down)
  · exact congrArg Host.Outcome.next (State.tapSelect_down (s := s.advance t) _ down)
  · refine ⟨_, congrArg Host.Outcome.next (State.tapSelect_go (s := s.advance t) _ up inside), ?_⟩
    exact State.hello_answers (s := (s.advance t).modDbg (fun d => { d with instr := .mailbox })) late
  · refine congrArg Host.Outcome.next ((State.tapSelect_go (s := s.advance t) _ up inside).trans ?_)
    exact State.hello_ignored (s := (s.advance t).modDbg (fun d => { d with instr := .mailbox })) early
  · intro ad c y up inside open_ right level space
    refine congrArg Host.Outcome.next ((State.access_right (s := s.advance t) _ up inside open_ right).trans ?_)
    exact State.accessRead_barred (s := (s.advance t).accessed y) level space
  · intro ad w k c y up inside open_ right level space
    refine ⟨_, (exec_dbgAccessWrite_right t up inside ad w k c y open_ right).trans
      (congrArg Host.Outcome.next (State.accessWrite_words level space w k)), List.mem_cons_self, rfl, rfl⟩
  · intro ad w k c y up inside open_ right level space lt runs free
    exact ⟨_, (exec_dbgAccessWrite_right t up inside ad w _ c y open_ right).trans
      (congrArg Host.Outcome.next (State.accessWrite_control level space w _)),
      State.control_halt (s := (s.advance t).accessed y) lt runs free⟩
  · intro ad w k c y up inside open_ right level space life
    exact ⟨_, (exec_dbgAccessWrite_right t up inside ad w _ c y open_ right).trans
      (congrArg Host.Outcome.next (State.accessWrite_control level space w _)),
      State.control_provision (s := (s.advance t).accessed y) life k⟩
  · intro ad w k c y up inside open_ right level
    exact ⟨_, (exec_dbgAccessWrite_right t up inside ad w k c y open_ right).trans
      (congrArg Host.Outcome.next (State.accessWrite_barred level ad w k)), rfl, rfl⟩
  · intro ad c y up inside open_ right
    have code : 256 * bit y.pendingUntil.isSome = if y.pendingUntil.isSome then 256 else 0 := by cases y.pendingUntil <;> rfl
    rw [← code]
    exact congrArg Host.Outcome.next (State.access_right (s := s.advance t) _ up inside open_ right)
  · intro y open_ idle
    exact ⟨_, rfl, State.sessionTime_idle (s := s.advance t) open_ idle⟩
  · intro closed
    exact congrArg Host.Outcome.next (State.sessionTime_none (s := s.advance t) closed)
  · intro y e open_ pending past
    exact (exec_fullPendingLapse_pending t open_ pending).trans (congrArg Host.Outcome.next (if_pos past))
  · intro y e open_ pending early
    exact (exec_fullPendingLapse_pending t open_ pending).trans (congrArg Host.Outcome.next (if_neg (Nat.not_le.2 early)))

end Sys2Proof.Machine
end

section
/-!
PROOFS. The FW opcodes, the acceptance of a trial, and what the end of an NVM operation leaves (R429 to R433, R445, R20).
-/

namespace Sys2Proof.Machine

open Sys2Proof

/-! ## The opcodes (R433, R445) -/

section

variable {s : State} {f : Flight}

/-- While a slot is being erased every `FW` request is refused with `BUSY`. -/
theorem State.fwReq_erasing (erasing : s.fwErasing = true) (go : State → State) : s.fwReq f go = s.complete f .busy f.origin.code [] := by
  simp only [State.fwReq, erasing, if_true]
  exact State.refuse_eq (by decide)

theorem State.fwReq_go (still : s.fwErasing = false) (go : State → State) : s.fwReq f go = go s := by
  simp [State.fwReq, still]

theorem State.fwErasing_none (closed : s.sec.update = none) : s.fwErasing = false := by simp [State.fwErasing, closed]

theorem State.fwErasing_erased {v : FwUpdate} (open_ : s.sec.update = some v) (erased : v.eraseLeft = 0) : s.fwErasing = false := by
  simp [State.fwErasing, open_, erased]

/-- A rewrite of the boot directory is an NVM operation, and the request waits for it. -/
theorem State.dirWrite_eq (c : DirChange) :
    s.dirWrite f c = (s.nvmRequest (.directory c) [] 0).1.wait f (.nvm s.nvm.nextNum) := rfl

/-- An operation asked for is under way or waits. -/
theorem State.nvmRequest_asks (s : State) (k : NvmKind) (m : Mem) (a : Nat) :
    ∃ o ∈ (s.nvmRequest k m a).1.nvm.running.toList ++ (s.nvmRequest k m a).1.nvm.waiting, o.num = s.nvm.nextNum ∧ o.kind = k := by
  obtain ⟨o, has, num, kind, -⟩ := s.nvmRequest_has k m a
  exact ⟨o, has, num, kind⟩

/-- The row of a request that comes to a rewrite of the boot directory. -/
theorem exec_dirWrite {i : Instr} {t tag op : Nat} {g : Flight → State → State} {c : DirChange}
    (row : exec i s = .next (s.withCur t tag op g)) (he : Executes s tag op f)
    (e : g f (s.acting t) = (s.acting t).dirWrite f c) : ∃ u : State,
      exec i s = .next (u.wait f (.nvm s.nvm.nextNum)).takeNext ∧ u.sec = s.sec ∧
      ∃ o ∈ u.nvm.running.toList ++ u.nvm.waiting, o.num = s.nvm.nextNum ∧ o.kind = .directory c :=
  ⟨_, exec_row_eq row he e, State.nvmRequest_sec _ _ _ _, (s.acting t).nvmRequest_asks _ _ _⟩

/-- The row of a `FW` request that is refused. -/
theorem State.fwReq_refuses (still : s.fwErasing = false) {st : Status} {d : Nat} (allowed : st ≠ .roleStale) {go : State → State}
    (e : go s = s.refuse f (st, d, [])) : s.fwReq f go = s.complete f st d [] :=
  (State.fwReq_go still go).trans (e.trans (State.refuse_eq allowed))

/-! `FW_BEGIN` -/

theorem State.fwBegin_badLength (beyond : u32At f.req 16 < 256 ∨ 2097152 < u32At f.req 16) :
    s.fwBegin f = s.refuse f (.badField, 16, []) := if_pos beyond

/-- The update opened by a `FW_BEGIN`. -/
def SecSt.begun (x : SecSt) (f : Flight) : SecSt :=
  { x with update := some ({ slot := 1 - x.running, len := u32At f.req 16, eraseLeft := 512 } : FwUpdate) }

theorem State.fwBegin_opens (low : 256 ≤ u32At f.req 16) (high : u32At f.req 16 ≤ 2097152) :
    s.fwBegin f = (s.modSec (fun x => x.begun f)).dirWrite f (.begin_ (1 - s.sec.running)) :=
  if_neg (by omega)

/-! `FW_WRITE` -/

theorem State.fwWrite_closed (closed : s.sec.update = none) : s.fwWrite f = s.refuse f (.busy, f.origin.code, []) := by
  simp only [State.fwWrite, closed]

theorem State.fwWrite_beyond {v : FwUpdate} (open_ : s.sec.update = some v) (beyond : v.len < u32At f.req 16 + (f.payload.drop 4).length) :
    s.fwWrite f = s.refuse f (.busy, f.origin.code, []) := by
  simp only [State.fwWrite, open_, beyond, if_true]

/-- An update with the bytes of a `FW_WRITE` loaded. -/
def FwUpdate.loaded (v : FwUpdate) (f : Flight) : FwUpdate :=
  { v with buffer := v.buffer.writeList (u32At f.req 16) (f.payload.drop 4)
           mask := v.mask.writeList (u32At f.req 16) ((f.payload.drop 4).map (fun _ => (1 : Byte))) }

theorem State.fwWrite_loads {v : FwUpdate} (open_ : s.sec.update = some v)
    (within : u32At f.req 16 + (f.payload.drop 4).length ≤ v.len) : s.fwWrite f =
      ((s.modSec (fun x => { x with update := some (v.loaded f) })).fwProgram
        (v.completed (v.loaded f) (u32At f.req 16) (u32At f.req 16 + (f.payload.drop 4).length))).ok f [] := by
  simp only [State.fwWrite, open_, Nat.not_lt.2 within, if_false]
  rfl

theorem State.fwProgram_sec (s : State) (l : List Nat) : (s.fwProgram l).sec = s.sec :=
  State.foldl_keeps State.sec (fun u n => u.nvmRequest_sec .firmware [] (n + 1)) l s

/-! Numbers of operations rise. -/

theorem State.nvmPick_nextNum (s : State) : s.nvm.nextNum ≤ s.nvmPick.nvm.nextNum := by
  have churn : s.nvm.nextNum ≤ s.startLogChurn.nvm.nextNum := Nat.le_succ _
  unfold State.nvmPick
  repeat' split
  · exact churn
  · exact Nat.le_refl _
  · exact churn
  · exact Nat.le_refl _
  · exact churn
  · exact churn
  · exact Nat.le_refl _

theorem State.nvmStart_nextNum (s : State) : s.nvm.nextNum ≤ s.nvmStart.nvm.nextNum := by
  unfold State.nvmStart
  repeat' split
  · exact Nat.le_refl _
  · exact Nat.le_succ _
  · exact Nat.le_refl _
  · exact s.nvmPick_nextNum

theorem State.nvmRequest_nextNum (s : State) (k : NvmKind) (m : Mem) (a : Nat) : s.nvm.nextNum ≤ (s.nvmRequest k m a).1.nvm.nextNum :=
  (Nat.le_succ _).trans (State.nvmStart_nextNum { s with nvm := { s.nvm with
    nextNum := s.nvm.nextNum + 1, waiting := s.nvm.waiting ++ [{ num := s.nvm.nextNum, kind := k, data := m, arg := a,
                                                                 since := s.clk.now, left := k.sectors a }] } })

theorem State.fwProgram_nextNum (s : State) (l : List Nat) : s.nvm.nextNum ≤ (s.fwProgram l).nvm.nextNum := by
  induction l generalizing s with
  | nil => exact Nat.le_refl _
  | cons n r ih => exact (s.nvmRequest_nextNum .firmware [] (n + 1)).trans (ih _)

/-! `FW_FINISH` -/

theorem State.fwFinish_open {v : FwUpdate} (open_ : s.sec.update = some v) : s.fwFinish f =
    ((s.fwProgram v.partial_).nvmRequest .firmware [] fwFinal).1.wait f (.nvm (s.fwProgram v.partial_).nvm.nextNum) := by
  simp only [State.fwFinish, open_]
  rfl

theorem State.fwFinish_incomplete (closed : s.sec.update = none) (state : (s.sec.slot (1 - s.sec.running)).state = .incomplete) :
    s.fwFinish f = s.dirWrite f (.failed (1 - s.sec.running) 6) := by
  simp only [State.fwFinish, closed, state, if_true]

theorem State.fwFinish_refuses (closed : s.sec.update = none) (state : (s.sec.slot (1 - s.sec.running)).state ≠ .incomplete) :
    s.fwFinish f = s.refuse f (.notPermitted, 1, []) := by
  simp only [State.fwFinish, closed, state, if_false]

end

section

variable {s : State} (t : Nat) {tag : Nat} {f : Flight}

theorem exec_fwInfo (he : Executes s tag 0x0D01 f) (still : s.fwErasing = false) :
    (s.nvm.running = none → exec (.fwInfo t tag) s =
      .next ((s.acting t).complete f .ok 0 (s.sec.dirBytes ++ le8 s.sec.running ++ le8 s.sec.attempts ++ zeros 2)).takeNext) ∧
    (∀ o, s.nvm.running = some o → exec (.fwInfo t tag) s = .next ((s.acting t).wait f (.nvm o.num)).takeNext) :=
  ⟨fun free => exec_row_eq rfl he ((State.fwReq_go (s := s.acting t) still _).trans (State.nvmRead_free (s := s.acting t) free _)),
   fun _ busy => exec_row_eq rfl he ((State.fwReq_go (s := s.acting t) still _).trans (State.nvmRead_busy (s := s.acting t) busy _))⟩

theorem exec_fwBegin_opens (he : Executes s tag 0x0D02 f) (still : s.fwErasing = false) (low : 256 ≤ u32At f.req 16)
    (high : u32At f.req 16 ≤ 2097152) : ∃ u : State,
      exec (.fwBegin t tag) s = .next (u.wait f (.nvm s.nvm.nextNum)).takeNext ∧ u.sec = s.sec.begun f ∧
      ∃ o ∈ u.nvm.running.toList ++ u.nvm.waiting, o.num = s.nvm.nextNum ∧ o.kind = .directory (.begin_ (1 - s.sec.running)) :=
  ⟨_, exec_row_eq rfl he ((State.fwReq_go (s := s.acting t) still _).trans (State.fwBegin_opens (s := s.acting t) low high)),
    State.nvmRequest_sec _ _ _ _, ((s.acting t).modSec (fun x => x.begun f)).nvmRequest_asks _ _ _⟩

theorem exec_fwWrite_loads {v : FwUpdate} (he : Executes s tag 0x0D03 f) (open_ : s.sec.update = some v) (erased : v.eraseLeft = 0)
    (within : u32At f.req 16 + (f.payload.drop 4).length ≤ v.len) : ∃ u : State,
      exec (.fwWrite t tag) s = .next (u.complete f .ok 0 []).takeNext ∧ u.sec.update = some (v.loaded f) :=
  ⟨_, exec_row_eq rfl he ((State.fwReq_go (s := s.acting t) (State.fwErasing_erased open_ erased) _).trans
    (State.fwWrite_loads (s := s.acting t) open_ within)), congrArg SecSt.update (State.fwProgram_sec _ _)⟩

theorem exec_fwFinish_open {v : FwUpdate} (he : Executes s tag 0x0D04 f) (open_ : s.sec.update = some v) (erased : v.eraseLeft = 0) :
    ∃ u : State, ∃ k, exec (.fwFinish t tag) s = .next (u.wait f (.nvm k)).takeNext ∧ u.sec = s.sec ∧ s.nvm.nextNum ≤ k ∧
      ∃ o ∈ u.nvm.running.toList ++ u.nvm.waiting, o.num = k ∧ o.kind = .firmware :=
  ⟨_, _, exec_row_eq rfl he ((State.fwReq_go (s := s.acting t) (State.fwErasing_erased open_ erased) _).trans
    (State.fwFinish_open (s := s.acting t) open_)), (State.nvmRequest_sec _ _ _ _).trans (State.fwProgram_sec _ _),
    (s.acting t).fwProgram_nextNum _, State.nvmRequest_asks _ _ _ _⟩

theorem exec_fwActivate_trial {n : Nat} (he : Executes s tag 0x0D05 f) (still : s.fwErasing = false) (trial : s.sec.trialSlot = some n) :
    ∃ u : State, exec (.fwActivate t tag) s = .next (u.wait f (.nvm s.nvm.nextNum)).takeNext ∧ u.sec = s.sec ∧
      ∃ o ∈ u.nvm.running.toList ++ u.nvm.waiting, o.num = s.nvm.nextNum ∧ o.kind = .directory (.prefer n) := by
  have found : (s.acting t).sec.trialSlot = some n := trial
  refine exec_dirWrite rfl he ((State.fwReq_go (s := s.acting t) still _).trans ?_)
  simp only [found]

theorem exec_fwActivate_none (he : Executes s tag 0x0D05 f) (still : s.fwErasing = false) (none_ : s.sec.trialSlot = none) :
    exec (.fwActivate t tag) s = .next ((s.acting t).complete f .notPermitted 1 []).takeNext := by
  have missing : (s.acting t).sec.trialSlot = none := none_
  refine exec_row_eq rfl he (State.fwReq_refuses (s := s.acting t) still (by decide) ?_)
  simp only [missing]

theorem exec_fwAccept_trial (he : Executes s tag 0x0D06 f) (still : s.fwErasing = false) (trial : s.onTrial = true) :
    ∃ u : State, exec (.fwAccept t tag) s = .next (u.wait f (.nvm s.nvm.nextNum)).takeNext ∧ u.sec = s.sec ∧
      ∃ o ∈ u.nvm.running.toList ++ u.nvm.waiting, o.num = s.nvm.nextNum ∧ o.kind = .directory .accept :=
  exec_dirWrite rfl he ((State.fwReq_go (s := s.acting t) still _).trans (if_pos trial))

theorem exec_fwAccept_none (he : Executes s tag 0x0D06 f) (still : s.fwErasing = false) (none_ : s.onTrial = false) :
    exec (.fwAccept t tag) s = .next ((s.acting t).complete f .notPermitted 1 []).takeNext := by
  have missing : ¬ (s.acting t).onTrial = true := by show ¬ s.onTrial = true; rw [none_]; exact Bool.false_ne_true
  exact exec_row_eq rfl he (State.fwReq_refuses (s := s.acting t) still (by decide) (if_neg missing))

end

/-! ## The acceptance of a trial by time (R431) -/

section

variable {s : State} (t : Nat)

theorem exec_fwAccepted_asks {y : Nat} (armed : s.pwr.armedSince = some y) (trial : s.onTrial = true)
    (late : y + 600000000000 ≤ (s.advance t).clk.now) (unasked : s.acceptPending = false) :
    ∃ u : State, exec (.fwAccepted t) s = .next u ∧ u.sec = s.sec ∧ u.acceptPending = true := by
  obtain ⟨o, has, -, kind⟩ := (s.advance t).nvmRequest_asks (.directory .accept) [] 0
  refine ⟨((s.advance t).nvmRequest (.directory .accept) [] 0).1, ?_, State.nvmRequest_sec _ _ _ _,
    List.any_eq_true.2 ⟨o, has, decide_eq_true kind⟩⟩
  have due : y + secs 600 ≤ (s.advance t).clk.now := late
  have since : (s.advance t).pwr.armedSince = some y := armed
  have all : ((s.advance t).onTrial && decide (y + secs 600 ≤ (s.advance t).clk.now) && !(s.advance t).acceptPending) = true := by
    rw [show (s.advance t).onTrial = true from trial, show (s.advance t).acceptPending = false from unasked, decide_eq_true due]
    rfl
  show execFwAccepted t s = _
  simp only [execFwAccepted, since, all, if_true]

theorem exec_fwAccepted_idle (h : s.acceptPending = true ∨ s.onTrial = false ∨ s.pwr.armedSince = none ∨
    ∃ y, s.pwr.armedSince = some y ∧ (s.advance t).clk.now < y + 600000000000) : exec (.fwAccepted t) s = .next (s.advance t) := by
  refine congrArg Host.Outcome.next ?_
  split
  · next y since =>
    refine if_neg fun all => ?_
    simp only [Bool.and_eq_true, decide_eq_true_eq, Bool.not_eq_true'] at all
    obtain ⟨⟨trial, late⟩, unasked⟩ := all
    have late' : y + 600000000000 ≤ (s.advance t).clk.now := late
    obtain pending | off | unarmed | ⟨z, armed, early⟩ := h
    · exact absurd (pending.symm.trans unasked) nofun
    · exact absurd (off.symm.trans trial) nofun
    · exact absurd (unarmed.symm.trans since) nofun
    · obtain rfl : z = y := Option.some.inj (armed.symm.trans since)
      omega
  · rfl

end

end Sys2Proof.Machine
end

section
/-!
PROOFS. The end of an NVM operation by its kind (R20, R429, R431, R433).
-/

namespace Sys2Proof.Machine

open Sys2Proof

/-! ## The end of an operation that brings nothing more -/

/-- The operation `o` under way has had its effect, and the controller is free. -/
def State.opEnded (s : State) (o : NvmOp) : State := ({ s with nvm := { s.nvm with running := none } }).nvmEffect o

theorem State.opEnded_change (s : State) (o : NvmOp) : NvmChange s (s.opEnded o) :=
  (s.nvmChange_nvm _).trans (State.nvmChange_nvmEffect _ o)

/-- The end of an operation with no reset asked for or due, no `EXTEST` and no erasure that ends brings nothing more (R17, R425,
R433, R440). -/
theorem State.nvmEnd_quiet {s : State} (plain : ∀ n, s.nvmKind ≠ some (.directory (.prefer n))) (rst : s.nvmComplete.rst = s.rst)
    (clock : s.rst.clockLoss = none) (inside : s.sec.dbg.extest = false) (erasure : s.nvmComplete.sec.erasure = none) :
    s.nvmEnd = s.nvmComplete := by
  simp only [State.nvmEnd, rst, clock, inside, Option.isSome_none, Bool.false_eq_true, if_false, Bool.false_and]
  simp only [State.returnDone, erasure]

theorem State.nvmKind_running {s : State} {o : NvmOp} (busy : s.nvm.running = some o) : s.nvmKind = some o.kind := by
  simp only [State.nvmKind, busy, Option.map_some]

theorem State.nvmComplete_one {s : State} {o : NvmOp} (busy : s.nvm.running = some o) (one : o.more = false) :
    s.nvmComplete = ((s.opEnded o).nvmServe o).nvmStart := by
  simp only [State.nvmComplete, busy, one, Bool.false_eq_true, if_false]
  rfl

/-- An operation of the kind named has one part only. -/
theorem NvmOp.more_directory {o : NvmOp} {c : DirChange} (kind : o.kind = .directory c) : o.more = false := by
  simp only [NvmOp.more, kind]

theorem NvmOp.more_firmware {o : NvmOp} (kind : o.kind = .firmware) : o.more = false := by simp only [NvmOp.more, kind]

theorem NvmOp.more_flashRead {o : NvmOp} (kind : o.kind = .flashRead) : o.more = false := by simp only [NvmOp.more, kind]

theorem NvmOp.more_storeImage {o : NvmOp} {n : Nat} (kind : o.kind = .storeImage n) (left : o.left ≤ 1) : o.more = false := by
  simp only [NvmOp.more, kind, decide_eq_false (Nat.not_lt.2 left)]

/-- An operation of several sectors is no rewrite of the boot directory. -/
theorem NvmOp.more_plain {o : NvmOp} (more : o.more = true) (n : Nat) : o.kind ≠ .directory (.prefer n) := by
  intro kind
  rw [NvmOp.more_directory kind] at more
  exact absurd more Bool.false_ne_true

section

variable {s : State} {o : NvmOp} (busy : s.nvm.running = some o) (clock : s.rst.clockLoss = none) (inside : s.sec.dbg.extest = false)
  (t : Nat)
include busy clock inside

/-- One sector of a flash write of several has been written: the rest waits, and nothing else changes. -/
theorem exec_nvmOperationComplete_more (erasure : s.sec.erasure = none) (more : o.more = true) : ∃ u : State,
    exec (.nvmOperationComplete t) s = .next u ∧ u.cfg = s.cfg ∧ u.sec = s.sec ∧ u.host = s.host ∧
      ∃ p ∈ u.nvm.running.toList ++ u.nvm.waiting, p.num = o.num ∧ p.left = o.left - 1 := by
  let rest : NvmOp := { o with left := o.left - 1, begun := true, started := false }
  let w : State := { s.advance t with nvm := { s.nvm with running := none, waiting := rest :: s.nvm.waiting } }
  have done : (s.advance t).nvmComplete = w.nvmStart := by
    simp only [State.nvmComplete, State.advance_nvm, busy, more, if_true]
    rfl
  have plain : ∀ n, (s.advance t).nvmKind ≠ some (.directory (.prefer n)) := fun n kind =>
    NvmOp.more_plain more n (Option.some.inj ((State.nvmKind_running (s := s.advance t) busy).symm.trans kind))
  have quiet : (s.advance t).nvmEnd = w.nvmStart :=
    (State.nvmEnd_quiet plain (by rw [done]; exact w.nvmStart_rst) clock inside (by rw [done, w.nvmStart_sec]; exact erasure)).trans done
  have waits : rest ∈ w.nvm.waiting := List.mem_cons_self
  exact ⟨w.nvmStart, congrArg Host.Outcome.next quiet, w.nvmStart_cfg, w.nvmStart_sec, w.nvmStart_host,
    rest, State.nvmStart_has waits, rfl, rfl⟩

/-- An operation of one part that touches neither the host port nor the erasure ends, and answers nobody: the next one starts. -/
theorem exec_nvmOperationComplete_ended (one : o.more = false) (plain : ∀ n, o.kind ≠ .directory (.prefer n))
    (unasked : ∀ w ∈ s.host.waits, w.kind ≠ .nvm o.num) (host : ((s.advance t).opEnded o).host = s.host)
    (erasure : ((s.advance t).opEnded o).sec.erasure = none) :
    exec (.nvmOperationComplete t) s = .next ((s.advance t).opEnded o).nvmStart := by
  have done : (s.advance t).nvmComplete = ((s.advance t).opEnded o).nvmStart := by
    rw [State.nvmComplete_one (s := s.advance t) busy one, State.nvmServe_none (by rw [host]; exact unasked)]
  refine congrArg Host.Outcome.next ((State.nvmEnd_quiet (s := s.advance t) ?_ ?_ clock inside ?_).trans done)
  · exact fun n kind => plain n (Option.some.inj ((State.nvmKind_running (s := s.advance t) busy).symm.trans kind))
  · rw [done, State.nvmStart_rst]
    exact ((s.advance t).opEnded_change o).rst
  · rw [done, State.nvmStart_sec]
    exact erasure

end

/-! ## What an operation leaves, by its kind -/

section

variable (s : State)

theorem State.dirDone_host (c : DirChange) : (s.dirDone c).host = s.host := by
  cases c with
  | begin_ n => exact State.nvmRequest_host _ _ _ _
  | accept => exact State.ite_keeps rfl rfl
  | trial n => rfl
  | failed n k => rfl
  | prefer n => rfl

/-- `FW_BEGIN`: the slot is INCOMPLETE in the new record of the directory, and the old one stands in the other copy (R429). -/
theorem State.dirDone_begin_sec (n : Nat) :
    (s.dirDone (.begin_ n)).sec = s.sec.setSlot n (fun y => { state := .incomplete, data := y.data }) :=
  State.nvmRequest_sec _ _ _ _

theorem State.dirDone_erasure (c : DirChange) : (s.dirDone c).sec.erasure = s.sec.erasure := by
  cases c with
  | begin_ n =>
    rw [s.dirDone_begin_sec n]
    rfl
  | accept => exact State.ite_keeps (p := fun s => s.sec.erasure) rfl rfl
  | trial n => rfl
  | failed n k => rfl
  | prefer n => rfl

theorem State.dirDone_accept (trial : s.onTrial = true) : s.dirDone .accept = s.fwAccept := if_pos trial

theorem SecSt.slot_setSlot {x : SecSt} {n : Nat} (lt : n < x.slots.length) (f : FwSlot → FwSlot) :
    (x.setSlot n f).slot n = f (x.slot n) := getD_modAt_self f {} lt

variable {s} {o : NvmOp} {v : FwUpdate}

/-- A sector of the slot is erased. -/
theorem State.firmwareDone_erases (open_ : s.sec.update = some v) (arg : o.arg = 0) :
    (s.firmwareDone o).host = s.host ∧ (s.firmwareDone o).sec.erasure = s.sec.erasure ∧
      (s.firmwareDone o).sec.update = some { v with eraseLeft := v.eraseLeft - 1 } := by
  simp only [State.firmwareDone, open_, arg, if_true]
  split
  · refine ⟨State.nvmRequest_host _ _ _ _, ?_, ?_⟩ <;> rw [State.nvmRequest_sec] <;> rfl
  · exact ⟨rfl, rfl, rfl⟩

/-- Sector `a` - 1 of a slot programmed from the bytes that an update has loaded. -/
def FwUpdate.program (v : FwUpdate) (a : Nat) (y : FwSlot) : FwSlot :=
  { y with data := y.data.writeList (4096 * (a - 1)) (v.buffer.readList (4096 * (a - 1)) 4096) }

/-- The slot of an update with that sector programmed. -/
def SecSt.programmed (x : SecSt) (v : FwUpdate) (a : Nat) : SecSt := { x with slots := modAt x.slots v.slot (v.program a) }

theorem SecSt.slot_programmed {x : SecSt} (lt : v.slot < x.slots.length) (a : Nat) :
    (x.programmed v a).slot v.slot = v.program a (x.slot v.slot) := getD_modAt_self (v.program a) {} lt

/-- A sector of the slot is programmed. -/
theorem State.firmwareDone_programs (open_ : s.sec.update = some v) (low : 1 ≤ o.arg) (high : o.arg ≤ 512) :
    s.firmwareDone o = s.modSec (fun x => x.programmed v o.arg) := by
  have some_ : o.arg ≠ 0 := by omega
  have within : o.arg ≤ fwSectors := high
  simp only [State.firmwareDone, open_, some_, within, if_true, if_false]
  rfl

end

/-! ## `FW_ACTIVATE` (R433): the commanded reset -/

section

variable (s : State)

theorem State.sendGoingDown_sec (reason : Nat) : (s.sendGoingDown reason).sec = s.sec := by
  refine State.foldl_keeps State.sec (fun u b => ?_) _ s
  split
  · rfl
  · obtain ⟨x, h⟩ := u.sendProto_changes b 0 0x03 0 (le8 reason ++ le8 0 ++ le16 u.cfg.epoch) .goingDown
    rw [h]

theorem State.resetAsked_sec : s.resetAsked.sec = s.sec := by
  obtain ⟨d, h⟩ := (s.sendGoingDown 2).driveCell_changes true
  exact (congrArg State.sec h).trans (s.sendGoingDown_sec 2)

/-- What of security no operation beside the flash accesses changes: the slot to start from. -/
theorem State.keyDone_preferred (o : NvmOp) : (s.keyDone o).sec.preferred = s.sec.preferred := by
  have ended (u : State) : (u.endSession 8).sec.preferred = u.sec.preferred := by
    unfold State.endSession
    split <;> rfl
  have provisioned (c : List Byte) : (s.provisioned c).sec.preferred = s.sec.preferred := ended _
  unfold State.keyDone
  dsimp only
  split
  · rw [State.nvmRequest_sec]
    rfl
  · refine State.ite_keeps (p := fun s => s.sec.preferred) (State.ite_keeps (p := fun s => s.sec.preferred) (provisioned _) rfl) ?_
    refine State.ite_keeps (p := fun s => s.sec.preferred) rfl ?_
    exact State.ite_keeps (p := fun s => s.sec.preferred) rfl rfl

theorem State.eraseStep_preferred : s.eraseStep.sec.preferred = s.sec.preferred := by
  unfold State.eraseStep
  split
  · split <;> rw [State.nvmRequest_sec] <;> rfl
  · dsimp only
    split
    · rw [State.nvmRequest_sec]
      rfl
    · rfl
  · rfl

theorem State.clearSegment_sec : s.clearSegment.sec = s.sec := by
  unfold State.clearSegment
  split
  · dsimp only [LogSt.eraseSegment]
    split
    · exact State.nvmRequest_sec _ _ _ _
    · rfl
  · rfl

theorem State.logWritten_sec : s.logWritten.sec = s.sec := by
  obtain ⟨l, ⟨h, x, e⟩, -, -⟩ := s.logWritten_changes
  rw [e]

theorem State.commitWritten_sec (o : NvmOp) : (s.commitWritten o).sec = s.sec := by
  obtain ⟨c, h⟩ := s.commitWritten_changes o
  rw [h]

theorem State.selectorDone_sec (epoch : Nat) : (s.selectorDone epoch).sec = s.sec := by
  unfold State.selectorDone
  dsimp only
  repeat' split
  · exact State.complete_sec _ _ _ _ _
  all_goals rfl

/-- No operation but a flash access rewrites the boot directory. -/
theorem State.nvmEffect_preferred {o : NvmOp} (rank : o.kind.rank ≠ 6) : (s.nvmEffect o).sec.preferred = s.sec.preferred := by
  unfold State.nvmEffect
  split
  case h_1 => exact congrArg SecSt.preferred ((s.logWritten.commitWritten_sec o).trans s.logWritten_sec)
  case h_2 => exact congrArg SecSt.preferred (s.selectorDone_sec _)
  case h_3 => rfl
  case h_4 => exact congrArg SecSt.preferred s.logWritten_sec
  case h_5 => exact congrArg SecSt.preferred s.clearSegment_sec
  case h_6 => exact s.eraseStep_preferred
  case h_7 => exact s.eraseStep_preferred
  case h_14 => exact s.keyDone_preferred o
  all_goals
    next kind => exact absurd (congrArg NvmKind.rank kind) rank

theorem State.suspendFlash_preferred (o : NvmOp) : (s.suspendFlash o).sec.preferred = s.sec.preferred := by
  unfold State.suspendFlash
  split <;> rfl

/-- The flush completes no rewrite of the boot directory: one under way is lost (R429). -/
theorem State.flush_preferred : s.flush.sec.preferred = s.sec.preferred := by
  have cut : s.cutFlash.sec.preferred = s.sec.preferred :=
    State.foldl_keeps (fun s => s.sec.preferred) State.suspendFlash_preferred _ s
  have ended : (match s.cutFlash.nvm.running with
      | some o => if o.kind.rank = 6 then s.cutFlash.suspendFlash o else s.cutFlash.nvmEffect o
      | none => s.cutFlash).sec.preferred = s.cutFlash.sec.preferred := by
    split
    · split
      · exact State.suspendFlash_preferred _ _
      · next other => exact State.nvmEffect_preferred _ other
    · rfl
  exact ended.trans cut

theorem State.endSession_preferred (cause : Nat) : (s.endSession cause).sec.preferred = s.sec.preferred := by
  unfold State.endSession
  split <;> rfl

theorem State.flushReset_preferred (code flags : Nat) : (s.flushReset code flags).sec.preferred = s.sec.preferred :=
  (State.flush_preferred _).trans (s.endSession_preferred 5)

/-- The commanded reset keeps the slot to start from; it waits, or has restarted the node with its cause (R458, R459). -/
theorem State.commandedReset_does : s.commandedReset.sec.preferred = s.sec.preferred ∧
    (s.commandedReset.rst.dueAt.isSome = true ∨ s.commandedReset.rst.cause = 0x206) := by
  have asked : s.resetAsked.sec.preferred = s.sec.preferred := congrArg SecSt.preferred s.resetAsked_sec
  rw [State.commandedReset_eq]
  by_cases ready : s.resetAsked.resetReady = true
  · rw [State.resetDue_of_ready ready]
    exact ⟨(State.flushReset_preferred _ _ _).trans asked, .inr (State.flushReset_restarted (s := s.resetAsked) rfl 6 0).cause⟩
  · rw [State.resetDue_of_not_ready ((Bool.not_eq_true _).mp ready)]
    exact ⟨asked, .inl rfl⟩

end

end Sys2Proof.Machine
end

section
/-!
PROOFS. The rows of the NVM operations of a firmware update, and the statement on the FW opcodes (R429 to R433, R445).
-/

namespace Sys2Proof.Machine

open Sys2Proof

/-! ## The rows of the kinds -/

/-- The operation under way is over, its effect still to come. -/
def State.nvmIdle (s : State) : State := { s with nvm := { s.nvm with running := none } }

section

variable {s : State} {o : NvmOp} (busy : s.nvm.running = some o) (clock : s.rst.clockLoss = none) (inside : s.sec.dbg.extest = false)
  (erasure : s.sec.erasure = none) (unasked : ∀ w ∈ s.host.waits, w.kind ≠ .nvm o.num) (t : Nat)
include busy clock inside erasure unasked

/-- A rewrite of the boot directory that brings no reset. -/
theorem exec_directoryDone {c : DirChange} (kind : o.kind = .directory c) (plain : ∀ n, c ≠ .prefer n) : ∃ u : State,
    exec (.nvmOperationComplete t) s = .next u ∧ u.sec = ((s.advance t).nvmIdle.dirDone c).sec := by
  have ended : (s.advance t).opEnded o = (s.advance t).nvmIdle.dirDone c := by simp only [State.opEnded, State.nvmEffect, kind, State.nvmIdle]
  refine ⟨_, exec_nvmOperationComplete_ended busy clock inside t (NvmOp.more_directory kind) (fun n prefer => ?_) unasked ?_ ?_, ?_⟩
  · exact plain n (NvmKind.directory.inj (kind.symm.trans prefer))
  · rw [ended]
    exact State.dirDone_host _ c
  · rw [ended, State.dirDone_erasure]
    exact erasure
  · rw [State.nvmStart_sec, ended]

theorem exec_beginDone {n : Nat} (lt : n < s.sec.slots.length) (kind : o.kind = .directory (.begin_ n)) : ∃ u : State,
    exec (.nvmOperationComplete t) s = .next u ∧ (u.sec.slot n).state = .incomplete ∧
      u.sec.dirSeq = (s.sec.dirSeq + 1) % 4294967296 ∧ u.sec.dirAt = 1 - s.sec.dirAt ∧ u.sec.dirOld = some s.sec.dirRec := by
  obtain ⟨u, next, sec⟩ := exec_directoryDone busy clock inside erasure unasked t kind nofun
  rw [State.dirDone_begin_sec] at sec
  have slot : u.sec.slot n = { state := .incomplete, data := (s.sec.slot n).data } := by
    rw [sec]
    exact SecSt.slot_setSlot lt _
  exact ⟨u, next, congrArg FwSlot.state slot, (by rw [sec]; rfl), (by rw [sec]; rfl), (by rw [sec]; rfl)⟩

theorem exec_trialDone {n : Nat} (lt : n < s.sec.slots.length) (kind : o.kind = .directory (.trial n)) : ∃ u : State,
    exec (.nvmOperationComplete t) s = .next u ∧ (u.sec.slot n).state = .trial ∧
      (u.sec.slot n).version = (s.sec.slot n).data.u16 18 ∧ u.sec.attempts = 2 ∧ u.sec.update = none := by
  obtain ⟨u, next, sec⟩ := exec_directoryDone busy clock inside erasure unasked t kind nofun
  have slot : u.sec.slot n = { s.sec.slot n with state := .trial, version := (s.sec.slot n).data.u16 18 } := by
    rw [sec]
    exact SecSt.slot_setSlot lt _
  exact ⟨u, next, congrArg FwSlot.state slot, congrArg FwSlot.version slot, (by rw [sec]; rfl), (by rw [sec]; rfl)⟩

theorem exec_failedDone {n k : Nat} (lt : n < s.sec.slots.length) (kind : o.kind = .directory (.failed n k)) : ∃ u : State,
    exec (.nvmOperationComplete t) s = .next u ∧ (u.sec.slot n).state = .failed ∧ u.sec.update = none := by
  obtain ⟨u, next, sec⟩ := exec_directoryDone busy clock inside erasure unasked t kind nofun
  have slot : u.sec.slot n = { s.sec.slot n with state := .failed } := by
    rw [sec]
    exact SecSt.slot_setSlot lt _
  exact ⟨u, next, congrArg FwSlot.state slot, (by rw [sec]; rfl)⟩

theorem exec_acceptDone (kind : o.kind = .directory .accept) (trial : s.onTrial = true) (lt : s.sec.running < s.sec.slots.length) :
    ∃ u : State, exec (.nvmOperationComplete t) s = .next u ∧ (u.sec.slot s.sec.running).state = .valid ∧
      u.sec.preferred = s.sec.running ∧ u.sec.onTrial = false ∧
      u.sec.fusedVersion = max s.sec.fusedVersion (s.sec.slot s.sec.running).version := by
  obtain ⟨u, next, sec⟩ := exec_directoryDone busy clock inside erasure unasked t kind nofun
  rw [State.dirDone_accept (s.advance t).nvmIdle trial] at sec
  have slot : u.sec.slot s.sec.running = { s.sec.slot s.sec.running with state := .valid } := by
    rw [sec]
    exact getD_modAt_self (fun z : FwSlot => { z with state := .valid }) {} lt
  exact ⟨u, next, congrArg FwSlot.state slot, (by rw [sec]; rfl), (by rw [sec]; rfl), (by rw [sec]; rfl)⟩

theorem exec_sectorErased {v : FwUpdate} (kind : o.kind = .firmware) (open_ : s.sec.update = some v) (arg : o.arg = 0) : ∃ u : State,
    exec (.nvmOperationComplete t) s = .next u ∧ u.sec.update = some { v with eraseLeft := v.eraseLeft - 1 } := by
  have ended : (s.advance t).opEnded o = (s.advance t).nvmIdle.firmwareDone o := by simp only [State.opEnded, State.nvmEffect, kind, State.nvmIdle]
  obtain ⟨host, kept, update⟩ := State.firmwareDone_erases (s := (s.advance t).nvmIdle) open_ arg
  refine ⟨_, exec_nvmOperationComplete_ended busy clock inside t (NvmOp.more_firmware kind) (fun n prefer => ?_) unasked ?_ ?_, ?_⟩
  · exact absurd (kind.symm.trans prefer) nofun
  · rw [ended, host]
    rfl
  · rw [ended, kept]
    exact erasure
  · rw [State.nvmStart_sec, ended, update]

theorem exec_sectorProgrammed {v : FwUpdate} (kind : o.kind = .firmware) (open_ : s.sec.update = some v) (low : 1 ≤ o.arg)
    (high : o.arg ≤ 512) (lt : v.slot < s.sec.slots.length) : ∃ u : State,
    exec (.nvmOperationComplete t) s = .next u ∧ u.sec.update = some v ∧
      (u.sec.slot v.slot).data = (s.sec.slot v.slot).data.writeList (4096 * (o.arg - 1)) (v.buffer.readList (4096 * (o.arg - 1)) 4096) := by
  have ended : (s.advance t).opEnded o = (s.advance t).nvmIdle.firmwareDone o := by simp only [State.opEnded, State.nvmEffect, kind, State.nvmIdle]
  rw [State.firmwareDone_programs (s := (s.advance t).nvmIdle) open_ low high] at ended
  refine ⟨_, exec_nvmOperationComplete_ended busy clock inside t (NvmOp.more_firmware kind) (fun n prefer => ?_) unasked ?_ ?_, ?_, ?_⟩
  · exact absurd (kind.symm.trans prefer) nofun
  · rw [ended]
    rfl
  · rw [ended]
    exact erasure
  · rw [State.nvmStart_sec, ended]
    exact open_
  · rw [State.nvmStart_sec, ended]
    show ((s.sec.programmed v o.arg).slot v.slot).data = _
    rw [SecSt.slot_programmed lt, FwUpdate.program]

theorem exec_imageStored {n : Nat} (kind : o.kind = .storeImage n) (left : o.left ≤ 1) (lt : n < s.cfg.slots.length) : ∃ u : State,
    exec (.nvmOperationComplete t) s = .next u ∧ u.cfg.slots.getD n [] = o.data ∧ u.sec = s.sec := by
  have ended : (s.advance t).opEnded o = { (s.advance t).nvmIdle with cfg := { s.cfg with
      slots := modAt s.cfg.slots n (fun _ => o.data), slotBad := modAt s.cfg.slotBad n (fun _ => false) } } := by
    simp only [State.opEnded, State.nvmEffect, kind, State.nvmIdle]
    rfl
  refine ⟨_, exec_nvmOperationComplete_ended busy clock inside t (NvmOp.more_storeImage kind left) (fun n prefer => ?_) unasked ?_ ?_, ?_, ?_⟩
  · exact absurd (kind.symm.trans prefer) nofun
  · rw [ended]
    rfl
  · rw [ended]
    exact erasure
  · rw [State.nvmStart_cfg, ended]
    exact getD_modAt_self (fun _ => o.data) [] lt
  · rw [State.nvmStart_sec, ended]
    rfl

theorem exec_flashRead_done (kind : o.kind = .flashRead) : ∃ u : State,
    exec (.nvmOperationComplete t) s = .next u ∧ u.cfg = s.cfg ∧ u.sec = s.sec ∧ u.host = s.host := by
  have ended : (s.advance t).opEnded o = (s.advance t).nvmIdle := by simp only [State.opEnded, State.nvmEffect, kind, State.nvmIdle]
  refine ⟨_, exec_nvmOperationComplete_ended busy clock inside t (NvmOp.more_flashRead kind) (fun n prefer => ?_) unasked ?_ ?_, ?_, ?_, ?_⟩
  · exact absurd (kind.symm.trans prefer) nofun
  · rw [ended]
    rfl
  · rw [ended]
    exact erasure
  · rw [State.nvmStart_cfg, ended]
    rfl
  · rw [State.nvmStart_sec, ended]
    rfl
  · rw [State.nvmStart_host, ended]
    rfl

omit inside erasure in
/-- `FW_ACTIVATE`: the trial slot is preferred, then the commanded reset. -/
theorem exec_preferDone {n : Nat} (kind : o.kind = .directory (.prefer n)) : ∃ u : State,
    exec (.nvmOperationComplete t) s = .next u ∧ u.sec.preferred = n ∧ (u.rst.dueAt.isSome = true ∨ u.rst.cause = 0x206) := by
  let w : State := (s.advance t).nvmIdle.dirDone (.prefer n)
  have ended : (s.advance t).opEnded o = w := by simp only [State.opEnded, State.nvmEffect, kind, State.nvmIdle, w]
  have done : (s.advance t).nvmComplete = w.nvmStart := by
    rw [State.nvmComplete_one (s := s.advance t) busy (NvmOp.more_directory kind), ended]
    exact congrArg State.nvmStart (State.nvmServe_none unasked)
  have reset : (s.advance t).nvmEnd = w.nvmStart.commandedReset := by
    have lost : w.nvmStart.rst.clockLoss = none := by rw [w.nvmStart_rst]; exact clock
    have kinds : (s.advance t).nvmKind = some (.directory (.prefer n)) := (State.nvmKind_running (s := s.advance t) busy).trans (congrArg some kind)
    simp only [State.nvmEnd, done, lost, kinds, Option.isSome_none, Bool.false_eq_true, if_false, if_true]
  obtain ⟨preferred, waits⟩ := w.nvmStart.commandedReset_does
  refine ⟨_, congrArg Host.Outcome.next reset, preferred.trans ?_, waits⟩
  rw [w.nvmStart_sec]
  rfl

end

/-! ## The request that waits for an operation (R19, R65) -/

/-- Requests that are answered `OK` as the operation they wait for ends, whatever it leaves. -/
theorem State.nvmAnswer_ok {s : State} {f : Flight} {o : NvmOp}
    (kind : o.kind = .flashRead ∨ o.kind = .directory .accept ∨ ∃ n, o.kind = .directory (.begin_ n))
    (op : f.opcode = 0x0307 ∨ f.opcode = 0x0D01 ∨ f.opcode = 0x0D02 ∨ f.opcode = 0x0D06) :
    ∃ p, s.nvmAnswer f o = s.complete f .ok 0 p := by
  have answer : ∃ p, s.fwAnswer f o.kind = s.complete f .ok 0 p := by
    obtain kind | kind | ⟨n, kind⟩ := kind <;> rw [kind] <;> exact ⟨_, rfl⟩
  obtain op | op | op | op := op
  · exact ⟨[], by simp only [State.nvmAnswer, op]; rfl⟩
  · exact ⟨s.fwInfo, by simp only [State.nvmAnswer, op]; rfl⟩
  · simpa only [State.nvmAnswer, op] using answer
  · simpa only [State.nvmAnswer, op] using answer

/-- The one request that waits for the operation is answered. -/
theorem State.nvmServe_one {s : State} {o : NvmOp} {w : Wait} (one : s.host.waits = [w]) (asked : w.kind = .nvm o.num) :
    s.nvmServe o = ({ s with host := { s.host with waits := [] } } : State).nvmAnswer w.fl o := by
  simp [State.nvmServe, one, asked]

/-- A completed request of the host has its completion bit. -/
theorem State.complete_bit (s : State) {f : Flight} (host : f.id < 240) (st : Status) (d : Nat) (p : List Byte) :
    (s.complete f st d p).host.done.getLsbD f.id = true := by
  have within : f.id < 256 := by omega
  rw [s.complete_done st d p, if_pos host, BitVec.getLsbD_or]
  simp [within]

theorem exec_nvmOperationComplete_answers {s : State} (t : Nat) {o : NvmOp} {w : Wait} (busy : s.nvm.running = some o)
    (kind : o.kind = .flashRead ∨ o.kind = .directory .accept ∨ ∃ n, o.kind = .directory (.begin_ n))
    (erasure : s.sec.erasure = none) (inside : s.sec.dbg.extest = false) (clock : s.rst.clockLoss = none)
    (one : s.host.waits = [w]) (asked : w.kind = .nvm o.num)
    (op : w.fl.opcode = 0x0307 ∨ w.fl.opcode = 0x0D01 ∨ w.fl.opcode = 0x0D02 ∨ w.fl.opcode = 0x0D06) (host : w.fl.id < 240) :
    ∃ u : State, exec (.nvmOperationComplete t) s = .next u ∧ u.host.waits = [] ∧ u.host.done.getLsbD w.fl.id = true := by
  let x := (s.advance t).opEnded o
  have ended : x.host = s.host ∧ x.sec.erasure = none ∧ o.more = false ∧ ∀ n, o.kind ≠ .directory (.prefer n) := by
    have rewritten (c : DirChange) (plain : ∀ n, c ≠ .prefer n) (kind : o.kind = .directory c) :
        x.host = s.host ∧ x.sec.erasure = none ∧ o.more = false ∧ ∀ n, o.kind ≠ .directory (.prefer n) := by
      have e : x = (s.advance t).nvmIdle.dirDone c := by simp only [x, State.opEnded, State.nvmEffect, kind, State.nvmIdle]
      rw [e, State.dirDone_host, State.dirDone_erasure]
      exact ⟨rfl, erasure, NvmOp.more_directory kind, fun n prefer => plain n (NvmKind.directory.inj (kind.symm.trans prefer))⟩
    obtain kind | kind | ⟨n, kind⟩ := kind
    · have e : x = (s.advance t).nvmIdle := by simp only [x, State.opEnded, State.nvmEffect, kind, State.nvmIdle]
      rw [e]
      exact ⟨rfl, erasure, NvmOp.more_flashRead kind, fun n prefer => absurd (kind.symm.trans prefer) nofun⟩
    · exact rewritten .accept nofun kind
    · exact rewritten (.begin_ n) nofun kind
  obtain ⟨host', erased, more, plain⟩ := ended
  let y : State := { x with host := { x.host with waits := [] } }
  obtain ⟨p, answer⟩ := State.nvmAnswer_ok (s := y) kind op
  have done : (s.advance t).nvmComplete = (y.complete w.fl .ok 0 p).nvmStart := by
    rw [State.nvmComplete_one (s := s.advance t) busy more]
    exact congrArg State.nvmStart ((State.nvmServe_one (s := x) (by rw [host']; exact one) asked).trans answer)
  have quiet : (s.advance t).nvmEnd = (y.complete w.fl .ok 0 p).nvmStart := by
    refine (State.nvmEnd_quiet (s := s.advance t) ?_ ?_ clock inside ?_).trans done
    · exact fun n prefer => plain n (Option.some.inj ((State.nvmKind_running (s := s.advance t) busy).symm.trans prefer))
    · rw [done, State.nvmStart_rst, State.complete_rst]
      exact ((s.advance t).opEnded_change o).rst
    · rw [done, State.nvmStart_sec, State.complete_sec]
      exact erased
  refine ⟨_, congrArg Host.Outcome.next quiet, ?_, ?_⟩
  · rw [State.nvmStart_host, State.complete_waits]
  · rw [State.nvmStart_host]
    exact y.complete_bit host _ _ _

/-! ## The rows of the NVM operations by their kind -/

section

variable {s : State} (t : Nat)

/-- With no operation under way and no erasure at its end the row changes nothing. -/
theorem exec_nvmOperationComplete_idle (free : s.nvm.running = none) (erasure : ∀ k, s.sec.erasure ≠ some (4, k)) :
    exec (.nvmOperationComplete t) s = .next (s.advance t) := by
  have done : (s.advance t).nvmComplete = s.advance t := by simp only [State.nvmComplete, State.advance_nvm, free]
  have ended : (s.advance t).returnDone = s.advance t := by
    unfold State.returnDone
    split
    · next k over_ => exact absurd over_ (erasure k)
    · rfl
  have kinds : (s.advance t).nvmKind = none := by simp only [State.nvmKind, State.advance_nvm, free, Option.map_none]
  refine congrArg Host.Outcome.next ?_
  simp only [State.nvmEnd, done, ended, kinds, State.advance_nvm, free, Option.isSome_none, Bool.false_eq_true, if_false,
    Bool.and_not_self, ite_self]

/-- The row of a kind is the general row while an operation of that kind is under way. -/
theorem exec_nvmOperationComplete_of_kind {o : NvmOp} (busy : s.nvm.running = some o) {p : NvmKind → Bool} (kind : p o.kind = true) :
    exec (.nvmOperationComplete t) s = .next ((s.advance t).nvmIf p State.nvmEnd) :=
  congrArg Host.Outcome.next (State.nvmIf_running (s := s.advance t) busy kind).symm

theorem exec_nvmOperationComplete_returnErasure {o : NvmOp} (busy : s.nvm.running = some o) (kind : o.kind = .eraseSector)
    (run : s.frame.running = true) (erasing : s.sec.erasure ≠ none) (e : Nat) :
    exec (.nvmOperationComplete t) s = exec (.returnErasure t e) s := by
  have some_ : s.sec.erasure.isNone = false := Option.isNone_eq_false_iff.2 (Option.isSome_iff_ne_none.2 erasing)
  have kinds : (s.advance t).nvmKind = some .eraseSector := (State.nvmKind_running (s := s.advance t) busy).trans (congrArg some kind)
  refine congrArg Host.Outcome.next ?_
  simp only [State.advance_frame, State.advance_sec, run, some_, kinds, if_true, Bool.false_eq_true, if_false]
  rfl

end

/-! ## The statement -/

/-- Settles O59: every row of the `FW` opcodes (R433, R445), the acceptance of a trial (R431), and the end of each kind of NVM
operation (R20, R429). That a rewrite of the boot directory is an NVM operation of its own (log entry 92) and that `FW_WRITE` without
an open update answers `BUSY` (log entry 71) are the model's choices. -/
theorem firmwareOpcodes : Obligations.FirmwareOpcodes := by
  unfold Obligations.FirmwareOpcodes
  intro s t tag f
  refine ⟨fun erasing => ?_, fun he still => exec_fwInfo t he still, fun he still low high => exec_fwBegin_opens t he still low high,
    fun he still beyond => ?_, fun v he open_ erased beyond => ?_, fun v he open_ erased within => ?_, fun he closed => ?_,
    fun v he open_ erased => exec_fwFinish_open t he open_ erased, fun he closed state => ?_, fun he closed state => ?_,
    fun n he still trial => exec_fwActivate_trial t he still trial, fun he still none_ => exec_fwActivate_none t he still none_,
    fun he still trial => exec_fwAccept_trial t he still trial, fun he still none_ => exec_fwAccept_none t he still none_,
    fun y armed trial late unasked => exec_fwAccepted_asks t armed trial late unasked, ?_,
    fun y armed early => exec_fwAccepted_idle t (.inr (.inr (.inr ⟨y, armed, early⟩))),
    fun free erasure => exec_nvmOperationComplete_idle t free erasure, fun o busy => ?_,
    fun o busy clock erasure inside unasked => ⟨?_, ?_, ?_, ?_, ?_, ?_, ?_, ?_, ?_, ?_⟩,
    fun o w busy kind erasure inside clock one asked op host =>
      exec_nvmOperationComplete_answers t busy kind erasure inside clock one asked op host⟩
  · have busy (go : State → State) := State.fwReq_erasing (s := s.acting t) (f := f) erasing go
    exact ⟨fun he => exec_row_eq rfl he (busy _), fun he => exec_row_eq rfl he (busy _), fun he => exec_row_eq rfl he (busy _),
      fun he => exec_row_eq rfl he (busy _), fun he => exec_row_eq rfl he (busy _), fun he => exec_row_eq rfl he (busy _)⟩
  · exact exec_row_eq rfl he (State.fwReq_refuses (s := s.acting t) still (by decide) (State.fwBegin_badLength beyond))
  · exact exec_row_eq rfl he (State.fwReq_refuses (s := s.acting t) (State.fwErasing_erased open_ erased) (by decide)
      (State.fwWrite_beyond open_ beyond))
  · obtain ⟨u, next, update⟩ := exec_fwWrite_loads t he open_ erased within
    exact ⟨u, next, v.loaded f, update, rfl, rfl, rfl, erased, rfl⟩
  · exact exec_row_eq rfl he (State.fwReq_refuses (s := s.acting t) (State.fwErasing_none closed) (by decide)
      (State.fwWrite_closed closed))
  · exact exec_dirWrite rfl he ((State.fwReq_go (s := s.acting t) (State.fwErasing_none closed) _).trans
      (State.fwFinish_incomplete closed state))
  · exact exec_row_eq rfl he (State.fwReq_refuses (s := s.acting t) (State.fwErasing_none closed) (by decide)
      (State.fwFinish_refuses closed state))
  · rintro (pending | off | unarmed)
    · exact exec_fwAccepted_idle t (.inl pending)
    · exact exec_fwAccepted_idle t (.inr (.inl off))
    · exact exec_fwAccepted_idle t (.inr (.inr (.inl unarmed)))
  · refine ⟨fun kind e at_ whole => ?_, fun kind => exec_nvmOperationComplete_of_kind t busy (decide_eq_true kind),
      fun kind => exec_nvmOperationComplete_of_kind t busy (decide_eq_true kind), fun kind => ?_,
      fun kind run erasing e => exec_nvmOperationComplete_returnErasure t busy kind run erasing e⟩
    · refine (exec_nvmOperationComplete_of_kind t busy (p := fun k => decide (k = .commitChurn)) (decide_eq_true kind)).trans ?_
      show _ = execCommitChurn e s
      simp only [execCommitChurn, at_, whole, Bool.false_eq_true, if_false]
    · refine exec_nvmOperationComplete_of_kind t busy ?_
      obtain kind | kind | kind := kind <;> rw [kind] <;> rfl
  · exact fun n lt kind => exec_beginDone busy clock inside erasure unasked t lt kind
  · exact fun n lt kind => exec_trialDone busy clock inside erasure unasked t lt kind
  · exact fun n k lt kind => exec_failedDone busy clock inside erasure unasked t lt kind
  · exact fun n kind => exec_preferDone busy clock unasked t kind
  · exact fun kind trial lt => exec_acceptDone busy clock inside erasure unasked t kind trial lt
  · exact fun v kind open_ arg => exec_sectorErased busy clock inside erasure unasked t kind open_ arg
  · exact fun v kind open_ low high lt => exec_sectorProgrammed busy clock inside erasure unasked t kind open_ low high lt
  · exact fun n kind left lt => exec_imageStored busy clock inside erasure unasked t kind left lt
  · exact fun more => exec_nvmOperationComplete_more busy clock inside t erasure more
  · exact fun kind => exec_flashRead_done busy clock inside erasure unasked t kind

end Sys2Proof.Machine
end


section
/-!
PROOFS. The lifecycle and the request that executes: what leaves them as they are (R65, R424).
-/

namespace Sys2Proof.Machine

open Sys2Proof

/-- The lifecycle and the request that executes. -/
def State.lifeView (s : State) : Lifecycle × Option Flight := (s.sec.life, s.host.cur)

@[simp] theorem State.lifeView_mk (clk : ClkSt) (frame : FrameSt) (host : HostSt) (cfg : CfgSt) (nvm : NvmSt) (log : LogSt) (bkp : BkpSt)
    (pwr : PowerSt) (rst : ResetSt) (bus : BusSt) (banks : List BankSt) (chans : List ChanSt) (outs : List OutSt)
    (modems : List ModemSt) (notch : NotchSt) (cal : CalSt) (vib : VibSt) (eng prev : Eng) (recs : List Rec) (msgs : List FrameMsg)
    (live : List LiveCmd) (encs : List EncSt) (disp : DispSt) (dis : List DiSt) (aos : List AoSt) (nok : NokSt) (sec : SecSt)
    (free : Nat) (pending : List Instr) :
    (State.mk clk frame host cfg nvm log bkp pwr rst bus banks chans outs modems notch cal vib eng prev recs msgs live encs disp dis aos
      nok sec free pending).lifeView = (sec.life, host.cur) := rfl

@[simp] theorem State.lifeView_fold (s : State) : (s.sec.life, s.host.cur) = s.lifeView := rfl

@[simp] theorem State.lifeView_ite {c : Prop} [Decidable c] {a b : State} :
    (if c then a else b).lifeView = (if c then a.lifeView else b.lifeView) := apply_ite State.lifeView c a b

@[simp] theorem State.lifeView_foldl {α : Type} {f : State → α → State} (h : ∀ s x, (f s x).lifeView = s.lifeView) (l : List α)
    (s : State) : (l.foldl f s).lifeView = s.lifeView := State.foldl_keeps State.lifeView h l s

@[simp] theorem State.lifeView_each {f : State → Nat → State} (h : ∀ s x, (f s x).lifeView = s.lifeView) (n : Nat) (s : State) :
    (s.each n f).lifeView = s.lifeView := State.foldl_keeps State.lifeView h _ s

section

variable {c : Prop} [Decidable c] {v : Lifecycle × Option Flight}

theorem State.lifeView_if {x y : State} (hx : x.lifeView = v) (hy : y.lifeView = v) : (if c then x else y).lifeView = v :=
  State.ite_keeps hx hy

theorem State.lifeView_if_fst {β : Type} {x y : State × β} (hx : x.1.lifeView = v) (hy : y.1.lifeView = v) :
    (if c then x else y).1.lifeView = v := by split <;> assumption

theorem State.lifeView_if_snd {β : Type} {x y : β × State} (hx : x.2.lifeView = v) (hy : y.2.lifeView = v) :
    (if c then x else y).2.lifeView = v := by split <;> assumption

end



/-! ## Records, messages, responses -/

@[simp] theorem State.advance_lifeView (s : State) (t : Nat) : (s.advance t).lifeView = s.lifeView := by rfl

@[simp] theorem State.enterRec_lifeView (s : State) (r : Rec) : (s.enterRec r).lifeView = s.lifeView := by rfl

@[simp] theorem State.logEv_lifeView (s : State) (code sev kind idx role p1 p2 : Nat) :
    (s.logEv code sev kind idx role p1 p2).lifeView = s.lifeView := by rfl

@[simp] theorem State.logNode_lifeView (s : State) (code sev p1 p2 : Nat) : (s.logNode code sev p1 p2).lifeView = s.lifeView := by rfl

@[simp] theorem State.sendProto_lifeView (s : State) (b prio cls index : Nat) (body : List Byte) (role : TxRole) :
    (s.sendProto b prio cls index body role).lifeView = s.lifeView := by
  unfold State.sendProto
  simp

@[simp] theorem State.sendCulvert_lifeView (s : State) (b cls dst transfer : Nat) (bytes : List Byte) (L : Nat) (role : TxRole) :
    (s.sendCulvert b cls dst transfer bytes L role).lifeView = s.lifeView := by
  unfold State.sendCulvert
  simp

@[simp] theorem State.complete_lifeView (s : State) (f : Flight) (st : Status) (detail : Nat) (payload : List Byte) :
    (s.complete f st detail payload).lifeView = s.lifeView := by
  unfold State.complete
  repeat' split
  all_goals simp

@[simp] theorem State.ok_lifeView (s : State) (f : Flight) (payload : List Byte) : (s.ok f payload).lifeView = s.lifeView := by
  unfold State.ok
  simp

@[simp] theorem State.wait_lifeView (s : State) (f : Flight) (k : WaitKind) : (s.wait f k).lifeView = s.lifeView := by rfl

theorem completeList_lifeView (sel : WaitKind → Option (Status × Nat × List Byte)) (l : List Wait) (s : State) :
    (completeList sel l s).lifeView = s.lifeView := by
  induction l generalizing s with
  | nil => rfl
  | cons w r ih =>
    rw [completeList, ih]
    split <;> simp

@[simp] theorem State.endWaits_lifeView (s : State) (sel : WaitKind → Option (Status × Nat × List Byte)) :
    (s.endWaits sel).lifeView = s.lifeView :=
  completeList_lifeView sel s.host.waits { s with host := { s.host with waits := s.host.waits.filter (fun w => (sel w.kind).isNone) } }

@[simp] theorem State.cause_lifeView (s : State) (i : Nat) : (s.cause i).lifeView = s.lifeView := by rfl

/-! ## The NVM controller -/

@[simp] theorem State.startLogChurn_lifeView (s : State) : (s.startLogChurn).lifeView = s.lifeView := by rfl

@[simp] theorem State.nvmGo_lifeView (s : State) (o : NvmOp) : (s.nvmGo o).lifeView = s.lifeView := by rfl

@[simp] theorem State.energyMark_lifeView (s : State) : (s.energyMark).lifeView = s.lifeView := by rfl

@[simp] theorem State.nvmPick_lifeView (s : State) : (s.nvmPick).lifeView = s.lifeView := by
  unfold State.nvmPick
  repeat' split
  all_goals simp

@[simp] theorem State.nvmStart_lifeView (s : State) : (s.nvmStart).lifeView = s.lifeView := by
  unfold State.nvmStart
  repeat' split
  all_goals simp

@[simp] theorem State.nvmRequest_lifeView (s : State) (k : NvmKind) (data : Mem) (arg : Nat) :
    (s.nvmRequest k data arg).1.lifeView = s.lifeView := by
  unfold State.nvmRequest
  simp

@[simp] theorem State.nvmRead_lifeView (s : State) (f : Flight) (serve : Flight → State → State)
    (h : ∀ f s, (serve f s).lifeView = s.lifeView) : (s.nvmRead f serve).lifeView = s.lifeView := by
  unfold State.nvmRead
  split
  · exact h _ _
  · rfl

@[simp] theorem State.unlessNoWait_lifeView (s : State) (f cost) (go : State → State) (h : ∀ s, (go s).lifeView = s.lifeView) :
    (s.unlessNoWait f cost go).lifeView = s.lifeView := by
  unfold State.unlessNoWait
  split
  · simp
  · exact h _

/-! ## Refusals, the draft -/

@[simp] theorem State.logStale_lifeView (s : State) (f : Flight) : (s.logStale f).lifeView = s.lifeView := by
  unfold State.logStale
  split <;> simp

@[simp] theorem State.refuse_lifeView (s : State) (f : Flight) (r : Refused) : (s.refuse f r).lifeView = s.lifeView := by
  unfold State.refuse
  simp

@[simp] theorem State.touchDraft_lifeView (s : State) (f : Flight) : (s.touchDraft f).lifeView = s.lifeView := by
  unfold State.touchDraft
  split <;> simp

@[simp] theorem State.setDraft_lifeView (s : State) (m : Mem) : (s.setDraft m).lifeView = s.lifeView := by
  unfold State.setDraft
  split <;> simp

/-! ## Encoders -/

@[simp] theorem State.modEnc_lifeView (s : State) (k : Nat) (f : EncSt → EncSt) : (s.modEnc k f).lifeView = s.lifeView := by rfl

@[simp] theorem State.logEnc_lifeView (s : State) (k code sev p1 p2 : Nat) : (s.logEnc k code sev p1 p2).lifeView = s.lifeView := by rfl

@[simp] theorem State.latchOne_lifeView (s : State) (k : Nat) : (s.latchOne k).lifeView = s.lifeView := by
  unfold State.latchOne
  dsimp only
  split <;> simp

@[simp] theorem State.cmpRevert_lifeView (s : State) (k : Nat) : (s.cmpRevert k).lifeView = s.lifeView := by
  unfold State.cmpRevert
  simp

@[simp] theorem State.fireCmp_lifeView (s : State) (k te net : Nat) : (s.fireCmp k te net).lifeView = s.lifeView := by
  unfold State.fireCmp
  simp

@[simp] theorem State.armCheck_lifeView (s0 : State) (k : Nat) : (s0.armCheck k).lifeView = s0.lifeView := by
  unfold State.armCheck
  dsimp only
  repeat' split
  all_goals simp

@[simp] theorem State.armDue_lifeView (s : State) (k : Nat) : (s.armDue k).lifeView = s.lifeView := by
  unfold State.armDue
  simp

@[simp] theorem State.pulseOne_lifeView (s : State) (k : Nat) : (s.pulseOne k).lifeView = s.lifeView := by
  unfold State.pulseOne
  split <;> simp

theorem latchAll_lifeView (k n : Nat) (s : State) : (latchAll k n s).lifeView = s.lifeView := by
  induction n generalizing s with
  | zero => rfl
  | succ n ih => exact (ih (s.latchOne k)).trans (s.latchOne_lifeView k)

@[simp] theorem State.settleEnc_lifeView (s : State) (k : Nat) : (s.settleEnc k).lifeView = s.lifeView := by
  unfold State.settleEnc
  simp [latchAll_lifeView]

@[simp] theorem State.cmpWindow_lifeView (s : State) (k : Nat) : (s.cmpWindow k).lifeView = s.lifeView := by
  unfold State.cmpWindow
  simp

@[simp] theorem State.compare_lifeView (s : State) (k : Nat) (fwd : Bool) (te net : Nat) :
    (s.compare k fwd te net).lifeView = s.lifeView := by
  unfold State.compare
  simp

@[simp] theorem State.cmpFromTable_lifeView (s0 : State) (k : Nat) : (s0.cmpFromTable k).lifeView = s0.lifeView := by
  unfold State.cmpFromTable
  simp

@[simp] theorem State.cmpSuspend_lifeView (s0 : State) (k : Nat) : (s0.cmpSuspend k).lifeView = s0.lifeView := by
  unfold State.cmpSuspend
  simp

@[simp] theorem State.cmpResume_lifeView (s : State) (k : Nat) : (s.cmpResume k).lifeView = s.lifeView := by
  unfold State.cmpResume
  simp

@[simp] theorem State.setQuadErr_lifeView (s : State) (k : Nat) : (s.setQuadErr k).lifeView = s.lifeView := by
  unfold State.setQuadErr
  simp

@[simp] theorem State.countEdge_lifeView (s : State) (k : Nat) (fwd : Bool) (te net : Nat) :
    (s.countEdge k fwd te net).lifeView = s.lifeView := by
  unfold State.countEdge
  simp

@[simp] theorem State.encSample_lifeView (s : State) (k : Nat) (a b : Bool) : (s.encSample k a b).lifeView = s.lifeView := by
  unfold State.encSample
  dsimp only
  repeat' split
  all_goals simp

@[simp] theorem State.indexEdge_lifeView (s : State) (k : Nat) : (s.indexEdge k).lifeView = s.lifeView := by
  unfold State.indexEdge
  dsimp only
  refine State.lifeView_if (by simp) (State.lifeView_if (by simp) (State.lifeView_if ?_ (State.lifeView_if ?_ ?_)))
  · split <;> simp
  · exact State.lifeView_if (by simp) (by simp)
  · exact State.lifeView_if (by simp) (by simp)

@[simp] theorem State.rebaseEnc_lifeView (s0 : State) (k mode : Nat) (v : BitVec 32) :
    (s0.rebaseEnc k mode v).lifeView = s0.lifeView := by
  unfold State.rebaseEnc
  dsimp only
  repeat' split
  all_goals simp

@[simp] theorem State.ssiStart_lifeView (s : State) (k seq : Nat) : (s.ssiStart k seq).lifeView = s.lifeView := by
  unfold State.ssiStart
  simp

@[simp] theorem State.ssiDone_lifeView (s : State) (k : Nat) (idleOk endOk parity : Bool) (raw : Nat) :
    (s.ssiDone k idleOk endOk parity raw).lifeView = s.lifeView := by
  unfold State.ssiDone
  dsimp only
  repeat' split
  all_goals simp

@[simp] theorem State.ssiTake_lifeView (s : State) (k : Nat) : (s.ssiTake k).lifeView = s.lifeView := by
  unfold State.ssiTake
  dsimp only
  split <;> simp

@[simp] theorem State.captureEnc_lifeView (s0 : State) (k : Nat) : (s0.captureEnc k).lifeView = s0.lifeView := by
  unfold State.captureEnc
  simp

@[simp] theorem State.lineFault_lifeView (s0 : State) (k input : Nat) : (s0.lineFault k input).lifeView = s0.lifeView := by
  unfold State.lineFault
  simp

@[simp] theorem State.cmpOverload_lifeView (s : State) (k : Nat) : (s.cmpOverload k).lifeView = s.lifeView := by
  unfold State.cmpOverload
  simp

@[simp] theorem State.cmpOverloadEnd_lifeView (s : State) (k : Nat) : (s.cmpOverloadEnd k).lifeView = s.lifeView := by
  unfold State.cmpOverloadEnd
  split <;> simp

@[simp] theorem State.limitEdge_lifeView (s : State) (di : Nat) (level : Bool) : (s.limitEdge di level).lifeView = s.lifeView := by
  unfold State.limitEdge
  simp

/-! ## Live commands -/

@[simp] theorem State.addLive_lifeView (s : State) (k : LiveKind) (f : Flight) : (s.addLive k f).lifeView = s.lifeView := by rfl

@[simp] theorem State.endLive_lifeView (s : State) (c : LiveCmd) (st : Status) (d : Nat) (p : List Byte) :
    (s.endLive c st d p).lifeView = s.lifeView := by rfl

@[simp] theorem State.answerLive_lifeView (s : State) (c : LiveCmd) (d : Nat) (p : List Byte) :
    (s.answerLive c d p).lifeView = s.lifeView := by
  unfold State.answerLive
  simp

@[simp] theorem State.latchRead_lifeView (s0 : State) (f : Flight) : (s0.latchRead f).lifeView = s0.lifeView := by
  unfold State.latchRead
  simp

@[simp] theorem State.applyEncLive_lifeView (s : State) (c : LiveCmd) : (s.applyEncLive c).lifeView = s.lifeView := by
  unfold State.applyEncLive
  dsimp only
  refine State.lifeView_if rfl ?_
  split
  · exact State.lifeView_if (by simp) (by simp)
  · exact State.lifeView_if (by simp) (by simp)
  · exact State.lifeView_if (by simp) (by simp)
  · rfl

@[simp] theorem State.encLive_lifeView (s : State) : (s.encLive).lifeView = s.lifeView := by
  unfold State.encLive
  simp

/-! ## Digital inputs, annunciator outputs, the relay -/

@[simp] theorem State.modDi_lifeView (s : State) (i : Nat) (f : DiSt → DiSt) : (s.modDi i f).lifeView = s.lifeView := by rfl

@[simp] theorem State.logDi_lifeView (s : State) (i code sev p1 p2 : Nat) : (s.logDi i code sev p1 p2).lifeView = s.lifeView := by rfl

@[simp] theorem State.diLine_lifeView (s : State) (i : Nat) (broken : Bool) : (s.diLine i broken).lifeView = s.lifeView := by
  unfold State.diLine
  simp

@[simp] theorem State.diSample_lifeView (s : State) (i mv : Nat) : (s.diSample i mv).lifeView = s.lifeView := by
  unfold State.diSample
  dsimp only
  repeat' split
  all_goals simp

@[simp] theorem State.captureDi_lifeView (s : State) (i mv : Nat) : (s.captureDi i mv).lifeView = s.lifeView := by
  unfold State.captureDi
  simp

@[simp] theorem State.modAo_lifeView (s : State) (k : Nat) (f : AoSt → AoSt) : (s.modAo k f).lifeView = s.lifeView := by rfl

@[simp] theorem State.aoCommand_lifeView (s : State) (k : Nat) : (s.aoCommand k).lifeView = s.lifeView := by rfl

@[simp] theorem State.aoApply_lifeView (s : State) (k : Nat) : (s.aoApply k).lifeView = s.lifeView := by rfl

@[simp] theorem State.aoFault_lifeView (s : State) (k code ma : Nat) : (s.aoFault k code ma).lifeView = s.lifeView := by rfl

@[simp] theorem State.aoOverload_lifeView (s : State) (k ma : Nat) : (s.aoOverload k ma).lifeView = s.lifeView := by
  unfold State.aoOverload
  simp

@[simp] theorem State.aoSample_lifeView (s : State) (k ma mv : Nat) : (s.aoSample k ma mv).lifeView = s.lifeView := by
  unfold State.aoSample
  simp

@[simp] theorem State.aoTotal_lifeView (s : State) (ma : List Nat) : (s.aoTotal ma).lifeView = s.lifeView := by
  unfold State.aoTotal
  simp

@[simp] theorem State.aoTotalSample_lifeView (s : State) (ma : List Nat) : (s.aoTotalSample ma).lifeView = s.lifeView := by
  unfold State.aoTotalSample
  simp

@[simp] theorem State.takeAos_lifeView (s : State) (ma mv : List Nat) : (s.takeAos ma mv).lifeView = s.lifeView := by
  unfold State.takeAos
  simp

@[simp] theorem State.nokUpdate_lifeView (s : State) : (s.nokUpdate).lifeView = s.lifeView := by rfl

@[simp] theorem State.nokFault_lifeView (s : State) (ma : Nat) : (s.nokFault ma).lifeView = s.lifeView := by rfl

@[simp] theorem State.nokSample_lifeView (s : State) (ma : Nat) : (s.nokSample ma).lifeView = s.lifeView := by
  unfold State.nokSample
  split <;> simp

/-! ## The frame in progress -/

@[simp] theorem State.frameEv_lifeView (s : State) (code sev kind idx role p1 p2 : Nat) :
    (s.frameEv code sev kind idx role p1 p2).lifeView = s.lifeView := by rfl

@[simp] theorem State.frameMsg_lifeView (s : State) (mask prio cls index : Nat) (body : List Byte) :
    (s.frameMsg mask prio cls index body).lifeView = s.lifeView := by rfl

@[simp] theorem State.openFrame_lifeView (s : State) : (s.openFrame).lifeView = s.lifeView := by rfl

@[simp] theorem State.toFrame_lifeView (s : State) (t : Nat) : (s.toFrame t).lifeView = s.lifeView := by
  unfold State.toFrame
  dsimp only
  split <;> simp

/-! ## Channels and outputs -/

@[simp] theorem State.modChan_lifeView (s : State) (n : Nat) (f : ChanSt → ChanSt) : (s.modChan n f).lifeView = s.lifeView := by rfl

@[simp] theorem State.modBank_lifeView (s : State) (b : Nat) (f : BankSt → BankSt) : (s.modBank b f).lifeView = s.lifeView := by rfl

@[simp] theorem State.logChan_lifeView (s : State) (n code sev p1 p2 : Nat) : (s.logChan n code sev p1 p2).lifeView = s.lifeView := by rfl

@[simp] theorem State.logBank_lifeView (s : State) (b code sev p1 p2 : Nat) : (s.logBank b code sev p1 p2).lifeView = s.lifeView := by rfl

@[simp] theorem State.modOut_lifeView (s : State) (n : Nat) (f : OutSt → OutSt) : (s.modOut n f).lifeView = s.lifeView := by rfl

@[simp] theorem State.outTake_lifeView (s : State) (n : Nat) : (s.outTake n).lifeView = s.lifeView := by
  unfold State.outTake
  split <;> simp

@[simp] theorem State.outStart_lifeView (s : State) (n : Nat) : (s.outStart n).lifeView = s.lifeView := by rfl

@[simp] theorem State.outToSafe_lifeView (s : State) (n : Nat) (d : DriveState) : (s.outToSafe n d).lifeView = s.lifeView := by rfl

@[simp] theorem State.outApply_lifeView (s : State) (pub : Bool) (n : Nat) : (s.outApply pub n).lifeView = s.lifeView := by
  unfold State.outApply
  dsimp only
  repeat' split
  all_goals simp

@[simp] theorem State.outRampDown_lifeView (s : State) (n : Nat) : (s.outRampDown n).lifeView = s.lifeView := by rfl

@[simp] theorem State.outRampStep_lifeView (s : State) (n : Nat) : (s.outRampStep n).lifeView = s.lifeView := by
  unfold State.outRampStep
  split <;> simp

@[simp] theorem State.complEnter_lifeView (s : State) (n : Nat) : (s.complEnter n).lifeView = s.lifeView := by
  unfold State.complEnter
  simp

@[simp] theorem State.complTimer_lifeView (s : State) (n : Nat) : (s.complTimer n).lifeView = s.lifeView := by
  unfold State.complTimer
  simp

@[simp] theorem State.complLeave_lifeView (s : State) (n : Nat) : (s.complLeave n).lifeView = s.lifeView := by
  unfold State.complLeave
  simp

@[simp] theorem State.openDeclare_lifeView (s : State) (n : Nat) : (s.openDeclare n).lifeView = s.lifeView := by
  unfold State.openDeclare
  simp

@[simp] theorem State.probeStep_lifeView (s : State) (n : Nat) : (s.probeStep n).lifeView = s.lifeView := by
  unfold State.probeStep
  simp

@[simp] theorem State.overStep_lifeView (s : State) (n : Nat) : (s.overStep n).lifeView = s.lifeView := by rfl

@[simp] theorem State.outJudge_lifeView (s : State) (n : Nat) (x : ChIn) : (s.outJudge n x).lifeView = s.lifeView := by
  unfold State.outJudge
  simp

@[simp] theorem State.outDemand_lifeView (s : State) (n : Nat) : (s.outDemand n).lifeView = s.lifeView := by rfl

@[simp] theorem State.publishChan_lifeView (s : State) (n seq : Nat) (q : Quality) (v : Option F32) :
    (s.publishChan n seq q v).lifeView = s.lifeView := by rfl

@[simp] theorem State.logBadRecs_lifeView (s : State) (n : Nat) : (s.logBadRecs n).lifeView = s.lifeView := by
  unfold State.logBadRecs
  simp

@[simp] theorem State.logCalLoad_lifeView (s : State) (n : Nat) (load : Bool) : (s.logCalLoad n load).lifeView = s.lifeView := by
  unfold State.logCalLoad
  simp

@[simp] theorem State.noteCal_lifeView (s : State) (n : Nat) (load : Bool) : (s.noteCal n load).lifeView = s.lifeView := by
  unfold State.noteCal
  simp

@[simp] theorem State.calSample_lifeView (s : State) (n : Nat) (x : F32) : (s.calSample n x).lifeView = s.lifeView := by rfl

@[simp] theorem State.captureOut_lifeView (s : State) (seq n : Nat) (x : ChIn) : (s.captureOut seq n x).lifeView = s.lifeView := by
  unfold State.captureOut
  simp

@[simp] theorem State.applyOutLive_lifeView (s : State) (c : LiveCmd) : (s.applyOutLive c).lifeView = s.lifeView := by
  unfold State.applyOutLive
  split <;> simp

@[simp] theorem State.outLive_lifeView (s : State) : (s.outLive).lifeView = s.lifeView := by
  unfold State.outLive
  simp

/-! ## FSK -/

@[simp] theorem State.modModem_lifeView (s : State) (b : Nat) (f : ModemSt → ModemSt) : (s.modModem b f).lifeView = s.lifeView := by rfl

@[simp] theorem State.fskLeave_lifeView (s : State) (b : Nat) (x : FskTx) (go : State → State) (h : ∀ s, (go s).lifeView = s.lifeView) :
    (s.fskLeave b x go).lifeView = s.lifeView := by
  unfold State.fskLeave
  dsimp only
  split
  · exact h _
  · simp

@[simp] theorem State.fskAttach_lifeView (s : State) (b : Nat) : (s.fskAttach b).lifeView = s.lifeView := by
  unfold State.fskAttach
  dsimp only
  split
  · split
    · exact State.fskLeave_lifeView _ _ _ _ (fun s => by simp)
    · rfl
  · rfl

@[simp] theorem State.fskStart_lifeView (s : State) (b : Nat) : (s.fskStart b).lifeView = s.lifeView := by
  unfold State.fskStart
  simp

@[simp] theorem State.fskSend_lifeView (s : State) (b : Nat) : (s.fskSend b).lifeView = s.lifeView := by
  unfold State.fskSend
  dsimp only
  split <;> simp

@[simp] theorem State.fskFail_lifeView (s : State) (b : Nat) (x : FskTx) : (s.fskFail b x).lifeView = s.lifeView := by
  unfold State.fskFail
  simp

@[simp] theorem State.fskRespond_lifeView (s : State) (b pre : Nat) (parity : Bool) (data : List Byte) :
    (s.fskRespond b pre parity data).lifeView = s.lifeView := by
  unfold State.fskRespond
  repeat' split
  all_goals simp

@[simp] theorem State.fskAbort_lifeView (s : State) (b : Nat) (sel : Nat → Bool) : (s.fskAbort b sel).lifeView = s.lifeView := by
  unfold State.fskAbort
  split <;> simp

@[simp] theorem State.burstCheck_lifeView (s : State) (b : Nat) : (s.burstCheck b).lifeView = s.lifeView := by
  unfold State.burstCheck
  split <;> simp

@[simp] theorem State.burstFrame_lifeView (s : State) (b pre : Nat) (parity : Bool) (data : List Byte) :
    (s.burstFrame b pre parity data).lifeView = s.lifeView := by
  unfold State.burstFrame
  dsimp only
  split <;> simp

@[simp] theorem State.frameIn_lifeView (s : State) (b : Nat) (body : List Byte) : (s.frameIn b body).lifeView = s.lifeView := by
  unfold State.frameIn
  split
  · rfl
  · exact State.lifeView_foldl (fun s k => by simp) _ _

/-! ## Banks and links -/

@[simp] theorem State.modAmp_lifeView (s : State) (b i : Nat) (f : AmpSt → AmpSt) : (s.modAmp b i f).lifeView = s.lifeView := by rfl

@[simp] theorem State.restartChan_lifeView (s : State) (n : Nat) : (s.restartChan n).lifeView = s.lifeView := by rfl

@[simp] theorem State.restartBank_lifeView (s : State) (b : Nat) : (s.restartBank b).lifeView = s.lifeView := by
  unfold State.restartBank
  simp

@[simp] theorem State.ampReset_lifeView (s : State) (b i : Nat) : (s.ampReset b i).lifeView = s.lifeView := by rfl

@[simp] theorem State.ampSetup_lifeView (s : State) (b i : Nat) : (s.ampSetup b i).lifeView = s.lifeView := by
  unfold State.ampSetup
  simp

@[simp] theorem State.ampEnd_lifeView (s : State) (b i : Nat) : (s.ampEnd b i).lifeView = s.lifeView := by
  unfold State.ampEnd
  repeat' split
  all_goals simp

@[simp] theorem State.bankSetup_lifeView (s : State) (b : Nat) : (s.bankSetup b).lifeView = s.lifeView := by rfl

@[simp] theorem State.supplyOn_lifeView (s : State) (b : Nat) : (s.supplyOn b).lifeView = s.lifeView := by rfl

@[simp] theorem State.supplyOff_lifeView (s : State) (b : Nat) : (s.supplyOff b).lifeView = s.lifeView := by rfl

@[simp] theorem State.supplyEnd_lifeView (s : State) (b : Nat) : (s.supplyEnd b).lifeView = s.lifeView := by rfl

@[simp] theorem State.supplyTick_lifeView (s : State) (b : Nat) : (s.supplyTick b).lifeView = s.lifeView := by
  unfold State.supplyTick
  simp

@[simp] theorem State.bankPowerUp_lifeView (s : State) (b : Nat) : (s.bankPowerUp b).lifeView = s.lifeView := by
  unfold State.bankPowerUp
  simp

@[simp] theorem State.bankStart_lifeView (s : State) (b : Nat) : (s.bankStart b).lifeView = s.lifeView := by
  unfold State.bankStart
  simp

@[simp] theorem State.bankDown_lifeView (s : State) (b : Nat) (p : BankPower) : (s.bankDown b p).lifeView = s.lifeView := by
  unfold State.bankDown
  dsimp only
  rw [State.fskAbort_lifeView, State.lifeView_each (fun s j => by simp)]
  simp

@[simp] theorem State.bankFault_lifeView (s : State) (b cause : Nat) : (s.bankFault b cause).lifeView = s.lifeView := by
  unfold State.bankFault
  simp

@[simp] theorem State.linkLost_lifeView (s : State) (b n : Nat) : (s.linkLost b n).lifeView = s.lifeView := by
  unfold State.linkLost
  simp

@[simp] theorem State.upFrame_lifeView (s : State) (b : Nat) (f : UpFrame) : (s.upFrame b f).lifeView = s.lifeView := by
  unfold State.upFrame
  simp

@[simp] theorem State.downFrame_lifeView (s : State) (b : Nat) (f : DownFrame) : (s.downFrame b f).lifeView = s.lifeView := by
  unfold State.downFrame
  simp

@[simp] theorem State.watchdogTrip_lifeView (s : State) (b : Nat) : (s.watchdogTrip b).lifeView = s.lifeView := by
  unfold State.watchdogTrip
  simp

@[simp] theorem State.landBeyond_lifeView (s : State) (b l : Nat) (above : Bool) : (s.landBeyond b l above).lifeView = s.lifeView := by
  unfold State.landBeyond
  simp

@[simp] theorem State.landBack_lifeView (s : State) (b l : Nat) : (s.landBack b l).lifeView = s.lifeView := by
  unfold State.landBack
  simp

@[simp] theorem State.ampOverload_lifeView (s : State) (ch : Nat) (pos : Bool) : (s.ampOverload ch pos).lifeView = s.lifeView := by
  unfold State.ampOverload
  simp

@[simp] theorem State.holdEnd_lifeView (s : State) (ch : Nat) : (s.holdEnd ch).lifeView = s.lifeView := by
  unfold State.holdEnd
  split <;> simp

@[simp] theorem State.resetEnd_lifeView (s : State) (ch : Nat) : (s.resetEnd ch).lifeView = s.lifeView := by
  unfold State.resetEnd
  split <;> simp

/-! ## Blends, weirs, groups -/

@[simp] theorem State.modBlend_lifeView (s : State) (b : Nat) (f : BlendSt → BlendSt) : (s.modBlend b f).lifeView = s.lifeView := by rfl

@[simp] theorem State.evalSlot_lifeView (s : State) (b : Nat) : (s.evalSlot b).lifeView = s.lifeView := by
  unfold State.evalSlot
  dsimp only
  repeat' split
  all_goals simp

@[simp] theorem State.evalSlots_lifeView (s : State) : (s.evalSlots).lifeView = s.lifeView := by
  unfold State.evalSlots
  simp

@[simp] theorem State.modWeir_lifeView (s : State) (w : Nat) (f : WeirSt → WeirSt) : (s.modWeir w f).lifeView = s.lifeView := by rfl

@[simp] theorem State.evalWeirAt_lifeView (s : State) (w : Nat) : (s.evalWeirAt w).lifeView = s.lifeView := by
  unfold State.evalWeirAt
  simp

@[simp] theorem State.evalWeirs_lifeView (s : State) : (s.evalWeirs).lifeView = s.lifeView := by
  unfold State.evalWeirs
  simp

@[simp] theorem State.weirLog_lifeView (s : State) (w : Nat) (l : WeirLog) : (s.weirLog w l).lifeView = s.lifeView := by rfl

theorem State.stepWeirAt_lifeView (live : List LiveCmd) (acks : List AckSrc) (p : State × List (Option LiveCmd)) (w : Nat) :
    (State.stepWeirAt live acks p w).1.lifeView = p.1.lifeView := by
  unfold State.stepWeirAt
  dsimp only
  simp

@[simp] theorem State.stepWeirs_lifeView (s : State) (live : List LiveCmd) (acks : List AckSrc) :
    (s.stepWeirs live acks).1.lifeView = s.lifeView := by
  have each_ : ∀ (l : List Nat) (p : State × List (Option LiveCmd)),
      (l.foldl (State.stepWeirAt live acks) p).1.lifeView = p.1.lifeView := by
    intro l
    induction l with
    | nil => exact fun _ => rfl
    | cons w r ih => exact fun p => (ih _).trans (State.stepWeirAt_lifeView live acks p w)
  exact each_ _ (s, [])

@[simp] theorem State.weirLive_lifeView (s : State) (f : Flight) (k : LiveKind) : (s.weirLive f k).lifeView = s.lifeView := by
  unfold State.weirLive
  simp

@[simp] theorem State.weirStatus_lifeView (s : State) (f : Flight) : (s.weirStatus f).lifeView = s.lifeView := by
  unfold State.weirStatus
  simp

@[simp] theorem State.weirElapse_lifeView (s : State) (w : Nat) : (s.weirElapse w).lifeView = s.lifeView := by rfl

@[simp] theorem State.weirSuspect_lifeView (s : State) (w : Nat) : (s.weirSuspect w).lifeView = s.lifeView := by rfl

@[simp] theorem State.weirUnshelve_lifeView (s : State) (w : Nat) : (s.weirUnshelve w).lifeView = s.lifeView := by
  unfold State.weirUnshelve
  simp

@[simp] theorem State.modGroup_lifeView (s : State) (g : Nat) (f : GroupSt → GroupSt) : (s.modGroup g f).lifeView = s.lifeView := by rfl

@[simp] theorem State.groupEvs_lifeView (s : State) (g : Nat) (x : Src) (codes : List Nat) :
    (s.groupEvs g x codes).lifeView = s.lifeView := by
  unfold State.groupEvs
  simp

@[simp] theorem State.suppress_lifeView (s : State) (g : Nat) : (s.suppress g).lifeView = s.lifeView := by
  unfold State.suppress
  simp

@[simp] theorem State.suppressAll_lifeView (s : State) : (s.suppressAll).lifeView = s.lifeView := by
  unfold State.suppressAll
  simp

@[simp] theorem State.buttonStuck_lifeView (s : State) (i : Nat) : (s.buttonStuck i).lifeView = s.lifeView := by
  unfold State.buttonStuck
  dsimp only
  split <;> simp

@[simp] theorem State.buttonKeep_lifeView (s : State) (i : Nat) : (s.buttonKeep i).lifeView = s.lifeView := by
  unfold State.buttonKeep
  simp

@[simp] theorem State.aggregate_lifeView (s : State) (g : Nat) : (s.aggregate g).lifeView = s.lifeView := by rfl

@[simp] theorem State.aggregateAll_lifeView (s : State) : s.aggregateAll.lifeView = s.lifeView :=
  State.lifeView_foldl State.aggregate_lifeView _ s

@[simp] theorem State.answerWeirCmd_lifeView (hits : List (Option LiveCmd)) (s : State) (c : LiveCmd) :
    (State.answerWeirCmd hits s c).lifeView = s.lifeView := by
  unfold State.answerWeirCmd
  split <;> simp

@[simp] theorem State.alarmStep_lifeView (s : State) : (s.alarmStep).lifeView = s.lifeView := by
  unfold State.alarmStep
  dsimp only
  refine (State.lifeView_foldl (fun s c => State.answerWeirCmd_lifeView _ _ _) _ _).trans ?_
  rw [State.aggregateAll_lifeView, State.stepWeirs_lifeView, State.suppressAll_lifeView]
  exact State.lifeView_foldl (fun s c => by simp) _ _

@[simp] theorem State.groupRelease_lifeView (s : State) (g : Nat) : (s.groupRelease g).lifeView = s.lifeView := by
  unfold State.groupRelease
  simp

/-! ## First-out sets -/

@[simp] theorem State.modFo_lifeView (s : State) (f : Nat) (g : FoSt → FoSt) : (s.modFo f g).lifeView = s.lifeView := by rfl

@[simp] theorem State.foEv_lifeView (s : State) (f code sev node weir count : Nat) :
    (s.foEv f code sev node weir count).lifeView = s.lifeView := by rfl

@[simp] theorem State.foBroadcast_lifeView (s : State) (f : Nat) : (s.foBroadcast f).lifeView = s.lifeView := by
  unfold State.foBroadcast
  simp

@[simp] theorem State.foEnter_lifeView (s : State) (f : Nat) (x : FoCand) : (s.foEnter f x).lifeView = s.lifeView := by
  unfold State.foEnter
  simp

@[simp] theorem State.foLocal_lifeView (s : State) (w : Nat) (c : WeirCfg) : (s.foLocal w c).lifeView = s.lifeView := by
  unfold State.foLocal
  simp

@[simp] theorem State.foDecide_lifeView (s : State) (f : Nat) : (s.foDecide f).lifeView = s.lifeView := by
  unfold State.foDecide
  dsimp only
  split <;> simp

@[simp] theorem State.foAbsent_lifeView (s : State) (f : Nat) : (s.foAbsent f).lifeView = s.lifeView := by
  unfold State.foAbsent
  dsimp only
  split <;> simp

@[simp] theorem State.foClear_lifeView (s : State) (f origin : Nat) : (s.foClear f origin).lifeView = s.lifeView := by rfl

@[simp] theorem State.foResetDue_lifeView (s : State) (f : Nat) : (s.foResetDue f).lifeView = s.lifeView := by
  unfold State.foResetDue
  dsimp only
  split <;> simp

@[simp] theorem State.foAuto_lifeView (s : State) (f : Nat) : (s.foAuto f).lifeView = s.lifeView := by
  unfold State.foAuto
  simp

@[simp] theorem State.foAdopt_lifeView (s : State) (f : Nat) : (s.foAdopt f).lifeView = s.lifeView := by rfl

@[simp] theorem State.foCommand_lifeView (s : State) (c : LiveCmd) : (s.foCommand c).lifeView = s.lifeView := by
  unfold State.foCommand
  dsimp only
  repeat' split
  all_goals simp

@[simp] theorem State.foAnswer_lifeView (s : State) (c : LiveCmd) : (s.foAnswer c).lifeView = s.lifeView := by
  unfold State.foAnswer
  split <;> simp

@[simp] theorem State.foStep_lifeView (s : State) : (s.foStep).lifeView = s.lifeView := by
  unfold State.foStep
  simp

@[simp] theorem State.foRequest_lifeView (s : State) (k : FoCfg) (origin : Nat) : (s.foRequest k origin).lifeView = s.lifeView := by
  unfold State.foRequest
  simp

@[simp] theorem State.foResetReq_lifeView (s : State) (fl : Flight) : (s.foResetReq fl).lifeView = s.lifeView := by
  unfold State.foResetReq
  dsimp only
  repeat' split
  all_goals simp

@[simp] theorem State.foStatus_lifeView (s : State) (fl : Flight) : (s.foStatus fl).lifeView = s.lifeView := by
  unfold State.foStatus
  simp

/-! ## Call chains, duty, the dead-man timer -/

@[simp] theorem State.modChain_lifeView (s : State) (c : Nat) (f : ChainSt → ChainSt) : (s.modChain c f).lifeView = s.lifeView := by rfl

@[simp] theorem State.sendCall_lifeView (s : State) (c : Nat) (members : List Nat) (cancel : Bool) :
    (s.sendCall c members cancel).lifeView = s.lifeView := by
  unfold State.sendCall
  simp

@[simp] theorem State.callOut_lifeView (s : State) (c : Nat) : (s.callOut c).lifeView = s.lifeView := by
  unfold State.callOut
  simp

@[simp] theorem State.enterStage_lifeView (s : State) (c k : Nat) : (s.enterStage c k).lifeView = s.lifeView := by
  unfold State.enterStage
  simp

@[simp] theorem State.endCall_lifeView (s : State) (c : Nat) : (s.endCall c).lifeView = s.lifeView := by
  unfold State.endCall
  simp

@[simp] theorem State.chainDwell_lifeView (s : State) (c : Nat) : (s.chainDwell c).lifeView = s.lifeView := by
  unfold State.chainDwell
  simp

@[simp] theorem State.chainAcceptEnd_lifeView (s : State) (c : Nat) : (s.chainAcceptEnd c).lifeView = s.lifeView := by
  unfold State.chainAcceptEnd
  simp

@[simp] theorem State.chainRepeat_lifeView (s : State) (c : Nat) : (s.chainRepeat c).lifeView = s.lifeView := by
  unfold State.chainRepeat
  split <;> simp

@[simp] theorem State.chainCancel_lifeView (s : State) (c : Nat) : (s.chainCancel c).lifeView = s.lifeView := by
  unfold State.chainCancel
  simp

@[simp] theorem State.chainAccept_lifeView (s : State) (c origin : Nat) (panel : Option (Nat × Nat)) :
    (s.chainAccept c origin panel).lifeView = s.lifeView := by
  unfold State.chainAccept
  simp

@[simp] theorem State.acceptCmd_lifeView (s : State) (c : LiveCmd) : (s.acceptCmd c).lifeView = s.lifeView := by
  unfold State.acceptCmd
  split <;> simp

@[simp] theorem State.chainStep_lifeView (s : State) (c : Nat) : (s.chainStep c).lifeView = s.lifeView := by
  unfold State.chainStep
  simp

@[simp] theorem State.chainsStep_lifeView (s : State) : (s.chainsStep).lifeView = s.lifeView := by
  unfold State.chainsStep
  simp

@[simp] theorem State.rosterEv_lifeView (s : State) (code sev p1 p2 : Nat) : (s.rosterEv code sev p1 p2).lifeView = s.lifeView := by rfl

@[simp] theorem State.modDuty_lifeView (s : State) (f : DutySt → DutySt) : (s.modDuty f).lifeView = s.lifeView := by rfl

@[simp] theorem State.dutyChange_lifeView (s : State) : (s.dutyChange).lifeView = s.lifeView := by
  unfold State.dutyChange
  split <;> simp

@[simp] theorem State.dutyTimeout_lifeView (s : State) : (s.dutyTimeout).lifeView = s.lifeView := by
  unfold State.dutyTimeout
  split <;> simp

@[simp] theorem State.dutyCmd_lifeView (s : State) (c : LiveCmd) : (s.dutyCmd c).lifeView = s.lifeView := by
  unfold State.dutyCmd
  split <;> simp

@[simp] theorem State.dutyDefault_lifeView (s : State) : (s.dutyDefault).lifeView = s.lifeView := by
  unfold State.dutyDefault
  split <;> simp

@[simp] theorem State.dutySettle_lifeView (s : State) (named : Option Nat) : (s.dutySettle named).lifeView = s.lifeView := by
  unfold State.dutySettle
  split <;> simp

@[simp] theorem State.modDead_lifeView (s : State) (f : DeadSt → DeadSt) : (s.modDead f).lifeView = s.lifeView := by rfl

@[simp] theorem State.forceChain_lifeView (s : State) : (s.forceChain).lifeView = s.lifeView := by
  unfold State.forceChain
  simp

@[simp] theorem State.deadPrewarn_lifeView (s : State) : (s.deadPrewarn).lifeView = s.lifeView := by
  unfold State.deadPrewarn
  simp

@[simp] theorem State.deadAlarm_lifeView (s : State) : (s.deadAlarm).lifeView = s.lifeView := by
  unfold State.deadAlarm
  simp

@[simp] theorem State.chainsFree_lifeView (s : State) : (s.chainsFree).lifeView = s.lifeView := by rfl

@[simp] theorem State.deadReset_lifeView (s : State) (origin : Nat) : (s.deadReset origin).lifeView = s.lifeView := by
  unfold State.deadReset
  split <;> simp

@[simp] theorem State.deadCmd_lifeView (s : State) (c : LiveCmd) : (s.deadCmd c).lifeView = s.lifeView := by
  unfold State.deadCmd
  split <;> simp

@[simp] theorem State.deadFault_lifeView (s : State) : (s.deadFault).lifeView = s.lifeView := by
  unfold State.deadFault
  simp

@[simp] theorem State.deadJudge_lifeView (s : State) : (s.deadJudge).lifeView = s.lifeView := by
  unfold State.deadJudge
  split <;> simp

@[simp] theorem State.deadStep_lifeView (s : State) : (s.deadStep).lifeView = s.lifeView := by
  unfold State.deadStep
  simp

@[simp] theorem State.rosterStep_lifeView (s : State) : (s.rosterStep).lifeView = s.lifeView := by
  unfold State.rosterStep
  simp

@[simp] theorem State.callStatus_lifeView (s : State) (f : Flight) : (s.callStatus f).lifeView = s.lifeView := by
  unfold State.callStatus
  simp

@[simp] theorem State.dutyReq_lifeView (s : State) (f : Flight) : (s.dutyReq f).lifeView = s.lifeView := by
  unfold State.dutyReq
  simp

/-! ## Insulation -/

@[simp] theorem State.modInsul_lifeView (s : State) (b : Nat) (f : InsulSt → InsulSt) : (s.modInsul b f).lifeView = s.lifeView := by rfl

@[simp] theorem State.generatorEdge_lifeView (s : State) (b : Nat) : (s.generatorEdge b).lifeView = s.lifeView := by
  unfold State.generatorEdge
  simp

@[simp] theorem State.logEarth_lifeView (s : State) (b : Nat) (old new : InsulSt) : (s.logEarth b old new).lifeView = s.lifeView := by
  unfold State.logEarth
  simp

@[simp] theorem State.hullCheck_lifeView (s : State) : (s.hullCheck).lifeView = s.lifeView := by
  unfold State.hullCheck
  simp

@[simp] theorem State.insulEnd_lifeView (s : State) (b : Nat) (m : InsulIn) : (s.insulEnd b m).lifeView = s.lifeView := by
  unfold State.insulEnd
  simp

/-! ## Entries of an image -/

@[simp] theorem State.edited_lifeView (s : State) (f : Flight) (r : EditResult) : (s.edited f r).lifeView = s.lifeView := by
  unfold State.edited
  split <;> simp

@[simp] theorem State.setRow_lifeView (s : State) (f : Flight) (id n o : Nat) : (s.setRow f id n o).lifeView = s.lifeView := by
  unfold State.setRow
  simp

@[simp] theorem State.getRow_lifeView (s : State) (f : Flight) (id n : Nat) : (s.getRow f id n).lifeView = s.lifeView := by
  unfold State.getRow
  simp

/-! ## The capture of an input -/

@[simp] theorem State.wireRestore_lifeView (s : State) (n : Nat) : (s.wireRestore n).lifeView = s.lifeView := by
  unfold State.wireRestore
  simp

@[simp] theorem State.overloadEnd_lifeView (s : State) (n : Nat) : (s.overloadEnd n).lifeView = s.lifeView := by
  unfold State.overloadEnd
  split <;> simp

@[simp] theorem State.vibStep_lifeView (s : State) (n : Nat) (x : ChIn) (re : Bool) : (s.vibStep n x re).lifeView = s.lifeView := by rfl

@[simp] theorem State.breakCapture_lifeView (s : State) (n : Nat) (l : List WbWin) : (s.breakCapture n l).1.lifeView = s.lifeView := by
  unfold State.breakCapture
  split <;> simp

@[simp] theorem State.contactCapture_lifeView (s : State) (n : Nat) (y : F32) (q : Quality) :
    (s.contactCapture n y q).lifeView = s.lifeView := by
  unfold State.contactCapture
  simp

@[simp] theorem State.cjCapture_lifeView (s : State) (n : Nat) : (s.cjCapture n).lifeView = s.lifeView := by rfl

@[simp] theorem State.captureIn_lifeView (s : State) (seq n : Nat) (x : ChIn) : (s.captureIn seq n x).lifeView = s.lifeView := by
  unfold State.captureIn
  split
  · split <;> simp
  · split
    · dsimp only
      split <;> simp
    · dsimp only
      refine State.lifeView_if ?_ (State.lifeView_if ?_ ?_)
      · rw [State.modChan_lifeView, State.modChan_lifeView]
        exact State.lifeView_if_fst (by simp) (by simp)
      · rw [State.calSample_lifeView, State.publishChan_lifeView, State.modChan_lifeView, State.modChan_lifeView]
        exact State.lifeView_if_fst (by simp) (by simp)
      · rw [State.calSample_lifeView, State.publishChan_lifeView, State.modChan_lifeView, State.contactCapture_lifeView,
          State.cjCapture_lifeView, State.noteCal_lifeView]
        refine State.lifeView_if ?_ ?_
        · rw [State.vibStep_lifeView, State.modChan_lifeView, State.modChan_lifeView]
          exact State.lifeView_if_fst (by simp) (by simp)
        · rw [State.modChan_lifeView, State.modChan_lifeView]
          exact State.lifeView_if_fst (by simp) (by simp)

@[simp] theorem State.takeFlags_lifeView (s : State) (seq : Nat) : (s.takeFlags seq).lifeView = s.lifeView := by
  unfold State.takeFlags
  simp

/-! ## Mains -/

@[simp] theorem State.modNotch_lifeView (s : State) (f : NotchSt → NotchSt) : (s.modNotch f).lifeView = s.lifeView := by rfl

@[simp] theorem State.notchTo_lifeView (s : State) (src : MainsSrc) (ft : Nat) : (s.notchTo src ft).lifeView = s.lifeView := by rfl

@[simp] theorem State.notchStep_lifeView (s : State) (ft : Nat) : (s.notchStep ft).lifeView = s.lifeView := by
  unfold State.notchStep
  simp

@[simp] theorem State.mainsCycle_lifeView (s : State) (fc : Nat) : (s.mainsCycle fc).lifeView = s.lifeView := by
  unfold State.mainsCycle
  dsimp only
  repeat' split
  all_goals simp

@[simp] theorem State.mainsCross_lifeView (s : State) (m : MainsIn) : (s.mainsCross m).lifeView = s.lifeView := by
  unfold State.mainsCross
  repeat' split
  all_goals simp

@[simp] theorem State.mainsBus_lifeView (s : State) (fm : Nat) : (s.mainsBus fm).lifeView = s.lifeView := by
  unfold State.mainsBus
  dsimp only
  repeat' split
  all_goals simp

@[simp] theorem State.mainsSource_lifeView (s : State) : (s.mainsSource).lifeView = s.lifeView := by
  unfold State.mainsSource
  split <;> simp

@[simp] theorem State.exchange_lifeView (s : State) (n : Nat) (m : ExchIn) : (s.exchange n m).lifeView = s.lifeView := by
  unfold State.exchange
  simp

/-! ## Bus controllers -/

@[simp] theorem State.modCtl_lifeView (s : State) (b : Nat) (f : BusCtl → BusCtl) : (s.modCtl b f).lifeView = s.lifeView := by rfl

@[simp] theorem State.modBus_lifeView (s : State) (f : BusSt → BusSt) : (s.modBus f).lifeView = s.lifeView := by rfl

@[simp] theorem State.logBus_lifeView (s : State) (b code sev p1 p2 : Nat) : (s.logBus b code sev p1 p2).lifeView = s.lifeView := by rfl

@[simp] theorem State.raiseDuplicate_lifeView (s : State) (uid : Nat) : (s.raiseDuplicate uid).lifeView = s.lifeView := by
  unfold State.raiseDuplicate
  simp

@[simp] theorem State.sendClaim_lifeView (s : State) (b : Nat) (defend : Bool) : (s.sendClaim b defend).lifeView = s.lifeView := by
  unfold State.sendClaim
  simp

@[simp] theorem State.claimStart_lifeView (s : State) : (s.claimStart).lifeView = s.lifeView := by rfl

@[simp] theorem State.claimDone_lifeView (s : State) : (s.claimDone).lifeView = s.lifeView := by
  unfold State.claimDone
  split <;> simp

@[simp] theorem State.sendDone_lifeView (s : State) (fl : Nat) (st : Status) (d : Nat) (p : List Byte) :
    (s.sendDone fl st d p).lifeView = s.lifeView := by
  unfold State.sendDone
  simp

@[simp] theorem State.followUp_lifeView (s : State) (b seq m : Nat) : (s.followUp b seq m).lifeView = s.lifeView := by
  unfold State.followUp
  simp

@[simp] theorem State.measureDelay_lifeView (s : State) (b : Nat) (f : TxFrame) : (s.measureDelay b f).lifeView = s.lifeView :=
  State.lifeView_if rfl rfl

@[simp] theorem State.txSuccess_lifeView (s : State) (b mark base : Nat) : (s.txSuccess b mark base).lifeView = s.lifeView := by
  unfold State.txSuccess
  repeat' split
  all_goals simp

@[simp] theorem State.culvertLost_lifeView (s : State) (fl : Nat) : (s.culvertLost fl).lifeView = s.lifeView := by
  unfold State.culvertLost
  simp

@[simp] theorem State.errorPassive_lifeView (s : State) (b tec rec_ ea ed : Nat) :
    (s.errorPassive b tec rec_ ea ed).lifeView = s.lifeView := by
  unfold State.errorPassive
  simp

@[simp] theorem State.busOff_lifeView (s : State) (b tec ea ed : Nat) : (s.busOff b tec ea ed).lifeView = s.lifeView := by
  unfold State.busOff
  simp

@[simp] theorem State.busError_lifeView (s : State) (e : BusErr) : (s.busError e).lifeView = s.lifeView := by
  unfold State.busError
  simp

@[simp] theorem State.clashError_lifeView (s : State) (b : Nat) (f : TxFrame) : (s.clashError b f).lifeView = s.lifeView := by
  have drawn : s.draw.2.lifeView = s.lifeView := rfl
  unfold State.clashError
  refine State.lifeView_if ?_ (by simp)
  rw [← drawn]
  simp

@[simp] theorem State.idClash_lifeView (s : State) (b mark : Nat) : (s.idClash b mark).lifeView = s.lifeView := by
  unfold State.idClash
  repeat' split
  all_goals simp

@[simp] theorem State.recover_lifeView (s : State) (b : Nat) : (s.recover b).lifeView = s.lifeView := by rfl

@[simp] theorem State.holdDone_lifeView (s : State) (b : Nat) : (s.holdDone b).lifeView = s.lifeView := by
  unfold State.holdDone
  split <;> simp

@[simp] theorem State.recovered_lifeView (s : State) (b : Nat) : (s.recovered b).lifeView = s.lifeView := by
  unfold State.recovered
  simp

@[simp] theorem State.authFail_lifeView (s : State) (b id : Nat) : (s.authFail b id).lifeView = s.lifeView := by
  unfold State.authFail
  simp

@[simp] theorem State.rxAuth_lifeView (s : State) (b : Nat) (slot : Option Nat) (ext timed : Bool) (id : Nat) (data : List Byte) :
    (s.rxAuth b slot ext timed id data).1.lifeView = s.lifeView := by
  unfold State.rxAuth
  dsimp only
  repeat' split
  all_goals simp

@[simp] theorem State.rxOk_lifeView (s : State) (b : Nat) : (s.rxOk b).lifeView = s.lifeView := by
  unfold State.rxOk
  split
  next drawn =>
    split at drawn <;> obtain ⟨rfl, rfl⟩ := Prod.mk.inj drawn <;> rfl

@[simp] theorem State.overrun_lifeView (s : State) (b : Nat) : (s.overrun b).lifeView = s.lifeView := by
  unfold State.overrun
  simp

@[simp] theorem State.rxPlace_lifeView (s : State) (f : RxFrame) : (s.rxPlace f).lifeView = s.lifeView := by
  unfold State.rxPlace
  simp

@[simp] theorem State.rxProto_lifeView (s : State) (f : RxFrame) (act : RxFrame → State → State)
    (h : ∀ f s, (act f s).lifeView = s.lifeView) : (s.rxProto f act).lifeView = s.lifeView := by
  unfold State.rxProto
  dsimp only
  split
  · rfl
  · split
    · simp
    · split
      · simp
      · generalize checked : State.rxAuth _ _ _ _ _ _ _ = p
        have view : p.1.lifeView = s.lifeView := by
          rw [← checked]
          simp
        obtain ⟨u, a⟩ := p
        cases a with
        | none => exact view
        | some b => exact (h _ _).trans view

@[simp] theorem State.rxMessage_lifeView (s : State) (t : Nat) (f : RxFrame) : (s.rxMessage t f).lifeView = s.lifeView := by
  unfold State.rxMessage
  exact (State.rxProto_lifeView _ _ _ (fun f s => by simp)).trans (by simp)

@[simp] theorem State.rxClaim_lifeView (s : State) (f : RxFrame) : (s.rxClaim f).lifeView = s.lifeView := by
  unfold State.rxClaim
  simp

/-! ## Network time -/

@[simp] theorem State.modNet_lifeView (s : State) (f : NetTime → NetTime) : (s.modNet f).lifeView = s.lifeView := by rfl

@[simp] theorem State.shiftTime_lifeView (s : State) (d : Int) : (s.shiftTime d).lifeView = s.lifeView := by rfl

@[simp] theorem State.stepTime_lifeView (s : State) (d : Int) : (s.stepTime d).lifeView = s.lifeView := by
  unfold State.stepTime
  simp

@[simp] theorem State.timeState_lifeView (s : State) (k : Nat) : (s.timeState k).lifeView = s.lifeView := by
  unfold State.timeState
  simp

@[simp] theorem State.heardMaster_lifeView (s : State) (node rank : Nat) : (s.heardMaster node rank).lifeView = s.lifeView := by
  unfold State.heardMaster
  simp

@[simp] theorem State.rxTimeRef_lifeView (s : State) (f : RxFrame) : (s.rxTimeRef f).lifeView = s.lifeView := by rfl

@[simp] theorem State.applyTheta_lifeView (s : State) (b : Nat) (d : Int) : (s.applyTheta b d).lifeView = s.lifeView := by
  unfold State.applyTheta
  simp

@[simp] theorem State.primaryHeard_lifeView (s : State) (f : RxFrame) : (s.primaryHeard f).lifeView = s.lifeView := by
  unfold State.primaryHeard
  simp

@[simp] theorem State.yieldMaster_lifeView (s : State) : (s.yieldMaster).lifeView = s.lifeView := by
  unfold State.yieldMaster
  simp

@[simp] theorem State.rxTimeFu_lifeView (s : State) (f : RxFrame) : (s.rxTimeFu f).lifeView = s.lifeView := by
  unfold State.rxTimeFu
  repeat' split
  all_goals simp

@[simp] theorem State.sendRef_lifeView (s : State) : (s.sendRef).lifeView = s.lifeView := by
  unfold State.sendRef
  simp

@[simp] theorem State.takeMaster_lifeView (s : State) : (s.takeMaster).lifeView = s.lifeView := by
  unfold State.takeMaster
  simp

@[simp] theorem State.holdover_lifeView (s : State) : (s.holdover).lifeView = s.lifeView := by
  unfold State.holdover
  simp

@[simp] theorem State.holdoverEnd_lifeView (s : State) : (s.holdoverEnd).lifeView = s.lifeView := by
  unfold State.holdoverEnd
  split <;> simp

@[simp] theorem State.timeSource_lifeView (s : State) : (s.timeSource).lifeView = s.lifeView := by
  unfold State.timeSource
  simp

@[simp] theorem State.rxGenFreq_lifeView (s : State) (f : RxFrame) : (s.rxGenFreq f).lifeView = s.lifeView := by
  unfold State.rxGenFreq
  simp

@[simp] theorem State.sendGen_lifeView (s : State) : (s.sendGen).lifeView = s.lifeView := by
  unfold State.sendGen
  simp

/-! ## Presence -/

@[simp] theorem State.modPresence_lifeView (s : State) (b n : Nat) (f : Presence → Presence) :
    (s.modPresence b n f).lifeView = s.lifeView := by rfl

@[simp] theorem State.legClear_lifeView (s : State) (n : Nat) : (s.legClear n).lifeView = s.lifeView := by
  unfold State.legClear
  simp

@[simp] theorem State.legFault_lifeView (s : State) (n leg : Nat) : (s.legFault n leg).lifeView = s.lifeView := by
  unfold State.legFault
  simp

@[simp] theorem State.rxHeartbeat_lifeView (s : State) (f : RxFrame) : (s.rxHeartbeat f).lifeView = s.lifeView := by
  unfold State.rxHeartbeat
  simp

@[simp] theorem State.claimState_lifeView (s : State) (f : RxFrame) : (s.claimState f).lifeView = s.lifeView := by
  unfold State.claimState
  simp

@[simp] theorem State.absent_lifeView (s : State) (b n code reason : Nat) : (s.absent b n code reason).lifeView = s.lifeView := by
  unfold State.absent
  simp

@[simp] theorem State.nodeLost_lifeView (s : State) (b n : Nat) : (s.nodeLost b n).lifeView = s.lifeView := by
  unfold State.nodeLost
  split <;> simp

@[simp] theorem State.sendHeartbeat_lifeView (s : State) : (s.sendHeartbeat).lifeView = s.lifeView := by
  unfold State.sendHeartbeat
  simp

@[simp] theorem State.sendGoingDown_lifeView (s : State) (reason : Nat) : (s.sendGoingDown reason).lifeView = s.lifeView := by
  unfold State.sendGoingDown
  simp

/-! ## Messages -/

@[simp] theorem State.modFoBoth_lifeView (s : State) (f : Nat) (g : FoSt → FoSt) : (s.modFoBoth f g).lifeView = s.lifeView := by rfl

@[simp] theorem State.foMismatch_lifeView (s : State) (f p1 p2 : Nat) : (s.foMismatch f p1 p2).lifeView = s.lifeView := by
  unfold State.foMismatch
  simp

@[simp] theorem State.rxFoCand_lifeView (s : State) (f : RxFrame) : (s.rxFoCand f).lifeView = s.lifeView := by
  unfold State.rxFoCand
  split <;> simp

@[simp] theorem State.rxFoDecide_lifeView (s : State) (f : RxFrame) : (s.rxFoDecide f).lifeView = s.lifeView := by
  unfold State.rxFoDecide
  split <;> simp

@[simp] theorem State.rxFoReset_lifeView (s : State) (f : RxFrame) : (s.rxFoReset f).lifeView = s.lifeView := by
  unfold State.rxFoReset
  split <;> simp

@[simp] theorem State.rxPanel_lifeView (s : State) (f : RxFrame) : (s.rxPanel f).lifeView = s.lifeView := by
  unfold State.rxPanel
  refine State.lifeView_if rfl (State.lifeView_if rfl ?_)
  split
  · exact State.lifeView_if rfl (State.lifeView_if rfl (State.lifeView_if rfl rfl))
  · exact State.lifeView_if rfl (State.lifeView_if rfl rfl)
  · exact State.lifeView_if rfl rfl
  · exact State.lifeView_if rfl rfl
  · rfl

@[simp] theorem State.takeMessage_lifeView (s : State) (f : RxFrame) : (s.takeMessage f).lifeView = s.lifeView := by
  unfold State.takeMessage
  split <;> simp

@[simp] theorem State.drainSlots_lifeView (s : State) : (s.drainSlots).lifeView = s.lifeView := by
  unfold State.drainSlots
  simp

/-! ## Forwarded culverts -/

@[simp] theorem State.forwardDone_lifeView (s : State) (r : Reassembly) : (s.forwardDone r).lifeView = s.lifeView := by
  unfold State.forwardDone
  simp

@[simp] theorem State.segLost_lifeView (s : State) (src tr : Nat) (rsp : Bool) : (s.segLost src tr rsp).lifeView = s.lifeView := by
  unfold State.segLost
  split <;> simp

@[simp] theorem State.forward_lifeView (s : State) (f : Flight) : (s.forward f).lifeView = s.lifeView := by
  unfold State.forward
  simp

/-! ## Objects -/

@[simp] theorem State.modShadow_lifeView (s : State) (j : Nat) (f : Shadow → Shadow) : (s.modShadow j f).lifeView = s.lifeView := by rfl

@[simp] theorem State.objCompute_lifeView (s : State) : (s.objCompute).lifeView = s.lifeView := by rfl

@[simp] theorem State.objTick_lifeView (s : State) (published : Bool) : (s.objTick published).lifeView = s.lifeView := by rfl

@[simp] theorem State.objLoad_lifeView (s : State) (j : Nat) (repeated : Bool) (asks : List Nat) :
    (s.objLoad j repeated asks).lifeView = s.lifeView := by
  unfold State.objLoad
  simp

@[simp] theorem State.objDue_lifeView (s : State) (j : Nat) : (s.objDue j).lifeView = s.lifeView := by
  unfold State.objDue
  split <;> simp

@[simp] theorem State.objFlush_lifeView (s : State) : (s.objFlush).lifeView = s.lifeView := by
  unfold State.objFlush
  simp

@[simp] theorem State.objValues_lifeView (s : State) (j : Nat) : (s.objValues j).lifeView = s.lifeView := by
  unfold State.objValues
  split
  · exact State.lifeView_foldl (fun s f => by simp) _ _
  · rfl

@[simp] theorem State.busCapture_lifeView (s : State) : (s.busCapture).lifeView = s.lifeView := by
  unfold State.busCapture
  simp

@[simp] theorem State.logRefused_lifeView (s : State) (j node : Nat) (new : List Byte) :
    (s.logRefused j node new).lifeView = s.lifeView := by
  unfold State.logRefused
  simp

@[simp] theorem State.accept_lifeView (s : State) (j b node id flow : Nat) (ext : Bool) (data : List Byte) :
    (s.accept j b node id flow ext data).lifeView = s.lifeView := by
  unfold State.accept
  simp

@[simp] theorem State.rxValue_lifeView (s : State) (b prio node index flow : Nat) (data : List Byte) :
    (s.rxValue b prio node index flow data).lifeView = s.lifeView := by
  unfold State.rxValue
  simp

@[simp] theorem State.rxForeign_lifeView (s : State) (b id flow : Nat) (data : List Byte) :
    (s.rxForeign b id flow data).lifeView = s.lifeView := by
  unfold State.rxForeign
  simp

@[simp] theorem State.busApply_lifeView (s : State) (old : Mem) : (s.busApply old).lifeView = s.lifeView := by
  unfold State.busApply
  simp

/-! ## Calibration -/

@[simp] theorem State.modRun_lifeView (s : State) (k : Nat) (f : CalRun → CalRun) : (s.modRun k f).lifeView = s.lifeView := by rfl

@[simp] theorem State.calAnswer_lifeView (s : State) (k : Nat) (st : Status) (d : Nat) (p : List Byte) :
    (s.calAnswer k st d p).lifeView = s.lifeView := by
  unfold State.calAnswer
  simp

@[simp] theorem State.calWrite_lifeView (s : State) (r : CalRun) (a : Nat) (bytes rsp : List Byte) :
    (s.calWrite r a bytes rsp).lifeView = s.lifeView := by
  unfold State.calWrite
  simp

@[simp] theorem State.calJudge_lifeView (s : State) (r : CalRun) : (s.calJudge r).lifeView = s.lifeView := by
  unfold State.calJudge
  dsimp only
  repeat' split
  all_goals simp

@[simp] theorem State.calEnds_lifeView (s : State) : (s.calEnds).lifeView = s.lifeView := by
  unfold State.calEnds
  simp

@[simp] theorem State.calTick_lifeView (s : State) : (s.calTick).lifeView = s.lifeView := by rfl

@[simp] theorem State.calChurned_lifeView (s : State) (o : NvmOp) : (s.calChurned o).lifeView = s.lifeView := by
  unfold State.calChurned
  simp

@[simp] theorem State.calBegin_lifeView (s : State) (f : Flight) : (s.calBegin f).lifeView = s.lifeView := by rfl

@[simp] theorem State.calClear_lifeView (s : State) (f : Flight) : (s.calClear f).lifeView = s.lifeView := by
  unfold State.calClear
  dsimp only
  split <;> simp

@[simp] theorem State.chargeLive_lifeView (s : State) : (s.chargeLive).lifeView = s.lifeView := by
  unfold State.chargeLive
  refine State.lifeView_foldl (fun s c => ?_) _ _
  repeat' split
  all_goals simp

@[simp] theorem State.curveStored_lifeView (s : State) (o : NvmOp) : (s.curveStored o).lifeView = s.lifeView := by
  unfold State.curveStored
  simp

/-! ## Vibration -/

@[simp] theorem State.vibTake_lifeView (s : State) (l : List F32) : (s.vibTake l).lifeView = s.lifeView := by
  unfold State.vibTake
  simp

@[simp] theorem State.vibCapture_lifeView (s : State) (seq : Nat) (ins : Nat → ChIn) : (s.vibCapture seq ins).lifeView = s.lifeView := by
  unfold State.vibCapture
  repeat' split
  all_goals simp

/-! ## The event recorder -/

@[simp] theorem State.logRead_lifeView (f : Flight) (s : State) : (State.logRead f s).lifeView = s.lifeView := by
  unfold State.logRead
  dsimp only
  repeat' split
  all_goals simp

@[simp] theorem State.logPailRead_lifeView (f : Flight) (s : State) : (State.logPailRead f s).lifeView = s.lifeView := by
  unfold State.logPailRead
  simp

@[simp] theorem State.logWrite_lifeView (f : Flight) (s : State) : (State.logWrite f s).lifeView = s.lifeView := by
  unfold State.logWrite
  simp

@[simp] theorem State.clearStart_lifeView (s : State) (f : Flight) (opts : Nat) : (s.clearStart f opts).lifeView = s.lifeView := by
  unfold State.clearStart
  simp

@[simp] theorem State.logClear_lifeView (f : Flight) (s : State) : (State.logClear f s).lifeView = s.lifeView := by
  unfold State.logClear
  simp

@[simp] theorem State.clearRetry_lifeView (s : State) : (s.clearRetry).lifeView = s.lifeView := by
  unfold State.clearRetry
  repeat' split
  all_goals simp

@[simp] theorem State.logClearEnd_lifeView (s : State) (opts erased : Nat) : (s.logClearEnd opts erased).lifeView = s.lifeView := by rfl

@[simp] theorem State.clearSegment_lifeView (s : State) : (s.clearSegment).lifeView = s.lifeView := by
  unfold State.clearSegment
  split <;> simp

@[simp] theorem State.clearAnswer_lifeView (s : State) : (s.clearAnswer).lifeView = s.lifeView := by
  unfold State.clearAnswer
  repeat' split
  all_goals simp

@[simp] theorem State.ageTrigger_lifeView (s : State) : (s.ageTrigger).lifeView = s.lifeView := by
  unfold State.ageTrigger
  simp

@[simp] theorem State.logDrops_lifeView (s : State) : (s.logDrops).lifeView = s.lifeView := by
  unfold State.logDrops
  split <;> simp

/-! ## Security -/

@[simp] theorem State.modSec_lifeView (s : State) (f : SecSt → SecSt) (h : (f s.sec).life = s.sec.life) :
    (s.modSec f).lifeView = s.lifeView := congrArg (·, s.host.cur) h

@[simp] theorem State.modDbg_lifeView (s : State) (f : DebugSt → DebugSt) : (s.modDbg f).lifeView = s.lifeView := by rfl

@[simp] theorem State.endSession_lifeView (s : State) (cause : Nat) : (s.endSession cause).lifeView = s.lifeView := by
  unfold State.endSession
  split <;> simp

@[simp] theorem State.eraseMram_lifeView (s : State) : (s.eraseMram).lifeView = s.lifeView := by rfl

@[simp] theorem State.eraseStep_lifeView (s : State) : (s.eraseStep).lifeView = s.lifeView := by
  unfold State.eraseStep
  split <;> simp

@[simp] theorem State.eraseBegin_lifeView (s : State) : (s.eraseBegin).lifeView = s.lifeView := by
  unfold State.eraseBegin
  split <;> simp

@[simp] theorem State.firmwareDone_lifeView (s : State) (o : NvmOp) : (s.firmwareDone o).lifeView = s.lifeView := by
  unfold State.firmwareDone
  split <;> simp

@[simp] theorem State.dirWrite_lifeView (s : State) (f : Flight) (c : DirChange) : (s.dirWrite f c).lifeView = s.lifeView := by
  unfold State.dirWrite
  simp

@[simp] theorem State.fwJudge_lifeView (s : State) (f : Flight) : (s.fwJudge f).lifeView = s.lifeView := by
  unfold State.fwJudge
  repeat' split
  all_goals simp

@[simp] theorem State.dirDone_lifeView (s : State) (c : DirChange) : (s.dirDone c).lifeView = s.lifeView := by
  cases c with
  | begin_ n => exact (State.nvmRequest_lifeView _ _ _ _).trans rfl
  | trial n => rfl
  | failed n k => rfl
  | prefer n => rfl
  | accept => exact State.lifeView_if rfl rfl

@[simp] theorem State.fwAnswer_lifeView (s : State) (f : Flight) (k : NvmKind) : (s.fwAnswer f k).lifeView = s.lifeView := by
  unfold State.fwAnswer
  split <;> simp

/-! ## The display -/

@[simp] theorem State.modDisp_lifeView (s : State) (f : DispSt → DispSt) : (s.modDisp f).lifeView = s.lifeView := by rfl

@[simp] theorem State.modRegion_lifeView (s : State) (r : Nat) (f : RegionSt → RegionSt) :
    (s.modRegion r f).lifeView = s.lifeView := by rfl

@[simp] theorem State.startRun_lifeView (s : State) (r : Nat) (toggle : Bool) (q : DispReq) :
    (s.startRun r toggle q).lifeView = s.lifeView := by rfl

@[simp] theorem State.startRegion_lifeView (s : State) (r : Nat) : (s.startRegion r).lifeView = s.lifeView := by
  unfold State.startRegion
  dsimp only
  repeat' split
  all_goals simp

@[simp] theorem State.endRegion_lifeView (s : State) (r : Nat) : (s.endRegion r).lifeView = s.lifeView := by
  unfold State.endRegion
  dsimp only
  repeat' split
  all_goals simp

@[simp] theorem State.blinkTo_lifeView (s : State) (g : Nat) (dark : Bool) : (s.blinkTo g dark).lifeView = s.lifeView := by
  unfold State.blinkTo
  simp

@[simp] theorem State.blinkStep_lifeView (s : State) (g : Nat) : (s.blinkStep g).lifeView = s.lifeView := by
  unfold State.blinkStep
  simp

@[simp] theorem State.cellFrom_lifeView (s : State) (dark : Bool) (at_ : Nat) : (s.cellFrom dark at_).lifeView = s.lifeView := by rfl

@[simp] theorem State.driveCell_lifeView (s : State) (dark : Bool) : (s.driveCell dark).lifeView = s.lifeView := by
  unfold State.driveCell
  dsimp only
  repeat' split
  all_goals simp

@[simp] theorem State.dispSettle_lifeView (s : State) : (s.dispSettle).lifeView = s.lifeView := by rfl

@[simp] theorem State.cellTick_lifeView (s : State) : (s.cellTick).lifeView = s.lifeView := by
  unfold State.cellTick
  split <;> simp

@[simp] theorem State.driveLands_lifeView (s : State) : (s.driveLands).lifeView = s.lifeView := by rfl

@[simp] theorem State.dispHoldup_lifeView (s : State) : (s.dispHoldup).lifeView = s.lifeView := by
  unfold State.dispHoldup
  simp

@[simp] theorem State.dispTemp_lifeView (s : State) (chan : Nat → Src) : (s.dispTemp chan).lifeView = s.lifeView := by
  unfold State.dispTemp
  dsimp only
  refine (State.lifeView_foldl (fun s r => ?_) _ _).trans ?_
  · repeat' split
    all_goals simp
  · split <;> simp

@[simp] theorem State.bindRegion_lifeView (s : State) (r : Nat) : (s.bindRegion r).lifeView = s.lifeView := by
  unfold State.bindRegion
  dsimp only
  repeat' split
  all_goals simp

@[simp] theorem State.dispTick_lifeView (s : State) : (s.dispTick).lifeView = s.lifeView := by
  unfold State.dispTick
  simp

@[simp] theorem State.dispRequest_lifeView (s : State) (f : Flight) (cells dark blink keep : Cells) :
    (s.dispRequest f cells dark blink keep).lifeView = s.lifeView := by
  unfold State.dispRequest
  repeat' split
  all_goals simp

/-! ## Power and the headgate -/

@[simp] theorem State.takeHold_lifeView (s : State) (holdMv : Nat) : (s.takeHold holdMv).lifeView = s.lifeView := by rfl

@[simp] theorem State.takePower_lifeView (s0 : State) (x : TickIn) (dt : Nat) : (s0.takePower x dt).lifeView = s0.lifeView := by rfl

@[simp] theorem State.derateStep_lifeView (s : State) : (s.derateStep).lifeView = s.lifeView := by
  unfold State.derateStep
  simp

@[simp] theorem State.reserveStep_lifeView (s : State) : (s.reserveStep).lifeView = s.lifeView := by
  unfold State.reserveStep
  simp

@[simp] theorem State.bankFilters_lifeView (s : State) (dt : Nat) : (s.bankFilters dt).lifeView = s.lifeView := by rfl

@[simp] theorem State.powerCapture_lifeView (s : State) (x : TickIn) (dt : Nat) : (s.powerCapture x dt).lifeView = s.lifeView := by
  unfold State.powerCapture
  simp

@[simp] theorem State.hgGrant_lifeView (s : State) (n : Nat) (want : F32) : (s.hgGrant n want).lifeView = s.lifeView := by rfl

@[simp] theorem State.hgHold_lifeView (s : State) (n : Nat) (want : F32) (raise : Bool) (code mw : Nat) :
    (s.hgHold n want raise code mw).lifeView = s.lifeView := by
  unfold State.hgHold
  simp

@[simp] theorem State.overStep14_lifeView (s : State) (p d : Rat) : (s.overStep14 p d).lifeView = s.lifeView := by
  unfold State.overStep14
  simp

@[simp] theorem State.headgateOpen_lifeView (s0 : State) : (s0.headgateOpen).lifeView = s0.lifeView := by rfl

theorem State.hgRegions_lifeView (l : List Nat) (a : Hg3 × State) : (l.foldl State.hgRegion a).2.lifeView = a.2.lifeView := by
  induction l generalizing a with
  | nil => rfl
  | cons r l ih =>
    obtain ⟨h, s⟩ := a
    rw [List.foldl_cons, ih]
    unfold State.hgRegion
    dsimp only
    repeat' split
    all_goals rfl

@[simp] theorem State.headgateLow_lifeView (s : State) (p d : Rat) (inp : List Nat) (held2 : Bool) :
    (s.headgateLow p d inp held2).lifeView = s.lifeView := by
  unfold State.headgateLow
  simp only [State.lifeView_mk, State.lifeView_fold, State.hgRegions_lifeView]

theorem State.hgClaims_lifeView (l : List Nat) (a : Hg × State) : (l.foldl State.hgClaim a).2.lifeView = a.2.lifeView := by
  induction l generalizing a with
  | nil => rfl
  | cons n l ih =>
    obtain ⟨h, s⟩ := a
    rw [List.foldl_cons, ih]
    unfold State.hgClaim
    split
    · unfold State.hgOut
      exact State.lifeView_if_snd (by simp) (by simp)
    · rfl

@[simp] theorem State.headgate_lifeView (s : State) : s.headgate.lifeView = s.lifeView := by
  unfold State.headgate
  simp only [State.headgateLow_lifeView, State.lifeView_mk, State.lifeView_fold, State.hgClaims_lifeView, State.overStep14_lifeView,
    State.headgateOpen_lifeView]

@[simp] theorem State.headgateUndo_lifeView (s : State) : (s.headgateUndo).lifeView = s.lifeView := by rfl

@[simp] theorem State.outputShed_lifeView (s : State) : (s.outputShed).lifeView = s.lifeView := by
  unfold State.outputShed
  repeat' split
  all_goals simp

@[simp] theorem State.judgeCap_lifeView (s : State) (c esr : Nat) : (s.judgeCap c esr).lifeView = s.lifeView := by
  unfold State.judgeCap
  simp

@[simp] theorem State.holdMeasured_lifeView (s : State) (v0 v1 v2 v3 : Nat) : (s.holdMeasured v0 v1 v2 v3).lifeView = s.lifeView := by
  unfold State.holdMeasured
  simp

@[simp] theorem State.ledgerStep_lifeView (s : State) : (s.ledgerStep).lifeView = s.lifeView := by
  unfold State.ledgerStep
  simp

@[simp] theorem State.peakLimit_lifeView (s : State) (ma : Nat) : (s.peakLimit ma).lifeView = s.lifeView := by rfl

/-! ## The host port -/

@[simp] theorem State.spiErr_lifeView (s : State) : (s.spiErr).lifeView = s.lifeView := by rfl

@[simp] theorem State.clearIrq_lifeView (s : State) (w : Nat) : (s.clearIrq w).lifeView = s.lifeView := by rfl

@[simp] theorem State.clearDone_lifeView (s : State) (k w : Nat) : (s.clearDone k w).lifeView = s.lifeView := by rfl

@[simp] theorem State.holdReq_lifeView (s : State) : (s.holdReq).lifeView = s.lifeView := by
  unfold State.holdReq
  split <;> simp

@[simp] theorem State.holdRel_lifeView (s : State) : (s.holdRel).lifeView = s.lifeView := by rfl

@[simp] theorem State.writeHold_lifeView (s : State) (w : Nat) : (s.writeHold w).lifeView = s.lifeView := by
  unfold State.writeHold
  simp

@[simp] theorem State.kick_lifeView (s : State) (v : Nat) : (s.kick v).lifeView = s.lifeView := by
  unfold State.kick
  simp

@[simp] theorem State.setBkp_lifeView (s : State) (b : BkpSt) : (s.setBkp b).lifeView = s.lifeView := by
  unfold State.setBkp
  simp

@[simp] theorem State.writeCal_lifeView (s : State) (a v : Nat) : (s.writeCal a v).lifeView = s.lifeView := by
  unfold State.writeCal
  simp

@[simp] theorem State.expireHold_lifeView (s : State) : (s.expireHold).lifeView = s.lifeView := by
  unfold State.expireHold
  simp

@[simp] theorem State.wdogExpire_lifeView (s : State) : (s.wdogExpire).lifeView = s.lifeView := by
  unfold State.wdogExpire
  simp

/-! ## A configuration that is applied -/

@[simp] theorem State.applyInput_lifeView (s : State) (old : Mem) (n : Nat) : (s.applyInput old n).lifeView = s.lifeView := by rfl

@[simp] theorem State.applyOutput_lifeView (s : State) (old : Mem) (n : Nat) : (s.applyOutput old n).lifeView = s.lifeView := by
  unfold State.applyOutput
  simp

@[simp] theorem State.applyBank_lifeView (s : State) (b : Nat) : (s.applyBank b).lifeView = s.lifeView := by
  unfold State.applyBank
  simp

@[simp] theorem State.applyEnc_lifeView (s : State) (old : Mem) (k : Nat) : (s.applyEnc old k).lifeView = s.lifeView := by
  unfold State.applyEnc
  simp

@[simp] theorem State.applyEdge_lifeView (s : State) (old : Mem) : (s.applyEdge old).lifeView = s.lifeView := by rfl

@[simp] theorem State.applyVib_lifeView (s : State) (old : Mem) : (s.applyVib old).lifeView = s.lifeView := by
  unfold State.applyVib
  split <;> simp

@[simp] theorem State.applyRegion_lifeView (s : State) (old : Mem) (r : Nat) : (s.applyRegion old r).lifeView = s.lifeView := by
  unfold State.applyRegion
  simp

@[simp] theorem State.applyCal_lifeView (s : State) (old : Mem) : (s.applyCal old).lifeView = s.lifeView := by rfl

@[simp] theorem State.applyProfile_lifeView (s : State) : (s.applyProfile).lifeView = s.lifeView := by
  unfold State.applyProfile
  simp

@[simp] theorem State.wdogApply_lifeView (s : State) : (s.wdogApply).lifeView = s.lifeView := by
  unfold State.wdogApply
  simp

@[simp] theorem State.applyUnits_lifeView (s : State) (old : Mem) : (s.applyUnits old).lifeView = s.lifeView := by
  unfold State.applyUnits
  simp

@[simp] theorem State.sendBlocks_lifeView (s : State) (seq : Nat) : (s.sendBlocks seq).lifeView = s.lifeView := by
  unfold State.sendBlocks
  exact State.lifeView_each (fun s b => by simp) _ _

@[simp] theorem State.commitDone_lifeView (s : State) (c : Commit) (seq : Nat) : (s.commitDone c seq).lifeView = s.lifeView := by
  unfold State.commitDone
  simp

@[simp] theorem State.selectorWrite_lifeView (s : State) (c : Commit) (seq : Nat) : (s.selectorWrite c seq).lifeView = s.lifeView := by
  unfold State.selectorWrite
  split <;> simp

@[simp] theorem State.applyCommit_lifeView (s : State) (c : Commit) : (s.applyCommit c).lifeView = s.lifeView := by
  unfold State.applyCommit
  simp

@[simp] theorem State.outputsAct_lifeView (s : State) (pub : Bool) (fresh : List Nat) :
    (s.outputsAct pub fresh).lifeView = s.lifeView := by
  unfold State.outputsAct
  simp

@[simp] theorem State.configTick_lifeView (s : State) : (s.configTick).lifeView = s.lifeView := by
  unfold State.configTick
  split
  · rw [State.applyCommit_lifeView, State.objFlush_lifeView, State.outputsAct_lifeView]
  · rfl

/-! ## Drafts and commits -/

@[simp] theorem State.openDraft_lifeView (s : State) (f : Flight) (img : Mem) : (s.openDraft f img).lifeView = s.lifeView := by rfl

@[simp] theorem State.cfgOpen_lifeView (s : State) (f : Flight) : (s.cfgOpen f).lifeView = s.lifeView := by
  unfold State.cfgOpen
  dsimp only
  repeat' split
  all_goals simp

@[simp] theorem State.setCommit_lifeView (s : State) (c : Option Commit) : (s.setCommit c).lifeView = s.lifeView := by rfl

@[simp] theorem State.commitChurn_lifeView (s : State) (f : Flight) (m : Mem) : (s.commitChurn f m).lifeView = s.lifeView := by
  unfold State.commitChurn
  simp

@[simp] theorem State.commitEnergy_lifeView (s : State) (f : Flight) (m : Mem) : (s.commitEnergy f m).lifeView = s.lifeView :=
  State.lifeView_if (s.commitChurn_lifeView f m) (State.lifeView_if (s.complete_lifeView _ _ _ _) rfl)

@[simp] theorem State.cfgCommit_lifeView (s : State) (f : Flight) : (s.cfgCommit f).lifeView = s.lifeView := by
  unfold State.cfgCommit
  repeat' split
  all_goals simp

@[simp] theorem State.cfgDiscard_lifeView (s : State) (f : Flight) : (s.cfgDiscard f).lifeView = s.lifeView := by
  unfold State.cfgDiscard
  split <;> simp

/-! ## What NVM operations leave -/

@[simp] theorem State.commitWritten_lifeView (s : State) (o : NvmOp) : (s.commitWritten o).lifeView = s.lifeView := by
  unfold State.commitWritten
  dsimp only
  repeat' split
  all_goals simp

@[simp] theorem State.selectorDone_lifeView (s : State) (epoch : Nat) : (s.selectorDone epoch).lifeView = s.lifeView := by
  unfold State.selectorDone
  dsimp only
  repeat' split
  all_goals simp

@[simp] theorem State.logWritten_lifeView (s : State) : (s.logWritten).lifeView = s.lifeView := by
  unfold State.logWritten
  simp

@[simp] theorem State.nvmAnswer_lifeView (s : State) (f : Flight) (o : NvmOp) : (s.nvmAnswer f o).lifeView = s.lifeView := by
  unfold State.nvmAnswer
  split <;> simp

@[simp] theorem State.nvmServe_lifeView (s : State) (o : NvmOp) : (s.nvmServe o).lifeView = s.lifeView := by
  unfold State.nvmServe
  simp

@[simp] theorem State.commitFailed_lifeView (s : State) : (s.commitFailed).lifeView = s.lifeView := by
  unfold State.commitFailed
  dsimp only
  split <;> simp

@[simp] theorem State.refuseOp_lifeView (s : State) (o : NvmOp) : (s.refuseOp o).lifeView = s.lifeView := by
  unfold State.refuseOp
  repeat' split
  all_goals simp

@[simp] theorem State.energyRefuse_lifeView (s : State) : (s.energyRefuse).lifeView = s.lifeView := by
  unfold State.energyRefuse
  split <;> simp

/-! ## Node states and start-up -/

@[simp] theorem State.suspendFlash_lifeView (s : State) (o : NvmOp) : (s.suspendFlash o).lifeView = s.lifeView := by
  unfold State.suspendFlash
  split <;> simp

@[simp] theorem State.cutFlash_lifeView (s : State) : (s.cutFlash).lifeView = s.lifeView := by
  unfold State.cutFlash
  simp

@[simp] theorem State.modPwr_lifeView (s : State) (f : PowerSt → PowerSt) : (s.modPwr f).lifeView = s.lifeView := by rfl

@[simp] theorem State.setState_lifeView (s : State) (st : NodeState) (cause : Nat) : (s.setState st cause).lifeView = s.lifeView := by
  unfold State.setState
  dsimp only
  split
  · rw [State.lifeView_each (fun s n => by simp)]
    simp
  · simp
  · simp

@[simp] theorem State.stateEntered_lifeView (s : State) : (s.stateEntered).lifeView = s.lifeView := by
  unfold State.stateEntered
  simp

@[simp] theorem State.safeTick_lifeView (s : State) : (s.safeTick).lifeView = s.lifeView := by
  unfold State.safeTick
  dsimp only
  split
  · exact State.lifeView_if (by rw [State.setState_lifeView, State.modPwr_lifeView]) (by simp)
  · rfl

@[simp] theorem State.stateLive_lifeView (s : State) : (s.stateLive).lifeView = s.lifeView := by
  unfold State.stateLive
  refine State.lifeView_foldl (fun s c => ?_) _ _
  dsimp only
  repeat' split
  all_goals simp

@[simp] theorem State.sysArm_lifeView (f : Flight) (s : State) : (State.sysArm f s).lifeView = s.lifeView := by
  unfold State.sysArm
  simp

@[simp] theorem State.sysSafe_lifeView (f : Flight) (s : State) : (State.sysSafe f s).lifeView = s.lifeView := by
  unfold State.sysSafe
  simp

@[simp] theorem State.armTick_lifeView (s : State) : (s.armTick).lifeView = s.lifeView := by
  unfold State.armTick
  simp

@[simp] theorem State.framesStart_lifeView (s : State) (t0 : Nat) : (s.framesStart t0).lifeView = s.lifeView := by rfl

@[simp] theorem State.framesStop_lifeView (s : State) : (s.framesStop).lifeView = s.lifeView := by rfl

@[simp] theorem State.chainsIdle_lifeView (s : State) : (s.chainsIdle).lifeView = s.lifeView := by rfl

@[simp] theorem State.busesOff_lifeView (s : State) : (s.busesOff).lifeView = s.lifeView := by rfl

@[simp] theorem State.standbyBanks_lifeView (s : State) : (s.standbyBanks).lifeView = s.lifeView := by
  unfold State.standbyBanks
  simp

@[simp] theorem State.outsOff_lifeView (s : State) : (s.outsOff).lifeView = s.lifeView := by
  unfold State.outsOff
  exact State.lifeView_each (fun s n => by simp) _ _

@[simp] theorem State.standbyCharge_lifeView (s : State) : (s.standbyCharge).lifeView = s.lifeView := by rfl

@[simp] theorem State.wake_lifeView (s : State) : (s.wake).lifeView = s.lifeView := by
  unfold State.wake
  dsimp only
  refine State.lifeView_if ?_ rfl
  rw [State.claimStart_lifeView, State.framesStart_lifeView, State.modPwr_lifeView, State.setState_lifeView]
  show (if _ then _ else _ : State).lifeView = _
  split <;> simp

theorem SecSt.dirPick_life (x : SecSt) : x.dirPick.life = x.life := by
  unfold SecSt.dirPick
  split
  · split <;> rfl
  · rfl

theorem State.bootTry_lifeView (l : List Nat) (s : State) : (s.bootTry l).1.lifeView = s.lifeView := by
  induction l generalizing s with
  | nil => rfl
  | cons n r ih =>
    unfold State.bootTry
    dsimp only
    split
    · exact (ih _).trans rfl
    · split
      · split
        · rfl
        · exact (ih _).trans rfl
      · exact ih s

@[simp] theorem State.secureBoot_lifeView (s : State) : s.secureBoot.lifeView = s.lifeView := by
  have picked : (s.modSec SecSt.dirPick).lifeView = s.lifeView := s.modSec_lifeView _ (SecSt.dirPick_life _)
  have tried := (State.bootTry_lifeView [(s.modSec SecSt.dirPick).sec.preferred, 1 - (s.modSec SecSt.dirPick).sec.preferred] _).trans picked
  unfold State.secureBoot
  dsimp only
  split <;> exact tried

theorem clearRest_lifeView (n : Nat) (s : State) : (clearRest n s).lifeView = s.lifeView := by
  induction n generalizing s with
  | zero => rfl
  | succ n ih =>
    unfold clearRest
    split
    · dsimp only
      rw [ih]
      split <;> simp
    · rfl

@[simp] theorem State.logScan_lifeView (s : State) (bad : List Nat) : (s.logScan bad).lifeView = s.lifeView := by
  unfold State.logScan
  dsimp only
  rw [clearRest_lifeView]
  repeat' split
  all_goals simp

@[simp] theorem State.restoreConfig_lifeView (s : State) : (s.restoreConfig).lifeView = s.lifeView := by rfl

@[simp] theorem State.unitsStart_lifeView (s : State) : (s.unitsStart).lifeView = s.lifeView := by
  unfold State.unitsStart
  simp

theorem drainStamps_lifeView (n : Nat) (s : State) : (drainStamps n s).lifeView = s.lifeView := by
  induction n generalizing s with
  | zero => rfl
  | succ n ih =>
    unfold drainStamps
    split
    · exact State.lifeView_if (ih _) rfl
    · rfl

@[simp] theorem State.evtDrain_lifeView (s : State) : s.evtDrain.lifeView = s.lifeView := by
  unfold State.evtDrain
  refine (State.lifeView_each (fun u e => ?_) _ _).trans (drainStamps_lifeView _ s)
  dsimp only
  split <;> simp

@[simp] theorem State.bootNoted_lifeView (s : State) : s.bootNoted.lifeView = s.lifeView := by
  unfold State.bootNoted
  rw [State.lifeView_foldl (fun u x => by simp)]
  simp

@[simp] theorem State.bkpNotes_lifeView (s : State) : s.bkpNotes.lifeView = s.lifeView :=
  State.lifeView_foldl (fun u _ => u.logNode_lifeView _ _ _ _) _ _

@[simp] theorem State.configRestored_lifeView (s : State) (bad : List Nat) (holdMv : Nat) :
    (s.configRestored bad holdMv).lifeView = s.lifeView := by
  unfold State.configRestored
  simp

/-! ## What power failure settles -/

@[simp] theorem State.outsSafe_lifeView (s : State) : (s.outsSafe).lifeView = s.lifeView := by
  unfold State.outsSafe
  simp

@[simp] theorem State.enginesIdle_lifeView (s : State) : (s.enginesIdle).lifeView = s.lifeView := by rfl

@[simp] theorem State.wdogWarn_lifeView (s : State) : (s.wdogWarn).lifeView = s.lifeView := by
  unfold State.wdogWarn
  simp

/-! ## Keys and firmware -/

@[simp] theorem State.keyWrite_lifeView (s : State) (f : Flight) (data : List Byte) (arg : Nat) :
    (s.keyWrite f data arg).lifeView = s.lifeView := by
  unfold State.keyWrite
  simp

@[simp] theorem State.busKey_lifeView (s : State) (f : Flight) : (s.busKey f).lifeView = s.lifeView := by
  unfold State.busKey
  repeat' split
  all_goals simp

@[simp] theorem State.fwReq_lifeView (s : State) (f : Flight) (go : State → State) (h : ∀ s, (go s).lifeView = s.lifeView) :
    (s.fwReq f go).lifeView = s.lifeView := by
  unfold State.fwReq
  split
  · simp
  · exact h _

@[simp] theorem State.fwBegin_lifeView (s : State) (f : Flight) : (s.fwBegin f).lifeView = s.lifeView := by
  unfold State.fwBegin
  simp

@[simp] theorem State.fwProgram_lifeView (s : State) (l : List Nat) : (s.fwProgram l).lifeView = s.lifeView := by
  unfold State.fwProgram
  simp

@[simp] theorem State.fwWrite_lifeView (s : State) (f : Flight) : (s.fwWrite f).lifeView = s.lifeView := by
  unfold State.fwWrite
  split <;> simp

@[simp] theorem State.fwFinish_lifeView (s : State) (f : Flight) : (s.fwFinish f).lifeView = s.lifeView := by
  unfold State.fwFinish
  split <;> simp

/-! ## The mailbox -/

@[simp] theorem State.mboxOut_lifeView (s : State) (kind : Nat) (body : List Byte) : (s.mboxOut kind body).lifeView = s.lifeView := by rfl

@[simp] theorem State.hello_lifeView (s : State) : s.hello.lifeView = s.lifeView := State.lifeView_if rfl rfl

@[simp] theorem State.authRefuse_lifeView (s : State) (st serial : Nat) : (s.authRefuse st serial).lifeView = s.lifeView := by rfl

@[simp] theorem State.authGrant_lifeView (s : State) (level : Nat) (c : List Byte) : (s.authGrant level c).lifeView = s.lifeView := by
  unfold State.authGrant
  simp

@[simp] theorem State.setAccess_lifeView (s : State) (v : Nat) : (s.setAccess v).lifeView = s.lifeView := by rfl

@[simp] theorem State.coreRead_lifeView (s : State) (sp a : Nat) : (s.coreRead sp a).lifeView = s.lifeView := by
  unfold State.coreRead
  split <;> rfl

@[simp] theorem State.accessRead_lifeView (s : State) (x : Session) (addr : Nat) : (s.accessRead x addr).lifeView = s.lifeView := by
  unfold State.accessRead
  simp

/-! ## The calendar -/

@[simp] theorem State.dateInvalid_lifeView (s : State) (f : Flight) (k : Nat) : (s.dateInvalid f k).lifeView = s.lifeView := by
  unfold State.dateInvalid
  simp

@[simp] theorem State.timeSet_lifeView (s : State) (f : Flight) : (s.timeSet f).lifeView = s.lifeView := by
  unfold State.timeSet
  dsimp only
  split <;> simp

@[simp] theorem State.timeDst_lifeView (s : State) (f : Flight) : (s.timeDst f).lifeView = s.lifeView := by
  unfold State.timeDst
  dsimp only
  split <;> simp

@[simp] theorem State.logBkp_lifeView (s : State) (code sev p1 p2 : Nat) : (s.logBkp code sev p1 p2).lifeView = s.lifeView := by
  unfold State.logBkp
  simp

@[simp] theorem State.rtcSet_lifeView (s : State) : (s.rtcSet).lifeView = s.lifeView := by
  unfold State.rtcSet
  split <;> simp

@[simp] theorem State.rtcDst_lifeView (s : State) : (s.rtcDst).lifeView = s.lifeView := by
  unfold State.rtcDst
  split <;> simp

@[simp] theorem State.masterAlign_lifeView (s : State) (d : Int) : (s.masterAlign d).lifeView = s.lifeView := by
  unfold State.masterAlign
  simp

@[simp] theorem State.rtcAlign_lifeView (s : State) : (s.rtcAlign).lifeView = s.lifeView := by
  unfold State.rtcAlign
  simp

@[simp] theorem State.trimMeasured_lifeView (s : State) (err : Int) : (s.trimMeasured err).lifeView = s.lifeView := by
  unfold State.trimMeasured
  split <;> simp

@[simp] theorem State.takeUtc_lifeView (s : State) : (s.takeUtc).lifeView = s.lifeView := by
  unfold State.takeUtc
  simp

@[simp] theorem State.wakeExpire_lifeView (s : State) : s.wakeExpire.lifeView = s.lifeView := by
  unfold State.wakeExpire
  split
  · exact State.lifeView_if (State.wake_lifeView _) rfl
  · rfl

@[simp] theorem State.evtEdge_lifeView (s : State) (e : Nat) (level : Bool) (first : Nat) :
    (s.evtEdge e level first).lifeView = s.lifeView := by
  unfold State.evtEdge
  simp

/-! ## Publication -/

@[simp] theorem State.storePage_lifeView (s : State) : (s.storePage).lifeView = s.lifeView := by rfl

@[simp] theorem State.sealPage_lifeView (s : State) (e : Nat) : (s.sealPage e).lifeView = s.lifeView := by rfl

@[simp] theorem State.pagesTick_lifeView (s : State) (pub : Bool) (r : TickRead) : (s.pagesTick pub r).lifeView = s.lifeView := by
  unfold State.pagesTick
  simp

@[simp] theorem State.releaseRecs_lifeView (s : State) : s.releaseRecs.lifeView = s.lifeView :=
  State.lifeView_foldl State.enterRec_lifeView _ _

theorem answerShown_lifeView (l : List LiveCmd) (s : State) : (answerShown l s).lifeView = s.lifeView := by
  induction l generalizing s with
  | nil => rfl
  | cons c r ih =>
    unfold answerShown
    rw [ih]
    repeat' split
    all_goals simp

@[simp] theorem State.release_lifeView (s : State) : s.release.lifeView = s.lifeView := by
  have sent : (s.frameMsgs.foldl (fun (s : State) m => s.sendProto m.bus m.prio m.cls m.index m.body .other)
      { s with frameMsgs := [] }).lifeView = s.lifeView :=
    State.lifeView_foldl (fun (u : State) m => u.sendProto_lifeView _ _ _ _ _ _) _ _
  unfold State.release
  dsimp only
  rw [answerShown_lifeView]
  exact (State.endWaits_lifeView _ _).trans sent

@[simp] theorem State.publish_lifeView (s : State) (r : TickRead) : (s.publish r).lifeView = s.lifeView := by
  unfold State.publish
  simp

@[simp] theorem State.tickEnd_lifeView (s : State) (r : TickRead) : (s.tickEnd r).lifeView = s.lifeView := by
  unfold State.tickEnd
  simp

/-! ## The tick -/

@[simp] theorem State.slipFrame_lifeView (s : State) : (s.slipFrame).lifeView = s.lifeView := by
  unfold State.slipFrame
  simp

@[simp] theorem State.nextTick_lifeView (s : State) : (s.nextTick).lifeView = s.lifeView := by rfl

@[simp] theorem State.frameOpen_lifeView (s : State) : (s.frameOpen).lifeView = s.lifeView := by rfl

@[simp] theorem State.banksTick_lifeView (s : State) : (s.banksTick).lifeView = s.lifeView := by
  unfold State.banksTick
  simp

@[simp] theorem State.takeLines_lifeView (s : State) (x : TickIn) : (s.takeLines x).lifeView = s.lifeView := by
  unfold State.takeLines
  simp

@[simp] theorem State.captureChan_lifeView (x : TickIn) (seq : Nat) (s : State) (n : Nat) :
    (State.captureChan x seq s n).lifeView = s.lifeView := by
  unfold State.captureChan
  simp

@[simp] theorem State.capture_lifeView (s : State) (x : TickIn) (seq dt : Nat) : (s.capture x seq dt).lifeView = s.lifeView := by
  unfold State.capture
  simp

@[simp] theorem State.aoLive_lifeView (s : State) : (s.aoLive).lifeView = s.lifeView := by
  unfold State.aoLive
  refine State.lifeView_foldl (fun s c => ?_) _ _
  repeat' split
  all_goals simp

@[simp] theorem State.aoAnswer_lifeView (s : State) : (s.aoAnswer).lifeView = s.lifeView := by
  unfold State.aoAnswer
  refine State.lifeView_foldl (fun s c => ?_) _ _
  repeat' split
  all_goals simp

@[simp] theorem State.engines_lifeView (s : State) : (s.engines).lifeView = s.lifeView := by
  unfold State.engines
  simp

@[simp] theorem State.commands_lifeView (s : State) : s.commands.lifeView = s.lifeView := by
  have taken (u : State) (n : Nat) :
      (if isOut (u.func n) && decide ((u.out n).drive ≠ .off) then u.outTake n else u).lifeView = u.lifeView := by simp
  unfold State.commands
  dsimp only
  rw [State.objCompute_lifeView, State.aoAnswer_lifeView, State.headgate_lifeView, State.lifeView_each State.aoCommand_lifeView,
    State.aoLive_lifeView, State.lifeView_each taken, State.outLive_lifeView]
  rfl

@[simp] theorem State.frameDone_lifeView (s : State) : (s.frameDone).lifeView = s.lifeView := by
  unfold State.frameDone
  simp

@[simp] theorem State.commitTick_lifeView (s : State) (pub : Bool) : (s.commitTick pub).lifeView = s.lifeView := by
  unfold State.commitTick
  simp

@[simp] theorem State.stateTick_lifeView (s : State) : (s.stateTick).lifeView = s.lifeView := by
  unfold State.stateTick
  simp

end Sys2Proof.Machine
end

section
/-!
PROOFS. The lifecycle never goes back (R66, R424, Table 16.2).
-/

namespace Sys2Proof.Machine

open Sys2Proof Sys2Proof.Laws

/-! ## Steps that keep the lifecycle, or provision the node -/

/-- From `s` to `u` the lifecycle stays, or provisioning completes; a `SEC_FIELD` that executes stays admitted. -/
def Onward (s u : State) : Prop :=
  (u.sec.life = s.sec.life ∨ s.sec.life = .blank ∧ u.sec.life = .provisioned) ∧ (LifeOk s → LifeOk u)

section

variable {s u v : State}

theorem Onward.of_view (h : u.lifeView = s.lifeView) : Onward s u := by
  obtain ⟨life, cur⟩ := Prod.mk.inj h
  refine ⟨.inl life, fun ok f runs op => ?_⟩
  rw [life]
  exact ok f (cur ▸ runs) op

theorem Onward.refl (s : State) : Onward s s := .of_view rfl

theorem Onward.trans (h : Onward s u) (k : Onward u v) : Onward s v := by
  obtain ⟨life, ok⟩ := h
  obtain ⟨life', ok'⟩ := k
  refine ⟨?_, ok' ∘ ok⟩
  obtain kept | ⟨blank, made⟩ := life
  · rwa [kept] at life'
  · obtain kept | ⟨blank', -⟩ := life'
    · exact .inr ⟨blank, kept.trans made⟩
    · exact absurd (made.symm.trans blank') nofun

/-- Nothing executes afterwards. -/
theorem Onward.of_free (life : u.sec.life = s.sec.life) (free : u.host.cur = none) : Onward s u :=
  ⟨.inl life, fun _ _ runs => absurd (free.symm.trans runs) nofun⟩

theorem Onward.ite {c : Prop} [Decidable c] {x y : State} (hx : Onward s x) (hy : Onward s y) : Onward s (if c then x else y) := by
  split <;> assumption

/-- What ends in a state with the same view goes on as before. -/
theorem Onward.then_view (h : Onward s u) (k : v.lifeView = u.lifeView) : Onward s v := h.trans (.of_view k)

theorem Onward.after_view (k : u.lifeView = s.lifeView) (h : Onward u v) : Onward s v := (Onward.of_view k).trans h

end

/-! ## Requests are taken (R65, R66) -/

/-- `SEC_FIELD` passes the checks in PROVISIONED only. -/
theorem State.check_secField {s : State} {f : Flight} (passes : s.check f = none) (op : f.opcode = 0x0C06) :
    s.sec.life = .provisioned := by
  obtain ⟨d, desc, lives⟩ : ∃ d, opDesc 0x0C06 = some d ∧ d.lives = [.provisioned] := ⟨_, rfl, rfl⟩
  have admitted : s.forbidden d f = none := by
    unfold State.check at passes
    rw [op, desc] at passes
    simp only [badField, ite_some_eq_none_iff] at passes
    obtain ⟨-, -, -, -, late⟩ := passes
    split at late
    · cases late
    · split at late
      · cases late
      · next admitted => exact admitted
  simp only [State.forbidden, op, lives, ite_some_eq_none_iff] at admitted
  obtain ⟨-, -, stays, -⟩ := admitted
  simpa using stays

theorem takeFrom_onward (l : List Flight) (s : State) : (takeFrom l s).sec.life = s.sec.life ∧ LifeOk (takeFrom l s) := by
  induction l generalizing s with
  | nil => exact ⟨rfl, fun f runs => absurd runs nofun⟩
  | cons f r ih =>
    have touched : (s.touchDraft f).sec.life = s.sec.life := congrArg Prod.fst (s.touchDraft_lifeView f)
    unfold takeFrom
    dsimp only
    split
    · next passes =>
      refine ⟨touched, fun g runs op => ?_⟩
      obtain rfl := Option.some.inj runs
      exact State.check_secField passes op
    · next x _ =>
      obtain ⟨life, ok⟩ := ih ((s.touchDraft f).refuse f x)
      exact ⟨life.trans ((congrArg Prod.fst ((s.touchDraft f).refuse_lifeView f x)).trans touched), ok⟩

theorem State.takeNext_onward (s : State) : Onward s s.takeNext := by
  unfold State.takeNext
  split
  · exact .refl s
  · obtain ⟨life, ok⟩ := takeFrom_onward s.host.queue s
    exact ⟨.inl life, fun _ => ok⟩

theorem State.submit_onward (s : State) (f : Flight) : Onward s (s.submit f) :=
  .after_view rfl (State.takeNext_onward _)

theorem State.withCur_onward {s : State} {t tag op : Nat} {g : Flight → State → State} (h : ∀ f u, Onward u (g f u)) :
    Onward s (s.withCur t tag op g) := by
  unfold State.withCur
  dsimp only
  split
  · exact .of_view rfl
  · split
    · refine Onward.trans ?_ ((h _ _).trans (State.takeNext_onward _))
      exact .of_free rfl rfl
    · exact .of_view rfl

/-! ## Requests of the host port and of the buses -/

theorem State.doorbell_onward (s : State) (tag : Nat) : Onward s (s.doorbell tag) := by
  unfold State.doorbell
  exact .ite (.of_view (by simp)) (.after_view rfl (State.submit_onward _ _))

theorem State.writeReg_onward (s : State) (a w : Nat) : Onward s (s.writeReg a w) := by
  unfold State.writeReg
  refine .ite (.of_view (by simp)) (.ite (.of_view rfl) (.ite (s.doorbell_onward _) ?_))
  exact .of_view (by simp)

/-- The bytes of a write reach registers, slots and the calendar. -/
theorem writeBytes_onward (l : List Byte) (a : Nat) (acc : Option (List Byte)) (s : State) : Onward s (writeBytes l a acc s) := by
  induction l generalizing a acc s with
  | nil => exact .refl s
  | cons b r ih =>
    have word : ∀ w : Option (List Byte), Onward s (match w with | some w => s.writeReg (a - 3) (u32At w 0) | none => s) := by
      intro w
      cases w with
      | none => exact .refl s
      | some w => exact s.writeReg_onward _ _
    unfold writeBytes
    dsimp only
    split
    · split
      · exact (word _).trans (ih _ _ _)
      · exact ih _ _ _
    · split
      · exact .after_view (s.writeCal_lifeView _ _) (ih _ _ _)
      · split
        · exact .after_view rfl (ih _ _ _)
        · exact .after_view s.spiErr_lifeView (ih _ _ _)

theorem State.placeRemote_onward (s : State) (r : Reassembly) : Onward s (s.placeRemote r) := by
  unfold State.placeRemote
  dsimp only
  split
  · exact .refl s
  · split
    · exact .of_view (by simp)
    · exact .after_view rfl (State.submit_onward _ _)

theorem State.rxSegment_onward (s : State) (f : RxFrame) (rsp : Bool) : Onward s (s.rxSegment f rsp) := by
  unfold State.rxSegment
  dsimp only
  refine .ite (.of_view (by simp)) (.ite (.refl s) (.ite (.refl s) (.ite ?_ (.of_view rfl))))
  exact .ite (.of_view (by simp)) (.after_view rfl (State.placeRemote_onward _ _))

theorem State.rxProto_onward (s : State) (f : RxFrame) {act : RxFrame → State → State} (h : ∀ f u, Onward u (act f u)) :
    Onward s (s.rxProto f act) := by
  unfold State.rxProto
  dsimp only
  split
  · exact .refl s
  · split
    · exact .of_view (by simp)
    · split
      · exact .of_view (by simp)
      · generalize checked : State.rxAuth _ _ _ _ _ _ _ = p
        have view : p.1.lifeView = s.lifeView := by
          rw [← checked]
          simp
        obtain ⟨u, a⟩ := p
        cases a with
        | none => exact .of_view view
        | some b => exact .after_view view (h _ _)

/-! ## What an NVM operation leaves (R424 to R433) -/

theorem State.provisioned_onward {s : State} (life : s.sec.life = .blank) (cert : List Byte) : Onward s (s.provisioned cert) := by
  have made : (s.provisioned cert).sec.life = .provisioned := congrArg Prod.fst (State.endSession_lifeView _ 8)
  exact ⟨.inr ⟨life, made⟩, fun _ _ _ _ => made⟩

theorem State.keyDone_onward (s : State) (o : NvmOp) : Onward s (s.keyDone o) := by
  unfold State.keyDone
  dsimp only
  refine .ite (.of_view (by simp)) (.ite ?_ (.ite (.refl s) (.of_view (by simp))))
  split
  · next blank => exact State.provisioned_onward blank _
  · exact .refl s

theorem State.nvmEffect_onward (s : State) (o : NvmOp) : Onward s (s.nvmEffect o) := by
  unfold State.nvmEffect
  split
  case h_14 => exact s.keyDone_onward o
  all_goals exact .of_view (by simp)

theorem State.nvmComplete_onward (s : State) : Onward s s.nvmComplete := by
  unfold State.nvmComplete
  split
  · next o _ =>
    refine .ite (.of_view (by simp)) ?_
    have ended : Onward s (s.opEnded o) := .after_view rfl (State.nvmEffect_onward _ o)
    exact ended.then_view ((State.nvmStart_lifeView _).trans (State.nvmServe_lifeView _ o))
  · exact .refl s

/-! ## Resets (R440, R457) -/

theorem State.restart_onward (s : State) (cause : Nat) (flushed session : Bool) : Onward s (s.restart cause flushed session) :=
  .of_free rfl rfl

theorem State.flush_onward (s : State) : Onward s s.flush := by
  have ended : Onward s.cutFlash (match s.cutFlash.nvm.running with
      | some o => if o.kind.rank = 6 then s.cutFlash.suspendFlash o else s.cutFlash.nvmEffect o
      | none => s.cutFlash) := by
    split
    · exact .ite (.of_view (by simp)) (State.nvmEffect_onward _ _)
    · exact .refl _
  exact Onward.after_view s.cutFlash_lifeView (ended.then_view rfl)

theorem State.flushReset_onward (s : State) (code flags : Nat) : Onward s (s.flushReset code flags) :=
  .after_view (s.endSession_lifeView 5) ((State.flush_onward _).trans (State.restart_onward _ _ _ _))

theorem State.debugReset_onward (s : State) : Onward s s.debugReset := by
  unfold State.debugReset
  exact .ite (s.flush_onward.trans (State.restart_onward _ _ _ _)) (s.flushReset_onward 7 0)

theorem State.closeSession_onward (s : State) (cause : Nat) : Onward s (s.closeSession cause) :=
  .ite (.after_view (s.endSession_lifeView cause) (State.debugReset_onward _)) (.of_view (s.endSession_lifeView cause))

theorem State.coldReset_onward (s : State) (code : Nat) : Onward s (s.coldReset code) := by
  refine Onward.after_view ?_ (State.restart_onward _ code false false)
  exact (State.lifeView_foldl State.suspendFlash_lifeView _ _).trans s.cutFlash_lifeView

theorem State.resetDue_onward (s : State) : Onward s s.resetDue := .ite (s.flushReset_onward 6 0) (.refl s)

theorem State.commandedReset_onward (s : State) : Onward s s.commandedReset := by
  have asked : s.resetAsked.lifeView = s.lifeView := by
    unfold State.resetAsked
    simp
  rw [State.commandedReset_eq]
  exact .after_view asked s.resetAsked.resetDue_onward

theorem State.clockLost_onward (s : State) : Onward s s.clockLost := by
  unfold State.clockLost
  split
  · exact .ite (s.flushReset_onward 4 causeClockLoss) (.of_view rfl)
  · exact s.flushReset_onward 4 causeClockLoss

theorem State.returnDone_onward (s : State) : Onward s s.returnDone := by
  unfold State.returnDone
  split
  · exact .after_view (u := s.modSec (fun x => { x with erasure := none })) rfl (State.commandedReset_onward _)
  · exact .refl s

theorem State.nvmEnd_onward (s : State) : Onward s s.nvmEnd := by
  unfold State.nvmEnd
  dsimp only
  refine s.nvmComplete_onward.trans ?_
  refine .ite (.ite (State.flushReset_onward _ _ _) (.refl _)) (.ite (State.commandedReset_onward _) ?_)
  exact .ite (State.flushReset_onward _ _ _) (State.returnDone_onward _)

theorem State.nvmIf_onward {s : State} {p : NvmKind → Bool} {go : State → State} (h : ∀ u, Onward u (go u)) : Onward s (s.nvmIf p go) := by
  unfold State.nvmIf
  split
  · exact .ite (h s) (.refl s)
  · exact .refl s

theorem State.whenRunning_onward {s : State} {go : State → State} (h : ∀ u, Onward u (go u)) : Onward s (s.whenRunning go) :=
  .ite (h s) (.refl s)

/-! ## Node states (R389, R391, R392) -/

theorem State.enterStandby_onward (s : State) : Onward s s.enterStandby := by
  have entered : s.standbyDark.standbyLines.standbyDown.standbyEdge.lifeView = s.lifeView := by
    unfold State.standbyEdge State.standbyDown State.standbyLines State.standbyDark
    simp
  rw [State.enterStandby_eq]
  exact .after_view entered (.ite (State.debugReset_onward _) (.refl _))

theorem State.dispIdle_onward (s : State) : Onward s s.dispIdle := by
  unfold State.dispIdle
  refine Onward.after_view ?_ (State.resetDue_onward _)
  simp

theorem State.abortAll_onward (s : State) (d : Nat) : Onward s (s.abortAll d) := by
  have aborted : (s.abortAll d).lifeView = (s.sec.life, none) :=
    (State.lifeView_foldl (fun (u : State) f => u.complete_lifeView f .aborted d []) s.flights _).trans rfl
  obtain ⟨life, free⟩ := Prod.mk.inj aborted
  exact .of_free life free

theorem State.railsShed_onward (s : State) : Onward s s.railsShed := by
  unfold State.railsShed
  exact s.flush_onward.then_view (by simp)

theorem State.goDown_onward (s : State) (vbatOk flushed : Bool) : Onward s (s.goDown vbatOk flushed) := .of_free rfl rfl

theorem State.holdupEnd_onward (s : State) (vbatOk : Bool) : Onward s (s.holdupEnd vbatOk) := by
  unfold State.holdupEnd
  dsimp only
  refine Onward.trans (u := (if s.pwr.holdup = .running then s.railsShed else s)) (.ite s.railsShed_onward (.refl s)) ?_
  exact .after_view (State.dispSettle_lifeView _) (.ite (State.restart_onward _ _ _ _) (State.goDown_onward _ _ _))

theorem State.holdupBroken_onward (s : State) : Onward s s.holdupBroken := by
  have cut : (s.nvm.running.toList.foldl State.suspendFlash s.cutFlash).lifeView = s.lifeView :=
    (State.lifeView_foldl State.suspendFlash_lifeView _ _).trans s.cutFlash_lifeView
  unfold State.holdupBroken
  dsimp only
  refine Onward.trans (u := if decide (s.pwr.holdup ≠ .running) = true then s
    else s.nvm.running.toList.foldl State.suspendFlash s.cutFlash) (.ite (.refl s) (.of_view cut)) ?_
  exact .ite (State.restart_onward _ _ _ _) (State.goDown_onward _ _ _)

/-! ## The test port (R434 to R442) -/

theorem State.tapSelect_onward {s : State} {i : TapInstr} {go : State → State} (h : ∀ u, Onward u (go u)) :
    Onward s (s.tapSelect i go) :=
  .ite (.refl s) (.ite s.debugReset_onward (.after_view rfl (h _)))

theorem State.tagged_onward {s : State} {m : Session → List Byte} {mac : Nat} {go : Session → State → State}
    (h : ∀ x u, Onward u (go x u)) : Onward s (s.tagged m mac go) := by
  unfold State.tagged
  split
  · exact .refl s
  · exact .ite (.after_view rfl (h _ _)) (.ite (s.closeSession_onward 4) (.of_view rfl))

theorem State.access_onward {s : State} {op addr data mac : Nat} {go : Session → State → State} (h : ∀ x u, Onward u (go x u)) :
    Onward s (s.access op addr data mac go) :=
  State.tapSelect_onward fun _ => State.tagged_onward fun _ _ => .after_view rfl (h _ _)

theorem State.control_onward (s : State) (c : DbgCtl) : Onward s (s.control c) := by
  cases c with
  | halt k => exact .ite (.of_view rfl) (.of_view rfl)
  | step k => exact .refl s
  | resume k => exact .of_view rfl
  | reset => exact s.debugReset_onward
  | provision cert => exact .ite (.of_view (State.nvmRequest_lifeView _ _ _ _)) (.refl s)

theorem State.accessWrite_onward (s : State) (x : Session) (addr word : Nat) (c : DbgCtl) : Onward s (s.accessWrite x addr word c) :=
  .ite (.refl s) (.ite (.of_view rfl) (.ite (s.control_onward c) (.refl s)))

theorem State.tapBypass_onward (s : State) : Onward s s.tapBypass := State.tapSelect_onward fun _ => .of_view rfl

theorem State.sessionTime_onward (s : State) : Onward s s.sessionTime := by
  unfold State.sessionTime
  split
  · exact .ite (s.closeSession_onward 2) (.ite (s.closeSession_onward 3) (.refl s))
  · exact .refl s

end Sys2Proof.Machine
end

section
/-!
PROOFS. Every command moves the lifecycle onwards only (R424).
-/

namespace Sys2Proof.Machine

open Sys2Proof Sys2Proof.Laws

/-! ## The tick -/

theorem State.busTick_lifeView (s : State) : (s.modSec SecSt.busTick).lifeView = s.lifeView := rfl

theorem State.tickBegin_lifeView (s : State) (pub : Bool) (x : TickIn) : (s.tickBegin pub x).lifeView = s.lifeView := by
  unfold State.tickBegin
  simp [State.busTick_lifeView]

theorem State.frameTick_onward (s : State) (x : TickIn) : Onward s (s.frameTick x) := by
  unfold State.frameTick
  dsimp only
  refine .ite (.after_view (s.advance_lifeView s.frame.nextTick) (.ite (State.flushReset_onward _ 6 0) ?_)) (.refl s)
  refine Onward.after_view (u := if (s.advance s.frame.nextTick).frameHalted && (s.advance s.frame.nextTick).published then
    (s.advance s.frame.nextTick).slipFrame else s.advance s.frame.nextTick) (by simp) ?_
  exact .after_view (State.tickEnd_lifeView _ _) (.ite (State.enterStandby_onward _) (.of_view (State.tickBegin_lifeView _ _ _)))

/-! ## The rows -/

theorem Onward.at_ {s u : State} (t : Nat) (h : Onward (s.advance t) u) : Onward s u := .after_view (s.advance_lifeView t) h

theorem State.powerFail_onward (s : State) (mv : Nat) : Onward s (s.powerFail mv) := by
  have failed : (s.failed mv).holdRel.lifeView = s.lifeView := by
    unfold State.failed
    simp
  have settled (u : State) : u.unitsSafe.linesDown.lifeView = u.lifeView := by
    unfold State.linesDown State.unitsSafe
    simp
  rw [State.powerFail_eq]
  exact (Onward.after_view failed (State.abortAll_onward _ 2)).then_view (settled _)

/-- Every command but `SEC_FIELD` and `SEC_RETURN` keeps the lifecycle, or completes provisioning. -/
theorem exec_guardUnit_onward (i : Instr) (s : State) (plain : ∀ t tag, i ≠ .secField t tag ∧ i ≠ .secReturn t tag) :
    ∃ u, exec i s = guardUnit i.wf u ∧ Onward s u := by
  cases i
  case secField t tag => exact absurd rfl (plain t tag).1
  case secReturn t tag => exact absurd rfl (plain t tag).2
  case waveformStart | waveformEnd | blinkToggle => exact ⟨_, ite_noSuchUnit_eq_guardUnit _, .of_view (by simp)⟩
  all_goals refine ⟨_, rfl, ?_⟩
  case hostRegWrite t _ _ => exact .at_ t (.ite (writeBytes_onward _ _ _ _) (.refl _))
  case doorbell t _ => exact .at_ t (.ite (State.doorbell_onward _ _) (.refl _))
  case frameTick => exact s.frameTick_onward _
  case sysReset =>
    refine State.withCur_onward fun f u => .ite (.of_view (by simp)) ?_
    exact .after_view (State.ok_lifeView _ _ _) (State.commandedReset_onward _)
  case commitChurn e =>
    refine .at_ e.t (State.nvmIf_onward fun u => ?_)
    split
    · exact .ite (.after_view u.commitFailed_lifeView (State.flushReset_onward _ _ _)) (.of_view u.commitFailed_lifeView)
    · exact u.nvmEnd_onward
  case calibrationChurn t | logClearSegment t | logChurnComplete t => exact .at_ t (State.nvmIf_onward State.nvmEnd_onward)
  case nvmOperationComplete t => exact .at_ t (State.nvmEnd_onward _)
  case returnErasure t e =>
    have measured : (if (s.advance t).frame.running then s.advance t
        else { s.advance t with pwr := { (s.advance t).pwr with euUj := e } }).lifeView = (s.advance t).lifeView :=
      State.lifeView_if rfl rfl
    refine .at_ t (.ite (.refl _) ?_)
    split
    · exact .after_view measured (.ite (State.nvmEnd_onward _) (.refl _))
    · exact .of_view ((State.nvmStart_lifeView _).trans measured)
  case standbyEntry e =>
    exact .at_ e.t (.ite (.after_view (State.tickEnd_lifeView _ _) (State.enterStandby_onward _)) (.refl _))
  case secDebugEnd =>
    exact State.withCur_onward fun f u => .after_view (State.ok_lifeView _ _ _) (State.closeSession_onward _ 1)
  case transmitSuccess t _ _ => exact .at_ t (.after_view (State.txSuccess_lifeView _ _ _ _) (State.resetDue_onward _))
  case idClash t _ _ => exact .at_ t (.after_view (State.idClash_lifeView _ _ _) (State.resetDue_onward _))
  case culvertReq t _ _ _ _ _ | culvertRsp t _ _ _ _ _ => exact .at_ t (State.rxProto_onward _ _ fun f u => u.rxSegment_onward f _)
  case powerFail t mv => exact .at_ t (.ite (.refl _) (.ite (State.powerFail_onward _ mv) (.ite (.of_view rfl) (.refl _))))
  case coreRailsShed t => exact .at_ t (.ite (State.railsShed_onward _) (.refl _))
  case holdupComplete t _ => exact .at_ t (.ite (State.holdupEnd_onward _ _) (.refl _))
  case brownOut t => exact .at_ t (.ite (State.holdupBroken_onward _) (State.whenRunning_onward fun u => u.coldReset_onward 3))
  case pumpShutdown t | pumpDischargeEnd t =>
    refine .at_ t (Onward.then_view ?_ (State.driveLands_lifeView _))
    exact .ite (.of_view rfl) (State.dispIdle_onward _)
  case idcode t => exact .at_ t (State.tapSelect_onward fun u => .of_view rfl)
  case samplePreload t _ _ | extest t _ _ =>
    exact .at_ t (.ite (State.tapSelect_onward fun u => .of_view rfl) (State.tapBypass_onward _))
  case bypass t => exact .at_ t (State.tapBypass_onward _)
  case hello t => exact .at_ t (State.tapSelect_onward fun u => .of_view u.hello_lifeView)
  case auth t _ _ _ =>
    refine .at_ t (State.tapSelect_onward fun u => .of_view ?_)
    split <;> simp
  case mailboxCulvert t _ _ _ =>
    exact .at_ t (State.tapSelect_onward fun _ => State.tagged_onward fun _ u => .ite (.refl u) (u.submit_onward _))
  case mboxEnd t _ => exact .at_ t (State.tapSelect_onward fun _ => State.tagged_onward fun _ u => u.closeSession_onward 1)
  case dbgAccessRead t ad _ => exact .at_ t (State.access_onward fun x u => .of_view (u.accessRead_lifeView x ad))
  case dbgAccessWrite t ad w k _ => exact .at_ t (State.access_onward fun x u => u.accessWrite_onward x ad w k)
  case dbgAccessStatus t _ _ => exact .at_ t (State.access_onward fun x u => .of_view rfl)
  case secSessionEnd t => exact .at_ t (State.sessionTime_onward _)
  case resetN t =>
    exact .at_ t (.ite (.refl _) (.after_view rfl (State.whenRunning_onward fun u => u.flushReset_onward 2 0)))
  case internalWatchdog t => exact .at_ t (State.whenRunning_onward fun u => u.flushReset_onward 4 0)
  case lockstepMismatch t => exact .at_ t (State.whenRunning_onward fun u => u.flushReset_onward 5 0)
  case clockLoss t => exact .at_ t (State.whenRunning_onward State.clockLost_onward)
  case vshipOn t _ => exact .at_ t (.ite (.of_free rfl rfl) (.of_view rfl))
  case cfgStore | fwBegin | fwWrite | fwFinish | fwAccept | logRead | chanCalRead =>
    exact State.withCur_onward fun f u => .of_view (by simp)
  case secAttest => exact State.withCur_onward fun f u => .of_view (State.ok_lifeView _ _ _)
  case cfgRead | chanFskXfer | secOwnerKey | secDebugConfirm =>
    refine State.withCur_onward fun f u => .of_view ?_
    repeat' split
    all_goals simp
  case fwInfo | fwActivate =>
    refine State.withCur_onward fun f u => .of_view (State.fwReq_lifeView _ _ _ fun v => ?_)
    repeat' split
    all_goals simp
  case chanCurveLoad | chanCurveStore | chanFskBurst | dispUpdate =>
    refine State.withCur_onward fun f u => .of_view ?_
    dsimp only
    repeat' split
    all_goals simp
  case dryRun =>
    split
    · exact .ite (State.withCur_onward fun f u => .of_view (by simp)) (.of_view (by simp))
    · exact .of_view (by simp)
  case crystalReturn | vioLoss | vioReturn => exact .of_view rfl
  case selfTest t => exact .at_ t (.ite (.of_view ((State.eraseBegin_lifeView _).trans rfl)) (.refl _))
  case freshnessTimeout =>
    refine .of_view ?_
    dsimp only
    repeat' split
    all_goals simp
  case commitEnergyMet | draftTimeout | vibCaptureDone | linkUp | vexSenseReturn | fskResponseTimeout | fskRetry |
      fwAccepted | standbyDwell | holdAbsent | dispPumpFault | fullPendingLapse | resetNRelease |
      vbatBelowRetention =>
    refine .of_view ?_
    repeat' split
    all_goals simp
  all_goals simp [State.withCur_onward, Onward.of_view]

/-! ## `SEC_FIELD` and `SEC_RETURN` (R424) -/

/-- The lifecycle stays as it is, or moves onwards by one of the steps of Table 16.2. -/
def LifeMoves (s u : State) : Prop :=
  u.sec.life = s.sec.life ∨ u.sec.life = .returned ∨ (s.sec.life = .blank ∧ u.sec.life = .provisioned) ∨
    (s.sec.life = .provisioned ∧ u.sec.life = .fielded)

theorem Onward.moves {s u : State} (h : Onward s u) : LifeMoves s u := by
  obtain ⟨kept | made, -⟩ := h
  · exact .inl kept
  · exact .inr (.inr (.inl made))

/-- Beyond BLANK it stays. -/
theorem Onward.life {s u : State} (h : Onward s u) (made : s.sec.life ≠ .blank) : u.sec.life = s.sec.life := by
  obtain ⟨kept | ⟨blank, -⟩, -⟩ := h
  · exact kept
  · exact absurd blank made

theorem LifeOk.of_free {s : State} (free : s.host.cur = none) : LifeOk s := fun _ runs => absurd (free.symm.trans runs) nofun

/-- An opcode row lets time run on only, or its operation runs on the request that executes. -/
theorem State.withCur_cases (s : State) (t tag op : Nat) (g : Flight → State → State) : s.withCur t tag op g = s.advance t ∨
    ∃ f, Executes s tag op f ∧ s.withCur t tag op g = (g f (s.acting t)).takeNext := by
  by_cases runs : ∃ f, Executes s tag op f
  · obtain ⟨f, he⟩ := runs
    exact .inr ⟨f, he, State.withCur_executes he⟩
  · refine .inl ?_
    unfold State.withCur
    dsimp only
    split
    · rfl
    · next f cur => exact if_neg fun same => runs ⟨f, cur, same.1, same.2⟩

/-- Nothing executes while an operation acts, so what comes onwards of it is fit for the next request. -/
theorem State.takeNext_lifeOk {s u : State} (free : s.host.cur = none) (h : Onward s u) :
    LifeOk u.takeNext ∧ (s.sec.life ≠ .blank → u.takeNext.sec.life = s.sec.life) :=
  ⟨u.takeNext_onward.2 (h.2 (.of_free free)), fun made => (h.trans u.takeNext_onward).life made⟩

theorem State.toReturned_onward (s : State) : Onward (s.setLife .returned) s.toReturned := by
  unfold State.toReturned
  dsimp only
  refine Onward.then_view ?_ (State.eraseBegin_lifeView _)
  exact (Onward.after_view (State.endSession_lifeView _ 8) (State.abortAll_onward _ 3)).then_view rfl

/-- An admitted `SEC_FIELD` fields a node in PROVISIONED. -/
theorem exec_secField_moves {s u : State} {t tag : Nat} (ok : LifeOk s) (next : exec (.secField t tag) s = .next u) :
    LifeOk u ∧ LifeMoves s u := by
  obtain rfl := Host.Outcome.next.inj next
  obtain idle | ⟨f, ⟨cur, -, op⟩, runs⟩ := s.withCur_cases t tag 0x0C06 (fun f s =>
    if u32At f.req 20 ≠ 0x4649454C then s.refuse f (.badField, 20, [])
    else if (s.sec.ownerKey 0).isNone then s.refuse f notPermitted2
    else (((s.modSec (fun x => { x with requireOwner := x.requireOwner || tst (byteAt f.req 16) 0 })).setLife .fielded).ok f []).closeSession 8)
  · rw [idle]
    exact ⟨(Onward.of_view (s.advance_lifeView t)).2 ok, .inl rfl⟩
  · have admitted : s.sec.life = .provisioned := ok f cur op
    have refused (r : Refused) : LifeOk ((s.acting t).refuse f r).takeNext ∧ LifeMoves s ((s.acting t).refuse f r).takeNext := by
      obtain ⟨fit, life⟩ := State.takeNext_lifeOk (s := s.acting t) rfl (.of_view (State.refuse_lifeView _ f r))
      exact ⟨fit, .inl (life (by rw [show (s.acting t).sec.life = .provisioned from admitted]; decide))⟩
    rw [runs]
    split
    · exact refused _
    · split
      · exact refused _
      · let w := (((s.acting t).modSec (fun x => { x with requireOwner := x.requireOwner || tst (byteAt f.req 16) 0 })).setLife .fielded).ok f []
        have view : w.lifeView = (.fielded, none) := (State.ok_lifeView _ f []).trans rfl
        obtain ⟨fielded, free⟩ := Prod.mk.inj view
        obtain ⟨fit, life⟩ := State.takeNext_lifeOk free (w.closeSession_onward 8)
        exact ⟨fit, .inr (.inr (.inr ⟨admitted, (life (by rw [fielded]; decide)).trans fielded⟩))⟩

/-- `SEC_RETURN` ends in RETURNED. -/
theorem exec_secReturn_moves {s u : State} {t tag : Nat} (ok : LifeOk s) (next : exec (.secReturn t tag) s = .next u) :
    LifeOk u ∧ LifeMoves s u := by
  obtain rfl := Host.Outcome.next.inj next
  obtain idle | ⟨f, -, runs⟩ := s.withCur_cases t tag 0x0C07 (fun f s =>
    if !s.sec.ownerSigned (byteAt f.req 16) (uniqueBytes ++ le32 0x52555445) (sigAt f 4) then s.refuse f notPermitted2
    else (s.ok f []).toReturned)
  · rw [idle]
    exact ⟨(Onward.of_view (s.advance_lifeView t)).2 ok, .inl rfl⟩
  · rw [runs]
    split
    · have refused : Onward (s.acting t) ((s.acting t).refuse f notPermitted2) := .of_view (State.refuse_lifeView _ f _)
      exact ⟨(State.takeNext_lifeOk rfl refused).1, (refused.trans (State.takeNext_onward _)).moves⟩
    · let w := ((s.acting t).ok f []).setLife .returned
      have view : ((s.acting t).ok f []).lifeView = (s.sec.life, none) := State.ok_lifeView _ f []
      have free : w.host.cur = none := congrArg Prod.snd view
      obtain ⟨fit, life⟩ := State.takeNext_lifeOk free ((s.acting t).ok f []).toReturned_onward
      exact ⟨fit, .inr (.inl (life (show Lifecycle.returned ≠ .blank by decide)))⟩

/-! ## The statement -/

theorem exec_moves {i : Instr} {s u : State} (ok : LifeOk s) (next : exec i s = .next u) : LifeOk u ∧ LifeMoves s u := by
  by_cases plain : ∀ t tag, i ≠ .secField t tag ∧ i ≠ .secReturn t tag
  · obtain ⟨v, row, onward⟩ := exec_guardUnit_onward i s plain
    rw [row, guardUnit] at next
    split at next
    · obtain rfl := Host.Outcome.next.inj next
      exact ⟨onward.2 ok, onward.moves⟩
    · cases next
  · simp only [not_forall, not_and_or, not_not] at plain
    obtain ⟨t, tag, rfl | rfl⟩ := plain
    · exact exec_secField_moves ok next
    · exact exec_secReturn_moves ok next

/-- Settles O5: every command but two keeps the lifecycle, or completes provisioning; `SEC_FIELD` acts on a request admitted in
PROVISIONED, and `SEC_RETURN` ends in RETURNED. -/
theorem lifecycleNeverGoesBack : Obligations.LifecycleNeverGoesBack := by
  intro s u ok next
  unfold step at next
  split at next
  · obtain rfl := Host.Outcome.next.inj next
    exact ⟨ok, .inl rfl⟩
  · next i r _ => exact exec_moves (s := { s with pending := r }) ok next

end Sys2Proof.Machine
end
